-- ==== Sys2Proof/Word.lean ====
section
/-! DEFINITION. Word types of the CN4816 (R5 to R9) and their plainest arithmetic: bytes, little-endian words,
bit fields of a 64-bit register, serial-number arithmetic. -/

namespace Sys2Proof

/-- One byte. -/
abbrev Byte := BitVec 8
/-- A register value (R9), an identifier or an address field. -/
abbrev U64 := BitVec 64
/-- A 32-bit stamp, count or FP32 pattern. -/
abbrev U32 := BitVec 32
/-- A 16-bit field. -/
abbrev U16 := BitVec 16
/-- A 128-bit hash (R208). -/
abbrev U128 := BitVec 128
/-- A byte string, lowest address first. -/
abbrev Bytes := List Byte

/-- The low 32 bits of a number. -/
def u32 (n : Nat) : U32 := BitVec.ofNat 32 n

/-- The low 64 bits of a number. -/
def u64 (n : Nat) : U64 := BitVec.ofNat 64 n

/-- Serial-number difference (i32)(a - b) as an integer (R133, R181, R527). -/
def serialDiff (a b : U32) : Int := (a - b).toInt

/-- Bits [hi:lo] of a number, as a number (R5). -/
def bits (n hi lo : Nat) : Nat := n / 2 ^ lo % 2 ^ (hi + 1 - lo)

/-- Bit i of a number. -/
def bitOf (n i : Nat) : Bool := n / 2 ^ i % 2 == 1

/-- Division rounded up; the divisor 0 gives 0. -/
def ceilDiv (a b : Nat) : Nat := if b == 0 then 0 else (a + b - 1) / b

/-- A Boolean as one bit. -/
def bit1 (b : Bool) : Nat := if b then 1 else 0

end Sys2Proof
end

