-- ==== Sys2Proof/Types.lean ====
section
/-! DEFINITION. The shapes of the data that the commands carry and that the device sends: model shapes, service
messages (R547), Weft packets (R515), line packets (R554), frames (R583), signed messages (R650), targets found at
bring-up (R324), and the device's outputs. -/

namespace Sys2Proof

/-- Service class of an operation (R71): class B or class G. -/
inductive Cls where
  | b
  | g
deriving DecidableEq, Repr, Inhabited

/-- Data read from host memory; none when the read ended with UR, CA, poison or timeout (R630). -/
abbrev HostData := Option Bytes

/-- A model's shape as the skein header holds it (R24). -/
structure Shape where
  layers : Nat := 0
  kvHeads : Nat := 0
  qHeads : Nat := 0
  fmt : Nat := 0
  headDim : Nat := 0
deriving DecidableEq, Repr, Inhabited

/-- A stored block: its index entry (R374) and its stored bytes. -/
structure StoredBlock where
  entry : Nat
  data : Bytes
deriving DecidableEq, Repr, Inhabited

/-- One page of one layer on its way between devices: stored blocks, or raw bytes for an appended page (R53). Between devices the stored
blocks travel as packed groups: `section_` of a shipment's first page of each layer holds those of the layer (R243). -/
structure PagePart where
  layer : Nat
  page : Nat
  tokens : Nat
  blocks : List StoredBlock := []
  raw : Bytes := []
  summary : Bytes := []
  masks : List U64 := []
  hash : Option U128 := none
  section_ : Bytes := []
  badBase : Bool := false
deriving DecidableEq, Repr, Inhabited

/-- SKEIN_OPEN (R30, R231): what the OPEN gives the home. -/
structure SkeinOpenMsg where
  req : U64
  owner : Nat
  model : Nat
  shape : Shape
  thinOk : Bool
  retain : Bool
  maskSets : Nat
  windowPages : Nat
  genDevice : Nat
  tokenCount : Nat
  maxTokens : Nat
deriving DecidableEq, Repr, Inhabited

/-- The first 128 bytes of a request table entry (R146), less the state nibble's own life. -/
structure ReqCore where
  requestId : U64 := 0
  skeinId : U64 := 0
  owner : Nat := 0
  cplRing : Nat := 0
  tokenRing : Nat := 0
  home : Nat := 0
  genDevice : Nat := 0
  opened : Nat := 0
  ageAtOpen : Nat := 0
  lastStep : U32 := 0
  generated : Nat := 0
  maxTokens : Nat := 0
  stopSet : Nat := 0xFFFF
  ttftUs : Nat := 0
  tbtUs : Nat := 0
  lastToken : Nat := 0
  tag : U32 := 0
  kPages : Nat := 0
  kCap : Nat := 0
  epsilon : U32 := 0
  biasTable : Nat := 0
  windowPages : Nat := 0
deriving DecidableEq, Repr, Inhabited

/-- HANDOFF (R46, R147, R210). The shape, model, mask sets, prefix count and the prompt's token count travel with it, since
the generation device needs them for R212, R276, R414 and R468. -/
structure HandoffMsg where
  core : ReqCore
  firstToken : U32
  age : Nat
  windowFirst : Nat
  windowLast : Nat
  hashCarry : U128
  tail : List U32
  shape : Shape
  model : Nat
  maskSets : Nat
  prefixPages : Nat
  tokenCount : Nat
  seq : U32
  lane : Nat
deriving DecidableEq, Repr, Inhabited

/-- FAR_JOB body (R400). `reserved`: some reserved bit of the body is not zero. -/
structure FarJobMsg where
  req : U64
  skein : U64
  step : Nat
  layer : Nat
  biasTable : Nat
  kPages : Nat
  splitPage : Nat
  kCap : Nat
  epsilon : U32
  ret : U64
  query : List U16
  reserved : Bool := false
deriving DecidableEq, Repr, Inhabited

/-- The service messages of R547 as the device composes them. -/
inductive Svc where
  | skeinOpen (m : SkeinOpenMsg)
  | skeinOpenReply (req : U64) (status : Nat) (skein : U64)
  | lookup (req skein : U64) (chain : List U128)
  | lookupReply (req : U64) (status pages : Nat)
  | place (req skein : U64) (appended : Bool) (pages : List PagePart)
  | seal (req skein : U64)
  | abort (req skein : U64)
  | release (req skein : U64)
  | stateReply (req : U64) (kind status : Nat)
  | handoff (m : HandoffMsg)
  | handoffReply (req : U64) (status : Nat)
  | window (req : U64) (pages : List PagePart) (last : Bool)
  | farJob (m : FarJobMsg) (cls : Cls) (budget : Nat)
  | cancel (req : U64)
  | sealed (req skein : U64) (splitPage : Nat)
  | prefixFetch (req skein : U64)
  | prefixPages (req : U64) (pages : List PagePart)
  | reqAbort (req skein : U64) (cause : Nat)
deriving DecidableEq, Repr, Inhabited

/-- SVC code of a service message (R547). Prefix pages return as READ data of the fetch. -/
def Svc.kind : Svc → Nat
  | .skeinOpen _ => 0x01
  | .skeinOpenReply .. => 0x02
  | .lookup .. => 0x03
  | .lookupReply .. => 0x04
  | .place .. => 0x05
  | .seal .. => 0x06
  | .abort .. => 0x07
  | .release .. => 0x08
  | .stateReply .. => 0x09
  | .handoff _ => 0x0A
  | .handoffReply .. => 0x0B
  | .window .. => 0x0C
  | .farJob .. => 0x0D
  | .cancel _ => 0x0E
  | .sealed .. => 0x0F
  | .prefixFetch .. => 0x10
  | .prefixPages .. => 0x10
  | .reqAbort .. => 0x11

/-- The pages that a service message ships. -/
def Svc.parts : Svc → List PagePart
  | .place _ _ _ ps => ps
  | .window _ ps _ => ps
  | .prefixPages _ ps => ps
  | _ => []

/-- A page part without its data: which page it is. -/
def PagePart.label (p : PagePart) : PagePart := { layer := p.layer, page := p.page, tokens := p.tokens }

/-- Change the pages that a service message ships. -/
def Svc.mapParts (f : List PagePart → List PagePart) : Svc → Svc
  | .place r k a ps => .place r k a (f ps)
  | .window r ps l => .window r (f ps) l
  | .prefixPages r ps => .prefixPages r (f ps)
  | m => m

/-- The message with its pages named only: their data stays where it lies (R28). -/
def Svc.named (m : Svc) : Svc := m.mapParts (List.map PagePart.label)

/-- The request that a service message names (R547). -/
def Svc.request : Svc → U64
  | .skeinOpen m => m.req
  | .skeinOpenReply r _ _ => r
  | .lookup r _ _ => r
  | .lookupReply r _ _ => r
  | .place r _ _ _ => r
  | .seal r _ => r
  | .abort r _ => r
  | .release r _ => r
  | .stateReply r _ _ => r
  | .handoff m => m.core.requestId
  | .handoffReply r _ => r
  | .window r _ _ => r
  | .farJob m _ _ => m.req
  | .cancel r => r
  | .sealed r _ _ => r
  | .prefixFetch r _ => r
  | .prefixPages r _ => r
  | .reqAbort r _ _ => r

/-- A place in the service order of a resource (R83, R84): for class G the stage deadline, for class B the deadline less the nominal
remaining cost, if there is one; then the arrival stamp and the order of admission. -/
structure Place where
  due : Option Int := none
  arrival : Nat := 0
  adm : Nat := 0
deriving DecidableEq, Repr, Inhabited

/-- The Weft header (R515); `rsvd`: some reserved bit is set. -/
structure WeftHdr where
  ver : Nat := 1
  op : Nat
  sa : Nat := 0
  pn : Nat := 0
  cls : Cls := .b
  immValid : Bool := false
  poison : Bool := false
  retx : Bool := false
  rsvd : Bool := false
  conn : Nat := 0
  path : Nat := 0
  epoch : BitVec 8 := 0
  msn : U32 := 0
  mlen : Nat := 0
  offset : Nat := 0
  budget : Nat := 0
  ts : U32 := 0
  rkey : Nat := 0
  raddr : Nat := 0
  imm : U64 := 0
  svc : Nat := 0
deriving DecidableEq, Repr, Inhabited

/-- A received Weft packet: arrival port, IPv6 source, header, decrypted payload, whether its tag verifies. -/
structure Pkt where
  port : Nat
  srcIp : U128
  hdr : WeftHdr
  payload : Bytes
  tagOk : Bool
deriving DecidableEq, Repr, Inhabited

/-- The line header (R554); `rsvd`: some reserved bit is set. -/
structure LineHdr where
  ver : Nat := 1
  op : Nat
  sa : Nat := 0
  pn : Nat := 0
  poison : Bool := false
  resend : Bool := false
  rsvd : Bool := false
  conn : Nat := 0
  tag : U32 := 0
  rkey : Nat := 0
  raddr : Nat := 0
  status : Nat := 0
deriving DecidableEq, Repr, Inhabited

/-- A received line packet. -/
structure LinePkt where
  srcIp : U128
  hdr : LineHdr
  payload : Bytes
  tagOk : Bool
deriving DecidableEq, Repr, Inhabited

/-- What a received Ethernet frame carries, as the filter of R583 sees it. -/
inductive FrameKind where
  | weft
  | line
  | selvedge
  | neighborSolicitation
  | pfc
  | pause
  | other
deriving DecidableEq, Repr, Inhabited

/-- A received frame (R583, R590, R599, R613). `bytes` excludes preamble and gap; `fecCorrected`
counts the codewords that the FEC corrected. -/
structure Frame where
  kind : FrameKind
  toMac : Bool
  toIp : Bool
  vlan : Bool
  extHdr : Bool
  fcsOk : Bool
  fecOk : Bool
  fecCorrected : Nat := 0
  fseq : Nat
  bytes : Nat
  tc : Nat
  vc : Nat
  yellow : Bool
deriving DecidableEq, Repr, Inhabited

/-- Symbols in error of an 80-byte stack codeword (R295): position and error value. -/
abbrev SymbolErrors := List (Nat × Byte)

/-- What a NAND target's parameter page reports (R324). -/
structure TargetPage where
  dataBytes : Nat
  spare : Nat
  suspend : Bool
  suspendUs : Nat
  retryLevels : Nat
  luns : Nat
  blocks : Nat
  pages : Nat
deriving DecidableEq, Repr, Inhabited

/-- What the scan of a block finds (R354). -/
inductive BlockScan where
  | factoryBad
  | header (erases : Nat) (retired : Bool)
  | other
deriving DecidableEq, Repr, Inhabited

/-- One target as the channel scan finds it. Blocks stand LUN by LUN. -/
structure TargetScan where
  target : Nat
  page : TargetPage
  scan : List BlockScan
deriving DecidableEq, Repr, Inhabited

/-- Physical location of a block: channel, target, LUN, block. -/
structure BlockLoc where
  ch : Nat
  tgt : Nat
  lun : Nat
  blk : Nat
deriving DecidableEq, Repr, Inhabited

/-- Header and signatures of a signed message (R650). `formOk`: KIND defined, reserved bits zero, length agrees;
`sigs`: each signer's key index, and whether the Ed448 signature verifies under that key. -/
structure SigHdr where
  formOk : Bool
  session : U128
  seq : Nat
  target : Bytes
  sigs : List (Nat × Bool)
deriving DecidableEq, Repr, Inhabited

/-- Body of SA_OPEN (R662). -/
structure SaOpenBody where
  localSa : Nat
  initiator : Bool
  peerFleet : Nat
  handshake : U32
  peerId : Bytes
deriving DecidableEq, Repr, Inhabited

/-- Outcomes of the module's self-tests (R672). -/
structure SelfTests where
  castOk : Bool
  entropyOk : Bool
deriving DecidableEq, Repr, Inhabited

/-- Bodies of the signed messages (R652). -/
inductive SignedBody where
  | gateSwitch (port list at_ : Nat)
  | fence (tiles : List Nat)
  | unfence (tiles : List Nat)
  | stackRetire (stack : Nat)
  | saOpen (b : SaOpenBody)
  | saClose (sa : Nat)
  | zeroize
  | selfTest (t : SelfTests)
  | takeover (mode fleet : Nat)
  | custodyEnter
  | readmit
  | imageSwitch (slot version : Nat)
deriving DecidableEq, Repr, Inhabited

/-- An SA handshake message (R663): which one, and whether the receiver's checks of it hold (chain to the Ruwick
root, PEER_ID, allowed measurements, transcript signature). -/
structure SaMsg where
  localSa : Nat
  handshake : U32
  checksOk : Bool
deriving DecidableEq, Repr, Inhabited

/-- Selvedge mirror records (R696). -/
structure MirrorRec where
  kind : Nat
  owner : Nat
  addr : Nat
  data : Bytes
deriving DecidableEq, Repr, Inhabited

/-- A change of PCIe function controls by a configuration write (R624, R628, R629, R632, R638, R639, R660). -/
inductive CfgWrite where
  | maxPayload (is256 : Bool)
  | maxReadRequest (bytes : Nat)
  | completionTimeout (us : Nat)
  | busMaster (fn : Nat) (on : Bool)
  | memSpace (fn : Nat) (on : Bool)
  | vfEnable (count : Nat)
  | relaxedOrdering (fn : Nat) (on : Bool)
  | msixEnable (fn : Nat) (on : Bool)
  | msixMask (fn : Nat)
  | barWrite (fn : Nat)
deriving DecidableEq, Repr, Inhabited

/-- Why a TDISP interface enters ERROR (R660). -/
inductive TdispCause where
  | barChange
  | functionReset
  | ideLost
  | noTBit
  | zeroized
deriving DecidableEq, Repr, Inhabited

/-- DOE data object (R626). -/
structure DoeObject where
  vendorPciSig : Bool
  type : Nat
  length : Nat
deriving DecidableEq, Repr, Inhabited

/-- A command for a fabric run (R487): job identifier, command kind (0 summarize, 1 thin, 2 score, 3 partial attention,
4 merge, 5 shadow check), class, its place in its class (class G: stage deadline; class B: local deadline less nominal
remaining cost, 0 for none), and bytes of live region that it holds when it is displaced. -/
structure RunCmdMsg where
  id : Nat
  kind : Nat
  cls : Cls
  deadline : Nat
  live : Nat := 0
deriving DecidableEq, Repr, Inhabited

/-- Payload of an outgoing message: bytes, or a service message whose body stands as composed. -/
inductive Payload where
  | bytes (b : Bytes)
  | poisoned (len : Nat)
  | svc (m : Svc)
  | none
deriving DecidableEq, Repr, Inhabited

/-- What answers a far job at the generation device: the partial, or the home's refusal with its bound (R87). -/
inductive FarAnswer where
  | partial_ (bytes : Bytes)
  | refused (status bound : Nat)
deriving DecidableEq, Repr, Inhabited

/-- A stack line found in error by a read: SAS frame, line, symbols (R296 to R298). -/
structure LineErr where
  frame : Nat
  line : Nat
  errs : SymbolErrors
deriving DecidableEq, Repr, Inhabited

/-- What an event names or brings, with the stack lines that its reads find in error (R296 to R298). -/
abbrev WithErrs (α : Type) := α × List LineErr

/-- The number that a command at WEFT_CMD names, and the block that it reads at WEFT_CMD_ADDR, if that read gives one (R523). -/
abbrev CmdArg := Nat × HostData

/-- The pages of a prefix hit as they come back; none for the request itself. -/
abbrev PagesBack := Option (List PagePart)

/-- What a frame carries below its Weft or line header: port, next hop and own MAC (R582), IPv6 source, destination and
Traffic Class (R514, R582, R599), UDP source and destination ports (R513). -/
structure FrameHead where
  port : Nat
  dstMac : Nat
  srcMac : Nat
  srcIp : U128
  dstIp : U128
  tclass : Nat
  sport : Nat
  dport : Nat
deriving DecidableEq, Repr, Inhabited

/-- What the device sends out. The list of outputs is the model's own record of them. -/
inductive Out where
  | hostWrite (owner addr : Nat) (data : Bytes) (ep relaxed tbit : Bool)
  | hostRead (owner addr len : Nat) (tbit : Bool)
  | msix (fn : Nat)
  | packet (head : FrameHead) (hdr : WeftHdr) (payload : Payload)
  | local_ (m : Svc)
  | farEnd (fleet : Nat) (ret : U64) (status bound : Nat)
  | farPartial (fleet : Nat) (ret : U64) (data : Bytes)
  | line (head : FrameHead) (hdr : LineHdr) (payload : Bytes)
  | neighborAdvertisement (port : Nat)
  | pfc (port vc quanta : Nat)
  | linkWord (port : Nat) (word : BitVec 96)
  | selvedge (op sa pn mseq : Nat) (error : Bool) (session : U64) (recs : List MirrorRec)
  | spdm (code : Nat) (fields : List Nat) (body : Bytes)
  | tdisp (code : Nat) (fields : List Nat)
  | doe (error ready : Bool)
  | mctp (cmd inst status : Nat) (live : U32) (snapAt : Nat) (values : List U64)
  | pldm (code : Nat) (fields : List Nat)
  | pldmEvent (sensor state : Nat)
  | sa (step localSa : Nat) (handshake : U32)
  | nandProgram (at_ : BlockLoc) (page : Nat) (unit : Bytes)
  | nandHeader (at_ : BlockLoc) (magic erases : Nat) (retired : Bool)
  | stored (b : StoredBlock)
  | expanded (b : Bytes)
  | signedStatus (status : Nat)
deriving DecidableEq, Repr, Inhabited

end Sys2Proof
end

