-- ==== Sys2Proof/Syntax.lean ====
section
/-! DEFINITION. The commands of the CN4816, one constructor per row of spec/opcode_table.json. A command on a
taken intake record names it by lane and stamp; a physical outcome, or a choice the specification leaves open, is an
operand. -/

namespace Sys2Proof

/-- The commands. Each docstring names the row's rule. -/
inductive Instr where
  /-- R716: PWR_GOOD goes low. -/
  | powerOnReset
  /-- R716: SYS_RESET_N is held low for lowNs. -/
  | systemReset (lowNs : Nat)
  /-- R633: PCIE_PERST_N goes low. -/
  | fundamentalReset
  /-- R717: end of reset: the sampled TAP_EN, whether the NOR part can be read (R719), whether each firmware slot verifies (R724), and the self-tests' outcomes (R672). -/
  | endOfReset (tapEn norReadable fw0Ok fw1Ok : Bool) (tests : SelfTests)
  /-- R732: image load; whether each slot's Ed448 signature verifies. -/
  | imageLoad (sigOk0 sigOk1 : Bool)
  /-- R733: vault sections load; whether the CORES package's own signature verifies. -/
  | vaultSectionsLoad (coresSigOk : Bool)
  /-- R316: training and self-test of a stack end. -/
  | stackTrainingDone (stack : Nat) (pass : Bool)
  /-- R355: training and scan of an ONFI channel end, with what they found. -/
  | channelScanDone (ch : Nat) (trained : Bool) (scans : List TargetScan)
  /-- R509: self-test of a tile group ends, with its failed tiles. -/
  | tileSelfTestDone (group : Nat) (failed : List Nat)
  /-- R69: no reference edge for 200 ns. -/
  | referenceLoss
  /-- R746: a PLL (bit number of CLOCKPWR_STATUS) loses lock. -/
  | pllLockLoss (pll : Nat)
  /-- R746: it locks again. -/
  | pllRelocked (pll : Nat)
  /-- R778: one measurement of the fifteen rails in mV, and the device's power. -/
  | railMeasurement (mv : List Nat) (powerW : Nat)
  /-- R789: die temperatures in 0.25 °C. -/
  | dieTempSample (die0 die1 io : Int)
  /-- R14: a host write to a BAR0 address through a function (64 the PF, o the VF of domain o). -/
  | registerWrite (fn addr size : Nat) (value : U64)
  /-- R135: a 64-bit write of REQ_LANE_RESYNC. -/
  | reqLaneResync (fn : Nat) (value : U64)
  /-- R677: a 64-bit write of SEC_ZEROIZE. -/
  | secZeroize (fn : Nat) (value : U64)
  /-- R524: WEFT_CMD CONN_CREATE, with the parameter block as read. -/
  | connCreate (fn : Nat) (conn : Nat) (blk : HostData)
  /-- R524: WEFT_CMD CONN_MODIFY. -/
  | connModify (fn : Nat) (conn : Nat) (blk : HostData)
  /-- R524: WEFT_CMD CONN_RESET. -/
  | connReset (fn : Nat) (conn : Nat) (blk : HostData)
  /-- R524: WEFT_CMD CONN_DESTROY. -/
  | connDestroy (fn : Nat) (conn : CmdArg)
  /-- R524: every packet of a DESTROYING connection past its checks is placed. -/
  | connDestroyDrained (conn : Nat)
  /-- R549: WEFT_CMD REGION_CREATE. -/
  | regionCreate (fn : Nat) (index : Nat) (blk : HostData)
  /-- R550: WEFT_CMD REGION_REVOKE. -/
  | regionRevoke (fn : Nat) (key : CmdArg)
  /-- R550: the INFLIGHT count of a REVOKING region is zero. -/
  | regionRevokeDrained (index : Nat)
  /-- R565: a write of MSA_LQ_SETUP with LOG2_SLOTS not 0. -/
  | lineQueueSetup (fn : Nat) (value : U64)
  /-- R565: a write of MSA_LQ_SETUP with LOG2_SLOTS 0. -/
  | lineQueueTeardown (fn : Nat) (value : U64)
  /-- R133: the intake engine visits a lane. -/
  | intakeLaneVisit (lane : Nat)
  /-- R137: a taken LANE_SETUP record is carried out. -/
  | laneSetup (lane : Nat) (seq : U32)
  /-- R170: a taken RING_SETUP that defines a ring. -/
  | ringSetup (lane : Nat) (seq : U32)
  /-- R170: a taken RING_SETUP with RKIND 0. -/
  | ringTeardown (lane : Nat) (seq : U32)
  /-- R151: a taken OPEN; the free entry the origin takes (R141 leaves the choice open). -/
  | openReq (lane : Nat) (seq : U32) (slot : Nat)
  /-- R151: a taken PREFILL_DONE, with the prompt's tokens past its last whole block as read from host memory (R210); with the stack lines found in error. -/
  | prefillDone (lane : Nat) (seq : U32) (tail : WithErrs HostData)
  /-- R151: a taken CANCEL. -/
  | cancel (lane : Nat) (seq : U32)
  /-- R181: a taken STEP. -/
  | step (lane : Nat) (seq : U32)
  /-- R51: a taken QUERY, with the query as read; with the stack lines found in error. -/
  | query (lane : Nat) (seq : U32) (data : WithErrs HostData)
  /-- R191: a taken STOP_SET with DELETE 0; with the stack lines found in error. -/
  | stopSetDefine (lane : Nat) (seq : WithErrs U32)
  /-- R190: a taken STOP_SET with DELETE 1. -/
  | stopSetDelete (lane : Nat) (seq : U32)
  /-- R280: a taken TRANSFER COPY_RANGE, with the source as read when it is host memory or a peer. -/
  | copyRange (lane : Nat) (seq : U32) (data : HostData)
  /-- R281: a taken TRANSFER COPY_PAGES. -/
  | copyPages (lane : Nat) (seq : U32)
  /-- R280: a taken TRANSFER PROMOTE. -/
  | promote (lane : Nat) (seq : U32)
  /-- R280: a taken TRANSFER HEADER. -/
  | header (lane : Nat) (seq : U32)
  /-- R286: a taken TRANSFER LOCATE. -/
  | locate (lane : Nat) (seq : U32)
  /-- R545: a taken FLUSH. -/
  | flush (lane : Nat) (seq : U32)
  /-- R545: a taken FLUSH with WAIT_ONLY 1. -/
  | waitOnly (lane : Nat) (seq : U32)
  /-- R572: a taken CHECK with CONTINUE 0. -/
  | check (lane : Nat) (seq : U32)
  /-- R575: a taken CHECK with CONTINUE 1. -/
  | checkContinue (lane : Nat) (seq : U32)
  /-- R576: a check unit's command ends, with its host source as read, or the stack lines found in error in its SAS source. -/
  | checkCommandDone (unit : Nat) (src : HostData) (errs : List LineErr)
  /-- R182: the next accepted STEP of a request commits. -/
  | stepCommit (req : U64)
  /-- R209: a hash engine finishes one 64-token block, with the token ids as read; with the stack lines found in error. -/
  | hashBlockDone (req : U64) (tokens : WithErrs HostData)
  /-- R31: a SKEIN_OPEN arrives; the slot taken and the META range reserved (R31 and R231 leave the choice open). -/
  | skeinOpen (frm : Nat) (m : SkeinOpenMsg) (slot base : Nat)
  /-- R151: a skein-open reply arrives. -/
  | skeinOpenReply (frm : Nat) (req : U64) (status : Nat) (skein : U64)
  /-- R34: no skein-open reply within the timeout. -/
  | skeinOpenTimeout (req : U64)
  /-- R37: a LOOKUP arrives. -/
  | lookup (frm : Nat) (req skein : U64) (chain : List U128)
  /-- R151: a lookup answer arrives; the spans taken for the prefix view (R275 leaves the choice open). -/
  | lookupReply (frm : Nat) (req : U64) (status pages span : Nat)
  /-- R39: a PREFIX_FETCH arrives at the home; or, at the prompt device, the matched pages that it returns; with the stack lines found in error. -/
  | prefixFetch (frm : Nat) (req skein : U64) (pages : WithErrs PagesBack)
  /-- R272: the prompt device takes a landing page; with the stack lines found in error. -/
  | landingPageTaken (req : U64) (layer : Nat) (page : WithErrs Nat)
  /-- R62: a PLACE arrives. -/
  | place (frm : Nat) (req skein : U64) (appended : Bool) (pages : List PagePart)
  /-- R44: a SEAL arrives. -/
  | seal (frm : Nat) (req skein : U64)
  /-- R62: an ABORT arrives. -/
  | abort (frm : Nat) (req skein : U64)
  /-- R62: the placements of an ABORTED skein have drained. -/
  | skeinAbortDrained (slot : Nat)
  /-- R58: a RELEASE arrives. -/
  | release (frm : Nat) (req skein : U64)
  /-- R151: a STATE_REPLY arrives for a seal, abort or release. -/
  | stateReply (frm : Nat) (req : U64) (kind status : Nat)
  /-- R151: no acknowledgement of release or abort within the timeout. -/
  | endingTimeout (req : U64)
  /-- R796: a HANDOFF arrives; the entry taken and the window span reserved (R142 and R276 leave the choice open). -/
  | handoff (frm : Nat) (m : HandoffMsg) (slot span : Nat)
  /-- R152: a HANDOFF_REPLY arrives. -/
  | handoffReply (frm : Nat) (req : U64) (status : Nat)
  /-- R152: no handoff reply within HANDOFF_MS. -/
  | handoffTimeout (req : U64)
  /-- R48: a WINDOW arrives; whether it is its sender's last one. -/
  | window (frm : Nat) (req : U64) (pages : List PagePart) (last : Bool)
  /-- R49: a SEALED report arrives. -/
  | sealed (frm : Nat) (req skein : U64) (splitPage : Nat)
  /-- R157: a forwarded CANCEL arrives. -/
  | svcCancel (frm : Nat) (req : U64)
  /-- R799: a REQ_ABORT arrives. -/
  | reqAbort (frm : Nat) (req skein : U64) (cause : Nat)
  /-- R151: the window's or the skein's shipment flush ends. -/
  | shipmentFlushDone (req : U64) (window ok : Bool)
  /-- R55: the flush of an appended page ends. -/
  | appendFlushDone (req : U64) (ok : Bool)
  /-- R800: a FAR_JOB arrives. -/
  | farJob (frm : Nat) (conn : Nat) (m : FarJobMsg) (cls : Cls) (budget : Nat)
  /-- R100: the quantum boundary of a held admission reply. -/
  | admissionReplyRelease
  /-- R111: the current stage of an operation ends, with the stack lines its reads found in error. -/
  | stageComplete (op : Nat) (found : List LineErr)
  /-- R112: the deadline watch of an operation. -/
  | deadlineWatch (op : Nat)
  /-- R312: the SCAN commands of a far job end, or the heddle of a stack finds a parity error; with the stack lines found in error. -/
  | heddleScan (job : Nat) (parity : WithErrs (Option Nat))
  /-- R313: the WALK command of a far job's round ends, or the heddle of a stack finds a parity error; with the stack lines found in error. -/
  | heddleWalk (job : Nat) (parity : WithErrs (Option Nat))
  /-- R434: the round check of an adaptive far job. -/
  | roundCheck (job : Nat)
  /-- R468: a partial, or the home's refusal of a far job, arrives at the generation device. -/
  | partialReceived (frm : Nat) (handle : U64) (answer : FarAnswer)
  /-- R489: a command is queued on a fabric run. -/
  | runCommandArrival (run : Nat) (cmd : RunCmdMsg)
  /-- R488: the run's command ends: SRAM words corrected, the tile with an uncorrectable word and whether it lay in the program store or spill area, and the fabric cycles waited under causes 0 to 2 and 5. -/
  | runCommandEnd (run corrected : Nat) (bad : Option (Nat × Bool)) (stalls : List Nat)
  /-- R501: a shadow re-execution ends: whether every delivered byte agrees, whether a read or a tile failed, the lowest page whose page bound differs, and the fabric loads at both executions. -/
  | shadowCheckDone (id : Nat) (outputEq failed : Bool) (badBound : Option Nat) (load0 load1 : Nat)
  /-- R505: a run with inputs makes no progress for 20 µs. -/
  | runStallTimeout (run : Nat)
  /-- R506: a run reset ends. -/
  | runResetDone (run : Nat)
  /-- R371: a compressor codes one block. -/
  | blockCompress (fmt : Nat) (bytes : Bytes) (bypass : Bool)
  /-- R376: an expander decodes one stored block; I/O cycles it waited on a full smoothing queue, and cycles its consumer found the queue empty. -/
  | blockExpand (addr : Nat) (fmt : Nat) (thinned : Bool) (b : StoredBlock) (waited empty : Nat)
  /-- R263: a layer walk ends. -/
  | layerWalkDone (skein : U64) (layer : Nat)
  /-- R250: a promoted frame is written to its stack frame. -/
  | framePromotionDone (frame : Nat) (stackFrame : Nat)
  /-- R255: a reclaim decision of the stack tier. -/
  | stackReclaim
  /-- R256: a reclaim decision of the bobbin tier. -/
  | bobbinReclaim
  /-- R251: a demoted page's units are programmed. -/
  | pageDemotionDone (skein : U64) (layer page : Nat)
  /-- R292: the 1 ms die temperature read of the stacks, 0.25 °C. -/
  | stackTempSample (temps : List (List Nat))
  /-- R293: 100 ms below 93 °C on every stack. -/
  | stackHotClear
  /-- R301: a patrol read of a line, with the symbols in error found. -/
  | scrubRead (stack frame line : Nat) (errs : SymbolErrors)
  /-- R316: a stack does not respond within 10 µs. -/
  | stackCommandTimeout (stack : Nat)
  /-- R316: a signed STACK_RETIRE. -/
  | stackRetire (h : SigHdr) (stack : Nat)
  /-- R316: the last frame of a retiring stack has moved. -/
  | stackRetireComplete (stack : Nat)
  /-- R350: an array read and transfer of a unit ends, with the codewords that decode and whether the tag verifies. -/
  | bobbinReadAttempt (id : Nat) (good : List Nat) (tagOk : Bool)
  /-- R343: a unit program ends. -/
  | bobbinProgramDone (loc : BlockLoc) (page : Nat) (ok : Bool)
  /-- R343: a block erase ends. -/
  | bobbinEraseDone (loc : BlockLoc) (ok : Bool)
  /-- R339: a garbage collection decision of a target. -/
  | bobbinGc (ch tgt : Nat)
  /-- R341: a block passes RETENTION_H. -/
  | blockRetentionExpiry (loc : BlockLoc)
  /-- R356: a target command and its RESET time out. -/
  | targetTimeout (ch tgt : Nat)
  /-- R527: the send queue's first entry, its wait met, starts its next message. -/
  | sendEntryStart (conn : Nat)
  /-- R528: a wait is not met within WAIT_MS. -/
  | sendWaitTimeout (conn : Nat)
  /-- R531: a WRITE packet arrives. -/
  | write (p : Pkt)
  /-- R531: a SEND packet arrives. -/
  | send (p : Pkt)
  /-- R548: a READ_REQ packet arrives; with the stack lines found in error. -/
  | readReq (p : WithErrs Pkt)
  /-- R526: a READ_RESP packet arrives. -/
  | readResp (p : Pkt)
  /-- R544: a FLUSH packet arrives. -/
  | flushPacket (p : Pkt)
  /-- R542: an ACK packet arrives. -/
  | ack (p : Pkt)
  /-- R537: a SACK packet arrives. -/
  | sack (p : Pkt)
  /-- R543: a NAK packet arrives. -/
  | nak (p : Pkt)
  /-- R531: a PROBE packet arrives. -/
  | probe (p : Pkt)
  /-- R537: the timer of a message expires. -/
  | retransmissionTimeout (conn : Nat) (msn : U32)
  /-- R561: a LINE_RD arrives, with the symbols in error of the line read, and whether every arrival slot is held (R560). -/
  | lineRd (p : LinePkt) (errs : SymbolErrors) (busy : Bool)
  /-- R562: a LINE_WR arrives, and whether every arrival slot is held (R560). -/
  | lineWr (p : LinePkt) (busy : Bool)
  /-- R568: an RD_DATA arrives. -/
  | rdData (p : LinePkt)
  /-- R568: a WR_DONE arrives. -/
  | wrDone (p : LinePkt)
  /-- R568: a LINE_NAK arrives. -/
  | lineNak (p : LinePkt)
  /-- R567: the poll of a line queue, with the slot as read. -/
  | lineQueuePoll (owner : Nat) (slot : HostData)
  /-- R566: a line queue descriptor with OP read is taken. -/
  | lineRead (owner : Nat) (slot : HostData)
  /-- R566: a line queue descriptor with OP write is taken. -/
  | lineWrite (owner : Nat) (slot : HostData)
  /-- R569: a resend instant of an unanswered read. -/
  | lineReadResend (tag : U32)
  /-- R569: DEAD_US passes without a response. -/
  | lineDeadTimeout (tag : U32)
  /-- R164: a read of a ring's head word ends. -/
  | ringHeadReadDone (ring : Nat) (result : Option Nat)
  /-- R166: a ring has been full for the ring-stall time. -/
  | ringStallTimeout (ring : Nat)
  /-- R630: an outstanding host read ends. -/
  | hostReadCompletion (id : Nat) (result : HostData)
  /-- R636: the host link leaves L0. -/
  | hostLinkDown
  /-- R636: the host link returns to L0. -/
  | hostLinkUp (rate width : Nat)
  /-- R634: a Function Level Reset of a domain's VF. -/
  | vfFunctionLevelReset (domain : Nat)
  /-- R635: a Function Level Reset of the PF, or a hot reset. -/
  | pfFunctionLevelReset (hot : Bool)
  /-- R632: the 100 µs interval of a function ends. -/
  | msixIntervalExpiry (fn : Nat)
  /-- R626: a complete DOE request object. -/
  | doeRequest (o : DoeObject)
  /-- R626: DOE Abort. -/
  | doeAbort
  /-- R659: TDISP LOCK_INTERFACE, and whether the VF is bound to a selective IDE stream in the Secure state. -/
  | lockInterface (domain : Nat) (ideSecure : Bool)
  /-- R660: TDISP STOP_INTERFACE. -/
  | stopInterface (domain : Nat)
  /-- R659: TDISP GET_DEVICE_INTERFACE_REPORT. -/
  | getDeviceInterfaceReport (domain : Nat)
  /-- R660: an event that puts an interface into ERROR. -/
  | tdispInterfaceError (domain : Nat) (cause : TdispCause)
  /-- R597: port training ends, with the round trip measured. -/
  | portTrainingDone (port : Nat) (pass : Bool) (rttNs : Nat)
  /-- R597: 100 ms after a failed training. -/
  | portRetrainTimer (port : Nat)
  /-- R597: loss of lane lock or of link words for 10 µs. -/
  | portLinkLoss (port : Nat)
  /-- R583: a frame arrives. -/
  | ingressFrame (port : Nat) (f : Frame)
  /-- R583: a Neighbor Solicitation arrives. -/
  | neighborSolicitation (port : Nat) (forUs : Bool)
  /-- R596: a priority flow control frame arrives. -/
  | pfcFrame (port : Nat) (enable : List Bool) (quanta : List Nat)
  /-- R596: 20 µs since the last XOFF of a VC. -/
  | pfcXoffRefresh (port vc : Nat)
  /-- R590: a link ACK word. -/
  | linkWordAck (port : Nat) (word : BitVec 96)
  /-- R591: a link NACK word. -/
  | linkWordNack (port : Nat) (word : BitVec 96)
  /-- R592: a link CREDIT word. -/
  | linkWordCredit (port : Nat) (word : BitVec 96)
  /-- R591: a link SKIP word. -/
  | linkWordSkip (port : Nat) (word : BitVec 96)
  /-- R587: a link LANE word. -/
  | linkWordLane (port : Nat) (word : BitVec 96)
  /-- R591: the oldest unacknowledged frame passes LLR_TIMEOUT. -/
  | llrTimeout (port : Nat)
  /-- R594: a VC has waited for CREDIT_STALL_US. -/
  | creditStall (port vc : Nat)
  /-- R602: the link is free, so the next frame starts. -/
  | egressFrameStart (port : Nat) (pick : Nat)
  /-- R606: a gate list entry or its guard begins. -/
  | gateEntryBoundary (port : Nat)
  /-- R607: a signed GATE_SWITCH. -/
  | gateSwitch (h : SigHdr) (port list at_ : Nat)
  /-- R608: the pending list's time. -/
  | gateSwitchover (port : Nat)
  /-- R507: a signed FENCE. -/
  | fence (h : SigHdr) (tiles : List Nat)
  /-- R507: a signed UNFENCE. -/
  | unfence (h : SigHdr) (tiles : List Nat)
  /-- R663: a signed SA_OPEN. -/
  | saOpen (h : SigHdr) (b : SaOpenBody)
  /-- R664: a signed SA_CLOSE. -/
  | saClose (h : SigHdr) (sa : Nat)
  /-- R663: a HELLO arrives. -/
  | saHello (m : SaMsg)
  /-- R663: a REPLY arrives. -/
  | saReply (m : SaMsg)
  /-- R663: a FINISH arrives. -/
  | saFinish (m : SaMsg)
  /-- R664: 1 s after SA_OPEN. -/
  | saHandshakeTimeout (localSa : Nat)
  /-- R676: a signed ZEROIZE. -/
  | zeroize (h : SigHdr)
  /-- R675: a signed SELF_TEST, with the tests' outcomes. -/
  | selfTest (h : SigHdr) (t : SelfTests)
  /-- R673: a continuous entropy test fails. -/
  | entropyHealthFailure
  /-- R705: a signed TAKEOVER. -/
  | takeover (h : SigHdr) (mode fleet : Nat)
  /-- R703: a signed TAKEOVER that releases the mirror space. -/
  | takeoverRelease (h : SigHdr) (mode fleet : Nat)
  /-- R709: a signed CUSTODY_ENTER. -/
  | custodyEnter (h : SigHdr)
  /-- R713: a signed READMIT. -/
  | readmit (h : SigHdr)
  /-- R714: the readmission checks end, with the self-tests' outcomes, the tiles that failed, whether the control-core reset completed, and whether some port reached UP meanwhile. -/
  | readmitChecksDone (t : SelfTests) (failed : List Nat) (coresOk portUp : Bool)
  /-- R750: a signed IMAGE_SWITCH. -/
  | imageSwitch (h : SigHdr) (slot version : Nat)
  /-- R750: 50 ms after the requests end. -/
  | imageSwitchDrainTimeout
  /-- R656: the switch window ends. -/
  | imageSwitchWindowEnd
  /-- R653: SPDM GET_VERSION. -/
  | getVersion
  /-- R653: SPDM GET_CAPABILITIES. -/
  | getCapabilities
  /-- R653: SPDM NEGOTIATE_ALGORITHMS. -/
  | negotiateAlgorithms
  /-- R653: SPDM GET_DIGESTS. -/
  | getDigests
  /-- R647: SPDM GET_CERTIFICATE. -/
  | getCertificate (slot : Nat)
  /-- R653: SPDM CHALLENGE. -/
  | challenge
  /-- R654: SPDM GET_MEASUREMENTS: block index (0 the count, 255 all), and whether a signature is asked. -/
  | getMeasurements (index : Nat) (signed : Bool)
  /-- R653: SPDM KEY_EXCHANGE. -/
  | keyExchange
  /-- R653: SPDM FINISH. -/
  | finish (ses : Nat)
  /-- R653: SPDM KEY_UPDATE. -/
  | keyUpdate (ses : Nat)
  /-- R653: SPDM HEARTBEAT. -/
  | spdmHeartbeat (ses : Nat)
  /-- R653: SPDM END_SESSION. -/
  | endSession (ses : Nat)
  /-- R657: SPDM VENDOR_DEFINED_REQUEST: IDE_KM for a stream, or TDISP. -/
  | vendorDefinedRequest (ses : Nat) (ideKm : Bool) (stream : Nat)
  /-- R765: MCTP REG_READ. -/
  | regRead (inst offset count : Nat)
  /-- R767: MCTP SIGNED. -/
  | mctpSigned (inst : Nat) (h : SigHdr) (b : SignedBody)
  /-- R729: MCTP SLOT_PROGRAM. -/
  | slotProgram (inst slot : Nat) (digest : Bytes)
  /-- R766: the 1 ms snapshot refresh. -/
  | registerSnapshotRefresh
  /-- R768: PLDM GetTID. -/
  | getTid
  /-- R768: PLDM GetPDR. -/
  | getPdr (handle : Nat)
  /-- R768: PLDM GetPDRRepositoryInfo. -/
  | getPdrRepositoryInfo
  /-- R768: PLDM GetSensorReading. -/
  | getSensorReading (id : Nat)
  /-- R768: PLDM GetStateSensorReadings. -/
  | getStateSensorReadings (id : Nat)
  /-- R769: PLDM SetEventReceiver. -/
  | setEventReceiver (eid : Option Nat)
  /-- R769: the outstanding event is acknowledged. -/
  | platformEventAcknowledged
  /-- R769: 1 s without an acknowledgement. -/
  | platformEventResend
  /-- R747: PLDM RequestUpdate. -/
  | requestUpdate (component : Nat)
  /-- R747: PLDM VerifyComplete, with the signatures' verdicts. -/
  | verifyComplete (sigOk coresSigOk : Bool)
  /-- R747: PLDM ApplyComplete. -/
  | applyComplete
  /-- R737: PLDM ActivateFirmware. -/
  | activateFirmware
  /-- R754: a watched agent made no progress for WD_MS. -/
  | watchdogExpiry (agent : Nat)
  /-- R755: the control-core reset ends. -/
  | controlCoreResetDone
  /-- R702: HB_US since the last heartbeat. -/
  | heartbeatSend
  /-- R703: a selvedge HEARTBEAT arrives. -/
  | heartbeat (sess mseq : Nat) (tagOk : Bool)
  /-- R702: no verified selvedge frame for LOSS_US. -/
  | partnerLoss
  /-- R697: a MIRROR frame arrives. -/
  | mirror (mseq : Nat) (recs : List MirrorRec) (tagOk : Bool)
  /-- R699: a MACK arrives. -/
  | mack (mseq : Nat) (error tagOk : Bool)
  /-- R703: a RESYNC_DONE arrives. -/
  | resyncDone (tagOk : Bool)
  /-- R688: a subject's next-allowed time. -/
  | coalesceNextAllowed (subjKind : Nat) (subject : U64)
  /-- R689: the once-per-COALESCE_MS report. -/
  | coalesceFullReport
  /-- R794: a host write into BAR2. -/
  | intakeWindowWrite (fn offset : Nat) (bytes : Bytes)
  /-- R658: the TDISP start-interface request. -/
  | startInterface (domain : Nat)
  /-- R65: a rising edge of the 100 MHz reference. -/
  | referenceEdge
  /-- R639: a host configuration write. -/
  | pcieConfigurationWrite (w : CfgWrite)
  /-- R632: vector 0 is unmasked, or MSI-X enabled. -/
  | msixVectorUnmask (fn : Nat)
  /-- R596: the quanta of a pause run out. -/
  | pauseExpiry (port vc : Nat)
  /-- R747: firmware data of a component arrives. -/
  | componentWrite (comp offset : Nat) (bytes : Bytes)
deriving DecidableEq, Repr

end Sys2Proof
end

