-- ==== Sys2Proof/Machine/State.lean ====
section
/-! DEFINITION. The state of the block: plain data. Each structure names the rules that give its fields; every reset
value is the field's default. -/

namespace Sys2Proof.Machine

open Sys2Proof

/-- Why the block stops with a fault: it never does. Raised by no command; safe. -/
inductive Fault where
  /-- Raised by no command: kept so that the type has a name; safe. -/
  | none
deriving DecidableEq, Repr

/-- Why a command is refused by the model. -/
inductive Refusal where
  /-- Raised by `exec` for a command that has no meaning yet; safe. -/
  | notModelled (mnemonic : String)
deriving DecidableEq, Repr

/-- Sparse memory: strictly rising addresses, no entry equal to what an unlisted address reads as. -/
abbrev Mem := List Host.Cell

/-- Sparse table by number. -/
abbrev Tbl (α : Type) := List (Nat × α)

/-- Fuses (R645, R729, R731): four owner key digests, revoke bits, MIN_SVN, lifecycle. Resets keep them (R718). -/
structure Fuses where
  slots : List (Option Bytes) := [none, none, none, none]
  revoked : Nat := 0
  minSvn : Nat := 0
  deployed : Bool := false
deriving DecidableEq, Repr, Inhabited

/-- Clocks and the watchdog (R65, R69, R126, R744, R754, R757). -/
structure Clock where
  now : Nat := 0
  refOk : Bool := true
  fallback : Bool := false
  lock : Nat := 0
  loss : Nat := 0
  wdAgent : Nat := 0
  wdValid : Bool := false
deriving DecidableEq, Repr, Inhabited

/-- What the root-of-trust processor is doing (R674, R717, R732 to R737). -/
inductive Phase where
  | inReset
  | firmwareFailed
  | awaitImage
  | awaitVault
  | running
  | noImage
deriving DecidableEq, Repr, Inhabited

/-- A section held in root-of-trust SRAM or named by the directory (R726). -/
structure Section where
  type : Nat
  offset : Nat
  length : Nat
  digest : Bytes
deriving DecidableEq, Repr, Inhabited

/-- Bring-up, image and update state (R717 to R756). `slot`: the image slot in use or tried; `sections`: the vault's
directory entries; `vault`: the vault by section type; `measure*`: blocks 1 to 3; `updating`: the component of an update in
progress, `fwVerified`: its firmware verified; `staged`: slot and version behind UPDATE_STAGED; `switchTo`: the accepted image
switch; `switchStart`, `switchPast`: local time of its start, and ns of its window before the last reset; `switchLoad`: the
load in progress belongs to an image switch. -/
structure Boot where
  phase : Phase := .inReset
  tapEn : Bool := false
  fwSlot : Nat := 0
  slot : Nat := 0
  fallback : Bool := false
  sections : List Section := []
  commit : Bool := false
  revoke : Nat := 0
  vault : Tbl Bytes := []
  mgrKeys : Bytes := []
  peers : Bytes := []
  flash : Bytes := []
  measureFw : Bytes := []
  measureImg : Bytes := []
  measureCores : Bytes := []
  aliasFormed : Bool := false
  roles : Nat := 0
  updating : Option Nat := none
  fwVerified : Bool := false
  staged : Option (Nat × Nat) := none
  switchTo : Option Nat := none
  switchStart : Nat := 0
  switchPast : Nat := 0
  switchLoad : Bool := false
deriving DecidableEq, Repr, Inhabited

/-- A lane of the intake window (R133, R135, R136). `mirrorSent`: the taken count last written to its mirror word. -/
structure Lane where
  expected : U32 := 0
  stalled : Bool := false
  mirrorMode : Nat := 0
  mirrorEvery : Nat := 0
  mirrorAddr : Nat := 0
  mirrorConn : Nat := 0
  sinceMirror : Nat := 0
  mirrorSent : Option U32 := none
deriving DecidableEq, Repr, Inhabited

/-- A record taken from a lane and not carried out yet (R133, R155). -/
structure Taken where
  lane : Nat
  seq : U32
  arrival : Nat
  bytes : Bytes
  remote : Bool
deriving DecidableEq, Repr, Inhabited

/-- The intake window and its engine (R127 to R136, R794). `written` and `remoteSlots` hold 512 × lane + slot; `scan`:
where the engine's round goes on (R134). -/
structure Intake where
  lanes : Tbl Lane := []
  window : Mem := []
  written : List Nat := []
  remoteSlots : List Nat := []
  taken : List Taken := []
  scan : Nat := 0
deriving DecidableEq, Repr, Inhabited

/-- A ring (R160 to R172). `produced` and `consumed` count slots since setup; `queue` is the pending queue;
`told`: the record of a broken ring has been written (R169). -/
structure Ring where
  num : Nat
  kind : Nat
  owner : Nat
  remote : Bool
  log2 : Nat
  base : Nat
  headAddr : Nat
  conn : Nat
  produced : Nat := 0
  consumed : Nat := 0
  queue : List Bytes := []
  broken : Bool := false
  told : Bool := false
  fullSince : Option Nat := none
  stallTold : Bool := false
  dropped : Nat := 0
  reading : Bool := false
deriving DecidableEq, Repr, Inhabited

/-- What the records of an operation name (R173, R680, R681). `weft`: the operation arrived over the Weft transport (R792). -/
structure OpRef where
  kind : Nat := 0
  lane : Nat := 0
  seq : U32 := 0
  tag : U32 := 0
  request : U64 := 0
  ring : Nat := 0
  owner : Nat := 64
  notify : Bool := false
  remote : Bool := false
  intake : Bool := true
  weft : Bool := false
  arrival : Nat := 0
deriving DecidableEq, Repr, Inhabited

/-- Custody states (R714, R715). -/
inductive Custody where
  | normal
  | custody
  | testing
deriving DecidableEq, Repr, Inhabited

/-- A fault record before its place in a ring is known (R680). -/
structure FaultRec where
  unit : Bool
  cause : Nat
  status : Nat := 0
  subjKind : Nat := 0
  subject : Nat := 0
  first : Nat := 0
  last : Nat := 0
  witness : Nat := 1
  tag : U32 := 0
  detail0 : Nat := 0
  detail1 : Nat := 0
  seq : U32 := 0
  lane : Nat := 0
  remote : Bool := false
deriving DecidableEq, Repr, Inhabited

/-- An entry of the coalescing table (R686, R688). The destination is the fault ring of `dest`. -/
structure CoEntry where
  subjKind : Nat
  subject : Nat
  cause : Nat
  dest : Nat
  pending : Nat := 0
  first : Nat := 0
  last : Nat := 0
  detail0 : Nat := 0
  detail1 : Nat := 0
deriving DecidableEq, Repr, Inhabited

/-- The next-allowed time of a subject and destination (R687). -/
structure NextAllowed where
  subjKind : Nat
  subject : Nat
  dest : Nat
  time : Nat
deriving DecidableEq, Repr, Inhabited

/-- A FAULT_PEER slot (R692, R693). -/
structure PeerSlot where
  fleet : Nat
  lastWindow : Nat := 0
  lastStep : Nat := 0
  barriers : Nat := 0
deriving DecidableEq, Repr, Inhabited

/-- A completion that waits until the fault record of its operation has been written (R177). -/
structure Behind where
  ref : OpRef
  rec_ : Bytes
  keep : Bool
deriving DecidableEq, Repr, Inhabited

/-- Fault reporting and custody (R680 to R693, R709 to R715, R738). `behind`: completions behind queued fault records (R177). -/
structure FaultUnit where
  custody : Custody := .normal
  trigger : Nat := 0
  custodyAt : Nat := 0
  last : Option FaultRec := none
  readmit : Option Nat := none
  stepLast : Nat := 0
  entries : List CoEntry := []
  allowed : List NextAllowed := []
  fullLost : Nat := 0
  fullReportAt : Nat := 0
  peers : List PeerSlot := []
  log : List FaultRec := []
  behind : List Behind := []
deriving DecidableEq, Repr, Inhabited

/-- Pair states (R703, R715). -/
inductive PairState where
  | unpaired
  | forming
  | mirrored
  | lost
  | taken
deriving DecidableEq, Repr, Inhabited

/-- The selvedge pair (R694 to R708, R715). `mirror*`: the partner's state as mirrored here (R700); `held`: effects
that wait for a MACK (R699); `adopted`: the partner's fleet number once taken over. -/
structure Pair where
  state : PairState := .unpaired
  ownResync : Bool := false
  peerResync : Bool := false
  resyncSent : Option Nat := none
  sent : Nat := 0
  acked : Nat := 0
  applied : Nat := 0
  lostAt : Nat := 0
  session : Option Nat := none
  foreignTold : Bool := false
  lastFrame : Nat := 0
  lastHeartbeat : Option Nat := none
  mirrorMem : Mem := []
  mirrorReqs : Tbl Bytes := []
  mirrorRecs : Tbl Bytes := []
  mirrorRings : Tbl Bytes := []
  held : List (Nat × Out) := []
  adopted : Option Nat := none
deriving DecidableEq, Repr, Inhabited

/-- MSI-X vector 0 of a function (R632). -/
structure Msix where
  enabled : Bool := false
  masked : Bool := true
  pending : Bool := false
  lastSent : Option Nat := none
deriving DecidableEq, Repr, Inhabited

/-- What waits for a host read (R164, R188, R630). -/
inductive ReadFor where
  | ringHead (ring : Nat)
  | stopSet (lane : Nat) (seq : U32)
  | other (ref : OpRef)
deriving DecidableEq, Repr, Inhabited

/-- An outstanding host read (R618, R629). -/
structure HostRead where
  id : Nat
  owner : Nat
  addr : Nat
  len : Nat
  use : ReadFor
deriving DecidableEq, Repr, Inhabited

/-- TDISP states of a VF's interface (R658). -/
inductive Tdisp where
  | unlocked
  | locked
  | run
  | error
deriving DecidableEq, Repr, Inhabited

/-- The host link and the PCIe functions (R618 to R640, R658). Lists of functions hold owner numbers. Relaxed ordering enabled, reads of
512 bytes and masked MSI-X vectors are the PCIe standard's reset values (PRESUMED, log entry 24). -/
structure HostSide where
  l0 : Bool := false
  rate : Nat := 0
  width : Nat := 0
  mps256 : Bool := false
  vfs : Nat := 0
  busMaster : List Nat := []
  memSpace : List Nat := []
  relaxed : List Nat := List.range 65
  readRequest : Nat := 512
  timeoutUs : Nat := 10000
  msix : Tbl Msix := []
  doeBusy : Bool := false
  doeReady : Bool := false
  doeError : Bool := false
  reads : List HostRead := []
  nextRead : Nat := 0
  dropped : Nat := 0
  tdisp : Tbl Tdisp := []
  retrainDue : Bool := false
deriving DecidableEq, Repr, Inhabited

/-- A security association (R661 to R665). -/
structure Assoc where
  index : Nat
  initiator : Bool
  peerFleet : Nat
  handshake : U32
  started : Nat
  established : Bool := false
  replied : Bool := false
  pn : Nat := 0
  top : Nat := 0
  seen : List Nat := []
deriving DecidableEq, Repr, Inhabited

/-- The security block (R641 to R679). `keys`: session keys exist. `ide`: IDE streams with keys. -/
structure SecUnit where
  cryptoReady : Bool := false
  error : Bool := false
  zeroized : Bool := false
  updateStaged : Bool := false
  coresInReset : Bool := false
  switching : Bool := false
  session : U128 := 0
  msgSeq : Nat := 0
  keys : Bool := false
  assocs : List Assoc := []
  sessions : List (Nat × Bool) := []
  nextSession : Nat := 0
  negotiated : Bool := false
  ide : List Nat := []
deriving DecidableEq, Repr, Inhabited

/-- PLDM monitoring, rails, die temperatures, pins (R768, R769, R777, R778, R786, R789). Temperatures in 0.25 °C;
`level` of a temperature sensor: 0 normal, 1 warning, 2 critical, 3 fatal. -/
structure Monitor where
  receiver : Option Nat := none
  outstanding : Option (Nat × Nat) := none
  sentAt : Nat := 0
  waiting : Tbl Nat := []
  dieTemp : List Int := [0, 0, 0]
  level : Tbl Nat := []
  powerW : Nat := 0
  railOut : List Nat := []
  railTold : Tbl Nat := []
  thermtrip : Bool := false
  snapshot : Tbl Nat := []
  snapshotAt : Nat := 0
deriving DecidableEq, Repr, Inhabited

/-- Connection states (R523). -/
inductive ConnState where
  | free
  | ready
  | error
  | destroying
deriving DecidableEq, Repr, Inhabited

/-- Who learns that a send queue entry has completed (R526). -/
inductive SqFor where
  | nobody
  | header (ref : OpRef)
  | record (ref : OpRef)
  | op (id : Nat)
  | headRead (ring : Nat)
  | ringFlush (ring : Nat) (req : U64)
  | shipFlush (req : U64) (window : Bool)
  | appendFlush (req : U64)
  | homeFlush (skein : U64)
  | service (m : Svc)
deriving DecidableEq, Repr, Inhabited

/-- A send queue entry (R526 to R528). `op` as in its layout; `data` is the message's content; `target` the count
waited for; `vc1`: it travels on the completion channel (R600); `begun`: bytes whose messages have started; `after`: the
mirror frame that must be acknowledged first (R699); `deadline`: its local deadline (R74), `passOn`: the time to which the BUDGET of
what it passes on counts (R75), `at_`: when it was posted, `src`: the SAS address of its bytes, which a retransmission reads again (R530). -/
structure SqEntry where
  op : Nat
  cls : Cls := .b
  imm : Option U64 := none
  waitMode : Nat := 0
  waitConn : Nat := 0
  target : U32 := 0
  ordinal : U32 := 0
  length : Nat := 0
  data : Payload := .none
  raddr : Nat := 0
  rkey : Nat := 0
  deadline : Option Nat := none
  passOn : Option Nat := none
  at_ : Nat := 0
  src : Option Nat := none
  headAt : Option Nat := none
  vc1 : Bool := false
  begun : Nat := 0
  after : Nat := 0
  use : SqFor := .nobody
deriving DecidableEq, Repr, Inhabited

/-- A message on its way (R526, R537): packets handed to the ports and packets that have left, bytes counted in INFLIGHT,
timeouts, and what its completion completes; `got`, `reply`: the response of a read; `place`: its packets' place in the service
order (R83, R84); `passOn`, `budget`: the time to which its BUDGET counts and the BUDGET its first byte left with (R76); `src` as in
its entry; `withdrawn`: its operation was abandoned, and nothing more of it leaves (R113). -/
structure Msg where
  msn : U32
  op : Nat
  cls : Cls
  imm : Option U64
  data : Payload
  mlen : Nat
  offset0 : Nat
  raddr : Nat
  rkey : Nat
  svc : Nat
  place : Place := {}
  passOn : Option Nat := none
  budget : Option Nat := none
  src : Option Nat := none
  withdrawn : Bool := false
  ordinal : U32
  lastOfEntry : Bool
  vc1 : Bool := false
  use : SqFor
  sent : Nat := 0
  left : Nat := 0
  packets : Nat
  counted : Nat := 0
  timeouts : Nat := 0
  timerAt : Option Nat := none
  got : List Nat := []
  reply : Bytes := []
deriving DecidableEq, Repr, Inhabited

/-- A connection context (R523, R524) with its send queue and unacknowledged messages. Lists of eight go by path. `rxBad`:
refused messages that a later flush reports (R543, R544); `said`: the status that answered a refused message. -/
structure Conn where
  num : Nat
  state : ConnState := .ready
  service : Bool := false
  owner : Nat := 64
  matched : Bool := false
  tc : Nat := 0
  peerFleet : Nat := 0xFFFFFF
  peerIp : U128 := 0
  peerConn : Nat := 0
  saTx : Nat := 0
  saPeer : Nat := 0
  paths : Nat := 1
  sportBase : Nat := 0
  egress : Nat := 0
  flight : Nat := 0
  arrivalRing : Nat := 0xFFF
  txEpoch : List (BitVec 8) := List.replicate 8 0
  rxEpoch : List (BitVec 8) := List.replicate 8 0
  sendMsn : U32 := 0
  unacked : U32 := 0
  posted : U32 := 0
  completed : U32 := 0
  doneAhead : List U32 := []
  rxBase : U32 := 0
  rxDone : List U32 := []
  rxBad : List U32 := []
  said : List (U32 × Nat) := []
  cwnd : Nat := 0
  inflight : Nat := 0
  srtt : Nat := 0
  rttvar : Nat := 0
  lastCut : U32 := 0
  strikes : List Nat := List.replicate 8 0
  reroutes : List Nat := List.replicate 8 0
  queue : List SqEntry := []
  msgs : List Msg := []
deriving DecidableEq, Repr, Inhabited

/-- A receive tracker (R533 to R535). `awaiting`: complete, and waiting for its
service's answer; `lastAt`: arrival of its latest packet (R532); `held`: the parts of a partial (R467) by offset. -/
structure Tracker where
  conn : Nat
  msn : U32
  op : Nat
  mlen : Nat
  placed : List Nat := []
  bytes : Nat := 0
  imm : Option U64 := none
  arrival : Nat := 0
  lastAt : Nat := 0
  cls : Cls := .b
  budget : Nat := 0
  poisoned : Bool := false
  raddr : Nat := 0
  rkey : Nat := 0
  svc : Nat := 0
  ts : U32 := 0
  path : Nat := 0
  port : Nat := 0
  awaiting : Bool := false
  held : List (Nat × Bytes) := []
deriving DecidableEq, Repr, Inhabited

/-- Region states (R548). -/
inductive RegionState where
  | free
  | valid
  | revoking
deriving DecidableEq, Repr, Inhabited

/-- A region entry (R548). -/
structure Region where
  gen : BitVec 18 := 0
  state : RegionState := .free
  rd : Bool := false
  wr : Bool := false
  intakeTarget : Bool := false
  owner : Nat := 0
  base : Nat := 0
  length : Nat := 0
  conn : Nat := 0xFFFFF
  inflight : Nat := 0
deriving DecidableEq, Repr, Inhabited

/-- The Weft transport (R512 to R552). `farIn`: connection, port and arrival stamp of each far job whose message is complete and which has not been decided (R72, R97, R534). -/
structure Weft where
  conns : List Conn := []
  trackers : List Tracker := []
  farIn : List (Nat × Nat × Nat) := []
  regions : Tbl Region := []
  cmdBusy : Bool := false
  cmdStatus : Nat := 0
  cmdValue : Nat := 0
  warned : List Nat := []
deriving DecidableEq, Repr, Inhabited

/-- Port states (R597, R617). -/
inductive PortState where
  | off
  | down
  | training
  | up
deriving DecidableEq, Repr, Inhabited

/-- A frame waiting to start or kept in the replay store (R590, R602): its place within its class (R83, R84), what it
carries, the message whose packet it is, the arrival its HOLD_NS counts from (R532). -/
structure PortFrame where
  cls : Cls
  tc : Nat
  vc : Nat
  wire : Nat
  line : Bool := false
  key : Place := {}
  what : Out
  dep : Option (Nat × U32) := none
  ackAt : Option Nat := none
  fseq : Nat := 0
  replays : Nat := 0
  sentAt : Nat := 0
deriving DecidableEq, Repr, Inhabited

/-- A network port (R580 to R617). Lists of three go by VC, of eight by traffic class. `queue`: frames that wait to start;
`replay`: the replay store; `resend`: its frames left to replay, by FSEQ; `nacking`: the receiver waits for `expectFseq`.
`used`, `peerFreed`: credits taken here and freed by the peer, `ingress`, `freed`: credits occupied and freed here, totals
modulo 2^16. `paused`: until when the peer pauses a VC; `xoff`: when XOFF was last sent for it; `waitSince`: since when it
waits for credits. `tags`: the tags of the frames at the heads of their classes, `finish` and `vtime` as in R603.
`deficitC`, `deficitE`: what is missing from each policer's two buckets, `policedAt`: when they were last filled.
`guardFrom`: since when the port idles in a guard; `busyPs`: when its last frame ends, in ps. -/
structure Port where
  state : PortState := .off
  llrOn : Bool := false
  laneLock : Nat := 0
  rttNs : Nat := 0
  vcWait : List Bool := [false, false, false]
  active : Nat := 0
  gateStart : Nat := 0
  pending : Option (Nat × Nat) := none
  queue : List PortFrame := []
  replay : List PortFrame := []
  resend : List Nat := []
  nextFseq : Nat := 0
  expectFseq : Nat := 0
  nacking : Bool := false
  peerFreed : List Nat := [0, 0, 0]
  used : List Nat := [0, 0, 0]
  ingress : List Nat := [0, 0, 0]
  freed : List Nat := [0, 0, 0]
  paused : List (Option Nat) := [none, none, none]
  xoff : List (Option Nat) := [none, none, none]
  waitSince : List (Option Nat) := [none, none, none]
  vtime : U64 := 0
  finish : List U64 := List.replicate 8 0
  tags : List (Option U64) := List.replicate 8 none
  deficitC : List Nat := List.replicate 8 0
  deficitE : List Nat := List.replicate 8 0
  policedAt : List Nat := List.replicate 8 0
  guardFrom : Option Nat := none
  busyPs : Nat := 0
  downSince : Nat := 0
deriving DecidableEq, Repr, Inhabited

/-- Request states (R151). -/
inductive ReqState where
  | free
  | opening
  | prefill
  | handing
  | shipping
  | waiting
  | decoding
  | ending
  | accepting
deriving DecidableEq, Repr, Inhabited

/-- A landing page that is filling (R270 to R273): its written lines and its mask words. -/
structure Landing where
  layer : Nat
  page : Nat
  lines : List Nat := []
deriving DecidableEq, Repr, Inhabited

/-- A STEP that awaits commit (R155, R181), with its local deadline (R74). -/
structure AwaitStep where
  ref : OpRef
  deadline : Option Nat := none
  stamp : U32
  token : U32
deriving DecidableEq, Repr, Inhabited

/-- A QUERY that has been forwarded and not answered (R51, R87, R468). `reduced`: what R75 subtracted. -/
structure QueryOut where
  ref : OpRef
  step : Nat
  layer : Nat
  handle : U64
  conn : Nat
  addr : Nat
  cls : Cls := .b
  budget : Nat := 0
  reduced : Nat
  relayed : Bool := false
deriving DecidableEq, Repr, Inhabited

/-- A request table entry (R146, R211) with what the control cores keep beside it. `since`: when the entry's current
wait began; `cancelAt`: when the pending CANCEL came (R155); `endRec`: an end record that still waits (R176, R177), `endFlush`: for its flush; `ready`: layer and page of the complete landing pages, in the order in which they became complete (R41); `split`: SPLIT_PAGE, and with the step after which it applies the next one (R55); `stepIn`: by step, who has supplied the
inputs of its barrier (R692). -/
structure Req where
  slot : Nat
  state : ReqState := .free
  gen : Bool := false
  cancelPending : Bool := false
  cancelAt : Nat := 0
  core : ReqCore := {}
  openRef : OpRef := {}
  since : Nat := 0
  model : Nat := 0
  shape : Shape := {}
  thinOk : Bool := false
  retain : Bool := false
  maskSets : Nat := 0
  tokenBuf : Nat := 0
  tokenSas : Bool := false
  tokenCount : Nat := 0
  chain : List U128 := []
  tail : List U32 := []
  lookupSent : Bool := false
  prefixPages : Nat := 0
  cancelled : Bool := false
  endRec : Option Bytes := none
  endFlush : Bool := false
  acked : Bool := false
  firstToken : U32 := 0
  takenPages : Tbl Nat := []
  landing : List Landing := []
  ready : List (Nat × Nat) := []
  kept : List PagePart := []
  viewBase : Option Nat := none
  flushOut : Bool := false
  sealSent : Bool := false
  sealAcked : Bool := false
  shipFailed : Bool := false
  windowDone : Bool := false
  windowBase : Option Nat := none
  windowFirst : Nat := 0
  lastFrom : List Nat := []
  flushed : List Nat := []
  windowOrder : List Nat := []
  sealedSeen : Bool := false
  split : Nat := 0
  splitNext : Option (U32 × Nat) := none
  abortCause : Option Nat := none
  stopCopy : Bytes := []
  hashCarry : U128 := 0
  blockBuf : List U32 := []
  nextBlock : Nat := 0
  history : List U32 := []
  await : List AwaitStep := []
  pageHashes : Tbl U128 := []
  appendNext : Nat := 0
  appendOut : Option Nat := none
  appendFailed : Bool := false
  noShip : Bool := false
  releaseDue : Bool := false
  queries : List QueryOut := []
  thinnedSteps : List Nat := []
  pageMasks : Tbl (List U64) := []
  stepIn : Tbl (List Nat) := []
deriving DecidableEq, Repr, Inhabited

/-- A stop set (R187 to R191). -/
structure StopSet where
  owner : Nat
  buf : Bytes
deriving DecidableEq, Repr, Inhabited

/-- The request table and what stands beside it (R141 to R159, R187). Incarnations, retired slots, kept identifiers
and forwarding notes (GEN_DEVICE and owner) go by slot; `hashQ`: the requests whose chains are
being hashed, in the order in which their next blocks came to wait (R209). -/
structure Requests where
  live : List Req := []
  inc : Tbl Nat := []
  retired : List Nat := []
  keptId : Tbl U64 := []
  note : Tbl (Nat × Nat) := []
  stopSets : Tbl StopSet := []
  nextHandle : Nat := 1
  hashQ : List U64 := []
deriving DecidableEq, Repr, Inhabited

/-- Skein states (R24, R62). -/
inductive SkeinState where
  | receiving
  | bound
  | prefix_
  | aborted
deriving DecidableEq, Repr, Inhabited

/-- A page-table entry with its summary and mask words (R232, R238). `body`: the page's stored form. -/
structure PageRef where
  layer : Nat
  page : Nat
  body : Nat
  tokens : Nat
  thinned : Bool := false
  foreign : Bool := false
  summary : Bytes := []
  masks : List U64 := []
deriving DecidableEq, Repr, Inhabited

/-- A page's stored form in PAGE (R240): its blocks with their SAS addresses. `resv`: base of the reservation whose
index array holds its groups; `index`: the frames of those groups; `group`, `first`: its first block's index group and
position (R238); `solo`: it stands alone in a solo group (R239). -/
structure PageBody where
  id : Nat
  resv : Nat
  index : List Nat
  group : Nat := 0
  first : Nat := 0
  fmt : Nat
  tokens : Nat
  thinned : Bool := false
  solo : Bool := false
  blocks : List StoredBlock := []
  addrs : List Nat := []
deriving DecidableEq, Repr, Inhabited

/-- A layer of a skein (R237, R239, R262 to R264). `groups`: the PAGE slot of each index group; `early`: pages that wait for
the pages before them (R242); `stream`: index entries of the layer's own stream in order (R239, R373). -/
structure LayerDir where
  nr : Nat := 0
  lastAccess : Nat := 0
  hints : List Nat := []
  walking : Bool := false
  groups : Tbl Nat := []
  stream : List Nat := []
  early : List PagePart := []
deriving DecidableEq, Repr, Inhabited

/-- A skein at its home (R24) with what its operations keep beside the header. `windowDue`, `fetchDue`: pages of it that this home is to
ship wait for their frames (R250, R252), `shipWaits`: that wait is counted. -/
structure Skein where
  slot : Nat
  id : U64
  model : Nat := 0
  shape : Shape := {}
  thinOk : Bool := false
  retain : Bool := false
  sealed : Bool := false
  hasShared : Bool := false
  tenant : Nat := 64
  state : SkeinState := .receiving
  tokens : Nat := 0
  lastHash : U128 := 0
  created : Nat := 0
  lastAccess : Nat := 0
  base : Nat := 0
  cap : Nat := 0
  maskSets : Nat := 0
  splitPage : Nat := 0
  windowPages : Nat := 0
  prefixPages : Nat := 0
  genDevice : Nat := 0
  req : U64 := 0
  chain : List U128 := []
  tokenCount : Nat := 0
  pages : List PageRef := []
  layers : Tbl LayerDir := []
  prefixFrom : Option U64 := none
  intact : Bool := true
  windowSent : Bool := false
  windowDue : Bool := false
  fetchDue : Option Nat := none
  shipWaits : Bool := false
deriving DecidableEq, Repr, Inhabited

/-- A prefix table entry (R214) at bucket and way. -/
structure PrefixEntry where
  bucket : Nat
  way : Nat
  hash : U128
  skein : U64
  model : Nat
  block : Nat
  owner : Nat
deriving DecidableEq, Repr, Inhabited

/-- Where a mapped frame lies (R229, R302 to R304, R334): a physical frame of a stack, or a bobbin unit. `moving`:
between the start and the switch of a promotion, demotion or move (R252). -/
structure Frame4K where
  stack : Option Nat := none
  phys : Nat := 0
  unit : Option Nat := none
  moving : Bool := false
deriving DecidableEq, Repr, Inhabited

/-- A skein's reservation in META (R231, R248): it lives while the skein or one of its pages does. -/
structure Reservation where
  base : Nat
  size : Nat
  slot : Nat
deriving DecidableEq, Repr, Inhabited

/-- A demotion in progress (R251, R260): the page and its body, the frames that move, their units, and for a thinned page
the body that replaces it. The page number CAP stands for the layer's own metadata. -/
structure Demotion where
  skein : Nat
  layer : Nat
  page : Nat
  body : Nat := 0
  frames : List Nat
  units : List Nat
  thinned : Option Nat := none
deriving DecidableEq, Repr, Inhabited

/-- A promotion in progress (R250): the frame, its unit, whether the unit's read has ended, and who asked. -/
structure Promotion where
  frame : Nat
  unit : Nat
  read : Bool := false
  op : Option Nat := none
  walk : Option (Nat × Nat) := none
deriving DecidableEq, Repr, Inhabited

/-- A stack frame whose page has moved to the bobbin tier while reads begun before the switch still use it (R251): the stored body
they read. -/
structure Linger where
  stack : Nat
  phys : Nat
  body : Nat
deriving DecidableEq, Repr, Inhabited

/-- A page that changes its owner within this device's state address space (R28): it stays where it is, under its message's kind and
request, until the receiving role takes it over. -/
structure Handed where
  kind : Nat
  req : U64
  part : PagePart
deriving DecidableEq, Repr, Inhabited

/-- The state address space (R224 to R287) and the home's skeins (R19 to R64, R213). `work`: bytes of WORK; `reclaim`,
`bobReclaim`: reclaim of a tier runs until its upper mark (R255, R256); `indexCache`: addresses of the index groups it holds
(R375); `handed`: what this device ships to itself (R28); `lingering`: stack frames not free yet (R251). -/
structure Sas where
  work : Mem := []
  skeins : List Skein := []
  inc : Tbl Nat := []
  retired : List Nat := []
  bodies : List PageBody := []
  nextBody : Nat := 0
  reservations : List Reservation := []
  frames : Tbl Frame4K := []
  demotions : List Demotion := []
  promotions : List Promotion := []
  prefixTable : List PrefixEntry := []
  spans : List (Nat × Nat) := []
  reclaim : Bool := false
  bobReclaim : Bool := false
  fullTold : Bool := false
  bobFullTold : Bool := false
  indexCache : List Nat := []
  handed : List Handed := []
  lingering : List Linger := []
deriving DecidableEq, Repr, Inhabited

/-- A stage of an operation (R92, R107 to R109): ledger (0 STK, 1 SHT, 2 + d FAB(d), 18 + p PRT(p), 26 BOB, 27 PCI),
work in ns of the ledger's class G rate, fixed terms before it, deadline once placed. -/
structure Stage where
  ledger : Nat
  work : Nat
  pre : Nat
  mirror : Bool := false
  deadline : Nat := 0
deriving DecidableEq, Repr, Inhabited

/-- A booking of a ledger's bucket (R90, R91); `rate`: the ledger's class G rate at which its work was converted (R290); `fault`: it is the operation's fault booking (R93). -/
structure Booking where
  ledger : Nat
  bucket : Nat
  op : Nat
  ns : Nat
  rate : Nat := 1
  fault : Bool := false
deriving DecidableEq, Repr, Inhabited

/-- What an admitted or accepted operation does when it is delivered (R86). `src`: the named pages of a transfer's skein, which
it still reads when the skein is freed (R249). -/
inductive OpWhat where
  | transfer (rec : Bytes) (data : HostData) (src : Option Skein)
  | farJob (job : Nat) (ret : U64)
  | relay (req : U64) (step layer : Nat) (conn addr : Nat) (bytes : Bytes) (status : Nat)
deriving DecidableEq, Repr, Inhabited

/-- An operation in service (R74, R111, R112). `budget`: as it arrived; `deadline`: its local deadline; `there`: on a matched connection its last byte has
left and is at the peer by then (R89). Its current stage, and the class of the first ledger that overran. `fleet`: the device that
sent a far job; `pins`: page bodies it still reads (R249); `waiting`: the stage's wait is counted (R267); `count`, `thin`: its
results (R285). -/
structure Op where
  id : Nat
  ref : OpRef
  cls : Cls
  budget : Nat
  deadline : Option Nat
  stages : List Stage
  cur : Nat := 0
  overran : Option Nat := none
  port : Nat := 0
  mseq : Nat := 0
  detail0 : Nat := 0
  detail1 : Nat := 0
  fleet : Nat := 0
  pins : List Nat := []
  waiting : Bool := false
  count : Nat := 0
  thin : Nat := 0
  there : Option Nat := none
  what : OpWhat
deriving DecidableEq, Repr, Inhabited

/-- A time from which a ledger's capacity has a scale, in 1/256 of its full capacity (R118, R292, R316). -/
structure CapEpoch where
  start : Nat
  num : Nat
  den : Nat
deriving DecidableEq, Repr, Inhabited

/-- An admission reply that quiet mode holds (R100): when it goes, the refused operation, and for a far job the fleet
number and handle it goes to. -/
structure HeldReply where
  time : Nat
  ref : OpRef
  status : Nat
  bound : Nat
  far : Option Nat := none
  ret : U64 := 0
deriving DecidableEq, Repr, Inhabited

/-- Admission (R90 to R125). `held`: replies of quiet mode (R100). -/
structure Admission where
  ops : List Op := []
  nextOp : Nat := 0
  bookings : List Booking := []
  stkCap : List CapEpoch := []
  held : List HeldReply := []
deriving DecidableEq, Repr, Inhabited

/-- A memory stack (R290 to R301, R316, R322). `st` as in STACKn_STATUS; `temps` by die; `poison`: poisoned lines by
physical frame and line; `lastUe`: physical frame, line, dies. -/
structure StackUnit where
  st : Nat := 0
  trained : Bool := false
  hot : Bool := false
  temps : List Nat := []
  suspect : Nat := 0
  lastUe : Option (Nat × Nat × Nat) := none
  poison : List (Nat × Nat) := []
deriving DecidableEq, Repr, Inhabited

/-- The stack tier (R288 to R322). `coolSince`: since when every stack has stayed below 93 °C; `bringUp`: the
usable stacks at the end of bring-up, over which the pinned structures are built (R321). -/
structure Stacks where
  units : List StackUnit := List.replicate 12 {}
  hotScale : Bool := false
  bringUp : Option (List Nat) := none
  coolSince : Option Nat := none
deriving DecidableEq, Repr, Inhabited

/-- States of a bobbin block (R334). -/
inductive BlockState where
  | free
  | open_
  | full
  | bad
deriving DecidableEq, Repr, Inhabited

/-- A bobbin block (R334, R336, R354): erase counts, reads since its last erase, first program, next page; `doomed`: it
is to be erased once its slots have moved, `byGc` by garbage collection; `erasing`: an erase is in progress. -/
structure BobBlock where
  lun : Nat
  blk : Nat
  st : BlockState := .free
  erases : Nat := 0
  retired : Bool := false
  session : Nat := 0
  reads : Nat := 0
  first : Option Nat := none
  next : Nat := 1
  doomed : Bool := false
  byGc : Bool := false
  erasing : Bool := false
deriving DecidableEq, Repr, Inhabited

/-- A bobbin target (R324, R356): its state as in BOBBIN_TGTn, its geometry and its blocks. -/
structure BobTarget where
  st : Nat := 0
  luns : Nat := 1
  blocks : Nat := 0
  pages : Nat := 0
  table : List BobBlock := []
deriving DecidableEq, Repr, Inhabited

/-- A read unit (R327): its place, owner key, frames by slot, what is known of it (R352), and the unit
it relocates (R338). -/
structure BobUnit where
  id : Nat
  tgt : Nat
  lun : Nat
  blk : Nat
  page : Nat
  key : Nat
  slots : List (Option Nat)
  seq : Nat
  written : Bool := false
  failed : Bool := false
  tagFailed : Bool := false
  source : Option Nat := none
deriving DecidableEq, Repr, Inhabited

/-- Why a unit is read (R250, R338, R263). -/
inductive BobUse where
  | promote
  | relocate
deriving DecidableEq, Repr, Inhabited

/-- A unit read in progress (R346 to R350): attempts made, codewords good so far; `started`: an attempt holds the
target, and `begun`: since when. -/
structure BobRead where
  id : Nat
  unit : Nat
  cls : Cls
  deadline : Nat := 0
  attempts : Nat := 0
  good : List Nat := []
  started : Bool := false
  begun : Nat := 0
  use : BobUse
deriving DecidableEq, Repr, Inhabited

/-- The bobbin tier (R323 to R359). `chTrained`: channels that have posted; `chEnded`: channels whose scan has ended;
`rot`: next position of the rotation; `gc`: garbage collection runs until its upper mark (R339). -/
structure Bobbin where
  chTrained : List Nat := []
  chEnded : List Nat := []
  targets : Tbl BobTarget := []
  units : List BobUnit := []
  nextUnit : Nat := 0
  seq : Nat := 0
  rot : Nat := 0
  reads : List BobRead := []
  nextRead : Nat := 0
  gc : Bool := false
  full : Bool := false
  rawBytes : Nat := 0
  totalFrames : Nat := 0
  lastUe : Option (BlockLoc × Nat × Bool) := none
deriving DecidableEq, Repr, Inhabited

/-- A member of a far job or batch (R400, R439). `op`: its operation; `cfleet`: the generation device; `tc`:
its skein's TOKEN_COUNT (R403); `pos`: its place among the members whose queries were scanned. -/
structure FarMember where
  msg : FarJobMsg
  op : Nat
  owner : Nat
  cfleet : Nat
  conn : Nat
  arrival : Nat
  tc : Nat := 0
  pos : Nat := 0
deriving DecidableEq, Repr, Inhabited

/-- û of a row of a page as the gather unit has it (R418 to R420), and its count of eligible tokens (R410). -/
structure PageBound where
  page : Nat
  n : Nat
  u : List U32
deriving DecidableEq, Repr, Inhabited

/-- What the bound unit keeps of a row (R427). -/
structure RowSums where
  r : U32
  s : List U32
deriving DecidableEq, Repr, Inhabited

/-- A running partial of a row (R449 to R460); `nf`: non-finite, with the lowest page that made it so (R462). -/
structure RowPart where
  o : List U32
  m : U32
  l : U32
  nf : Bool := false
  nfPage : Nat := 0
deriving DecidableEq, Repr, Inhabited

/-- A page that a far job reads: its number, stored body, tokens, eligible word, summary (R249, R398, R408). -/
structure JobPage where
  page : Nat
  body : Nat
  tokens : Nat
  elig : U64
  thinned : Bool
  summary : Bytes
deriving DecidableEq, Repr, Inhabited

/-- A far job in service (R400 to R444). `view`: the skein's header as read, for a skein freed meanwhile (R249); `pages`: the page table below P as read; `walked`: rounds whose blocks the
walker has passed; `round`: rounds attended; `parts`: the running partials by member; `ended`: no further round follows;
`batch`: members at the scan; `waiting`: the stage's wait is counted (R267); `runs`: runs that served it; `posted`: its partials are
on their way to the egress port (R86). -/
structure FarJob where
  id : Nat
  view : Skein
  layer : Nat
  far : Nat
  cls : Cls
  anchor : U64
  kPages : Nat
  kCap : Nat
  members : List FarMember
  pages : List JobPage := []
  scanned : Bool := false
  bounds : List PageBound := []
  sel : List Nat := []
  ends : List Nat := []
  sums : List RowSums := []
  walked : Nat := 0
  round : Nat := 0
  parts : Tbl (List RowPart) := []
  thinned : Bool := false
  ended : Bool := false
  batch : Nat := 1
  waiting : Bool := false
  runs : List Nat := []
  posted : Bool := false
deriving DecidableEq, Repr, Inhabited

/-- Retrieval and partial attention at the home (R400 to R478). `lastNf`: page, layer, slot. -/
structure Retrieval where
  jobs : List FarJob := []
  nextJob : Nat := 0
  lastNf : Option (Nat × Nat × Nat) := none
deriving DecidableEq, Repr, Inhabited

/-- A command of a fabric run (R487) with its place in the service order; `live`: bytes of live region it holds. -/
structure RunCmd where
  id : Nat
  kind : Nat
  cls : Cls
  place : Place
  job : Option Nat := none
  live : Nat := 0
deriving DecidableEq, Repr, Inhabited

/-- A fabric run (R481, R488 to R510): draft, run number, tiles, state as in FABRIC_TILE; `busySince`: for R505. -/
structure Run where
  num : Nat
  draft : Nat
  run : Nat
  tiles : List Nat
  st : Nat := 0
  cur : Option RunCmd := none
  queue : List RunCmd := []
  spilled : List RunCmd := []
  busySince : Nat := 0
deriving DecidableEq, Repr, Inhabited

/-- A shadow check (R496 to R501): job kind, original run and its draft, the skein's slot and layer of a far job, the bodies
it reads, the die temperatures at the original execution. -/
structure Shadow where
  id : Nat
  kind : Nat
  draft : Nat
  run : Nat
  shadowRun : Nat
  slot : Nat := 0
  layer : Nat := 0
  pins : List Nat := []
  temps : List Int := []
deriving DecidableEq, Repr, Inhabited

/-- The fabric (R480 to R511). `fenced`: tiles named in fences in force; `badTiles`: tiles that failed self-test;
`lastMismatch`: original tile, shadow tile, draft, whether only a û differed. -/
structure Fabric where
  runs : List Run := []
  fenced : List Nat := []
  badTiles : List Nat := []
  stopped : Bool := false
  shadows : List Shadow := []
  nextShadow : Nat := 0
  lastMismatch : Option (Nat × Nat × Nat × Bool) := none
deriving DecidableEq, Repr, Inhabited

/-- A line queue descriptor that was taken (R566). -/
structure LineDesc where
  owner : Nat
  seq : U32
  write : Bool
  fence : Bool
  conn : Nat
  rkey : Nat
  raddr : Nat
  result : Nat
  data : Bytes
deriving DecidableEq, Repr, Inhabited

/-- A line operation in flight (R554, R568 to R571). -/
structure LineIssue where
  tag : U32
  agent : Nat
  slot : Nat
  desc : LineDesc
  issuedAt : Nat
  resends : Nat := 0
deriving DecidableEq, Repr, Inhabited

/-- A line queue (R565 to R567): `waiting` holds taken descriptors that a fence keeps back; `closing`: it is torn down
once they have all completed. -/
structure LineQueue where
  owner : Nat
  log2 : Nat
  base : Nat
  expected : U32 := 0
  stalled : Bool := false
  closing : Bool := false
  waiting : List LineDesc := []
deriving DecidableEq, Repr, Inhabited

/-- Memory-semantic access at the issuer (R565 to R571). `gens`: uses of each issue slot, by 256 × agent + slot. -/
structure Lines where
  queues : List LineQueue := []
  issues : List LineIssue := []
  gens : Tbl Nat := []
deriving DecidableEq, Repr, Inhabited

/-- A command of a check unit (R572), with its local deadline (R74). -/
structure CheckCmd where
  ref : OpRef
  deadline : Option Nat := none
  poly : Nat
  cont : Bool
  len : Nat
  src : Nat
  sas : Bool
deriving DecidableEq, Repr, Inhabited

/-- A check unit (R572 to R577): its internal state with the POLY and owner it came from, whether a command may continue
it, its two registers, and its queue, the running command first. -/
structure CheckUnit where
  crc : Nat := 0
  poly : Nat := 0
  owner : Nat := 64
  ok : Bool := false
  value : Nat := 0
  info : Nat := 0
  queue : List CheckCmd := []
deriving DecidableEq, Repr, Inhabited

/-- Everything a device reset returns to its reset state (R718). `out` is what the device has sent, latest first;
`free` counts the free values used; `ctr` the saturating counters and `img` the image-set registers by BAR0
address. -/
structure Dev where
  out : List Out := []
  free : Nat := 0
  clk : Clock := {}
  boot : Boot := {}
  img : Tbl Nat := []
  ready : Nat := 0
  readyAt : Tbl Nat := []
  ctr : Tbl Nat := []
  flt : FaultUnit := {}
  pair : Pair := {}
  host : HostSide := {}
  sec : SecUnit := {}
  mon : Monitor := {}
  intake : Intake := {}
  rings : List Ring := []
  weft : Weft := {}
  adm : Admission := {}
  ports : List Port := List.replicate 8 {}
  reqs : Requests := {}
  sas : Sas := {}
  stk : Stacks := {}
  bob : Bobbin := {}
  codecErr : Option (Nat × Nat) := none
  retr : Retrieval := {}
  fab : Fabric := {}
  lines : Lines := {}
  checks : List CheckUnit := List.replicate 16 {}
deriving DecidableEq, Repr, Inhabited

/-- The block: waiting commands, oldest first; the configuration NOR (R719, unlisted bytes erased) and
its size, which the board fixes; the fuses; and
everything else. -/
structure State where
  pending : List Instr := []
  nor : Mem := []
  norBytes : Nat := 0x4000000
  fuses : Fuses := {}
  dev : Dev := {}
deriving DecidableEq, Repr

/-- The block right after reset (R718): every table empty, every register at its reset value. -/
def State.reset : State := {}

end Sys2Proof.Machine
end

