-- ==== Sys2Proof/Machine/Store.lean ====
section
/-! DEFINITION. Operations on sparse tables and on sparse memory, and the byte order of records (R7). -/

namespace Sys2Proof.Machine

open Sys2Proof

/-- Entry `k` of a table. -/
def tget {α : Type} (t : Tbl α) (k : Nat) : Option α := (t.find? (fun e => e.1 == k)).map (·.2)

/-- Entry `k`, or a default. -/
def tgetD {α : Type} (t : Tbl α) (k : Nat) (d : α) : α := (tget t k).getD d

/-- Set entry `k`, keeping the entries in rising order of their numbers. -/
def tset {α : Type} : Tbl α → Nat → α → Tbl α
  | [], k, v => [(k, v)]
  | (j, w) :: t, k, v =>
    if k < j then (k, v) :: (j, w) :: t
    else if k = j then (k, v) :: t
    else (j, w) :: tset t k v

/-- Remove entry `k`. -/
def tdel {α : Type} (t : Tbl α) (k : Nat) : Tbl α := t.filter (fun e => e.1 != k)

/-- What a memory holds at an address; an unlisted address reads as `d`. -/
def memRead (d : Byte) (m : Mem) (a : Nat) : Byte := tgetD m a d

/-- Put a byte at an address that no entry lists, in the order of the addresses. -/
def memInsert : Mem → Nat → Byte → Mem
  | [], a, b => [(a, b)]
  | (c, x) :: t, a, b => if a < c then (a, b) :: (c, x) :: t else (c, x) :: memInsert t a b

/-- Write one byte, keeping the canonical form. -/
def memWrite (d : Byte) (m : Mem) (a : Nat) (b : Byte) : Mem :=
  let rest := m.filter (fun c => c.1 != a)
  if b = d then rest else memInsert rest a b

/-- Read `n` bytes from an address upwards. -/
def memReadN (d : Byte) (m : Mem) (a : Nat) : Nat → Bytes
  | 0 => []
  | n + 1 => memRead d m a :: memReadN d m (a + 1) n

/-- Write bytes from an address upwards. -/
def memWriteN (d : Byte) (m : Mem) (a : Nat) : Bytes → Mem
  | [] => m
  | b :: bs => memWriteN d (memWrite d m a b) (a + 1) bs

/-- Return a range of addresses to the unlisted value. -/
def memClear (m : Mem) (a n : Nat) : Mem := m.filter (fun c => c.1 < a || a + n ≤ c.1)

/-- The canonical form: strictly rising addresses, none listed at the unlisted value. -/
def memWf (d : Byte) : Mem → Bool
  | [] => true
  | [c] => c.2 != d
  | c :: e :: t => c.2 != d && c.1 < e.1 && memWf d (e :: t)

/-- A number as `k` bytes, least significant first (R7). -/
def le (n : Nat) : Nat → Bytes
  | 0 => []
  | k + 1 => BitVec.ofNat 8 n :: le (n / 256) k

/-- Bytes as a number, least significant first (R7). -/
def unLe : Bytes → Nat
  | [] => 0
  | b :: bs => b.toNat + 256 * unLe bs

/-- Part of a byte string. -/
def sub (bs : Bytes) (off len : Nat) : Bytes := (bs.drop off).take len

/-- Bits [hi:lo] of the 64-bit little-endian field at a byte offset. -/
def fld (bs : Bytes) (off hi lo : Nat) : Nat := bits (unLe (sub bs off 8)) hi lo

/-- Whether every byte from `off` up to `stop` (exclusive) is zero. -/
def zeros (bs : Bytes) (off stop : Nat) : Bool := (sub bs off (stop - off)).all (· == 0)

/-- `n` zero bytes. -/
def zeroBytes (n : Nat) : Bytes := List.replicate n 0

/-- A byte string cut or padded with zeros to `n` bytes. -/
def fit (bs : Bytes) (n : Nat) : Bytes := (bs ++ zeroBytes (n - bs.length)).take n

/-- Replace the bytes at an offset. -/
def patch (bs : Bytes) (off : Nat) (p : Bytes) : Bytes := bs.take off ++ p ++ bs.drop (off + p.length)

/-- Big-endian bytes (R8). -/
def be (n k : Nat) : Bytes := (le n k).reverse

/-- The least of a list of numbers. -/
def least : List Nat → Option Nat
  | [] => none
  | x :: xs => match least xs with
    | none => some x
    | some y => some (if x ≤ y then x else y)

/-- Replace the first element that a test picks. -/
def replaceFirst {α : Type} (p : α → Bool) (v : α) : List α → List α
  | [] => []
  | x :: xs => if p x then v :: xs else x :: replaceFirst p v xs

/-- Remove the first element that a test picks. -/
def dropFirst {α : Type} (p : α → Bool) : List α → List α
  | [] => []
  | x :: xs => if p x then xs else x :: dropFirst p xs

/-- Split into pieces of `n` elements; `fuel` bounds their number. -/
def chunks {α : Type} (n : Nat) : Nat → List α → List (List α)
  | 0, _ => []
  | _, [] => []
  | f + 1, xs => xs.take n :: chunks n f (xs.drop n)

end Sys2Proof.Machine
end

