-- ==== Sys2Proof/Machine/Crc.lean ====
section
/-! DEFINITION. The CRCs of R573, over bytes in the order they stand, and the link word's check (R588). -/

namespace Sys2Proof.Machine

open Sys2Proof

/-- The parameters of a CRC (R573). -/
structure CrcKind where
  width : Nat
  poly : Nat
  init : Nat
  reflected : Bool
  xorOut : Nat
deriving DecidableEq, Repr

/-- The CRC of a POLY code (R573). -/
def crcKind (poly : Nat) : CrcKind :=
  match poly with
  | 0 => { width := 32, poly := 0x1EDC6F41, init := 0xFFFFFFFF, reflected := true, xorOut := 0xFFFFFFFF }
  | 1 => { width := 32, poly := 0x04C11DB7, init := 0xFFFFFFFF, reflected := true, xorOut := 0xFFFFFFFF }
  | 2 => { width := 64, poly := 0x42F0E1EBA9EA3693, init := 0, reflected := false, xorOut := 0 }
  | _ => { width := 16, poly := 0x8BB7, init := 0, reflected := false, xorOut := 0 }

/-- The low `n` bits of a number in reverse order. -/
def revBits : Nat → Nat → Nat
  | 0, _ => 0
  | n + 1, x => (x % 2) * 2 ^ n + revBits n (x / 2)

/-- One bit of the shift register. -/
def crcShift (k : CrcKind) (r : Nat) : Nat :=
  if 2 ^ (k.width - 1) ≤ r then ((2 * r) % 2 ^ k.width) ^^^ k.poly else 2 * r

/-- One byte through the register. -/
def crcByte (k : CrcKind) (r : Nat) (b : Byte) : Nat :=
  let x := if k.reflected then revBits 8 b.toNat else b.toNat
  (List.range 8).foldl (fun r _ => crcShift k r) (r ^^^ (x * 2 ^ (k.width - 8)))

/-- Bytes through the register: the unit's internal state (R575). -/
def crcRun (k : CrcKind) (r : Nat) (bs : Bytes) : Nat := bs.foldl (crcByte k) r

/-- The final CRC of an internal state (R573). -/
def crcFinal (k : CrcKind) (r : Nat) : Nat := (if k.reflected then revBits k.width r else r) ^^^ k.xorOut

/-- The CRC of a byte string. -/
def crcOf (poly : Nat) (bs : Bytes) : Nat := crcFinal (crcKind poly) (crcRun (crcKind poly) (crcKind poly).init bs)

/-! ## Link words (R588) -/

/-- FSEQ of a link word. -/
def lwFseq (w : BitVec 96) : Nat := bits w.toNat 95 84
/-- TYPE. -/
def lwType (w : BitVec 96) : Nat := bits w.toNat 83 80
/-- BODY. -/
def lwBody (w : BitVec 96) : Nat := bits w.toNat 79 16
/-- CHECK over bits [95:16], the most significant byte first. -/
def lwOk (w : BitVec 96) : Bool := crcOf 3 (be (w.toNat / 65536) 10) == bits w.toNat 15 0

/-- A link word. -/
def linkWord (fseq type body : Nat) : BitVec 96 :=
  let hi := fseq % 4096 * 2 ^ 68 + type % 16 * 2 ^ 64 + body % 2 ^ 64
  BitVec.ofNat 96 (hi * 65536 + crcOf 3 (be hi 10))

end Sys2Proof.Machine
end

