-- ==== Sys2Proof/Machine/Keccak.lean ====
section
/-! DEFINITION. Keccak-f[1600] and the functions the specification uses: SHAKE256 for block hashes (R208) and SHA3-512
for digests (R721, R723). -/

namespace Sys2Proof.Machine

open Sys2Proof

/-- Round constants. -/
def kcRound : List U64 := [
  0x1, 0x8082, 0x800000000000808a, 0x8000000080008000, 0x808b, 0x80000001, 0x8000000080008081,
  0x8000000000008009, 0x8a, 0x88, 0x80008009, 0x8000000a, 0x8000808b, 0x800000000000008b, 0x8000000000008089,
  0x8000000000008003, 0x8000000000008002, 0x8000000000000080, 0x800a, 0x800000008000000a, 0x8000000080008081,
  0x8000000000008080, 0x80000001, 0x8000000080008008]

/-- Rotation offsets, lane x + 5 y. -/
def kcRot : List Nat := [
  0, 1, 62, 28, 27, 36, 44, 6, 55, 20, 3, 10, 43, 25, 39, 41, 45, 15, 21, 8, 18, 2, 61, 56, 14]

/-- Lane i of a state of 25 lanes. -/
def kcAt (s : List U64) (i : Nat) : U64 := s.getD i 0

/-- One round with its constant. -/
def kcStep (s : List U64) (rc : U64) : List U64 :=
  let c := (List.range 5).map (fun x => kcAt s x ^^^ kcAt s (x + 5) ^^^ kcAt s (x + 10) ^^^ kcAt s (x + 15) ^^^ kcAt s (x + 20))
  let t := (List.range 25).map (fun i => kcAt s i ^^^ kcAt c ((i % 5 + 4) % 5) ^^^ (kcAt c ((i % 5 + 1) % 5)).rotateLeft 1)
  let b := (List.range 25).map (fun i =>
    -- lane (x, y) of the permuted state comes from lane (x + 3 y, x)
    let x := i % 5
    let y := i / 5
    let j := (x + 3 * y) % 5 + 5 * x
    (kcAt t j).rotateLeft (kcRot.getD j 0))
  let r := (List.range 25).map (fun i =>
    let y := i / 5
    kcAt b i ^^^ (~~~ kcAt b ((i % 5 + 1) % 5 + 5 * y) &&& kcAt b ((i % 5 + 2) % 5 + 5 * y)))
  match r with
  | [] => []
  | a :: as => (a ^^^ rc) :: as

/-- The permutation Keccak-f[1600]. -/
def keccakF (s : List U64) : List U64 := kcRound.foldl kcStep s

/-- Absorb one block of `rate` bytes. -/
def kcAbsorb (s : List U64) (blk : Bytes) : List U64 :=
  keccakF ((List.range 25).map (fun i => kcAt s i ^^^ u64 (unLe (sub blk (8 * i) 8))))

/-- A message with the domain byte and the final bit, to a multiple of the rate. -/
def kcPad (rate : Nat) (dom : Byte) (m : Bytes) : Bytes :=
  let n := rate - m.length % rate
  if n = 1 then m ++ [dom ||| 0x80] else m ++ dom :: (zeroBytes (n - 2) ++ [0x80])

/-- The sponge with outputs of at most `rate` bytes. -/
def keccakHash (rate : Nat) (dom : Byte) (out : Nat) (m : Bytes) : Bytes :=
  let p := kcPad rate dom m
  let s := (chunks rate (p.length / rate) p).foldl kcAbsorb (List.replicate 25 0)
  (s.flatMap (fun w => le w.toNat 8)).take out

/-- SHAKE256, up to 136 bytes of output. -/
def shake256 (m : Bytes) (out : Nat) : Bytes := keccakHash 136 0x1F out m

/-- SHA3-512. -/
def sha3_512 (m : Bytes) : Bytes := keccakHash 72 0x06 64 m

/-- The bytes of an ASCII text. -/
def ascii (x : String) : Bytes := x.toList.map (fun c => BitVec.ofNat 8 c.toNat)

/-- `left_encode` of SP 800-185: the bytes of a number below 2^16, their count first. -/
def leftEncode (n : Nat) : Bytes := if n < 256 then [1, BitVec.ofNat 8 n] else 2 :: be n 2
/-- `right_encode`: the count last. -/
def rightEncode (n : Nat) : Bytes := if n < 256 then [BitVec.ofNat 8 n, 1] else be n 2 ++ [2]
/-- `encode_string`: the length in bits, then the bytes. -/
def encodeString (x : Bytes) : Bytes := leftEncode (8 * x.length) ++ x
/-- `bytepad`: to a multiple of the rate of 136 bytes. -/
def bytePad (x : Bytes) : Bytes :=
  let y := leftEncode 136 ++ x
  y ++ zeroBytes ((136 - y.length % 136) % 136)

/-- KMAC256 with a customization string, up to 136 bytes of output (R663). -/
def kmac256 (key x custom : Bytes) (out : Nat) : Bytes :=
  keccakHash 136 0x04 out
    (bytePad (encodeString [0x4B, 0x4D, 0x41, 0x43] ++ encodeString custom) ++ bytePad (encodeString key) ++ x ++ rightEncode (8 * out))

/-- The hash of a 64-token block (R208): carry, MODEL_ID, token bytes. -/
def blockHash (carry : U128) (model : Nat) (tokens : Bytes) : U128 :=
  BitVec.ofNat 128 (unLe (shake256 (le carry.toNat 16 ++ le model 4 ++ tokens) 16))

end Sys2Proof.Machine
end

