-- ==== Sys2Proof/Machine/Regs.lean ====
section
/-! DEFINITION. Saturating counters (R15, R16), the image-set registers (R14, R734) with their fields, ranges and
defaults, and named readings of them. -/

namespace Sys2Proof.Machine

open Sys2Proof

/-- Where a SAT counter stops (R15). -/
abbrev satMax : Nat := 0xFFFFFFFFFFFF

/-- Add to a SAT counter, stopping at its limit (R15). -/
def satAdd (c n : Nat) : Nat := min (c + n) satMax

/-- What a SAT counter reads (R14): the count, and bit 63 once it has stopped. -/
def satRead (c : Nat) : Nat := if c = satMax then c + 2 ^ 63 else c

/-- Add `n` to the counter at a BAR0 address. -/
def ctrAdd (d : Dev) (a n : Nat) : Dev := if n = 0 then d else { d with ctr := tset d.ctr a (satAdd (tgetD d.ctr a 0) n) }

/-- Add 1 to the counter at a BAR0 address. -/
def ctrInc (d : Dev) (a : Nat) : Dev := ctrAdd d a 1

/-- Draw the number of the next free value. -/
def freeNext (d : Dev) : Nat × Dev := (d.free, { d with free := d.free + 1 })

/-! BAR0 addresses of the counters (R64, R126, R179, R223, R287, R322, R359, R399, R445, R478, R511, R552, R579, R640,
R679, R715, R757, R762). -/

abbrev cSkeinRetired : Nat := 0x80110
abbrev cSkeinRefused : Nat := 0x80118
abbrev cRefLoss : Nat := 0x30010
abbrev cGAccepted : Nat := 0x40200
abbrev cGRefused : Nat := 0x40208
abbrev cGDelivered : Nat := 0x40210
abbrev cGFaulted : Nat := 0x40218
abbrev cBAccepted : Nat := 0x40220
abbrev cBExpired : Nat := 0x40228
abbrev cOverrun : Nat := 0x40240
abbrev cReqRefusedFull : Nat := 0x50100
abbrev cReqRetired : Nat := 0x50108
abbrev cAccessRefused : Nat := 0x50110
abbrev cLatePartials : Nat := 0x50118
abbrev cRingStall : Nat := 0x50120
abbrev cFaultDropped : Nat := 0x50128
abbrev cRingDiscarded : Nat := 0x50130
abbrev cReqTaken : Nat := 0x50138
abbrev cTokensStreamed : Nat := 0x52000
abbrev cTtftMiss : Nat := 0x52008
abbrev cTbtMiss : Nat := 0x52010
abbrev cStopEnds : Nat := 0x52018
abbrev cPrefixLookups : Nat := 0x80208
abbrev cPrefixHitBlocks : Nat := 0x80210
abbrev cPrefixInsertDropped : Nat := 0x80218
abbrev cPrefixCow : Nat := 0x80220
abbrev cPrefixRefLimit : Nat := 0x80228
abbrev cPromoted : Nat := 0x80300
abbrev cDemoted : Nat := 0x80308
abbrev cThinnedPages : Nat := 0x80310
abbrev cEvictPrefix : Nat := 0x80318
abbrev cPlaceRefused : Nat := 0x80320
abbrev cWalks : Nat := 0x80328
abbrev cDupPages : Nat := 0x80330
abbrev cHeddleLimit : Nat := 0x80338
abbrev cThinFallback : Nat := 0x80340
abbrev cSasStall : Nat := 0x80380
abbrev cBobReads : Nat := 0x400800
abbrev cBobAttempts : Nat := 0x400808
abbrev cBobUe : Nat := 0x400840
abbrev cBobTagFail : Nat := 0x400848
abbrev cBobPrograms : Nat := 0x400850
abbrev cBobErases : Nat := 0x400858
abbrev cBobProgFail : Nat := 0x400860
abbrev cBobEraseFail : Nat := 0x400868
abbrev cBobGcSlots : Nat := 0x400870
abbrev cBobDisturbReloc : Nat := 0x400878
abbrev cBobRetentionReloc : Nat := 0x400880
abbrev cBobRetryReloc : Nat := 0x400888
abbrev cBobWearReloc : Nat := 0x400890
abbrev cBobPreempt : Nat := 0x400898
abbrev cBobSkew : Nat := 0x4008A0
abbrev cCodedBlocks : Nat := 0xC0100
abbrev cRawBlocks : Nat := 0xC0108
abbrev cStoredBytes : Nat := 0xC0110
abbrev cSel : Nat := 0xC0140
abbrev cDecodeErr : Nat := 0xC0200
abbrev cExpandedBlocks : Nat := 0xC0208
abbrev cBypassBlocks : Nat := 0xC0210
abbrev cQFullCycles : Nat := 0xC0218
abbrev cQEmptyCycles : Nat := 0xC0220
abbrev cThinBlocks : Nat := 0xC0228
abbrev cThinNonfinite : Nat := 0xC0230
abbrev cThinSat : Nat := 0xC0238
abbrev cRetrJobs : Nat := 0x120100
abbrev cRetrPages : Nat := 0x120108
abbrev cRetrRounds : Nat := 0x120110
abbrev cRetrCapped : Nat := 0x120118
abbrev cRetrBatched : Nat := 0x120120
abbrev cRetrUnbounded : Nat := 0x120128
abbrev cRetrQueryInvalid : Nat := 0x120130
abbrev cPartRows : Nat := 0x120300
abbrev cPartNonfinite : Nat := 0x120308
abbrev cPartThinned : Nat := 0x120310
abbrev cPartDuplicate : Nat := 0x120318
abbrev cPartShapeRefused : Nat := 0x120320
abbrev cPartRelayed : Nat := 0x120328
abbrev cPartBad : Nat := 0x120330
abbrev cFabCe : Nat := 0x100300
abbrev cSwitches : Nat := 0x100308
abbrev cShadowSampled : Nat := 0x100310
abbrev cShadowPassed : Nat := 0x100318
abbrev cShadowMismatch : Nat := 0x100320
abbrev cShadowSkipped : Nat := 0x100328
abbrev cFabStall : Nat := 0x100380
abbrev cJobs : Nat := 0x101000
abbrev cTileMismatch : Nat := 0x104000
abbrev cTileFaults : Nat := 0x106000
abbrev cTxPackets : Nat := 0x180100
abbrev cRxPackets : Nat := 0x180108
abbrev cRetxPackets : Nat := 0x180110
abbrev cProbes : Nat := 0x180118
abbrev cReroutes : Nat := 0x180120
abbrev cEpochDiscard : Nat := 0x180128
abbrev cReplay : Nat := 0x180130
abbrev cTagFail : Nat := 0x180138
abbrev cRxMalformed : Nat := 0x180140
abbrev cRxNoConn : Nat := 0x180148
abbrev cRxWindow : Nat := 0x180150
abbrev cRxNoTracker : Nat := 0x180158
abbrev cNakSent : Nat := 0x180160
abbrev cNakReceived : Nat := 0x180168
abbrev cMsgFailed : Nat := 0x180170
abbrev cFlushes : Nat := 0x180178
abbrev cSqStall : Nat := 0x180180
abbrev cImmDiscarded : Nat := 0x180188
abbrev cRevokes : Nat := 0x180190
abbrev cMsaRdIssued : Nat := 0x1C0100
abbrev cMsaWrIssued : Nat := 0x1C0108
abbrev cMsaResends : Nat := 0x1C0110
abbrev cMsaTimeouts : Nat := 0x1C0118
abbrev cMsaLate : Nat := 0x1C0120
abbrev cMsaRdServed : Nat := 0x1C0128
abbrev cMsaWrServed : Nat := 0x1C0130
abbrev cMsaNakSent : Nat := 0x1C0138
abbrev cMsaRxDropped : Nat := 0x1C0140
abbrev cCheckCommands : Nat := 0x480100
abbrev cCheckBytes : Nat := 0x480108
abbrev cCheckStall : Nat := 0x480110
abbrev cHostReadFail : Nat := 0x200
abbrev cHostDropped : Nat := 0x208
abbrev cHostRetrains : Nat := 0x210
abbrev cFlr : Nat := 0x218
abbrev cMsgAccepted : Nat := 0x500100
abbrev cMsgRefused : Nat := 0x500108
abbrev cSpdmRequests : Nat := 0x500110
abbrev cSpdmBusy : Nat := 0x500118
abbrev cSaOpened : Nat := 0x500120
abbrev cSaFailed : Nat := 0x500128
abbrev cEntropyFail : Nat := 0x500130
abbrev cTdispErrors : Nat := 0x500138
abbrev cZeroizations : Nat := 0x500140
abbrev cRecordsOp : Nat := 0x20100
abbrev cRecordsUnit : Nat := 0x20108
abbrev cDetections : Nat := 0x20110
abbrev cCoalesceFull : Nat := 0x20118
abbrev cSteps : Nat := 0x20120
abbrev cCustodyEntries : Nat := 0x20128
abbrev cReadmits : Nat := 0x20130
abbrev cHbSent : Nat := 0x4C0100
abbrev cHbReceived : Nat := 0x4C0108
abbrev cMirrorFrames : Nat := 0x4C0110
abbrev cMirrorBytes : Nat := 0x4C0118
abbrev cLosses : Nat := 0x4C0120
abbrev cTakeovers : Nat := 0x4C0128
abbrev cIgnored : Nat := 0x4C0130
abbrev cLockLoss : Nat := 0x600100
abbrev cWdExpiries : Nat := 0x600108
abbrev cCoreResets : Nat := 0x600110
abbrev cShtTransfers : Nat := 0x140100
abbrev cShtBytesIn : Nat := 0x140108
abbrev cShtBytesOut : Nat := 0x140110
abbrev cIdxHits : Nat := 0x140118
abbrev cIdxMisses : Nat := 0x140120

/-- Counter `off` of the port n block. -/
def cPort (n off : Nat) : Nat := 0x200000 + n * 0x10000 + off
/-- Counter `off` of the stack n block. -/
def cStack (n off : Nat) : Nat := 0x300000 + n * 0x10000 + off

/-- An image-set field: lowest bit, width, range, default where the table gives one. -/
structure ImgField where
  lo : Nat
  width : Nat
  min : Nat
  max : Nat
  dflt : Option Nat := none
deriving DecidableEq, Repr

/-- A family of image-set registers: base, and two strides with their counts. -/
structure ImgReg where
  base : Nat
  s1 : Nat := 0
  n1 : Nat := 1
  s2 : Nat := 0
  n2 : Nat := 1
  fields : List ImgField
deriving DecidableEq, Repr

/-- A field with no stated bound beyond its width. -/
def fAny (lo width : Nat) : ImgField := { lo := lo, width := width, min := 0, max := 2 ^ width - 1 }
/-- A field with a range. -/
def fRange (lo width min max : Nat) : ImgField := { lo := lo, width := width, min := min, max := max }
/-- A field with a range and a default. -/
def fDef (lo width min max v : Nat) : ImgField := { lo := lo, width := width, min := min, max := max, dflt := some v }

/-- Image-set registers of the IDENT, READY, FAULT, ADMIT, REQ and SAS blocks that the REGS section sets. The
fields of IDENT_STEPPING, IDENT_FLEET_NUMBER, IDENT_IMAGE_VERSION and IDENT_IMAGE_INFO come from the image header
(R739). -/
def imgRegsA : List ImgReg := [
  { base := 0x20, fields := [fDef 0 7 1 100 5, fDef 16 10 1 1000 10, fDef 32 10 1 1000 20] },
  { base := 0x10008, fields := [fAny 0 59] },
  { base := 0x20000, fields := [fDef 0 10 1 1000 10] },
  { base := 0x40000, fields := [fDef 0 7 1 64 4, fDef 16 10 8 1000 20, fRange 32 10 0 1000] },
  { base := 0x40008, fields := [fRange 0 8 1 240, fRange 8 7 0 64, fRange 16 8 0 128, fRange 24 8 1 240,
      fRange 32 11 50 2000] },
  { base := 0x40100, s1 := 8, n1 := 16, fields := [fRange 0 10 0 640, fAny 16 16, fAny 32 32] },
  { base := 0x51000, s1 := 8, n1 := 128, fields := [fAny 0 1, fRange 1 7 0 64] },
  { base := 0x80000, fields := [fDef 0 3 1 4 1, fDef 8 8 0 255 8, fDef 16 8 0 255 16, fDef 24 8 0 255 4,
      fDef 32 8 0 255 8] },
  { base := 0x80008, fields := [fDef 0 32 65536 67108864 4194304, fDef 32 8 1 255 32] },
  { base := 0x80400, s1 := 8, n1 := 65, fields := [fRange 0 15 0 16384] }]

/-- Image-set registers of the FABRIC, WEFT and MSA blocks. -/
def imgRegsB : List ImgReg := [
  { base := 0x100008, fields := [fRange 0 5 4 20, fAny 5 1, fRange 8 5 0 7] },
  { base := 0x100100, s1 := 8, n1 := 16, fields := [fAny 0 3, fRange 4 2 1 2, fRange 16 10 0 640] },
  { base := 0x102000, s1 := 8, n1 := 640, fields := [fAny 0 4, fAny 4 1, fAny 5 10] },
  { base := 0x120000, fields := [fDef 0 6 0 32 1, fDef 8 6 0 32 4, fDef 16 13 1 4096 1024, fDef 32 7 1 64 8,
      fAny 39 1] },
  { base := 0x120008, fields := [fAny 0 16] },
  { base := 0x120208, fields := [fRange 0 8 1 128, fRange 8 10 16 512, fAny 18 1] },
  { base := 0x180000, fields := [fDef 0 16 0 65535 28512, fDef 16 10 5 1000 50, fDef 26 4 1 15 7, fDef 30 4 1 15 3,
      fDef 34 10 1 1000 100] },
  { base := 0x180008, fields := [fDef 0 20 1000 1000000 12000, fDef 20 8 1 255 128, fDef 28 8 1 255 4,
      fDef 36 12 4 4095 256, fDef 48 12 1 4095 16] },
  { base := 0x1C0000, fields := [fDef 0 16 0 65535 28513, fDef 16 9 2 500 40, fDef 25 14 200 10000 1000] }]

/-- Image-set registers of the PORT, STACK, BOBBIN, SELVEDGE, SEC and CLOCKPWR blocks. -/
def imgRegsC : List ImgReg := [
  { base := 0x200000, s1 := 0x10000, n1 := 8, fields := [fRange 0 2 0 2, fAny 2 1, fAny 3 1, fDef 4 3 1 7 3,
      fDef 8 8 20 255 80, fAny 16 16] },
  { base := 0x200008, s1 := 0x10000, n1 := 8, fields := [fDef 0 17 10 100000 100, fRange 32 9 0 511,
      fDef 48 8 0 255 192] },
  { base := 0x200030, s1 := 0x10000, n1 := 8, fields := [fRange 0 8 1 255, fRange 8 8 1 255, fRange 16 8 1 255,
      fRange 24 8 1 255, fRange 32 8 1 255, fRange 40 8 1 255, fRange 48 8 1 255, fRange 56 8 1 255] },
  { base := 0x200038, s1 := 0x10000, n1 := 8, fields := [fAny 0 48] },
  { base := 0x200040, s1 := 0x10000, n1 := 8, fields := [fAny 0 48] },
  { base := 0x200048, s1 := 0x10000, n1 := 8, fields := [fAny 0 64] },
  { base := 0x200050, s1 := 0x10000, n1 := 8, fields := [fAny 0 64] },
  { base := 0x200100, s1 := 0x10000, n1 := 8, s2 := 8, n2 := 4, fields := [fAny 0 24, fRange 24 7 1 64, fAny 31 1] },
  { base := 0x200200, s1 := 0x10000, n1 := 8, s2 := 8, n2 := 256, fields := [fAny 0 24, fAny 24 1, fAny 32 8] },
  { base := 0x200A00, s1 := 0x10000, n1 := 8, s2 := 0x20, n2 := 8, fields := [fRange 0 2 0 2, fAny 2 1] },
  { base := 0x200A08, s1 := 0x10000, n1 := 8, s2 := 0x20, n2 := 8, fields := [fRange 0 21 1 1600000,
      fRange 32 21 0 1600000] },
  { base := 0x200A10, s1 := 0x10000, n1 := 8, s2 := 0x20, n2 := 8, fields := [fAny 0 32] },
  { base := 0x200A18, s1 := 0x10000, n1 := 8, s2 := 0x20, n2 := 8, fields := [fAny 0 32] },
  { base := 0x300010, s1 := 0x10000, n1 := 12, fields := [fDef 0 8 1 168 24, fDef 8 16 1 65535 256] },
  { base := 0x400008, fields := [fRange 0 7 10 98, fDef 8 3 1 6 3, fDef 16 12 16 4095 200,
      fDef 32 20 1000 1000000 50000] },
  { base := 0x400010, fields := [fDef 0 14 1 8760 720, fDef 16 8 0 255 6, fDef 24 8 0 255 10, fDef 32 8 0 255 3,
      fAny 40 1] },
  { base := 0x4C0000, fields := [fAny 0 1, fAny 1 1, fAny 2 12, fAny 16 24, fDef 40 14 10 10000 100] },
  { base := 0x4C0008, fields := [fDef 0 16 100 65535 1000, fDef 16 16 0 65535 28514] },
  { base := 0x500008, fields := [fAny 0 1, fAny 1 1, fRange 8 5 1 16] },
  { base := 0x500010, fields := [fAny 0 4, fAny 4 4, fAny 8 4, fAny 12 4, fAny 16 4, fAny 20 4, fAny 24 4, fAny 28 4,
      fAny 32 4, fAny 36 4] },
  { base := 0x600008, fields := [fDef 0 10 1 1000 100] }]

/-- Every family of image-set registers. -/
def imgRegs : List ImgReg := imgRegsA ++ imgRegsB ++ imgRegsC

/-- Whether a family has a register at an address. -/
def ImgReg.has (r : ImgReg) (a : Nat) : Bool :=
  r.base ≤ a && (List.range r.n1).any (fun i =>
    let b := r.base + i * r.s1
    b ≤ a && (if r.n2 = 1 then a = b else (a - b) % r.s2 = 0 && (a - b) / r.s2 < r.n2))

/-- The family of an address. -/
def imgRegAt (a : Nat) : Option ImgReg := imgRegs.find? (fun r => r.has a)

/-- Every address of a family. -/
def ImgReg.addrs (r : ImgReg) : List Nat :=
  (List.range r.n1).flatMap (fun i => (List.range r.n2).map (fun j => r.base + i * r.s1 + j * r.s2))

/-- A value sets only fields of the register, each in its range (R734). -/
def ImgReg.valueOk (r : ImgReg) (v : Nat) : Bool :=
  v == (r.fields.map (fun f => bits v (f.lo + f.width - 1) f.lo * 2 ^ f.lo)).sum &&
  r.fields.all (fun f => let x := bits v (f.lo + f.width - 1) f.lo; f.min ≤ x && x ≤ f.max)

/-- The register's value when no entry sets it: its defaults, if every field has one (R734). -/
def ImgReg.default? (r : ImgReg) : Option Nat :=
  if r.fields.all (fun f => f.dflt.isSome) then some ((r.fields.map (fun f => f.dflt.getD 0 * 2 ^ f.lo)).sum) else none

/-- The ranges that name another field of the register tables (R126, R287, R359, R617, R715). -/
def imgCross (t : Tbl Nat) : Bool :=
  let g (a hi lo : Nat) := bits (tgetD t a 0) hi lo
  2 * g 0x40000 6 0 ≤ g 0x40000 25 16 && g 0x80000 15 8 < g 0x80000 23 16 && g 0x80000 31 24 < g 0x80000 39 32 &&
  g 0x400010 23 16 < g 0x400010 31 24 && g 0x400010 39 32 < g 0x400010 23 16 &&
  3 * g 0x4C0000 53 40 ≤ g 0x4C0008 15 0 &&
  (List.range 64).all (fun i => let a := 0x200A00 + (i / 8) * 0x10000 + (i % 8) * 0x20
    g a 1 0 != 2 || g (a + 8) 20 0 ≤ g (a + 8) 52 32)

/-- Bits [hi:lo] of an image-set register; 0 until REGS takes effect (R734). -/
def img (d : Dev) (a hi lo : Nat) : Nat := bits (tgetD d.img a 0) hi lo

/-- This device's fleet number (R739). -/
def fleet (d : Dev) : Nat := img d 0x8 23 0
/-- The enabled roles (R2): bit 0 prompt, bit 1 generation, bit 2 cache. -/
def roles (d : Dev) : Nat := d.boot.roles
def hasPrompt (d : Dev) : Bool := bitOf (roles d) 0
def hasGeneration (d : Dev) : Bool := bitOf (roles d) 1
def hasCache (d : Dev) : Bool := bitOf (roles d) 2
/-- A fleet number this device answers to: its own, and its partner's once taken over (R705). -/
def isOurs (d : Dev) (f : Nat) : Bool := f == fleet d || d.pair.adopted == some f
/-- Bucket width Δ in ns (R90). -/
def bucketNs (d : Dev) : Nat := img d 0x40000 6 0 * 1000
/-- T_FR in ns (R93). -/
def frNs (d : Dev) : Nat := img d 0x40000 25 16 * 1000
/-- Quiet-mode quantum in ns (R100). -/
def quietNs (d : Dev) : Nat := img d 0x40000 41 32 * 1000
def shareStk (d : Dev) : Nat := img d 0x40008 7 0
def shareSht (d : Dev) : Nat := img d 0x40008 14 8
def shareBob (d : Dev) : Nat := img d 0x40008 23 16
def sharePcie (d : Dev) : Nat := img d 0x40008 31 24
def selFlight (d : Dev) : Nat := img d 0x40008 42 32
def skeinOpenNs (d : Dev) : Nat := img d 0x20 6 0 * 1000000
def ringStallNs (d : Dev) : Nat := img d 0x20 25 16 * 1000000
def handoffNs (d : Dev) : Nat := img d 0x20 41 32 * 1000000
def coalesceNs (d : Dev) : Nat := img d 0x20000 9 0 * 1000000
def laneEnabled (d : Dev) (l : Nat) : Bool := img d (0x51000 + 8 * l) 0 0 == 1
def laneOwner (d : Dev) (l : Nat) : Nat := img d (0x51000 + 8 * l) 7 1
def tokenLimit (d : Dev) : Nat := img d 0x80008 31 0
def landingSlots (d : Dev) : Nat := img d 0x80008 39 32
def paired (d : Dev) : Bool := img d 0x4C0000 0 0 == 1
def partnerFleet (d : Dev) : Nat := img d 0x4C0000 39 16
def pairSa (d : Dev) : Nat := img d 0x4C0000 13 2
def hbNs (d : Dev) : Nat := img d 0x4C0000 53 40 * 1000
def lossNs (d : Dev) : Nat := img d 0x4C0008 15 0 * 1000
def mgrKeyCount (d : Dev) : Nat := img d 0x500008 12 8
def tdispRequired (d : Dev) : Bool := img d 0x500008 1 1 == 1
def approved (d : Dev) : Bool := img d 0x500008 0 0 == 1
def wdMs (d : Dev) : Nat := img d 0x600008 9 0

/-! Readiness bits (R741). -/
abbrev rbPcie : Nat := 0
def rbPort (n : Nat) : Nat := 1 + n
def rbStack (n : Nat) : Nat := 9 + n
def rbOnfi (n : Nat) : Nat := 21 + n
def rbTiles (n : Nat) : Nat := 37 + n
abbrev rbCrypto : Nat := 53
abbrev rbTransport : Nat := 54
abbrev rbIntake : Nat := 55
abbrev rbCores : Nat := 56
abbrev rbImage : Nat := 57
abbrev rbBobbin : Nat := 58

/-- Whether a readiness bit is posted. -/
def isReady (d : Dev) (b : Nat) : Bool := bitOf d.ready b

/-- Post a readiness bit and record the time (R741). -/
def post (d : Dev) (b : Nat) : Dev :=
  { d with ready := if bitOf d.ready b then d.ready else d.ready + 2 ^ b, readyAt := tset d.readyAt b d.clk.now }

/-- Clear a readiness bit (R741). -/
def unpost (d : Dev) (b : Nat) : Dev := { d with ready := if bitOf d.ready b then d.ready - 2 ^ b else d.ready }

end Sys2Proof.Machine
end

