-- ==== Sys2Proof/Machine/Image.lean ====
section
/-! DEFINITION. The configuration NOR and the Melrum image in it (R719 to R734): boot records, the header, the directory and the
signature block, the sections' formats, and what verification asks of them. -/

namespace Sys2Proof.Machine

open Sys2Proof

/-- Bytes of the NOR; an erased byte reads 0xFF. -/
def norRead (s : State) (a n : Nat) : Bytes := memReadN 0xFF s.nor a n
/-- Program bytes. -/
def norWrite (s : State) (a : Nat) (bs : Bytes) : State := { s with nor := memWriteN 0xFF s.nor a bs }
/-- Erase a range. -/
def norErase (s : State) (a n : Nat) : State := { s with nor := memClear s.nor a n }

/-- Image slot size Z (R720). -/
def slotSize (s : State) : Nat := (s.norBytes - 0x210000) / 131072 * 65536
/-- Base of an image slot (R720). -/
def imageBase (s : State) (slot : Nat) : Nat := 0x210000 + (if slot = 0 then 0 else slotSize s)
/-- Base of a root-of-trust firmware slot (R720). -/
def fwBase (slot : Nat) : Nat := if slot = 0 then 0x10000 else 0x110000

/-! ## Boot records (R721 to R723) -/

/-- A record of the boot area. -/
def bootRec (s : State) (i : Nat) : Bytes := norRead s (256 * i) 256
/-- MAGIC matches and the CRC verifies (R721). -/
def recValid (r : Bytes) : Bool := fld r 0 31 0 == 0x52424F4F && fld r 0xFC 31 0 == crcOf 0 (r.take 0xFC)
/-- GENERATION of a record. -/
def recGen (r : Bytes) : U32 := u32 (fld r 4 31 0)

/-- Position of the newest record (R722). -/
def newestRec (s : State) : Option Nat :=
  ((List.range 256).filter (fun i => recValid (bootRec s i))).foldl (fun b i => match b with
    | none => some i
    | some j => if 0 < serialDiff (recGen (bootRec s i)) (recGen (bootRec s j)) then some i else some j) none

/-- A slot bit of the newest record; 0 when no record is valid (R722). -/
def activeSlot (s : State) (bit : Nat) : Nat := match newestRec s with
  | some i => fld (bootRec s i) 8 bit bit
  | none => 0

/-- Where the next record goes (R722). -/
def nextRec (s : State) : Nat := match newestRec s with
  | some i => (i + 1) % 256
  | none => 0

/-- A record position is erased. -/
def recErased (s : State) (i : Nat) : Bool := (bootRec s i).all (· == 0xFF)

/-- A boot record that names both slots (R721, R722). -/
def recBytes (s : State) (image rot : Nat) : Bytes :=
  let g := match newestRec s with
    | some i => recGen (bootRec s i) + 1
    | none => 1
  let b := le 0x52424F4F 4 ++ le g.toNat 4 ++ le (image + 2 * rot) 4 ++ zeroBytes 0xF0
  b ++ le (crcOf 0 b) 4

/-- Write a boot record, if its position is erased (R722). -/
def writeRec (s : State) (image rot : Nat) : State :=
  if recErased s (nextRec s) then norWrite s (256 * nextRec s) (recBytes s image rot) else s

/-- Erase the sector of the next position, when that position is not erased and the newest record lies in another sector
(R722, R723). -/
def readyRec (s : State) : State :=
  let n := nextRec s
  if recErased s n || (newestRec s).any (fun i => i / 16 == n / 16) then s else norErase s (n / 16 * 4096) 4096

/-! ## The manifest (R725, R726, R729, R731) -/

/-- SECTIONS of a header. -/
def secCount (h : Bytes) : Nat := fld h 0x0C 7 0
/-- Header and directory (R725). -/
def signedPart (s : State) (slot : Nat) : Bytes :=
  norRead s (imageBase s slot) (0x100 + 80 * secCount (norRead s (imageBase s slot) 0x100))
/-- The signature block (R725). -/
def sigBlock (s : State) (slot : Nat) : Bytes :=
  norRead s (imageBase s slot + 0x100 + 80 * secCount (norRead s (imageBase s slot) 0x100)) 0x100

/-- The header's format (R725). -/
def headerOk (z : Nat) (h : Bytes) : Bool :=
  fld h 0 31 0 == 0x4D4C524D && fld h 4 15 0 == 1 && fld h 6 7 0 == 0x0B && fld h 7 7 3 == 0 &&
  fld h 8 31 0 ≤ min 25165824 z && 1 ≤ secCount h && secCount h ≤ 32 && fld h 0x0D 7 7 == 0 &&
  fld h 0x0E 6 0 ≤ 64 && fld h 0x0E 15 7 == 0 && fld h 0x18 23 0 ≤ 0xFFFFFE && zeros h 0x28 0x100

/-- Directory entry k. -/
def dirEntry (m : Bytes) (k : Nat) : Bytes := sub m (0x100 + 80 * k) 80
/-- Every directory entry as a section (R726). -/
def dirSections (m : Bytes) : List Section := (List.range (secCount m)).map (fun k =>
  let e := dirEntry m k
  { type := fld e 0 7 0, offset := fld e 4 31 0, length := fld e 8 31 0, digest := sub e 0x10 64 })

/-- A section whose destination is the vault (R727). -/
def Section.vault (x : Section) : Bool := 5 ≤ x.type

/-- The entries ascend without overlap, and no vault section precedes another kind (R726). -/
def dirOrder : List Section → Bool
  | a :: b :: t => a.offset + a.length ≤ b.offset && a.offset < b.offset && (!a.vault || b.vault) && dirOrder (b :: t)
  | _ => true

/-- The directory's format, and the sections that every image has (R726, R727). -/
def dirOk (m : Bytes) : Bool :=
  let ss := dirSections m
  (List.range (secCount m)).all (fun k => zeros (dirEntry m k) 1 4 && zeros (dirEntry m k) 0x0C 0x10) &&
  ss.all (fun x => 1 ≤ x.type && x.type ≤ 7 && x.offset % 4096 == 0 && 0x200 + 80 * secCount m ≤ x.offset &&
    x.offset + x.length ≤ fld m 8 31 0) &&
  dirOrder ss && (ss.map (·.type)).eraseDups.length == ss.length &&
  [1, 2, 5].all (fun t => ss.any (fun x => x.type == t)) &&
  (fld m 7 2 0 == 0 || ss.any (fun x => x.type == 6))

/-- Digest of an owner key (R729). -/
def keyDigest (pub : Bytes) : Bytes := shake256 pub 32

/-- The signature block's format, the owner key slot, the security version and REVOKE; `sigOk`: the Ed448 signature verifies
(R725, R729, R731). -/
def ownerOk (f : Fuses) (m sig : Bytes) (sigOk : Bool) : Bool :=
  let k := fld m 0x0D 1 0
  zeros sig 0x39 0x40 && zeros sig 0xB2 0x100 && f.slots.getD k none == some (keyDigest (sig.take 57)) &&
  !bitOf f.revoked k && sigOk && f.minSvn ≤ fld m 0x0E 6 0 && !bitOf (fld m 0x0D 6 3) k

/-- Steps 1 and 2 of R732. -/
def manifestOk (s : State) (slot : Nat) (sigOk : Bool) : Bool :=
  let m := signedPart s slot
  headerOk (slotSize s) m && dirOk m && ownerOk s.fuses m (sigBlock s slot) sigOk

/-- M_img: the digest of the header, the directory and the signature block (R725). -/
def manifestDigest (s : State) (slot : Nat) : Bytes := sha3_512 (signedPart s slot ++ sigBlock s slot)

/-! ## Sections (R727, R728, R733, R734) -/

/-- Bytes of a section. -/
def secBytes (s : State) (slot : Nat) (x : Section) : Bytes := norRead s (imageBase s slot + x.offset) x.length
/-- Its digest matches (R733). -/
def secOk (s : State) (slot : Nat) (x : Section) : Bool := sha3_512 (secBytes s slot x) == x.digest
/-- Bytes of the section of a type; none without one. -/
def secOf (s : State) (slot type : Nat) : Option Bytes :=
  ((dirSections (signedPart s slot)).find? (fun x => x.type == type)).map (secBytes s slot)

/-- The entries of REGS: offset and value, or none for a malformed section (R727, R734). -/
def regsEntries (bs : Bytes) : Option (List (Nat × Nat)) :=
  let es := chunks 16 (bs.length / 16) bs
  if bs.length % 16 == 0 && es.length ≤ 16384 && es.all (fun e => zeros e 3 8) then
    some (es.map (fun e => (fld e 0 23 0, unLe (sub e 8 8))))
  else none

/-- One entry writes the IMG fields of its register (R734). -/
def regsEntryOk (e : Nat × Nat) : Bool := match imgRegAt e.1 with
  | some r => r.valueOk e.2
  | none => false

/-- Every image-set register that no entry writes takes its default; none when one has no default (R734). -/
def regsDefaults (t : Tbl Nat) : Option (Tbl Nat) :=
  imgRegs.foldl (fun acc r => r.addrs.foldl (fun acc a => match acc with
    | none => none
    | some t => if (tget t a).isSome then some t else (r.default?).map (tset t a)) acc) (some t)

/-- The image-set registers that a REGS section gives, or none when it fails verification (R734). -/
def regsTable (bs : Bytes) : Option (Tbl Nat) := match regsEntries bs with
  | none => none
  | some es =>
    if es.all regsEntryOk then
      match regsDefaults (es.foldl (fun t e => tset t e.1 e.2) []) with
      | some t => if imgCross t then some t else none
      | none => none
    else none

/-- The registers whose fields come from the header (R725, R739, R757). -/
def headerRegs (m : Bytes) (t : Tbl Nat) : Tbl Nat :=
  let t := tset t 0x0 (fld m 7 2 0 * 2 ^ 8)
  let t := tset t 0x8 (fld m 0x18 23 0)
  let t := tset t 0x10 (unLe (sub m 0x10 8))
  tset t 0x18 (fld m 0x0E 6 0 + fld m 0x0D 1 0 * 2 ^ 18)

/-- FLASH descriptors: 128 of 16 B, reserved bytes zero, SPARE in its range (R728). -/
def flashOk (bs : Bytes) : Bool :=
  bs.length == 2048 && (chunks 16 128 bs).all (fun x => fld x 0 31 3 == 0 && zeros x 0x0C 0x10 &&
    (fld x 0 0 0 == 0 || 2048 ≤ fld x 0x0A 15 0))

/-- Stage programs one after another (R727); `fuel` bounds their number. -/
def draftsOk : Nat → Bytes → Bool
  | _, [] => true
  | 0, _ => false
  | f + 1, bs =>
    let n := fld bs 4 31 0
    8 ≤ bs.length && 1 ≤ n && n ≤ 65536 && 8 + (n + 3) / 4 * 4 ≤ bs.length && draftsOk f (bs.drop (8 + (n + 3) / 4 * 4))

/-- Bias tables one after another (R727); `fuel` bounds their number. -/
def biasOk : Nat → Bytes → Bool
  | _, [] => true
  | 0, _ => false
  | f + 1, bs =>
    let h := fld bs 0 15 8
    4 ≤ bs.length && 1 ≤ h && h ≤ 128 && 4 + 256 * h ≤ bs.length && biasOk f (bs.drop (4 + 256 * h))

/-- The sections outside the vault verify; the registers they give (R727, R728, R733, R734). -/
def plainSections (s : State) (slot : Nat) : Option (Tbl Nat) :=
  let m := signedPart s slot
  let ss := (dirSections m).filter (fun x => !x.vault)
  if !ss.all (secOk s slot) then none else
  match regsTable ((secOf s slot 1).getD []) with
  | none => none
  | some t =>
    let expected := bits (tgetD t 0x10008 0) 36 21 != 0
    let mgr := (secOf s slot 2).getD []
    let peers := (secOf s slot 3).getD []
    let flash := secOf s slot 4
    if mgr.length == 64 * bits (tgetD t 0x500008 0) 12 8 && peers.length % 64 == 0 && peers.length ≤ 64 * 256 &&
        (match flash with | some b => flashOk b | none => !expected) then some (headerRegs m t)
    else none

/-- The vault sections verify; `coresSigOk`: the CORES package's own signature (R727, R733). -/
def vaultSections (s : State) (slot : Nat) (coresSigOk : Bool) : Bool :=
  let ss := (dirSections (signedPart s slot)).filter (·.vault)
  ss.all (secOk s slot) && coresSigOk && draftsOk 65536 ((secOf s slot 6).getD []) && biasOk 16 ((secOf s slot 7).getD [])

end Sys2Proof.Machine
end

