-- ==== Sys2Proof/Config.lean ====
section
/-! DEFINITION. What the specification leaves open, or leaves to an outside standard, as constants with no body:
no proof can see a value of one of them. Each is named in the assumption log. -/

namespace Sys2Proof.Config

/-- Draws of the root-of-trust processor's DRBG (R649, R661) by draw number: a free value. -/
opaque drbg : Nat → BitVec 128

/-- The outcome of the line decoder beyond 11 symbols in error (R296 states none): a free value by occurrence.
True: the decoder reports the line uncorrectable; false: it delivers some data as corrected. -/
opaque eccBeyond : Nat → Bool

/-- The byte that such a decode delivers, by occurrence and byte position: a free value. -/
opaque eccByte : Nat → Nat → BitVec 8

/-- The SPDM, PLDM and X.509 encodings of the answers the root-of-trust processor gives are those of outside
standards; their bytes stand free, by request number. -/
opaque standardBytes : Nat → Bytes

/-- The certificate chain of SPDM slot 0 (R647), by the measurements that its alias certificate carries; the X.509
encoding is an outside standard's. -/
opaque certChain : Bytes → Bytes → Bytes

/-- Measurement block 4 (R653): how its 16 bytes arrange stepping, lifecycle state and fleet number is not given. -/
opaque fuseBlock : Nat → Nat → Nat → Bytes

/-- AES-256-XTS of a frame under an owner's key, which no interface exports (R329, R331): by owner, frame number and bytes. -/
opaque xtsFrame : Nat → Nat → List (BitVec 8) → List (BitVec 8)

/-- The integrity tag of a bobbin unit under a key that no interface exports (R329, R331): by SEQ, unit bytes, location and erase count. -/
opaque bobTag : Nat → List (BitVec 8) → Nat → Nat → List (BitVec 8)

/-- The two shared secrets of a handshake, Z_ecdh then Z_kem, which no interface exports (R663): by index and handshake. -/
opaque saSecret : Nat → BitVec 32 → List (BitVec 8)

/-- The transcript of a handshake (R663): by index and handshake. Its ephemeral keys and nonces are random. -/
opaque saTranscript : Nat → BitVec 32 → List (BitVec 8)

/-- AES-256-GCM, which SP 800-38D gives (R519): by key, nonce, additional data and plaintext; the ciphertext, and its 16-byte tag
after it. -/
opaque gcmSeal : List (BitVec 8) → List (BitVec 8) → List (BitVec 8) → List (BitVec 8) → List (BitVec 8)

/-- Parity of an LDPC codeword of the Ruwick code, which is not given (R328), by its information bytes. -/
opaque ldpcParity : List (BitVec 8) → List (BitVec 8)

/-- Length in bytes of what a service message carries beside its packed pages, which the specification does not lay out (R547), by kind
and by a count that the sender takes from its content. -/
opaque svcLength : Nat → Nat → Nat

/-- Which held index group makes room in a full index cache (R375 names no order), by occurrence: a free value. -/
opaque indexVictim : Nat → Nat

/-- The PLDM terminus identifier (R768 gives none). -/
opaque pldmTid : Nat

/-- The bytes of a PDR by record handle (R768): an outside standard's encoding. -/
opaque pdr : Nat → Bytes

/-- The Ed448 public key of a private key (RFC 8032): the curve is an outside standard's. -/
opaque ed448Public : Bytes → Bytes

/-- The unique device secret (R645), fixed at manufacture. -/
opaque uds : Bytes

/-- Ruwick's PCI vendor identifier (R640), not given as a number. -/
opaque pciVendor : BitVec 16

/-- The region key the device writes into a message for a ring, a mirror word or a partial at a peer, by connection and
address: the specification gives those records no key field. -/
opaque remoteKey : Nat → Nat → Nat

end Sys2Proof.Config
end

