-- ==== Sys2Proof/Machine/Codes.lean ====
section
/-! DEFINITION. Status values (R178 and the status tables of the chapters). Fault causes are written as their own
numbers: FC_101 is 0x101 (R680). -/

namespace Sys2Proof.Machine.St

abbrev ok : Nat := 0x0000
abbrev roleAbsent : Nat := 0x0001
abbrev access : Nat := 0x0002
abbrev kindInvalid : Nat := 0x0003
abbrev recordInvalid : Nat := 0x0004
abbrev reqFull : Nat := 0x0005
abbrev reqStale : Nat := 0x0006
abbrev reqEnded : Nat := 0x0007
abbrev ringInvalid : Nat := 0x0008
abbrev ringBusy : Nat := 0x0009
abbrev ringFull : Nat := 0x000A
abbrev cancelled : Nat := 0x000B
abbrev duplicate : Nat := 0x000C
abbrev genUnreachable : Nat := 0x000D
abbrev skeinStale : Nat := 0x0101
abbrev skeinFull : Nat := 0x0102
abbrev skeinState : Nat := 0x0103
abbrev skeinAborted : Nat := 0x0104
abbrev shapeInvalid : Nat := 0x0105
abbrev homeUnreachable : Nat := 0x0106
abbrev budgetExpired : Nat := 0x0201
abbrev admitBound : Nat := 0x0202
abbrev notGuaranteeable : Nat := 0x0203
abbrev ledgerFull : Nat := 0x0204
abbrev notReady : Nat := 0x0205
abbrev custody : Nat := 0x0206
abbrev partnerLost : Nat := 0x0207
abbrev budgetMissed : Nat := 0x0208
abbrev demotedB : Nat := 0x0209
abbrev stepOrder : Nat := 0x0301
abbrev stopSetUndefined : Nat := 0x0302
abbrev stopSetInvalid : Nat := 0x0303
abbrev sasFull : Nat := 0x0401
abbrev skeinCapacity : Nat := 0x0402
abbrev notResident : Nat := 0x0403
abbrev landingBusy : Nat := 0x0404
abbrev windowFull : Nat := 0x0405
abbrev range : Nat := 0x0406
abbrev stackUncorrectable : Nat := 0x0407
abbrev heddleLimit : Nat := 0x0408
abbrev heddleFault : Nat := 0x0409
abbrev bobbinUncorrectable : Nat := 0x040A
abbrev bobbinSkew : Nat := 0x040B
abbrev decodeError : Nat := 0x0501
abbrev queryInvalid : Nat := 0x0601
abbrev biasUndefined : Nat := 0x0602
abbrev draftShape : Nat := 0x0603
abbrev tileFault : Nat := 0x0604
abbrev partialBad : Nat := 0x0605
abbrev weftConn : Nat := 0x0701
abbrev weftAccess : Nat := 0x0702
abbrev weftRevoked : Nat := 0x0703
abbrev weftFailed : Nat := 0x0704
abbrev weftWait : Nat := 0x0705
abbrev weftNoPeer : Nat := 0x0706
abbrev msaTimeout : Nat := 0x0707
abbrev msaBusy : Nat := 0x0708
abbrev checkChain : Nat := 0x0709
abbrev checkSource : Nat := 0x070A
abbrev gateList : Nat := 0x0801
abbrev gateTime : Nat := 0x0802
abbrev gatePending : Nat := 0x0803
abbrev matchInvalid : Nat := 0x0804
abbrev fnReset : Nat := 0x0805
abbrev hostDma : Nat := 0x0806
abbrev sigInvalid : Nat := 0x0901
abbrev sigStale : Nat := 0x0902
abbrev sigQuorum : Nat := 0x0903
abbrev sigTarget : Nat := 0x0904
abbrev saAbsent : Nat := 0x0905
abbrev saBusy : Nat := 0x0906
abbrev zeroized : Nat := 0x0907
abbrev pairForming : Nat := 0x0A01
abbrev imageState : Nat := 0x0A02
abbrev imageSwitch : Nat := 0x0A03
abbrev pairMismatch : Nat := 0x0A04

end Sys2Proof.Machine.St
end

