-- ==== Sys2Proof/Machine/Ops.lean ====
section
/-! DEFINITION. The shared operations: what leaves the device, the mirror stream, host writes and reads, interrupts,
posting on the Weft transport, rings and their records, fault records and their coalescing, PLDM events. -/

namespace Sys2Proof.Machine

open Sys2Proof

/-- Replace the device's state. -/
def State.setDev (s : State) (d : Dev) : State := { s with dev := d }

/-- A meaning that changes the device alone and always completes. -/
def onDev (f : Dev → Dev) (s : State) : Host.Outcome State Fault Refusal := .next (s.setDev (f s.dev))

/-- Send one thing out. -/
def emit (d : Dev) (o : Out) : Dev := { d with out := o :: d.out }

/-- Local time modulo 2^64 (R65). -/
def now (d : Dev) : Nat := d.clk.now

/-! ## The mirror stream (R695 to R699) -/

/-- Whether changes go to the partner: once MIRRORED, or FORMING with the whole state sent (R703). -/
def streaming (d : Dev) : Bool :=
  d.pair.state == .mirrored || (d.pair.state == .forming && d.pair.resyncSent.isSome)

/-- Bytes of a mirror record: its header and its data padded to 8 B (R696). -/
def mirrorRecBytes (r : MirrorRec) : Nat := 16 + (r.data.length + 7) / 8 * 8

/-- The association of an index, once established. -/
def findAssoc (d : Dev) (i : Nat) : Option Assoc := d.sec.assocs.find? (fun a => a.index == i && a.established)

/-- Whether an association can still send (R522). -/
def saUsable (d : Dev) (sa : Nat) : Bool := match findAssoc d sa with
  | some a => a.pn + 2 < 2 ^ 48
  | none => false

/-- The next packet number of an association, one more than the last (R520). -/
def usePn (d : Dev) (a : Assoc) : Dev :=
  { d with sec := { d.sec with
      assocs := replaceFirst (fun x => x.index == a.index && x.established) { a with pn := a.pn + 1 } d.sec.assocs } }

/-- Send a selvedge frame, under the packet numbers of the pair's association (R520, R694, R696). -/
def sendSelvedge (d : Dev) (op mseq : Nat) (error : Bool) (session : U64) (recs : List MirrorRec) : Dev :=
  match findAssoc d (pairSa d) with
  | none => d
  | some a =>
    if saUsable d (pairSa d) then emit (usePn d a) (.selvedge op (pairSa d) (a.pn + 1) mseq error session recs) else d

/-- Mirror records in groups that fit into one frame each: at most 4,096 bytes (R696). -/
def frameGroups (recs : List MirrorRec) : List (List MirrorRec) :=
  (recs.foldl (fun (x : List (List MirrorRec) × Nat) r =>
    let n := mirrorRecBytes r
    match x.1 with
    | g :: gs => if x.2 + n ≤ 4096 then ((g ++ [r]) :: gs, x.2 + n) else ([r] :: g :: gs, n)
    | [] => ([[r]], n)) ([], 0)).1.reverse

/-- Send mirror records, when the stream runs. -/
def mirrorPush (d : Dev) (recs : List MirrorRec) : Dev :=
  if streaming d then
    (frameGroups recs).foldl (fun d g =>
      let n := d.pair.sent + 1
      let d := sendSelvedge { d with pair := { d.pair with sent := n } } 0x02 n false 0 g
      ctrAdd (ctrInc d cMirrorFrames) cMirrorBytes ((g.map mirrorRecBytes).sum)) d
  else d

/-- Let a visible effect out: at once, or when a MACK covers every change sent before it (R699). -/
def emitWA (d : Dev) (o : Out) : Dev :=
  if streaming d && d.pair.acked < d.pair.sent then
    { d with pair := { d.pair with held := d.pair.held ++ [(d.pair.sent, o)] } }
  else emit d o

/-- Let out the held effects that an acknowledged frame covers (R699). -/
def releaseHeld (d : Dev) (upTo : Nat) : Dev :=
  let go := d.pair.held.filter (·.1 ≤ upTo)
  let d := { d with pair := { d.pair with held := d.pair.held.filter (upTo < ·.1) } }
  go.foldl (fun d e => emit d e.2) d

/-! ## The host link (R618 to R639) -/

/-- An owner's function can reach host memory: the link is in L0 and Bus Master Enable is set (R636, R638). -/
def fnUp (d : Dev) (o : Nat) : Bool := d.host.l0 && d.host.busMaster.contains o

/-- An owner's interface is in the TDISP state of normal operation (R658). -/
def tdispNormal (d : Dev) (o : Nat) : Bool :=
  o == 64 || (if tdispRequired d then tgetD d.host.tdisp o .unlocked == .run
    else tgetD d.host.tdisp o .unlocked == .unlocked)

/-- Whether an owner's requests carry the T bit (R627, R658). -/
def tBit (d : Dev) (o : Nat) : Bool := o < 64 && tdispRequired d && tgetD d.host.tdisp o .unlocked == .run

/-- Max_Payload_Size in bytes (R618). -/
def maxPayload (d : Dev) : Nat := if d.host.mps256 then 256 else 128

/-- Split a write at the multiples of a block size (R620); `fuel` bounds the number of parts. -/
def splitAt (blk : Nat) : Nat → Nat → Bytes → List (Nat × Bytes)
  | 0, _, _ => []
  | _, _, [] => []
  | f + 1, a, bs =>
    let n := blk - a % blk
    (a, bs.take n) :: splitAt blk f (a + n) (bs.drop n)

/-- Write to host memory for an owner; discarded and counted while its function cannot reach it (R636, R638). -/
def hostWriteAttr (d : Dev) (o a : Nat) (bs : Bytes) (ep relaxed : Bool) : Dev :=
  if fnUp d o then
    (splitAt (maxPayload d) (bs.length + 1) a bs).foldl
      (fun d p => emitWA d (.hostWrite o p.1 p.2 ep relaxed (tBit d o))) d
  else
    let d := ctrInc d cHostDropped
    { d with host := { d.host with dropped := d.host.dropped + 1 } }

/-- A host write with plain attributes. -/
def hostWrite (d : Dev) (o a : Nat) (bs : Bytes) : Dev := hostWriteAttr d o a bs false false

/-- Send the read requests of a range: each at most the smaller of the programmed read request size and 512 B (R629). -/
def emitReads (d : Dev) (o a len : Nat) : Dev :=
  let n := max 1 (min d.host.readRequest 512)
  (List.range ((len + n - 1) / n)).foldl (fun d i => emit d (.hostRead o (a + n * i) (min n (len - n * i)) (tBit d o))) d

/-- Start a host read and remember what waits for it (R627). -/
def hostRead (d : Dev) (o a len : Nat) (use : ReadFor) : Dev :=
  let r : HostRead := { id := d.host.nextRead, owner := o, addr := a, len := len, use := use }
  emitReads { d with host := { d.host with reads := d.host.reads ++ [r], nextRead := d.host.nextRead + 1 } } o a len

/-- What a host read for an owner gives: nothing while its function cannot reach host memory (R636, R638). -/
def hostGot (d : Dev) (o : Nat) (x : HostData) : HostData := if fnUp d o then x else none

/-- Ask for an owner's MSI-X message (R632): sent when enabled, unmasked and not within 100 µs of the last. -/
def msixRaise (d : Dev) (o : Nat) : Dev :=
  let m := tgetD d.host.msix o {}
  if !m.enabled then d
  else if !m.masked && (match m.lastSent with | none => true | some t => t + 100000 ≤ now d) && fnUp d o then
    emitWA { d with host := { d.host with msix := tset d.host.msix o { m with pending := false, lastSent := some (now d) } } }
      (.msix o)
  else { d with host := { d.host with msix := tset d.host.msix o { m with pending := true } } }

/-! ## Posting on the Weft transport (R523 to R529, R546) -/

/-- The context of a connection that is not FREE. -/
def findConn (d : Dev) (c : Nat) : Option Conn := d.weft.conns.find? (·.num == c)

/-- Store a connection context. -/
def setConn (d : Dev) (c : Conn) : Dev :=
  { d with weft := { d.weft with conns := replaceFirst (fun x => x.num == c.num) c d.weft.conns } }

/-- Whether a connection is READY. -/
def connReady (d : Dev) (c : Nat) : Bool := match findConn d c with
  | some k => k.state == .ready
  | none => false

/-- A message has completed its entry: a WRITE or SEND once its last packet has left, others with their answer (R526). -/
def Msg.entryEnded (m : Msg) : Bool := m.withdrawn || !m.lastOfEntry || ((m.op == 0x01 || m.op == 0x02) && m.packets ≤ m.left)

/-- Send queue entries in use (R529, R762). -/
def sqInUse (d : Dev) : Nat :=
  (d.weft.conns.map (fun c => c.queue.length + (c.msgs.filter (fun m => !m.entryEnded)).length)).sum

/-- Whether one place stands before another (R83, R84). Class B operations of equal slack go by arrival (DESIGN CHOICE, log entry 72). -/
def placeBefore (a b : Place) : Bool :=
  let late := a.arrival < b.arrival || (a.arrival == b.arrival && a.adm < b.adm)
  match a.due, b.due with
  | some x, some y => x < y || (x == y && late)
  | some _, none => true
  | none, some _ => false
  | none, none => late

/-- Post an entry on a READY connection: it takes the next ordinal, and in snapshot mode its target (R526, R527). -/
def postEntry (d : Dev) (cn : Nat) (e : SqEntry) : Dev :=
  match findConn d cn with
  | none => d
  | some c =>
    if c.state != .ready then d else
    let e := { e with
      ordinal := c.posted + 1
      target := if e.waitMode == 2 then (match findConn d e.waitConn with | some w => w.posted | none => 0) else e.target
      at_ := now d
      headAt := if c.queue.isEmpty then some (now d) else none
      after := if streaming d then d.pair.sent else 0 }
    setConn d { c with posted := c.posted + 1, queue := c.queue ++ [e] }

/-- The READY service connection of a fleet number (R545, R546). -/
def serviceConn (d : Dev) (f : Nat) : Option Conn :=
  d.weft.conns.find? (fun c => c.service && c.state == .ready && c.peerFleet == f)

/-- The packed groups of one layer's blocks (R243): index groups with ALIGNED 0, ADDR from the section's first block and PHASE, then the
blocks. -/
def packedGroups (bpp : Nat) (bs : List StoredBlock) : Bytes :=
  let gs := chunks 64 (bs.length / 64 + 1) bs
  let offs := gs.foldl (fun (r : List Nat × Nat) g => (r.1 ++ [r.2], r.2 + (g.map (fun b => b.data.length)).sum)) ([], 0)
  ((gs.zip offs.1).zipIdx).flatMap (fun x =>
    le (x.1.2 + 2 ^ 48 * (64 * x.2 % max 1 bpp)) 8 ++ fit (x.1.1.map (fun b => BitVec.ofNat 8 b.entry)) 64) ++
  bs.flatMap (·.data)

/-- A shipment's pages as they travel: each layer's blocks in one section (R243). -/
def packParts (ps : List PagePart) : List PagePart :=
  (ps.zipIdx).map (fun x =>
    let mine := ps.filter (·.layer == x.1.layer)
    let blocks := mine.flatMap (·.blocks)
    let first := !(ps.take x.2).any (·.layer == x.1.layer)
    { x.1 with
      blocks := []
      section_ := if first && !blocks.isEmpty then packedGroups x.1.blocks.length blocks else [] })

/-- Size the sender computes for a service message's length (R547). -/
def svcSize : Svc → Nat
  | .lookup _ _ ch => ch.length
  | .handoff m => m.tail.length
  | m => m.parts.length

/-- Length of a service message: FAR_JOB by R400 (56 bytes and the query); of the others, the pages' sections (R243) or raw bytes
(R53), and the rest, which is free (R547). -/
def svcLen : Svc → Nat
  | .farJob m _ _ => 0x40 + 2 * m.query.length
  | m => Config.svcLength m.kind (svcSize m) + ((packParts m.parts).map (fun p => p.section_.length + p.raw.length)).sum

/-- Service kinds that travel on the completion channel (R600). -/
def svcVc1 (k : Nat) : Bool := [0x02, 0x04, 0x09, 0x0B, 0x0F].contains k

/-- Pages of a message to this device itself change their owner and are not copied: the message names them (R28). -/
def handOwn (d : Dev) (m : Svc) (req : U64) : Dev :=
  { d with sas := { d.sas with handed := d.sas.handed ++ m.parts.map (fun p => { kind := m.kind, req := req, part := p }) } }

/-- The request that a shipment belongs to. -/
def shipReq : Svc → U64
  | .place r _ _ _ => r
  | .window r _ _ => r
  | .prefixPages r _ => r
  | _ => 0

/-- The receiving role takes over the pages that a message of this device itself names (R28). -/
def takeHanded (d : Dev) (kind : Nat) (req : U64) : List PagePart → List PagePart × Dev
  | [] => ([], d)
  | p :: ps =>
    let is (h : Handed) : Bool := h.kind == kind && h.req == req && h.part.layer == p.layer && h.part.page == p.page
    match d.sas.handed.find? is with
    | none => takeHanded d kind req ps
    | some h =>
      let r := takeHanded { d with sas := { d.sas with handed := dropFirst is d.sas.handed } } kind req ps
      (h.part :: r.1, r.2)

/-- What a shipment brings: the pages themselves from another device, those handed over from this one (R28). -/
def shipped (d : Dev) (frm kind : Nat) (req : U64) (pages : List PagePart) : List PagePart × Dev :=
  if isOurs d frm then takeHanded d kind req pages else (pages, d)

/-- Send a service message to a fleet number; to this device itself, without the transport (R28). The flag is false when it has no READY service connection (R546). -/
def sendSvcFor (d : Dev) (f : Nat) (m : Svc) (cls : Cls) (deadline passOn : Option Nat) (use : SqFor) : Bool × Dev :=
  if isOurs d f then (true, emitWA (handOwn d m (shipReq m)) (.local_ m.named)) else
  match serviceConn d f with
  | none => (false, d)
  | some c => (true, postEntry d c.num
      { op := 0x02, cls := cls, length := svcLen m, data := .svc (m.mapParts packParts), deadline := deadline, passOn := passOn,
        use := use, vc1 := svcVc1 m.kind })

/-- Send a service message of class B. -/
def sendSvc (d : Dev) (f : Nat) (m : Svc) : Bool × Dev := sendSvcFor d f m .b none none (.service m)

/-! ## PLDM events (R769) -/

/-- Report a state change of a sensor. -/
def pldmChange (d : Dev) (sensor state : Nat) : Dev :=
  match d.mon.receiver with
  | none => d
  | some _ =>
    if d.mon.outstanding.isNone then
      emit { d with mon := { d.mon with outstanding := some (sensor, state), sentAt := now d } } (.pldmEvent sensor state)
    else { d with mon := { d.mon with waiting := tset d.mon.waiting sensor state } }

/-! ## Rings (R160 to R172) -/

/-- The ring of a number. -/
def findRing (d : Dev) (n : Nat) : Option Ring := d.rings.find? (·.num == n)

/-- Store a ring. -/
def setRing (d : Dev) (r : Ring) : Dev := { d with rings := replaceFirst (fun x => x.num == r.num) r d.rings }

/-- Slots of a ring (R160). -/
def Ring.slots (r : Ring) : Nat := 2 ^ r.log2
/-- Free slots by the device's own copy of the consumed count (R164). -/
def Ring.room (r : Ring) : Nat := r.slots - (r.produced - r.consumed)
/-- A ring as a mirror record gives it (R695): the body of its RING_SETUP (R170) and its write position. -/
def Ring.body (r : Ring) : Bytes :=
  le (r.num % 4096 + 2 ^ 12 * r.kind + 2 ^ 14 * bit1 r.remote) 4 ++ le r.log2 4 ++ le r.base 8 ++ le r.headAddr 8 ++
  le r.conn 8 ++ le r.produced 8
/-- Bytes of a slot (R160). -/
def Ring.slotBytes (r : Ring) : Nat := if r.kind == 2 then 32 else 64
/-- The subject of a ring's unit records (R682); an adopted ring keeps the number that its partner gave it. -/
def Ring.subject (r : Ring) : Nat := r.num % 4096 + r.owner * 2 ^ 16
/-- PHASE of the n-th record: 1 on the first pass, inverted on each wrap (R161). -/
def Ring.phase (r : Ring) (n : Nat) : Bool := n / r.slots % 2 == 0

/-- Put PHASE into bit 7 of a record's last byte (R161). -/
def withPhase (bs : Bytes) (ph : Bool) : Bytes :=
  bs.dropLast ++ [(bs.getLast?.getD 0 &&& 0x7F) ||| (if ph then 0x80 else 0)]

/-- An operation completion or end record takes DONE when it is written (R173). -/
def withDone (bs : Bytes) (t : Nat) : Bytes :=
  if bs.head? == some 1#8 || bs.head? == some 2#8 then patch bs 0x20 (le t 8) else bs

/-- A ring is BROKEN: what it holds is discarded (R169, R630). -/
def ringBreak (d : Dev) (r : Ring) : Dev :=
  ctrAdd (setRing d { r with broken := true, reading := false, queue := [], fullSince := none }) cRingDiscarded r.queue.length

/-- Start a head read of a full ring, unless one is outstanding (R164). A connection that is not READY refuses the read, which
fails with it (R169, R525); so does one that host memory cannot be reached for (R630, R636, R638). -/
def startHeadRead (d : Dev) (n : Nat) : Dev :=
  match findRing d n with
  | none => d
  | some r =>
    if r.reading || r.broken then d
    else if !(if r.remote then connReady d r.conn else fnUp d r.owner) then ringBreak d r else
    let d := setRing d { r with reading := true }
    if r.remote then
      postEntry d r.conn
        { op := 0x03, length := 8, raddr := r.headAddr, rkey := Config.remoteKey r.conn r.headAddr, use := .headRead n }
    else hostRead d r.owner r.headAddr 8 (.ringHead n)

/-- FAULT_LAST, the record counters and the interrupt of a fault record just written (R632, R715). -/
def faultWritten (d : Dev) (r : Ring) (bs : Bytes) : Dev :=
  let f : FaultRec := { unit := fld bs 1 0 0 == 1, cause := fld bs 2 11 0, subjKind := fld bs 6 7 0 }
  let d := { d with flt := { d.flt with last := some f } }
  let d := ctrInc d (if f.unit then cRecordsUnit else cRecordsOp)
  if r.remote then d else msixRaise d r.owner

/-- Write a record into the next slot of a ring: mirrored first, then out over PCIe or in one Weft packet (R161, R162,
R695, R707). -/
def ringWriteSlot (d : Dev) (r : Ring) (rec : Bytes) : Dev :=
  let slot := r.produced % r.slots
  let bs := withPhase (withDone rec (now d)) (r.phase r.produced)
  let a := r.base + slot * r.slotBytes
  let d := mirrorPush d [{ kind := 3, owner := r.owner, addr := r.num + r.owner * 2 ^ 12 + slot * 2 ^ 32, data := bs }]
  let full := r.room ≤ 1
  let d := setRing d { r with produced := r.produced + 1, fullSince := if full then some (now d) else none }
  let d := if r.remote then
      postEntry d r.conn { op := 0x01, length := bs.length, data := .bytes bs, raddr := a, rkey := Config.remoteKey r.conn a, vc1 := true }
    else hostWrite d r.owner a bs
  let d := if r.kind == 2 then ctrInc d cTokensStreamed else if r.kind == 3 then faultWritten d r bs else d
  if full then startHeadRead d r.num else d

/-- What became of a record. -/
inductive Put where
  | done
  | discarded
deriving DecidableEq, Repr

/-- Put a record into a ring: written, queued while the ring is full, or discarded (R165, R167, R169, R792). `keep`: a
record that has room of its own. -/
def ringPutRaw (d : Dev) (n : Nat) (rec : Bytes) (keep : Bool) : Put × Dev :=
  match findRing d n with
  | none => (.done, ctrInc d cRingDiscarded)
  | some r =>
    if r.broken then (.done, ctrInc d cRingDiscarded)
    else if r.queue.isEmpty && 0 < r.room then (.done, ringWriteSlot d r rec)
    else if r.queue.length < 64 || keep then (.done, startHeadRead (setRing d { r with queue := r.queue ++ [rec] }) n)
    else if r.kind == 3 then (.done, setRing (ctrInc d cFaultDropped) { r with dropped := r.dropped + 1 })
    else (.discarded, ctrInc d cRingDiscarded)

/-! ## Fault records (R680 to R690, R738) -/

/-- The 64 bytes of a fault record, PHASE not yet set (R680). -/
def faultBytes (f : FaultRec) : Bytes :=
  le 0x05 1 ++ le (bit1 f.unit + 2 * bit1 (f.witness == 0xFFFFFFFF)) 1 ++ le f.cause 2 ++ le f.status 2 ++
  le f.subjKind 1 ++ le 0 1 ++ le f.subject 8 ++ le f.first 8 ++ le f.last 8 ++ le f.witness 4 ++ le f.tag.toNat 4 ++
  le f.detail0 8 ++ le f.detail1 8 ++ le f.seq.toNat 4 ++ le (f.lane + 128 * bit1 f.remote) 1 ++ le 0 3

/-- An owner's fault ring: the lowest-numbered ring with RKIND 3 that it owns (R171). -/
def faultRing (d : Dev) (o : Nat) : Option Ring :=
  match least ((d.rings.filter (fun r => r.kind == 3 && r.owner == o)).map (·.num)) with
  | none => none
  | some n => findRing d n

/-- Put a fault record into an owner's fault ring; held in the bring-up log, or dropped and counted, when it has none
(R167, R172, R738). -/
def faultPut (d : Dev) (o : Nat) (f : FaultRec) : Dev :=
  match faultRing d o with
  | some r => (ringPutRaw d r.num (faultBytes f) false).2
  | none =>
    if o == 64 && d.flt.log.length < 256 then { d with flt := { d.flt with log := d.flt.log ++ [f] } }
    else ctrInc d cFaultDropped

/-- Causes whose DETAIL0 holds a count (R684, R688). -/
def countCause (c : Nat) : Bool :=
  [0x103, 0x105, 0x230, 0x412, 0x418, 0x423, 0x614, 0x810, 0x812, 0xA20].contains c

/-- The next-allowed time of a subject and destination (R687). -/
def nextAllowed (d : Dev) (k s o : Nat) : Nat :=
  match d.flt.allowed.find? (fun a => a.subjKind == k && a.subject == s && a.dest == o) with
  | some a => a.time
  | none => 0

/-- Set it (R687). -/
def setAllowed (d : Dev) (k s o t : Nat) : Dev :=
  let rest := d.flt.allowed.filter (fun a => !(a.subjKind == k && a.subject == s && a.dest == o))
  { d with flt := { d.flt with allowed := { subjKind := k, subject := s, dest := o, time := t } :: rest } }

/-- Whether an entry of the coalescing table has a key (R686). -/
def CoEntry.isKey (e : CoEntry) (k s c o : Nat) : Bool :=
  e.subjKind == k && e.subject == s && e.cause == c && e.dest == o

/-- Write the record of an entry's pending detections and move the next-allowed time (R687, R688, R689). -/
def unitPut (d : Dev) (e : CoEntry) : Dev :=
  let d := faultPut d e.dest
    { unit := true, cause := e.cause, subjKind := e.subjKind, subject := e.subject, first := e.first, last := e.last,
      witness := min e.pending 0xFFFFFFFF, detail0 := e.detail0, detail1 := e.detail1 }
  let es := d.flt.entries.map (fun x =>
    if x.isKey e.subjKind e.subject e.cause e.dest then { x with pending := 0, detail0 := 0, detail1 := 0 } else x)
  let d := { d with flt := { d.flt with entries := es } }
  setAllowed d e.subjKind e.subject e.dest (now d + coalesceNs d)

/-- Add one detection to an entry (R686, R688). -/
def CoEntry.add (e : CoEntry) (t d0 d1 : Nat) : CoEntry :=
  { e with
    pending := e.pending + 1
    first := if e.pending == 0 then t else e.first
    last := t
    detail0 := if countCause e.cause && e.pending != 0 then min (e.detail0 + d0) 0xFFFFFFFF else d0
    detail1 := d1 }

/-- A unit detection (R686 to R689): coalesced for the fault ring of owner `o`. -/
def detectPut (d : Dev) (o k s c d0 d1 : Nat) : Dev :=
  let d := ctrInc d cDetections
  let t := now d
  let known := d.flt.entries.find? (fun e => e.isKey k s c o)
  if known.isNone && 4096 ≤ d.flt.entries.length then
    let d := ctrInc d cCoalesceFull
    { d with flt := { d.flt with fullLost := d.flt.fullLost + 1 } }
  else
    let e := (known.getD { subjKind := k, subject := s, cause := c, dest := o }).add t d0 d1
    let es := if known.isNone then d.flt.entries ++ [e] else replaceFirst (fun x => x.isKey k s c o) e d.flt.entries
    let d := { d with flt := { d.flt with entries := es } }
    if nextAllowed d k s o ≤ t && e.pending == 1 then unitPut d e else d

/-- Report the rings that have become BROKEN: FC_104, or FC_811 for a host ring (R169, R630); `fuel` bounds them. -/
def tellBroken : Nat → Dev → Dev
  | 0, d => d
  | f + 1, d => match d.rings.find? (fun r => r.broken && !r.told) with
    | none => d
    | some r =>
      let d := setRing d { r with told := true }
      tellBroken f (if r.remote then detectPut d 64 0x04 r.subject 0x104 0 0
        else ctrInc (faultPut d 64 { unit := false, cause := 0x811, first := now d, last := now d }) cHostReadFail)

/-- What broke on the way is reported. -/
def brokenTold (d : Dev) : Dev := tellBroken d.rings.length d

/-- Write a fault record for an owner. -/
def faultWrite (d : Dev) (o : Nat) (f : FaultRec) : Dev := brokenTold (faultPut d o f)

/-- An operation record (R681): never coalesced. -/
def faultOp (d : Dev) (ref : OpRef) (cause status d0 d1 : Nat) : Dev :=
  faultWrite d ref.owner
    { unit := false, cause := cause, status := status, subjKind := 0, subject := ref.request.toNat, first := now d,
      last := now d, tag := if ref.intake then ref.tag else 0, seq := if ref.intake then ref.seq else 0,
      lane := if ref.intake then ref.lane else 0, remote := ref.remote, detail0 := d0, detail1 := d1 }

/-- An operation record with SUBJECT zero for the physical function's fault ring (R682, R746, R754, R778). -/
def faultPlain (d : Dev) (cause d0 d1 : Nat) : Dev :=
  faultWrite d 64 { unit := false, cause := cause, first := now d, last := now d, detail0 := d0, detail1 := d1 }

/-- Write the record of an entry of the coalescing table. -/
def writeUnit (d : Dev) (e : CoEntry) : Dev := brokenTold (unitPut d e)

/-- A unit detection, for the fault ring of owner `o`. -/
def detectFor (d : Dev) (o k s c d0 d1 : Nat) : Dev := brokenTold (detectPut d o k s c d0 d1)

/-- A unit detection for the physical function's fault ring. -/
def detect (d : Dev) (k s c d0 d1 : Nat) : Dev := detectFor d 64 k s c d0 d1

/-- A unit detection with subject DEVICE (R682). -/
def detectDevice (d : Dev) (c d0 d1 : Nat) : Dev := detect d 0x01 (fleet d) c d0 d1

/-- Put a record into a ring; a discarded one is reported under FC_105 (R792). -/
def ringPut (d : Dev) (n : Nat) (rec : Bytes) (keep : Bool) : Dev :=
  match ringPutRaw d n rec keep with
  | (.done, d) => brokenTold d
  | (.discarded, d) => match findRing d n with
    | some r => detect d 0x04 r.subject 0x105 1 0
    | none => d

/-- Write queued records of a ring while it has room; `fuel` bounds their number (R165). -/
def ringDrain (n : Nat) : Nat → Dev → Dev
  | 0, d => d
  | f + 1, d => match findRing d n with
    | none => d
    | some r => match r.queue with
      | [] =>
        if 0 < r.dropped && 0 < r.room then
          detectFor (setRing d { r with dropped := 0 }) r.owner 0x04 r.subject 0x103 r.dropped 0
        else d
      | rec :: rest =>
        if r.broken || r.room == 0 then d
        else ringDrain n f (ringWriteSlot d { r with queue := rest } rec)

/-! ## Completion records (R173 to R177) -/

/-- The 64 bytes of a completion record; DONE and PHASE are set when it is written (R173). -/
def completionBytes (type kind status : Nat) (ref : OpRef) (bound r0 r1 : Nat) : Bytes :=
  le type 1 ++ le kind 1 ++ le status 2 ++ le ref.tag.toNat 4 ++ le ref.request.toNat 8 ++ le ref.seq.toNat 4 ++
  le (ref.lane + 128 * bit1 ref.remote) 1 ++ le 0 3 ++ le ref.arrival 8 ++ le 0 8 ++ le bound 8 ++ le r0 8 ++ le r1 4 ++
  le 0 4

/-- A fault record about the operation still waits in a full fault ring's pending queue (R177, R681). -/
def faultPending (d : Dev) (ref : OpRef) : Bool :=
  match faultRing d ref.owner with
  | none => false
  | some r => r.queue.any (fun b =>
      fld b 1 0 0 == 0 && fld b 8 63 0 == ref.request.toNat && fld b 0x24 31 0 == (if ref.intake then ref.tag.toNat else 0) &&
      fld b 0x38 31 0 == (if ref.intake then ref.seq.toNat else 0) && fld b 0x3C 6 0 == (if ref.intake then ref.lane else 0))

/-- Put an operation completion into its ring; when its fault record still waits, it waits behind that (R177). -/
def putCompletion (d : Dev) (ref : OpRef) (rec : Bytes) (keep : Bool) : Dev :=
  if faultPending d ref then { d with flt := { d.flt with behind := d.flt.behind ++ [{ ref := ref, rec_ := rec, keep := keep }] } }
  else ringPut d ref.ring rec keep

/-- The completions whose fault records are written by now follow them (R177). -/
def releaseBehind (d : Dev) : Dev :=
  let go := d.flt.behind.filter (fun b => !faultPending d b.ref)
  go.foldl (fun d b => ringPut d b.ref.ring b.rec_ b.keep)
    { d with flt := { d.flt with behind := d.flt.behind.filter (fun b => faultPending d b.ref) } }

/-- Write an operation completion to the record's completion ring (R175, R793). An operation that arrived over the Weft transport
has no room held for its completion (R792). -/
def complete (d : Dev) (ref : OpRef) (status bound r0 r1 : Nat) : Dev :=
  match findRing d ref.ring with
  | some r => if r.kind == 1 && (ref.owner == 64 || r.owner == ref.owner) then
        putCompletion d ref (completionBytes 0x01 ref.kind status ref bound r0 r1) (ref.intake && !ref.weft)
      else ctrInc d cRingDiscarded
  | none => ctrInc d cRingDiscarded

/-- End an operation: a completion for every status other than ST_OK, and for ST_OK with NOTIFY (R175). -/
def finishOp (d : Dev) (ref : OpRef) (status r0 r1 : Nat) : Dev :=
  if status == St.ok && !ref.notify then d else complete d ref status 0 r0 r1

/-- Refuse a record: nothing but its completion (R138, R175). -/
def refuse (d : Dev) (ref : OpRef) (status : Nat) : Dev := complete d ref status 0 0 0

end Sys2Proof.Machine
end

