-- ==== Sys2Proof/Machine/Admit.lean ====
section
/-! DEFINITION. The timing contract (R65 to R125): the cost model, the ledgers, placing and admission, the overrun
counters, deadline faults, abandoning operations. -/

namespace Sys2Proof.Machine

open Sys2Proof

/-! ## Cost model (R102 to R106) -/

/-- Division rounded up; by zero, a work no ledger can hold. -/
def divUp (n d : Nat) : Nat := if d = 0 then 2 ^ 64 else (n + d - 1) / d

/-- I/O cycles at 1.2 GHz in ns (R103). -/
def ioNs (c : Nat) : Nat := divUp (c * 5) 6
/-- Fabric cycles at 1.8 GHz in ns (R103). -/
def fabNs (c : Nat) : Nat := divUp (c * 5) 9

/-! Crossings of R102 and the fixed terms of R103. -/
abbrev xPortIo : Nat := 4
abbrev xIoPort : Nat := 4
abbrev xIoStk : Nat := 2
abbrev xStkIo : Nat := 3
abbrev xIoFab : Nat := 3
abbrev xFabIo : Nat := 4
abbrev xIoFlash : Nat := 3
abbrev xFlashIo : Nat := 4
abbrev xPcie : Nat := 4
abbrev tAdm : Nat := 334
abbrev tHed0 : Nat := 200
abbrev tStk0 : Nat := 150
/-- T_SEL over P far pages. -/
def tSel (p : Nat) : Nat := ioNs ((p + 15) / 16 + 64)
/-- T_FILL of draft d. -/
def tFill (d : Dev) (dr : Nat) : Nat := fabNs (img d (0x40100 + 8 * dr) 31 16)
/-- ⌈log2 n⌉. -/
def clog2 (n : Nat) : Nat := if n ≤ 1 then 0 else Nat.log2 (n - 1) + 1
/-- T_MERGE across n runs. -/
def tMerge (n qHeads : Nat) : Nat := fabNs (512 * clog2 n + 2 * qHeads)
/-- T_MIR. -/
def tMir (d : Dev) : Nat := 2 * selFlight d + 500

/-- Runs of draft d reserved for class G. -/
def draftRuns (d : Dev) (dr : Nat) : Nat := img d (0x40100 + 8 * dr) 9 0
/-- UNIT_CYCLES of draft d. -/
def draftUnit (d : Dev) (dr : Nat) : Nat := img d (0x40100 + 8 * dr) 63 32

/-- A stack is usable in READY or SUSPECT (R306). -/
def StackUnit.usable (u : StackUnit) : Bool := u.st == 1 || u.st == 2

/-- Usable stacks in ascending order (R303, R322). -/
def usableStacks (d : Dev) : List Nat := (List.range 12).filter (fun n => (d.stk.units.getD n {}).usable)

/-- STK work of bytes: SHARE.STK / 256 × 21 TB/s × U / 12 (R104, R290). -/
def stkNs (d : Dev) (b : Nat) : Nat := divUp (b * 256 * 12) (shareStk d * 21000 * (usableStacks d).length)
/-- SHT work of expanded bytes: 19.2 GB/s a shuttle. -/
def shtExpandNs (d : Dev) (b : Nat) : Nat := divUp (b * 10) (shareSht d * 192)
/-- SHT work of bypass bytes: 76.8 GB/s a shuttle. -/
def shtBypassNs (d : Dev) (b : Nat) : Nat := divUp (b * 10) (shareSht d * 768)
/-- A tile that keeps its run out of service: fenced, or failed in self-test (R507, R509). -/
def tileOut (d : Dev) (t : Nat) : Bool := d.fab.fenced.contains t || d.fab.badTiles.contains t

/-- A of a draft: its runs in service (R508). -/
def runsAvail (d : Dev) (dr : Nat) : Nat :=
  (d.fab.runs.filter (fun r => r.draft == dr && !r.tiles.any (tileOut d))).length

/-- The draft table's entry of a draft kind (R480). -/
def draftOf (d : Dev) (kind : Nat) : Option Nat := (List.range 16).find? (fun i => img d (0x100100 + 8 * i) 2 0 == kind)

/-- Runs the FAB(d) ledger counts (R508). -/
def fabRuns (d : Dev) (dr : Nat) : Nat := min (draftRuns d dr) (runsAvail d dr)

/-- FAB work of fabric cycles: min(RUNS, A) × 1.8 GHz (R104, R508). -/
def fabWorkNs (d : Dev) (dr c : Nat) : Nat := divUp (c * 10) (fabRuns d dr * 18)

/-- READY bobbin targets (R356). -/
def readyTargets (d : Dev) : List Nat := (d.bob.targets.filter (fun t => t.2.st == 1)).map (·.1)

/-- Bobbin targets that the BOB ledger counts (R104, R357). -/
def bobTargets (d : Dev) : Nat := min (shareBob d) (readyTargets d).length
/-- A port's rate is 200 GB/s; in mode 2 it is 100 GB/s (R580). -/
def portWide (d : Dev) (p : Nat) : Bool := img d (0x200000 + p * 0x10000) 1 0 != 2
/-- PRT work of wire bytes on port p (R104, R580). -/
def prtNs (d : Dev) (p b : Nat) : Nat := divUp b (if portWide d p then 200 else 100)
/-- BOB work of 16 KiB units: TARGETS units per 1.2 ms. -/
def bobNs (d : Dev) (u : Nat) : Nat := divUp (u * 1200000) (bobTargets d)
/-- Twice the GT/s of a link rate code (R640). -/
def rateGt2 (r : Nat) : Nat := [0, 5, 10, 16, 32, 64, 128].getD r 0
/-- PCI work of bytes at the trained link's rate (R104, R619). -/
def pciNs (d : Dev) (b : Nat) : Nat :=
  divUp (b * 256 * 2048) (sharePcie d * 100 * (d.host.width * rateGt2 d.host.rate))
/-- PCI bytes of a write of `n` bytes at an address: 24 for each aligned block it touches (R620). -/
def pciBytes (d : Dev) (a n : Nat) : Nat :=
  if n = 0 then 0 else n + 24 * ((a + n - 1) / maxPayload d - a / maxPayload d + 1)
/-- Wire bytes of a payload: 160 per packet of at most 4,096 (R106). -/
def wireBytes (n : Nat) : Nat := n + 160 * max 1 ((n + 4095) / 4096)

/-! ## Ledgers (R90, R91, R104) -/

abbrev lSTK : Nat := 0
abbrev lSHT : Nat := 1
def lFAB (dr : Nat) : Nat := 2 + dr
def lPRT (p : Nat) : Nat := 18 + p
abbrev lBOB : Nat := 26
abbrev lPCI : Nat := 27

/-- Overrun class of a stage: STK 0, SHT 1, FAB 2, PRT 3, BOB 4, PCI 5, MIR 6 (R111, R126). -/
def Stage.ovClass (s : Stage) : Nat :=
  if s.mirror then 6 else if s.ledger = 0 then 0 else if s.ledger = 1 then 1 else if s.ledger < 18 then 2
  else if s.ledger < 26 then 3 else if s.ledger = 26 then 4 else 5

/-- Register addresses of a port's gate lists (R617). -/
def gList (p l : Nat) : Nat := 0x200000 + p * 0x10000 + 0x100 + 8 * l
def gEntry (p l k : Nat) : Nat := 0x200000 + p * 0x10000 + 0x200 + 0x200 * l + 8 * k

/-- Length of the part of [a, b) that lies within [x, y). -/
def overlap (a b x y : Nat) : Nat := min b y - max a x

/-- Class G open time within [a, b) of one cycle of a gate list that starts at `c` (R606); entries from `k`. -/
def openInCycle (d : Dev) (p l a b : Nat) : Nat → Nat → Nat → Nat
  | 0, _, _ => 0
  | n + 1, k, c =>
    let dur := img d (gEntry p l k) 23 0
    (if img d (gEntry p l k) 24 24 = 1 then overlap a b c (c + dur) else 0) + openInCycle d p l a b n (k + 1) (c + dur)

/-- Class G open time within [a, b) under list l with start S: over the cycles that touch it; `fuel` bounds them. -/
def openTime (d : Dev) (p l s a b : Nat) : Nat → Nat → Nat
  | 0, _ => 0
  | f + 1, i =>
    let cyc := img d (gList p l) 23 0
    let c := s + i * cyc
    if b ≤ c then 0
    else openInCycle d p l a b (img d (gList p l) 30 24) 0 c + openTime d p l s a b f (i + 1)

/-- Class G open time of [a, b) on a port: the list in force, and from a pending switchover's time its list (R118). -/
def portOpen (d : Dev) (p a b : Nat) : Nat :=
  let pt := d.ports.getD p {}
  let one (l s a b : Nat) : Nat :=
    let cyc := img d (gList p l) 23 0
    if cyc = 0 || b ≤ a then 0 else openTime d p l s a b ((b - a) / cyc + 2) ((a - s) / cyc)
  match pt.pending with
  | none => one pt.active pt.gateStart a b
  | some (l, t) => one pt.active pt.gateStart a (min b t) + one l t (max a t) b

/-- STK capacity of a bucket: Δ − 40, scaled by the latest epoch that starts at or before it (R104, R118). -/
def stkScale (d : Dev) (t : Nat) : Nat × Nat :=
  match d.adm.stkCap.find? (fun e => e.start ≤ t) with
  | some e => (e.num, e.den)
  | none => (1, 1)

/-- Capacity of bucket `b` of a ledger in ns (R104, R580). -/
def capOf (d : Dev) (l b : Nat) : Nat :=
  let w := bucketNs d
  if l = 0 then (w - 40) * (stkScale d (b * w)).1 / (stkScale d (b * w)).2
  else if l = 1 then w - 214
  else if l < 18 then w - 623
  else if l < 26 then
    let o := portOpen d (l - 18) (b * w) ((b + 1) * w)
    if portWide d (l - 18) then o else o * 63 / 64
  else w

/-- The class G rate of a ledger as far as it can change: usable stacks, runs, targets, lanes and speed of the host link (R290,
R357, R508, R619). -/
def rateOf (d : Dev) (l : Nat) : Nat :=
  if l = 0 then (usableStacks d).length else if l = 1 then 1 else if l < 18 then fabRuns d (l - 2) else if l < 26 then 1
  else if l = 26 then bobTargets d else d.host.width * rateGt2 d.host.rate

/-- What a booking takes of a bucket: it keeps its converted work, and that work takes the longer the lower the rate has become
(R118, R290, R316, R357, R508, R619). -/
def loadOf (d : Dev) (x : Booking) : Nat :=
  if x.rate == rateOf d x.ledger then x.ns else divUp (x.ns * x.rate) (rateOf d x.ledger)

/-- What is booked in a bucket (R91). -/
def bookedIn (d : Dev) (bs : List Booking) (l b : Nat) : Nat :=
  ((bs.filter (fun x => x.ledger == l && x.bucket == b)).map (loadOf d)).sum

/-- End of the horizon in buckets (R90). -/
def horizonEnd (d : Dev) : Nat := if bucketNs d = 0 then 0 else now d / bucketNs d + 8192

/-- Place work into buckets from `b` on (R92): the deadline and the new bookings, or none when it does not fit. DESIGN CHOICE (log entry
79): a bucket that holds more than its capacity has room 0. -/
def placeFrom (d : Dev) (l op : Nat) : Nat → Nat → Nat → List Booking → Option (Nat × List Booking)
  | 0, _, _, _ => none
  | f + 1, b, w, bs =>
    let room := capOf d l b - bookedIn d bs l b
    let take := if room < w then room else w
    let bs := if take = 0 then bs else { ledger := l, bucket := b, op := op, ns := take, rate := rateOf d l } :: bs
    if w - take = 0 then some ((b + 1) * bucketNs d, bs) else placeFrom d l op f (b + 1) (w - take) bs

/-- The place procedure (R92). -/
def placeStage (d : Dev) (l op ready w : Nat) (bs : List Booking) : Option (Nat × List Booking) :=
  let b := divUp ready (bucketNs d)
  placeFrom d l op (horizonEnd d - b) b w bs

/-- Place stages in pipeline order (R92). -/
def placeAll (d : Dev) (op : Nat) : List Stage → Nat → List Booking → Option (List Stage × Nat × List Booking)
  | [], t, bs => some ([], t, bs)
  | s :: ss, t, bs =>
    match placeStage d s.ledger op (t + s.pre) s.work bs with
    | none => none
    | some (dl, bs) => match placeAll d op ss dl bs with
      | none => none
      | some (ss, e, bs) => some ({ s with deadline := dl } :: ss, e, bs)

/-- Nominal remaining cost of an operation (R84): the bound of its remaining stages over empty ledgers; the whole horizon when they do
not fit it. -/
def remainNs (d : Dev) (o : Op) : Nat :=
  match placeAll d o.id (o.stages.drop o.cur) (now d) [] with
  | some (_, e, _) => e - now d
  | none => horizonEnd d * bucketNs d - now d

/-- Class G operations outstanding (R98, R126). -/
def gOutstanding (d : Dev) : Nat := (d.adm.ops.filter (fun o => o.cls == .g)).length

/-- The port of a connection's lowest-numbered enabled path (R538). -/
def Conn.firstPort (c : Conn) : Nat :=
  match (List.range 8).find? (fun p => bitOf c.paths p) with
  | some p => bits c.egress (3 * p + 2) (3 * p)
  | none => 0

/-- The fault route of an owner (R93): ledger and work of one fault record. -/
def faultRoute (d : Dev) (o : Nat) : Option (Nat × Nat) :=
  match faultRing d o with
  | none => none
  | some r =>
    if r.remote then
      let p := match findConn d r.conn with | some c => c.firstPort | none => 0
      some (lPRT p, prtNs d p 224)
    else some (lPCI, pciNs d 88)

/-- Whether the fault ring has more free slots than undelivered class G operations routed to it (R168). -/
def faultRoom (d : Dev) (o : Nat) : Bool :=
  match faultRing d o with
  | none => false
  | some r => ((d.adm.ops.filter (fun x => x.cls == .g &&
      (match faultRing d x.ref.owner with | some q => q.num == r.num | none => false))).length) < r.room

/-- Outcome of admission: a refusal with its bound, or the operation's number. -/
inductive Admitted where
  | refused (status bound : Nat)
  | ok (id : Nat)
deriving DecidableEq, Repr

/-- All ones: a stage did not fit inside the horizon (R95). -/
abbrev allOnes : Nat := 0xFFFFFFFFFFFFFFFF

/-- Mark the first `n` bookings as a fault booking (R93). -/
def markFault (n : Nat) (bs : List Booking) : List Booking :=
  (bs.take n).map (fun b => { b with fault := true }) ++ bs.drop n

/-- The admission test (R93 to R95) from arrival `ta`, with fixed terms `post` after the last stage. -/
def admitTest (d : Dev) (id owner ta deadline : Nat) (stages : List Stage) (post : Nat) :
    Nat ⊕ (List Stage × List Booking) :=
  match placeAll d id stages ta d.adm.bookings with
  | none => .inl allOnes
  | some (ss, e, bs) =>
    let x := e + post - ta + 20
    let w := x + divUp x 8192
    let need := w + frNs d
    if deadline < ta + w + frNs d then .inl need
    else match faultRoute d owner with
      | none => .inl need
      | some (l, fw) => match placeStage d l id (deadline - frNs d) fw bs with
        | none => .inl need
        | some (dl, bs2) => if dl ≤ deadline then .inr (ss, markFault (bs2.length - bs.length) bs2) else .inl need

/-- Admit a class G operation, items 3 to 7 of R795. `ready`: the readiness bits its stages need. -/
def admitG (d : Dev) (op : Op) (ready : List Nat) (post : Nat) : Admitted × Dev :=
  let no (st b : Nat) : Admitted × Dev := (.refused st b, ctrInc d cGRefused)
  let ta := op.ref.arrival
  if op.budget = 0 then no St.budgetExpired 0
  else if !ready.all (isReady d) then no St.notReady 0
  else if 65536 ≤ gOutstanding d then no St.ledgerFull 0
  else if !faultRoom d op.ref.owner then no St.ringFull 0
  else
    let id := d.adm.nextOp
    let dl := min (ta + op.budget) (horizonEnd d * bucketNs d)
    match admitTest d id op.ref.owner ta dl op.stages post with
    | .inl b => no St.admitBound b
    | .inr (ss, bs) =>
      let o := { op with id := id, deadline := some dl, stages := ss }
      let a := { d.adm with ops := d.adm.ops ++ [o], nextOp := id + 1, bookings := bs }
      (.ok id, ctrInc { d with adm := a } cGAccepted)

/-- Accept a class B operation (R81, R99). DESIGN CHOICE (log entry 80): the queue of a first stage has no size, so it always has
room. -/
def acceptB (d : Dev) (op : Op) (ready : List Nat) : Admitted × Dev :=
  if !ready.all (isReady d) then (.refused St.notReady 0, d) else
  let id := d.adm.nextOp
  let o := { op with id := id, deadline := if op.budget = 0 then none else some (op.ref.arrival + op.budget) }
  (.ok id, ctrInc { d with adm := { d.adm with ops := d.adm.ops ++ [o], nextOp := id + 1 } } cBAccepted)

/-- Round a bound up to the quantum of quiet mode; all ones stays (R100). -/
def quietBound (d : Dev) (b : Nat) : Nat :=
  let q := quietNs d
  if q = 0 || b = allOnes then b else min (divUp b q * q) allOnes

/-- When an admission reply leaves: in quiet mode, at the first multiple of the quantum after the arrival stamp that is
not before now (R100). -/
def quietTime (d : Dev) (ta : Nat) : Nat :=
  let q := quietNs d
  if q = 0 then now d else max ((ta / q + 1) * q) (divUp (now d) q * q)

/-- Answer a far job without a partial (R87): the home's status and bound go back to the generation device. -/
def farEnd (d : Dev) (fl : Nat) (ret : U64) (status bound : Nat) : Dev := emitWA d (.farEnd fl ret status bound)

/-- Give an admission refusal: at once, or held until the quantum boundary (R95, R100). -/
def admissionReply (d : Dev) (ref : OpRef) (status bound : Nat) : Dev :=
  if quietNs d = 0 then complete d ref status bound 0 0
  else { d with adm := { d.adm with held := d.adm.held ++ [{
    time := quietTime d ref.arrival
    ref := ref
    status := status
    bound := quietBound d bound }] } }

/-- The same for a far job: its answer goes back to the generation device (R51, R87, R95, R100). -/
def farReply (d : Dev) (ref : OpRef) (fl : Nat) (ret : U64) (status bound : Nat) : Dev :=
  if quietNs d = 0 then farEnd d fl ret status bound
  else { d with adm := { d.adm with held := d.adm.held ++ [{
    time := quietTime d ref.arrival
    ref := ref
    status := status
    bound := quietBound d bound
    far := some fl
    ret := ret }] } }

/-! ## After admission (R111 to R117) -/

/-- An operation in service. -/
def findOp (d : Dev) (id : Nat) : Option Op := d.adm.ops.find? (·.id == id)

/-- The time to which the BUDGET of what an operation passes on counts (R75): its arrival and the budget it came with. -/
def Op.passOn (o : Op) : Option Nat := if o.budget = 0 then none else some (o.ref.arrival + o.budget)

/-- Store an operation. -/
def setOp (d : Dev) (o : Op) : Dev :=
  { d with adm := { d.adm with ops := replaceFirst (fun x => x.id == o.id) o d.adm.ops } }

/-- Complete the send queue entry of an ordinal (R526); `fuel` bounds the entries that were waiting for it. -/
def Conn.entryDone (c : Conn) (n : U32) : Conn :=
  let rec go : Nat → Conn → Conn
    | 0, c => c
    | f + 1, c =>
      if c.doneAhead.contains (c.completed + 1) then
        go f { c with completed := c.completed + 1, doneAhead := c.doneAhead.filter (· != c.completed + 1) }
      else c
  go (c.doneAhead.length + 1) { c with doneAhead := n :: c.doneAhead }

/-- A connection gives up an operation's entries and the messages that they have begun. -/
def Conn.withdraw (c : Conn) (id : Nat) : Conn :=
  let mine := (c.queue.filter (fun e => e.use == .op id)).map (·.ordinal) ++
    (c.msgs.filter (fun m => m.use == .op id && !m.entryEnded)).map (·.ordinal)
  mine.eraseDups.foldl Conn.entryDone { c with
    queue := c.queue.filter (fun e => e.use != .op id)
    msgs := c.msgs.map (fun m => if m.use == .op id then { m with withdrawn := true } else m) }

/-- Take an abandoned operation's entries from the send queues, and the packets of its messages from the ports: nothing more of it
leaves, and nothing of it is sent again (R113). DESIGN CHOICE (log entry 87). -/
def withdraw (d : Dev) (id : Nat) : Dev :=
  if !d.weft.conns.any (fun c => c.queue.any (fun e => e.use == .op id) || c.msgs.any (fun m => m.use == .op id)) then d else
  let gone := d.weft.conns.flatMap (fun c => (c.msgs.filter (fun m => m.use == .op id)).map (fun m => (c.num, m.msn)))
  { d with
    weft := { d.weft with conns := d.weft.conns.map (fun c => c.withdraw id) }
    ports := d.ports.map (fun p => { p with queue := p.queue.filter (fun f => !gone.any (fun x => f.dep == some x)) }) }

/-- Take an operation out and release its bookings (R115, R117). -/
def dropOp (d : Dev) (id : Nat) : Dev :=
  { d with adm := { d.adm with
      ops := d.adm.ops.filter (fun o => o.id != id)
      bookings := d.adm.bookings.filter (fun b => b.op != id) } }

/-- Count one job of an owner (R494, R495): 0 ADMITTED, 1 COMPLETED, 2 FAILED, 3 REFUSED. -/
def jobCount (d : Dev) (o k : Nat) : Dev := ctrInc d (cJobs + 0x20 * o + 8 * k)

/-- Take an abandoned member out of its far job; a job with no member ends (R113, R442). -/
def dropMember (d : Dev) (job op : Nat) : Dev :=
  let js := d.retr.jobs.filterMap (fun j =>
    if j.id != job then some j
    else
      let ms := j.members.filter (fun m => m.op != op)
      if ms.isEmpty then none else some { j with members := ms })
  { d with retr := { d.retr with jobs := js } }

/-- The first member of a batch leaves: the next one takes over its stages and their bookings (R441). -/
def handOver (d : Dev) (o : Op) : Dev :=
  match o.what with
  | .farJob j _ => match d.retr.jobs.find? (fun x => x.id == j) with
    | none => d
    | some x => match x.members with
      | a :: b :: _ =>
        if a.op != o.id then d else
        { d with adm := { d.adm with
          ops := d.adm.ops.map (fun p => if p.id == b.op then { p with stages := o.stages, cur := o.cur, overran := o.overran } else p)
          bookings := d.adm.bookings.map (fun k => if k.op == o.id && !k.fault then { k with op := b.op } else k) } }
      | _ => d
  | _ => d

/-- What an operation that ends undelivered tells its requester: a completion, or for a far job its answer (R87, R115,
R175, R495). -/
def opEnds (d : Dev) (o : Op) (status : Nat) : Dev :=
  match o.what with
  | .farJob j ret => dropMember (farEnd (jobCount d o.ref.owner 2) o.fleet ret status 0) j o.id
  | .transfer .. => complete (ctrInc d cShtTransfers) o.ref status 0 0 0
  | .relay .. => complete d o.ref status 0 0 0

/-- End an undelivered operation with a fault record and a status (R70, R112, R115, R120). -/
def failOp (d : Dev) (o : Op) (cause status : Nat) : Dev :=
  let d := withdraw (dropOp (handOver d o) o.id) o.id
  let d := if o.cls == .g then ctrInc d cGFaulted else d
  let d := faultOp d o.ref cause status o.detail0 o.detail1
  opEnds d o status

/-- End an undelivered operation with a status and no fault record (R85, R510). -/
def endOp (d : Dev) (o : Op) (status : Nat) : Dev := opEnds (withdraw (dropOp (handOver d o) o.id) o.id) o status

/-- An undelivered operation meets a definite error: of class G with its fault record, of class B with its completion alone (R115,
R525). -/
def stopOp (d : Dev) (o : Op) (cause status : Nat) : Dev := if o.cls == .g then failOp d o cause status else endOp d o status

/-- The current stage ends late: its ledger's overrun counter, and the first overrun is kept (R111). -/
def noteOverrun (d : Dev) (o : Op) (s : Stage) (extra : Nat) : Op × Dev :=
  if o.cls == .g && s.deadline + extra < now d then
    let c := s.ovClass
    let o := { o with overran := some (o.overran.getD c) }
    (o, ctrInc (setOp d o) (cOverrun + 8 * c))
  else (o, d)

/-- The cause of a missed budget: FC_210 to FC_216 by the first overrun, else by the stage in progress (R112). -/
def watchCause (o : Op) : Nat :=
  0x210 + (match o.overran with
    | some c => c
    | none => match o.stages[o.cur]? with
      | some s => s.ovClass
      | none => 6)

/-- Abandon every admitted class G operation that a test picks (R70, R120, R634). -/
def failAll (d : Dev) (p : Op → Bool) (cause status : Nat) : Dev :=
  (d.adm.ops.filter (fun o => o.cls == .g && p o)).foldl (fun d o => failOp d o cause status) d

/-- Operations whose bookings exceed the capacity of a ledger's buckets that begin at or after time `t`, in order of admission
(R119). DESIGN CHOICE (log entry 78): the bucket within which `t` falls is left out. -/
def overbooked (d : Dev) (l t : Nat) : List Nat :=
  let bs := d.adm.bookings.filter (fun b => b.ledger == l && t ≤ b.bucket * bucketNs d)
  let buckets := (bs.map (·.bucket)).eraseDups
  (d.adm.ops.map (·.id)).filter (fun id => buckets.any (fun k =>
    let mine := ((bs.filter (fun b => b.bucket == k && b.op == id)).map (loadOf d)).sum
    let before := ((bs.filter (fun b => b.bucket == k && b.op < id)).map (loadOf d)).sum
    0 < mine && capOf d l k < before + mine))

end Sys2Proof.Machine
end

