-- ==== Sys2Proof/Machine/Operands.lean ====
section
/-! DEFINITION. The operand forms of intake records: the fields of each KIND, their reserved bits and ranges (R137,
R138, R791), the common checks in the order of R798, and the staging range of R227. -/

namespace Sys2Proof.Machine

open Sys2Proof

/-- The taken record of a lane and stamp. -/
def findTaken (d : Dev) (l : Nat) (q : U32) : Option Taken := d.intake.taken.find? (fun t => t.lane == l && t.seq == q)

/-- Take a record out of those that wait. -/
def dropTaken (d : Dev) (t : Taken) : Dev :=
  { d with intake := { d.intake with taken := dropFirst (fun x => x.lane == t.lane && x.seq == t.seq) d.intake.taken } }

/-! Header fields (R137). -/
def Taken.kind (t : Taken) : Nat := fld t.bytes 0 7 0
def Taken.classG (t : Taken) : Bool := fld t.bytes 1 0 0 == 1
def Taken.cls (t : Taken) : Cls := if t.classG then .g else .b
def Taken.notify (t : Taken) : Bool := fld t.bytes 1 1 1 == 1
def Taken.cplRing (t : Taken) : Nat := fld t.bytes 2 11 0
def Taken.tag (t : Taken) : U32 := u32 (fld t.bytes 4 31 0)
def Taken.budget (t : Taken) : Nat := fld t.bytes 8 47 0
def Taken.request (t : Taken) : U64 := u64 (fld t.bytes 0x10 63 0)
def Taken.step (t : Taken) : U32 := u32 (fld t.bytes 0x18 31 0)
/-- Bits of the body. -/
def Taken.f (t : Taken) (off hi lo : Nat) : Nat := fld t.bytes off hi lo

/-- What the records of this intake operation name (R173). -/
def Taken.ref (d : Dev) (t : Taken) : OpRef :=
  { kind := t.kind, lane := t.lane, seq := t.seq, tag := t.tag, request := t.request, ring := t.cplRing,
    owner := laneOwner d t.lane, notify := t.notify, remote := t.remote, intake := true, arrival := t.arrival }

/-- The header's reserved bits are zero, and the fields that a KIND does not use are zero (R137). -/
def Taken.headerOk (t : Taken) : Bool :=
  t.f 1 7 2 == 0 && t.f 2 15 12 == 0 && t.f 8 63 48 == 0 && t.f 0x1C 31 0 == 0 &&
  (!(t.kind == 0x10 || t.kind == 0x01 || t.kind == 0x02) || t.request == 0) &&
  (t.kind == 0x13 || t.kind == 0x14 || t.step == 0)

/-- A kind of the kind table (R138). -/
def kindDefined (k : Nat) : Bool :=
  [0x01, 0x02, 0x10, 0x11, 0x12, 0x13, 0x14, 0x15, 0x20, 0x21, 0x30].contains k

/-- A finite FP32 greater than 0 and less than 1 (R405). -/
def epsilonOk (e : Nat) : Bool := 0 < e && e < 0x3F800000

/-- Reserved bits and ranges of an OPEN, its shape and window apart (R137, R192, R405, R798). -/
def Taken.openOk (t : Taken) : Bool :=
  t.f 0x28 31 23 == 0 && t.f 0x28 22 18 ≤ 16 && t.f 0x2C 31 13 == 0 && t.f 0x30 31 24 == 0 && t.f 0x34 31 24 == 0 &&
  t.f 0x38 63 49 == 0 && 1 ≤ t.f 0x40 31 0 && 1 ≤ t.f 0x44 31 0 &&
  (t.f 0x50 15 0 ≤ 1023 || t.f 0x50 15 0 == 0xFFFF) && t.f 0x52 15 12 == 0 && t.f 0x54 15 0 ≤ 4096 &&
  t.f 0x56 15 0 ≤ 4096 && (t.f 0x5C 7 0 ≤ 15 || t.f 0x5C 7 0 == 0xFF) &&
  (t.f 0x54 15 0 != 0 || epsilonOk (t.f 0x58 31 0)) && zeros t.bytes 0x5D 0x7C

/-- Reserved bits and ranges of a QUERY (R137); LAYER is checked against the request. -/
def Taken.queryOk (t : Taken) : Bool :=
  zeros t.bytes 0x21 0x28 && t.f 0x28 63 49 == 0 && t.f 0x30 63 20 == 0 && zeros t.bytes 0x40 0x7C

/-- Reserved bits and ranges of a LANE_SETUP (R137). -/
def Taken.laneSetupOk (t : Taken) : Bool :=
  t.f 0x20 1 0 ≤ 2 && t.f 0x20 15 2 == 0 && 1 ≤ t.f 0x22 8 0 && t.f 0x22 8 0 ≤ 256 &&
  t.f 0x22 15 9 == 0 && zeros t.bytes 0x24 0x28 && t.f 0x28 2 0 == 0 && t.f 0x30 63 20 == 0 && zeros t.bytes 0x38 0x7C

/-- Reserved bits and ranges of a RING_SETUP (R137, R160). -/
def Taken.ringSetupOk (t : Taken) : Bool :=
  t.f 0x20 31 15 == 0 && t.f 0x24 31 5 == 0 && 6 ≤ t.f 0x24 4 0 && t.f 0x24 4 0 ≤ 20 &&
  t.f 0x28 11 0 == 0 && t.f 0x30 2 0 == 0 && t.f 0x38 63 20 == 0 && zeros t.bytes 0x40 0x7C

/-- Reserved bits and ranges of a STOP_SET (R187). -/
def Taken.stopSetOk (t : Taken) : Bool :=
  t.f 0x20 15 10 == 0 && t.f 0x22 15 1 == 0 && zeros t.bytes 0x24 0x28 && t.f 0x28 63 49 == 0 &&
  (t.f 0x22 0 0 == 0 || t.f 0x28 47 0 == 0) && zeros t.bytes 0x30 0x7C

/-- Reserved bits and ranges of a TRANSFER, its layers and pages apart (R279). -/
def Taken.transferOk (t : Taken) : Bool :=
  let op := t.f 0x20 3 0
  op ≤ 4 && t.f 0x20 7 6 == 0 && t.f 0x21 7 6 == 0 && zeros t.bytes 0x22 0x24 && t.f 0x20 5 4 ≤ 2 &&
  (t.f 0x20 5 4 != 2 || t.f 0x21 3 2 == 2) && (t.f 0x20 5 4 == 0 || op == 1) &&
  t.f 0x21 1 0 ≤ 1 && (t.f 0x21 3 2 != 3 || op == 1) && t.f 0x21 5 4 ≤ 2 && (op != 0 || 1 ≤ t.f 0x24 31 0) &&
  t.f 0x30 31 16 == 0 && (op == 0 || op == 3 || op == 4 || (1 ≤ t.f 0x30 15 8 && 1 ≤ t.f 0x38 31 0)) &&
  t.f 0x3C 31 0 == 0 && t.f 0x50 63 20 == 0 && zeros t.bytes 0x58 0x7C

/-- Reserved bits and wait fields of a FLUSH (R545). -/
def Taken.flushOk (t : Taken) : Bool :=
  t.f 0x20 31 23 == 0 && t.f 0x20 21 20 ≤ 2 && t.f 0x24 31 20 == 0 && zeros t.bytes 0x2C 0x7C &&
  !(t.f 0x20 22 22 == 1 && t.f 0x20 21 20 == 0) && !(t.f 0x20 21 20 != 0 && t.f 0x24 19 0 == t.f 0x20 19 0)

/-- Reserved bits and ranges of a CHECK (R572). -/
def Taken.checkOk (t : Taken) : Bool :=
  t.f 0x20 7 7 == 0 && zeros t.bytes 0x21 0x24 && 1 ≤ t.f 0x24 31 0 && t.f 0x28 63 49 == 0 && zeros t.bytes 0x30 0x7C

/-- Reserved bits and ranges of the body by KIND (R138). -/
def Taken.bodyOk (t : Taken) : Bool :=
  match t.kind with
  | 0x01 => t.laneSetupOk
  | 0x02 => t.ringSetupOk
  | 0x10 => t.openOk
  | 0x11 => zeros t.bytes 0x24 0x7C
  | 0x12 => zeros t.bytes 0x20 0x7C
  | 0x13 => zeros t.bytes 0x24 0x7C
  | 0x14 => t.queryOk
  | 0x15 => t.stopSetOk
  | 0x20 => t.transferOk
  | 0x21 => t.flushOk
  | 0x30 => t.checkOk
  | _ => true

/-- A record of a tenant lane may name a ring only of its owner; the physical function's, any ring (R139). -/
def ringForeign (d : Dev) (owner n : Nat) : Bool :=
  owner != 64 && (match findRing d n with | some r => r.owner != owner | none => false)

/-- CPL_RING names a completion ring the lane may use (R793). -/
def cplRingOk (d : Dev) (owner n : Nat) : Bool :=
  match findRing d n with
  | some r => r.kind == 1 && (owner == 64 || r.owner == owner)
  | none => false

/-- The common checks of R798, items 2 to 6, in order. `own`: what the record names is another owner's; `extra`: a
further status of item 4; `ringFree`: the kind is exempt from the CPL_RING refusal (R793). -/
def recCheck (d : Dev) (t : Taken) (role : Bool) (own : Bool) (extra : Option Nat) (ringFree bOnly cust : Bool) :
    Option Nat :=
  let o := laneOwner d t.lane
  if !role then some St.roleAbsent
  else if !(t.headerOk && t.bodyOk) then some St.recordInvalid
  else if own || ringForeign d o t.cplRing then some St.access
  else if extra.isSome then extra
  else if !ringFree && !cplRingOk d o t.cplRing then some St.ringInvalid
  else if bOnly && t.classG then some St.notGuaranteeable
  else
    -- in custody a TRANSFER runs as class B only; one of class G needs admission, which has stopped (R101, R711, R750)
    let stopped := cust || (t.kind == 0x20 && t.classG)
    if stopped && d.sec.switching then some St.imageSwitch
    else if stopped && d.flt.custody != .normal then some St.custody
    else none

/-- A record names a ring or a request of another owner (R139). -/
def namesForeign (d : Dev) (t : Taken) : Bool :=
  let o := laneOwner d t.lane
  ringForeign d o t.cplRing || (t.kind == 0x02 && ringForeign d o (t.f 0x20 11 0)) ||
  (t.kind == 0x10 && ringForeign d o (t.f 0x52 11 0)) ||
  (t.request != 0 && (d.reqs.live.any (fun r => r.core.requestId == t.request && r.core.owner != o) ||
    d.reqs.note.any (fun e => e.2.2 != o && tget d.reqs.inc e.1 == some (bits t.request.toNat 25 0) &&
      e.1 % 16384 == bits t.request.toNat 39 26)))

/-- The statuses of R795, R122 and R123: refusals of admission, which quiet mode holds (R100, R669). -/
def admissionStatus (st : Nat) : Bool :=
  [St.custody, St.notGuaranteeable, St.budgetExpired, St.notReady, St.ledgerFull, St.ringFull, St.admitBound, St.bobbinSkew,
    St.partnerLost, St.pairForming].contains st

/-- Refuse a taken record (R138, R139): its completion, and for R139 the counter. A refused class G operation is counted (R126); a
QUERY is none here (R87). -/
def refuseTaken (d : Dev) (t : Taken) (st : Nat) : Dev :=
  let d := if st == St.access && namesForeign d t then ctrInc (dropTaken d t) cAccessRefused else dropTaken d t
  let d := if t.classG && t.kind != 0x14 then ctrInc d cGRefused else d
  if admissionStatus st then admissionReply d (t.ref d) st 0 else refuse d (t.ref d) st

/-- The local deadline of a record (R74, R79, R80). -/
def Taken.deadline (t : Taken) : Option Nat := if t.budget == 0 && !t.classG then none else some (t.arrival + t.budget)

/-- The deadline of a class B record has passed (R85). -/
def Taken.late (d : Dev) (t : Taken) : Bool := !t.classG && (match t.deadline with | some x => x < now d | none => false)

/-- Abandon a class B operation whose deadline has passed (R85). -/
def expire (d : Dev) (ref : OpRef) : Dev := complete (ctrInc d cBExpired) ref St.budgetMissed 0 0 0

/-- A taken record that needs admission: a TRANSFER that moves data (R97, R279). -/
def Taken.admits (t : Taken) : Bool := t.kind == 0x20 && t.f 0x20 3 0 != 3 && t.f 0x20 3 0 != 4

/-- An operation from intake is the next to be decided: none of a lower arrival stamp waits, from intake or from the network (R97). -/
def takenTurn (d : Dev) (t : Taken) : Bool :=
  !d.weft.farIn.any (fun f => f.2.2 < t.arrival) &&
  !(d.intake.taken.takeWhile (fun x => !(x.lane == t.lane && x.seq == t.seq))).any (fun x => x.admits && x.arrival ≤ t.arrival)

/-- A far job that has come from the network is the next to be decided: at equal stamps intake goes first, then ports in ascending
number (R97). -/
def farTurn (d : Dev) (conn port ta : Nat) : Bool :=
  !d.intake.taken.any (fun x => x.admits && x.arrival ≤ ta) &&
  !d.weft.farIn.any (fun f => f.1 != conn && (f.2.2 < ta || (f.2.2 == ta && f.2.1 < port)))

/-- The meaning of a taken record's command: it acts on the record of that lane and stamp when its form is the
command's, and otherwise there is no such event. -/
def onTaken (l : Nat) (q : U32) (form : Taken → Bool) (f : Dev → Taken → Dev) (s : State) :
    Host.Outcome State Fault Refusal :=
  onDev (fun d => match findTaken d l q with
    | some t => if form t then f d t else d
    | none => d) s

/-- A connection that a record names belongs to another owner (R139, R545). -/
def connForeign (d : Dev) (owner c : Nat) : Bool :=
  owner != 64 && (match findConn d c with | some k => k.owner != owner | none => false)

/-- Base of the staging partition of an owner (R225). -/
def stageBase (o : Nat) : Nat := 0x10000000000 + o * 0x400000000
/-- Size of the staging partition of an owner (R225, R287). -/
def stageSize (d : Dev) (o : Nat) : Nat := img d (0x80400 + 8 * o) 14 0 * 0x100000
/-- A range lies wholly within the staging partition of an owner (R227). -/
def inStage (d : Dev) (o a n : Nat) : Bool := stageBase o ≤ a && a + n ≤ stageBase o + stageSize d o

end Sys2Proof.Machine
end

