-- ==== Sys2Proof/Machine/Float.lean ====
section
/-! DEFINITION. Number formats and FP32 arithmetic with one rounding: the element formats of R24, the summary format of
R406, Q4B32 (R387 to R394), RN, RU and RD (chapters 9 and 10), and the function exp2 (R452). Finite values are integers
in units of 2^-160; products and sums of products are integers in units of 2^-320. -/

namespace Sys2Proof.Machine

open Sys2Proof

/-- A decoded element. -/
inductive Num where
  | fin (v : Int)
  | inf (neg : Bool)
  | nan
deriving DecidableEq, Repr, Inhabited

/-- A binary format: exponent bits, mantissa bits, bias, and whether it has infinities (R24, R362; E4M3 has none). -/
structure Fmt where
  w : Nat
  mw : Nat
  bias : Nat
  infs : Bool
deriving DecidableEq, Repr

/-- The format of an ELEM_FMT code. -/
def fmtOf : Nat → Fmt
  | 1 => { w := 4, mw := 3, bias := 7, infs := false }
  | 2 => { w := 5, mw := 2, bias := 15, infs := true }
  | 3 => { w := 8, mw := 7, bias := 127, infs := true }
  | _ => { w := 5, mw := 10, bias := 15, infs := true }

/-- FP32 as a format. -/
def f32Fmt : Fmt := { w := 8, mw := 23, bias := 127, infs := true }

/-- Sign bit of a pattern. -/
def Fmt.neg (f : Fmt) (p : Nat) : Bool := bitOf p (f.w + f.mw)
/-- Exponent field of a pattern. -/
def Fmt.exp (f : Fmt) (p : Nat) : Nat := bits p (f.w + f.mw - 1) f.mw
/-- Mantissa field of a pattern. -/
def Fmt.man (f : Fmt) (p : Nat) : Nat := p % 2 ^ f.mw

/-- The value of a pattern in units of 2^-160. -/
def Fmt.num (f : Fmt) (p : Nat) : Num :=
  let e := f.exp p
  let m := f.man p
  if f.infs && e == 2 ^ f.w - 1 then (if m == 0 then .inf (f.neg p) else .nan)
  else if !f.infs && e == 2 ^ f.w - 1 && m == 2 ^ f.mw - 1 then .nan
  else
    let v : Nat := if e = 0 then m * 2 ^ (161 - f.bias - f.mw) else (2 ^ f.mw + m) * 2 ^ (160 + e - f.bias - f.mw)
    .fin (if f.neg p then -(v : Int) else v)

/-- The largest finite pattern. -/
def Fmt.maxPat (f : Fmt) : Nat :=
  if f.infs then (2 ^ f.w - 1) * 2 ^ f.mw - 1 else 2 ^ (f.w + f.mw) - 2

/-- Order of decoded values, infinities at the ends; NaN counts as 0. -/
def Num.key : Num → Int
  | .fin v => v
  | .inf neg => if neg then -(2 ^ 500) else 2 ^ 500
  | .nan => 0

def Num.isFin : Num → Bool
  | .fin _ => true
  | _ => false

def Num.isNan : Num → Bool
  | .nan => true
  | _ => false

/-! ## Rounding to a format -/

/-- Rounding modes: to nearest with ties to even, upward, downward. -/
inductive Rnd where
  | near
  | up
  | down
deriving DecidableEq, Repr

/-- Whether a magnitude with the given last bit and remainder of `unit` is rounded away from zero. -/
def roundsAway (mode : Rnd) (neg : Bool) (odd : Bool) (rem unit : Nat) : Bool :=
  match mode with
  | .near => unit < 2 * rem || (2 * rem == unit && odd)
  | .up => !neg && rem != 0
  | .down => neg && rem != 0

/-- Magnitude pattern of n × 2^-k rounded to a format, overflow apart. -/
def roundMag (f : Fmt) (mode : Rnd) (neg : Bool) (n k : Nat) : Nat :=
  if n = 0 then 0 else
  let low : Int := 1 - (f.bias : Int) - f.mw
  let u : Int := max ((Nat.log2 n : Int) - k - f.mw) low
  let sh : Int := k + u
  let q := if 0 ≤ sh then n / 2 ^ sh.toNat else n * 2 ^ (-sh).toNat
  let rem := if 0 ≤ sh then n % 2 ^ sh.toNat else 0
  let unit := if 0 ≤ sh then 2 ^ sh.toNat else 1
  let q := if roundsAway mode neg (q % 2 == 1) rem unit then q + 1 else q
  q + (u - low).toNat * 2 ^ f.mw

/-- FP32 pattern of v × 2^-k rounded once. An exact zero gives +0; a result that rounds to zero keeps its sign. -/
def roundF32 (mode : Rnd) (v : Int) (k : Nat) : U32 :=
  if v = 0 then 0 else
  let neg := decide (v < 0)
  let p := roundMag f32Fmt mode neg v.natAbs k
  let p := if p < 0x7F800000 then p else
    match mode with
    | .near => 0x7F800000
    | .up => if neg then 0x7F7FFFFF else 0x7F800000
    | .down => if neg then 0x7F800000 else 0x7F7FFFFF
  u32 (p + (if neg then 0x80000000 else 0))

/-- FP32 value of a pattern. -/
def f32 (x : U32) : Num := f32Fmt.num x.toNat

abbrev f32NaN : U32 := 0x7FC00000
abbrev f32Inf : U32 := 0x7F800000
abbrev f32NegInf : U32 := 0xFF800000
abbrev f32One : U32 := 0x3F800000

/-- Whether a pattern is finite. -/
def f32Fin (x : U32) : Bool := (f32 x).isFin
/-- x < y as FP32 values. -/
def f32Lt (x y : U32) : Bool := !(f32 x).isNan && !(f32 y).isNan && decide ((f32 x).key < (f32 y).key)
/-- x ≤ y as FP32 values. -/
def f32Le (x y : U32) : Bool := !(f32 x).isNan && !(f32 y).isNan && decide ((f32 x).key ≤ (f32 y).key)

/-- An infinity of a sign. -/
def f32InfOf (neg : Bool) : U32 := if neg then f32NegInf else f32Inf

/-- Sum, rounded once. -/
def f32Add (m : Rnd) (x y : U32) : U32 :=
  match f32 x, f32 y with
  | .fin a, .fin b => roundF32 m (a + b) 160
  | .inf a, .inf b => if a == b then f32InfOf a else f32NaN
  | .inf a, .fin _ => f32InfOf a
  | .fin _, .inf b => f32InfOf b
  | _, _ => f32NaN

/-- The pattern with its sign inverted. -/
def f32Neg (x : U32) : U32 := x ^^^ 0x80000000

/-- Difference, rounded once. -/
def f32Sub (m : Rnd) (x y : U32) : U32 := f32Add m x (f32Neg y)

/-- Product, rounded once. -/
def f32Mul (m : Rnd) (x y : U32) : U32 :=
  let neg := f32Fmt.neg x.toNat != f32Fmt.neg y.toNat
  match f32 x, f32 y with
  | .fin a, .fin b => roundF32 m (a * b) 320
  | .inf _, .inf _ => f32InfOf neg
  | .inf _, .fin b => if b = 0 then f32NaN else f32InfOf neg
  | .fin a, .inf _ => if a = 0 then f32NaN else f32InfOf neg
  | _, _ => f32NaN

/-- Quotient of two positive finite values, rounded up (R430). -/
def f32DivUp (x y : U32) : U32 :=
  match f32 x, f32 y with
  | .fin a, .fin b =>
    if b ≤ 0 || a ≤ 0 then 0 else
    let n := a.toNat * 2 ^ 320
    roundF32 .up (((n + b.toNat - 1) / b.toNat : Nat) : Int) 320
  | _, _ => f32NaN

/-- A natural number as FP32, exact below 2^24. -/
def f32Nat (n : Nat) : U32 := roundF32 .near n 0

/-! ## exp2 (R452) and exp_up (R426) -/

/-- t64[j]: the nearest integer to 2^(31 + j/64). -/
def exp2Table : List Nat := [
  0x80000000, 0x8164d1f4, 0x82cd8699, 0x843a28c4, 0x85aac368, 0x871f6197, 0x88980e81, 0x8a14d575, 0x8b95c1e4,
  0x8d1adf5b, 0x8ea4398b, 0x9031dc43, 0x91c3d374, 0x935a2b2f, 0x94f4efa9, 0x96942d37, 0x9837f052, 0x99e04593,
  0x9b8d39ba, 0x9d3ed9a7, 0x9ef53261, 0xa0b05110, 0xa2704303, 0xa43515ae, 0xa5fed6aa, 0xa7cd93b5, 0xa9a15ab5,
  0xab7a39b6, 0xad583eea, 0xaf3b78ad, 0xb123f582, 0xb311c413, 0xb504f334, 0xb6fd91e3, 0xb8fbaf47, 0xbaff5ab2,
  0xbd08a39f, 0xbf1799b6, 0xc12c4cca, 0xc346ccda, 0xc5672a11, 0xc78d74c9, 0xc9b9bd86, 0xcbec14ff, 0xce248c15,
  0xd06333db, 0xd2a81d92, 0xd4f35aac, 0xd744fccb, 0xd99d15c2, 0xdbfbb798, 0xde60f482, 0xe0ccdeec, 0xe33f8973,
  0xe5b906e7, 0xe8396a50, 0xeac0c6e8, 0xed4f301f, 0xefe4b99c, 0xf281773c, 0xf5257d15, 0xf7d0df73, 0xfa83b2db,
  0xfd3e0c0d]

abbrev exp2C1 : Nat := 0xB17217F8
abbrev exp2C2 : Nat := 0x3D7F7BFF
abbrev exp2C3 : Nat := 0x0E35846C

/-- v × 2^-160 in units of 2^-32, to nearest with ties to even. -/
def fixed32 (v : Int) : Int :=
  let q := Int.fdiv v (2 ^ 128)
  let r := v - q * 2 ^ 128
  if 2 ^ 128 < 2 * r || (2 * r = 2 ^ 128 && q % 2 = 1) then q + 1 else q

/-- An approximation of 2^y within a relative error of 2^-22 (R452, R453). -/
def f32Exp2 (y : U32) : U32 :=
  match f32 y with
  | .nan => f32NaN
  | .inf neg => if neg then 0 else f32Inf
  | .fin v =>
    if 128 * 2 ^ 160 ≤ v then f32Inf
    else if v < -(126 * 2 ^ 160) then 0
    else
      let yy := fixed32 v
      let n := Int.fdiv yy (2 ^ 32)
      let f := (yy - n * 2 ^ 32).toNat
      let j := f / 2 ^ 26
      let r := f % 2 ^ 26
      let t := exp2C3 * r / 2 ^ 32
      let t := (exp2C2 + t) * r / 2 ^ 32
      let t := (exp2C1 + t) * r / 2 ^ 32
      let mm := exp2Table.getD j 0 * (2 ^ 32 + t) / 2 ^ 32
      roundF32 .near (mm * 2 ^ (n + 289).toNat : Nat) 320

abbrev l2eUp : U32 := 0x3FB8AA3C
abbrev l2eDn : U32 := 0x3FB8AA3B
abbrev expCUp : U32 := 0x3F800004
/-- 128.0 and -126.0. -/
abbrev f128 : U32 := 0x43000000
abbrev fm126 : U32 := 0xC2FC0000

/-- A value no smaller than e^x (R426). -/
def expUp (x : U32) : U32 :=
  if x == f32Inf then f32Inf else
  let t := f32Mul .up x (if f32Le 0 x then l2eUp else l2eDn)
  if f32Le f128 t then f32Inf else
  let t := if f32Lt t fm126 then fm126 else t
  f32Mul .up (f32Exp2 t) expCUp

/-! ## Elements of a raw page (R236) -/

/-- Bytes of an element. -/
def fmtBytes (fmt : Nat) : Nat := if fmt ≤ 2 then 1 else 2

/-- Byte offset of an element: token, half, head, dimension. -/
def rawOff (s : Shape) (t h k i : Nat) : Nat :=
  (((t * 2 + h) * s.kvHeads + k) * s.headDim + i) * fmtBytes s.fmt

/-- Pattern of an element of a raw page. -/
def rawPat (s : Shape) (page : Bytes) (t h k i : Nat) : Nat := unLe (sub page (rawOff s t h k i) (fmtBytes s.fmt))

/-- Value of an element of a raw page. -/
def rawNum (s : Shape) (page : Bytes) (t h k i : Nat) : Num := (fmtOf s.fmt).num (rawPat s page t h k i)

/-! ## Summaries (R406 to R408) -/

/-- Summary element format: that of the pages, BF16 for FP16 (R406). -/
def sumFmt (fmt : Nat) : Nat := if fmt = 4 then 3 else fmt
/-- Bytes of a summary (R406). -/
def sumBytes (s : Shape) : Nat := 2 * s.kvHeads * s.headDim * fmtBytes (sumFmt s.fmt)

/-- A finite FP16 value as BF16, rounded up or down. -/
def bf16Round (mode : Rnd) (v : Int) : Nat :=
  if v = 0 then 0 else
  let neg := decide (v < 0)
  roundMag (fmtOf 3) mode neg v.natAbs 160 + (if neg then 0x8000 else 0)

/-- Pattern of a summary element: the extreme value, zero as +0, NaN with every exponent and mantissa bit set. -/
def sumPat (fmt : Nat) (mode : Rnd) (x : Num) : Nat :=
  let f := fmtOf (sumFmt fmt)
  match x with
  | .nan => 2 ^ (f.w + f.mw) - 1
  | .inf neg => (2 ^ f.w - 1) * 2 ^ f.mw + (if neg then 2 ^ (f.w + f.mw) else 0)
  | .fin v =>
    if v = 0 then 0
    else if fmt = 4 then bf16Round mode v
    else roundMag f mode (decide (v < 0)) v.natAbs 160 + (if v < 0 then 2 ^ (f.w + f.mw) else 0)

/-- Least or greatest of decoded elements; NaN if any is one. -/
def extreme (least : Bool) : List Num → Num
  | [] => .nan
  | [x] => x
  | x :: xs =>
    let y := extreme least xs
    if x.isNan || y.isNan then .nan
    else if (if least then decide (x.key ≤ y.key) else decide (y.key ≤ x.key)) then x else y

/-- The summary of a page over its first `tokens` positions (R407). -/
def summarize (s : Shape) (page : Bytes) (tokens : Nat) : Bytes :=
  let col (g i : Nat) := (List.range tokens).map (fun t => rawNum s page t 0 g i)
  let half (least : Bool) (mode : Rnd) := (List.range s.kvHeads).flatMap (fun g => (List.range s.headDim).flatMap (fun i =>
    le (sumPat s.fmt mode (extreme least (col g i))) (fmtBytes (sumFmt s.fmt))))
  half true .down ++ half false .up

/-- LO (half 0) or HI (half 1) element of a summary. -/
def sumNum (s : Shape) (summary : Bytes) (half g i : Nat) : Num :=
  let b := fmtBytes (sumFmt s.fmt)
  (fmtOf (sumFmt s.fmt)).num (unLe (sub summary (((half * s.kvHeads + g) * s.headDim + i) * b) b))

/-! ## Q4B32 (R387 to R394) -/

/-- The scale byte of a block whose largest magnitude is `m` (units of 2^-160): the least e with m ≤ 7.5 × 2^(e-127);
`fuel` counts the steps left (R388). -/
def thinScale (m : Nat) : Nat → Nat → Nat
  | 0, e => e
  | n + 1, e => if 2 * m ≤ 15 * 2 ^ (e + 33) then e else thinScale m n (e + 1)

/-- Code nearest to x / s, ties to even (R389). `x` in units of 2^-160, scale byte `e`. -/
def thinCode (x : Int) (e : Nat) : Int :=
  let n := x.natAbs
  let u := 2 ^ (e + 33)
  let q := n / u
  let r := n % u
  let q := if u < 2 * r || (2 * r == u && q % 2 == 1) then q + 1 else q
  let q := min q 7
  if x < 0 then -(q : Int) else q

/-- Split a list of numbers into 32s. -/
def in32 {α : Type} (l : List α) : List (List α) := chunks 32 (l.length / 32 + 1) l

/-- Elements of a raw page in order. -/
def pagePats (s : Shape) (page : Bytes) : List Nat :=
  let b := fmtBytes s.fmt
  (chunks b (page.length / b + 1) page).map unLe

/-- Whether some element is an infinity or a NaN (R393). -/
def pageNonfinite (s : Shape) (page : Bytes) : Bool := (pagePats s page).any (fun p => !((fmtOf s.fmt).num p).isFin)

/-- The thinned form of a page, before its padding to raw blocks (R392). -/
def thinPage (s : Shape) (page : Bytes) : Bytes :=
  let blocks := in32 ((pagePats s page).map (fun p => ((fmtOf s.fmt).num p).key))
  let coded := blocks.map (fun b =>
    let e := thinScale ((b.map Int.natAbs).foldl max 0) 254 0
    (e, b.map (fun x => (thinCode x e % 16).toNat)))
  let nib := coded.flatMap (fun c => c.2)
  (chunks 2 (nib.length / 2 + 1) nib).map (fun p => BitVec.ofNat 8 (p.getD 0 0 + 16 * p.getD 1 0)) ++
  coded.map (fun c => BitVec.ofNat 8 c.1)

/-- A restored element: pattern, and whether it saturates (R390). -/
def thinRestore (fmt : Nat) (nib e : Nat) : Nat × Bool :=
  let f := fmtOf fmt
  let q := if nib < 8 then nib else 16 - nib
  let n := q * 2 ^ (e + 33)
  if n = 0 then (0, false) else
  let p := roundMag f .near (8 ≤ nib) n 160
  let sat := f.maxPat < p
  (min p f.maxPat + (if 8 ≤ nib then 2 ^ (f.w + f.mw) else 0), sat)

/-- Restore a thinned page: none on a reserved code (R394); else the raw page and how many elements saturated. -/
def restorePage (s : Shape) (thin : Bytes) (pageBytes : Nat) : Option (Bytes × Nat) :=
  let n := pageBytes / fmtBytes s.fmt / 32
  let codes := thin.take (16 * n)
  let scales := (thin.drop (16 * n)).take n
  let nibs := codes.flatMap (fun b => [b.toNat % 16, b.toNat / 16])
  if nibs.contains 8 || scales.contains 255#8 then none else
  let els := (chunks 32 n nibs).zip scales
  let vals := els.flatMap (fun p => p.1.map (fun c => thinRestore s.fmt c p.2.toNat))
  some (vals.flatMap (fun v => le v.1 (fmtBytes s.fmt)), (vals.filter (·.2)).length)

end Sys2Proof.Machine
end

