-- ==== Sys2Proof/Machine/Codec.lean ====
section
/-! DEFINITION. The lossless split-plane code on 4 KiB blocks (R360 to R378). -/

namespace Sys2Proof.Machine

open Sys2Proof

/-! ## Planes (R361, R362) -/

/-- Elements of a block. -/
def blockEls (fmt : Nat) (b : Bytes) : List Nat :=
  let k := fmtBytes fmt
  (chunks k (b.length / k + 1) b).map unLe

/-- Elements in a block of a format. -/
def elsPerBlock (fmt : Nat) : Nat := 4096 / fmtBytes fmt

/-- Mantissa field: sign and mantissa bits (R362). -/
def manField (f : Fmt) (p : Nat) : Nat := f.man p + (if f.neg p then 2 ^ f.mw else 0)

/-- The element of an exponent field and a mantissa field. -/
def joinEl (f : Fmt) (e m : Nat) : Nat := e * 2 ^ f.mw + m % 2 ^ f.mw + (m / 2 ^ f.mw) * 2 ^ (f.w + f.mw)

/-- Fields of `k` bits packed least significant first (R362). -/
def packLsb (k : Nat) : List Nat → Nat
  | [] => 0
  | x :: xs => x + 2 ^ k * packLsb k xs

/-- The first `n` fields of `k` bits of a packed number. -/
def unpackLsb (k : Nat) : Nat → Nat → List Nat
  | 0, _ => []
  | n + 1, x => x % 2 ^ k :: unpackLsb k n (x / 2 ^ k)

/-- Bytes of the mantissa plane. -/
def manPlane (fmt : Nat) : Nat := elsPerBlock fmt * ((fmtOf fmt).mw + 1) / 8

/-! ## Symbols (R363 to R368) -/

/-- A symbol of the exponent plane. -/
inductive Sym where
  | d (k : Nat)
  | esc (e : Nat)
  | z (len : Nat)
deriving DecidableEq, Repr

/-- Symbol index (R364). -/
def Sym.index : Sym → Nat
  | .d k => k
  | .esc _ => 15
  | .z _ => 16

/-- The runs of a number of zero fields, 255 at most each (R365). -/
def zRuns : Nat → Nat → List Sym
  | 0, _ => []
  | f + 1, n => if n = 0 then [] else if 255 < n then .z 255 :: zRuns f (n - 255) else [.z n]

/-- Symbols of an exponent plane with `run` zero fields before it (R364, R365). -/
def symbols (a : Nat) : Nat → List Nat → List Sym
  | run, [] => zRuns (run + 1) run
  | run, e :: es =>
    if e = 0 then symbols a (run + 1) es
    else zRuns (run + 1) run ++ (if a - e ≤ 14 then Sym.d (a - e) else Sym.esc e) :: symbols a 0 es

/-- Code lengths of the eight tables (R367). -/
def prefixLens : List (List Nat) := [
  [3, 3, 3, 4, 5, 6, 7, 8, 10, 11, 11, 12, 12, 12, 12, 10, 1],
  [3, 2, 2, 3, 4, 4, 5, 6, 7, 8, 10, 10, 11, 12, 12, 10, 4],
  [5, 3, 2, 2, 3, 4, 4, 5, 6, 7, 9, 10, 11, 12, 12, 8, 5],
  [6, 4, 3, 3, 3, 3, 3, 3, 4, 5, 6, 6, 8, 9, 9, 7, 5],
  [3, 3, 3, 3, 3, 4, 5, 6, 7, 9, 9, 10, 11, 12, 12, 9, 2],
  [6, 6, 4, 4, 4, 3, 3, 3, 3, 4, 4, 5, 5, 6, 6, 5, 5],
  [4, 4, 4, 4, 4, 4, 4, 4, 4, 4, 4, 5, 5, 5, 5, 3, 4],
  [4, 4, 4, 4, 4, 4, 4, 4, 4, 4, 4, 4, 4, 4, 4, 5, 5]]

/-- Length of the code of a symbol. -/
def codeLen (sel s : Nat) : Nat := (prefixLens.getD sel []).getD s 0

/-- First code of a length (R368). -/
def firstCode (sel : Nat) : Nat → Nat
  | 0 => 0
  | l + 1 => (firstCode sel l + (if l = 0 then 0 else ((prefixLens.getD sel []).filter (· == l)).length)) * 2

/-- Code of a symbol (R368). -/
def codeOf (sel s : Nat) : Nat :=
  firstCode sel (codeLen sel s) + (((prefixLens.getD sel []).take s).filter (· == codeLen sel s)).length

/-- `k` bits of a number, most significant first (R366). -/
def bitsMsb (x : Nat) : Nat → List Bool
  | 0 => []
  | k + 1 => bitOf x k :: bitsMsb x k

/-- The codes of a table. -/
def codes (sel : Nat) : List (List Bool) := (List.range 17).map (fun s => bitsMsb (codeOf sel s) (codeLen sel s))

/-- ⌊log2 L⌋ and its extra bits of a run (R365). -/
def runBits (len : Nat) : List Bool := bitsMsb (Nat.log2 len) 3 ++ bitsMsb (len - 2 ^ Nat.log2 len) (Nat.log2 len)

/-- Bits after a symbol's code, `w` exponent bits. -/
def Sym.extra (w : Nat) : Sym → List Bool
  | .d _ => []
  | .esc e => bitsMsb e w
  | .z len => runBits len

/-- Bits of a stream under a table whose codes are given. -/
def streamBits (cs : List (List Bool)) (w : Nat) (syms : List Sym) : List Bool :=
  syms.flatMap (fun s => cs.getD s.index [] ++ s.extra w)

/-- Length of a stream under a table. -/
def streamLen (sel w : Nat) (syms : List Sym) : Nat :=
  (syms.map (fun s => codeLen sel s.index + (s.extra w).length)).sum

/-- Fill bytes from bit 7 down (R366); `fuel` bounds them. -/
def bitsToBytes : Nat → List Bool → Bytes
  | 0, _ => []
  | _, [] => []
  | f + 1, bs =>
    let b := bs.take 8
    let v := b.foldl (fun a x => 2 * a + (if x then 1 else 0)) 0
    BitVec.ofNat 8 (v * 2 ^ (8 - b.length)) :: bitsToBytes f (bs.drop 8)

/-- Bits of bytes, most significant first. -/
def bytesToBits (b : Bytes) : List Bool := b.flatMap (fun x => bitsMsb x.toNat 8)

/-! ## Encoding (R369 to R372) -/

/-- The table with the fewest bits, the lowest of equals (R370). -/
def bestTable (w : Nat) (syms : List Sym) : Nat :=
  ((List.range 8).foldl (fun (b : Nat × Nat) t => let n := streamLen t w syms; if n < b.2 then (t, n) else b)
    (0, streamLen 0 w syms)).1

/-- The stored form of a block of 4,096 bytes (R369 to R371). -/
def compressBlock (fmt : Nat) (b : Bytes) : StoredBlock :=
  let f := fmtOf fmt
  let els := blockEls fmt b
  let exps := els.map f.exp
  let a := exps.foldl max 0
  let syms := symbols a 0 exps
  let t := bestTable f.w syms
  let n := streamLen t f.w syms
  let size := 2 + manPlane fmt + (n + 7) / 8
  let units := (size + 31) / 32
  if units ≤ 120 then
    let st := streamBits (codes t) f.w syms
    let body := [BitVec.ofNat 8 (t + 8 * fmt), BitVec.ofNat 8 a] ++
      le (packLsb (f.mw + 1) (els.map (manField f))) (manPlane fmt) ++ bitsToBytes (st.length + 1) st
    { entry := units, data := fit body (32 * units) }
  else { entry := 0x80, data := b }

/-- Compress a raw page block by block. -/
def compressPage (fmt : Nat) (page : Bytes) : List StoredBlock :=
  (chunks 4096 (page.length / 4096 + 1) page).map (compressBlock fmt)

/-! ## Decoding (R376, R377) -/

/-- Take `k` bits as a number. -/
def takeBits (bs : List Bool) (k : Nat) : Option (Nat × List Bool) :=
  if bs.length < k then none
  else some ((bs.take k).foldl (fun a x => 2 * a + (if x then 1 else 0)) 0, bs.drop k)

/-- Read one symbol. -/
def readSym (cs : List (List Bool)) (bs : List Bool) : Option (Nat × List Bool) :=
  match (List.range 17).find? (fun s => (cs.getD s []).isPrefixOf bs) with
  | none => none
  | some s => some (s, bs.drop (cs.getD s []).length)

/-- Outcome of decoding the stream: the exponent fields and the rest of the bits, or an error kind. -/
inductive Decoded where
  | ok (exps : List Nat) (rest : List Bool)
  | err (kind : Nat)
deriving DecidableEq, Repr

/-- Prepend fields to an outcome. -/
def Decoded.more (es : List Nat) : Decoded → Decoded
  | .ok xs r => .ok (es ++ xs) r
  | .err k => .err k

/-- Decode `left` exponent fields (R376). -/
def decodeStream (cs : List (List Bool)) (w a : Nat) : Nat → Nat → List Bool → Decoded
  | _, 0, bs => .ok [] bs
  | 0, _ + 1, _ => .err 3
  | f + 1, left + 1, bs =>
    match readSym cs bs with
    | none => .err 3
    | some (s, bs) =>
      if s = 16 then
        match takeBits bs 3 with
        | none => .err 3
        | some (c, bs) => match takeBits bs c with
          | none => .err 3
          | some (v, bs) =>
            let n := 2 ^ c + v
            if left + 1 < n then .err 4
            else (decodeStream cs w a f (left + 1 - n) bs).more (List.replicate n 0)
      else if s = 15 then
        match takeBits bs w with
        | none => .err 3
        | some (x, bs) =>
          if x = 0 || a < x + 15 then .err 5 else (decodeStream cs w a f left bs).more [x]
      else if a < s + 1 then .err 5
      else (decodeStream cs w a f left bs).more [a - s]

/-- Outcome of expanding a block. -/
inductive Expanded where
  | ok (b : Bytes)
  | err (kind : Nat)
deriving DecidableEq, Repr

/-- Expand a coded block of stored bytes `b` (R376). -/
def expandCoded (fmt : Nat) (b : Bytes) : Expanded :=
  let f := fmtOf fmt
  let h := (b.getD 0 0).toNat
  if h / 64 != 0 || h / 8 % 8 != fmt then .err 2 else
  let a := (b.getD 1 0).toNat
  let m := manPlane fmt
  let n := elsPerBlock fmt
  let stream := bytesToBits (b.drop (2 + m))
  match decodeStream (codes (h % 8)) f.w a n n stream with
  | .err k => .err k
  | .ok exps rest =>
    if a != 0 && !exps.contains a then .err 5 else
    let used := (stream.length - rest.length + 7) / 8
    if b.length != 32 * ((2 + m + used + 31) / 32) || rest.any id then .err 4 else
    let mans := unpackLsb (f.mw + 1) n (unLe (sub b 2 m))
    .ok ((exps.zip mans).flatMap (fun p => le (joinEl f p.1 p.2) (fmtBytes fmt)))

/-- Expand a stored block by its index entry: kind 1 for no block or a reserved entry (R377). -/
def expandBlock (fmt : Nat) (b : StoredBlock) : Expanded :=
  if b.entry == 0x80 then .ok b.data
  else if b.entry == 0 || 0x78 < b.entry then .err 1
  else expandCoded fmt b.data

/-- Expand blocks in order up to the first error: the bytes before it, and the error's kind and block. -/
def expandBlocks (fmt : Nat) : List StoredBlock → Nat → Bytes × Option (Nat × Nat)
  | [], _ => ([], none)
  | b :: bs, i => match expandBlock fmt b with
    | .err k => ([], some (k, i))
    | .ok x => let r := expandBlocks fmt bs (i + 1); (x ++ r.1, r.2)

/-- Bytes a stored block occupies (R374). -/
def storedLen (entry : Nat) : Nat := if entry == 0x80 then 4096 else 32 * (entry % 128)

/-- Address of block `j` of a group, given the entries before it (R241): `a` so far, `i` blocks done. -/
def blockAddr (phase bpp : Nat) (aligned : Bool) : List Nat → Nat → Nat → Nat
  | [], _, a => a
  | e :: es, i, a =>
    let a := a + storedLen e
    let a := if aligned && (phase + i + 1) % bpp == 0 then (a + 4095) / 4096 * 4096 else a
    blockAddr phase bpp aligned es (i + 1) a

end Sys2Proof.Machine
end

