-- ==== Sys2Proof/Machine/FabOps.lean ====
section
/-! DEFINITION. Shared operations of the fabric: runs (R479 to R481, R508), the sampling of shadow checks (R496 to R500),
the count of pages summarized and thinned (R494, R495). -/

namespace Sys2Proof.Machine

open Sys2Proof

/-- A run is in service: none of its tiles is fenced or failed in self-test (R508, R509). -/
def runIn (d : Dev) (r : Run) : Bool := !r.tiles.any (tileOut d)

/-- A run by number in the list of runs. -/
def findRun (d : Dev) (n : Nat) : Option Run := d.fab.runs.find? (fun r => r.num == n)
/-- Store a run. -/
def setRun (d : Dev) (r : Run) : Dev := { d with fab := { d.fab with runs := replaceFirst (fun x => x.num == r.num) r d.fab.runs } }
/-- First tile of a run. -/
def Run.tile (r : Run) : Nat := r.tiles.headD 0

/-- The run of a draft that stands for the original execution: the first of those that served it, else the lowest in
service. -/
def servedRun (d : Dev) (draft : Nat) (served : List Nat) : Option Run :=
  match served.head?.bind (findRun d) with
  | some r => some r
  | none => d.fab.runs.find? (fun r => r.draft == draft && runIn d r)

/-- The shadow-check run of a re-execution: on the other compute die when one is in service (R498). -/
def shadowRunFor (d : Dev) (orig : Run) : Option Run :=
  match draftOf d 6 with
  | none => none
  | some s =>
    let rs := d.fab.runs.filter (fun r => r.draft == s && runIn d r)
    match rs.find? (fun r => r.tile / 320 != orig.tile / 320) with
    | some r => some r
    | none => rs.head?

/-- Sample a delivered job for the shadow check (R496, R498, R500): `kind` 0 summarize, 1 far job, 2 thin. -/
def sampleShadow (d : Dev) (kind slot layer : Nat) (pins served : List Nat) : Dev :=
  if img d 0x100008 5 5 == 0 || img d 0x100008 (8 + kind) (8 + kind) == 0 then d else
  let (n, d) := freeNext d
  if (Config.drbg n).toNat % 2 ^ (img d 0x100008 4 0) != 0 then d else
  let d := ctrInc d cShadowSampled
  match draftOf d ([1, 3, 5].getD kind 0) with
  | none => ctrInc d cShadowSkipped
  | some dr => match servedRun d dr served with
    | none => ctrInc d cShadowSkipped
    | some o => match shadowRunFor d o with
      | none => ctrInc d cShadowSkipped
      | some s =>
        if 256 ≤ d.fab.shadows.length then ctrInc d cShadowSkipped else
        let x : Shadow := {
          id := d.fab.nextShadow
          kind := kind
          draft := dr
          run := o.num
          shadowRun := s.num
          slot := slot
          layer := layer
          pins := pins
          temps := d.mon.dieTemp.take 2 }
        { d with fab := { d.fab with shadows := d.fab.shadows ++ [x], nextShadow := x.id + 1 } }

/-- A page summarized (0) or thinned (2): admitted, completed, perhaps sampled (R494 to R496). -/
def jobDone (d : Dev) (o kind : Nat) (pins : List Nat) : Dev :=
  sampleShadow (jobCount (jobCount d o 0) o 1) kind 0 0 pins []

end Sys2Proof.Machine
end

