-- ==== Sys2Proof/Machine/SasOps.lean ====
section
/-! DEFINITION. Shared operations on the state address space: identifiers and shapes (R19, R24, R141), frames and their
placement across the stacks (R225 to R230, R302 to R304), writes to WORK, reservations and their layout (R231 to
R239), placing, sharing and freeing pages (R240 to R249), the prefix table (R213 to R220), and skein headers. -/

namespace Sys2Proof.Machine

open Sys2Proof

/-! ## Identifiers (R19, R141) -/

/-- Request identifier (R141). -/
def mkReqId (origin slot inc : Nat) : U64 := u64 (origin * 2 ^ 40 + slot * 2 ^ 26 + inc)
def reqOrigin (i : U64) : Nat := bits i.toNat 63 40
def reqSlot (i : U64) : Nat := bits i.toNat 39 26
def reqInc (i : U64) : Nat := bits i.toNat 25 0
/-- Skein identifier (R19). -/
def mkSkeinId (home slot inc : Nat) : U64 := u64 (home * 2 ^ 40 + slot * 2 ^ 22 + inc)
def skeinHome (i : U64) : Nat := bits i.toNat 63 40
def skeinSlot (i : U64) : Nat := bits i.toNat 39 22
def skeinInc (i : U64) : Nat := bits i.toNat 21 0

/-! ## Shapes (R24, R25, R236) -/

/-- Element bytes of a format. -/
def elemBytes (fmt : Nat) : Nat := if fmt ≤ 2 then 1 else 2
/-- Page size in bytes (R25). -/
def pageBytes (s : Shape) : Nat := 64 * 2 * s.kvHeads * s.headDim * elemBytes s.fmt
/-- Blocks per page (R232). -/
def shapeBpp (s : Shape) : Nat := pageBytes s / 4096
/-- The shape rules of R25. -/
def shapeOk (s : Shape) : Bool :=
  1 ≤ s.layers && s.layers ≤ 128 && 1 ≤ s.kvHeads && s.kvHeads ≤ 16 && 1 ≤ s.qHeads && s.qHeads ≤ 128 &&
  s.qHeads % s.kvHeads == 0 && 1 ≤ s.fmt && s.fmt ≤ 4 && 16 ≤ s.headDim && s.headDim ≤ 512 && s.headDim % 16 == 0 &&
  pageBytes s % 4096 == 0
/-- The effective window of a WINDOW_PAGES field; none above 4,096 (R35). -/
def windowOf (w : Nat) : Option Nat := if w = 0 then some 512 else if w ≤ 4096 then some w else none
/-- Pages that hold `n` tokens. -/
def pagesOf (n : Nat) : Nat := (n + 63) / 64


/-! ## The mirror space (R700): SAS frame and byte numbers beyond the device's own, placed alike by R302 and R303 -/

/-- First frame number of the mirror space. -/
abbrev mirrorFrame : Nat := 332640 * 2 ^ 36
/-- Its first address. -/
abbrev mirrorOff : Nat := mirrorFrame * 4096

/-! ## Frames and the stack pool (R228 to R230, R302 to R304) -/

/-- Physical frames of a stack. -/
abbrev stackPhys : Nat := 23437500

/-- Total of raw NAND bytes that the FLASH section declares (R325, R728). -/
def declaredRaw (d : Dev) : Nat :=
  ((List.range 128).map (fun i =>
    let x := sub d.boot.flash (16 * i) 16
    if fld x 0 0 0 == 1 then 16384 * fld x 8 15 0 * fld x 4 31 0 * (fld x 0 2 1 + 1) else 0)).sum

/-- Frames of the frame map: 8 B for each configured frame of both tiers (R230). -/
def mapFrames (d : Dev) : Nat := (8 * (12 * stackPhys + declaredRaw d * 3 / 4 / 4096) + 4095) / 4096

/-- Numbers below `n` that leave `r` on division by `m`. -/
def countMod (n m r : Nat) : Nat := (n + (m - 1) - r) / m

/-- Frames of the range from `lo` that R302 and R303 place on usable stack `s`, the `j`-th of `u`. -/
def rangeOn (us : List Nat) (lo n s j : Nat) : Nat :=
  ((List.range 12).map (fun r =>
    if us.contains r then (if r == s then countMod (lo + n) 12 r - countMod lo 12 r else 0)
    else countMod (countMod (lo + n) 12 r) us.length j - countMod (countMod lo 12 r) us.length j)).sum

/-- Frames pinned for CTRL: headers, prefix table and frame map (R225, R230). -/
def ctrlRanges (d : Dev) : List (Nat × Nat) := [(0, 16384), (0x20000, 131072), (0x40000, mapFrames d)]

/-- CTRL frames on a stack: they are placed over the stacks usable at bring-up (R302, R303, R321). -/
def pinnedOn (d : Dev) (s : Nat) : Nat :=
  let us := d.stk.bringUp.getD (usableStacks d)
  match us.findIdx? (· == s) with
  | none => 0
  | some j => ((ctrlRanges d).map (fun r => rangeOn us r.1 r.2 s j)).sum

/-- Physical frames of a stack in use: mapped ones, and those that reads still use (R251). -/
def physOn (d : Dev) (s : Nat) : List Nat :=
  (d.sas.frames.filter (fun f => f.2.stack == some s)).map (fun f => f.2.phys) ++
  (d.sas.lingering.filter (fun x => x.stack == s)).map (·.phys)
/-- Their count. -/
def mappedOn (d : Dev) (s : Nat) : Nat := (physOn d s).length

/-- Free physical frames of a stack. -/
def freeOn (d : Dev) (s : Nat) : Nat :=
  if (usableStacks d).contains s then stackPhys - pinnedOn d s - mappedOn d s else 0

/-- SAS_STACK_FRAMES.TOTAL (R230, R287). -/
def stackTotal (d : Dev) : Nat := ((usableStacks d).map (fun s => stackPhys - pinnedOn d s)).sum

/-- SAS_STACK_FRAMES.FREE. -/
def stackFree (d : Dev) : Nat := ((usableStacks d).map (freeOn d)).sum

/-- Frames mapped to the bobbin tier. -/
def bobMapped (d : Dev) : Nat := (d.sas.frames.filter (fun f => f.2.unit.isSome)).length

/-- SAS_BOBBIN_FREE; none while FULL is set, for R255 to R257 (R345). -/
def bobFree (d : Dev) : Nat := d.bob.totalFrames - bobMapped d

/-- The bobbin tier is ready (R355). -/
def tierReady (d : Dev) : Bool := isReady d rbBobbin

/-- The stack R302 and R303 choose for a SAS frame. -/
def homeStack (d : Dev) (f : Nat) : Option Nat :=
  let us := usableStacks d
  if us.isEmpty then none
  else if us.contains (f % 12) then some (f % 12) else us[f / 12 % us.length]?

/-- Usable stacks in ascending cyclic order from one on. -/
def cyclicFrom (us : List Nat) (s : Nat) : List Nat := us.filter (s ≤ ·) ++ us.filter (· < s)

/-- The stack that takes a frame (R304): the chosen one, and the one that has room. -/
def pickStack (d : Dev) (f : Nat) : Option (Nat × Nat) :=
  match homeStack d f with
  | none => none
  | some h => ((cyclicFrom (usableStacks d) h).find? (fun s => 0 < freeOn d s)).map (fun s => (h, s))

/-- Lowest free physical frame of a stack, above the pinned ones. -/
def lowestPhys (d : Dev) (s : Nat) : Nat :=
  let used := physOn d s
  let p := pinnedOn d s
  p + (((List.range (used.length + 1)).find? (fun i => !used.contains (p + i))).getD 0)

/-- Forget the poison of a physical frame that is taken anew: its lines read as zero (R228). -/
def clearPoison (d : Dev) (s ph : Nat) : Dev :=
  let u := d.stk.units.getD s {}
  { d with stk := { d.stk with units := d.stk.units.set s { u with poison := u.poison.filter (·.1 != ph) } } }

/-- Remove a slot of a bobbin unit that names a frame: it is no longer valid (R337). -/
def dropUnitSlot (d : Dev) (f : Nat) : Dev :=
  match tget d.sas.frames f with
  | none => d
  | some e => match e.unit with
    | none => d
    | some u => { d with bob := { d.bob with units := d.bob.units.map (fun x =>
        if x.id == u then { x with slots := x.slots.map (fun s => if s == some f then none else s) } else x) } }

/-- Give a frame a physical frame of a stack; none when no usable stack has one (R302 to R304). -/
def mapStack (d : Dev) (f : Nat) : Option Dev :=
  match pickStack d f with
  | none => none
  | some (h, s) =>
    let d := if h == s then d else ctrInc d (cStack h 0x120)
    let ph := lowestPhys d s
    let d := clearPoison (dropUnitSlot d f) s ph
    some { d with sas := { d.sas with frames := tset d.sas.frames f { stack := some s, phys := ph } } }

/-- A target's state. -/
def targetAt (d : Dev) (t : Nat) : BobTarget := tgetD d.bob.targets t {}
/-- A bobbin unit by number. -/
def unitAt (d : Dev) (i : Nat) : Option BobUnit := d.bob.units.find? (fun u => u.id == i)

/-- Why a read of a frame's unit ends at once: its cause (R330, R352, R357). -/
def unitDead (d : Dev) (u : BobUnit) : Option Nat :=
  if (targetAt d u.tgt).st != 1 then some 0x423
  else if u.failed then some (if u.tagFailed then 0x425 else 0x420)
  else if d.sec.zeroized then some 0x425
  else none

/-- Why a frame cannot leave the bobbin tier (R269). -/
def frameDead (d : Dev) (f : Nat) : Option Nat :=
  match tget d.sas.frames f with
  | some e => (e.unit.bind (unitAt d)).bind (unitDead d)
  | none => none

/-- Map a frame for a write (R228). A frame in the bobbin tier is raised; one that cannot be read stays there (R269). -/
def mapFrame (d : Dev) (f : Nat) : Option Dev :=
  match tget d.sas.frames f with
  | none => mapStack d f
  | some e =>
    if e.stack.isSome then some d
    else if (frameDead d f).isSome then none
    else (mapStack d f).map (fun d => ctrInc { d with sas := { d.sas with bobFullTold := false } } cPromoted)

/-- Map several frames, or none of them. -/
def mapAll : Dev → List Nat → Option Dev
  | d, [] => some d
  | d, f :: fs => match mapFrame d f with
    | none => none
    | some d => mapAll d fs

/-- Free frames (R228, R695): they leave both tiers, WORK bytes go, and refusals under R257 end. -/
def unmapFrames (d : Dev) (owner : Nat) (fs : List Nat) : Dev :=
  let fs := fs.filter (fun f => (tget d.sas.frames f).isSome)
  if fs.isEmpty then d else
  let d := fs.foldl dropUnitSlot d
  let d := { d with sas := { d.sas with
    frames := d.sas.frames.filter (fun e => !fs.contains e.1)
    work := d.sas.work.filter (fun c => !fs.contains (c.1 / 4096))
    fullTold := false, bobFullTold := false } }
  mirrorPush d (fs.map (fun f => { kind := 4, owner := owner, addr := 4096 * f, data := [] }))

/-- Frames that a byte range touches. -/
def framesOf (a n : Nat) : List Nat :=
  if n = 0 then [] else (List.range ((a + n - 1) / 4096 - a / 4096 + 1)).map (· + a / 4096)

/-- Whether every mapped frame of a list lies in the stack tier and is not moving. -/
def resident (d : Dev) (fs : List Nat) : Bool :=
  fs.all (fun f => match tget d.sas.frames f with
    | some e => e.stack.isSome && !e.moving
    | none => true)

/-- Mirror a write to the state address space (R695, R696). -/
def sasMirror (d : Dev) (owner a : Nat) (bs : Bytes) : Dev :=
  if streaming d then
    ((chunks 4064 (bs.length / 4064 + 1) bs).zipIdx).foldl
      (fun d p => mirrorPush d [{ kind := 1, owner := owner, addr := a + 4064 * p.2, data := p.1 }]) d
  else d

/-! ## WORK (R225 to R227, R270 to R276) -/

/-- Poisoned lines of a byte range: stack, physical frame, line (R299). -/
def poisonIn (d : Dev) (a n : Nat) : List (Nat × Nat × Nat) :=
  if d.stk.units.all (fun u => u.poison.isEmpty) then [] else
  (framesOf a n).flatMap (fun f => match tget d.sas.frames f with
    | some e => (match e.stack with
      | some s => ((d.stk.units.getD s {}).poison.filter (fun p =>
          p.1 == e.phys && a < 4096 * f + 64 * p.2 + 64 && 4096 * f + 64 * p.2 < a + n)).map (fun p => (s, p.1, p.2))
      | none => [])
    | none => [])

/-- A written line is poisoned no more (R300). -/
def unpoison (d : Dev) (a n : Nat) : Dev :=
  (poisonIn d a n).foldl (fun d x =>
    let u := d.stk.units.getD x.1 {}
    { d with stk := { d.stk with units := d.stk.units.set x.1 { u with poison := u.poison.filter (· != x.2) } } }) d

/-- Write bytes to WORK, mapping their frames; none when the pool has none. -/
def workWrite (d : Dev) (owner a : Nat) (bs : Bytes) : Option Dev :=
  match mapAll d (framesOf a bs.length) with
  | none => none
  | some d =>
    let d := unpoison d a bs.length
    some (sasMirror { d with sas := { d.sas with work := memWriteN 0 d.sas.work a bs } } owner a bs)

/-- Read bytes of WORK. -/
def workRead (d : Dev) (a n : Nat) : Bytes := memReadN 0 d.sas.work a n

/-- Free every frame of a range of WORK. -/
def workFree (d : Dev) (owner a n : Nat) : Dev :=
  unmapFrames d owner ((d.sas.frames.filter (fun e => a ≤ 4096 * e.1 && 4096 * e.1 < a + n)).map (·.1))

/-- The physical frame and line of a stack that holds a SAS line. -/
def lineAt (d : Dev) (a : Nat) : Option (Nat × Nat × Nat) :=
  match tget d.sas.frames (a / 4096) with
  | some e => e.stack.map (fun s => (s, e.phys, a % 4096 / 64))
  | none => none

/-- A line holds the poison codeword (R298). -/
def linePoisoned (d : Dev) (a : Nat) : Bool := match lineAt d a with
  | some (s, f, l) => (d.stk.units.getD s {}).poison.contains (f, l)
  | none => false

/-- Write the poison codeword into a line, or clear it by a whole-line write (R298, R300). -/
def setPoison (d : Dev) (a : Nat) (on : Bool) : Dev := match lineAt d a with
  | none => d
  | some (s, f, l) =>
    let u := d.stk.units.getD s {}
    let rest := u.poison.filter (· != (f, l))
    { d with stk := { d.stk with units := d.stk.units.set s { u with poison := if on then (f, l) :: rest else rest } } }

/-! ## Reservations (R231, R232) -/

/-- Round up to a multiple of 4,096. -/
def up4k (n : Nat) : Nat := (n + 4095) / 4096 * 4096

/-- Index groups of one layer (R232). -/
def layerGroups (s : Shape) (cap : Nat) : Nat := (cap * shapeBpp s + 63) / 64 + cap

/-- Offsets of the parts of a reservation, and its size: page tables, summaries, masks, index arrays, hint lists, end. -/
def resvParts (s : Shape) (cap masks : Nat) : List Nat :=
  let pt := up4k (64 * s.layers)
  let su := pt + up4k (s.layers * cap * 8)
  let ma := su + up4k (s.layers * cap * sumBytes s)
  let ix := ma + up4k (masks * s.layers * cap * 8)
  let hi := ix + up4k (s.layers * layerGroups s cap * 72)
  [pt, su, ma, ix, hi, hi + s.layers * 16384]

/-- Size of a reservation. -/
def resvSize (s : Shape) (cap masks : Nat) : Nat := (resvParts s cap masks).getD 5 0

/-- A range of META is free and placed as R231 asks. -/
def resvFree (d : Dev) (base n : Nat) : Bool :=
  base % 0x200000 == 0 && 0x100000000000 ≤ base && base + n ≤ 0x800000000000 &&
  d.sas.reservations.all (fun r => base + n ≤ r.base || r.base + r.size ≤ base)

/-- Some free range of META of a size exists (R234). -/
def resvExists (d : Dev) (n : Nat) : Bool :=
  (0x100000000000 :: d.sas.reservations.map (fun r => (r.base + r.size + 0x1FFFFF) / 0x200000 * 0x200000)).any
    (fun b => resvFree d b n)

/-! Addresses within a skein's reservation (R232). -/
def Skein.part (k : Skein) (i : Nat) : Nat := k.base + (resvParts k.shape k.cap k.maskSets).getD i 0
def Skein.dirAddr (k : Skein) (l : Nat) : Nat := k.base + 64 * l
def Skein.ptAddr (k : Skein) (l p : Nat) : Nat := k.part 0 + (l * k.cap + p) * 8
def Skein.sumAddr (k : Skein) (l p : Nat) : Nat := k.part 1 + (l * k.cap + p) * sumBytes k.shape
def Skein.maskAddr (k : Skein) (m l p : Nat) : Nat := k.part 2 + ((m * k.shape.layers + l) * k.cap + p) * 8
def Skein.groupAddr (k : Skein) (l g : Nat) : Nat := k.part 3 + (l * layerGroups k.shape k.cap + g) * 72
def Skein.hintAddr (k : Skein) (l : Nat) : Nat := k.part 4 + l * 16384
/-- Index of the solo group of a page (R239). -/
def Skein.soloGroup (k : Skein) (p : Nat) : Nat := (k.cap * shapeBpp k.shape + 63) / 64 + p

/-! ## Skeins (R19 to R24, R62) -/

/-- The skein an identifier names; none when it is stale or another home's (R22, R23). -/
def findSkein (d : Dev) (i : U64) : Option Skein := d.sas.skeins.find? (·.id == i)
/-- The skein of a descriptor slot. -/
def skeinAt (d : Dev) (slot : Nat) : Option Skein := d.sas.skeins.find? (·.slot == slot)

/-- STATE code of R24. -/
def SkeinState.code : SkeinState → Nat
  | .receiving => 1
  | .bound => 2
  | .prefix_ => 3
  | .aborted => 4

/-- The 256 bytes of a skein header (R24). -/
def Skein.header (k : Skein) : Bytes :=
  fit (le k.id.toNat 8 ++ le k.model 4 ++ le k.shape.layers 1 ++ le k.shape.kvHeads 1 ++ le k.shape.qHeads 1 ++
    le k.shape.fmt 1 ++ le k.shape.headDim 2 ++
    le (bit1 k.thinOk + 2 * bit1 k.retain + 4 * bit1 k.sealed + 8 * bit1 k.hasShared) 2 ++
    le (k.tenant + 256 * k.state.code) 4 ++ le k.tokens 8 ++ le k.lastHash.toNat 16 ++ le k.created 8 ++
    le k.lastAccess 8 ++ le (k.base % 2 ^ 48) 8 ++ le (k.part 1 % 2 ^ 48) 8 ++
    le (k.part 2 % 2 ^ 48 + 2 ^ 48 * k.maskSets) 8 ++ le (k.part 3 % 2 ^ 48) 8 ++
    le k.splitPage 4 ++ le k.windowPages 4 ++ le k.prefixPages 4 ++ le 0 4 ++ le k.genDevice 4) 256

/-- A layer of a skein. -/
def Skein.layer (k : Skein) (l : Nat) : LayerDir := tgetD k.layers l {}
/-- Replace a layer. -/
def Skein.setLayer (k : Skein) (l : Nat) (x : LayerDir) : Skein := { k with layers := tset k.layers l x }
/-- The page-table entry of a page. -/
def Skein.page? (k : Skein) (l p : Nat) : Option PageRef := k.pages.find? (fun r => r.layer == l && r.page == p)
/-- Ascending copy of a list of page numbers. -/
def ascending (l : List Nat) : List Nat := l.foldr (fun x r => r.filter (· < x) ++ [x] ++ r.filter (x < ·)) []

/-- The pages of a layer from `lo` up to `hi`, ascending. -/
def Skein.refsIn (k : Skein) (l lo hi : Nat) : List PageRef :=
  let mine := k.pages.filter (fun r => r.layer == l && lo ≤ r.page && r.page < hi)
  (ascending (mine.map (·.page))).filterMap (fun n => mine.find? (fun r => r.page == n))

/-- The pages from `lo` up to `hi` in the order of a shipment: layer by layer, ascending (R243). -/
def Skein.refsOf (k : Skein) (lo hi : Nat) : List PageRef := (List.range k.shape.layers).flatMap (fun l => k.refsIn l lo hi)

/-- PAGES of a layer (R237). -/
def Skein.pagesIn (k : Skein) (l : Nat) : Nat :=
  (k.pages.filter (fun r => r.layer == l)).foldl (fun n r => max n (r.page + 1)) 0
/-- Layers with at least one page, and THINNED of a layer. -/
def Skein.thinnedIn (k : Skein) (l : Nat) : Nat := (k.pages.filter (fun r => r.layer == l && r.thinned)).length

/-- The 64 bytes of a layer directory entry (R237). -/
def Skein.dirBytes (k : Skein) (l : Nat) : Bytes :=
  let y := k.layer l
  le (k.ptAddr l 0 % 2 ^ 48) 8 ++ le (k.groupAddr l 0 % 2 ^ 48) 8 ++ le (k.pagesIn l) 4 ++ le y.nr 4 ++ le k.cap 4 ++
  le (k.thinnedIn l) 4 ++ le y.lastAccess 8 ++ le ((y.stream.length + 63) / 64) 4 ++ le y.hints.length 4 ++
  le (k.hintAddr l % 2 ^ 48) 8 ++ zeroBytes 8

/-- Mirror what differs in a skein's header, layer directories and hint lists (R695). -/
def mirrorDirs (d : Dev) (was : Option Skein) (k : Skein) : Dev :=
  if !streaming d then d else
  let d := sasMirror d k.tenant (256 * k.slot) k.header
  (List.range k.shape.layers).foldl (fun d l =>
    let d := if was.map (fun x => x.dirBytes l) == some (k.dirBytes l) then d
      else sasMirror d k.tenant (k.dirAddr l) (k.dirBytes l)
    if was.map (fun x => (x.layer l).hints) == some (k.layer l).hints then d
    else sasMirror d k.tenant (k.hintAddr l) ((k.layer l).hints.flatMap (fun p => le p 4))) d

/-- Store a skein and mirror its header and layer directories (R695). -/
def setSkein (d : Dev) (k : Skein) : Dev :=
  let was := skeinAt d k.slot
  mirrorDirs { d with sas := { d.sas with skeins := replaceFirst (fun x => x.slot == k.slot) k d.sas.skeins } } was k

/-- Leading pages placed in a layer. -/
def Skein.leading (k : Skein) (l : Nat) : Nat :=
  let ps := (k.pages.filter (fun r => r.layer == l)).map (·.page)
  ((List.range (ps.length + 1)).find? (fun p => !ps.contains p)).getD 0

/-- TOKENS (R801). -/
def Skein.tokensNow (k : Skein) : Nat :=
  let n := ((List.range k.shape.layers).map k.leading)
  match least n with
  | none => 0
  | some 0 => 0
  | some (m + 1) =>
    let t := (least ((k.pages.filter (fun r => r.page == m)).map (·.tokens))).getD 0
    64 * m + t

/-- Take over the tokens that R801 counts. -/
def Skein.recount (k : Skein) : Skein := { k with tokens := k.tokensNow }

/-! ## Stored pages (R240 to R245) -/

/-- The stored body of a number. -/
def findBody (d : Dev) (i : Nat) : Option PageBody := d.sas.bodies.find? (·.id == i)

/-- References on a stored body (R219). -/
def bodyRefs (d : Dev) (i : Nat) : Nat := (d.sas.skeins.map (fun k => (k.pages.filter (fun r => r.body == i)).length)).sum

/-- A body that more than one skein references, a shadow check's reference included (R222, R499). -/
def bodyShared (d : Dev) (i : Nat) : Bool := 1 < bodyRefs d i || d.fab.shadows.any (fun x => x.pins.contains i)

/-- A read of a body has begun and has not ended (R251). -/
def bodyReading (d : Dev) (i : Nat) : Bool :=
  d.adm.ops.any (fun o => o.pins.contains i) || d.fab.shadows.any (fun x => x.pins.contains i) ||
  d.retr.jobs.any (fun j => j.scanned && j.pages.any (fun p => p.body == i && j.sel.contains p.page))

/-- An operation still reads a body (R249). -/
def bodyPinned (d : Dev) (i : Nat) : Bool :=
  d.adm.ops.any (fun o => o.pins.contains i) || d.retr.jobs.any (fun j => j.pages.any (fun p => p.body == i)) ||
  d.fab.shadows.any (fun x => x.pins.contains i) || d.sas.demotions.any (fun x => x.thinned == some i)

/-- Frames that hold a body's blocks. -/
def PageBody.frames (b : PageBody) : List Nat :=
  ((b.addrs.zip b.blocks).flatMap (fun x => framesOf x.1 x.2.data.length)).eraseDups

/-- Frames of some placed pages. -/
def refFrames (d : Dev) (rs : List PageRef) : List Nat :=
  rs.flatMap (fun r => match findBody d r.body with | some b => b.frames | none => [])

/-- Group slots in use (R240). -/
def usedSlots (d : Dev) : List Nat :=
  (d.sas.bodies.flatMap (fun (b : PageBody) => b.addrs.map (fun a => (a - 0x800000000000) / 0x40000)) ++
   d.sas.skeins.flatMap (fun (k : Skein) => k.layers.flatMap (fun (l : Nat × LayerDir) => l.2.groups.map Prod.snd))).eraseDups

/-- Lowest free group slot. -/
def freeSlot (d : Dev) : Nat :=
  let u := usedSlots d
  ((List.range (u.length + 1)).find? (fun i => !u.contains i)).getD 0

/-- Address of a group slot (R240). -/
def slotAddr (n : Nat) : Nat := 0x800000000000 + n * 0x40000

/-- A group of a layer with a slot: the one it has, or the lowest free one. -/
def slotOf (d : Dev) (k : Skein) (l g : Nat) : Nat × Skein :=
  let y := k.layer l
  match tget y.groups g with
  | some s => (s, k)
  | none =>
    let held := y.groups.map (·.2)
    let u := usedSlots d ++ k.layers.flatMap (fun (x : Nat × LayerDir) => x.2.groups.map (·.2)) ++ held
    let s := ((List.range (u.length + 1)).find? (fun i => !u.contains i)).getD 0
    (s, k.setLayer l { y with groups := tset y.groups g s })

/-- Address of block `i` of a layer's own stream (R239, R241). -/
def streamAddr (bpp : Nat) (stream : List Nat) (slot i : Nat) : Nat :=
  let g := i / 64
  blockAddr (64 * g % bpp) bpp true ((stream.drop (64 * g)).take (i % 64)) 0 (slotAddr slot)

/-- Addresses of the blocks from `i` on, their slots taken as needed. -/
def streamAddrs (d : Dev) (l bpp : Nat) (stream : List Nat) : Nat → Nat → Skein → List Nat × Skein
  | 0, _, k => ([], k)
  | n + 1, i, k =>
    let (s, k) := slotOf d k l (i / 64)
    let (as, k) := streamAddrs d l bpp stream n (i + 1) k
    (streamAddr bpp stream s i :: as, k)

/-- Frames of META that a placed page writes: its table entry, summary, mask words, index groups, directory (R232). -/
def metaFrames (k : Skein) (l p : Nat) (groups : List Nat) : List Nat :=
  (framesOf (k.dirAddr l) 64 ++ framesOf (k.ptAddr l p) 8 ++ framesOf (k.sumAddr l p) (sumBytes k.shape) ++
   (List.range k.maskSets).flatMap (fun m => framesOf (k.maskAddr m l p) 8) ++
   groups.flatMap (fun g => framesOf (k.groupAddr l g) 72)).eraseDups

/-- What a placed page writes in META clears the poison of its lines (R300). -/
def unpoisonMeta (d : Dev) (k : Skein) (l p : Nat) (groups : List Nat) : Dev :=
  let d := unpoison (unpoison d (k.ptAddr l p) 8) (k.sumAddr l p) (sumBytes k.shape)
  let d := (List.range k.maskSets).foldl (fun d m => unpoison d (k.maskAddr m l p) 8) d
  groups.foldl (fun d g => unpoison d (k.groupAddr l g) 72) d

/-- The 64-bit page-table entry (R238). -/
def ptEntry (b : PageBody) (r : PageRef) : Nat :=
  b.group / 8 + 2 ^ 45 * b.first + 2 ^ 51 * r.tokens + 2 ^ 58 * bit1 r.thinned + 2 ^ 59 * bit1 r.foreign

/-- The 72 bytes of an index group (R240, R373). -/
def groupBytes (slot phase : Nat) (ents : List Nat) : Bytes :=
  le (slotAddr slot + 2 ^ 48 * phase + 2 ^ 63) 8 ++ fit (ents.map (BitVec.ofNat 8)) 64

/-- Bytes of group `g` of a layer that holds a page's body. -/
def Skein.groupNow (k : Skein) (l g : Nat) (b : PageBody) : Bytes :=
  let y := k.layer l
  let bpp := max 1 (shapeBpp k.shape)
  if b.solo then groupBytes (tgetD y.groups g 0) 0 (b.blocks.map (·.entry))
  else groupBytes (tgetD y.groups g 0) (64 * g % bpp) ((y.stream.drop (64 * g)).take 64)

/-- Mirror a page's table entry, summary and mask words (R695). -/
def mirrorRef (d : Dev) (k : Skein) (r : PageRef) (b : PageBody) : Dev :=
  let d := sasMirror d k.tenant (k.ptAddr r.layer r.page) (le (ptEntry b r) 8)
  let d := sasMirror d k.tenant (k.sumAddr r.layer r.page) r.summary
  (r.masks.zipIdx).foldl (fun d x => sasMirror d k.tenant (k.maskAddr x.2 r.layer r.page) (le x.1.toNat 8)) d

/-- Mirror what a placed page wrote (R695). -/
def mirrorPage (d : Dev) (k : Skein) (r : PageRef) (b : PageBody) (groups : List Nat) : Dev :=
  if !streaming d then d else
  let d := (b.addrs.zip b.blocks).foldl (fun d x => sasMirror d k.tenant x.1 x.2.data) d
  let d := mirrorRef d k r b
  groups.foldl (fun d g => sasMirror d k.tenant (k.groupAddr r.layer g) (k.groupNow r.layer g b)) d

/-- Drop the bodies that no page references and no operation reads, the frames of reservations that serve nothing, and the stack
frames that waited for their last reader (R60, R248, R249, R251). -/
def collect (d : Dev) : Dev :=
  let d := { d with sas := { d.sas with lingering := d.sas.lingering.filter (fun x => bodyReading d x.body) } }
  let dead := d.sas.bodies.filter (fun b => bodyRefs d b.id == 0 && !bodyPinned d b.id)
  let own (base : Nat) : Nat := match d.sas.reservations.find? (fun r => r.base == base) with
    | some r => (match skeinAt d r.slot with | some k => k.tenant | none => 64)
    | none => 64
  let d := dead.foldl (fun d b =>
    let rest := d.sas.bodies.filter (fun x => x.id != b.id)
    unmapFrames { d with sas := { d.sas with bodies := rest } } (own b.resv)
      (b.frames.filter (fun f => !rest.any (fun x => x.frames.contains f)))) d
  let gone := d.sas.reservations.filter (fun r => !d.sas.skeins.any (fun k => k.base == r.base))
  gone.foldl (fun d r =>
    let kept := d.sas.bodies.filter (fun b => b.resv == r.base)
    let keep := kept.flatMap (·.index)
    let fs := (d.sas.frames.filter (fun e => r.base ≤ 4096 * e.1 && 4096 * e.1 < r.base + r.size && !keep.contains e.1)).map (·.1)
    let d := unmapFrames d 64 fs
    if kept.isEmpty then
      { d with sas := { d.sas with reservations := d.sas.reservations.filter (fun x => x.base != r.base) } }
    else d) d

/-- Refusals under R257 are in force. -/
def sasRefusing (d : Dev) : Bool := d.sas.fullTold || d.sas.bobFullTold

/-- Refuse a placement or an allocation for want of room (R257). -/
def placeRefused (d : Dev) : Nat × Dev := (St.sasFull, ctrInc d cPlaceRefused)

/-- Why some frames cannot be written: the cause under which one of them stays in the bobbin tier (R269), or 0 for want of room (R257). -/
def mapCause (d : Dev) (fs : List Nat) : Nat := ((fs.filterMap (frameDead d)).head?).getD 0

/-- Put one page's blocks in place at a page number: in the stream when `stream` says so, else in its solo group (R239,
R242); or say why the frames cannot be written. Every line it writes is poisoned no more (R300). -/
def storePage (d : Dev) (k : Skein) (p : PagePart) (inStream thin : Bool) : Nat ⊕ (Skein × Dev) :=
  let bpp := shapeBpp k.shape
  let y := k.layer p.layer
  let i0 := y.stream.length
  let ents := p.blocks.map (·.entry)
  let g0 := if inStream then i0 / 64 else k.soloGroup p.page
  let k1 := if inStream then k.setLayer p.layer { y with stream := y.stream ++ ents } else
    k.setLayer p.layer { y with groups := tdel y.groups g0 }
  let (addrs, k2) :=
    if inStream then streamAddrs d p.layer bpp (y.stream ++ ents) ents.length i0 k1
    else
      let (s, k2) := slotOf d k1 p.layer g0
      ((List.range ents.length).map (fun j => blockAddr 0 bpp true (ents.take j) 0 (slotAddr s)), k2)
  let groups := if inStream then (List.range ((i0 + ents.length - 1) / 64 + 1 - g0)).map (· + g0) else [g0]
  let b : PageBody := {
    id := d.sas.nextBody
    resv := k.base
    index := (groups.flatMap (fun g => framesOf (k.groupAddr p.layer g) 72)).eraseDups
    group := k.groupAddr p.layer g0
    first := if inStream then i0 % 64 else 0
    fmt := k.shape.fmt
    tokens := p.tokens
    thinned := thin
    solo := !inStream
    blocks := p.blocks
    addrs := addrs }
  let fs := b.frames ++ metaFrames k p.layer p.page groups
  match mapAll d fs with
  | none => .inl (mapCause d fs)
  | some d =>
    let d := (addrs.zip p.blocks).foldl (fun d x => unpoison d x.1 x.2.data.length) d
    let d := unpoisonMeta d k p.layer p.page groups
    let r : PageRef := {
      layer := p.layer
      page := p.page
      body := b.id
      tokens := p.tokens
      thinned := thin
      summary := p.summary
      masks := p.masks }
    let y2 := k2.layer p.layer
    let k3 := { k2.setLayer p.layer { y2 with lastAccess := now d } with
      pages := k2.pages.filter (fun x => !(x.layer == p.layer && x.page == p.page)) ++ [r] }
    let d := { d with sas := { d.sas with bodies := d.sas.bodies ++ [b], nextBody := b.id + 1 } }
    .inr (k3, mirrorPage d k3 r b groups)

/-- Page number that the stream of a layer takes next (R239, R242). -/
def Skein.nextPage (k : Skein) (l : Nat) : Nat :=
  k.prefixPages + (k.layer l).stream.length / max 1 (shapeBpp k.shape)

/-- Place pages that waited for the pages before them (R242); `fuel` bounds them. -/
def placeEarly (l : Nat) : Nat → Skein → Dev → Skein × Dev
  | 0, k, d => (k, d)
  | f + 1, k, d =>
    let y := k.layer l
    match y.early.find? (fun p => p.page == k.nextPage l) with
    | none => (k, d)
    | some p => match storePage d k p true false with
      | .inl _ => (k, d)
      | .inr (k2, d) =>
        let y2 := k2.layer l
        placeEarly l f (k2.setLayer l { y2 with early := y2.early.filter (fun x => x.page != p.page) }) d

/-- What fault records about a skein's request name at its home (R681). -/
def Skein.ref (k : Skein) : OpRef := { request := k.req, owner := k.tenant, intake := false, remote := true }

/-- The summarize draft's summary of a page in stored form: one summarize job (R222). -/
def resummarize (d : Dev) (k : Skein) (p : PagePart) : PagePart × Dev :=
  ({ p with summary := summarize k.shape (fit (expandBlocks k.shape.fmt p.blocks 0).1 (pageBytes k.shape)) p.tokens },
    jobDone d k.tenant 0 [])

/-- Place one page of a skein, or say why not (R222, R235, R242, R245, R257, R269); `summed`: its summary has just been computed. The
skein comes back with it. -/
def placePage (d : Dev) (k : Skein) (p : PagePart) (summed : Bool) : Nat × Skein × Dev :=
  if k.cap ≤ p.page then (St.skeinCapacity, k, d)
  else if sasRefusing d then let r := placeRefused d; (r.1, k, r.2)
  else
    let finish (o : Nat ⊕ (Skein × Dev)) (cow : Bool) : Nat × Skein × Dev := match o with
      | .inl 0 => let r := placeRefused d; (r.1, k, r.2)
      | .inl c => (St.bobbinUncorrectable, k, faultOp d k.ref c St.bobbinUncorrectable 0 0)
      | .inr (k2, d2) =>
        let d2 := if cow then ctrInc d2 cPrefixCow else d2
        let (k3, d3) := placeEarly p.layer ((k2.layer p.layer).early.length) k2 d2
        (St.ok, k3, d3)
    match k.page? p.layer p.page with
    | none =>
      if p.page == k.nextPage p.layer then finish (storePage d k p true false) false
      else if k.nextPage p.layer < p.page then
        let y := k.layer p.layer
        (St.ok, k.setLayer p.layer { y with early := y.early.filter (fun x => x.page != p.page) ++ [p] }, d)
      else finish (storePage d k p false false) false
    | some r =>
      let shared := bodyShared d r.body
      let last := !shared && !r.foreign && p.page + 1 == k.nextPage p.layer &&
        (match findBody d r.body with | some b => !b.solo | none => false)
      let k := if p.page < k.prefixPages then { k with intact := false } else k
      if last then
        let y := k.layer p.layer
        let k := k.setLayer p.layer { y with stream := y.stream.take (y.stream.length - shapeBpp k.shape) }
        finish (storePage d k p true false) false
      else if shared && !summed then
        let (p, d) := resummarize d k p
        finish (storePage d k p false false) true
      else finish (storePage d k p false false) shared

/-! ## The prefix table (R213 to R220) -/

/-- Bucket of a hash (R213). -/
def hashBucket (h : U128) : Nat := h.toNat % 2 ^ 21
/-- SAS address of a way (R213, R225). -/
def wayAddr (b w : Nat) : Nat := 0x20000000 + 256 * b + 32 * w
/-- Bytes of an entry (R214). -/
def PrefixEntry.bytes (e : PrefixEntry) : Bytes :=
  le e.hash.toNat 16 ++ le e.skein.toNat 8 ++ le e.model 4 ++ le (e.block + 2 ^ 25 * e.owner) 4
/-- Whether an entry has a key (R215). -/
def PrefixEntry.isKey (e : PrefixEntry) (h : U128) (model owner : Nat) : Bool :=
  e.bucket == hashBucket h && e.hash == h && e.model == model && e.owner == owner

/-- Enter one block's hash (R216). -/
def prefixInsert (d : Dev) (k : Skein) (block : Nat) (h : U128) : Dev :=
  let b := hashBucket h
  let here := d.sas.prefixTable.filter (fun e => e.bucket == b)
  if 2 ≤ (here.filter (fun e => e.isKey h k.model k.tenant)).length then d
  else match (List.range 8).find? (fun w => !here.any (fun e => e.way == w)) with
    | none => ctrInc d cPrefixInsertDropped
    | some w =>
      let e : PrefixEntry := {
        bucket := b
        way := w
        hash := h
        skein := k.id
        model := k.model
        block := block
        owner := k.tenant }
      sasMirror { d with sas := { d.sas with prefixTable := d.sas.prefixTable ++ [e] } } k.tenant (wayAddr b w) e.bytes

/-- Remove the entries of a skein (R220). -/
def prefixRemove (d : Dev) (k : Skein) : Dev :=
  let out := d.sas.prefixTable.filter (fun e => e.skein == k.id)
  let d := { d with sas := { d.sas with prefixTable := d.sas.prefixTable.filter (fun e => e.skein != k.id) } }
  out.foldl (fun d e => sasMirror d k.tenant (wayAddr e.bucket e.way) (zeroBytes 32)) d

/-- The lowest way that matches a key and a shape (R217). -/
def prefixFind (d : Dev) (h : U128) (model owner : Nat) (sh : Shape) : Option PrefixEntry :=
  let ms := d.sas.prefixTable.filter (fun e => e.isKey h model owner &&
    (match findSkein d e.skein with | some k => k.shape == sh | none => false))
  match least (ms.map (·.way)) with
  | none => none
  | some w => ms.find? (fun e => e.way == w)

/-- A page of a block is at the reference limit (R219). -/
def refLimit (d : Dev) (k : Skein) (block : Nat) : Bool :=
  k.pages.any (fun r => r.page == block && 65535 ≤ bodyRefs d r.body)

/-- The lookup of R217 over a chain from block `i`: the entries that match. -/
def prefixLookup (k : Skein) : List U128 → Nat → Dev → List PrefixEntry × Dev
  | [], _, d => ([], d)
  | h :: hs, i, d => match prefixFind d h k.model k.tenant k.shape with
    | none => ([], d)
    | some e =>
      if e.block != i then
        ([], detect d 0x0A e.skein.toNat 0x302 k.id.toNat i)
      else match findSkein d e.skein with
        | none => ([], d)
        | some o =>
          if refLimit d o i then ([], ctrInc d cPrefixRefLimit)
          else let r := prefixLookup k hs (i + 1) d; (e :: r.1, r.2)

/-! ## Freeing (R21, R59, R60, R248) -/

/-- Free a skein: its hashes, its references, its descriptor; the slot retires at the last incarnation. -/
def freeSkein (d : Dev) (k : Skein) : Dev :=
  let d := prefixRemove d k
  let d := { d with sas := { d.sas with skeins := d.sas.skeins.filter (fun x => x.slot != k.slot) } }
  let d := sasMirror d k.tenant (256 * k.slot) (zeroBytes 256)
  let d := if skeinInc k.id == 4194303 then
      ctrInc { d with sas := { d.sas with retired := k.slot :: d.sas.retired } } cSkeinRetired
    else d
  collect d

/-- The PREFIX skein with the oldest LAST_ACCESS that a test picks; ties to the lower slot (R32, R255). -/
def oldestPrefix (d : Dev) (p : Skein → Bool) : Option Skein :=
  (d.sas.skeins.filter (fun k => k.state == .prefix_ && p k)).foldl (fun b k => match b with
    | none => some k
    | some x => if k.lastAccess < x.lastAccess || (k.lastAccess == x.lastAccess && k.slot < x.slot) then some k else b) none

/-- Meanings that may end an operation drop what it alone still read (R249). -/
def onDevC (f : Dev → Dev) (s : State) : Host.Outcome State Fault Refusal := onDev (fun d => collect (f d)) s

end Sys2Proof.Machine
end

