-- ==== Sys2Proof/Machine/WeftOps.lean ====
section
/-! DEFINITION. Shared operations of the transport: paths and packet numbers (R520 to R522, R538), frames handed to the
ports (R599, R600), responses (R532, R541, R543), completion at the receiver (R531 to R533, R544). -/

namespace Sys2Proof.Machine

open Sys2Proof

/-- Low 32 bits of local time. -/
def now32 (d : Dev) : U32 := u32 (now d)

/-- Enabled paths in ascending order (R538). -/
def Conn.pathList (c : Conn) : List Nat := (List.range 8).filter (fun p => bitOf c.paths p)

/-- Path of packet `i` of message `m` (R538). -/
def Conn.pathOf (c : Conn) (m i : Nat) : Nat :=
  let ps := c.pathList
  ps.getD ((m + i) % max 1 ps.length) 0

/-- Egress port of a path. -/
def Conn.port (c : Conn) (p : Nat) : Nat := bits c.egress (3 * p + 2) (3 * p)

/-- The one warning of an association whose packet numbers run out (R522). -/
def pnWarning (d : Dev) (sa : Nat) : Dev :=
  if (findAssoc d sa).any (fun a => 2 ^ 48 - 2 ^ 40 ≤ a.pn + 1) && !d.weft.warned.contains sa then
    detect { d with weft := { d.weft with warned := sa :: d.weft.warned } } 0x0C sa 0x703 0 0
  else d

/-- Take the next packet number of an association (R520, R522). -/
def takePn (d : Dev) (sa : Nat) : Option (Nat × Dev) :=
  match findAssoc d sa with
  | none => none
  | some a => if saUsable d sa then some (a.pn + 1, pnWarning (usePn d a) sa) else none

/-- A port's state. -/
def portAt (d : Dev) (p : Nat) : Port := d.ports.getD p {}
/-- Store a port's state. -/
def setPort (d : Dev) (p : Nat) (x : Port) : Dev := { d with ports := d.ports.set p x }

/-- Hand a frame to a port. -/
def queueFrame (d : Dev) (p : Nat) (f : PortFrame) : Dev :=
  let x := portAt d p
  setPort d p { x with queue := x.queue ++ [f] }

/-- Bytes of a payload. -/
def payloadSize : Payload → Nat → Nat
  | .bytes b, _ => b.length
  | .poisoned n, _ => n
  | .svc _, n => n
  | .none, _ => 0

/-- The parts of a frame below its transport header (R513, R514, R582, R599): the device sends every frame green, without ECN. -/
def frameHead (d : Dev) (c : Conn) (path vc dport : Nat) : FrameHead :=
  let n := c.port path
  let a := 0x200000 + n * 0x10000
  { port := n
    dstMac := img d (a + 0x40) 47 0
    srcMac := img d (a + 0x38) 47 0
    srcIp := BitVec.ofNat 128 (img d (a + 0x48) 63 0 + img d (a + 0x50) 63 0 * 2 ^ 64)
    dstIp := c.peerIp
    tclass := (c.tc * 8 + vc * 2) * 4
    sport := (c.sportBase + 8 * (c.reroutes.getD path 0 % 8) + path) % 65536
    dport := dport }

/-- Send one Weft packet of a connection on a path (R512 to R516, R520). -/
def sendPacket (d : Dev) (c : Conn) (path : Nat) (vc : Nat) (h : WeftHdr) (pl : Payload) (size : Nat) (key : Place)
    (dep : Option (Nat × U32)) (ackAt : Option Nat) : Dev :=
  match takePn d c.saTx with
  | none => d
  | some (pn, d) =>
    let h := { h with sa := c.saPeer, pn := pn, conn := c.peerConn, path := path, epoch := c.txEpoch.getD path 0 }
    let d := queueFrame d (c.port path) {
      cls := h.cls
      tc := c.tc
      vc := vc
      wire := 160 + size
      key := key
      what := .packet (frameHead d c path vc (img d 0x180000 15 0)) h pl
      dep := dep
      ackAt := ackAt }
    ctrInc d cTxPackets

/-- The 16 bytes of an ACK, SACK or NAK (R532). HOLD_NS is filled as the frame leaves. DESIGN CHOICE (log entry 81): the order of the
bytes within a field is the transport headers' (R8); R532 and R535 state none for this payload. -/
def ackBytes (echo : U32) (status placed : Nat) : Bytes := be echo.toNat 4 ++ be 0 4 ++ be status 2 ++ be 0 2 ++ be placed 4

/-- Send a response of a message: ACK 0x08, SACK 0x09 or NAK 0x0A (R541, R600). -/
def respond (d : Dev) (c : Conn) (op : Nat) (msn : U32) (arrival : Nat) (payload : Bytes) : Dev :=
  let d := if op == 0x0A then ctrInc d cNakSent else d
  sendPacket d c (c.pathOf msn.toNat 0) 2 { op := op, msn := msn, mlen := payload.length } (.bytes payload) payload.length
    { arrival := now d } none (some arrival)

/-- The tracker of a message. -/
def findTracker (d : Dev) (c : Nat) (m : U32) : Option Tracker := d.weft.trackers.find? (fun t => t.conn == c && t.msn == m)
/-- Store a tracker. -/
def setTracker (d : Dev) (t : Tracker) : Dev :=
  { d with weft := { d.weft with
      trackers := replaceFirst (fun x => x.conn == t.conn && x.msn == t.msn) t d.weft.trackers } }
/-- Free a tracker. -/
def dropTracker (d : Dev) (t : Tracker) : Dev :=
  { d with weft := { d.weft with trackers := dropFirst (fun x => x.conn == t.conn && x.msn == t.msn) d.weft.trackers } }

/-- Advance RX_BASE over leading complete messages (R532); `fuel` bounds them. -/
def advanceBase : Nat → Conn → Conn
  | 0, c => c
  | f + 1, c =>
    if c.rxDone.contains c.rxBase then
      advanceBase f { c with rxBase := c.rxBase + 1, rxDone := c.rxDone.filter (· != c.rxBase) }
    else c

/-- Mark a message complete at the receiver (R531, R532). -/
def markDone (d : Dev) (cn : Nat) (m : U32) : Dev :=
  match findConn d cn with
  | none => d
  | some c => setConn d (advanceBase 65 { c with rxDone := m :: c.rxDone })

/-- Remember how a message was answered, as long as its sender may still ask (R531). -/
def keepSaid (c : Conn) (x : U32 × Nat) : List (U32 × Nat) :=
  x :: c.said.filter (fun y => -128 < serialDiff y.1 c.rxBase)

/-- Acknowledge the flushes whose lower messages are all complete (R544); `fuel` bounds them. -/
def wakeFlushes (cn : Nat) : Nat → Dev → Dev
  | 0, d => d
  | f + 1, d =>
    match findConn d cn with
    | none => d
    | some c =>
      match d.weft.trackers.find? (fun t => t.conn == cn && t.op == 0x05 && t.msn == c.rxBase) with
      | none => d
      | some t =>
        let failed := c.rxBad.any (fun x => serialDiff x t.msn < 0)
        let d := setConn (dropTracker d t) { c with
          rxBad := c.rxBad.filter (fun x => 0 < serialDiff x t.msn)
          said := if failed then keepSaid c (t.msn, St.weftFailed) else c.said }
        let d := markDone d cn t.msn
        let d := match findConn d cn with
          | some c => respond d c 0x08 t.msn t.lastAt (ackBytes t.ts (if failed then St.weftFailed else St.ok) 0)
          | none => d
        wakeFlushes cn f d

/-- Answer a message that is complete or refused: an ACK, or a NAK with a status; a NAK of the kinds that fail only their
own message still counts as complete (R532, R543). -/
def answerMsg (d : Dev) (t : Tracker) (status : Nat) (done bad : Bool) : Dev :=
  let d := dropTracker d t
  let d := if done then markDone d t.conn t.msn else d
  match findConn d t.conn with
  | none => d
  | some c =>
    let c := if status == St.ok then c else { c with said := keepSaid c (t.msn, status), rxBad := if bad then t.msn :: c.rxBad else c.rxBad }
    let d := setConn d c
    let d := respond d c (if status == St.ok then 0x08 else 0x0A) t.msn t.lastAt (ackBytes t.ts status t.bytes)
    wakeFlushes t.conn (d.weft.trackers.length + 1) d

/-- The waiting message of a kind from a peer (PLACE, HANDOFF_REPLY, WINDOW): its first tracker. -/
def awaitingFrom (d : Dev) (frm kind : Nat) : Option Tracker :=
  d.weft.trackers.find? (fun t => t.awaiting && t.svc == kind &&
    (match findConn d t.conn with | some c => c.peerFleet == frm | none => false))

/-- Answer the waiting PLACE, WINDOW or HANDOFF_REPLY of a peer (R152, R257, R543). -/
def svcAnswer (d : Dev) (frm kind status : Nat) : Dev :=
  match awaitingFrom d frm kind with
  | none => d
  | some t => answerMsg d t status true (kind != 0x0B && status != St.ok)

end Sys2Proof.Machine
end

