-- ==== Sys2Proof/Machine/ReqOps.lean ====
section
/-! DEFINITION. Shared operations on request table entries (R141 to R159, R173 to R177): finding, storing with the
mirror, freeing, ending, and sending the messages of the request protocol. -/

namespace Sys2Proof.Machine

open Sys2Proof

/-! ## Entries -/

/-- Number under which a request's incarnation and forwarding note are kept: those of an adopted origin stand apart. -/
def reqKey (d : Dev) (i : U64) : Nat := reqSlot i + (if reqOrigin i == fleet d then 0 else 16384)

/-- State code of R151. -/
def ReqState.code : ReqState → Nat
  | .free => 0
  | .opening => 1
  | .prefill => 2
  | .handing => 3
  | .shipping => 4
  | .waiting => 5
  | .decoding => 6
  | .ending => 7
  | .accepting => 8

/-- Tokens as 32-bit little-endian words. -/
def tokenBytes (ts : List U32) : Bytes := ts.flatMap (fun t => le t.toNat 4)

/-- The first 128 bytes of an entry (R146). -/
def Req.headBytes (r : Req) : Bytes :=
  le r.core.requestId.toNat 8 ++ le r.core.skeinId.toNat 8 ++
  le (r.state.code + 16 * bit1 r.gen + 32 * bit1 r.cancelPending + 64 * r.core.owner) 4 ++ le r.core.cplRing 2 ++
  le r.core.tokenRing 2 ++ le r.core.home 4 ++ le r.core.genDevice 4 ++ le r.core.opened 8 ++ le r.core.ageAtOpen 8 ++
  le r.core.lastStep.toNat 4 ++ le r.core.generated 4 ++ le r.core.maxTokens 4 ++ le r.core.stopSet 4 ++
  le r.core.ttftUs 4 ++ le r.core.tbtUs 4 ++ le r.core.lastToken 8 ++ le r.core.tag.toNat 4 ++ le r.core.kPages 2 ++
  le r.core.kCap 2 ++ le r.core.epsilon.toNat 4 ++ le r.core.biasTable 4 ++ le r.core.windowPages 4 ++ zeroBytes 28

/-- A whole entry of 2 KiB (R146, R211). -/
def Req.entryBytes (r : Req) : Bytes :=
  fit r.headBytes 128 ++ fit r.stopCopy 640 ++ le r.hashCarry.toNat 16 ++ le r.blockBuf.length 4 ++ le r.nextBlock 4 ++
  zeroBytes 40 ++ fit (tokenBytes r.history) 60 ++ le r.history.length 4 ++ fit (tokenBytes r.blockBuf) 256 ++ zeroBytes 896

/-- The prompt-side entry of a request. -/
def findPrompt (d : Dev) (i : U64) : Option Req := d.reqs.live.find? (fun r => !r.gen && r.core.requestId == i)
/-- The generation-side entry of a request. -/
def findGen (d : Dev) (i : U64) : Option Req := d.reqs.live.find? (fun r => r.gen && r.core.requestId == i)
/-- The request that orders a class B operation by its request deadline (R203, R204). -/
def reqDeadline (d : Dev) (i : U64) : Option Nat :=
  match findGen d i with
  | some r =>
    if (r.state == .waiting || r.state == .decoding) && r.core.tbtUs != 0 then some (r.core.lastToken + 1000 * r.core.tbtUs) else none
  | none => match findPrompt d i with
    | some r =>
      if (r.state == .opening || r.state == .prefill) && r.core.ttftUs != 0 then some (r.core.opened + 1000 * r.core.ttftUs)
      else none
    | none => none

/-- The earlier of two deadlines. -/
def earlier (a b : Option Nat) : Option Nat := match a, b with
  | some x, some y => some (min x y)
  | some x, none => some x
  | none, y => y

/-- Place of an operation at the stage it stands at (R83, R84, R204). -/
def opPlace (d : Dev) (o : Op) : Place :=
  let dl := earlier o.deadline (reqDeadline d o.ref.request)
  { due := match o.cls with
      | .g => ((o.stages[o.cur]?).map (fun s => (s.deadline : Int))).or (o.deadline.map Int.ofNat)
      | .b => dl.map (fun x => (x : Int) - remainNs d o)
    arrival := o.ref.arrival
    adm := o.id }

/-- Whether an operation is served before another on a resource (R82 to R84). -/
def opBefore (d : Dev) (a b : Op) : Bool := match a.cls, b.cls with
  | .g, .b => true
  | .b, .g => false
  | _, _ => placeBefore (opPlace d a) (opPlace d b)

/-- An entry that is ENDING. -/
def findEnding (d : Dev) (i : U64) : Option Req :=
  d.reqs.live.find? (fun r => r.state == .ending && r.core.requestId == i)
/-- Whether a slot of the table is free. -/
def slotFree (d : Dev) (n : Nat) : Bool := !d.reqs.live.any (fun r => r.slot == n)

/-- Store an entry and mirror it (R695). -/
def setReq (d : Dev) (r : Req) : Dev :=
  let d := { d with reqs := { d.reqs with live := replaceFirst (fun x => x.slot == r.slot) r d.reqs.live } }
  mirrorPush d [{ kind := 2, owner := r.core.owner, addr := r.slot * 2048, data := r.entryBytes }]

/-- Add an entry. -/
def addReq (d : Dev) (r : Req) : Dev :=
  let d := { d with reqs := { d.reqs with live := d.reqs.live ++ [r] } }
  mirrorPush d [{ kind := 2, owner := r.core.owner, addr := r.slot * 2048, data := r.entryBytes }]

/-- Base of the landing area of a request slot (R225); an adopted request's lies in the mirror space (R705). -/
def landingBase (n : Nat) : Nat :=
  if n < 16384 then 0x40000000000 + n * 0x20000000 else mirrorOff + 0x40000000000 + (n - 16384) * 0x20000000

/-- Whether a 1 GiB span range is free and lies in the span area (R225). -/
def spansFree (d : Dev) (base n : Nat) : Bool :=
  base % 0x40000000 == 0 && 0xC0000000000 ≤ base && base + n * 0x40000000 ≤ 0x100000000000 &&
  d.sas.spans.all (fun s => base + n * 0x40000000 ≤ s.1 || s.1 + s.2 * 0x40000000 ≤ base)

/-- Whether some run of `n` free spans exists. -/
def spansExist (d : Dev) (n : Nat) : Bool :=
  (List.range 4096).any (fun i => spansFree d (0xC0000000000 + i * 0x40000000) n)

/-- Free the spans that begin at a base, and their frames. -/
def freeSpans (d : Dev) (owner : Nat) (b : Option Nat) : Dev :=
  match b with
  | none => d
  | some a => match d.sas.spans.find? (fun s => s.1 == a) with
    | none => d
    | some s => workFree { d with sas := { d.sas with spans := d.sas.spans.filter (fun x => x.1 != a) } } owner a
        (s.2 * 0x40000000)

/-- Some record of a type about a request still waits in a ring's pending queue. -/
def recQueued (d : Dev) (i : U64) (type : Byte) : Bool :=
  d.rings.any (fun g => g.queue.any (fun b => b.head? == some type && unLe (sub b 8 8) == i.toNat))

/-- A token record of a request still waits for its ring (R176). -/
def tokenQueued (d : Dev) (i : U64) : Bool := recQueued d i 3#8

/-- Whether the end record of a request, or a token record of it, still waits for its ring (R792). -/
def endQueued (d : Dev) (r : Req) : Bool :=
  r.endRec.isSome || recQueued d r.core.requestId 2#8 || tokenQueued d r.core.requestId

/-- Free an entry: its areas, its kept identifier, and on the origin retirement at the last incarnation (R143, R153). -/
def freeReqNow (d : Dev) (r : Req) : Dev :=
  let d := freeSpans (freeSpans d r.core.owner r.viewBase) r.core.owner r.windowBase
  let d := if r.gen then d else workFree d r.core.owner (landingBase r.slot) 0x20000000
  let d := { d with reqs := { d.reqs with
    live := d.reqs.live.filter (fun x => x.slot != r.slot)
    keptId := tset d.reqs.keptId r.slot r.core.requestId } }
  let d := if d.reqs.live.any (fun x => x.core.requestId == r.core.requestId) then d else
    { d with sas := { d.sas with handed := d.sas.handed.filter (fun h => h.req != r.core.requestId) } }
  let d := mirrorPush d [{ kind := 2, owner := r.core.owner, addr := r.slot * 2048, data := zeroBytes 2048 }]
  if !r.gen && reqInc r.core.requestId == 67108863 then
    ctrInc { d with reqs := { d.reqs with retired := r.slot :: d.reqs.retired } } cReqRetired
  else d

/-- Free an entry, or leave that until its end record is written (R792). -/
def freeReq (d : Dev) (r : Req) : Dev :=
  if endQueued d r then setReq d { r with acked := true } else freeReqNow d r

/-! ## Ending (R173 to R176, R797) -/

/-- Records of a request's own entry, less an intake record's (R173). -/
def Req.ref (r : Req) : OpRef := { r.openRef with kind := 0x10, request := r.core.requestId, intake := true }

/-- What a fault record about a request names (R681): at the prompt device its OPEN; at the generation device an operation
that reached it over the Weft transport. -/
def Req.faultRef (r : Req) : OpRef :=
  if r.gen then { request := r.core.requestId, owner := r.core.owner, intake := false, remote := true }
  else { r.openRef with request := r.core.requestId }

/-- The end record's bytes (R173). -/
def endBytes (r : Req) (status cause cancelAck : Nat) : Bytes :=
  completionBytes 0x02 0x10 status r.ref 0 (r.core.generated + r.core.lastStep.toNat * 2 ^ 32) (cause + 256 * cancelAck)

/-- Put an end record into CPL_RING; a request keeps room for its own (R792). -/
def putEnd (d : Dev) (r : Req) (bs : Bytes) : Dev :=
  match findRing d r.core.cplRing with
  | some g => if g.kind == 1 then ringPut d r.core.cplRing bs true else ctrInc d cRingDiscarded
  | none => ctrInc d cRingDiscarded

/-- The end record goes on its way: with a remote token ring it waits for a flush on that ring's connection (R176). -/
def sendEnd (d : Dev) (r : Req) (bs : Bytes) : Req × Dev :=
  match findRing d r.core.tokenRing with
  | some g =>
    if r.gen && g.remote && connReady d g.conn then
      ({ r with endRec := some bs, endFlush := true },
        postEntry d g.conn { op := 0x05, use := .ringFlush g.num r.core.requestId })
    else ({ r with endRec := none }, putEnd d r bs)
  | none => ({ r with endRec := none }, putEnd d r bs)

/-- Write the end record, after every token record and every fault record of the request (R176, R177). -/
def writeEnd (d : Dev) (r : Req) (status cause cancelAck : Nat) : Req × Dev :=
  let bs := endBytes r status cause cancelAck
  if tokenQueued d r.core.requestId || faultPending d r.faultRef then ({ r with endRec := some bs }, d)
  else sendEnd d r bs

/-- The end records that nothing keeps back any more go on their way (R176, R177). -/
def sendEnds (d : Dev) : Dev :=
  (d.reqs.live.filter (fun r => r.endRec.isSome && !r.endFlush)).foldl (fun d r =>
    if tokenQueued d r.core.requestId || faultPending d r.faultRef then d else
    let (r, d) := sendEnd d r (r.endRec.getD [])
    setReq d r) d

/-- Free the entries that only waited for their end records (R792). -/
def freeWritten (d : Dev) : Dev :=
  (d.reqs.live.filter (fun r => r.state == .ending && r.acked)).foldl
    (fun d r => if endQueued d r then d else freeReqNow d r) d

/-- Rings have taken records from their pending queues: what waited for that follows (R176, R177, R792). -/
def ringsMoved (d : Dev) : Dev := freeWritten (sendEnds (releaseBehind d))

/-- Settle the STEP records that await commit when a request ends (R797). -/
def settleSteps (d : Dev) (r : Req) : Req × Dev :=
  (  { r with await := [] }, r.await.foldl (fun d a => complete d a.ref St.reqEnded 0 0 0) d)

/-- Send abort of a request's skein to its home (R45, R151). -/
def sendAbort (d : Dev) (r : Req) : Dev := (sendSvc d r.core.home (.abort r.core.requestId r.core.skeinId)).2

/-- End a request: the end record, the waiting STEP records, and the entry in ENDING. -/
def endReq (d : Dev) (r : Req) (status cause cancelAck : Nat) : Req × Dev :=
  let (r, d) := writeEnd d r status cause cancelAck
  let (r, d) := settleSteps d r
  let r := { r with state := .ending, cancelPending := false, since := now d }
  (r, setReq d r)

/-- End a request and abort its skein (R151): when no identifier is known yet, the abort waits for it. -/
def endAbort (d : Dev) (r : Req) (status cause cancelAck : Nat) : Dev :=
  let (r, d) := endReq d r status cause cancelAck
  if r.core.skeinId == 0 then setReq d { r with cancelled := true } else sendAbort d r

/-- Free an entry right after its end record (OPENING rows of R151). -/
def endFree (d : Dev) (r : Req) (status : Nat) : Dev :=
  let (r, d) := endReq d r status 0x05 0
  freeReq d { r with acked := true }

/-! ## Messages of the request protocol that the transport answers late (R152, R543) -/

/-- A request of the partner while the partner is lost and not taken over (R122). -/
def partnerLost (d : Dev) (i : U64) : Bool :=
  d.pair.state == .lost && d.pair.mirrorReqs.any (fun e => unLe (sub e.2 0 8) == i.toNat)

/-- How a named request is found (R153, R154, R157). -/
inductive Found where
  | gen (r : Req)
  | prompt (r : Req)
  | ended
  | note (gen owner : Nat)
  | partner
  | stale

/-- Find the request that a record names: a live entry, a kept identifier, a forwarding note, or nothing. -/
def lookupReq (d : Dev) (i : U64) : Found :=
  match findGen d i with
  | some r => .gen r
  | none => match findPrompt d i with
    | some r => .prompt r
    | none =>
      let s := reqKey d i
      if isOurs d (reqOrigin i) && tget d.reqs.inc s == some (reqInc i) && (tget d.reqs.note s).isSome then
        .note (tgetD d.reqs.note s (0, 64)).1 (tgetD d.reqs.note s (0, 64)).2
      else if d.reqs.keptId.any (fun e => e.2 == i) then .ended
      else if partnerLost d i then .partner
      else .stale

/-- Whether a request that a record names belongs to another owner (R139). -/
def reqForeign (d : Dev) (t : Taken) (f : Found) : Bool :=
  match f with
  | .gen r => r.core.owner != laneOwner d t.lane
  | .prompt r => r.core.owner != laneOwner d t.lane
  | .note _ o => o != laneOwner d t.lane
  | _ => false

/-- Refusal for a request with no live entry. -/
def missStatus : Found → Nat
  | .ended => St.reqEnded
  | .note .. => St.reqEnded
  | .partner => St.partnerLost
  | .gen _ => St.skeinState
  | .prompt _ => St.skeinState
  | .stale => St.reqStale

end Sys2Proof.Machine
end

