-- ==== Sys2Proof/Machine/BobOps.lean ====
section
/-! DEFINITION. Shared operations of the bobbin tier: the rotation and programs (R334 to R336, R342), reads and their start
(R346 to R348), relocation and erases (R338 to R341), promotions (R250) and layer walks (R262 to R265), demotion's
units (R251). -/

namespace Sys2Proof.Machine

open Sys2Proof

/-! ## Places -/

/-- Target number of a channel and target (R359). -/
def tgtOf (ch t : Nat) : Nat := 8 * ch + t
/-- Target at position `i` of the rotation (R335). -/
def rotTarget (i : Nat) : Nat := tgtOf (i % 16) (i / 16 % 8)
/-- Store a target. -/
def setTarget (d : Dev) (t : Nat) (x : BobTarget) : Dev := { d with bob := { d.bob with targets := tset d.bob.targets t x } }
/-- A block of a target. -/
def BobTarget.block (x : BobTarget) (lun blk : Nat) : Option BobBlock := x.table.find? (fun b => b.lun == lun && b.blk == blk)
/-- Change a block. -/
def modBlock (d : Dev) (t lun blk : Nat) (f : BobBlock → BobBlock) : Dev :=
  let x := targetAt d t
  setTarget d t { x with table := x.table.map (fun b => if b.lun == lun && b.blk == blk then f b else b) }
/-- Store a unit. -/
def setUnit (d : Dev) (u : BobUnit) : Dev :=
  { d with bob := { d.bob with units := replaceFirst (fun x => x.id == u.id) u d.bob.units } }
/-- A unit lies in a block. -/
def BobUnit.inBlock (u : BobUnit) (t lun blk : Nat) : Bool := u.tgt == t && u.lun == lun && u.blk == blk
/-- Valid slots of a block (R337). -/
def validSlots (d : Dev) (t lun blk : Nat) : Nat :=
  ((d.bob.units.filter (fun u => u.inBlock t lun blk)).map (fun u => (u.slots.filter Option.isSome).length)).sum
/-- The location of a block as BOBBIN_LAST_UE encodes it (R359, R682). -/
def locCode (t lun blk page : Nat) : Nat := t / 8 + 2 ^ 4 * (t % 8) + 2 ^ 7 * lun + 2 ^ 9 * blk + 2 ^ 30 * page

/-- Erased FREE blocks of READY targets. -/
def erasedFree (d : Dev) : Nat :=
  ((d.bob.targets.filter (fun x => x.2.st == 1)).map (fun x =>
    (x.2.table.filter (fun b => b.st == .free && !b.erasing)).length)).sum
/-- Good blocks of READY targets. -/
def goodBlocks (d : Dev) : Nat :=
  ((d.bob.targets.filter (fun x => x.2.st == 1)).map (fun x => (x.2.table.filter (fun b => b.st != .bad)).length)).sum

/-! Image settings of R359. -/
def relocRetries (d : Dev) : Nat := img d 0x400008 10 8
def wearSpread (d : Dev) : Nat := img d 0x400008 27 16
def readDisturb (d : Dev) : Nat := img d 0x400008 51 32
def retentionNs (d : Dev) : Nat := img d 0x400010 13 0 * 3600000000000
def gcLow (d : Dev) : Nat := img d 0x400010 23 16
def gcHigh (d : Dev) : Nat := img d 0x400010 31 24
def reserveFloor (d : Dev) : Nat := img d 0x400010 39 32

/-! ## Reads (R346 to R349) -/

/-- Targets on which a read has begun. -/
def busyTargets (d : Dev) (p : BobRead → Bool) : List Nat :=
  (d.bob.reads.filter (fun r => r.started && p r)).filterMap (fun r => (unitAt d r.unit).map BobUnit.tgt)

/-- A program or an erase of a target is suspended: it has a class G read queued (R348). -/
def suspended (d : Dev) (t : Nat) : Bool :=
  d.bob.reads.any (fun r => r.cls == .g && (match unitAt d r.unit with | some u => u.tgt == t | none => false))

/-- A target has a program or an erase in progress. -/
def writing (d : Dev) (t : Nat) : Bool :=
  d.bob.units.any (fun u => u.tgt == t && !u.written) || (targetAt d t).table.any (·.erasing)

/-- Whether a class B read waits before another by the slack of the operations that wait for their units (R84). -/
def slackFirst (d : Dev) (a b : BobRead) : Bool :=
  let due (r : BobRead) : Option Int := ((d.sas.promotions.filter (fun p => p.unit == r.unit)).filterMap (fun p =>
    (p.op.bind (findOp d)).bind (fun o => (opPlace d o).due))).foldl (fun m x => match m with
      | some y => some (min x y)
      | none => some x) none
  match due a, due b with
  | some x, some y => x < y
  | some _, none => true
  | none, _ => false

/-- Whether a waiting read can begin: class G when no other read of its target has begun and none of an earlier deadline
waits; class B in order of slack, only on a target that nothing else uses, and while enough READY targets stay free of class B (R84,
R346 to R348). -/
def canStart (d : Dev) (r : BobRead) : Bool :=
  match unitAt d r.unit with
  | none => false
  | some u =>
    let here (q : BobRead) : Bool := match unitAt d q.unit with | some v => v.tgt == u.tgt && q.id != r.id | none => false
    match r.cls with
    | .g => !d.bob.reads.any (fun q => here q && q.cls == .g && (q.started || q.deadline < r.deadline))
    | .b =>
      let others := ((busyTargets d (fun q => q.cls == .b)).filter (· != u.tgt)).eraseDups
      !d.bob.reads.any (fun q => here q && (q.started || q.cls == .g || slackFirst d q r)) && !writing d u.tgt &&
      shareBob d ≤ (readyTargets d).length - (others.length + 1)

/-- Begin the reads that can begin, in order. -/
def pumpReads (d : Dev) : Dev :=
  d.bob.reads.foldl (fun d r =>
    if r.started || !canStart d r then d
    else { d with bob := { d.bob with reads := d.bob.reads.map (fun x =>
      if x.id == r.id then { x with started := true, begun := now d } else x) } }) d

/-- Channel of a read's target. -/
def readChannel (d : Dev) (r : BobRead) : Option Nat := (unitAt d r.unit).map (fun u => u.tgt / 8)

/-- A read's unit goes over the channel before another's: class G first, in order of stage deadline; class B by slack (R84, R349). -/
def channelBefore (d : Dev) (a b : BobRead) : Bool :=
  match a.cls, b.cls with
  | .g, .b => true
  | .b, .g => false
  | .g, .g => a.deadline < b.deadline
  | .b, .b => slackFirst d a b

/-- An attempt of a read cannot have ended yet: its channel had to take another unit first, whose array read was over, at the image's
longest, before this one's transfer and decode could begin (R324, R349, R351). -/
def channelHeld (d : Dev) (r : BobRead) : Bool :=
  let tx := if img d 0x400010 40 40 == 1 then 11520 else 5120
  d.bob.reads.any (fun q => q.id != r.id && q.started && readChannel d q == readChannel d r && channelBefore d q r &&
    q.begun + 1000 * img d 0x400008 6 0 + tx + 6000 ≤ now d)

/-- Ask for a unit's read. A class G read displaces a class B attempt that its target has begun (R347). -/
def addRead (d : Dev) (unit : Nat) (cls : Cls) (deadline : Nat) (use : BobUse) : Dev :=
  if d.bob.reads.any (fun r => r.unit == unit && r.use == use && (r.cls == cls || r.cls == .g)) then d else
  let t := match unitAt d unit with | some u => u.tgt | none => 128
  let hit (r : BobRead) : Bool := cls == .g && r.cls == .b && r.started &&
    (match unitAt d r.unit with | some v => v.tgt == t | none => false)
  let d := if d.bob.reads.any hit then ctrInc d cBobPreempt else d
  let rs := d.bob.reads.map (fun r => if hit r then { r with started := false } else r)
  let r : BobRead := {
    id := d.bob.nextRead
    unit := unit
    cls := cls
    deadline := deadline
    use := use }
  pumpReads { d with bob := { d.bob with reads := rs ++ [r], nextRead := d.bob.nextRead + 1 } }

/-! ## Programs (R334 to R336, R342) -/

/-- The erased FREE block of a target with the fewest lifetime erases; ties to the lowest LUN, then block (R342). -/
def pickBlock (x : BobTarget) : Option BobBlock :=
  (x.table.filter (fun b => b.st == .free && !b.erasing && !b.retired)).foldl (fun best b => match best with
    | none => some b
    | some c => if b.erases < c.erases || (b.erases == c.erases && (b.lun < c.lun || (b.lun == c.lun && b.blk < c.blk)))
        then some b else best) none

/-- A block is opened: its first page takes the header (R336). -/
def emitHeader (d : Dev) (t : Nat) (b : BobBlock) : Dev :=
  emit d (.nandHeader { ch := t / 8, tgt := t % 8, lun := b.lun, blk := b.blk } 0x5257424B b.erases b.retired)

/-- The next page of a target: of its open block, or of a block opened now, whose first page takes the header (R336). -/
def nextPageOf (d : Dev) (t : Nat) : Option (Nat × Nat × Nat × Dev) :=
  let x := targetAt d t
  let take (d : Dev) (b : BobBlock) : Nat × Nat × Nat × Dev :=
    let full := x.pages ≤ b.next + 1
    (b.lun, b.blk, b.next, modBlock d t b.lun b.blk (fun b => { b with
      st := if full then .full else .open_
      next := b.next + 1
      first := some (b.first.getD (now d)) }))
  if x.st != 1 then none else
  match x.table.find? (fun b => b.st == .open_) with
  | some b => some (take d b)
  | none => (pickBlock x).map (fun b => take (emitHeader d t b) b)

/-- The next place of the rotation (R335); `fuel` bounds the targets tried. -/
def nextPlace (d : Dev) : Nat → Option (Nat × Nat × Nat × Nat × Dev)
  | 0 => none
  | f + 1 =>
    let t := rotTarget d.bob.rot
    let d1 := { d with bob := { d.bob with rot := (d.bob.rot + 1) % 128 } }
    match nextPageOf d1 t with
    | some (l, b, p, d2) => some (t, l, b, p, d2)
    | none => nextPlace d1 f

/-- What the state address space holds in META and PAGE (R232, R237, R238, R240): addresses and bytes. -/
def sasPieces (d : Dev) : List (Nat × Bytes) :=
  d.sas.bodies.flatMap (fun b => (b.addrs.zip b.blocks).map (fun x => (x.1, x.2.data))) ++
  d.sas.skeins.flatMap (fun k =>
    (List.range k.shape.layers).flatMap (fun l =>
      [(k.dirAddr l, k.dirBytes l), (k.hintAddr l, (k.layer l).hints.flatMap (fun p => le p 4))]) ++
    k.pages.flatMap (fun r => match findBody d r.body with
      | none => []
      | some b =>
        [(k.ptAddr r.layer r.page, le (ptEntry b r) 8), (k.sumAddr r.layer r.page, r.summary)] ++
        (r.masks.zipIdx).map (fun m => (k.maskAddr m.2 r.layer r.page, le m.1.toNat 8)) ++
        (if r.foreign then [] else (List.range ((b.first + b.blocks.length + 63) / 64)).map (fun i =>
          let g := b.group + 72 * i
          (g, k.groupNow r.layer ((g - k.groupAddr r.layer 0) / 72) b)))))

/-- The 4,096 bytes of a frame (R228). -/
def frameBytes (ps : List (Nat × Bytes)) (f : Nat) : Bytes :=
  (List.range 4096).map (fun i =>
    let a := 4096 * f + i
    match ps.find? (fun p => p.1 ≤ a && a < p.1 + p.2.length) with
    | some p => p.2.getD (a - p.1) 0
    | none => 0)

/-- The header of a unit: FRAME and VALID of its slots, SEQ and KEY (R327). -/
def unitHeader (u : BobUnit) : Bytes :=
  u.slots.flatMap (fun s => match s with | some f => le (f % 2 ^ 36 + 2 ^ 63) 8 | none => zeroBytes 8) ++
  le u.seq 8 ++ le (u.key % 128) 1 ++ zeroBytes 7

/-- The bytes of a read unit as they are programmed (R327 to R329); `erases`: its block's erase count in the session. -/
def unitBytes (d : Dev) (u : BobUnit) (erases : Nat) : Bytes :=
  let ps := sasPieces d
  let slots := u.slots.map (fun s => match s with
    | some f => fit (Config.xtsFrame u.key f (frameBytes ps f)) 4096
    | none => zeroBytes 4096)
  let head := unitHeader u
  let tag := fit (Config.bobTag u.seq (slots.flatten ++ head) (locCode u.tgt u.lun u.blk u.page) erases) 16
  let info := head ++ tag
  slots.flatten ++ info ++
  ((slots.zipIdx).flatMap (fun x => fit (Config.ldpcParity (x.1 ++ sub info (16 * x.2) 16)) 496))

/-- The channel carries a unit to its page (R327, R335). -/
def emitUnit (d : Dev) (u : BobUnit) : Dev :=
  let b := (targetAt d u.tgt).block u.lun u.blk
  emit d (.nandProgram { ch := u.tgt / 8, tgt := u.tgt % 8, lun := u.lun, blk := u.blk } u.page
    (unitBytes d u ((b.map BobBlock.session).getD 0)))

/-- Start the program of one unit (R327, R335); none when no target can take it. -/
def programUnit (d : Dev) (key : Nat) (slots : List (Option Nat)) (source : Option Nat) : Option (Nat × Dev) :=
  match nextPlace d 128 with
  | none => none
  | some (t, l, b, p, d) =>
    let u : BobUnit := {
      id := d.bob.nextUnit
      tgt := t
      lun := l
      blk := b
      page := p
      key := key
      slots := slots
      seq := d.bob.seq
      source := source }
    some (u.id, emitUnit { d with bob := { d.bob with units := d.bob.units ++ [u], nextUnit := u.id + 1, seq := u.seq + 1 } } u)

/-- Start the programs of several units with consecutive places (R251), or of none. -/
def programUnits (key : Nat) : List (List (Option Nat)) → Dev → Option (List Nat × Dev)
  | [], d => some ([], d)
  | s :: ss, d => match programUnit d key s none with
    | none => none
    | some (i, d) => (programUnits key ss d).map (fun r => (i :: r.1, r.2))

/-- Frames packed into units of four slots from a unit boundary (R251). -/
def packUnits (fs : List Nat) : List (List (Option Nat)) :=
  (chunks 4 (fs.length + 1) fs).map (fun c => (c.map some ++ [none, none, none]).take 4)

/-! ## Relocation and erases (R338 to R341) -/

/-- Forget units that hold nothing: no valid slot, written, not read. -/
def dropEmptyUnits (d : Dev) : Dev :=
  { d with bob := { d.bob with units := d.bob.units.filter (fun u =>
      !u.written || u.slots.any Option.isSome || d.bob.reads.any (fun r => r.unit == u.id) ||
      d.bob.units.any (fun v => v.source == some u.id)) } }

/-- Start erases of doomed blocks whose slots have moved and that nothing reads (R338). -/
def startErases (d : Dev) : Dev :=
  let busy (t : Nat) (b : BobBlock) : Bool :=
    validSlots d t b.lun b.blk != 0 ||
    d.bob.units.any (fun u => u.inBlock t b.lun b.blk && (!u.written || d.bob.reads.any (fun r => r.unit == u.id)))
  { d with bob := { d.bob with targets := d.bob.targets.map (fun x =>
      if x.2.st != 1 then x else
      (x.1, { x.2 with table := x.2.table.map (fun b =>
        if b.doomed && !b.erasing && b.st == .full && !busy x.1 b then { b with erasing := true } else b) })) } }

/-- What follows every event of the tier: empty units go, erases start, FULL ends (R345), reads begin. -/
def pumpBob (d : Dev) : Dev :=
  let d := startErases (dropEmptyUnits d)
  let d := if d.bob.full && gcLow d * goodBlocks d < 256 * erasedFree d then { d with bob := { d.bob with full := false } } else d
  pumpReads d

/-- Relocate every valid slot of a FULL block, then erase it (R339, R341). -/
def doomBlock (d : Dev) (t lun blk : Nat) (byGc : Bool) : Dev :=
  let d := modBlock d t lun blk (fun b => { b with doomed := true, byGc := byGc })
  let us := d.bob.units.filter (fun u => u.inBlock t lun blk && u.written && !u.failed && u.slots.any Option.isSome)
  pumpBob (us.foldl (fun d u => addRead d u.id .b 0 .relocate) d)

/-- A block that some trigger of R341 names: relocated when FULL and not doomed yet. -/
def relocBlock (d : Dev) (t lun blk ctr : Nat) : Dev :=
  match (targetAt d t).block lun blk with
  | some b => if b.st == .full && !b.doomed then doomBlock (ctrInc d ctr) t lun blk false else d
  | none => d

/-! ## Promotion (R250, R357) -/

/-- Start the promotion of a frame that lies in the bobbin tier, or say why its unit cannot be read (R250). -/
def promoteFrame (d : Dev) (f : Nat) (op : Option Nat) (walk : Option (Nat × Nat)) (cls : Cls) (deadline : Nat) :
    Option Nat × Dev :=
  match tget d.sas.frames f with
  | none => (none, d)
  | some e => match e.unit.bind (unitAt d) with
    | none => (none, d)
    | some u => match unitDead d u with
      | some c => (some c, d)
      | none =>
        let p : Promotion := {
          frame := f
          unit := u.id
          op := op
          walk := walk }
        let same := d.sas.promotions.any (fun x => x.frame == f && x.op == op && x.walk == walk)
        let begun := (d.sas.promotions.find? (fun x => x.frame == f)).map Promotion.read
        let d := if same then d else { d with sas := { d.sas with
          promotions := d.sas.promotions ++ [{ p with read := begun.getD false }]
          frames := tset d.sas.frames f { e with moving := true } } }
        (none, if begun == some true then d else addRead d u.id cls deadline .promote)

/-- Promote several frames: the first cause that stops one. -/
def promoteAll (fs : List Nat) (op : Option Nat) (walk : Option (Nat × Nat)) (cls : Cls) (deadline : Nat) (d : Dev) :
    Option Nat × Dev :=
  fs.foldl (fun r f => match r with
    | (some c, d) => (some c, d)
    | (none, d) => promoteFrame d f op walk cls deadline) (none, d)

/-! ## Layers and walks (R254, R262 to R266) -/

/-- Readiness bits of the stacks that hold frames an operation reads (R99). -/
def stackBits (d : Dev) (fs : List Nat) : List Nat :=
  ((fs.filterMap (fun f => (tget d.sas.frames f).bind (·.stack))).eraseDups).map rbStack

/-- Frames outside the stack tier. -/
def lowFrames (d : Dev) (fs : List Nat) : List Nat :=
  fs.eraseDups.filter (fun f => match tget d.sas.frames f with | some e => e.stack.isNone | none => false)

/-- Page-table, summary, mask and index-group frames of a layer, in the order of R263. -/
def layerMeta (d : Dev) (k : Skein) (l : Nat) (masks : Bool) : List Nat :=
  let rs := k.pages.filter (fun r => r.layer == l)
  rs.flatMap (fun r => framesOf (k.ptAddr l r.page) 8) ++
  rs.flatMap (fun r => framesOf (k.sumAddr l r.page) (sumBytes k.shape)) ++
  (if masks then rs.flatMap (fun r => (List.range k.maskSets).flatMap (fun m => framesOf (k.maskAddr m l r.page) 8)) else []) ++
  rs.flatMap (fun r => match findBody d r.body with | some b => b.index | none => [])

/-- Pages of a layer that have a frame outside the stack tier (R254). -/
def nonResident (d : Dev) (k : Skein) (l : Nat) : Nat :=
  (k.pages.filter (fun r => r.layer == l && (match findBody d r.body with
    | some b => !(lowFrames d b.frames).isEmpty
    | none => false))).length

/-- Frames a walk promotes (R263). -/
def walkFrames (d : Dev) (k : Skein) (l : Nat) : List Nat :=
  lowFrames d (layerMeta d k l true ++ (k.layer l).hints.flatMap (fun p => match k.page? l p with
    | some r => (match findBody d r.body with | some b => b.frames | none => [])
    | none => []))

/-- Start a walk of a layer that is not walking (R262, R265); frames of failed units are left (R352). -/
def startWalk (d : Dev) (slot l : Nat) : Dev :=
  match skeinAt d slot with
  | none => d
  | some k =>
    let y := k.layer l
    if y.walking then d else
    let d := ctrInc (setSkein d (k.setLayer l { y with walking := true })) cWalks
    (walkFrames d k l).foldl (fun d f => (promoteFrame d f none (some (slot, l)) .b 0).2) d

/-- The metadata of a layer lies in the stack tier (R266). -/
def metaResident (d : Dev) (k : Skein) (l : Nat) : Bool := (lowFrames d (layerMeta d k l false)).isEmpty

/-- The walks that a far job for a layer starts (R262). -/
def jobWalks (d : Dev) (k : Skein) (l : Nat) : Dev :=
  let n := max 1 k.shape.layers
  let d := (List.range (img d 0x80000 2 0)).foldl (fun d i => startWalk d k.slot ((l + 1 + i) % n)) d
  if metaResident d k l then d else startWalk d k.slot l

/-! ## Fields of a TRANSFER (R279) -/

def xExpand (r : Bytes) : Nat := fld r 0x20 5 4
def xSrcHost (r : Bytes) : Bool := fld r 0x21 1 0 == 1
def xDst (r : Bytes) : Nat := fld r 0x21 3 2
def xLen (r : Bytes) : Nat := fld r 0x24 31 0
def xSkein (r : Bytes) : U64 := u64 (fld r 0x28 63 0)
def xLayers (r : Bytes) : List Nat := (List.range (fld r 0x30 15 8)).map (· + fld r 0x30 7 0)
def xPage0 (r : Bytes) : Nat := fld r 0x34 31 0
def xPages (r : Bytes) : Nat := fld r 0x38 31 0
def xSrc (r : Bytes) : Nat := fld r 0x40 63 0
def xAddr (r : Bytes) : Nat := fld r 0x48 63 0
def xConn (r : Bytes) : Nat := fld r 0x50 19 0

/-! ## Waits (R252, R267) -/

/-- A copy-on-write of a page of a skein is in progress, and some of these frames hold the page (R222, R267): a COPY_PAGES to the skein
stands at its Out stage. -/
def underCow (d : Dev) (k : Skein) (l : Nat) (fs : List Nat) : Bool :=
  d.adm.ops.any (fun o => match o.what with
    | .transfer rec _ _ =>
      fld rec 0x20 3 0 == 1 && xDst rec == 3 && u64 (xAddr rec) == k.id && (xLayers rec).contains l &&
      (o.stages.take o.cur).any (fun s => s.ledger == lSHT) &&
      (match o.stages[o.cur]? with | some s => !s.mirror | none => false) &&
      k.pages.any (fun r => r.layer == l && xPage0 rec ≤ r.page && r.page < xPage0 rec + xPages rec && bodyShared d r.body &&
        (refFrames d [r]).any fs.contains)
    | _ => false)

/-- Frames that a stage of a layer needs can be read now. -/
def framesReady (d : Dev) (k : Skein) (l : Nat) (fs : List Nat) : Bool := resident d fs && !underCow d k l fs

/-- Count a wait of cause `c`. -/
def countWait (d : Dev) (c : Nat) : Dev := ctrInc d (cSasStall + 8 * c)

/-- The first cause under which a stage that needs frames waits, if it must wait (R252, R267, R346). DEDUCED (log entry 92): a page is being
promoted on demand from when a read that some operation asked for has begun, until that read must be tried again. -/
def waitCause (d : Dev) (k : Skein) (l : Nat) (fs : List Nat) : Option Nat :=
  let low := lowFrames d fs
  let asked := d.sas.promotions.filter (fun p => low.contains p.frame)
  let reads := d.bob.reads.filter (fun r => r.use == .promote && asked.any (fun p => p.unit == r.unit))
  if !(lowFrames d (layerMeta d k l true)).isEmpty then some 0
  else if !low.isEmpty then
    if (k.layer l).walking then some 1
    else if asked.any (fun p => p.op.isSome && (p.read || reads.any (fun r => r.unit == p.unit && r.started && r.attempts == 0))) then
      some 2
    else if reads.any (fun r => !r.started) || (readyTargets d).all (fun t => (busyTargets d (fun _ => true)).contains t) then some 3
    else if reads.any (fun r => 1 ≤ r.attempts) then some 4
    else if stackFree d == 0 then some 5
    else some 2
  else if !resident d fs then some 6
  else if underCow d k l fs then some 7
  else none

/-- Every frame of a list lies in the stack tier. -/
def allUp (d : Dev) (fs : List Nat) : Bool := (lowFrames d fs).isEmpty

/-! ## The class G queues of targets (R353) -/

/-- Serving a target's class G units in deadline order at 1.2 ms each ends each by its deadline. -/
def queueMeets (t0 : Nat) (deadlines : List Nat) : Bool :=
  let sorted := deadlines.foldr (fun x l => l.filter (· < x) ++ [x] ++ l.filter (x ≤ ·)) []
  (sorted.zipIdx).all (fun x => t0 + 1200000 * (x.2 + 1) ≤ x.1)

/-- The check of R353 for the units of some frames with a stage deadline. -/
def skewOk (d : Dev) (fs : List Nat) (deadline : Nat) : Bool :=
  let us := (lowFrames d fs).filterMap (fun f => match tget d.sas.frames f with
    | some e => e.unit.bind (unitAt d)
    | none => none)
  let us := (us.map BobUnit.id).eraseDups.filterMap (unitAt d)
  let ts := (us.map BobUnit.tgt).eraseDups
  ts.all (fun t =>
    let queued := d.bob.reads.filter (fun r => r.cls == .g && (match unitAt d r.unit with | some v => v.tgt == t | none => false))
    queueMeets (now d) (queued.map BobRead.deadline ++ (us.filter (fun u => u.tgt == t)).map (fun _ => deadline)))

end Sys2Proof.Machine
end

