-- ==== Sys2Proof/Machine/Attend.lean ====
section
/-! DEFINITION. The arithmetic of retrieval and of partial attention: distance buckets and page bounds (R409 to R420),
the selection order and rounds (R421 to R425), the omitted-mass bound (R426 to R432), page partials, their merge and
its order (R446 to R466). -/

namespace Sys2Proof.Machine

open Sys2Proof

/-! ## Masks and buckets (R409, R410, R415 to R417) -/

/-- Words with the low `n` bits set. -/
def lowBits (n : Nat) : U64 := BitVec.ofNat 64 (2 ^ n - 1)

/-- The eligible word of a page: its mask words and its written positions (R409, R410). -/
def eligible (masks : List U64) (tokens : Nat) : U64 := masks.foldl (· &&& ·) (lowBits tokens)

/-- Positions set in a word, ascending. -/
def positions (w : U64) : List Nat := (List.range 64).filter (fun j => w.getLsbD j)

/-- The distance bucket (R415). -/
def bucket (d : Nat) : Nat :=
  if d < 16 then d
  else
    let k := Nat.log2 d
    let h := d / 2 ^ (k - 1) % 2
    min (16 + 2 * (k - 4) + h) 63

/-- bias[h][b] of a bias table; none is the table that is 0 everywhere (R416). -/
def biasAt (tab : Option Bytes) (h b : Nat) : U32 :=
  match tab with
  | none => 0
  | some t => u32 (unLe (sub t (4 * (64 * h + b)) 4))

/-- Value of a finite FP32 pattern in units of 2^-160. -/
def f32Val (x : U32) : Int := (f32 x).key

/-- The page bias: the largest bias over the buckets between the page's eligible ends (R417). -/
def pageBias (tab : Option Bytes) (h qpos first last : Nat) : Int :=
  let lo := bucket (qpos - last)
  let hi := bucket (qpos - first)
  ((List.range (hi - lo)).map (fun i => f32Val (biasAt tab h (lo + 1 + i)))).foldl max (f32Val (biasAt tab h lo))

/-! ## Page bounds (R418 to R420) -/

/-- Key/value head of a query head. -/
def kvHead (s : Shape) (h : Nat) : Nat := h * s.kvHeads / s.qHeads

/-- Exact D of a row: the sum of the larger products (R418), in units of 2^-320. -/
def boundSum (q lo hi : List Int) : Int :=
  ((q.zip (lo.zip hi)).map (fun x => max (x.1 * x.2.1) (x.1 * x.2.2))).sum

/-- û of a row of a page, and whether the summary made it unbounded (R418, R419). -/
def uHat (s : Shape) (q : List Int) (h : Nat) (summary : Bytes) (bias : Int) : U32 × Bool :=
  let g := kvHead s h
  let lo := (List.range s.headDim).map (sumNum s summary 0 g)
  let hi := (List.range s.headDim).map (sumNum s summary 1 g)
  if (lo ++ hi).any (fun x => !x.isFin) then (f32Inf, true)
  else (roundF32 .up (boundSum q (lo.map Num.key) (hi.map Num.key) + bias * 2 ^ 160) 320, false)

/-- The larger of two FP32 values. -/
def f32Max (x y : U32) : U32 := if f32Lt x y then y else x

/-- The largest of some FP32 values. -/
def f32MaxL (xs : List U32) : U32 := xs.foldl f32Max f32NegInf

/-! ## Selection (R421, R423) -/

/-- Order key of a page (R420). -/
def PageBound.key (p : PageBound) : U32 := f32MaxL p.u

/-- Insert by descending key, equal keys by ascending page. -/
def rankIn (x : PageBound) : List PageBound → List PageBound
  | [] => [x]
  | y :: ys =>
    if f32Lt y.key x.key || (!f32Lt x.key y.key && x.page < y.page) then x :: y :: ys else y :: rankIn x ys

/-- Selection list over the eligible pages, ascending, of at most `k` entries (R421). -/
def select (pages : List PageBound) (far sink near k : Nat) : List Nat :=
  let a := pages.filter (fun p => p.page < sink)
  let b := pages.filter (fun p => sink ≤ p.page && far - near ≤ p.page)
  let c := pages.filter (fun p => sink ≤ p.page && p.page < far - near)
  ((a ++ b).map (·.page) ++ (c.foldr rankIn []).map (·.page)).take k

/-- Round ends of an adaptive job from a first count on; `fuel` bounds them (R423). -/
def roundsFrom (cap len : Nat) : Nat → Nat → List Nat
  | 0, _ => []
  | f + 1, k => if cap ≤ k || len ≤ k then [k] else k :: roundsFrom cap len f (min (2 * k) cap)

/-- Round ends k_1 … k_R (R423). -/
def rounds (kPages kCap k0 len : Nat) : List Nat :=
  if kPages != 0 then [kPages] else roundsFrom kCap len 13 (min k0 kCap)

/-- List entries that round `j` (from 0) attends, in ascending page number. -/
def roundPages (sel : List Nat) (ends : List Nat) (j : Nat) : List Nat :=
  let a := if j = 0 then 0 else ends.getD (j - 1) 0
  let part := (sel.drop a).take (ends.getD j 0 - a)
  (List.range (part.foldl max 0 + 1)).filter (fun p => part.contains p)

/-! ## Omitted mass (R426 to R432) -/

/-- The round that first selects a page, from 1; one past the last when none does (R427). -/
def segmentOf (sel ends : List Nat) (p : Nat) : Nat :=
  match sel.findIdx? (· == p) with
  | none => ends.length + 1
  | some i => (ends.filter (fun k => k ≤ i)).length + 1

/-- Add neighbours pairwise; `fuel` levels. -/
def pairTree : Nat → List U32 → List U32
  | 0, l => l
  | f + 1, l =>
    let rec go : List U32 → List U32
      | a :: b :: t => f32Add .up a b :: go t
      | l => l
    pairTree f (go l)

/-- Segment sum G_s of a row (R427). -/
def segmentSum (pages : List (Nat × Nat × Nat × U32)) (r : U32) (s : Nat) : U32 :=
  let mine := pages.filter (fun p => p.2.1 == s)
  let lane (i : Nat) := (mine.filter (fun p => p.1 % 64 == i)).foldl
    (fun acc p => f32Add .up acc (f32Mul .up (f32Nat p.2.2.1) (expUp (f32Sub .up p.2.2.2 r)))) (0 : U32)
  (pairTree 6 ((List.range 64).map lane)).headD 0

/-- Sums S_1 … S_R from G_2 … G_(R+1) (R427). -/
def suffixSums : List U32 → List U32
  | [] => []
  | [g] => [g]
  | g :: gs => match suffixSums gs with
    | [] => [g]
    | s :: ss => f32Add .up s g :: s :: ss

/-- The bound unit's result for row `h` (R427). -/
def rowBound (pages : List PageBound) (sel ends : List Nat) (h : Nat) : RowSums :=
  let left := (pages.filter (fun p => segmentOf sel ends p.page != 1)).map
    (fun p => (p.page, segmentOf sel ends p.page, p.n, p.u.getD h 0))
  let r := f32MaxL (left.map (·.2.2.2))
  if r == f32Inf then { r := r, s := List.replicate ends.length f32Inf }
  else { r := r, s := suffixSums ((List.range ends.length).map (fun i => segmentSum left r (i + 2))) }

/-- The omitted-mass bound of a row after round `j` (from 0) with maximum m and sum l (R430). -/
def omitted (b : RowSums) (j : Nat) (m l : U32) : U32 :=
  let s := b.s.getD j 0
  let t := if f32Le s 0 then 0 else f32Mul .up s (expUp (f32Sub .up b.r m))
  if f32Le t 0 then 0
  else if t == f32Inf then f32One
  else
    let x := f32DivUp t (f32Add .down l t)
    if f32Lt f32One x then f32One else x

/-! ## Partials (R446 to R464) -/

/-- The empty partial (R455). -/
def emptyPart (dim : Nat) : RowPart := { o := List.replicate dim 0, m := f32NegInf, l := 0 }

/-- m + 0, so that a zero maximum is +0 (R449). -/
def posZero (x : U32) : U32 := if f32Val x = 0 && f32Fin x then 0 else x

/-- The larger maximum (R449). -/
def maxScore (xs : List U32) : U32 := posZero (f32MaxL xs)

/-- Weight of a score (R450). -/
def weightOf (s m : U32) : U32 := f32Exp2 (f32Mul .near (f32Sub .near s m) l2eDn)

/-- Score of a token: exact sum, rounded once (R446); none when some key element is not finite. -/
def scoreOf (q : List Int) (k : List Num) (bias : Int) : Option U32 :=
  if k.any (fun x => !x.isFin) then none
  else some (roundF32 .near (((q.zip k).map (fun x => x.1 * x.2.key)).sum + bias * 2 ^ 160) 320)

/-- Page partial of row `h` over the eligible positions of a raw page (R446 to R451). DEDUCED (log entry 103): the value elements that make
a row non-finite (R460) are those of eligible tokens, since a token that is not eligible takes no part in any step (R448). -/
def pagePart (s : Shape) (q : List Int) (h : Nat) (tab : Option Bytes) (qpos page : Nat) (elig : U64) (raw : Bytes) :
    RowPart :=
  let g := kvHead s h
  let ts := positions elig
  let row (half t : Nat) := (List.range s.headDim).map (rawNum s raw t half g)
  let scores := ts.map (fun t => scoreOf q (row 0 t) (f32Val (biasAt tab h (bucket (qpos - (64 * page + t))))))
  let vals := ts.map (row 1)
  let bad := scores.any (fun x => match x with | none => true | some y => !f32Fin y) ||
    vals.any (fun v => v.any (fun x => !x.isFin))
  if bad then { emptyPart s.headDim with nf := true, nfPage := page } else
  let sc := scores.map (fun x => x.getD 0)
  let m := maxScore sc
  let ws := sc.map (fun x => f32Val (weightOf x m))
  let l := roundF32 .near ws.sum 160
  let o := (List.range s.headDim).map (fun i =>
    roundF32 .near (((ws.zip vals).map (fun x => x.1 * (x.2.getD i (.fin 0)).key)).sum) 320)
  { o := o, m := m, l := l, nf := !(f32Fin l && o.all f32Fin), nfPage := page }

/-- Marks a row that a merge made non-finite (R462). -/
abbrev mergeMade : Nat := 2 ^ 32

/-- Merge factor of an operand (R454). -/
def mergeFactor (mx m : U32) : Int := if mx == f32NegInf then 0 else f32Val (weightOf mx m)

/-- Merge of two partials of a row (R454, R455, R460). -/
def mergePart (a b : RowPart) : RowPart :=
  if a.nf || b.nf then
    { a with nf := true, nfPage := min (if a.nf then a.nfPage else mergeMade) (if b.nf then b.nfPage else mergeMade) }
  else if a.m == f32NegInf then b
  else if b.m == f32NegInf then a
  else
    let m := maxScore [a.m, b.m]
    let ca := mergeFactor a.m m
    let cb := mergeFactor b.m m
    let two (x y : U32) := roundF32 .near (ca * f32Val x + cb * f32Val y) 320
    let l := two a.l b.l
    let o := (a.o.zip b.o).map (fun p => two p.1 p.2)
    { o := o, m := m, l := l, nf := !(f32Fin l && o.all f32Fin), nfPage := mergeMade }

/-- One level of the fixed tree (R456). -/
def mergeLevel : List RowPart → List RowPart
  | a :: b :: t => mergePart a b :: mergeLevel t
  | l => l

/-- The round result over page partials in ascending page number (R456). -/
def foldRound (dim : Nat) (ps : List RowPart) : RowPart :=
  let k := ps.length
  let seg (s : Nat) := ((ps.drop (s * k / 16)).take ((s + 1) * k / 16 - s * k / 16)).foldl mergePart (emptyPart dim)
  (mergeLevel (mergeLevel (mergeLevel (mergeLevel ((List.range 16).map seg))))).headD (emptyPart dim)

/-! ## The partial message (R465, R466) -/

/-- FLAGS of a row. -/
def partFlags (thinned batched nf capped adaptive : Bool) (rounds step : Nat) : Nat :=
  bit1 thinned + 2 * bit1 batched + 4 * bit1 nf + 8 * bit1 capped + 16 * bit1 adaptive + 32 * rounds +
  2 ^ 16 * (step % 256) + 2 ^ 31

/-- Bytes of a partial: rows with their bounds and flags (R461, R465). -/
def partBytes (rows : List (RowPart × U32 × Nat)) : Bytes :=
  rows.flatMap (fun r => r.1.o.flatMap (fun x => le (if r.1.nf then f32NaN else x).toNat 4)) ++
  rows.flatMap (fun r =>
    le (if r.1.nf then f32NaN else r.1.m).toNat 4 ++ le (if r.1.nf then f32NaN else r.1.l).toNat 4 ++
    le (if r.1.nf then f32One else r.2.1).toNat 4 ++ le r.2.2 4)

/-- Length of a partial (R465). -/
def partLen (s : Shape) : Nat := s.qHeads * (4 * s.headDim + 16)

end Sys2Proof.Machine
end

