-- ==== Sys2Proof/Machine/GenOps.lean ====
section
/-! DEFINITION. Shared operations of the generation side: stop matching and the commit of a token (R182 to R200), window
pages (R276 to R278), appends and release (R53 to R57), barriers (R691 to R693), the end of a request. -/

namespace Sys2Proof.Machine

open Sys2Proof

/-! ## Barriers (R692, R693) -/

/-- The FAULT_PEER slot of a sender, allotting one on first appearance (R693). -/
def peerSlot (d : Dev) (f : Nat) : Nat × Dev :=
  let d := if d.flt.peers.isEmpty then { d with flt := { d.flt with peers := [{ fleet := 0xFFFFFF }] } } else d
  if f == 0xFFFFFF then (0, d) else
  match d.flt.peers.findIdx? (fun p => p.fleet == f) with
  | some i => (i, d)
  | none =>
    if 256 ≤ d.flt.peers.length then (0, d)
    else (d.flt.peers.length, { d with flt := { d.flt with peers := d.flt.peers ++ [{ fleet := f }] } })

/-- Change the slot of a sender. -/
def peerCount (d : Dev) (f : Nat) (g : PeerSlot → PeerSlot) : Dev :=
  let (i, d) := peerSlot d f
  { d with flt := { d.flt with peers := d.flt.peers.modify i g } }

/-- A barrier completes: its last sender, and every sender that supplied an input (R692). -/
def barrierDone (d : Dev) (senders : List Nat) (window : Bool) : Dev :=
  let d := match senders.getLast? with
    | some f => peerCount d f (fun p => if window then { p with lastWindow := satAdd p.lastWindow 1 } else { p with lastStep := satAdd p.lastStep 1 })
    | none => d
  senders.eraseDups.foldl (fun d f => peerCount d f (fun p => { p with barriers := satAdd p.barriers 1 })) d

/-- One more input of a step's barrier (R692): the STEP record (sender 0xFF_FFFF) or a relayed partial. -/
def stepInput (d : Dev) (r : Req) (step f : Nat) : Req × Dev :=
  let l := tgetD r.stepIn step [] ++ [f]
  if r.shape.layers < l.length then ({ r with stepIn := tdel r.stepIn step }, barrierDone d l false)
  else ({ r with stepIn := tset r.stepIn step l }, d)

/-! ## The window (R276 to R278) -/

/-- WSLOTS of a request. -/
def Req.wslots (r : Req) : Nat := r.core.windowPages + 16
/-- Spans of a window (R276). -/
def windowSpans (s : Shape) (wp : Nat) : Nat := ceilDiv (s.layers * (wp + 16) * pageBytes s) 0x40000000
/-- Address of page `p` of layer `l` in the window. -/
def Req.winAddr (r : Req) (l p : Nat) : Nat := r.windowBase.getD 0 + (l * r.wslots + p % r.wslots) * pageBytes r.shape

/-- Pages that are complete at the generation device (R277). -/
def Req.completed (r : Req) : Nat := (r.tokenCount + r.core.lastStep.toNat) / 64

/-- SPLIT_PAGE for far jobs of a step (R55). -/
def Req.splitFor (r : Req) (step : U32) : Nat := match r.splitNext with
  | some (after, p) => if 0 < serialDiff step after then p else r.split
  | none => r.split

/-! ## Appends and release (R53 to R57) -/

/-- The parts of an appended page: raw, with the block's hash (R53, R414). -/
def appendParts (d : Dev) (r : Req) (p : Nat) : List PagePart :=
  (List.range r.shape.layers).map (fun l => {
    layer := l
    page := p
    tokens := 64
    raw := workRead d (r.winAddr l p) (pageBytes r.shape)
    masks := List.replicate r.maskSets (BitVec.allOnes 64)
    hash := tget r.pageHashes p })

/-- Fault record FC_143 of a failed append (R56). -/
def appendFault (d : Dev) (r : Req) : Dev := faultOp d r.faultRef 0x143 0 0 0

/-- Send release (R57). -/
def sendRelease (d : Dev) (r : Req) : Dev :=
  (sendSvc (setReq d { r with releaseDue := false, since := now d }) r.core.home (.release r.core.requestId r.core.skeinId)).2

/-- Ship the next complete page with its flush, or send the release that waits for the shipments (R53, R57). -/
def shipNext (d : Dev) (r : Req) : Dev :=
  if r.appendOut.isSome then setReq d r
  else if r.appendNext < r.completed && !r.noShip && !r.appendFailed then
    let p := r.appendNext
    let (ok, d1) := sendSvc d r.core.home (.place r.core.requestId r.core.skeinId true (appendParts d r p))
    if ok then
      let d1 := match serviceConn d1 r.core.home with
        | some c => if isOurs d1 r.core.home then d1 else postEntry d1 c.num { op := 0x05, use := .appendFlush r.core.requestId }
        | none => d1
      setReq d1 { r with appendOut := some p }
    else
      let d := appendFault d r
      if r.releaseDue then sendRelease d { r with appendFailed := true } else setReq d { r with appendFailed := true }
  else if r.releaseDue then sendRelease d r
  else setReq d r

/-- Drop the window's oldest page (R55). -/
def dropOldest (d : Dev) (r : Req) : Req × Dev :=
  let p := r.windowFirst
  let fs := (List.range r.shape.layers).flatMap (fun l => framesOf (r.winAddr l p) (pageBytes r.shape))
  ({ r with windowFirst := p + 1 }, unmapFrames d r.core.owner fs)

/-- The flush of an appended page ends (R55, R56). After an end with ST_SKEIN_ABORTED nothing more is shipped (R57). -/
def appendDone (d : Dev) (r : Req) (ok : Bool) : Dev :=
  match r.appendOut with
  | none => d
  | some p =>
    if ok && !r.appendFailed && !(r.state == .ending && !r.releaseDue) then
      let (r, d) := dropOldest d { r with appendOut := none, appendNext := p + 1 }
      let cur := r.core.lastStep
      shipNext d { r with split := r.splitFor cur, splitNext := some (cur, r.splitFor (cur + 1) + 1) }
    else if r.state == .ending && !r.releaseDue then setReq d { r with appendOut := none }
    else
      let d := if r.noShip then d else appendFault d r
      shipNext d { r with appendOut := none, appendFailed := true }

/-! ## Ends at the generation device -/

/-- End a request: the end record, then release, or abort after ST_SKEIN_ABORTED (R57, R174, R799). -/
def genEnd (d : Dev) (r : Req) (status cause ack : Nat) : Dev :=
  let (r, d) := endReq d { r with appendFailed := r.appendFailed && r.appendOut.isSome } status cause ack
  if status == St.skeinAborted then sendAbort d r
  else shipNext d { r with releaseDue := true }

/-- End a request with a fault record first (R177). -/
def genFault (d : Dev) (r : Req) (fc status : Nat) : Dev := genEnd (faultOp d r.faultRef fc status 0 0) r status 0x05 0

/-! ## Stop matching (R188, R194 to R197) -/

/-- The condition a commit meets first: END_CAUSE, STOP_KIND, STOP_INDEX, MATCH_LEN. `hist`: the last tokens, newest last;
`gen`: GENERATED after the commit. -/
def stopMatch (stop : Bytes) (hist : List U32) (gen max_ : Nat) : Option (Nat × Nat × Nat × Nat) :=
  let word (o : Nat) : U32 := u32 (unLe (sub stop o 4))
  let ids := fld stop 0 4 0
  let seqs := fld stop 1 3 0
  match (List.range ids).find? (fun k => some (word (0x40 + 4 * k)) == hist.getLast?) with
  | some k => some (0x01, 1, k, 1)
  | none =>
    let met (j : Nat) : Bool :=
      let n := fld stop (8 + j) 4 0
      1 ≤ n && n ≤ gen && n ≤ hist.length &&
        hist.drop (hist.length - n) == (List.range n).map (fun m => word (0x80 + 64 * j + 4 * m))
    match (List.range seqs).find? met with
    | some j => some (0x02, 2, j, fld stop (8 + j) 4 0)
    | none => if gen == max_ then some (0x03, 3, 0, 0) else none

/-- The 32 bytes of a token record (R184). -/
def tokenRecord (r : Req) (tok : U32) (first last ttft tbt thin : Bool) (kind idx len lat : Nat) : Bytes :=
  le 0x03 1 ++ le (bit1 first + 2 * bit1 last + 4 * bit1 ttft + 8 * bit1 tbt + 16 * bit1 thin) 1 ++
  le (kind + 4 * idx) 1 ++ le len 1 ++ le tok.toNat 4 ++ le r.core.requestId.toNat 8 ++ le r.core.lastStep.toNat 4 ++
  le r.core.generated 4 ++ le (min lat (2 ^ 48 - 1)) 6 ++ le 0 2

/-- Append a token to the block buffer; the 64th completes the block (R212). -/
def Req.pushBlock (r : Req) (tok : U32) : Req :=
  let buf := r.blockBuf ++ [tok]
  if buf.length < 64 then { r with blockBuf := buf }
  else
    let h := blockHash r.hashCarry r.model (tokenBytes buf)
    { r with
      blockBuf := []
      hashCarry := h
      nextBlock := r.nextBlock + 1
      pageHashes := tset r.pageHashes r.nextBlock h }

/-- A STEP of the request that arrived before its pending CANCEL still waits to be carried out: it awaits commit (R155). -/
def stepArrived (d : Dev) (r : Req) : Bool :=
  d.intake.taken.any (fun t => t.kind == 0x13 && t.request == r.core.requestId && t.arrival ≤ r.cancelAt)

/-- Commit one token (R182, R183, R185, R197 to R200). -/
def commitToken (d : Dev) (r : Req) (tok stamp : U32) (first : Bool) : Dev :=
  let hist := r.history ++ [tok]
  let was := r.completed
  let r := r.pushBlock tok
  let c := { r.core with generated := r.core.generated + 1, lastStep := stamp }
  let r := { r with history := hist.drop (hist.length - 15), core := c }
  let t := now d
  let lat := if first then r.core.ageAtOpen + (t - r.core.opened) else t - r.core.lastToken
  let met := stopMatch r.stopCopy hist c.generated c.maxTokens
  let settle := r.cancelPending && r.await.isEmpty && !stepArrived d r
  let ttft := first && c.ttftUs != 0 && 1000 * c.ttftUs < lat
  let tbt := !first && c.tbtUs != 0 && 1000 * c.tbtUs < lat
  let thin := r.thinnedSteps.contains stamp.toNat
  let (kind, idx, len) := match met with
    | some (_, k, i, n) => (k, i, n)
    | none => (0, 0, 0)
  let rec_ := tokenRecord r tok first met.isSome ttft tbt thin kind idx len lat
  let r := { r with core := { r.core with lastToken := t }, thinnedSteps := r.thinnedSteps.filter (· != stamp.toNat) }
  let d := if ttft then ctrInc d cTtftMiss else d
  let d := if tbt then ctrInc d cTbtMiss else d
  let d := ctrInc { d with flt := { d.flt with stepLast := t } } cSteps
  let d := setReq d r
  let d := match findRing d c.tokenRing with
    | some g => if g.kind == 2 then ringPut d c.tokenRing rec_ true else ctrInc d cRingDiscarded
    | none => ctrInc d cRingDiscarded
  match met with
  | some (cause, _, _, _) =>
    let d := if cause == 0x03 then d else ctrInc d cStopEnds
    genEnd d r St.ok cause (if settle then 2 else 0)
  | none =>
    if settle then genEnd d r St.cancelled 0x04 1
    else if r.windowFirst + r.wslots ≤ r.completed then genFault d r 0x403 St.windowFull
    else if was < r.completed then shipNext d { r with appendFailed := r.appendFailed && r.appendOut.isSome }
    else setReq d r

/-! ## From WAITING to DECODING (R49) -/

/-- The senders whose window parts the request expects: the prompt device, and the home when shared pages lie in the
window (R48). -/
def Req.windowFrom (r : Req) : List Nat :=
  reqOrigin r.core.requestId :: (if r.windowFirst < r.prefixPages then [r.core.home] else [])

/-- Every window flush has ended and SEALED has arrived: DECODING (R49, R151, R692). -/
def genReady (d : Dev) (r : Req) : Dev :=
  if r.state == .waiting && r.sealedSeen && r.windowFrom.all (fun f => r.windowFrom.count f ≤ r.flushed.count f) then
    barrierDone (setReq d { r with state := .decoding, since := now d }) r.windowOrder true
  else setReq d r

/-- A window flush of a peer ends for a request (R48, R49). -/
def genFlushed (d : Dev) (r : Req) (frm : Nat) : Dev :=
  let n := r.lastFrom.count frm - r.flushed.count frm
  if n == 0 then d
  else genReady d { r with flushed := r.flushed ++ List.replicate n frm, windowOrder := r.windowOrder ++ List.replicate n frm }

/-- A FLUSH of a peer has completed here: its window parts are in place (R49). -/
def peerFlushed (d : Dev) (frm : Nat) : Dev :=
  (d.reqs.live.filter (fun r => r.gen)).foldl (fun d r => match findGen d r.core.requestId with
    | some r => genFlushed d r frm
    | none => d) d

/-- Flushes of a peer that ended well in this command: their window parts are in place (R49). -/
def flushesEnded (was d : Dev) : Dev :=
  (was.weft.trackers.filter (fun t => t.op == 0x05)).foldl (fun d t =>
    match findTracker d t.conn t.msn, findConn d t.conn with
    | none, some c => if c.said.any (fun x => x.1 == t.msn) then d else peerFlushed d c.peerFleet
    | _, _ => d) d

/-! ## Settling a handoff at the generation device (R152) -/

/-- The accepting reply was acknowledged: the first token; in custody and in an image switch the end follows it (R152, R183, R710,
R750). -/
def genAcked (d : Dev) (r : Req) : Dev :=
  let r := { r with state := .waiting, since := now d }
  let d := setReq d r
  let d := commitToken d r r.firstToken 0 true
  let d := match findGen d r.core.requestId with
    | some r2 =>
      if r2.state == .waiting && d.flt.custody != .normal then genEnd d r2 St.custody 0x05 0
      else if r2.state == .waiting && d.boot.switchTo.isSome then genEnd d r2 St.imageSwitch 0x05 0
      else if r2.state == .waiting && r2.abortCause.isSome then genFault d r2 (r2.abortCause.getD 0) St.skeinAborted
      else genReady d r2
    | none => d
  d

/-- The accepting reply was refused or failed: free the entry without a record (R152). -/
def genNakd (d : Dev) (r : Req) (failed : Bool) : Dev :=
  let d := if failed then faultWrite d 64 {
      unit := false
      cause := 0x113
      subject := r.core.requestId.toNat
      first := now d
      last := now d
      remote := true }
    else d
  freeReqNow d r

end Sys2Proof.Machine
end

