-- ==== Sys2Proof/Machine/PageOps.lean ====
section
/-! DEFINITION. Shared operations on page data: compression with its counters (R371, R384, R399), expansion of stored pages
with decode errors (R376 to R383, R394), the parts of a page that travel between devices (R243). -/

namespace Sys2Proof.Machine

open Sys2Proof

/-- Count blocks that a compressor has coded (R399). -/
def countCoded (d : Dev) (bs : List StoredBlock) : Dev :=
  bs.foldl (fun d b =>
    let d := ctrAdd d cStoredBytes b.data.length
    if b.entry == 0x80 then ctrInc d cRawBlocks
    else ctrInc (ctrInc d cCodedBlocks) (cSel + 8 * ((b.data.getD 0 0).toNat % 8))) d

/-- Count blocks that an expander has passed (R399). -/
def countExpanded (d : Dev) (bs : List StoredBlock) : Dev :=
  bs.foldl (fun d b => ctrInc d (if b.entry == 0x80 then cBypassBlocks else cExpandedBlocks)) d

/-- Report a decode error: the fault record, CODEC_LAST_ERR, the counter (R381, R383). -/
def decodeError (d : Dev) (ref : OpRef) (fc addr kind : Nat) : Dev :=
  let a := addr % 2 ^ 48
  ctrInc (faultOp { d with codecErr := some (a, kind) } ref fc St.decodeError (a + kind * 2 ^ 48) 0) cDecodeErr

/-- Index of the first Q4B32 block of a thinned page that holds a reserved code (R394); `n` blocks. -/
def thinBad (n : Nat) (thin : Bytes) : Option Nat :=
  (List.range n).find? (fun b =>
    (thin.drop (16 * n)).getD b 0 == 255#8 ||
    (sub thin (16 * b) 16).any (fun c => c.toNat % 16 == 8 || c.toNat / 16 == 8))

/-- What an expansion of a stored page gives: its good leading bytes, and the failed block: kind and SAS address. -/
structure PageRead where
  good : Bytes
  err : Option (Nat × Nat) := none
deriving DecidableEq, Repr

/-- Index groups whose entries locate a body's blocks (R238, R240). -/
def bodyGroups (b : PageBody) : List Nat :=
  (List.range ((b.first + b.blocks.length + 63) / 64)).map (fun i => b.group + 72 * i)

/-- Look up one index group: from the index cache, or from the SAS and into the cache (R375, R762). -/
def lookGroup (d : Dev) (a : Nat) : Dev :=
  if d.sas.indexCache.contains a then ctrInc d cIdxHits
  else if d.sas.indexCache.length < 131072 then
    ctrInc { d with sas := { d.sas with indexCache := a :: d.sas.indexCache } } cIdxMisses
  else
    let (n, d) := freeNext d
    let kept := d.sas.indexCache.eraseIdx (Config.indexVictim n % 131072)
    ctrInc { d with sas := { d.sas with indexCache := a :: kept } } cIdxMisses

/-- Count what a shuttle reads and what it delivers (R762). -/
def shuttleBytes (d : Dev) (stored out : Nat) : Dev := ctrAdd (ctrAdd d cShtBytesIn stored) cShtBytesOut out

/-- A shuttle locates and reads a stored body and delivers `out` bytes of it (R241, R762). -/
def shuttleBody (d : Dev) (b : PageBody) (out : Nat) : Dev :=
  shuttleBytes ((bodyGroups b).foldl lookGroup d) (b.blocks.map (fun x => x.data.length)).sum out

/-- Expand a stored page, restoring a thinned one (R376 to R380, R390, R394). -/
def expandBody (d : Dev) (s : Shape) (b : PageBody) : PageRead × Dev :=
  if b.thinned then
    let thin := b.blocks.flatMap (·.data)
    let n := pageBytes s / elemBytes s.fmt / 32
    let d := countExpanded d b.blocks
    match thinBad n thin with
    | none => match restorePage s thin (pageBytes s) with
      | some (raw, sat) => ({ good := raw }, ctrAdd d cThinSat sat)
      | none => ({ good := [] }, d)
    | some q =>
      let bad := 32 * q * elemBytes s.fmt / 4096
      let fixed := (thin.take (16 * n)).map (fun c => if c.toNat % 16 == 8 || c.toNat / 16 == 8 then 0 else c) ++
        (thin.drop (16 * n)).map (fun c => if c == 255#8 then 0 else c)
      let good := match restorePage s fixed (pageBytes s) with
        | some (raw, _) => raw.take (4096 * bad)
        | none => []
      ({ good := good, err := some (6, b.addrs.getD (16 * q / 4096) 0) }, d)
  else
    let r := expandBlocks s.fmt b.blocks 0
    let ok := match r.2 with | some (_, i) => i | none => b.blocks.length
    let d := countExpanded d (b.blocks.take ok)
    ({ good := r.1, err := r.2.map (fun e => (e.1, b.addrs.getD e.2 0)) }, d)

/-- A shuttle reads and expands a stored page (R376, R762). -/
def readBody (d : Dev) (s : Shape) (b : PageBody) : PageRead × Dev :=
  let x := expandBody d s b
  (x.1, shuttleBody x.2 b x.1.good.length)

/-- The first block of a stored-form move whose index entry names no block or is reserved (R374, R383: kind 1). -/
def indexBad (bs : List StoredBlock) : Option Nat := bs.findIdx? (fun b => b.entry == 0 || (0x78 < b.entry && b.entry != 0x80))

/-- The part of a skein's page as it travels in stored form: a thinned page restored and compressed again (R243, R383, R395).
When its restoration or its index fails, the error's kind, the failed block and its address instead. -/
def travelPart (d : Dev) (k : Skein) (r : PageRef) : (PagePart ⊕ (Nat × Nat × Nat)) × Dev :=
  match findBody d r.body with
  | none => (.inr (1, 0, 0), d)
  | some b =>
    let p : PagePart := {
      layer := r.layer
      page := r.page
      tokens := r.tokens
      blocks := b.blocks
      summary := r.summary
      masks := r.masks
      hash := k.chain[r.page]? }
    if b.thinned then
      let x := readBody d k.shape b
      match x.1.err with
      | some e => (.inr (6, 0, e.2), x.2)
      | none =>
        let bs := compressPage k.shape.fmt x.1.good
        (.inl { p with blocks := bs }, countCoded x.2 bs)
    else match indexBad b.blocks with
      | some i => (.inr (1, i, b.addrs.getD i 0), d)
      | none => (.inl p, shuttleBody d b (b.blocks.map (fun x => x.data.length)).sum)

/-- Fault cause of a decode error met by a move in stored form: FC_501 for a failed restoration, FC_502 for the index (R383, R394). -/
def moveCause (kind : Nat) : Nat := if kind == 6 then 0x501 else 0x502

/-- The blocks of a section of packed groups, `n` of them (R240, R241, R243): each index group gives its blocks' places from the section's
first block. -/
def unpackSection (bpp n : Nat) (s : Bytes) : List StoredBlock :=
  let at_ := 72 * ((n + 63) / 64)
  (List.range n).map (fun j =>
    let g := 72 * (j / 64)
    let ents := (sub s (g + 8) 64).map BitVec.toNat
    let e := ents.getD (j % 64) 0
    let a := blockAddr (fld s g 56 48) bpp (fld s g 63 63 == 1) (ents.take (j % 64)) 0 (fld s g 47 0)
    { entry := e, data := sub s (at_ + a) (storedLen e) })

/-- A base word of a section of `n` blocks has a reserved bit set, or an ADDR that is not 32-byte aligned (R377: kind 7). -/
def baseBad (n : Nat) (s : Bytes) : Bool :=
  (List.range ((n + 63) / 64)).any (fun g => fld s (72 * g) 62 57 != 0 || fld s (72 * g) 47 0 % 32 != 0)

/-- The pages of a shipment with their blocks, as the receiver finds them in the sections (R243). -/
def unpackParts (bpp : Nat) (ps : List PagePart) : List PagePart :=
  (ps.zipIdx).map (fun x =>
    let mine := ps.filter (·.layer == x.1.layer)
    match mine.find? (fun p => !p.section_.isEmpty) with
    | none => x.1
    | some p =>
      let i := ((ps.take x.2).filter (·.layer == x.1.layer)).length
      { x.1 with
        section_ := []
        blocks := ((unpackSection bpp (mine.length * bpp) p.section_).drop (i * bpp)).take bpp
        badBase := baseBad (mine.length * bpp) p.section_ })

/-- What the index groups of a shipment's pages fail under, if they do (R377, R383). -/
def partsBad (ps : List PagePart) : Option Nat :=
  ps.findSome? (fun p => if p.badBase then some 7 else if (indexBad p.blocks).isSome then some 1 else none)

/-- Expand a page that was shipped: its good bytes, and the error's kind and block (R376, R377). -/
def expandPart (fmt : Nat) (p : PagePart) : Bytes × Option (Nat × Nat) :=
  if p.badBase then ([], some (7, 0)) else expandBlocks fmt p.blocks 0

/-- Parts of several pages, leaving out those that fail, each with its fault record (R381, R383). -/
def travelParts (d : Dev) (k : Skein) (ref : OpRef) : List PageRef → List PagePart × Dev
  | [] => ([], d)
  | r :: rs =>
    let x := travelPart d k r
    match x.1 with
    | .inl p => let y := travelParts x.2 k ref rs; (p :: y.1, y.2)
    | .inr (kind, _, a) => travelParts (decodeError x.2 ref (moveCause kind) a kind) k ref rs

/-- A command that codes one block (R371), or passes it raw in bypass. -/
def execBlockCompress (fmt : Nat) (bytes : Bytes) (bypass : Bool) (s : State) : Host.Outcome State Fault Refusal :=
  onDev (fun d =>
    if bytes.length != 4096 || fmt == 0 || 4 < fmt then d else
    let b := if bypass then { entry := 0x80, data := bytes } else compressBlock fmt bytes
    emit (countCoded d [b]) (.stored b)) s

/-- A command that decodes one stored block (R376 to R382), or restores one Q4B32 block of 17 bytes (R390, R394), with the I/O
cycles waited on a full queue and those its consumer found it empty (R386). -/
def execBlockExpand (addr fmt : Nat) (thinned : Bool) (b : StoredBlock) (waited empty : Nat) (s : State) :
    Host.Outcome State Fault Refusal :=
  onDev (fun d =>
    let d := ctrAdd (ctrAdd d cQFullCycles waited) cQEmptyCycles empty
    let err (k : Nat) : Dev := decodeError d { intake := false } 0x501 addr k
    if addr % 32 != 0 then err 7
    else if thinned then
      if (thinBad 1 b.data).isSome then err 6 else
      match restorePage { fmt := fmt } b.data (32 * elemBytes fmt) with
      | some (out, sat) => emit (ctrAdd d cThinSat sat) (.expanded out)
      | none => err 6
    else match expandBlock fmt b with
      | .ok out => emit (countExpanded d [b]) (.expanded out)
      | .err k => err k) s

end Sys2Proof.Machine
end

