-- ==== Sys2Proof/Machine/StkOps.lean ====
section
/-! DEFINITION. Shared operations of the stack tier: what a read of a line finds and does (R295 to R300), a die reaching its
threshold (R316), STK capacity after a change and the bookings above it (R118, R119, R290). -/

namespace Sys2Proof.Machine

open Sys2Proof

/-- A stack's state. -/
def stackAt (d : Dev) (n : Nat) : StackUnit := d.stk.units.getD n {}
/-- Store a stack's state. -/
def setStack (d : Dev) (n : Nat) (u : StackUnit) : Dev := { d with stk := { d.stk with units := d.stk.units.set n u } }

/-- Die of a symbol of the 80-byte codeword: four data bytes and one check byte a die (R288). -/
def symDie (i : Nat) : Nat := if i < 64 then i / 4 else i - 64

/-- The distinct symbols in error of a codeword. -/
def badSyms (errs : SymbolErrors) : List Nat :=
  ((errs.filter (fun e => e.1 < 80 && e.2 != 0)).map (·.1)).eraseDups

/-! ## The line code (R295, R298) -/

/-- Product with α in GF(2^8) under x^8 + x^4 + x^3 + x^2 + 1 (R295). -/
def gfDouble (a : Byte) : Byte := if a.msb then (a <<< 1) ^^^ 0x1D else a <<< 1
/-- Product in GF(2^8). -/
def gfMul (a b : Byte) : Byte :=
  ((List.range 8).foldl (fun (r : Byte × Byte) i => (if b.getLsbD i then r.1 ^^^ r.2 else r.1, gfDouble r.2)) (0, a)).1
/-- α^n. -/
def gfAlpha : Nat → Byte
  | 0 => 1
  | n + 1 => gfDouble (gfAlpha n)
/-- Coefficients of the generator, whose roots are α^0 to α^15, from x^16 down (R295). -/
def eccGen : List Byte :=
  (List.range 16).foldl (fun g i => List.zipWith (· ^^^ ·) (g ++ [0]) (0 :: g.map (gfMul (gfAlpha i)))) [1]
/-- The 16 check bytes of a line: the remainder of its 64 bytes by the generator (R295). DESIGN CHOICE (log entry 97): byte 0 of a line
is the symbol of the highest power, and the check bytes stand after the line. -/
def eccCheck (line : Bytes) : Bytes :=
  line.foldl (fun r b =>
    let f := b ^^^ r.headD 0
    List.zipWith (fun x g => x ^^^ gfMul f g) (r.drop 1 ++ [0]) (eccGen.drop 1)) (List.replicate 16 0)
/-- The poison codeword (R298). -/
def poisonCodeword : Bytes :=
  let ff : Bytes := List.replicate 64 0xFF
  ff ++ (eccCheck ff).map (· ^^^ 0x5A)
/-- The 80 bytes that a stack holds for a line (R295, R298). -/
def lineWord (poison : Bool) (data : Bytes) : Bytes := if poison then poisonCodeword else fit data 64 ++ eccCheck (fit data 64)
/-- Value of a codeword at α^i: zero at each root of the generator unless some symbol is in error. -/
def syndrome (w : Bytes) (i : Nat) : Byte := w.foldl (fun s b => gfMul s (gfAlpha i) ^^^ b) 0

/-- The pseudo-channel of line `i` of a frame that lies in a physical frame (R305). -/
def pseudoChannel (phys i : Nat) : Nat := (i + phys) % 64

/-- What a read of a line gives (R296 to R299): its data; other data that the decoder took for corrected; or nothing. -/
inductive LineRead where
  | good
  | other
  | bad
deriving DecidableEq, Repr

/-- A die whose count has reached DIE_THRESH is suspect (R316); compared once REGS has taken effect (R742). -/
def dieCheck (d : Dev) (n die : Nat) : Dev :=
  let u := stackAt d n
  let th := img d (0x300010 + 0x10000 * n) 23 8
  if th != 0 && th ≤ tgetD d.ctr (cStack n (0x140 + 8 * die)) 0 && !bitOf u.suspect die && (u.st == 1 || u.st == 2) then
    detect (setStack d n { u with st := 2, suspect := u.suspect + 2 ^ die }) 0x06 (n + 256 * die) 0x411 0 0
  else d

/-- A die's single-die corrections grow by one (R297). -/
def dieCorrected (d : Dev) (n die : Nat) : Dev := dieCheck (ctrInc d (cStack n (0x140 + 8 * die))) n die

/-- An uncorrectable line: poison, STACKn_LAST_UE, STACKn_UE (R298). -/
def lineUncorrectable (d : Dev) (n phys line : Nat) (syms : List Nat) : Dev :=
  let u := stackAt d n
  let dies := ((List.range 16).map (fun k => if syms.any (fun i => symDie i == k) then 2 ^ k else 0)).sum
  ctrInc (setStack d n { u with lastUe := some (phys, line, dies), poison := (phys, line) :: u.poison }) (cStack n 0x108)

/-- Replace the bytes of a SAS line that the model holds in WORK, in a stored block, in a summary or in a mask word. -/
def pokeLine (d : Dev) (a : Nat) (bs : Bytes) : Dev :=
  let mix (base : Nat) (old : Bytes) : Bytes :=
    (old.zipIdx).map (fun x => if a ≤ base + x.2 && base + x.2 < a + 64 then bs.getD (base + x.2 - a) 0 else x.1)
  let bodies := d.sas.bodies.map (fun b => { b with
    blocks := (b.blocks.zip b.addrs).map (fun x => { x.1 with data := mix x.2 x.1.data }) })
  let skeins := d.sas.skeins.map (fun k => { k with pages := k.pages.map (fun r => { r with
    summary := mix (k.sumAddr r.layer r.page) r.summary
    masks := (r.masks.zipIdx).map (fun m => u64 (unLe (mix (k.maskAddr m.2 r.layer r.page) (le m.1.toNat 8)))) }) })
  let work := if 0x10000000000 ≤ a && a < 0x100000000000 then memWriteN 0 d.sas.work a bs else d.sas.work
  { d with sas := { d.sas with bodies := bodies, skeins := skeins, work := work } }

/-- A read of one line of a physical frame with the symbols found in error (R296 to R299). -/
def readLine (d : Dev) (n phys line : Nat) (errs : SymbolErrors) : LineRead × Dev :=
  if (stackAt d n).poison.contains (phys, line) then (.bad, ctrInc d (cStack n 0x110)) else
  let syms := badSyms errs
  if syms.isEmpty then (.good, d)
  else if syms.length ≤ 5 then
    let d := ctrInc d (cStack n 0x100)
    match (syms.map symDie).eraseDups with
    | [die] => (.good, dieCorrected d n die)
    | _ => (.good, d)
  else if syms.length ≤ 11 then (.bad, lineUncorrectable d n phys line syms)
  else
    let (f, d) := freeNext d
    if Config.eccBeyond f then (.bad, lineUncorrectable d n phys line syms) else (.other, ctrInc d (cStack n 0x100))

/-- A read of a line of a SAS frame. A wrong correction is written back (R296, R297). -/
def readSasLine (d : Dev) (frame line : Nat) (errs : SymbolErrors) : LineRead × Dev :=
  let a := 4096 * frame + 64 * line
  match lineAt d a with
  | none => (.good, d)
  | some (n, phys, l) =>
    let r := readLine d n phys l errs
    match r.1 with
    | .other => (.other, pokeLine r.2 a ((List.range 64).map (Config.eccByte d.free)))
    | _ => r

/-- Read several lines: whether one of them gave nothing. -/
def readLines (found : List LineErr) (d : Dev) : Bool × Dev :=
  found.foldl (fun r e =>
    let x := readSasLine r.2 e.frame e.line e.errs
    (r.1 || x.1 == .bad, x.2)) (false, d)

/-- A read of a byte range counts the poisoned line it meets first (R299). -/
def poisonRead (d : Dev) (a n : Nat) : Bool × Dev := match (poisonIn d a n).head? with
  | none => (false, d)
  | some x => (true, ctrInc d (cStack x.1 0x110))

/-- A read of byte ranges, with the stack lines found in error: whether one of them gave nothing (R298, R299). -/
def readRanges (found : List LineErr) : List (Nat × Nat) → Dev → Bool × Dev
  | [], d => (false, d)
  | (a, n) :: rs, d =>
    let p := poisonRead d a n
    let r := if p.1 then p else
      readLines (found.filter (fun e => a < 4096 * e.frame + 64 * e.line + 64 && 4096 * e.frame + 64 * e.line < a + n)) p.2
    if r.1 then r else readRanges found rs r.2

/-- The byte ranges of some pages' stored blocks. -/
def refRanges (d : Dev) (rs : List PageRef) : List (Nat × Nat) :=
  rs.flatMap (fun r => match findBody d r.body with
    | some b => (b.addrs.zip b.blocks).map (fun x => (x.1, x.2.data.length))
    | none => [])

/-- A read of a stored body. -/
def poisonBody (d : Dev) (b : PageBody) : Bool × Dev :=
  (b.addrs.zip b.blocks).foldl (fun r x => if r.1 then r else poisonRead r.2 x.1 x.2.data.length) (false, d)

/-! ## Capacity (R118, R119, R290 to R293, R316) -/

/-- First bucket boundary after now. -/
def nextBucket (d : Dev) : Nat := if bucketNs d = 0 then now d else (now d / bucketNs d + 1) * bucketNs d

/-- STK capacity scales by `num / den` in buckets that begin after now (R118, R292, R293). -/
def scaleStk (d : Dev) (num den : Nat) : Dev :=
  { d with adm := { d.adm with stkCap := { start := nextBucket d, num := num, den := den } :: d.adm.stkCap } }

/-- Report the operations whose bookings exceed a ledger's capacity from `t` on (R119). -/
def reportOver (d : Dev) (l t kind subject cause : Nat) (always : Bool) : Dev :=
  let n := (overbooked d l t).length
  if n == 0 && !always then d else detect d kind subject cause n 0

/-- The count of usable stacks fell because of stack `n`: bookings above the new capacity (R290, R316). -/
def stkLoss (d : Dev) (n : Nat) : Dev := reportOver d lSTK (nextBucket d) 0x06 n 0x418 false

/-! ## Temperature thresholds (R768, R769, R789) -/

/-- Level of a sensor after a reading, with 2 °C of hysteresis: the highest of its warning, critical and fatal thresholds
that is reached, or was reached and has not been left. -/
def tempLevel (th : List (Option Int)) (was : Nat) (t : Int) : Nat :=
  ((List.range 3).map (fun k => match th.getD k none with
    | some x => if x ≤ t || (k < was && x - 8 ≤ t) then k + 1 else 0
    | none => 0)).foldl max 0

/-- A reading of temperature sensor `id`: each crossing is an event, and the fatal one asserts THERMTRIP_N (R789, R790). -/
def tempRead (d : Dev) (id : Nat) (th : List (Option Int)) (t : Int) : Dev :=
  let was := tgetD d.mon.level id 0
  let l := tempLevel th was t
  if l = was then d else
  pldmChange { d with mon := { d.mon with
    level := tset d.mon.level id l
    thermtrip := d.mon.thermtrip || l == 3 } } id l

end Sys2Proof.Machine
end

