-- ==== Sys2Proof/Machine/Prompt.lean ====
section
/-! DEFINITION. The prompt device's part of a request: OPEN, block hashing, lookup, landing pages, PREFILL_DONE, handoff,
window and skein shipments (R30 to R50, R146 to R159, R209, R210, R270 to R275). -/

namespace Sys2Proof.Machine

open Sys2Proof

/-! ## Ends at the prompt device -/

/-- Free the prefix view when the request leaves PREFILL (R275). -/
def dropView (d : Dev) (r : Req) : Req × Dev :=
  ({ r with viewBase := none }, freeSpans d r.core.owner r.viewBase)

/-- End a request that the prompt device owns, and abort its skein (R45, R151). -/
def promptEnd (d : Dev) (r : Req) (status cause ack : Nat) : Dev :=
  let (r, d) := dropView d r
  endAbort d r status cause ack

/-- The same with a fault record first (R177). -/
def promptEndFault (d : Dev) (r : Req) (fc status ack : Nat) : Dev :=
  promptEnd (faultOp d r.faultRef fc status 0 0) r status 0x05 ack

/-- A SHIPPING entry whose window and skein shipments are both settled is freed, with its forwarding note (R151, R157). -/
def shippingSettle (d : Dev) (r : Req) : Dev :=
  if r.state == .shipping && r.windowDone && (r.sealAcked || r.shipFailed) then
    freeReqNow { d with reqs := { d.reqs with note := tset d.reqs.note r.slot (r.core.genDevice, r.core.owner) } } r
  else setReq d r

/-- A shipment to the home failed (R45). -/
def shipFail (d : Dev) (i : U64) : Dev :=
  match findPrompt d i with
  | none => d
  | some r =>
    if r.shipFailed then d
    else if r.state == .prefill || r.state == .handing then
      promptEndFault d { r with shipFailed := true } 0x141 St.skeinAborted 0
    else if r.state == .shipping then
      let d := faultOp d r.faultRef 0x141 0 0 0
      let d := sendAbort d r
      let d := (sendSvc d r.core.genDevice (.reqAbort i r.core.skeinId 0x141)).2
      shippingSettle d { r with shipFailed := true }
    else d

/-- The home's window shipment ends, well or not; only its first failure counts (R50). -/
def homeWindowEnd (d : Dev) (k : Skein) (ok : Bool) : Dev :=
  if !k.windowSent then d else
  let d := setSkein d { k with windowSent := false }
  if ok then d else (sendSvc (faultOp d k.ref 0x142 0 0 0) k.genDevice (.reqAbort k.req k.id 0x142)).2

/-- The skein whose home ships these window pages: they lie below its PREFIX_PAGES (R48). -/
def homeWindowOf (d : Dev) (i : U64) (ps : List PagePart) : Option Skein :=
  d.sas.skeins.find? (fun k => k.req == i && ps.any (fun p => p.page < k.prefixPages))

/-- The window shipment failed (R50). -/
def windowFail (d : Dev) (i : U64) : Dev :=
  match findPrompt d i with
  | none => d
  | some r =>
    if r.windowDone || r.state != .shipping then d else
    let d := faultOp d r.faultRef 0x142 0 0 0
    let d := (sendSvc d r.core.genDevice (.reqAbort i r.core.skeinId 0x142)).2
    shippingSettle d { r with windowDone := true }

/-- The handoff is unanswered (R152). -/
def handoffFail (d : Dev) (i : U64) : Dev :=
  match findPrompt d i with
  | some r => if r.state == .handing then promptEndFault d r 0x112 St.genUnreachable (bit1 r.cancelPending) else d
  | none => d

/-- The lookup's message failed (R151). -/
def lookupFail (d : Dev) (i : U64) (status : Nat) : Dev :=
  match findPrompt d i with
  | some r => if r.state == .opening && r.core.skeinId != 0 then promptEnd d r status 0x05 0 else d
  | none => d
/-! ## OPEN (R30, R141 to R150) -/

/-- The shape an OPEN gives (R137). -/
def Taken.shape (t : Taken) : Shape :=
  { layers := t.f 0x24 7 0, kvHeads := t.f 0x24 15 8, qHeads := t.f 0x24 23 16, fmt := t.f 0x24 31 24, headDim := t.f 0x28 15 0 }

/-- The entry an OPEN fills (R146). -/
def openEntry (d : Dev) (t : Taken) (slot inc : Nat) : Req :=
  let id := mkReqId (fleet d) slot inc
  let c : ReqCore := {
    requestId := id
    owner := laneOwner d t.lane
    cplRing := t.cplRing
    tokenRing := t.f 0x52 11 0
    home := t.f 0x30 23 0
    genDevice := t.f 0x34 23 0
    opened := t.arrival
    maxTokens := t.f 0x44 31 0
    stopSet := t.f 0x50 15 0
    ttftUs := t.f 0x48 31 0
    tbtUs := t.f 0x4C 31 0
    tag := t.tag
    kPages := t.f 0x54 15 0
    kCap := t.f 0x56 15 0
    epsilon := u32 (t.f 0x58 31 0)
    biasTable := t.f 0x5C 7 0
    windowPages := (windowOf (t.f 0x2C 12 0)).getD 0 }
  { slot := slot
    state := .opening
    core := c
    openRef := { t.ref d with request := id }
    since := now d
    model := t.f 0x20 31 0
    shape := t.shape
    thinOk := t.f 0x28 16 16 == 1
    retain := t.f 0x28 17 17 == 1
    maskSets := t.f 0x28 22 18
    tokenBuf := t.f 0x38 47 0
    tokenSas := t.f 0x38 48 48 == 1
    tokenCount := t.f 0x40 31 0 }

/-- The skein-open of a request (R30). -/
def Req.openMsg (r : Req) : Svc := .skeinOpen {
  req := r.core.requestId
  owner := r.core.owner
  model := r.model
  shape := r.shape
  thinOk := r.thinOk
  retain := r.retain
  maskSets := r.maskSets
  windowPages := r.core.windowPages
  genDevice := r.core.genDevice
  tokenCount := r.tokenCount
  maxTokens := r.core.maxTokens }

/-- The checks of an OPEN past the common ones (R150, R227, R749, R798). -/
def openRefusal (d : Dev) (t : Taken) : Option Nat :=
  if d.sec.switching then some St.imageSwitch
  else if !(shapeOk t.shape) || (windowOf (t.f 0x2C 12 0)).isNone then some St.shapeInvalid
  else if t.f 0x38 48 48 == 1 && !inStage d (laneOwner d t.lane) (t.f 0x38 47 0) (4 * t.f 0x40 31 0) then some St.range
  else none

/-- Whether some entry of the request table can take an OPEN (R141, R143). -/
def reqSlotExists (d : Dev) : Bool :=
  ((d.reqs.live.map (·.slot)).filter (· < 16384) ++ d.reqs.retired).eraseDups.length < 16384

/-- An OPEN (R30, R141 to R150). The entry is the command's choice among the free ones. -/
def execOpenReq (lane : Nat) (seq : U32) (slot : Nat) (s : State) : Host.Outcome State Fault Refusal :=
  onTaken lane seq (fun t => t.kind == 0x10) (fun d t =>
    let o := laneOwner d lane
    match recCheck d t (hasPrompt d) (ringForeign d o (t.f 0x52 11 0)) none false true true with
    | some st => refuseTaken d t st
    | none => match openRefusal d t with
      | some st => refuseTaken d t st
      | none =>
        if !reqSlotExists d then ctrInc (refuseTaken d t St.reqFull) cReqRefusedFull
        else if 16384 ≤ slot || !slotFree d slot || d.reqs.retired.contains slot then d
        else
          let inc := tgetD d.reqs.inc slot 0 + 1
          let r := openEntry d t slot inc
          let d := dropTaken d t
          let d := addReq { d with reqs := { d.reqs with
            inc := tset d.reqs.inc slot inc
            keptId := tdel d.reqs.keptId slot
            note := tdel d.reqs.note slot
            hashQ := if 64 ≤ r.tokenCount then d.reqs.hashQ ++ [r.core.requestId] else d.reqs.hashQ } } r
          let (ok, d) := sendSvc d r.core.home r.openMsg
          if ok then d else endFree d r St.weftNoPeer) s

/-! ## Skein-open reply, hashing and lookup (R34, R36, R209) -/

/-- Send the chain once the identifier is known and every whole block is hashed (R36). -/
def trySendLookup (d : Dev) (r : Req) : Dev :=
  if r.state == .opening && r.core.skeinId != 0 && !r.lookupSent && r.chain.length == r.tokenCount / 64 then
    let (ok, d1) := sendSvc (setReq d { r with lookupSent := true }) r.core.home (.lookup r.core.requestId r.core.skeinId r.chain)
    if ok then d1 else promptEnd d r St.weftFailed 0x05 0
  else setReq d r

/-- A skein-open reply (R34, R151). -/
def execSkeinOpenReply (frm : Nat) (req : U64) (status : Nat) (skein : U64) (s : State) :
    Host.Outcome State Fault Refusal :=
  onDev (fun d =>
    let late : Dev := if status == St.ok then (sendSvc d frm (.abort req skein)).2 else d
    match findPrompt d req with
    | none => late
    | some r =>
      if r.core.skeinId != 0 then late
      else if r.state == .opening then
        if status == St.ok then trySendLookup d { r with core := { r.core with skeinId := skein } }
        else endFree d r status
      else if r.state == .ending && r.cancelled then
        if status == St.ok then
          let r := { r with core := { r.core with skeinId := skein }, cancelled := false, since := now d }
          sendAbort (setReq d r) r
        else freeReq d r
      else late) s

/-- No skein-open reply within the timeout (R34, R151). DESIGN CHOICE (log entry 100): the timeout runs from the OPEN's arrival, which is
the time the entry holds. -/
def execSkeinOpenTimeout (req : U64) (s : State) : Host.Outcome State Fault Refusal :=
  onDev (fun d => match findPrompt d req with
    | none => d
    | some r =>
      if r.core.skeinId != 0 || now d < r.core.opened + skeinOpenNs d then d
      else if r.state == .opening then endFree (faultOp d r.faultRef 0x140 St.homeUnreachable 0 0) r St.homeUnreachable
      else if r.state == .ending && r.cancelled then freeReq (faultOp d r.faultRef 0x140 St.homeUnreachable 0 0) r
      else d) s

/-- Blocks of a request's chain are still to be hashed (R36). -/
def Req.hashing (r : Req) : Bool := r.state == .opening && r.chain.length < r.tokenCount / 64

/-- The chains that run on the four engines: those whose next blocks have waited longest (R209). -/
def hashEngines (d : Dev) : List U64 :=
  (d.reqs.hashQ.filter (fun i => match findPrompt d i with | some r => r.hashing | none => false)).take 4

/-- A chain's next block begins to wait for an engine (R209). -/
def hashAgain (d : Dev) (i : U64) : Dev := { d with reqs := { d.reqs with hashQ := d.reqs.hashQ.filter (· != i) ++ [i] } }

/-- A hash engine finishes the next block of a request's chain (R36, R208, R209). The tokens come from the token buffer. -/
def execHashBlockDone (req : U64) (tokens : WithErrs HostData) (s : State) : Host.Outcome State Fault Refusal :=
  onDev (fun d => match findPrompt d req with
    | none => d
    | some r =>
      if !r.hashing || !(hashEngines d).contains req then d else
      let at_ := r.tokenBuf + 256 * r.chain.length
      let (bad, d) := if r.tokenSas then readRanges tokens.2 [(at_, 256)] d else (false, d)
      if bad then promptEndFault d r 0x410 St.stackUncorrectable 0 else
      match if r.tokenSas then some (workRead d at_ 256) else hostGot d r.core.owner tokens.1 with
      | none =>
        let d := ctrInc d cHostReadFail
        promptEnd (faultOp d r.faultRef 0x811 St.hostDma 0 0) r St.hostDma 0x05 0
      | some bs =>
        if bs.length != 256 then d else
        trySendLookup (hashAgain d req) { r with chain := r.chain ++ [blockHash (r.chain.getLast?.getD 0) r.model bs] }) s

/-- Spans of a prefix view (R275). -/
def viewSpans (s : Shape) (pages : Nat) : Nat := ceilDiv (s.layers * pages * pageBytes s) 0x40000000

/-- A lookup answer (R40, R151, R275). -/
def execLookupReply (frm : Nat) (req : U64) (status pages span : Nat) (s : State) : Host.Outcome State Fault Refusal :=
  onDev (fun d => match findPrompt d req with
    | none => d
    | some r =>
      if r.state != .opening || !r.lookupSent || frm != r.core.home then d
      else if status != St.ok then promptEnd d r status 0x05 0
      else
        let n := viewSpans r.shape pages
        let ready (d : Dev) (r : Req) : Dev :=
          let d := setReq d { r with state := .prefill, prefixPages := pages }
          complete d r.ref St.ok 0 r.core.skeinId.toNat (64 * pages)
        if pages == 0 then ready d r
        else if sasRefusing d || !spansExist d n then promptEnd (if sasRefusing d then (placeRefused d).2 else d) r St.sasFull 0x05 0
        else if !spansFree d span n then d
        else
          let d := { d with sas := { d.sas with spans := (span, n) :: d.sas.spans } }
          let d := ready d { r with viewBase := some span }
          (sendSvc d r.core.home (.prefixFetch req r.core.skeinId)).2) s

/-- Put one expanded page of a prefix hit into the view, its failed block poisoned and those after it left out (R39, R275, R379, R380).
DESIGN CHOICE (log entry 102): a block that came in a shipment has no address in this SAS, and its decode error names address 0. -/
def viewPage (d : Dev) (r : Req) (base : Nat) (p : PagePart) : Dev :=
  let a := base + (p.layer * r.prefixPages + p.page) * pageBytes r.shape
  let x := expandPart r.shape.fmt p
  let d := countExpanded d (match x.2 with | some e => p.blocks.take e.2 | none => p.blocks)
  let d := shuttleBytes d (p.blocks.map (fun b => b.data.length)).sum x.1.length
  let d := match x.2 with
    | some e => decodeError d r.faultRef 0x501 0 e.1
    | none => d
  match workWrite d r.core.owner a (fit x.1 (pageBytes r.shape)) with
  | none => (placeRefused d).2
  | some d => match x.2 with
    | none => d
    | some e => (List.range 64).foldl (fun d i => setPoison d (a + 4096 * e.2 + 64 * i) true) d

/-! ## Landing pages (R270 to R274, R411 to R413) -/

/-- LP: landing slots per layer. -/
def Req.landPages (d : Dev) (r : Req) : Nat := min (landingSlots d) (536866816 / (r.shape.layers * pageBytes r.shape))
/-- Where page `p` of layer `l` lands. -/
def Req.landAddr (d : Dev) (r : Req) (l p : Nat) : Nat :=
  landingBase r.slot + 4096 + (l * Req.landPages d r + p % Req.landPages d r) * pageBytes r.shape

/-- The page that slot `k` of a layer fills: the one it fills now, or the first own page that falls into it. -/
def Req.landPage (d : Dev) (r : Req) (l k : Nat) : Landing :=
  let n := Req.landPages d r
  (r.landing.find? (fun x => x.layer == l && x.page % n == k)).getD {
    layer := l
    page := r.prefixPages + (k + n - r.prefixPages % n) % n }

/-- Store a slot's landing page. -/
def Req.setLanding (d : Dev) (r : Req) (x : Landing) : Req :=
  let n := Req.landPages d r
  { r with landing := r.landing.filter (fun y => !(y.layer == x.layer && y.page % n == x.page % n)) ++ [x] }

/-- Mask words of page `p` in the mask ring (R411). -/
def maskWords (d : Dev) (r : Req) (p : Nat) : List U64 :=
  (List.range r.maskSets).map (fun m =>
    u64 (unLe (workRead d (landingBase r.slot + 0x400 + 8 * ((p % (384 / r.maskSets)) * r.maskSets + m)) 8)))

/-- First page of the window (R44, R46). -/
def Req.firstWindow (r : Req) : Nat := pagesOf r.tokenCount - r.core.windowPages

/-- Take a landing page: summarize, compress, count it, release its frames and ship it (R41, R272, R412). A line of it that cannot be
read ends the request (R298, R299; DEDUCED, log entry 96). -/
def takePage (d : Dev) (r : Req) (l p tokens : Nat) (found : List LineErr) : Dev :=
  let a := Req.landAddr d r l p
  let (bad, d) := readRanges found [(a, pageBytes r.shape)] d
  if bad then promptEndFault d r 0x410 St.stackUncorrectable 0 else
  let raw := workRead d a (pageBytes r.shape)
  let masks := (tget r.pageMasks p).getD (maskWords d r p)
  let bs := compressPage r.shape.fmt raw
  let part : PagePart := {
    layer := l
    page := p
    tokens := tokens
    blocks := bs
    summary := summarize r.shape raw tokens
    masks := masks
    hash := r.chain[p]? }
  let n := tgetD r.takenPages l 0 + 1
  let d := unmapFrames (jobDone (countCoded d bs) r.core.owner 0 []) r.core.owner (framesOf a (pageBytes r.shape))
  let d := (workWrite d r.core.owner (landingBase r.slot + 8 * l) (le n 8)).getD d
  let r := Req.setLanding d r { layer := l, page := p + Req.landPages d r }
  let r := { r with
    pageMasks := tset r.pageMasks p masks
    takenPages := tset r.takenPages l n
    ready := r.ready.filter (· != (l, p))
    kept := if r.firstWindow ≤ p then r.kept ++ [part] else r.kept }
  let (ok, d) := sendSvc (setReq d r) r.core.home (.place r.core.requestId r.core.skeinId false [part])
  if ok then d else shipFail d r.core.requestId

/-- Token positions of page `p` of the prompt: the last page may be partial (R42). -/
def Req.pageTokens (r : Req) (p : Nat) : Nat :=
  if p == r.tokenCount / 64 && r.tokenCount % 64 != 0 then r.tokenCount % 64 else 64

/-- A landing page is complete and not yet taken (R272, R273). -/
def Req.pageComplete (r : Req) (x : Landing) : Bool := x.lines.length == pageBytes r.shape / 64

/-- The prompt device takes the next complete landing page, in page-completion order (R41, R272). -/
def execLandingPageTaken (req : U64) (layer : Nat) (page : WithErrs Nat) (s : State) : Host.Outcome State Fault Refusal :=
  onDev (fun d => match findPrompt d req with
    | none => d
    | some r =>
      if r.state == .prefill && r.ready.head? == some (layer, page.1) then
        takePage d r layer page.1 (r.pageTokens page.1) page.2
      else d) s

/-! ## PREFILL_DONE and the handoff (R42, R43, R46, R152, R210) -/

/-- Take what still stands in the landing area: complete pages in the order of their completion, then each layer's partial
last page (R41, R272). -/
def takeRest (d : Dev) (i : U64) (found : List LineErr) : Dev :=
  match findPrompt d i with
  | none => d
  | some r =>
    let last := r.tokenCount / 64
    let parts := if r.tokenCount % 64 == 0 then [] else
      (List.range r.shape.layers).filter (fun l => r.prefixPages ≤ last && !r.ready.contains (l, last))
    let go (d : Dev) (l p tokens : Nat) : Dev := match findPrompt d i with
      | some r => if r.state == .prefill then takePage d r l p tokens found else d
      | none => d
    let d := r.ready.foldl (fun d x => go d x.1 x.2 (r.pageTokens x.2)) d
    parts.foldl (fun d l => go d l last (r.tokenCount % 64)) d

/-- The handoff of a request (R46, R147, R210). -/
def Req.handoffMsg (d : Dev) (r : Req) : HandoffMsg := {
  core := { r.core with
    cplRing := r.core.cplRing % 4096
    tokenRing := r.core.tokenRing % 4096 }
  firstToken := r.firstToken
  age := now d - r.core.opened
  windowFirst := r.firstWindow
  windowLast := pagesOf r.tokenCount - 1
  hashCarry := r.chain.getLast?.getD 0
  tail := r.tail
  shape := r.shape
  model := r.model
  maskSets := r.maskSets
  prefixPages := r.prefixPages
  tokenCount := r.tokenCount
  seq := r.openRef.seq
  lane := r.openRef.lane }

/-- Flush the shipping connection of a request (R43, R48): the entry's use tells whose flush it is. To this device itself
nothing travels, and the flush ends with its own command. -/
def postFlush (d : Dev) (peer : Nat) (use : SqFor) : Dev :=
  if isOurs d peer then d else
  match serviceConn d peer with
  | some c => postEntry d c.num { op := 0x05, use := use }
  | none => d

/-- A PREFILL_DONE (R42, R43, R46, R791). -/
def execPrefillDone (lane : Nat) (seq : U32) (tail : WithErrs HostData) (s : State) : Host.Outcome State Fault Refusal :=
  onTaken lane seq (fun t => t.kind == 0x11) (fun d t =>
    let entry := findPrompt d t.request
    let own := match entry with
      | some r => r.core.owner != laneOwner d lane
      | none => reqForeign d t (lookupReq d t.request)
    match recCheck d t (hasPrompt d) own none false true false with
    | some st => refuseTaken d t st
    | none => match entry with
      | none => refuseTaken d t (match lookupReq d t.request with
          | .partner => St.partnerLost
          | .gen _ => St.skeinState
          | _ => St.reqStale)
      | some r =>
        if r.state != .prefill then refuseTaken d t St.skeinState else
        let k := r.tokenCount % 64
        let at_ := r.tokenBuf + 256 * (r.tokenCount / 64)
        let (bad, d) := if r.tokenSas && k != 0 then readRanges tail.2 [(at_, 4 * k)] d else (false, d)
        let failed (d : Dev) (cause status : Nat) : Dev :=
          let ref := t.ref d
          promptEnd (complete (faultOp (dropTaken d t) ref cause status 0 0) ref status 0 0 0) r status 0x05 0
        if bad then failed d 0x410 St.stackUncorrectable else
        match if r.tokenSas then some (workRead d at_ (4 * k)) else if k == 0 then some [] else hostGot d r.core.owner tail.1 with
        | none => failed (ctrInc d cHostReadFail) 0x811 St.hostDma
        | some bs =>
          if bs.length != 4 * k then d else
          let d := finishOp (dropTaken d t) (t.ref d) St.ok 0 0
          let d := setReq d { r with
            firstToken := u32 (t.f 0x20 31 0)
            tail := (chunks 4 k bs).map (fun b => u32 (unLe b)) }
          let d := takeRest d t.request tail.2
          match findPrompt d t.request with
          | none => d
          | some r =>
            if r.state != .prefill then d else
            let (r, d) := dropView d { r with state := .handing, since := now d, flushOut := true }
            let d := postFlush (setReq d r) r.core.home (.shipFlush t.request false)
            let (ok, d) := sendSvc d r.core.genDevice (.handoff (Req.handoffMsg d r))
            if ok then d else handoffFail d t.request) s

/-- Status and fault cause of a refused handoff (R796). -/
def handoffCause (status : Nat) : Nat :=
  if status == St.ringInvalid then 0x114
  else if status == St.stopSetUndefined then 0x301
  else if status == St.sasFull then 0x402
  else 0x110

/-- Ownership passes: ship the window (R48, R151, R152). -/
def handoffTaken (d : Dev) (r : Req) : Dev :=
  let i := r.core.requestId
  let r := { r with state := .shipping, cancelPending := false, since := now d }
  let held := r.kept.filter (fun p => r.firstWindow ≤ p.page)
  let d := setReq d { r with kept := [] }
  let (ok, d) := sendSvc d r.core.genDevice (.window i held true)
  if ok then postFlush d r.core.genDevice (.shipFlush i true) else windowFail d i

/-- A HANDOFF_REPLY (R151, R152, R796). -/
def execHandoffReply (frm : Nat) (req : U64) (status : Nat) (s : State) : Host.Outcome State Fault Refusal :=
  onDev (fun d =>
    let answer (d : Dev) (st : Nat) : Dev :=
      if isOurs d frm then match findGen d req with
        | some g => if g.state != .accepting then d else if st == St.ok then genAcked d g else genNakd d g false
        | none => d
      else svcAnswer d frm 0x0B st
    match findPrompt d req with
    | none => answer d St.reqEnded
    | some r =>
      if r.state != .handing then answer d (if r.state == .shipping then St.ok else St.reqEnded)
      else if status == St.duplicate then answer d St.ok
      else if status == St.ok then
        let d := answer (handoffTaken d r) St.ok
        if r.cancelPending then (sendSvc d r.core.genDevice (.cancel req)).2 else d
      else answer (promptEndFault d r (handoffCause status) status (bit1 r.cancelPending)) St.ok) s

/-- No handoff reply within HANDOFF_MS (R152). -/
def execHandoffTimeout (req : U64) (s : State) : Host.Outcome State Fault Refusal :=
  onDev (fun d => match findPrompt d req with
    | some r => if r.state == .handing && r.since + handoffNs d ≤ now d then handoffFail d req else d
    | none => d) s

/-! ## Shipments end (R43, R45, R50, R151) -/

/-- The flush of the skein's shipment or of the window's ends. -/
def shipmentDone (d : Dev) (i : U64) (window ok : Bool) : Dev :=
  match findPrompt d i with
  | none => d
  | some r =>
    if window then
      if r.state != .shipping || r.windowDone then d
      else if ok then shippingSettle d { r with windowDone := true }
      else windowFail d i
    else if !r.flushOut || !(r.state == .handing || r.state == .shipping) then d
    else if ok then
      let d := setReq d { r with flushOut := false, sealSent := true }
      let (sent, d) := sendSvc d r.core.home (.seal i r.core.skeinId)
      if sent then d else shipFail d i
    else shipFail (setReq d { r with flushOut := false }) i

/-- Some entry of the send queues still serves a flush. -/
def flushPosted (d : Dev) (u : SqFor) : Bool :=
  d.weft.conns.any (fun c => c.queue.any (fun e => e.use == u) || c.msgs.any (fun m => m.use == u))

/-- The end of a shipment's flush, where no transport entry carries it (R28): the prompt role's, and the home's window (R48, R50). -/
def execShipmentFlushDone (req : U64) (window ok : Bool) (s : State) : Host.Outcome State Fault Refusal :=
  onDev (fun d => if flushPosted d (.shipFlush req window) then d else
    let d := shipmentDone d req window ok
    if !window then d else
    let d := match d.sas.skeins.find? (fun k => k.req == req && k.windowSent && isOurs d k.genDevice) with
      | some k => homeWindowEnd d k ok
      | none => d
    if ok then (match findGen d req with | some g => genFlushed d g (fleet d) | none => d) else d) s

/-- A STATE_REPLY for a seal, an abort or a release (R45, R62, R151). -/
def execStateReply (frm : Nat) (req : U64) (kind status : Nat) (s : State) : Host.Outcome State Fault Refusal :=
  onDev (fun d =>
    if kind == 0x06 then
      match findPrompt d req with
      | some r =>
        if frm != r.core.home || !r.sealSent || r.sealAcked then d
        else if status == St.ok then
          if r.state == .shipping || r.state == .handing then shippingSettle d { r with sealAcked := true } else d
        else shipFail d req
      | none => d
    else match d.reqs.live.find? (fun r => r.state == .ending && r.core.requestId == req && r.core.home == frm) with
      | some r => freeReq d r
      | none => d) s

/-- No acknowledgement of a release or abort within the timeout (R151). -/
def execEndingTimeout (req : U64) (s : State) : Host.Outcome State Fault Refusal :=
  onDev (fun d => match d.reqs.live.find? (fun r => r.state == .ending && r.core.requestId == req && !r.releaseDue && !r.cancelled) with
    | some r => if r.since + skeinOpenNs d ≤ now d && !r.acked then freeReq (faultOp d r.faultRef 0x111 0 0 0) r else d
    | none => d) s

/-! ## CANCEL (R151, R155 to R158) -/

/-- A record of a kind for the same request arrived before this one and still waits (R155). -/
def earlierTaken (d : Dev) (t : Taken) (kinds : List Nat) : Bool :=
  d.intake.taken.any (fun x => kinds.contains x.kind && x.request == t.request &&
    (x.arrival < t.arrival || (x.arrival == t.arrival && x.lane < t.lane)))

/-- A cancel reaches a request on the generation side (R151, R156). -/
def genCancel (d : Dev) (r : Req) : Dev :=
  match r.state with
  | .waiting => genEnd d r St.cancelled 0x04 1
  | .decoding =>
    let r := { r with cancelPending := true, cancelAt := now d }
    if r.await.isEmpty && !stepArrived d r then genEnd d r St.cancelled 0x04 1 else setReq d r
  | .accepting => setReq d { r with cancelPending := true, cancelAt := now d }
  | _ => d

/-- A pending CANCEL is settled once no STEP awaits commit any more (R155, R156). -/
def cancelSettle (d : Dev) (i : U64) : Dev := match findGen d i with
  | some r =>
    if r.state == .decoding && r.cancelPending && r.await.isEmpty && !stepArrived d r then genEnd d r St.cancelled 0x04 1 else d
  | none => d

/-- A CANCEL record (R151 to R158). -/
def execCancel (lane : Nat) (seq : U32) (s : State) : Host.Outcome State Fault Refusal :=
  onTaken lane seq (fun t => t.kind == 0x12) (fun d t =>
    let f := lookupReq d t.request
    match recCheck d t (hasPrompt d || hasGeneration d) (reqForeign d t f) none false true false with
    | some st => refuseTaken d t st
    | none =>
      let forward (g : Nat) : Dev :=
        if d.pair.state == .lost && g == partnerFleet d then refuseTaken d t St.partnerLost else
        let m : Svc := .cancel t.request
        let (ok, d1) := sendSvcFor (dropTaken d t) g m .b t.deadline t.deadline (.service m)
        if ok then d1 else refuseTaken d t St.weftNoPeer
      if earlierTaken d t [0x13] then d else
      match f with
      | .gen r => match r.state with
        | .accepting => d
        | .ending => refuseTaken d t St.reqEnded
        | _ => genCancel (dropTaken d t) r
      | .prompt r => match r.state with
        | .opening => promptEnd (dropTaken d t) r St.cancelled 0x04 1
        | .prefill => promptEnd (dropTaken d t) r St.cancelled 0x04 1
        | .handing => setReq (dropTaken d t) { r with cancelPending := true }
        | .shipping => forward r.core.genDevice
        | .ending => refuseTaken d t St.reqEnded
        | _ => refuseTaken d t St.skeinState
      | .note g _ => forward g
      | other => refuseTaken d t (missStatus other)) s

/-- A forwarded CANCEL arrives at the generation device (R156, R157). -/
def execSvcCancel (frm : Nat) (req : U64) (s : State) : Host.Outcome State Fault Refusal :=
  onDev (fun d => match findGen d req with
    | some r => if frm == reqOrigin req || isOurs d frm then genCancel d r else d
    | none => d) s

end Sys2Proof.Machine
end

