-- ==== Sys2Proof/Machine/Serving.lean ====
section
/-! DEFINITION. The generation device's commands: handoff and window (R46 to R50, R147, R193, R276, R796), steps (R180 to
R186), stop sets (R187 to R193), queries and their partials (R51, R52, R87, R109, R110, R468 to R471), appends (R55). -/

namespace Sys2Proof.Machine

open Sys2Proof

/-! ## Handoff (R147, R148, R152, R193, R276, R796) -/

/-- A ring of a kind is owned by an owner (R148). -/
def ringOwned (d : Dev) (n kind owner : Nat) : Bool := match findRing d n with
  | some r => r.kind == kind && r.owner == owner
  | none => false

/-- The first check of R796 that a handoff fails. A live entry is one of the generation side; adopted entries take none of the table's
(R705). -/
def handoffRefusal (d : Dev) (m : HandoffMsg) : Option Nat :=
  if !hasGeneration d then some St.roleAbsent
  else if (findGen d m.core.requestId).isSome then some St.duplicate
  else if !(ringOwned d m.core.tokenRing 2 m.core.owner && ringOwned d m.core.cplRing 1 m.core.owner) then some St.ringInvalid
  else if m.core.stopSet != 0xFFFF && (match tget d.reqs.stopSets m.core.stopSet with
      | some x => x.owner != m.core.owner
      | none => true) then some St.stopSetUndefined
  else if 16384 ≤ (d.reqs.live.filter (·.slot < 16384)).length then some St.reqFull
  else if sasRefusing d || !spansExist d (windowSpans m.shape m.core.windowPages) then some St.sasFull
  else none

/-- The entry a handoff fills (R147, R210, R211). -/
def handoffEntry (d : Dev) (m : HandoffMsg) (slot span : Nat) : Req :=
  { slot := slot
    state := .accepting
    gen := true
    core := { m.core with
      opened := now d
      ageAtOpen := m.age
      lastStep := 0
      generated := 0
      lastToken := 0 }
    openRef := {
      kind := 0x10
      lane := m.lane
      seq := m.seq
      tag := m.core.tag
      request := m.core.requestId
      ring := m.core.cplRing
      owner := m.core.owner
      remote := true
      arrival := now d }
    since := now d
    model := m.model
    shape := m.shape
    maskSets := m.maskSets
    tokenCount := m.tokenCount
    prefixPages := m.prefixPages
    firstToken := m.firstToken
    windowBase := some span
    windowFirst := m.windowFirst
    split := m.windowFirst
    stopCopy := match tget d.reqs.stopSets m.core.stopSet with | some x => x.buf | none => []
    hashCarry := m.hashCarry
    blockBuf := m.tail
    nextBlock := m.tokenCount / 64
    appendNext := m.tokenCount / 64 }

/-- A HANDOFF arrives (R46, R147, R796). The entry and the window's spans are the command's choice among the free ones. -/
def execHandoff (frm : Nat) (m : HandoffMsg) (slot span : Nat) (s : State) : Host.Outcome State Fault Refusal :=
  onDev (fun d =>
    match handoffRefusal d m with
    | some st =>
      let d := if st == St.reqFull then ctrInc d cReqRefusedFull else
        if st == St.sasFull && sasRefusing d then (placeRefused d).2 else d
      (sendSvc d frm (.handoffReply m.core.requestId st)).2
    | none =>
      let n := windowSpans m.shape m.core.windowPages
      if 16384 ≤ slot || !slotFree d slot || !spansFree d span n then d else
      let d := { d with
        sas := { d.sas with spans := (span, n) :: d.sas.spans }
        reqs := { d.reqs with keptId := tdel d.reqs.keptId slot } }
      let r := handoffEntry d m slot span
      let (ok, d) := sendSvc (addReq d r) frm (.handoffReply m.core.requestId St.ok)
      if ok then d else genNakd d r true) s

/-! ## The window (R48 to R50, R276) -/

/-- Put one page into the window, its failed block poisoned and those after it left out (R379, R380); none when no frame is left. -/
def windowPage (d : Dev) (r : Req) (p : PagePart) : Option Dev :=
  let a := r.winAddr p.layer p.page
  let x := expandPart r.shape.fmt p
  let d := countExpanded d (match x.2 with | some e => p.blocks.take e.2 | none => p.blocks)
  let d := shuttleBytes d (p.blocks.map (fun b => b.data.length)).sum x.1.length
  let d := match x.2 with
    | some e => decodeError d r.faultRef 0x501 0 e.1
    | none => d
  (workWrite d r.core.owner a (fit x.1 (pageBytes r.shape))).map (fun d => match x.2 with
    | some e => (List.range 64).foldl (fun d i => setPoison d (a + 4096 * e.2 + 64 * i) true) d
    | none => d)

/-- Put several pages into the window. -/
def windowPages (r : Req) : List PagePart → Dev → Option Dev
  | [], d => some d
  | p :: ps, d => match windowPage d r p with
    | none => none
    | some d => windowPages r ps d

/-- A refused WINDOW of this device itself fails at its sender, the prompt role or the home (R50). -/
def windowAnswer (d : Dev) (frm : Nat) (req : U64) (pages : List PagePart) (status : Nat) : Dev :=
  if isOurs d frm then (if status == St.ok then d else match homeWindowOf d req pages with
    | some k => homeWindowEnd d k false
    | none => windowFail d req) else flushesEnded d (svcAnswer d frm 0x0C status)

/-- A WINDOW arrives (R48, R49). -/
def execWindow (frm : Nat) (req : U64) (pages : List PagePart) (last : Bool) (s : State) :
    Host.Outcome State Fault Refusal :=
  onDev (fun d =>
    let (pages, d) := shipped d frm 0x0C req pages
    match findGen d req with
    | none => windowAnswer d frm req pages St.ok
    | some r =>
      if r.state == .ending then windowAnswer d frm req pages St.ok else
      if sasRefusing d then windowAnswer (placeRefused d).2 frm req pages St.sasFull else
      match windowPages r (unpackParts (shapeBpp r.shape) pages) d with
      | none => windowAnswer (placeRefused d).2 frm req pages St.sasFull
      | some d =>
        let d := if last then setReq d { r with lastFrom := r.lastFrom ++ [frm] } else d
        windowAnswer d frm req pages St.ok) s

/-- A SEALED report arrives (R49). -/
def execSealed (frm : Nat) (req skein : U64) (splitPage : Nat) (s : State) : Host.Outcome State Fault Refusal :=
  onDev (fun d => match findGen d req with
    | none => d
    | some r =>
      if r.core.skeinId != skein || r.core.home != frm || r.sealedSeen then d
      else if r.state == .accepting || r.state == .waiting then
        genReady d { r with sealedSeen := true, split := splitPage, windowOrder := r.windowOrder ++ [frm] }
      else d) s

/-- A REQ_ABORT arrives (R50, R799). -/
def execReqAbort (_frm : Nat) (req _skein : U64) (cause : Nat) (s : State) : Host.Outcome State Fault Refusal :=
  onDev (fun d => match findGen d req with
    | none => d
    | some r =>
      if cause != 0x141 && cause != 0x142 then d else
      match r.state with
      | .waiting => genFault d r cause St.skeinAborted
      | .decoding => genFault d r cause St.skeinAborted
      | .accepting => setReq d { r with abortCause := some (r.abortCause.getD cause) }
      | _ => d) s

/-! ## Steps (R155, R156, R181, R182) -/

/-- A STEP record (R180, R181). -/
def execStep (lane : Nat) (seq : U32) (s : State) : Host.Outcome State Fault Refusal :=
  onTaken lane seq (fun t => t.kind == 0x13) (fun d t =>
    let f := lookupReq d t.request
    match recCheck d t (hasGeneration d) (reqForeign d t f) none false true true with
    | some st => cancelSettle (refuseTaken d t st) t.request
    | none => match f with
      | .gen r => match r.state with
        | .accepting => d
        | .ending => refuseTaken d t St.reqEnded
        | .decoding =>
          if earlierTaken d t [0x12, 0x13] then d
          else if r.cancelPending && r.cancelAt < t.arrival then refuseTaken d t St.reqEnded
          else
            let a := match r.await.getLast? with | some x => x.stamp | none => r.core.lastStep
            let diff := serialDiff t.step a
            if diff ≤ 0 then cancelSettle (refuseTaken d t St.duplicate) t.request
            else if diff != 1 then cancelSettle (refuseTaken d t St.stepOrder) t.request
            else
              let w : AwaitStep := {
                ref := t.ref d
                deadline := t.deadline
                stamp := t.step
                token := u32 (t.f 0x20 31 0) }
              let (r, d) := stepInput (dropTaken d t) { r with await := r.await ++ [w] } t.step.toNat 0xFFFFFF
              setReq d r
        | _ => refuseTaken d t St.skeinState
      | .prompt r => refuseTaken d t (if r.state == .ending then St.reqEnded else St.skeinState)
      | other => refuseTaken d t (missStatus other)) s

/-- The next accepted STEP of a request commits (R182). -/
def execStepCommit (req : U64) (s : State) : Host.Outcome State Fault Refusal :=
  onDev (fun d => match findGen d req with
    | none => d
    | some r => match r.state, r.await with
      | .decoding, a :: rest => finishOp (commitToken d { r with await := rest } a.token a.stamp false) a.ref St.ok 0 0
      | _, _ => d) s

/-! ## Stop sets (R187 to R191) -/

/-- A stop-set buffer keeps the layout of R188 and names some condition (R189). -/
def stopBufOk (b : Bytes) : Bool :=
  let ids := (b.getD 0 0).toNat
  let seqs := (b.getD 1 0).toNat
  let len (j : Nat) : Nat := (b.getD (8 + j) 0).toNat
  b.length == 640 && ids ≤ 16 && seqs ≤ 8 && (ids != 0 || seqs != 0) && zeros b 2 8 && zeros b 0x10 0x40 &&
  zeros b (0x40 + 4 * ids) 0x80 &&
  (List.range 8).all (fun j =>
    if j < seqs then 1 ≤ len j && len j ≤ 16 && zeros b (0x80 + 64 * j + 4 * len j) (0x80 + 64 * (j + 1))
    else len j == 0 && zeros b (0x80 + 64 * j) (0x80 + 64 * (j + 1)))

/-- A set that another owner holds (R190). -/
def stopSetForeign (d : Dev) (t : Taken) : Bool := match tget d.reqs.stopSets (t.f 0x20 9 0) with
  | some x => x.owner != laneOwner d t.lane
  | none => false

/-- The buffer of a define has been read, or its read has failed (R189, R191, R630). Another owner may have taken the set since the
record came (R190). -/
def stopSetFinish (d : Dev) (t : Taken) (data : HostData) : Dev :=
  let n := t.f 0x20 9 0
  if stopSetForeign d t then refuseTaken d t St.access else
  match data with
  | some b =>
    if stopBufOk b then
      let x : StopSet := { owner := laneOwner d t.lane, buf := b }
      finishOp { dropTaken d t with reqs := { d.reqs with stopSets := tset d.reqs.stopSets n x } } (t.ref d) St.ok 0 0
    else refuseTaken d t St.stopSetInvalid
  | none => refuseTaken (faultOp (ctrInc d cHostReadFail) (t.ref d) 0x811 St.stopSetInvalid 0 0) t St.stopSetInvalid

/-- A STOP_SET that defines a set (R187 to R191): from this SAS at once, from host memory once the buffer is read. -/
def execStopSetDefine (lane : Nat) (seq : WithErrs U32) (s : State) : Host.Outcome State Fault Refusal :=
  onTaken lane seq.1 (fun t => t.kind == 0x15 && t.f 0x22 0 0 == 0) (fun d t =>
    match recCheck d t (hasGeneration d) (stopSetForeign d t) none false true false with
    | some st => refuseTaken d t st
    | none =>
      let a := t.f 0x28 47 0
      if t.f 0x28 48 48 == 1 then
        if !inStage d (laneOwner d lane) a 640 then refuseTaken d t St.range else
        let r := readRanges seq.2 [(a, 640)] d
        if r.1 then refuseTaken (faultOp r.2 (t.ref d) 0x410 St.stopSetInvalid 0 0) t St.stopSetInvalid
        else stopSetFinish r.2 t (some (workRead r.2 a 640))
      else if d.host.reads.any (fun x => x.use == .stopSet lane seq.1) then d
      else if !fnUp d (laneOwner d lane) then stopSetFinish d t none
      else hostRead d (laneOwner d lane) a 640 (.stopSet lane seq.1)) s

/-- A STOP_SET that deletes a set (R190). -/
def execStopSetDelete (lane : Nat) (seq : U32) (s : State) : Host.Outcome State Fault Refusal :=
  onTaken lane seq (fun t => t.kind == 0x15 && t.f 0x22 0 0 == 1) (fun d t =>
    match recCheck d t (hasGeneration d) (stopSetForeign d t) none false true false with
    | some st => refuseTaken d t st
    | none =>
      let n := t.f 0x20 9 0
      if (tget d.reqs.stopSets n).isNone then refuseTaken d t St.stopSetUndefined
      else finishOp { dropTaken d t with reqs := { d.reqs with stopSets := tdel d.reqs.stopSets n } } (t.ref d) St.ok 0 0) s

/-! ## Queries (R49, R51, R87) -/

/-- Element `i` of a query. -/
def queryOf (bs : Bytes) : List U16 := (chunks 2 (bs.length / 2 + 1) bs).map (fun b => BitVec.ofNat 16 (unLe b))

/-- The query leaves for the home as a far job (R51, R75, R87, R400). DESIGN CHOICE (log entry 82): a far job for this device itself has
no frame, and its budget is the QUERY's less its residence, without the stamp guard. -/
def forwardQuery (d : Dev) (r : Req) (t : Taken) (q : Bytes) : Dev :=
  let h := d.reqs.nextHandle
  let d := { d with reqs := { d.reqs with nextHandle := h + 1 } }
  let ours := isOurs d r.core.home
  let spent := now d - t.arrival
  let m : FarJobMsg := {
    req := r.core.requestId
    skein := r.core.skeinId
    step := t.step.toNat
    layer := t.f 0x20 7 0
    biasTable := r.core.biasTable
    kPages := r.core.kPages
    splitPage := r.splitFor t.step
    kCap := r.core.kCap
    epsilon := r.core.epsilon
    ret := u64 h
    query := queryOf q }
  let msg : Svc := .farJob m t.cls (if ours then t.budget - spent else t.budget)
  let (ok, d) := sendSvcFor d r.core.home msg t.cls t.deadline t.deadline (.service msg)
  if !ok then finishOp (dropTaken d t) (t.ref d) St.weftNoPeer 0 0 else
  let x : QueryOut := {
    ref := t.ref d
    step := t.step.toNat
    layer := t.f 0x20 7 0
    handle := u64 h
    conn := t.f 0x30 19 0
    addr := t.f 0x38 63 0
    cls := t.cls
    budget := t.budget
    reduced := spent }
  setReq (dropTaken d t) { r with queries := r.queries ++ [x] }

/-- A QUERY (R49, R51, R86, R87, R227). -/
def execQuery (lane : Nat) (seq : U32) (data : WithErrs HostData) (s : State) : Host.Outcome State Fault Refusal :=
  onTaken lane seq (fun t => t.kind == 0x14) (fun d t =>
    let f := lookupReq d t.request
    let o := laneOwner d lane
    let conn := t.f 0x30 19 0
    let remote := conn != 0xFFFFF
    let badLayer := match f with
      | .gen r => r.shape.layers ≤ t.f 0x20 7 0
      | _ => false
    if hasGeneration d && t.headerOk && badLayer then refuseTaken d t St.recordInvalid else
    match recCheck d t (hasGeneration d) (reqForeign d t f || (remote && connForeign d o conn)) none false false true with
    | some st => refuseTaken d t st
    | none => match f with
      | .gen r => match r.state with
        | .accepting => d
        | .waiting => d
        | .ending => refuseTaken d t St.reqEnded
        | .decoding =>
          let n := 2 * r.shape.qHeads * r.shape.headDim
          let a := t.f 0x28 47 0
          if remote && (findConn d conn).isNone then refuseTaken d t St.weftConn
          else if t.f 0x28 48 48 == 0 then
            if !inStage d o a n then refuseTaken d t St.range else
            let x := readRanges data.2 [(a, n)] d
            if x.1 then refuseTaken (faultOp x.2 (t.ref d) 0x410 St.stackUncorrectable 0 0) t St.stackUncorrectable
            else forwardQuery x.2 r t (workRead x.2 a n)
          else match hostGot d o data.1 with
            | none =>
              let d := faultOp (ctrInc d cHostReadFail) (t.ref d) 0x811 St.hostDma 0 0
              refuseTaken d t St.hostDma
            | some bs => if bs.length == n then forwardQuery d r t bs else d
        | _ => refuseTaken d t St.skeinState
      | .prompt r => refuseTaken d t (if r.state == .ending then St.reqEnded else St.skeinState)
      | other => refuseTaken d t (missStatus other)) s

/-! ## Partials (R52, R109, R110, R159, R468 to R471) -/

/-- The entry and the query that a relay handle names. -/
def findHandle (d : Dev) (h : U64) : Option (Req × QueryOut) :=
  d.reqs.live.findSome? (fun r => if r.gen then (r.queries.find? (fun q => q.handle == h)).map (fun q => (r, q)) else none)

/-- Change a query of an entry. -/
def Req.setQuery (r : Req) (q : QueryOut) : Req := { r with queries := replaceFirst (fun x => x.handle == q.handle) q r.queries }

/-- Some row of a partial has THINNED set (R466). -/
def partThinned (s : Shape) (bs : Bytes) : Bool :=
  (List.range s.qHeads).any (fun h => fld bs (4 * s.headDim * s.qHeads + 16 * h + 12) 0 0 == 1)

/-- The relay of a partial as an operation (R109). -/
def relayOp (d : Dev) (r : Req) (q : QueryOut) (bs : Bytes) (arrival budget : Nat) (cls : Cls) (status : Nat) : Op × List Nat × Nat :=
  let remote := q.conn != 0xFFFFF
  let port := match findConn d q.conn with | some c => c.port (c.pathOf c.sendMsn.toNat 0) | none => 0
  let st : Stage := {
    ledger := if remote then lPRT port else lPCI
    work := if remote then prtNs d port (wireBytes bs.length) else pciNs d (pciBytes d q.addr bs.length)
    pre := tAdm + xPortIo }
  let op : Op := {
    id := 0
    ref := { q.ref with arrival := arrival, weft := true }
    cls := cls
    budget := budget
    deadline := none
    stages := [st]
    port := port
    what := .relay r.core.requestId q.step q.layer q.conn q.addr bs status }
  (op, if remote then [rbTransport, rbPort port] else [rbPcie], if remote then xIoPort else xPcie)

/-- A relay to a Weft connection posts its write, with TAG, LAYER and STEP as its immediate data (R469). -/
def relayPost (d : Dev) (id : Nat) : Dev :=
  match findOp d id with
  | none => d
  | some o => match o.what with
    | .relay _ step layer conn addr bs _ =>
      if conn == 0xFFFFF then d
      else if !connReady d conn then stopOp d o 0x701 St.weftConn
      else postEntry d conn {
        op := 0x01
        cls := o.cls
        imm := some (u64 (o.ref.tag.toNat + layer * 2 ^ 32 + step % 2 ^ 24 * 2 ^ 40))
        length := bs.length
        data := .bytes bs
        raddr := addr
        rkey := Config.remoteKey conn addr
        deadline := o.deadline
        passOn := o.passOn
        use := .op id }
    | _ => d

/-- Accept the relay as class B (R81, R110). DESIGN CHOICE (log entry 83): a demoted partial has no deadline, yet passes on what is left of
its budget (R75). -/
def relayB (d : Dev) (r : Req) (q : QueryOut) (bs : Bytes) (arrival budget status : Nat) : Dev :=
  let (op, ready, _) := relayOp d r q bs arrival budget .b status
  match acceptB d op ready with
  | (.ok id, d) =>
    let d := ctrInc d cPartRelayed
    let d := if status == St.demotedB then (match findOp d id with
      | some o => setOp d { o with deadline := none }
      | none => d) else d
    relayPost d id
  | (.refused st _, d) => admissionReply d op.ref st 0

/-- A partial reaches the generation device with its message's arrival stamp, budget and class. -/
def partialIn (d : Dev) (frm : Nat) (handle : U64) (bs : Bytes) (arrival budget : Nat) (cls : Cls) : Dev :=
  match findHandle d handle with
  | none =>
    if 1 ≤ handle.toNat && handle.toNat < d.reqs.nextHandle then ctrInc d cLatePartials
    else detect (ctrInc d cPartBad) 0x02 frm 0x603 0 0
  | some (r, q) =>
    if r.state == .ending then ctrInc d cLatePartials
    else if r.queries.any (fun x => x.step == q.step && x.layer == q.layer && x.relayed) then ctrInc d cPartDuplicate
    else if bs.length != partLen r.shape then
      let d := detect (ctrInc d cPartBad) 0x02 frm 0x603 0 0
      complete (setReq d (r.setQuery { q with relayed := true })) q.ref St.partialBad 0 0 0
    else
      let r := r.setQuery { q with relayed := true }
      let r := if partThinned r.shape bs then { r with thinnedSteps := q.step :: r.thinnedSteps } else r
      let (r, d) := stepInput d r q.step frm
      let d := setReq d r
      if cls == .g then
        let (op, ready, post) := relayOp d r q bs arrival budget .g St.ok
        match admitG d op ready post with
        | (.ok id, d) => relayPost (ctrInc d cPartRelayed) id
        | (.refused _ _, d) => relayB d r q bs arrival budget St.demotedB
      else relayB d r q bs arrival budget St.ok

/-- A partial, or the home's refusal of a far job, arrives (R87, R467 to R471). The budget of the relay is what the query
still has. -/
def execPartialReceived (frm : Nat) (handle : U64) (answer : FarAnswer) (s : State) : Host.Outcome State Fault Refusal :=
  onDev (fun d => match answer with
    | .partial_ bs => match findHandle d handle with
      | none => partialIn d frm handle bs (now d) 0 .b
      | some (_, q) =>
        let left := q.ref.arrival + q.budget - now d
        partialIn d frm handle bs (now d) (if q.cls == .b && q.budget == 0 then 0 else if q.cls == .b then max 1 left else left) q.cls
    | .refused status bound => match findHandle d handle with
      | none => d
      | some (r, q) =>
        if r.state == .ending || q.relayed then d
        else
          let b := if status == St.admitBound && bound != allOnes then min (bound + q.reduced) allOnes else bound
          complete (setReq d (r.setQuery { q with relayed := true })) q.ref status b 0 0) s

/-! ## Appends (R55, R56) -/

/-- The end of an appended page's flush, where no transport entry carries it (R28). -/
def execAppendFlushDone (req : U64) (ok : Bool) (s : State) : Host.Outcome State Fault Refusal :=
  onDev (fun d => if flushPosted d (.appendFlush req) then d else match findGen d req with
    | some r => appendDone d r ok
    | none => d) s

end Sys2Proof.Machine
end

