-- ==== Sys2Proof/Machine/Skeins.lean ====
section
/-! DEFINITION. The home's commands on skeins (R19 to R64, R213 to R248): skein-open, lookup and prefix fetch, placement,
seal, abort, release. -/

namespace Sys2Proof.Machine

open Sys2Proof

/-- Answer a seal, an abort or a release (R151, R547). -/
def stateReply (d : Dev) (frm : Nat) (req : U64) (kind status : Nat) : Dev :=
  (sendSvc d frm (.stateReply req kind status)).2

/-! ## Skein-open (R20, R25, R31 to R35, R231 to R234) -/

/-- CAP of a skein-open (R231). -/
def capOfOpen (d : Dev) (m : SkeinOpenMsg) : Nat := pagesOf (min (m.tokenCount + m.maxTokens) (tokenLimit d))

/-- Descriptor slots that hold a skein or are retired. -/
def slotsTaken (d : Dev) : Nat := (d.sas.skeins.filter (·.slot < 262144)).length + d.sas.retired.length

/-- The state and the refusal that a skein-open meets before a slot is chosen: when no slot is free, the oldest PREFIX skein
goes (R32, R33). -/
def openSlots (d : Dev) (m : SkeinOpenMsg) : (Option Nat) × Dev :=
  if !hasCache d then (some St.roleAbsent, d)
  else if !shapeOk m.shape || (windowOf m.windowPages).isNone then (some St.shapeInvalid, d)
  else if tokenLimit d < m.tokenCount then (some St.skeinCapacity, d)
  else if slotsTaken d < 262144 then (none, d)
  else match oldestPrefix d (fun _ => true) with
    | some k => (none, freeSkein d k)
    | none => (some St.skeinFull, ctrInc d cSkeinRefused)

/-- A SKEIN_OPEN arrives (R31 to R34, R231 to R234). Slot and META range are the command's choice among the free ones; the directory's
frames are mapped (R228). DESIGN CHOICE (log entry 94): the oldest PREFIX skein goes before the META range is looked for; where it leaves
no slot free, since its slot retires, the skein-open stays unanswered and nothing changes. -/
def execSkeinOpen (frm : Nat) (m : SkeinOpenMsg) (slot base : Nat) (s : State) : Host.Outcome State Fault Refusal :=
  onDevC (fun d0 =>
    let (no, d) := openSlots d0 m
    let refuse (d : Dev) (st : Nat) : Dev := (sendSvc d frm (.skeinOpenReply m.req st 0)).2
    match no with
    | some st => refuse d st
    | none =>
      let cap := capOfOpen d m
      let size := resvSize m.shape cap m.maskSets
      if !resvExists d size then refuse d St.sasFull
      else if 262144 ≤ slot || (skeinAt d slot).isSome || d.sas.retired.contains slot || !resvFree d base size then d0
      else
        let inc := tgetD d.sas.inc slot 0 + 1
        let k : Skein := {
          slot := slot
          id := mkSkeinId (fleet d) slot inc
          model := m.model
          shape := m.shape
          thinOk := m.thinOk
          retain := m.retain
          tenant := m.owner
          created := now d
          lastAccess := now d
          base := base
          cap := cap
          maskSets := m.maskSets
          windowPages := (windowOf m.windowPages).getD 0
          genDevice := m.genDevice
          req := m.req
          tokenCount := m.tokenCount }
        let r : Reservation := {
          base := base
          size := size
          slot := slot }
        match mapAll d (framesOf base (64 * m.shape.layers)) with
        | none => refuse d St.sasFull
        | some d =>
          let d := { d with sas := { d.sas with
            inc := tset d.sas.inc slot inc
            reservations := d.sas.reservations ++ [r]
            skeins := d.sas.skeins ++ [k] } }
          (sendSvc (mirrorDirs d none k) frm (.skeinOpenReply m.req St.ok k.id)).2) s

/-! ## Lookup and prefix fetch (R37 to R39, R217, R246) -/

/-- LAST_HASH: the hash of the last whole block placed (R24). -/
def Skein.rehash (k : Skein) : Skein := { k with lastHash := if k.tokens < 64 then 0 else (k.chain[k.tokens / 64 - 1]?).getD 0 }

/-- The shared entries of one block (R37, R246). -/
def sharePages (d : Dev) (k : Skein) (block : Nat) (e : PrefixEntry) : List PageRef :=
  match findSkein d e.skein with
  | none => []
  | some o => (o.pages.filter (fun r => r.page == block)).map (fun r => { r with
      foreign := true
      masks := List.replicate k.maskSets (BitVec.allOnes 64) })

/-- Note a prefix hit at the holder (R62). -/
def touchSkein (d : Dev) (i : U64) : Dev := match findSkein d i with
  | some k => setSkein d { k with lastAccess := now d }
  | none => d

/-- A LOOKUP arrives (R3, R27, R37, R217). -/
def execLookup (frm : Nat) (req skein : U64) (chain : List U128) (s : State) : Host.Outcome State Fault Refusal :=
  onDev (fun d =>
    let answer (d : Dev) (st n : Nat) : Dev := (sendSvc d frm (.lookupReply req st n)).2
    if !hasCache d then answer d St.roleAbsent 0 else
    match findSkein d skein with
    | none => answer d St.skeinStale 0
    | some k =>
      if k.state != .receiving then answer d St.skeinState 0 else
      let (es, d) := prefixLookup k chain 0 d
      let n := es.length
      let pages := (es.zipIdx).flatMap (fun e => sharePages d k e.2 e.1)
      match mapAll d (pages.flatMap (fun r => metaFrames k r.layer r.page [])).eraseDups with
      | none => answer (placeRefused d).2 St.sasFull 0
      | some d =>
        let d := pages.foldl (fun d r => match findBody d r.body with | some b => mirrorRef d k r b | none => d) d
        let d := ctrAdd (ctrInc d cPrefixLookups) cPrefixHitBlocks n
        let d := (es.map PrefixEntry.skein).eraseDups.foldl touchSkein d
        let k := { k with
          chain := chain
          prefixPages := n
          hasShared := n != 0
          prefixFrom := (es.head?.map PrefixEntry.skein).filter (fun i => es.all (fun e => e.skein == i))
          pages := pages
          lastAccess := now d }
        let k := (pages.map (·.layer)).eraseDups.foldl
          (fun (k : Skein) l => k.setLayer l { k.layer l with nr := nonResident d k l }) k
        answer (setSkein d k.recount.rehash) St.ok n) s

/-! ## Pages that this home ships (R39, R48, R250, R252) -/

/-- Some frame of a page cannot leave the bobbin tier (R269). -/
def refDead (d : Dev) (r : PageRef) : Bool := (refFrames d [r]).any (fun f => (frameDead d f).isSome)

/-- Whether pages that are to be shipped can be read; if not, the frames that lie in the bobbin tier are promoted, and the wait is counted
once (R250, R252, R267). -/
def shipReady (d : Dev) (k : Skein) (rs : List PageRef) : Bool × Dev :=
  let fs := refFrames d rs
  if resident d fs then (true, d) else
  let c := (rs.map (·.layer)).eraseDups.findSome? (fun l => waitCause d k l (refFrames d (rs.filter (fun r => r.layer == l))))
  let d := match c, k.shipWaits with
    | some c, false => countWait d c
    | _, _ => d
  (false, (promoteAll (lowFrames d fs) none none .b 0 d).2)

/-- Send the pages of a prefix fetch, once they can be read; a page that cannot be raised is left out (R39, R395). A stack line that
cannot be read ends the fetch with a fault record (R298, R299). -/
def fetchShip (d : Dev) (k : Skein) (frm : Nat) (found : List LineErr) : Dev :=
  let rs := (k.refsOf 0 k.prefixPages).filter (fun r => !refDead d r)
  let ended : Skein := { k with fetchDue := none, shipWaits := false }
  match shipReady d k rs with
  | (false, d) => setSkein d { k with fetchDue := some frm, shipWaits := true }
  | (true, d) =>
    let (bad, d) := readRanges found (refRanges d rs) d
    if bad then faultOp (setSkein d ended) k.ref 0x410 St.stackUncorrectable 0 0 else
    let (ps, d) := travelParts d k k.ref rs
    (sendSvc (setSkein d ended) frm (.prefixPages k.req ps)).2

/-- Ship the window pages that lie below PREFIX_PAGES, once they can be read (R48). One that cannot be shipped fails the shipment (R50). -/
def homeWindow (d : Dev) (k : Skein) : Dev :=
  if k.prefixPages ≤ k.splitPage then d else
  let rs := k.refsOf k.splitPage k.prefixPages
  let sent : Skein := { k with windowSent := true, windowDue := false, shipWaits := false }
  if rs.any (refDead d) then homeWindowEnd (setSkein d sent) sent false else
  match shipReady d k rs with
  | (false, d) => setSkein d { k with windowDue := true, shipWaits := true }
  | (true, d) =>
    let (bad, d) := readRanges [] (refRanges d rs) d
    if bad then homeWindowEnd (faultOp (setSkein d sent) k.ref 0x410 St.stackUncorrectable 0 0) sent false else
    let (ps, d) := travelParts d k k.ref rs
    if ps.length < rs.length then homeWindowEnd (setSkein d sent) sent false else
    let (ok, d) := sendSvc (setSkein d sent) k.genDevice (.window k.req ps true)
    if ok then postFlush d k.genDevice (.homeFlush k.id) else homeWindowEnd d sent false

/-- Ship what waited for frames, as far as it can go (R250, R252). -/
def pumpShips (d : Dev) : Dev :=
  (d.sas.skeins.filter (fun k => (k.windowDue || k.fetchDue.isSome) && k.state != .aborted)).foldl (fun d k =>
    let d := match k.fetchDue with
      | some frm => fetchShip d k frm []
      | none => d
    match skeinAt d k.slot with
    | some k => if k.windowDue then homeWindow d k else d
    | none => d) d

/-- The shipments that need a frame which finds no room in the stack tier end (R50, R257): a window fails, and a prefix fetch goes without
the page. -/
def shipsRefused (d : Dev) (f : Nat) : Dev :=
  (d.sas.skeins.filter (fun k => k.windowDue || k.fetchDue.isSome)).foldl (fun d k =>
    let needs (r : PageRef) : Bool := (refFrames d [r]).contains f
    let d := match k.fetchDue with
      | some frm =>
        if !(k.refsOf 0 k.prefixPages).any needs then d else
        let (ps, d) := travelParts d k k.ref ((k.refsOf 0 k.prefixPages).filter (fun r => resident d (refFrames d [r])))
        (sendSvc (setSkein d { k with fetchDue := none }) frm (.prefixPages k.req ps)).2
      | none => d
    match skeinAt d k.slot with
    | some k =>
      if k.windowDue && (k.refsOf k.splitPage k.prefixPages).any needs then
        homeWindowEnd (setSkein d { k with windowDue := false, windowSent := true }) { k with windowDue := false, windowSent := true } false
      else d
    | none => d) d

/-- Meanings that may let frames be read: what waited for them is shipped. -/
def onTier (f : Dev → Dev) (s : State) : Host.Outcome State Fault Refusal := onDevC (fun d => pumpShips (f d)) s

/-- A PREFIX_FETCH arrives at the home, or its pages at the prompt device (R39, R250, R395). DESIGN CHOICE (log entry 95): one that names a
stale or another home's skein changes nothing and has no answer, since R547 gives none. -/
def execPrefixFetch (frm : Nat) (req skein : U64) (pages : WithErrs PagesBack) (s : State) :
    Host.Outcome State Fault Refusal :=
  onDev (fun d => match pages.1 with
    | none => match findSkein d skein with
      | none => d
      | some k =>
        let k := { k with lastAccess := now d }
        fetchShip (setSkein d k) k frm pages.2
    | some ps =>
      let (ps, d) := shipped d frm 0x10 req ps
      match findPrompt d req with
      | none => d
      | some r => match r.viewBase with
        | some b =>
          if r.state == .prefill && r.core.home == frm then
            (unpackParts (shapeBpp r.shape) ps).foldl (fun d p => viewPage d r b p) d
          else d
        | none => d) s

/-! ## Placement (R41, R54, R62, R222, R235, R244, R245) -/

/-- Summarize and compress an appended page (R54); other pages come in stored form. -/
def readyPart (d : Dev) (k : Skein) (p : PagePart) (appended : Bool) : PagePart × Dev :=
  if appended then
    let raw := fit p.raw (pageBytes k.shape)
    let bs := compressPage k.shape.fmt raw
    ({ p with
      raw := []
      blocks := bs
      summary := summarize k.shape raw p.tokens
      masks := List.replicate k.maskSets (BitVec.allOnes 64) }, jobDone (countCoded d bs) k.tenant 0 [])
  else (p, d)

/-- A whole page that stands already (R244). -/
def Skein.duplicate (k : Skein) (p : PagePart) : Bool :=
  p.tokens == 64 && (match k.page? p.layer p.page with | some r => r.tokens == 64 | none => false)

/-- A shipped page that may not be written over the one that stands: only an appended page replaces a placed one, and only a partial
one (R245). -/
def Skein.stands (k : Skein) (p : PagePart) (appended : Bool) : Bool :=
  match k.page? p.layer p.page with
  | some r => !appended || r.tokens == 64
  | none => false

/-- Place the pages of one shipment in order, up to the first refusal. DESIGN CHOICE (log entry 90): a page that stands and that R245 lets
nothing replace is acknowledged and changes nothing; R244 counts the whole ones. -/
def placeAllPages (appended : Bool) : List PagePart → Skein → Dev → Nat × Skein × Dev
  | [], k, d => (St.ok, k, d)
  | p :: ps, k, d =>
    if k.duplicate p then placeAllPages appended ps k (ctrInc d cDupPages)
    else if k.stands p appended then placeAllPages appended ps k d else
    let (q, d) := readyPart d k p appended
    match placePage d k q appended with
    | (st, k, d) => if st == St.ok then placeAllPages appended ps k d else (st, k, d)

/-- Keep the hash that comes with an appended page, and enter it in the prefix table (R54, R216). -/
def appendHash (d : Dev) (k : Skein) (p : PagePart) : Skein × Dev :=
  match p.hash with
  | none => (k, d)
  | some h =>
    if k.chain.length != p.page then (k, d)
    else ({ k with chain := k.chain ++ [h] }, if k.retain then prefixInsert d k p.page h else d)

/-- The append of a page, or a page shipment, was refused at its sender's own home or by a NAK (R45, R56, R57, R235). -/
def placeNak (d : Dev) (req : U64) (appended : Bool) (status : Nat) : Dev :=
  if !appended then shipFail d req else
  match findGen d req with
  | none => d
  | some r =>
    if status == St.skeinCapacity && (r.state == .waiting || r.state == .decoding) then
      genFault d { r with noShip := true } 0x405 St.skeinCapacity
    else setReq d { r with appendFailed := true }

/-- Place the pages of a shipment whose index groups pass their check; one that fails it is refused with ST_DECODE_ERROR and its fault
record (R383; DEDUCED, log entry 102). -/
def placeChecked (appended : Bool) (ps : List PagePart) (k : Skein) (d : Dev) : Nat × Skein × Dev :=
  match (if appended then none else partsBad ps) with
  | some kind => (St.decodeError, k, decodeError d k.ref 0x502 0 kind)
  | none => placeAllPages appended ps k d

/-- A PLACE arrives (R3, R27, R28, R41, R54, R62, R383, R543). A placement that fails at the home aborts a skein that is RECEIVING. -/
def execPlace (frm : Nat) (req skein : U64) (appended : Bool) (pages : List PagePart) (s : State) :
    Host.Outcome State Fault Refusal :=
  onDevC (fun d =>
    let answer (d : Dev) (st : Nat) : Dev :=
      if isOurs d frm then (if st == St.ok then d else placeNak d req appended st) else flushesEnded d (svcAnswer d frm 0x05 st)
    let (pages, d) := shipped d frm 0x05 req pages
    if !hasCache d then answer d St.roleAbsent else
    match findSkein d skein with
    | none => answer d St.skeinStale
    | some k =>
      if k.state != (if appended then .bound else .receiving) then answer d St.skeinState else
      match placeChecked appended (unpackParts (shapeBpp k.shape) pages) k d with
      | (st, k, d) =>
        let (k, d) := if st == St.ok && appended then (match pages.head? with | some p => appendHash d k p | none => (k, d)) else (k, d)
        let k := if st == St.ok || appended then k else { k with state := .aborted }
        answer (setSkein d { k.recount.rehash with lastAccess := now d }) st) s

/-! ## Seal, abort, release (R44, R48 to R50, R57 to R60, R62) -/

/-- A SEAL arrives (R44, R49). -/
def execSeal (frm : Nat) (req skein : U64) (s : State) : Host.Outcome State Fault Refusal :=
  onDev (fun d => match findSkein d skein with
    | none => stateReply d frm req 0x06 St.skeinStale
    | some k =>
      if k.state != .receiving then stateReply d frm req 0x06 St.skeinState else
      let k := { k with
        sealed := true
        state := .bound
        splitPage := pagesOf k.tokens - k.windowPages }
      let d := setSkein d k
      let d := if k.retain then
          (k.chain.take (k.tokens / 64)).zipIdx.foldl (fun d h => prefixInsert d k h.2 h.1) d
        else d
      let d := homeWindow d k
      let d := (sendSvc d k.genDevice (.sealed k.req k.id k.splitPage)).2
      stateReply d frm req 0x06 St.ok) s

/-- An ABORT arrives (R62). -/
def execAbort (frm : Nat) (req skein : U64) (s : State) : Host.Outcome State Fault Refusal :=
  onDev (fun d => match findSkein d skein with
    | none => stateReply d frm req 0x07 St.skeinStale
    | some k => match k.state with
      | .receiving => stateReply (setSkein d { k with state := .aborted }) frm req 0x07 St.ok
      | .bound => stateReply (setSkein (prefixRemove d k) { k with state := .aborted }) frm req 0x07 St.ok
      | _ => stateReply d frm req 0x07 St.skeinState) s

/-- The placements of an ABORTED skein have drained (R62). -/
def execSkeinAbortDrained (slot : Nat) (s : State) : Host.Outcome State Fault Refusal :=
  onDev (fun d => match skeinAt d slot with
    | some k => if k.state == .aborted then freeSkein d k else d
    | none => d) s

/-- A RELEASE arrives (R58 to R60, R62). -/
def execRelease (frm : Nat) (req skein : U64) (s : State) : Host.Outcome State Fault Refusal :=
  onDev (fun d => match findSkein d skein with
    | none => stateReply d frm req 0x08 St.skeinStale
    | some k =>
      if k.state != .bound then stateReply d frm req 0x08 St.skeinState
      else if k.retain then stateReply (setSkein d { k with state := .prefix_, genDevice := 0 }) frm req 0x08 St.ok
      else stateReply (freeSkein d k) frm req 0x08 St.ok) s

end Sys2Proof.Machine
end

