-- ==== Sys2Proof/Machine/Retrieval.lean ====
section
/-! DEFINITION. The far job at the home (R400 to R478): its checks (R401, R800), its stages (R107), batches (R437 to R444),
the heddles' scan and walk (R308 to R315), the rounds (R423 to R436) and the delivery of its partials (R461 to R467). -/

namespace Sys2Proof.Machine

open Sys2Proof

/-! ## Readings -/

/-- k_c of a far job: K_PAGES, or K_CAP with 0 meaning 4,096 (R400, R421). -/
def farCap (m : FarJobMsg) : Nat := if m.kPages != 0 then m.kPages else if m.kCap == 0 then 4096 else m.kCap

/-- The table of an index in a BIAS section; `fuel` bounds the tables (R416). -/
def biasIn (t : Nat) : Nat → Bytes → Option Bytes
  | 0, _ => none
  | f + 1, bs =>
    if bs.length < 4 then none else
    let n := 256 * fld bs 0 15 8
    if fld bs 0 3 0 == t then some (sub bs 4 n) else biasIn t f (bs.drop (4 + n))

/-- A bias table of the image; none is bias 0 everywhere (R416). -/
def biasTable (d : Dev) (t : Nat) : Option Bytes := if t == 0xFF then none else biasIn t 16 (tgetD d.boot.vault 7 [])

/-- The skein whose pages below `p` a skein shares, through its prefix sources (R438); `fuel` bounds the chain. -/
def anchorOf (d : Dev) : Nat → Skein → Nat → U64
  | 0, k, _ => k.id
  | f + 1, k, p =>
    match k.prefixFrom.bind (findSkein d) with
    | some s => if k.intact && p ≤ k.prefixPages then anchorOf d f s p else k.id
    | none => k.id

/-- Pages of a layer below P as a job reads them (R249, R408 to R410). -/
def jobPages (k : Skein) (l p : Nat) : List JobPage :=
  (k.pages.filter (fun r => r.layer == l && r.page < p)).map (fun r => {
    page := r.page
    body := r.body
    tokens := r.tokens
    elig := eligible r.masks r.tokens
    thinned := r.thinned
    summary := r.summary })

/-- The message of a member names the same far job (R145). -/
def sameTriple (m x : FarJobMsg) : Bool := m.req == x.req && m.step == x.step && m.layer == x.layer

/-- The partial-attention draft does not take a skein's shape (R476). -/
def draftRefuses (d : Dev) (s : Shape) : Bool :=
  img d 0x120208 7 0 < s.qHeads || img d 0x120208 17 8 < s.headDim || (3 ≤ s.fmt && img d 0x120208 18 18 == 0)

/-- Rows of `nq` queries stay within R485. -/
def liveOk (s : Shape) (nq : Nat) : Bool := nq * s.qHeads * (4 * s.headDim + 8) ≤ 262144
/-- And within R308. -/
def heddleOk (s : Shape) (nq : Nat) : Bool :=
  nq * s.qHeads ≤ 64 * s.kvHeads && nq * s.qHeads * s.headDim * 2 ≤ 131072
/-- And, for class G, within R429. -/
def boundOk (d : Dev) (s : Shape) (p nq : Nat) : Bool :=
  ((p + 63) / 64) * ((nq * s.qHeads + 63) / 64) ≤ 1200 * (bucketNs d / 1000)

/-- The refusals of R800, items 1 to 9, in order, with the counters of the one that applies. DESIGN CHOICE (log entry 88): the refusal of
R122, which R800 does not list, follows the skein's state. -/
def farCheck (d : Dev) (k : Option Skein) (m : FarJobMsg) (cls : Cls) : Option (Nat × Dev) :=
  let no (st : Nat) : Option (Nat × Dev) := some (st, d)
  if !hasCache d then no St.roleAbsent
  else if d.sec.switching then no St.imageSwitch
  else if d.flt.custody != .normal then no St.custody
  else if m.step == 0 || m.reserved || 4096 < m.kPages || 4096 < m.kCap then no St.recordInvalid
  else if (match k with | some k => k.shape.layers ≤ m.layer || k.pagesIn m.layer < m.splitPage | none => false) then no St.range
  else if m.biasTable != 0xFF && !(m.biasTable < 16 && bitOf (img d 0x120008 15 0) m.biasTable) then no St.biasUndefined
  else if cls == .g && m.kPages == 0 && img d 0x120000 39 39 == 0 then no St.notGuaranteeable
  else match k with
    | none => no St.skeinStale
    | some k =>
      if k.state != .bound then no St.skeinState
      else if partnerLost d m.req then no St.partnerLost
      else if d.retr.jobs.any (fun j => j.members.any (fun x => sameTriple x.msg m)) then no St.duplicate
      else if draftRefuses d k.shape then some (St.draftShape, ctrInc d cPartShapeRefused)
      else if !liveOk k.shape 1 then no St.draftShape
      else if !heddleOk k.shape 1 then some (St.heddleLimit, ctrInc d cHeddleLimit)
      else if cls == .g && !boundOk d k.shape m.splitPage 1 then no St.notGuaranteeable
      else none

/-- Bytes of a Return message for `nq` queries (R107). -/
def returnBytes (s : Shape) (nq : Nat) : Nat := nq * partLen s

/-- The stages of a far job (R107), its readiness bits, and the fixed terms after the last stage. `port` is none when the
generation device is this device (R28). -/
def farStages (d : Dev) (k : Skein) (m : FarJobMsg) (nq : Nat) (port : Option Nat) : List Stage × List Nat × Nat :=
  let s := k.shape
  let p := m.splitPage
  let kc := farCap m
  let nr := (k.layer m.layer).nr
  let dr := (draftOf d 3).getD 0
  let promote := nr != 0
  let merge := tMerge (min 16 (fabRuns d dr)) s.qHeads
  let scan : Stage := {
    ledger := lSTK
    work := stkNs d (p * sumBytes s + p * 8 * k.maskSets)
    pre := tAdm + xPortIo + xIoStk + tHed0 }
  let prom : Stage := {
    ledger := lBOB
    work := bobNs d (min kc nr * ((pageBytes s + 16383) / 16384))
    pre := xStkIo + tSel p + xIoFlash }
  let fetch : Stage := {
    ledger := lSTK
    work := stkNs d (kc * pageBytes s)
    pre := (if promote then xFlashIo else xStkIo + tSel p) + xIoStk + tStk0 }
  let expand : Stage := {
    ledger := lSHT
    work := shtExpandNs d (kc * pageBytes s)
    pre := xStkIo }
  let attend : Stage := {
    ledger := lFAB dr
    work := fabWorkNs d dr (kc * nq * draftUnit d dr)
    pre := xIoFab + tFill d dr }
  let back := match port with
    | none => []
    | some q => [{
        ledger := lPRT q
        work := prtNs d q (wireBytes (returnBytes s nq))
        pre := merge + xFabIo + xIoPort }]
  let groups := ((d.fab.runs.filter (fun r => r.draft == dr)).flatMap (fun r => r.tiles.map (· / 40))).eraseDups
  let pages := (k.pages.filter (fun r => r.layer == m.layer && r.page < p)).flatMap (fun r => match findBody d r.body with
    | some b => b.frames
    | none => [])
  let ready := (match port with | some q => [rbTransport, rbPort q] | none => []) ++ (if promote then [rbBobbin] else []) ++
    stackBits d (layerMeta d k m.layer true ++ pages) ++ groups.map rbTiles ++ (if runsAvail d dr == 0 then [63] else [])
  ([scan] ++ (if promote then [prom] else []) ++ [fetch, expand, attend] ++ back, ready,
    if port.isNone then merge + xFabIo else 0)

/-- The kind of the stage that a far job's operation stands at. -/
inductive FarStage where
  | scan
  | promote
  | fetch
  | expand
  | attend
  | back
deriving DecidableEq, Repr

/-- Names of an operation's stages. -/
def farStageAt (o : Op) : Option FarStage :=
  match o.stages[o.cur]? with
  | none => none
  | some s =>
    if o.cur == 0 then some .scan
    else if s.ledger == lBOB then some .promote
    else if s.ledger == lSTK then some .fetch
    else if s.ledger == lSHT then some .expand
    else if s.ledger < 18 then some .attend
    else some .back

/-! ## Arrival -/

/-- The operation of a far job. -/
def farOp (m : FarJobMsg) (frm owner t budget port : Nat) (cls : Cls) (stages : List Stage) (job : Nat) : Op := {
  id := 0
  ref := { request := m.req, owner := owner, intake := false, remote := true, arrival := t }
  cls := cls
  budget := budget
  deadline := none
  stages := stages
  port := port
  detail0 := m.step + m.layer * 2 ^ 32
  detail1 := m.skein.toNat
  fleet := frm
  what := .farJob job m.ret }

/-- Whether a newcomer may join a job: R439, BATCH_MAX, R308 and R485, and for class G R429. -/
def canJoin (d : Dev) (k : Skein) (m : FarJobMsg) (cls : Cls) (anchor : U64) (j : FarJob) : Bool :=
  let nq := j.members.length + 1
  !j.scanned && j.layer == m.layer && j.far == m.splitPage && j.anchor == anchor && j.cls == cls &&
  j.kPages == m.kPages && j.kCap == (if m.kCap == 0 then 4096 else m.kCap) && k.maskSets == 0 &&
  j.view.maskSets == 0 &&
  nq ≤ img d 0x120000 38 32 && liveOk k.shape nq && heddleOk k.shape nq &&
  (cls == .b || boundOk d k.shape m.splitPage nq)

/-- Add a member to a job. -/
def joinJob (d : Dev) (j : FarJob) (x : FarMember) : Dev :=
  { d with retr := { d.retr with jobs := replaceFirst (fun y => y.id == j.id) { j with members := j.members ++ [x] } d.retr.jobs } }

/-- A new job with one member. -/
def newJob (d : Dev) (k : Skein) (m : FarJobMsg) (cls : Cls) (anchor : U64) (x : FarMember) : Dev :=
  let j : FarJob := {
    id := d.retr.nextJob
    view := { k with chain := [], pages := [], layers := [] }
    layer := m.layer
    far := m.splitPage
    cls := cls
    anchor := anchor
    kPages := m.kPages
    kCap := if m.kCap == 0 then 4096 else m.kCap
    members := [x]
    pages := jobPages k m.layer m.splitPage }
  { d with retr := { d.retr with jobs := d.retr.jobs ++ [j], nextJob := j.id + 1 } }

/-- The combined test of R441 for a newcomer to a class G job: its number and the device with the combined bookings. -/
def joinG (d : Dev) (j : FarJob) (op : Op) (stages : List Stage) (post : Nat) (ready : List Nat) : Option (Nat × Dev) :=
  let lead := match j.members.head? with | some x => x.op | none => d.adm.nextOp
  let ta := op.ref.arrival
  let id := d.adm.nextOp
  let own := min (ta + op.budget) (horizonEnd d * bucketNs d)
  let first := (j.members.filterMap (fun x => (findOp d x.op).bind (·.deadline))).foldl min own
  if op.budget == 0 || !ready.all (isReady d) || 65536 ≤ gOutstanding d || !faultRoom d op.ref.owner then none else
  let rest := d.adm.bookings.filter (fun b => b.op != lead || b.fault)
  match placeAll d lead stages ta rest with
  | none => none
  | some (ss, e, bs) =>
    let x := e + post - ta + 20
    if first < ta + (x + divUp x 8192) + frNs d then none else
    match faultRoute d op.ref.owner with
    | none => none
    | some (l, fw) => match placeStage d l id (own - frNs d) fw bs with
      | none => none
      | some (dl, bs2) =>
        if own < dl then none else
        let o := { op with id := id, deadline := some own, stages := [] }
        let a := { d.adm with
          ops := d.adm.ops.map (fun p => if p.id == lead then { p with stages := ss } else p) ++ [o]
          nextOp := id + 1
          bookings := markFault (bs2.length - bs.length) bs2 }
        some (id, ctrInc { d with adm := a } cGAccepted)

/-- A far job that the home serves: counts, walks, times of access (R62, R237, R262, R494). -/
def farTaken (d : Dev) (k : Skein) (l : Nat) : Dev :=
  let y := k.layer l
  let d := jobCount (setSkein d { k.setLayer l { y with lastAccess := now d } with lastAccess := now d }) k.tenant 0
  match skeinAt d k.slot with
  | some k => jobWalks d k l
  | none => d

/-- Port and arrival stamp of a far job: those of its message's first packet (R72, R534); one of this device itself arrives now. -/
def farStamp (d : Dev) (frm conn : Nat) : Nat × Nat :=
  if isOurs d frm then (0, now d) else match d.weft.farIn.find? (fun f => f.1 == conn) with
    | some f => f.2
    | none => (0, now d)

/-- FAR_JOB arrives at the home (R400, R401, R800, R437 to R441). -/
def execFarJob (frm conn : Nat) (m : FarJobMsg) (cls : Cls) (budget : Nat) (s : State) : Host.Outcome State Fault Refusal :=
  onDev (fun d =>
    let (port0, ta) := farStamp d frm conn
    if !isOurs d frm && !farTurn d conn port0 ta then d else
    let d := { d with weft := { d.weft with farIn := dropFirst (fun f => f.1 == conn && !isOurs d frm) d.weft.farIn } }
    let k := findSkein d m.skein
    let refRefused (k : Option Skein) : OpRef := {
      request := m.req
      owner := (k.map Skein.tenant).getD 64
      intake := false
      remote := true
      arrival := ta }
    let count (d : Dev) : Dev := match k with | some k => jobCount d k.tenant 3 | none => d
    match farCheck d k m cls with
    | some (st, d) =>
      let d := if cls == .g then ctrInc d cGRefused else d
      farReply (count d) (refRefused k) frm m.ret st 0
    | none => match k with
      | none => d
      | some k =>
        if cls == .g && !metaResident d k m.layer then
          startWalk (farReply (count (ctrInc d cGRefused)) (refRefused (some k)) frm m.ret St.notResident 0) k.slot m.layer
        else
          let own := isOurs d frm
          let port := if own then none else (findConn d conn).map (fun c => c.port (c.pathList.headD 0))
          let anchor := anchorOf d (d.sas.skeins.length + 1) k m.splitPage
          let mk (job : Nat) (stages : List Stage) : Op :=
            farOp m frm k.tenant ta budget (port.getD 0) cls stages job
          let member (id : Nat) : FarMember := {
            msg := m
            op := id
            owner := k.tenant
            cfleet := frm
            conn := conn
            arrival := ta
            tc := k.tokenCount }
          let joins := d.retr.jobs.find? (canJoin d k m cls anchor)
          let joined : Option Dev := match joins with
            | none => none
            | some j =>
              let (st, ready, post) := farStages d k m (j.members.length + 1) port
              match cls with
              | .g => (joinG d j (mk j.id []) st post ready).map (fun r => joinJob r.2 j (member r.1))
              | .b => match acceptB d (mk j.id []) ready with
                | (.ok id, d) => some (joinJob d j (member id))
                | (.refused _ _, _) => none
          match joined with
          | some d => farTaken d k m.layer
          | none =>
            let (st, ready, post) := farStages d k m 1 port
            let op := mk d.retr.nextJob st
            match (match cls with | .g => admitG d op ready post | .b => acceptB d op ready) with
            | (.refused status bound, d) => farReply (count d) (refRefused (some k)) frm m.ret status bound
            | (.ok id, d) => farTaken (newJob d k m cls anchor (member id)) k m.layer) s

/-! ## Serving -/

/-- A far job by number. -/
def findJob (d : Dev) (i : Nat) : Option FarJob := d.retr.jobs.find? (fun j => j.id == i)
/-- Store a far job. -/
def setJob (d : Dev) (j : FarJob) : Dev := { d with retr := { d.retr with jobs := replaceFirst (fun x => x.id == j.id) j d.retr.jobs } }
/-- The skein of a job: as it stands, or as the job read it when it has been freed (R249). -/
def jobSkein (d : Dev) (j : FarJob) : Skein := (findSkein d j.view.id).getD j.view
/-- The operation that holds a job's stages. -/
def leadOp (d : Dev) (j : FarJob) : Option Op := j.members.head?.bind (fun x => findOp d x.op)

/-- End every member of a job with a fault record (R115, R442). -/
def failJob (d : Dev) (j : FarJob) (cause status : Nat) : Dev :=
  j.members.foldl (fun d x => match findOp d x.op with
    | some o => failOp d o cause status
    | none => d) d

/-- Status of a promotion that cannot be made (R352, R357). -/
abbrev deadStatus : Nat := St.bobbinUncorrectable

/-- A heddle parity error or a page-table hole ends the job (R314, R315, R683). -/
def heddleFault (d : Dev) (j : FarJob) (stack : Nat) : Dev :=
  detect (failJob d j 0x416 St.heddleFault) 0x06 stack 0x416 0 0

/-- Promote frames that a stage needs, and count its wait once (R250, R267). -/
def jobWaits (d : Dev) (j : FarJob) (k : Skein) (fs : List Nat) : Dev :=
  let d := if j.waiting then d else match waitCause d k j.layer fs with
    | some c => countWait (setJob d { j with waiting := true }) c
    | none => d
  match leadOp d j with
  | none => d
  | some o =>
    let r := promoteAll (lowFrames d fs) (some o.id) none j.cls ((o.stages.getD o.cur { ledger := 0, work := 0, pre := 0 }).deadline) d
    match r.1 with
    | some c => failJob r.2 j c deadStatus
    | none => r.2

/-- A member's query element that is not finite (R402). -/
def queryBad (m : FarJobMsg) : Bool := m.query.any (fun q => !((fmtOf 3).num q.toNat).isFin)

/-- A member's query of head `h` in exact units. -/
def queryRow (s : Shape) (m : FarJobMsg) (h : Nat) : List Int :=
  ((m.query.drop (h * s.headDim)).take s.headDim).map (fun q => Num.key ((fmtOf 3).num q.toNat))

/-- QPOS (R403). -/
def qpos (x : FarMember) : Nat := x.tc + x.msg.step - 1

/-- Bounds of one page for every row of a job, and whether its summary leaves one unbounded (R417 to R419). -/
def boundPage (d : Dev) (k : Skein) (ms : List FarMember) (p : JobPage) : PageBound × Bool :=
  let ts := (positions p.elig).map (fun t => 64 * p.page + t)
  let first := ts.headD 0
  let last := ts.getLastD 0
  let rows := ms.flatMap (fun x =>
    let tab := biasTable d x.msg.biasTable
    (List.range k.shape.qHeads).map (fun h =>
      uHat k.shape (queryRow k.shape x.msg h) h p.summary (pageBias tab h (qpos x) first last)))
  ({ page := p.page, n := ts.length, u := rows.map (·.1) }, rows.any (·.2))

/-- What the heddles read for a page in a SCAN: its mask words, and its summary unless those exclude the page (R312). -/
def scanRanges (k : Skein) (l : Nat) (p : JobPage) : List (Nat × Nat) :=
  (List.range k.maskSets).map (fun m => (k.maskAddr m l p.page, 8)) ++
  (if p.elig == 0 then [] else [(k.sumAddr l p.page, sumBytes k.shape)])

/-- Those bytes by the stack of each byte's frame. -/
def scanBytes (d : Dev) (k : Skein) (l : Nat) (p : JobPage) : List (Nat × Nat) :=
  (scanRanges k l p).flatMap (fun r => (framesOf r.1 r.2).filterMap (fun f =>
    match tget d.sas.frames f with
    | some e => e.stack.map (fun s => (s, min (r.1 + r.2) (4096 * f + 4096) - max r.1 (4096 * f)))
    | none => none))

/-- What the walker reads for a page: its page-table entry and its index groups (R313). -/
def walkRanges (d : Dev) (k : Skein) (l : Nat) (ps : List JobPage) (n : Nat) : List (Nat × Nat) :=
  (k.ptAddr l n, 8) :: (match (ps.find? (fun x => x.page == n)).bind (fun x => findBody d x.body) with
    | some b => (bodyGroups b).map (fun g => (g, 72))
    | none => [])

/-- Set the hint list of the layer in every member's skein (R228, R264, R424). DESIGN CHOICE (log entry 93): a list whose frames find no
room stays as it was. -/
def setHints (d : Dev) (j : FarJob) (ps : List Nat) : Dev :=
  j.members.foldl (fun d x => match findSkein d x.msg.skein with
    | none => d
    | some k => match mapAll d (framesOf (k.hintAddr j.layer) (4 * ps.length)) with
      | none => d
      | some d => setSkein d (k.setLayer j.layer { k.layer j.layer with hints := ascending ps })) d

/-- Frames of a job's selected pages. -/
def jobFrames (d : Dev) (j : FarJob) (ps : List Nat) : List Nat :=
  (j.pages.filter (fun p => ps.contains p.page)).flatMap (fun p => match findBody d p.body with
    | some b => b.frames
    | none => [])

/-- Select the pages of a scanned job, and start their promotion (R353, R421 to R427). -/
def selectPages (d : Dev) (j : FarJob) (k : Skein) (o : Op) : Dev :=
  let kc := if j.kPages != 0 then j.kPages else j.kCap
  let sel := select j.bounds j.far (img d 0x120000 5 0) (img d 0x120000 13 8) kc
  let ends := if sel.isEmpty then [] else rounds j.kPages j.kCap (img d 0x120000 28 16) sel.length
  let nrows := j.members.length * k.shape.qHeads
  let j := { j with
    scanned := true
    waiting := false
    sel := sel
    ends := ends
    sums := (List.range nrows).map (rowBound j.bounds sel ends)
    ended := sel.isEmpty }
  let d := setHints (setJob d j) j sel
  let low := lowFrames d (jobFrames d j sel)
  if low.isEmpty then d else
  let dl := ((o.stages.find? (fun s => s.ledger == lBOB)).map Stage.deadline).getD 0
  if j.cls == .g && !skewOk d low dl then ctrInc (failJob d j 0x426 St.bobbinSkew) cBobSkew
  else
    let r := promoteAll low (some o.id) none j.cls dl d
    match r.1 with
    | some c => failJob r.2 j c deadStatus
    | none => r.2

/-- The SCAN commands of a far job end (R312, R402, R404, R418 to R427). -/
def execHeddleScan (job : Nat) (parity : WithErrs (Option Nat)) (s : State) : Host.Outcome State Fault Refusal :=
  onDevC (fun d => match findJob d job with
    | none => d
    | some j =>
      if j.scanned then d else
      match parity.1 with
      | some n => heddleFault d j n
      | none => match leadOp d j with
        | none => d
        | some _ =>
          let k := jobSkein d j
          let need := if j.far == 0 then [] else layerMeta d k j.layer true
          if !resident d need then jobWaits d j k need else
          let (lost, d) := readRanges parity.2 (j.pages.flatMap (scanRanges k j.layer)) d
          if lost then failJob d j 0x410 St.stackUncorrectable else
          let k := jobSkein d j
          let bad := j.members.filter (fun x => queryBad x.msg)
          let d := bad.foldl (fun d x => match findOp d x.op with
            | some o => failOp (ctrInc d cRetrQueryInvalid) o 0x601 St.queryInvalid
            | none => d) d
          match findJob d job with
          | none => d
          | some j =>
            let ms := (j.members.zipIdx).map (fun x => { x.1 with pos := x.2 })
            let bytes := j.pages.flatMap (scanBytes d k j.layer)
            let d := (List.range 12).foldl (fun d n =>
              let b := ((bytes.filter (fun x => x.1 == n)).map (·.2)).sum
              if b == 0 then d else ctrInc (ctrAdd d (cStack n 0x200) b) (cStack n 0x208)) d
            let bs := (j.pages.filter (fun p => p.elig != 0)).map (boundPage d k ms)
            let sorted := (ascending (bs.map (fun x => x.1.page))).filterMap (fun p => bs.find? (fun x => x.1.page == p))
            let d := ctrAdd d cRetrUnbounded (sorted.filter (·.2)).length
            let j := { j with members := ms, bounds := sorted.map (·.1), batch := ms.length }
            match leadOp d j with
            | some o => selectPages (setJob d j) j k o
            | none => d) s

/-- A WALK command ends: the walker passes one round's pages to the shuttles (R313, R314, R423). -/
def execHeddleWalk (job : Nat) (parity : WithErrs (Option Nat)) (s : State) : Host.Outcome State Fault Refusal :=
  onDevC (fun d => match findJob d job with
    | none => d
    | some j =>
      if !j.scanned || j.ended || j.ends.length ≤ j.walked then d else
      match parity.1 with
      | some n => heddleFault d j n
      | none =>
          let k := jobSkein d j
          let ps := roundPages j.sel j.ends j.walked
          let stackOf (p : Nat) : Nat := match lineAt d (k.ptAddr j.layer p) with | some x => x.1 | none => 0
          let (lost, d) := readRanges parity.2 (ps.flatMap (walkRanges d k j.layer j.pages)) d
          if lost then failJob d j 0x410 St.stackUncorrectable else
          match ps.find? (fun p => !j.pages.any (fun x => x.page == p && x.tokens != 0)) with
          | some p => heddleFault d j (stackOf p)
          | none =>
            let fs := jobFrames d j ps
            if !framesReady d k j.layer fs then jobWaits d j k fs
            else ctrInc (setJob d { j with walked := j.walked + 1, waiting := false }) (cStack (stackOf (ps.headD 0)) 0x210)) s

/-- Expand the pages of a round in ascending order: their raw bytes, or the failed block's kind and address. -/
def expandPages (k : Skein) : List JobPage → Dev → (List (JobPage × Bytes) ⊕ (Nat × Nat)) × Dev
  | [], d => (.inl [], d)
  | p :: ps, d => match findBody d p.body with
    | none => expandPages k ps d
    | some b =>
      let r := readBody d k.shape b
      match r.1.err with
      | some e => (.inr e, r.2)
      | none => match expandPages k ps r.2 with
        | (.inl l, d) => (.inl ((p, r.1.good) :: l), d)
        | x => x

/-- The round result of one member's rows (R446 to R456). -/
def roundParts (d : Dev) (k : Skein) (x : FarMember) (ps : List (JobPage × Bytes)) : List RowPart :=
  let tab := biasTable d x.msg.biasTable
  (List.range k.shape.qHeads).map (fun h =>
    foldRound k.shape.headDim (ps.map (fun p =>
      pagePart k.shape (queryRow k.shape x.msg h) h tab (qpos x) p.1.page p.1.elig p.2)))

/-- The bound of a row of a member after the latest round (R430, R461). -/
def rowOmitted (k : Skein) (j : FarJob) (x : FarMember) (h : Nat) (r : RowPart) : U32 :=
  omitted (j.sums.getD (x.pos * k.shape.qHeads + h) { r := f32NegInf, s := [] }) (j.round - 1) r.m r.l

/-- Some row of a member that is not non-finite has a bound above its EPSILON (R434). -/
def memberAbove (k : Skein) (j : FarJob) (x : FarMember) : Bool :=
  ((tgetD j.parts x.op []).zipIdx).any (fun r => !r.1.nf && !f32Le (rowOmitted k j x r.2 r.1) x.msg.epsilon)

/-- An adaptive job reached its cap with a row of the member above its EPSILON (R434). -/
def memberCapped (k : Skein) (j : FarJob) (x : FarMember) : Bool :=
  j.kPages == 0 && j.round != 0 && j.ends.length ≤ j.round && memberAbove k j x

/-- Attend the next round of a job: its running partials, or the end of the job on a decode error (R379, R446 to R457). -/
def attendRound (d : Dev) (j : FarJob) (k : Skein) : Bool × Dev :=
  let ps := roundPages j.sel j.ends j.round
  match expandPages k (ps.filterMap (fun p => j.pages.find? (fun x => x.page == p))) d with
  | (.inr (kind, a), d) =>
    let a := a % 2 ^ 48
    let d := ctrInc { d with codecErr := some (a, kind) } cDecodeErr
    (false, j.members.foldl (fun d x => match findOp d x.op with
      | some o => failOp d { o with detail0 := a + kind * 2 ^ 48, detail1 := 0 } 0x501 St.decodeError
      | none => d) d)
  | (.inl raws, d) =>
    let parts := j.members.map (fun x =>
      let new := roundParts d k x raws
      (x.op, if j.round == 0 then new else ((tgetD j.parts x.op []).zip new).map (fun r => mergePart r.1 r.2)))
    let d := if j.round == 0 then d else ctrInc d cRetrRounds
    (true, setJob d { j with
      parts := parts
      round := j.round + 1
      thinned := j.thinned || raws.any (fun p => p.1.thinned) })

/-- A job's stages have reached Attend. -/
def attending (d : Dev) (j : FarJob) : Bool := match leadOp d j with
  | some o => (match o.what with | .farJob _ _ => farStageAt o == some .attend | _ => false)
  | none => false

/-- The round check of an adaptive far job, after its round's attend (R433 to R436, R443); its members at the cap above their EPSILON
count at its end (R434). -/
def execRoundCheck (job : Nat) (s : State) : Host.Outcome State Fault Refusal :=
  onDevC (fun d => match findJob d job with
    | none => d
    | some j =>
      if j.kPages != 0 || j.ended || !j.scanned || j.walked ≤ j.round || d.fab.stopped then d else
      let k := jobSkein d j
      match attendRound d j k with
        | (false, d) => d
        | (true, d) => match findJob d job with
          | none => d
          | some j =>
            if j.ends.length ≤ j.round || !j.members.any (memberAbove k j) then
              ctrAdd (setJob d { j with ended := true }) cRetrCapped (j.members.filter (memberCapped k j)).length
            else d) s

/-! ## Delivery (R461 to R467) -/

/-- Pages that a job attended, ascending. -/
def attendedPages (j : FarJob) : List Nat := ascending (j.sel.take (if j.round == 0 then 0 else j.ends.getD (j.round - 1) 0))

/-- The page of a member's non-finite rows (R462). -/
def nfPageOf (j : FarJob) (rows : List RowPart) : Option Nat :=
  least ((rows.filter (·.nf)).map (fun r => if r.nfPage == mergeMade then (attendedPages j).headD 0 else r.nfPage))

/-- Rows of a member's partial. -/
def memberRows (k : Skein) (j : FarJob) (x : FarMember) : List RowPart :=
  if j.round == 0 then List.replicate k.shape.qHeads (emptyPart k.shape.headDim) else tgetD j.parts x.op []

/-- A member's partial (R461 to R466). -/
def memberBytes (k : Skein) (j : FarJob) (x : FarMember) : Bytes :=
  partBytes (((memberRows k j x).zipIdx).map (fun r =>
    (r.1, if j.round == 0 then (0 : U32) else rowOmitted k j x r.2 r.1,
      partFlags j.thinned (2 ≤ j.batch) r.1.nf (memberCapped k j x) (j.kPages == 0) j.round x.msg.step)))

/-- A member's partial has been delivered: its counts; the operation ends, and with the last one the job, which may be sampled
(R86, R494, R496). -/
def memberDone (d : Dev) (j : FarJob) (x : FarMember) (o : Op) : Dev :=
  let k := jobSkein d j
  let d := if o.cls == .g then ctrInc d cGDelivered else d
  let d := ctrAdd (ctrAdd (ctrInc d cRetrJobs) cRetrPages (attendedPages j).length) cPartRows (memberRows k j x).length
  let d := if 2 ≤ j.batch then ctrInc d cRetrBatched else d
  let d := if j.thinned then ctrInc d cPartThinned else d
  let d := dropMember (dropOp (handOver (jobCount d x.owner 1) o) o.id) j.id o.id
  if (findJob d j.id).isSome then d else
  let used := attendedPages j
  sampleShadow d 1 k.slot j.layer ((j.pages.filter (fun p => used.contains p.page)).map (·.body)) j.runs

/-- A member's partial goes on its way: to this device itself at once, else posted on its connection (R28, R462, R467). -/
def sendMember (d : Dev) (j : FarJob) (x : FarMember) : Dev :=
  match findOp d x.op with
  | none => d
  | some o =>
    let k := jobSkein d j
    let bs := memberBytes k j x
    let d := match nfPageOf j (memberRows k j x) with
      | none => d
      | some p =>
        let d := faultOp d o.ref 0x602 0 x.msg.skein.toNat (p + j.layer * 2 ^ 32)
        ctrInc { d with retr := { d.retr with lastNf := some (p, j.layer, skeinSlot x.msg.skein) } } cPartNonfinite
    if isOurs d x.cfleet then memberDone (emitWA d (.farPartial x.cfleet x.msg.ret bs)) j x o
    else if !connReady d x.conn then stopOp d o 0x701 St.weftConn
    else postEntry d x.conn {
        op := 0x01
        cls := o.cls
        imm := some x.msg.ret
        length := bs.length
        data := .bytes bs
        deadline := o.deadline
        passOn := o.passOn
        rkey := Config.remoteKey x.conn 0
        use := .op o.id }

/-- The partials of a job are complete: they go on their way, and the layer's hint list is set (R424, R467). -/
def sendJob (d : Dev) (j : FarJob) : Dev :=
  let j := { j with posted := true }
  j.members.foldl (fun d x => sendMember d j x) (setHints (setJob d j) j (attendedPages j))

end Sys2Proof.Machine
end

