-- ==== Sys2Proof/Machine/Fabric.lean ====
section
/-! DEFINITION. The fabric (R480 to R511): runs and their commands (R487 to R493), tile faults and run resets (R503 to R506),
stopping and starting (R510), shadow checks (R496 to R502). -/

namespace Sys2Proof.Machine

open Sys2Proof

/-- The runs that the image's tile map places (R481). -/
def buildRuns (d : Dev) : Dev :=
  let tiles := (List.range 640).filter (fun t => img d (0x102000 + 8 * t) 4 4 == 1)
  let key (t : Nat) : Nat × Nat := (img d (0x102000 + 8 * t) 3 0, img d (0x102000 + 8 * t) 14 5)
  let keys := (tiles.map key).eraseDups
  let runs := (keys.zipIdx).map (fun x => ({
    num := x.2
    draft := x.1.1
    run := x.1.2
    tiles := tiles.filter (fun t => key t == x.1) } : Run))
  { d with fab := { d.fab with runs := runs } }

/-- Draft kind that serves a command kind (R480, R487). -/
def cmdDraft (k : Nat) : Nat := [1, 5, 2, 3, 4, 6].getD k 0

/-- Whether a command comes before another (R83, R84, R488). -/
def RunCmd.before (a b : RunCmd) : Bool :=
  match a.cls, b.cls with
  | .g, .b => true
  | .b, .g => false
  | _, _ => placeBefore a.place b.place

/-- Whether an arriving command displaces the current one (R489). -/
def RunCmd.displaces (a b : RunCmd) : Bool :=
  a.cls == .g && (b.cls == .b || (match a.place.due, b.place.due with
    | some x, some y => x < y
    | _, _ => false))

/-- Place of an arriving command: that of its far job's operation; of another command, what it brings (R83, R84, R488). -/
def cmdPlace (d : Dev) (m : RunCmdMsg) (j : Option FarJob) : Place := match j.bind (leadOp d) with
  | some o => opPlace d o
  | none => { due := if m.cls == .b && m.deadline == 0 then none else some m.deadline, arrival := now d }

/-- The first command of a queue in service order, earlier arrivals first. -/
def firstCmd : List RunCmd → Option RunCmd
  | [] => none
  | c :: cs => match firstCmd cs with
    | none => some c
    | some x => some (if x.before c then x else c)

/-- Fabric cycles of a save or a restore (R490, R491). -/
def moveCycles (c : RunCmd) : Nat := 96 + (c.live + 255) / 256

/-- A run starts a command; the job remembers the run. -/
def startCmd (d : Dev) (r : Run) (c : RunCmd) : Dev :=
  let d := setRun d { r with
    cur := some c
    st := if r.st == 3 then 3 else 1
    busySince := now d }
  match c.job.bind (findJob d) with
  | some j => setJob d { j with runs := if j.runs.contains r.num then j.runs else j.runs ++ [r.num] }
  | none => d

/-- What a run does when it has no current command (R488, R491): restore, start the next, rest, or stand fenced. A run that drains takes
nothing from its queue (R507). -/
def nextCmd (d : Dev) (r : Run) : Dev :=
  let r := { r with cur := none }
  match (if r.st == 3 then none else firstCmd r.queue), r.spilled with
  | some c, [] => startCmd d { r with queue := dropFirst (· == c) r.queue } c
  | none, [] => setRun d { r with st := if r.st == 3 || r.tiles.any (fun t => d.fab.fenced.contains t) then 4 else 0 }
  | q, s :: rest =>
    match q with
    | some c =>
      if c.displaces s then startCmd d { r with queue := dropFirst (· == c) r.queue } c
      else startCmd (ctrAdd d (cFabStall + 32) (moveCycles s)) { r with spilled := rest } s
    | none => startCmd (ctrAdd d (cFabStall + 32) (moveCycles s)) { r with spilled := rest } s

/-- The job of a command ends on a tile fault (R504, R505); a shadow check counts as skipped (R500). DESIGN CHOICE (log entry 105): the
commands of the summarize and thin drafts occupy a run, and their pages are summarized or thinned when they are placed or demoted. -/
def cmdFails (d : Dev) (c : RunCmd) (cause : Nat) : Dev :=
  if c.kind == 5 then
    if d.fab.shadows.any (fun x => x.id == c.id) then
      ctrInc { d with fab := { d.fab with shadows := d.fab.shadows.filter (fun x => x.id != c.id) } } cShadowSkipped
    else d
  else match c.job.bind (findJob d) with
    | some j => failJob d j cause St.tileFault
    | none => d

/-- Reset a run: the jobs whose state it held end (R506). -/
def resetRun (d : Dev) (r : Run) (cause : Nat) : Dev :=
  let held := r.cur.toList ++ r.spilled
  let d := held.foldl (fun d c => cmdFails d c cause) d
  setRun d { r with
    cur := none
    spilled := []
    st := 2 }

/-- Count a fault of a tile (R504, R505). -/
def tileFault (d : Dev) (t : Nat) : Dev := ctrInc d (cTileFaults + 8 * t)

/-- A command is queued on a run (R488 to R490). -/
def execRunCommandArrival (run : Nat) (cmd : RunCmdMsg) (s : State) : Host.Outcome State Fault Refusal :=
  onDev (fun d => match findRun d run with
    | none => d
    | some r =>
      let k := img d (0x100100 + 8 * r.draft) 2 0
      if d.fab.stopped || 3 ≤ r.st || !runIn d r || cmdDraft cmd.kind != k || 5 < cmd.kind then d else
      let far := cmd.kind == 2 || cmd.kind == 3 || cmd.kind == 4
      let j := if far then findJob d cmd.id else none
      let c : RunCmd := {
        id := cmd.id
        kind := cmd.kind
        cls := (j.map (·.cls)).getD cmd.cls
        place := cmdPlace d cmd j
        job := j.map (·.id)
        live := min cmd.live 262144 }
      match r.cur with
      | none => if r.st == 0 then startCmd d r c else setRun d { r with queue := r.queue ++ [c] }
      | some x =>
        if c.displaces x && r.spilled.length < 2 then
          startCmd (ctrAdd (ctrInc d cSwitches) (cFabStall + 24) (moveCycles x)) { r with spilled := x :: r.spilled } c
        else setRun d { r with queue := r.queue ++ [c] }) s

/-- The current command of a run ends (R488, R491, R493, R503, R504). -/
def execRunCommandEnd (run corrected : Nat) (bad : Option (Nat × Bool)) (stalls : List Nat) (s : State) :
    Host.Outcome State Fault Refusal :=
  onDevC (fun d => match findRun d run with
    | none => d
    | some r => match r.cur with
      | none => d
      | some _ =>
        let d := ctrAdd d cFabCe corrected
        let d := ctrAdd (ctrAdd (ctrAdd (ctrAdd d cFabStall (stalls.getD 0 0)) (cFabStall + 8) (stalls.getD 1 0))
          (cFabStall + 16) (stalls.getD 2 0)) (cFabStall + 40) (stalls.getD 3 0)
        match bad with
        | some (t, _) =>
          if !r.tiles.contains t then d else detect (resetRun (tileFault d t) r 0x612) 0x08 t 0x612 0 0
        | none => nextCmd d r) s

/-- A run with inputs makes no progress for 20 µs (R505). -/
def execRunStallTimeout (run : Nat) (s : State) : Host.Outcome State Fault Refusal :=
  onDevC (fun d => match findRun d run with
    | none => d
    | some r =>
      if r.cur.isNone || now d < r.busySince + 20000 then d
      else detect (resetRun (r.tiles.foldl tileFault d) r 0x613) 0x08 r.tile 0x613 0 0) s

/-- A run reset ends (R506). -/
def execRunResetDone (run : Nat) (s : State) : Host.Outcome State Fault Refusal :=
  onDev (fun d => match findRun d run with
    | none => d
    | some r => if r.st == 2 && !d.fab.stopped then nextCmd d { r with st := 0 } else d) s

/-! ## Stopping and starting (R507, R508, R510) -/

/-- Custody stops the fabric: queues and commands go, and the class B jobs end with ST_CUSTODY (R510), or at an image switch
with its status (R750). -/
def stopFabric (d : Dev) (status : Nat) : Dev :=
  let runs := d.fab.runs.map (fun r => { r with
    st := 5
    cur := none
    queue := []
    spilled := [] })
  let d := ctrAdd d cShadowSkipped d.fab.shadows.length
  let d := { d with fab := { d.fab with runs := runs, stopped := true, shadows := [] } }
  (d.adm.ops.filter (fun o => o.cls == .b)).foldl (fun d o => match o.what with
    | .farJob _ _ => endOp d o status
    | _ => d) d

/-- Readmission restarts the fabric (R714). -/
def startFabric (d : Dev) : Dev :=
  { d with fab := { d.fab with
      stopped := false
      runs := d.fab.runs.map (fun r => { r with st := if r.tiles.any (fun t => d.fab.fenced.contains t) then 4 else 0 }) } }

/-- Runs of a draft have left service: bookings above the new capacity are reported (R508). -/
def fabLoss (was d : Dev) (dr tile : Nat) : Dev :=
  let a := fabRuns was dr
  let b := fabRuns d dr
  if b < a then reportOver d (lFAB dr) (nextBucket d) 0x08 tile 0x614 false else d

/-- The lowest-numbered first tile of the runs of a draft that one device has in service and the other has not. -/
def leftTile (was d : Dev) (dr : Nat) : Nat :=
  match was.fab.runs.find? (fun r => r.draft == dr && runIn was r && !runIn d r) with
  | some r => r.tile
  | none => 0

/-- Report the losses of every draft after an event. -/
def fabLosses (was d : Dev) : Dev :=
  (List.range 16).foldl (fun x dr => fabLoss was x dr (leftTile was d dr)) d

/-- Fence tiles: their runs take no further command; queued commands move to another run of the draft (R507), and wait where none is in
service (DESIGN CHOICE, log entry 104). -/
def fenceTiles (d : Dev) (ts : List Nat) : Dev :=
  let was := d
  let d := { d with fab := { d.fab with fenced := (d.fab.fenced ++ ts).eraseDups } }
  let hit := d.fab.runs.filter (fun r => r.tiles.any (fun t => ts.contains t))
  let d := hit.foldl (fun d r =>
    let st := if r.st == 0 then 4 else if r.st == 1 then 3 else r.st
    match d.fab.runs.find? (fun x => x.draft == r.draft && runIn d x) with
    | some x =>
      let d := setRun d { r with st := st, queue := [] }
      let x := { x with queue := x.queue ++ r.queue }
      if x.st == 0 && !r.queue.isEmpty then nextCmd d x else setRun d x
    | none => setRun d { r with st := st }) d
  fabLosses was d

/-- Unfence tiles (R507): their runs serve again, and take what found no other run to move to. -/
def unfenceTiles (d : Dev) (ts : List Nat) : Dev :=
  let d := { d with fab := { d.fab with fenced := d.fab.fenced.filter (fun t => !ts.contains t) } }
  (d.fab.runs.filter (fun r =>
    r.tiles.any (fun t => ts.contains t) && !r.tiles.any (fun t => d.fab.fenced.contains t))).foldl (fun d r =>
      if r.st == 4 then nextCmd d { r with st := 0 } else if r.st == 3 then setRun d { r with st := 1 } else d) d

/-- Assigned tiles fail their self-test: their runs leave service until reset (R509). -/
def tilesFail (d : Dev) (ts : List Nat) : Dev :=
  let bad := ts.filter (fun t => !d.fab.badTiles.contains t && d.fab.runs.any (fun r => r.tiles.contains t))
  let was := d
  let d := { d with fab := { d.fab with badTiles := d.fab.badTiles ++ bad.eraseDups } }
  fabLosses was (bad.eraseDups.foldl (fun d t => detect d 0x08 t 0x615 0 0) d)

/-! ## Shadow checks (R500 to R502) -/

/-- A temperature as 11 bits of 0.25 °C. -/
def temp11 (x : Int) : Nat := (x % 2048).toNat

/-- A shadow re-execution ends. -/
def execShadowCheckDone (id : Nat) (outputEq failed : Bool) (badBound : Option Nat) (load0 load1 : Nat) (s : State) :
    Host.Outcome State Fault Refusal :=
  onDevC (fun d => match d.fab.shadows.find? (fun x => x.id == id) with
    | none => d
    | some x =>
      let d := { d with fab := { d.fab with shadows := d.fab.shadows.filter (fun y => y.id != id) } }
      if failed then ctrInc d cShadowSkipped
      else if outputEq && badBound.isNone then ctrInc d cShadowPassed
      else
        let ts (n : Nat) : List Nat := match findRun d n with | some r => r.tiles | none => []
        let o := (ts x.run).headD 0
        let h := (ts x.shadowRun).headD 0
        let d := (ts x.run ++ ts x.shadowRun).foldl (fun d t => ctrInc d (cTileMismatch + 8 * t)) (ctrInc d cShadowMismatch)
        let only := outputEq
        let d := { d with fab := { d.fab with lastMismatch := some (o, h, x.draft, only) } }
        let d0 (kind : Nat) : Nat := x.draft + 2 ^ 4 * kind + 2 ^ 8 * o + 2 ^ 18 * h + 2 ^ 32 * gOutstanding d
        if only then
          let p := badBound.getD 0
          let st := match skeinAt d x.slot with
            | none => 0
            | some k => ((least ((framesOf (k.sumAddr x.layer p) (sumBytes k.shape)).filterMap (fun f =>
                (tget d.sas.frames f).bind (·.stack)))).getD 0)
          detect d 0x06 st 0x611 (d0 1) (p + 2 ^ 32 * x.layer)
        else
          let t (l : List Int) (i : Nat) : Nat := temp11 (l.getD i 0)
          detect d 0x08 o 0x610 (d0 x.kind)
            (t x.temps 0 + 2 ^ 11 * t x.temps 1 + 2 ^ 22 * t d.mon.dieTemp 0 + 2 ^ 33 * t d.mon.dieTemp 1 +
              2 ^ 44 * (load0 % 256) + 2 ^ 52 * (load1 % 256))) s

end Sys2Proof.Machine
end

