-- ==== Sys2Proof/Machine/Intake.lean ====
section
/-! DEFINITION. The intake window and its engine (R127 to R136, R794), lane setup, and rings: setup, teardown, head reads
and stalls (R160 to R172). -/

namespace Sys2Proof.Machine

open Sys2Proof

/-- A lane's state. -/
def laneAt (d : Dev) (l : Nat) : Lane := tgetD d.intake.lanes l {}
/-- Store a lane's state. -/
def setLane (d : Dev) (l : Nat) (x : Lane) : Dev := { d with intake := { d.intake with lanes := tset d.intake.lanes l x } }

/-- The engine scans a lane (R624, R741). -/
def laneScanned (d : Dev) (l : Nat) : Bool :=
  let o := laneOwner d l
  laneEnabled d l && isReady d rbIntake &&
  (if o == 64 then isReady d rbTransport else o < d.host.vfs && tdispNormal d o)

/-- Write bytes of the intake window; those of a lane that the image does not enable are ignored (R129). The written bits of the slots whose SEQ word it touches are set (R794). -/
def windowWrite (d : Dev) (off : Nat) (bs : Bytes) (remote : Bool) : Dev :=
  let on := (List.range bs.length).filter (fun i => laneEnabled d ((off + i) / 65536))
  let slots := ((on.filter (fun i => 0x7C ≤ (off + i) % 128)).map (fun i => (off + i) / 128)).eraseDups
  let keep := d.intake.written.filter (fun x => !slots.contains x)
  let rem := d.intake.remoteSlots.filter (fun x => !slots.contains x)
  { d with intake := { d.intake with
      window := on.foldl (fun m i => memWrite 0 m (off + i) (bs.getD i 0)) d.intake.window
      written := keep ++ slots
      remoteSlots := if remote then rem ++ slots else rem } }

/-- Read bytes of the intake window: a lane that the image does not enable reads as zero (R129). -/
def windowRead (d : Dev) (off n : Nat) : Bytes :=
  (List.range n).map (fun i => if laneEnabled d ((off + i) / 65536) then memRead 0 d.intake.window (off + i) else 0)

/-- A host write into BAR2 (R129, R623): only the bytes of lanes of the function's owner that the image enables. -/
def execIntakeWindowWrite (fn offset : Nat) (bytes : Bytes) (s : State) : Host.Outcome State Fault Refusal :=
  onDev (fun d =>
    if !(fnMem d fn) then d else
    (bytes.zipIdx).foldl (fun d p =>
      let l := (offset + p.2) / 65536
      if l < 128 && laneEnabled d l && laneOwner d l == fn then windowWrite d (offset + p.2) [p.1] false else d) d) s
where
  /-- The function takes memory requests. -/
  fnMem (d : Dev) (fn : Nat) : Bool := d.host.l0 && d.host.memSpace.contains fn

/-- Write a lane's taken count to its mirror word, unless the word has it (R136, R137). -/
def writeMirror (d : Dev) (l : Nat) : Dev :=
  let x := laneAt d l
  if x.mirrorMode == 0 || x.mirrorSent == some x.expected then d else
  let bs := le x.expected.toNat 8
  let d := setLane d l { x with sinceMirror := 0, mirrorSent := some x.expected }
  if x.mirrorMode == 1 then hostWrite d (laneOwner d l) x.mirrorAddr bs
  else postEntry d x.mirrorConn {
    op := 0x01
    length := 8
    data := .bytes bs
    raddr := x.mirrorAddr
    vc1 := true
    rkey := Config.remoteKey x.mirrorConn x.mirrorAddr }

/-- A completion or token ring is full and so is its pending queue (R165). -/
def ringBlocked (d : Dev) (n : Nat) : Bool := match findRing d n with
  | some r => (r.kind == 1 || r.kind == 2) && r.room == 0 && 64 ≤ r.queue.length
  | none => false

/-- A record whose kind posts a send queue entry (R529). -/
def postsEntry (t : Taken) : Bool :=
  t.kind == 0x10 || t.kind == 0x11 || t.kind == 0x14 || t.kind == 0x21 || (t.kind == 0x20 && t.f 0x21 3 2 == 2)

/-- Why a visible record is not taken now (R165, R529, R574): the counter of its wait. -/
def heldBack (d : Dev) (t : Taken) : Option Nat :=
  let o := laneOwner d t.lane
  let token := t.kind == 0x13 && (match findGen d t.request with
    | some r => r.core.owner == o && ringBlocked d r.core.tokenRing
    | none => false)
  if (cplRingOk d o t.cplRing && ringBlocked d t.cplRing) || token then some cRingStall
  else if postsEntry t && 65536 ≤ sqInUse d then some cSqStall
  else if t.kind == 0x30 && 65 ≤ (d.checks.getD (t.f 0x20 3 0) {}).queue.length then some cCheckStall
  else none

/-- The lane that the engine visits next: the enabled lanes in ascending order, round after round (R134). -/
def nextLane (d : Dev) : Option Nat :=
  match (List.range 128).find? (fun l => d.intake.scan ≤ l && laneEnabled d l) with
  | some l => some l
  | none => (List.range 128).find? (laneEnabled d)

/-- The engine visits the next lane of its round (R133 to R136). A record of an undefined KIND is refused as it is taken
(R138). -/
def execIntakeLaneVisit (lane : Nat) (s : State) : Host.Outcome State Fault Refusal :=
  onDev (fun d =>
    if nextLane d != some lane then d else
    let d := { d with intake := { d.intake with scan := lane + 1 } }
    let x := laneAt d lane
    if !laneScanned d lane || x.stalled then d else
    let slot := x.expected.toNat % 512
    let at_ := lane * 65536 + slot * 128
    let idx := 512 * lane + slot
    if !d.intake.written.contains idx then writeMirror d lane else
    let bs := memReadN 0 d.intake.window at_ 128
    let diff := serialDiff (u32 (fld bs 0x7C 31 0)) x.expected
    if diff < 0 then writeMirror d lane
    else if 0 < diff then detectFor (setLane d lane { x with stalled := true }) (laneOwner d lane) 0x03 lane 0x101 0 0
    else
      let t : Taken := {
        lane := lane
        seq := x.expected
        arrival := now d
        bytes := bs
        remote := d.intake.remoteSlots.contains idx }
      match heldBack d t with
      | some c => ctrInc d c
      | none =>
        let x := { x with expected := x.expected + 1, sinceMirror := x.sinceMirror + 1 }
        let d := setLane d lane x
        let d := { d with intake := { d.intake with
          written := d.intake.written.filter (· != idx)
          remoteSlots := d.intake.remoteSlots.filter (· != idx)
          taken := d.intake.taken ++ [t] } }
        let d := ctrInc d cReqTaken
        let d := if x.mirrorEvery ≤ x.sinceMirror then writeMirror d lane else d
        if kindDefined t.kind then d else refuseTaken d t St.kindInvalid) s

/-- REQ_LANE_RESYNC (R135, R625): every accepted write starts it, whatever bit 0 it writes (R14). -/
def execReqLaneResync (fn : Nat) (value : U64) (s : State) : Host.Outcome State Fault Refusal :=
  onDev (fun d =>
    let l := bits value.toNat 7 1
    if fn != 64 && laneOwner d l != fn then ctrInc d cAccessRefused
    else if !laneEnabled d l then d
    else setLane d l { laneAt d l with expected := u32 (bits value.toNat 63 32), stalled := false }) s

/-- LANE_SETUP (R136, R137). -/
def execLaneSetup (lane : Nat) (seq : U32) (s : State) : Host.Outcome State Fault Refusal :=
  onTaken lane seq (fun t => t.kind == 0x01) (fun d t =>
    let o := laneOwner d lane
    let mode := t.f 0x20 1 0
    let conn := t.f 0x30 19 0
    match recCheck d t true (mode == 2 && connForeign d o conn) none true true false with
    | some st => refuseTaken d t st
    | none =>
      if mode == 2 && (findConn d conn).isNone then refuseTaken d t St.weftConn else
      let x := laneAt d lane
      let d := setLane (dropTaken d t) lane { x with
        mirrorMode := mode
        mirrorEvery := t.f 0x22 8 0
        mirrorAddr := t.f 0x28 63 0
        mirrorConn := conn
        sinceMirror := 0
        mirrorSent := none }
      finishOp d (t.ref d) St.ok 0 0) s

/-- Write the records that the bring-up log holds, once the physical function has a fault ring (R738). -/
def flushLog (d : Dev) (n : Nat) : Dev :=
  let held := d.flt.log
  brokenTold (held.foldl (fun d f => (ringPutRaw d n (faultBytes f) false).2) { d with flt := { d.flt with log := [] } })

/-- A RING_SETUP that defines a ring (R137, R160, R170). -/
def execRingSetup (lane : Nat) (seq : U32) (s : State) : Host.Outcome State Fault Refusal :=
  onTaken lane seq (fun t => t.kind == 0x02 && t.f 0x20 13 12 != 0) (fun d t =>
    let o := laneOwner d lane
    let n := t.f 0x20 11 0
    let remote := t.f 0x20 14 14 == 1
    let conn := t.f 0x38 19 0
    match recCheck d t true (ringForeign d o n || (remote && connForeign d o conn)) none true true false with
    | some st => refuseTaken d t st
    | none =>
      if (findRing d n).isSome then refuseTaken d t St.ringBusy
      else if remote && (findConn d conn).isNone then refuseTaken d t St.weftConn
      else
        let r : Ring := {
          num := n
          kind := t.f 0x20 13 12
          owner := o
          remote := remote
          log2 := t.f 0x24 4 0
          base := t.f 0x28 63 0
          headAddr := t.f 0x30 63 0
          conn := conn }
        let d := { dropTaken d t with rings := d.rings ++ [r] }
        let d := mirrorPush d [{ kind := 5, owner := o, addr := n + o * 2 ^ 12, data := r.body }]
        let d := if r.kind == 3 && o == 64 && d.flt.log.length != 0 then flushLog d n else d
        finishOp d (t.ref d) St.ok 0 0) s

/-- Whether a ring serves a live request or has a pending record (R170). -/
def ringInUse (d : Dev) (r : Ring) : Bool :=
  !r.queue.isEmpty || d.reqs.live.any (fun q => q.core.cplRing == r.num || q.core.tokenRing == r.num)

/-- Take a ring away (R170, R634). -/
def dropRing (d : Dev) (n : Nat) : Dev :=
  let o := match findRing d n with | some r => r.owner | none => 64
  let d := { d with rings := d.rings.filter (fun r => r.num != n) }
  mirrorPush d [{ kind := 5, owner := o, addr := n + o * 2 ^ 12, data := zeroBytes 40 }]

/-- A RING_SETUP that tears a ring down (R170). -/
def execRingTeardown (lane : Nat) (seq : U32) (s : State) : Host.Outcome State Fault Refusal :=
  onTaken lane seq (fun t => t.kind == 0x02 && t.f 0x20 13 12 == 0) (fun d t =>
    let n := t.f 0x20 11 0
    match recCheck d t true (ringForeign d (laneOwner d lane) n) none true true false with
    | some st => refuseTaken d t st
    | none => match findRing d n with
      | none => refuseTaken d t St.ringInvalid
      | some r =>
        if ringInUse d r then refuseTaken d t St.ringBusy
        else finishOp (dropRing (dropTaken d t) n) (t.ref d) St.ok 0 0) s

/-- Mark a ring BROKEN, discard what it holds and report it (R169, R630). -/
def breakRing (d : Dev) (r : Ring) : Dev := brokenTold (ringBreak d r)

/-- A head read ends (R164, R165, R169): the count, or none when it failed. -/
def headReadDone (d : Dev) (n : Nat) (result : Option Nat) : Dev :=
  match findRing d n with
  | none => d
  | some r =>
    if !r.reading then d else
    let d := { d with host := { d.host with reads := dropFirst (fun x => x.use == .ringHead n) d.host.reads } }
    match result with
    | none => ringsMoved (breakRing d r)
    | some v =>
      let back := (2 ^ 32 + r.produced % 2 ^ 32 - v % 2 ^ 32) % 2 ^ 32
      let r := { r with reading := false, consumed := if back ≤ r.slots then r.produced - back else r.consumed }
      if 0 < r.room then
        ringsMoved (brokenTold (ringDrain n (r.queue.length + 1) (setRing d { r with fullSince := none, stallTold := false })))
      else ringsMoved (brokenTold (startHeadRead (setRing d r) n))

/-- RING_HEAD_READ_DONE. -/
def execRingHeadReadDone (ring : Nat) (result : Option Nat) (s : State) : Host.Outcome State Fault Refusal :=
  onDev (fun d => headReadDone d ring result) s

/-- A ring has been full for the ring-stall time (R166). -/
def execRingStallTimeout (ring : Nat) (s : State) : Host.Outcome State Fault Refusal :=
  onDev (fun d => match findRing d ring with
    | some r => match r.fullSince with
      | some t =>
        if r.stallTold || now d < t + ringStallNs d then d
        else detect (setRing d { r with stallTold := true }) 0x04 r.subject 0x102 0 0
      | none => d
    | none => d) s

end Sys2Proof.Machine
end

