-- ==== Sys2Proof/Machine/Transfer.lean ====
section
/-! DEFINITION. TRANSFER (R227, R279 to R286): its checks, its stages (R108), the data it delivers (R243, R285, R379, R380,
R395), and LOCATE. -/

namespace Sys2Proof.Machine

open Sys2Proof

/-- OP of a TRANSFER (R279). -/
def Taken.xop (t : Taken) : Nat := t.f 0x20 3 0
/-- The named pages of a layer, ascending. -/
def xRefs (k : Skein) (r : Bytes) (l : Nat) : List PageRef := k.refsIn l (xPage0 r) (xPage0 r + xPages r)

/-- Every named page, in layer-major order. -/
def xAllRefs (k : Skein) (r : Bytes) : List PageRef := (xLayers r).flatMap (xRefs k r)

/-- A skein as a transfer holds it: its header and the named pages. -/
def xView (k : Skein) (r : Bytes) : Skein := { k with pages := xAllRefs k r, layers := [] }

/-! ## What a copy delivers -/

/-- Bytes of good data, thinned pages delivered, and the failed block: its kind and SAS address. -/
structure CopyOut where
  bytes : Bytes
  thinned : Nat := 0
  err : Option (Nat × Nat) := none
deriving DecidableEq, Repr

/-- The stored blocks of some pages, thinned ones restored and compressed again (R395), up to a failure (R383). -/
def storedBlocks (k : Skein) : List PageRef → Dev → (List StoredBlock × Nat × Option (Nat × Nat)) × Dev
  | [], d => (([], 0, none), d)
  | r :: rs, d => match travelPart d k r with
    | (.inr (kind, i, a), d) =>
      (((((findBody d r.body).map (·.blocks)).getD []).take i, 0, some (kind, a)), d)
    | (.inl p, d) =>
      let x := storedBlocks k rs d
      ((p.blocks ++ x.1.1, x.1.2.1 + bit1 r.thinned, x.1.2.2), x.2)

/-- COPY_PAGES in stored form, layer by layer. -/
def copyStored (k : Skein) (r : Bytes) : List Nat → Dev → CopyOut × Dev
  | [], d => ({ bytes := [] }, d)
  | l :: ls, d =>
    let x := storedBlocks k (xRefs k r l) d
    let bs := packedGroups (shapeBpp k.shape) x.1.1
    match x.1.2.2 with
    | some e => ({ bytes := bs, thinned := x.1.2.1, err := some e }, x.2)
    | none =>
      let y := copyStored k r ls x.2
      ({ y.1 with bytes := bs ++ y.1.bytes, thinned := x.1.2.1 + y.1.thinned }, y.2)

/-- COPY_PAGES expanded, page by page. -/
def copyExpanded (k : Skein) : List PageRef → Dev → CopyOut × Dev
  | [], d => ({ bytes := [] }, d)
  | r :: rs, d => match findBody d r.body with
    | none => copyExpanded k rs d
    | some b =>
      let x := readBody d k.shape b
      match x.1.err with
      | some e => ({ bytes := x.1.good, err := some e }, x.2)
      | none =>
        let y := copyExpanded k rs x.2
        ({ y.1 with bytes := x.1.good ++ y.1.bytes, thinned := bit1 b.thinned + y.1.thinned }, y.2)

/-- The data of COPY_PAGES. -/
def copyPagesOut (d : Dev) (k : Skein) (r : Bytes) : CopyOut × Dev :=
  if xExpand r == 1 then copyExpanded k (xAllRefs k r) d else copyStored k r (xLayers r) d

/-- Stored bytes that a copy reads, with their index groups (R108). -/
def copyStoredSize (d : Dev) (k : Skein) (r : Bytes) : Nat :=
  ((xLayers r).map (fun l =>
    let bs := (xRefs k r l).flatMap (fun p => match findBody d p.body with | some b => b.blocks | none => [])
    72 * ((bs.length + 63) / 64) + (bs.map (fun b => b.data.length)).sum)).sum

/-- Frames of the named pages. -/
def copyFrames (d : Dev) (k : Skein) (r : Bytes) : List Nat :=
  refFrames d (xAllRefs k r)

/-- Frames that PROMOTE raises: the named pages' and their layers' metadata (R280). -/
def promoteFrames (d : Dev) (k : Skein) (r : Bytes) : List Nat :=
  ((xLayers r).flatMap (fun l => layerMeta d k l true) ++ copyFrames d k r).eraseDups

/-! ## Stages (R108) -/

/-- The Out stage of a destination. -/
def outStage (d : Dev) (dst port a n : Nat) : Stage :=
  if dst == 2 then { ledger := lPRT port, work := prtNs d port (wireBytes n), pre := xIoPort }
  else if dst == 1 then { ledger := lPCI, work := pciNs d (pciBytes d a n), pre := xPcie }
  else { ledger := lSTK, work := stkNs d n, pre := xIoStk }

/-- The stages of a transfer of S stored bytes that moves `n` bytes out; `up`: the source needs a Promote stage. DESIGN CHOICE (log entry
84): a device keeps its Mirror stages after a takeover. -/
def xferStages (d : Dev) (stored n : Nat) (expanded up remote : Bool) (dst port a : Nat) : List Stage :=
  let arr := if remote then xPortIo else 0
  let prom : Stage := {
    ledger := lBOB
    work := bobNs d ((stored + 16383) / 16384)
    pre := tAdm + arr + xIoFlash }
  let read : Stage := {
    ledger := lSTK
    work := stkNs d stored
    pre := (if up then xFlashIo else tAdm + arr) + xIoStk + tStk0 }
  let move : Stage := {
    ledger := lSHT
    work := if expanded then shtExpandNs d n else shtBypassNs d n
    pre := xStkIo }
  let mir : Stage := {
    ledger := lPRT 7
    work := prtNs d 7 (wireBytes n)
    pre := xIoPort
    mirror := true }
  (if up then [prom] else []) ++ [read, move, outStage d dst port a n] ++
  (if paired d && (dst == 0 || dst == 3) then [mir] else [])

/-- Readiness bits of a transfer's stages (R99): the stacks of the frames it reads, the flash, what carries it out, the selvedge link. -/
def xferReady (d : Dev) (up : Bool) (dst port : Nat) (fs : List Nat) : List Nat :=
  stackBits d fs ++ (if up then [rbBobbin] else []) ++
  (if dst == 2 then [rbTransport, rbPort port] else if dst == 1 then [rbPcie]
    else if paired d && (dst == 0 || dst == 3) then [rbPort 7] else [])

/-- Egress port of a write on a connection. -/
def xPort (d : Dev) (c : Nat) : Nat := match findConn d c with
  | some k => k.port (k.pathOf k.sendMsn.toNat 0)
  | none => 0

/-! ## Acceptance -/

/-- Checks of a destination: a connection that is not there, or a range outside the staging partition (R227, R524). -/
def dstCheck (d : Dev) (o : Nat) (r : Bytes) (n : Nat) : Option Nat :=
  if xDst r == 2 && !connReady d (xConn r) then some St.weftConn
  else if xDst r == 0 && !inStage d o (xAddr r) n then some St.range
  else none

/-- A class G operation that needs a Mirror stage while no mirror holds (R123, R703). -/
def mirrorCheck (d : Dev) (t : Taken) (dst : Nat) : Option Nat :=
  if t.classG && paired d && (dst == 0 || dst == 3) then
    match d.pair.state with
    | .forming => some St.pairForming
    | .lost => some St.partnerLost
    | _ => none
  else none

/-- The meaning of a TRANSFER that needs admission: it is decided in its turn (R97). -/
def onXfer (l : Nat) (q : U32) (form : Taken → Bool) (f : Dev → Taken → Dev) (s : State) : Host.Outcome State Fault Refusal :=
  onTaken l q form (fun d t => if takenTurn d t then f d t else d) s

/-- Admit or accept a transfer; its first Promote is checked against the targets' queues (R353, R795). An accepted one `touch`es its
source (R62). -/
def startXfer (d : Dev) (t : Taken) (stages : List Stage) (ready : List Nat) (data : HostData)
    (src : Option Skein) (low : List Nat) (count port : Nat) (touch : Dev → Dev) : Dev :=
  let ref := t.ref d
  let op : Op := {
    id := 0
    ref := ref
    cls := t.cls
    budget := t.budget
    deadline := none
    stages := stages
    port := port
    pins := match src with | some k => k.pages.map (·.body) | none => []
    count := count
    what := .transfer t.bytes data src }
  let d := dropTaken d t
  let post := if stages.any (·.mirror) then tMir d else 0
  match (match t.cls with | .g => admitG d op ready post | .b => acceptB d op ready) with
  | (.refused st b, d) => admissionReply d ref st b
  | (.ok id, d2) =>
    let d2 := touch d2
    let dl := match findOp d2 id with
      | some o => ((o.stages.find? (fun s => s.ledger == lBOB)).map Stage.deadline).getD 0
      | none => 0
    if t.classG && !low.isEmpty && !skewOk d2 low dl then admissionReply (ctrInc d cGRefused) ref St.bobbinSkew 0
    else
      let r := promoteAll low (some id) none t.cls dl d2
      match r.1 with
      | none => r.2
      | some c => match findOp r.2 id with
        | some o => failOp r.2 o c deadStatus
        | none => r.2

/-- Rights over a skein that a TRANSFER names (R282). -/
def xForeign (d : Dev) (t : Taken) (k : Option Skein) : Bool :=
  let o := laneOwner d t.lane
  o != 64 && ((match k with | some k => k.tenant != o | none => false) ||
    (xDst t.bytes == 2 && (match findConn d (xConn t.bytes) with | some c => c.owner != o | none => false)))

/-- A skein and its named layers and pages (R283). -/
def xRange (k : Skein) (r : Bytes) : Bool :=
  (xLayers r).all (fun l => l < k.shape.layers && xPage0 r + xPages r ≤ k.pagesIn l)

/-- Times of access of a source skein and its layers (R62, R237). -/
def touchSource (d : Dev) (k : Skein) (ls : List Nat) : Dev :=
  let k := ls.foldl (fun (k : Skein) l => k.setLayer l { k.layer l with lastAccess := now d }) k
  setSkein d { k with lastAccess := now d }

/-- COPY_RANGE, and a TRANSFER whose OP is not defined (R279, R280). -/
def execCopyRange (lane : Nat) (seq : U32) (data : HostData) (s : State) : Host.Outcome State Fault Refusal :=
  onXfer lane seq (fun t => t.kind == 0x20 && (t.xop == 0 || 4 < t.xop)) (fun d t =>
    let r := t.bytes
    let o := laneOwner d lane
    match recCheck d t true (xForeign d t none) none false (xSrcHost r) false with
    | some st => refuseTaken d t st
    | none =>
      let n := xLen r
      if !xSrcHost r && !inStage d o (xSrc r) n then refuseTaken d t St.range
      else match dstCheck d o r n with
        | some st => refuseTaken d t st
        | none => match mirrorCheck d t (xDst r) with
          | some st => refuseTaken d t st
          | none =>
            if xDst r == 0 && sasRefusing d then refuseTaken (placeRefused d).2 t St.sasFull else
            let port := xPort d (xConn r)
            let ready := xferReady d false (xDst r) port (if xSrcHost r then [] else framesOf (xSrc r) n) ++
              (if xSrcHost r then [rbPcie] else [])
            startXfer d t (xferStages d n n false false t.remote (xDst r) port (xAddr r)) ready data none [] 0 port id) s

/-- The destination skein of COPY_PAGES (R281). -/
def dstSkein (d : Dev) (k : Skein) (r : Bytes) : Option Nat :=
  if xDst r != 3 then none else
  match findSkein d (u64 (xAddr r)) with
  | none => some St.skeinStale
  | some x =>
    if x.shape != k.shape || x.tenant != k.tenant || !(x.state == .receiving || x.state == .bound) then some St.skeinState
    else none

/-- COPY_PAGES (R280 to R284, R396). -/
def execCopyPages (lane : Nat) (seq : U32) (s : State) : Host.Outcome State Fault Refusal :=
  onXfer lane seq (fun t => t.kind == 0x20 && t.xop == 1) (fun d t =>
    let r := t.bytes
    let k := findSkein d (xSkein r)
    match recCheck d t (hasCache d) (xForeign d t k) none false false false with
    | some st => refuseTaken d t st
    | none => match k with
      | none => refuseTaken d t St.skeinStale
      | some k =>
        if k.state == .aborted then refuseTaken d t St.skeinState
        else match dstSkein d k r with
          | some st => refuseTaken d t st
          | none =>
            let stored := copyStoredSize d k r
            let n := if xExpand r == 1 then (xAllRefs k r).length * pageBytes k.shape
              else if xDst r == 0 then
                let c := (copyPagesOut d k r).1
                c.bytes.length + (if c.err.isSome then 4096 else 0)
              else stored
            if !xRange k r then refuseTaken d t St.range
            else match dstCheck d (laneOwner d lane) r n with
              | some st => refuseTaken d t st
              | none =>
                if t.classG && xExpand r != 1 && (xLayers r).any (fun l => 0 < k.thinnedIn l) then
                  refuseTaken d t St.notGuaranteeable
                else match mirrorCheck d t (xDst r) with
                  | some st => refuseTaken d t st
                  | none =>
                    if (xDst r == 0 || xDst r == 3) && sasRefusing d then refuseTaken (placeRefused d).2 t St.sasFull else
                    let low := lowFrames d (copyFrames d k r)
                    let port := xPort d (xConn r)
                    startXfer d t (xferStages d stored n (xExpand r == 1) (!low.isEmpty) t.remote (xDst r) port (xAddr r))
                      (xferReady d (!low.isEmpty) (xDst r) port (copyFrames d k r)) none (some (xView k r)) low 0 port
                      (fun d => touchSource d k (xLayers r))) s

/-- PROMOTE (R280, R284). -/
def execPromote (lane : Nat) (seq : U32) (s : State) : Host.Outcome State Fault Refusal :=
  onXfer lane seq (fun t => t.kind == 0x20 && t.xop == 2) (fun d t =>
    let r := t.bytes
    let k := findSkein d (xSkein r)
    match recCheck d t (hasCache d) (xForeign d t k) none false false false with
    | some st => refuseTaken d t st
    | none => match k with
      | none => refuseTaken d t St.skeinStale
      | some k =>
        if k.state == .aborted then refuseTaken d t St.skeinState
        else if !xRange k r then refuseTaken d t St.range
        else match mirrorCheck d t 3 with
          | some st => refuseTaken d t st
          | none =>
            let fs := promoteFrames d k r
            let low := lowFrames d fs
            let n := 4096 * low.length
            startXfer d t (xferStages d n n false (!low.isEmpty) t.remote 3 0 0) (xferReady d (!low.isEmpty) 3 0 fs) none
              (some (xView k r)) low low.length 0 (fun d => touchSource d k (xLayers r))) s

/-- Post the bytes of a transfer on a connection (R469, R526); `src`: where in this SAS they lie (R530). -/
def xferPost (d : Dev) (c a : Nat) (bs : Bytes) (cls : Cls) (deadline src : Option Nat) (use : SqFor) : Dev :=
  postEntry d c {
    op := 0x01
    cls := cls
    length := bs.length
    data := .bytes bs
    raddr := a
    rkey := Config.remoteKey c a
    deadline := deadline
    passOn := deadline
    src := src
    use := use }

/-- HEADER: the 256 bytes of the skein header (R280). Its completion on a connection follows its write. -/
def execHeader (lane : Nat) (seq : U32) (s : State) : Host.Outcome State Fault Refusal :=
  onTaken lane seq (fun t => t.kind == 0x20 && t.xop == 3) (fun d t =>
    let r := t.bytes
    let k := findSkein d (xSkein r)
    match recCheck d t (hasCache d) (xForeign d t k) none false true false with
    | some st => refuseTaken d t st
    | none => match k with
      | none => refuseTaken d t St.skeinStale
      | some k =>
        if k.state == .aborted then refuseTaken d t St.skeinState
        else match dstCheck d (laneOwner d lane) r 256 with
          | some st => refuseTaken d t st
          | none =>
            let ready := xferReady d false (xDst r) (xPort d (xConn r)) []
            if !xRange k r then refuseTaken d t St.range
            else if !ready.all (isReady d) then refuseTaken d t St.notReady
            else if t.late d then expire (dropTaken d t) (t.ref d) else
            let ref := t.ref d
            let d := touchSource (dropTaken d t) k []
            let d := ctrInc d cBAccepted
            if xDst r == 2 then xferPost d (xConn r) (xAddr r) k.header .b t.deadline none (.header ref)
            else if xDst r == 1 then
              finishOp (hostWriteAttr d ref.owner (xAddr r) k.header false (d.host.relaxed.contains ref.owner)) ref St.ok 0 0
            else match (if sasRefusing d then none else workWrite d ref.owner (xAddr r) k.header) with
              | some d => finishOp d ref St.ok 0 0
              | none => finishOp (ctrInc d cPlaceRefused) ref St.sasFull 0 0) s

/-- LOCATE (R285, R286). -/
def execLocate (lane : Nat) (seq : U32) (s : State) : Host.Outcome State Fault Refusal :=
  onTaken lane seq (fun t => t.kind == 0x20 && t.xop == 4) (fun d t =>
    let f := lookupReq d t.request
    match recCheck d t (hasPrompt d || hasGeneration d) (reqForeign d t f) none false true false with
    | some st => refuseTaken d t st
    | none =>
      let ok (base slots : Nat) : Dev := finishOp (dropTaken d t) (t.ref d) St.ok base slots
      match f, t.f 0x21 5 4 with
      | .prompt r, 0 => if r.state == .prefill then ok (landingBase r.slot) (Req.landPages d r) else refuseTaken d t St.skeinState
      | .prompt r, 1 =>
        if r.state == .prefill then ok (r.viewBase.getD 0) r.prefixPages else refuseTaken d t St.skeinState
      | .gen r, 2 =>
        if r.state == .waiting || r.state == .decoding then ok (r.windowBase.getD 0) r.wslots else refuseTaken d t St.skeinState
      | .gen _, _ => refuseTaken d t St.skeinState
      | .prompt _, _ => refuseTaken d t St.skeinState
      | .stale, _ => refuseTaken d t St.reqStale
      | .partner, _ => refuseTaken d t St.partnerLost
      | _, _ => refuseTaken d t St.skeinState) s

/-! ## Delivery -/

/-- Write to this device's staging (R379): good bytes, and the failed block's lines as poison. -/
def deliverSas (d : Dev) (o a : Nat) (c : CopyOut) : Option Dev :=
  match workWrite d o a c.bytes with
  | none => none
  | some d => match c.err with
    | none => some d
    | some _ => (workWrite d o (a + c.bytes.length) (List.replicate 4096 0xFF)).map (fun d =>
        (List.range 64).foldl (fun d i => setPoison d (a + c.bytes.length + 64 * i) true) d)

/-- Place the copied pages in their destination skein (R245, R281). -/
def placeCopies (d : Dev) (k : Skein) (dst : U64) : List PageRef → Nat → Nat × Nat × Option (Nat × Nat) × Dev
  | [], n => (St.ok, n, none, d)
  | r :: rs, n => match findSkein d dst with
    | none => (St.skeinStale, n, none, d)
    | some x => match travelPart d k r with
      | (.inr (kind, _, a), d) => (St.decodeError, n, some (kind, a), d)
      | (.inl p, d) =>
        let (st, x, d) := placePage d x { p with masks := List.replicate x.maskSets (BitVec.allOnes 64) } false
        let upTo := min k.tokens (64 * (r.page + 1))
        let d := setSkein d { x with tokens := if st == St.ok then max x.tokens upTo else x.tokens, lastAccess := now d }
        if st != St.ok then (st, n, none, d)
        else placeCopies d k dst rs (n + (p.blocks.map (fun b => b.data.length)).sum)

/-- The decode error of a transfer: FC_502 for blocks moved in stored form, FC_501 otherwise (R381, R383). -/
def xferDecode (d : Dev) (o : Op) (expanded : Bool) (e : Nat × Nat) : Dev :=
  decodeError d o.ref (if expanded then 0x501 else moveCause e.1) e.2 e.1

/-- Cause of a placement that fails (R235, R257). -/
def placeCause (d : Dev) (status : Nat) : Option Nat :=
  if status == St.sasFull then some (if d.sas.bobFullTold then 0x404 else 0x401)
  else if status == St.skeinCapacity then some 0x405
  else none

/-- End a transfer's operation with its results (R175, R285, R380). -/
def endXfer (d : Dev) (o : Op) (status r0 r1 : Nat) : Dev :=
  let d := if o.cls == .g && status == St.ok then ctrInc d cGDelivered else if o.cls == .g then ctrInc d cGFaulted else d
  finishOp (dropOp (ctrInc d cShtTransfers) o.id) o.ref status r0 r1

/-- A transfer that this SAS cannot take ends; of class G with a fault record (R115). DESIGN CHOICE (log entry 89): a destination skein that
has gone, or left its states, has no cause code, and the operation ends with its status alone. -/
def xferRefused (d : Dev) (o : Op) (status r0 : Nat) : Dev :=
  match o.cls, placeCause d status with
  | .g, some c => failOp d o c status
  | _, _ => endXfer d o status r0 0

/-- The data of a transfer as its shuttle reads it: what it delivers, or the end of the operation (R299, R630). -/
def xferData (d : Dev) (o : Op) (rec : Bytes) (data : HostData) (src : Option Skein) : Option CopyOut × Dev :=
  if fld rec 0x20 3 0 == 0 || 4 < fld rec 0x20 3 0 then
    if xSrcHost rec then match hostGot d o.ref.owner data with
      | some bs => (some { bytes := fit bs (xLen rec) }, shuttleBytes d (xLen rec) (xLen rec))
      | none => (none, failOp (ctrInc d cHostReadFail) o 0x811 St.hostDma)
    else
      let p := poisonRead d (xSrc rec) (xLen rec)
      if d.sec.zeroized then (none, endXfer d o St.zeroized 0 0)
      else if p.1 then (none, failOp p.2 o 0x410 St.stackUncorrectable)
      else (some { bytes := workRead d (xSrc rec) (xLen rec) }, shuttleBytes d (xLen rec) (xLen rec))
  else match src with
    | none => (none, d)
    | some k =>
      if d.sec.zeroized then (none, endXfer d o St.zeroized 0 0) else
      let bad := (xAllRefs k rec).foldl (fun (x : Bool × Dev) p => match findBody x.2 p.body with
        | some b => if x.1 then x else poisonBody x.2 b
        | none => x) (false, d)
      if bad.1 then (none, failOp bad.2 o 0x410 St.stackUncorrectable)
      else let c := copyPagesOut d k rec; (some c.1, c.2)

/-- The last data stage of a transfer ends inside this device or toward the host: its data goes out. A transfer to a
connection posts it instead and ends when it has left (R526). -/
def xferOut (d : Dev) (o : Op) (rec : Bytes) (data : HostData) (src : Option Skein) : Dev :=
  if xDst rec == 3 && fld rec 0x20 3 0 == 1 then
    match src with
    | none => d
    | some k =>
      if d.sec.zeroized then endXfer d o St.zeroized 0 0 else
      let refs := xAllRefs k rec
      let (st, n, err, d) := placeCopies d k (u64 (xAddr rec)) refs 0
      match err with
      | some e => endXfer (xferDecode d o false e) o St.decodeError n 0
      | none => if st != St.ok then xferRefused d o st n else
        setOp d { o with cur := o.cur + 1, mseq := d.pair.sent, count := n, thin := (refs.filter (·.thinned)).length }
  else match xferData d o rec data src with
    | (none, d) => d
    | (some c, d) =>
      let fin (d : Dev) : Dev := match c.err with
        | some e => endXfer (xferDecode d o (xExpand rec == 1) e) o St.decodeError c.bytes.length c.thinned
        | none => setOp d { o with cur := o.cur + 1, mseq := d.pair.sent, count := c.bytes.length, thin := c.thinned }
      if xDst rec == 1 then
        let ro := d.host.relaxed.contains o.ref.owner
        let d := hostWriteAttr d o.ref.owner (xAddr rec) c.bytes false ro
        fin (if c.err.isSome then hostWriteAttr d o.ref.owner (xAddr rec + c.bytes.length) (List.replicate 4096 0xFF) true ro else d)
      else match (if sasRefusing d then none else deliverSas d o.ref.owner (xAddr rec) c) with
        | some d => fin d
        | none => xferRefused (ctrInc d cPlaceRefused) o St.sasFull 0

/-- A transfer to a connection reaches its Out stage: its write is posted; a failed block's packets go poisoned (R379). -/
def xferToConn (d : Dev) (o : Op) (rec : Bytes) (data : HostData) (src : Option Skein) : Dev :=
  match xferData d o rec data src with
  | (none, d) => d
  | (some c, d) =>
    let d := setOp d { o with count := c.bytes.length, thin := c.thinned }
    if !connReady d (xConn rec) then stopOp d o 0x701 St.weftConn else
    let src := if src.isNone && !xSrcHost rec then some (xSrc rec) else none
    match c.err with
    | none => xferPost d (xConn rec) (xAddr rec) c.bytes o.cls o.passOn src (.op o.id)
    | some e =>
      let d := xferPost d (xConn rec) (xAddr rec) c.bytes o.cls o.passOn src .nobody
      let d := postEntry d (xConn rec) {
        op := 0x01
        cls := o.cls
        length := 4096
        data := .poisoned 4096
        raddr := xAddr rec + c.bytes.length
        rkey := Config.remoteKey (xConn rec) (xAddr rec)
        deadline := o.deadline
        passOn := o.passOn }
      endXfer (xferDecode d o (xExpand rec == 1) e) { o with count := c.bytes.length } St.decodeError c.bytes.length c.thinned

/-- A transfer has been delivered: its results (R285). -/
def xferDone (d : Dev) (o : Op) (rec : Bytes) : Dev :=
  endXfer d o St.ok o.count (if fld rec 0x20 3 0 == 1 then o.thin else 0)

end Sys2Proof.Machine
end

