-- ==== Sys2Proof/Machine/Host.lean ====
section
/-! DEFINITION. Host attachment (R618 to R640): host reads and their ends, loss and return of the link, function resets,
interrupts, the DOE mailbox, TDISP interfaces (R658 to R660), configuration writes. -/

namespace Sys2Proof.Machine

open Sys2Proof

/-- End the requests that this device owns and a test picks (R174, R634, R710): at the prompt device the entries in OPENING,
PREFILL and HANDING, at the generation device those in WAITING and DECODING. -/
def endOwned (d : Dev) (p : Req → Bool) (status : Nat) : Dev :=
  let own (r : Req) : Bool :=
    if r.gen then r.state == .waiting || r.state == .decoding
    else r.state == .opening || r.state == .prefill || r.state == .handing
  ((d.reqs.live.filter (fun r => own r && p r)).map (·.slot)).foldl (fun d n =>
    match d.reqs.live.find? (fun r => r.slot == n) with
    | none => d
    | some r => if !own r then d else if r.gen then genEnd d r status 0x05 0 else promptEnd d r status 0x05 0) d

/-! ## Host reads (R629, R630) -/

/-- A host read has ended, with its data or without. -/
def hostReadEnds (d : Dev) (x : HostRead) (data : HostData) : Dev :=
  match x.use with
  | .ringHead n => headReadDone d n (data.map (fun b => unLe (b.take 4)))
  | u =>
    let d := { d with host := { d.host with reads := d.host.reads.filter (fun y => y.id != x.id) } }
    match u with
    | .stopSet l q => match findTaken d l q with
      | some t => stopSetFinish d t (data.map (fun b => fit b 640))
      | none => d
    | .other ref => match data with
      | some _ => d
      | none => complete (faultOp (ctrInc d cHostReadFail) ref 0x811 St.hostDma 0 0) ref St.hostDma 0 0 0
    | .ringHead _ => d

/-- An outstanding host read ends; one that fails follows R630. -/
def execHostReadCompletion (id : Nat) (result : HostData) (s : State) : Host.Outcome State Fault Refusal :=
  onDevC (fun d => match d.host.reads.find? (fun x => x.id == id) with
    | some x => if d.host.l0 then hostReadEnds d x result else d
    | none => d) s

/-! ## The link (R619, R636) -/

/-- The outstanding host reads of some owners fail (R636, R638). -/
def failReads (d : Dev) (p : Nat → Bool) : Dev :=
  (d.host.reads.filter (fun x => p x.owner)).foldl
    (fun d x => if d.host.reads.any (fun y => y.id == x.id) then hostReadEnds d x none else d) d

/-- The host link leaves L0: the readiness bit goes, and outstanding reads fail (R636). -/
def execHostLinkDown (s : State) : Host.Outcome State Fault Refusal :=
  onDevC (fun d =>
    if !d.host.l0 then d else
    failReads (unpost { d with host := { d.host with l0 := false, retrainDue := true, dropped := 0 } } rbPcie) (fun _ => true)) s

/-- The host link reaches L0 (R618, R619, R636). -/
def execHostLinkUp (rate width : Nat) (s : State) : Host.Outcome State Fault Refusal :=
  onDev (fun d =>
    if d.host.l0 || d.boot.phase == .inReset || d.boot.phase == .firmwareFailed || rate == 0 || 6 < rate || !([1, 4, 8, 16].contains width) then d else
    let old := d.host.width * rateGt2 d.host.rate
    let new := width * rateGt2 rate
    let back := d.host.retrainDue
    let d := post { d with host := { d.host with l0 := true, rate := rate, width := width, retrainDue := false } } rbPcie
    if !back then d else
    let d := detect (ctrInc d cHostRetrains) 0x0B 64 0x810 d.host.dropped 0
    if new < old then reportOver d lPCI (nextBucket d) 0x0B 64 0x812 false else d) s

/-! ## Function resets (R634, R635) -/

/-- The effects of a function reset on an owner (R634): its host rings go first, so that the records of the ends that
follow are discarded and counted. -/
def fnReset (d : Dev) (o : Nat) : Dev :=
  let mine := d.rings.filter (fun r => r.owner == o && !r.remote)
  let d := ctrAdd d cRingDiscarded ((mine.map (fun r => r.queue.length)).sum)
  let d := { d with host := { d.host with
    reads := d.host.reads.filter (fun x => !mine.any (fun r => x.use == .ringHead r.num)) } }
  let d := mine.foldl (fun d r => dropRing d r.num) d
  let d := endOwned d (fun r => r.core.owner == o) St.fnReset
  let d := (d.adm.ops.filter (fun x => x.cls == .g && x.ref.owner == o)).foldl (fun d x => endOp d x St.fnReset) d
  let d := { d with lines := { d.lines with
    queues := d.lines.queues.filter (fun q => q.owner != o)
    issues := d.lines.issues.filter (fun i => i.desc.owner != o) } }
  let d := { d with checks := d.checks.map (fun u => { u with queue := u.queue.filter (fun c => c.ref.owner != o) }) }
  let mineLane (l : Nat) : Bool := laneEnabled d l && laneOwner d l == o
  let lanes := d.intake.lanes.map (fun x => if mineLane x.1 then (x.1, { x.2 with expected := 0, stalled := false }) else x)
  ringsMoved { d with intake := { d.intake with
    lanes := lanes
    written := d.intake.written.filter (fun i => !mineLane (i / 512))
    remoteSlots := d.intake.remoteSlots.filter (fun i => !mineLane (i / 512)) } }

/-- A function's own configuration after its reset (PRESUMED, log entry 24): bus mastering, memory space and MSI-X are off,
relaxed ordering is enabled. -/
def fnConfigReset (d : Dev) (o : Nat) : Dev :=
  { d with host := { d.host with
    busMaster := d.host.busMaster.filter (· != o)
    memSpace := d.host.memSpace.filter (· != o)
    relaxed := o :: d.host.relaxed.filter (· != o)
    msix := tdel d.host.msix o } }

/-- TDISP state of a tenant domain's interface. -/
def tdispOf (d : Dev) (o : Nat) : Tdisp := tgetD d.host.tdisp o .unlocked
/-- Store it. -/
def setTdisp (d : Dev) (o : Nat) (t : Tdisp) : Dev := { d with host := { d.host with tdisp := tset d.host.tdisp o t } }

/-- An interface enters ERROR (R660). -/
def tdispFail (d : Dev) (o : Nat) : Dev :=
  detect (ctrInc (fnReset (setTdisp d o .error) o) cTdispErrors) 0x0D o 0x904 0 0

/-- An interface is locked or running. -/
def tdispHeld (d : Dev) (o : Nat) : Bool := tdispOf d o == .locked || tdispOf d o == .run

/-- One function is reset (R634, R660). -/
def resetFn (d : Dev) (o : Nat) : Dev :=
  fnConfigReset (if o < 64 && tdispHeld d o then tdispFail d o else fnReset d o) o

/-- A Function Level Reset of a domain's VF (R634). -/
def execVfFunctionLevelReset (domain : Nat) (s : State) : Host.Outcome State Fault Refusal :=
  onDevC (fun d => if domain < d.host.vfs && domain < 64 then resetFn (ctrInc d cFlr) domain else d) s

/-- Reset of the physical function and of every enabled VF (R635, R751). -/
def resetAllFns (d : Dev) : Dev :=
  let d := (64 :: List.range (min d.host.vfs 64)).foldl resetFn d
  { d with host := { d.host with vfs := 0 } }

/-- A Function Level Reset of the physical function, or a hot reset: both clear VF Enable (R635). -/
def execPfFunctionLevelReset (_hot : Bool) (s : State) : Host.Outcome State Fault Refusal :=
  onDevC (fun d => resetAllFns (ctrInc d cFlr)) s

/-! ## Interrupts (R632) -/

/-- The 100 µs interval of a function has passed: a pending message is sent. -/
def execMsixIntervalExpiry (fn : Nat) (s : State) : Host.Outcome State Fault Refusal :=
  onDev (fun d => if (tgetD d.host.msix fn {}).pending then msixRaise d fn else d) s

/-- Vector 0 is unmasked, or MSI-X enabled: a pending message is sent. -/
def execMsixVectorUnmask (fn : Nat) (s : State) : Host.Outcome State Fault Refusal :=
  onDev (fun d =>
    let m := tgetD d.host.msix fn {}
    let d := { d with host := { d.host with msix := tset d.host.msix fn { m with masked := false } } }
    if m.pending then msixRaise d fn else d) s

/-! ## The DOE mailbox (R626) -/

/-- A complete DOE request object: answered, or an error for an object too long or of another protocol. -/
def execDoeRequest (o : DoeObject) (s : State) : Host.Outcome State Fault Refusal :=
  onDev (fun d =>
    if d.host.doeError || d.host.doeBusy then d
    else if !o.vendorPciSig || 2 < o.type || 16384 < o.length then
      emit { d with host := { d.host with doeError := true, doeReady := false } } (.doe true false)
    else emit { d with host := { d.host with doeReady := true } } (.doe false true)) s

/-- DOE Abort clears the mailbox and its error. -/
def execDoeAbort (s : State) : Host.Outcome State Fault Refusal :=
  onDev (fun d => { d with host := { d.host with doeBusy := false, doeReady := false, doeError := false } }) s

/-! ## TDISP (R658 to R660). Message codes are those of the TDISP standard. -/

abbrev tdispLockRsp : Nat := 0x03
abbrev tdispReport : Nat := 0x04
abbrev tdispStartRsp : Nat := 0x06
abbrev tdispStopRsp : Nat := 0x07
abbrev tdispErr : Nat := 0x7F
abbrev tdispInvalidRequest : Nat := 0x01
abbrev tdispInvalidState : Nat := 0x04

/-- Answer a TDISP request with an error. -/
def tdispRefuse (d : Dev) (o code : Nat) : Dev := emit d (.tdisp tdispErr [o, code])

/-- LOCK_INTERFACE (R658, R659). -/
def execLockInterface (domain : Nat) (ideSecure : Bool) (s : State) : Host.Outcome State Fault Refusal :=
  onDev (fun d =>
    if !tdispRequired d || !ideSecure || !d.host.busMaster.contains domain || !d.host.memSpace.contains domain ||
        d.rings.any (fun r => r.owner == domain) || d.lines.queues.any (fun q => q.owner == domain) || 64 ≤ domain then
      tdispRefuse d domain tdispInvalidRequest
    else if tdispOf d domain != .unlocked then tdispRefuse d domain tdispInvalidState
    else emit (setTdisp d domain .locked) (.tdisp tdispLockRsp [domain])) s

/-- The start-interface request: a locked interface runs (R658). -/
def execStartInterface (domain : Nat) (s : State) : Host.Outcome State Fault Refusal :=
  onDev (fun d =>
    if tdispOf d domain == .locked then emit (setTdisp d domain .run) (.tdisp tdispStartRsp [domain])
    else tdispRefuse d domain tdispInvalidState) s

/-- STOP_INTERFACE: to CONFIG_UNLOCKED (R660). -/
def execStopInterface (domain : Nat) (s : State) : Host.Outcome State Fault Refusal :=
  onDev (fun d => emit (setTdisp d domain .unlocked) (.tdisp tdispStopRsp [domain])) s

/-- GET_DEVICE_INTERFACE_REPORT (R622, R659): the MMIO ranges of BAR0, BAR2 and BAR4 by their numbers of 4 KiB pages; then the domain, its
staging partition's size and its lanes. -/
def execGetDeviceInterfaceReport (domain : Nat) (s : State) : Host.Outcome State Fault Refusal :=
  onDev (fun d =>
    let lanes := (List.range 128).filter (fun l => laneEnabled d l && laneOwner d l == domain)
    emit d (.tdisp tdispReport ([2048, 2048, 2, domain, stageSize d domain] ++ lanes))) s

/-- An event that puts a locked or running interface into ERROR (R660). -/
def execTdispInterfaceError (domain : Nat) (cause : TdispCause) (s : State) : Host.Outcome State Fault Refusal :=
  onDevC (fun d =>
    let hit := match cause with
      | .noTBit => tdispOf d domain == .run
      | _ => tdispHeld d domain
    if domain < 64 && hit then tdispFail d domain else d) s

/-! ## Configuration writes (R618, R622, R629, R632, R638, R639, R660) -/

/-- A change of a held interface's BARs or of its enables (R660). -/
def cfgTouch (d : Dev) (fn : Nat) : Dev := if fn < 64 && tdispHeld d fn then tdispFail d fn else d

/-- Set or clear a function's place in a list. -/
def setFlag (l : List Nat) (fn : Nat) (on : Bool) : List Nat :=
  if on then (if l.contains fn then l else l ++ [fn]) else l.filter (· != fn)

/-- A host configuration write. -/
def execPcieConfigurationWrite (w : CfgWrite) (s : State) : Host.Outcome State Fault Refusal :=
  onDevC (fun d => match w with
    | .maxPayload b => { d with host := { d.host with mps256 := b } }
    | .maxReadRequest n =>
      if [128, 256, 512, 1024, 2048, 4096].contains n then { d with host := { d.host with readRequest := n } } else d
    | .completionTimeout us =>
      if 50 ≤ us && us ≤ 64000 then { d with host := { d.host with timeoutUs := us } } else d
    | .busMaster fn on =>
      if d.host.busMaster.contains fn == on then d else
      let d := { d with host := { d.host with busMaster := setFlag d.host.busMaster fn on } }
      cfgTouch (if on then d else failReads d (· == fn)) fn
    | .memSpace fn on =>
      if d.host.memSpace.contains fn == on then d else
      cfgTouch { d with host := { d.host with memSpace := setFlag d.host.memSpace fn on } } fn
    | .vfEnable n => if n ≤ 64 then { d with host := { d.host with vfs := n } } else d
    | .relaxedOrdering fn on => { d with host := { d.host with relaxed := setFlag d.host.relaxed fn on } }
    | .msixEnable fn on =>
      let m := tgetD d.host.msix fn {}
      let d := { d with host := { d.host with msix := tset d.host.msix fn { m with enabled := on } } }
      if on && m.pending then msixRaise d fn else d
    | .msixMask fn =>
      let m := tgetD d.host.msix fn {}
      { d with host := { d.host with msix := tset d.host.msix fn { m with masked := true } } }
    | .barWrite fn => cfgTouch d fn) s

end Sys2Proof.Machine
end

