-- ==== Sys2Proof/Machine/Custody.lean ====
section
/-! DEFINITION. Signed messages (R649 to R652), custody (R709 to R714), zeroization and the error state (R672 to R678), security
associations (R661 to R665). -/

namespace Sys2Proof.Machine

open Sys2Proof

/-! ## Signed messages (R650, R651, R753) -/

/-- The identity private key (R645). -/
def identityKey : Bytes := shake256 (Config.uds ++ ascii "CN4816 identity") 57

/-- This part's identity public key digest (R648). -/
def idDigest : Bytes := shake256 (Config.ed448Public identityKey) 64

/-- The alias private key, once formed (R646). -/
def aliasKey (d : Dev) : Option Bytes :=
  if d.boot.aliasFormed then
    some (shake256 (Config.uds ++ ascii "CN4816 alias" ++ d.boot.measureFw ++ d.boot.measureImg) 57)
  else none

/-- The checks of R651 in their order; `lo` is the lowest bit of the kind's field in SEC_QUORUM. -/
def signedCheck (d : Dev) (h : SigHdr) (lo : Nat) : Nat :=
  if !h.formOk || h.sigs.isEmpty || 16 < h.sigs.length then St.recordInvalid
  else if h.target != idDigest then St.sigTarget
  else if h.session != d.sec.session || h.seq ≤ d.sec.msgSeq then St.sigStale
  else if h.sigs.any (fun x => !x.2 || mgrKeyCount d ≤ x.1) then St.sigInvalid
  else if (h.sigs.map (·.1)).eraseDups.length < img d 0x500010 (lo + 3) lo + 1 then St.sigQuorum
  else St.ok

/-- Lowest bits of the quorum fields (R679). -/
abbrev qGate : Nat := 0
abbrev qFence : Nat := 4
abbrev qStack : Nat := 8
abbrev qSa : Nat := 12
abbrev qZeroize : Nat := 16
abbrev qSelfTest : Nat := 20
abbrev qTakeover : Nat := 24
abbrev qCustody : Nat := 28
abbrev qReadmit : Nat := 32
abbrev qImage : Nat := 36

/-- The firmware of the root-of-trust processor runs, and so it takes signed messages (R644, R674). -/
def rotRuns (d : Dev) : Bool := d.boot.phase != .inReset && d.boot.phase != .firmwareFailed

/-- Take one signed message: its status, and its effect when accepted (R651). `own`: the refusal of the kind's own chapter;
`anyTime`: it is performed inside a switch window too (R753). -/
def signedDo (d : Dev) (h : SigHdr) (lo : Nat) (anyTime : Bool) (own : Nat) (f : Dev → Dev) : Nat × Dev :=
  let st := signedCheck d h lo
  let st := if st != St.ok then st else if d.sec.switching && !anyTime then St.imageState else own
  if st == St.ok then (st, f (ctrInc { d with sec := { d.sec with msgSeq := h.seq } } cMsgAccepted))
  else (st, ctrInc d cMsgRefused)

/-- The meaning of a signed message's command: its status is answered. -/
def onSigned (f : Dev → Nat × Dev) (s : State) : Host.Outcome State Fault Refusal :=
  onDevC (fun d => if rotRuns d then
      let r := f d
      emit r.2 (.signedStatus r.1)
    else d) s

/-! ## State sensors (R768, R769) -/

/-- Reading of sensor 100. -/
def custodySensor (d : Dev) : Nat := match d.flt.custody with
  | .normal => 1
  | .custody => 2
  | .testing => 3

/-- Reading of sensor 101. -/
def pairSensor (d : Dev) : Nat := match d.pair.state with
  | .unpaired => 1
  | .forming => 2
  | .mirrored => 3
  | .lost => 4
  | .taken => 5

/-- Reading of sensor 102. -/
def secSensor (d : Dev) : Nat :=
  if d.sec.error then 2 else if d.sec.zeroized then 3 else if d.sec.cryptoReady then 1 else 4

/-- Report the sensors 100 to 102 that differ from an earlier state. -/
def tellSensors (was d : Dev) : Dev :=
  let d := if custodySensor was != custodySensor d then pldmChange d 100 (custodySensor d) else d
  let d := if pairSensor was != pairSensor d then pldmChange d 101 (pairSensor d) else d
  if secSensor was != secSensor d then pldmChange d 102 (secSensor d) else d

/-! ## Custody (R709 to R714) -/

/-- Steps 1 to 4 of custody entry, with the status that ends requests (R120, R510, R710, R750). DESIGN CHOICE (log entry 101): a refusal
that quiet mode holds counts as an admission not yet answered, and is answered with that status. -/
def stopService (d : Dev) (status : Nat) : Dev :=
  let held := d.adm.held
  let d := held.foldl (fun d x => match x.far with
    | some fl => farEnd d fl x.ret status 0
    | none => complete d x.ref status 0 0 0) { d with adm := { d.adm with held := [] } }
  let d := stopFabric d status
  let d := failAll d (fun _ => true) 0x221 St.budgetMissed
  endOwned d (fun _ => true) status

/-- A trigger of custody, its own fault record written (R709, R710, R714). -/
def enterCustody (d : Dev) (trigger : Nat) : Dev :=
  let was := d
  let d := ctrInc d cCustodyEntries
  let go (d : Dev) : Dev := tellSensors was { d with flt := { d.flt with
    custody := .custody
    trigger := trigger
    custodyAt := now d } }
  match d.flt.custody with
  | .custody => d
  | .testing => go (detectDevice d 0xA10 trigger 0)
  | .normal => go (stopService (detectDevice d 0xA10 trigger 0) St.custody)

/-- CUSTODY_ENTER: its trigger record is FC_A13 (R709). -/
def custodyEnterDo (d : Dev) : Dev := enterCustody (detectDevice d 0xA13 0 0) 0xA13

/-- A signed CUSTODY_ENTER. -/
def signedCustodyEnter (d : Dev) (h : SigHdr) : Nat × Dev := signedDo d h qCustody false St.ok custodyEnterDo

/-- CUSTODY_ENTER (R709). -/
def execCustodyEnter (h : SigHdr) (s : State) : Host.Outcome State Fault Refusal :=
  onSigned (fun d => signedCustodyEnter d h) s

/-- READMIT starts the checks in custody, and has no effect outside it (R713). -/
def readmitDo (d : Dev) : Dev :=
  if d.flt.custody == .custody then tellSensors d { d with flt := { d.flt with custody := .testing } } else d

/-- A signed READMIT. -/
def signedReadmit (d : Dev) (h : SigHdr) : Nat × Dev := signedDo d h qReadmit false St.ok readmitDo

/-- READMIT (R713). -/
def execReadmit (h : SigHdr) (s : State) : Host.Outcome State Fault Refusal := onSigned (fun d => signedReadmit d h) s

/-- A control-core reset: the CORES bit goes and, when the cores are released with measured firmware, comes back (R755). -/
def coreResetStart (d : Dev) : Dev :=
  unpost { ctrInc d cCoreResets with sec := { d.sec with coresInReset := true } } rbCores

/-- The cores are released (R655, R755). -/
def coreResetEnd (d : Dev) : Dev :=
  post { d with sec := { d.sec with coresInReset := false } } rbCores

/-- Draft kinds that the enabled roles require (R480). -/
def requiredDrafts (d : Dev) : List Nat :=
  (if hasCache d then [3, 4] else []) ++ (if hasPrompt d || hasCache d then [1] else [])

/-- Post again every readiness bit that stands (R714). -/
def repostAll (d : Dev) : Dev := (List.range 59).foldl (fun d b => if isReady d b then post d b else d) d

/-! ## Zeroization and the error state (R673, R676 to R678) -/

/-- The keys are gone: associations, sessions, IDE streams and the CRYPTO bit with them; interfaces enter ERROR. -/
def zeroizeKeys (d : Dev) : Dev :=
  let d := { d with sec := { d.sec with
    keys := false
    assocs := []
    sessions := []
    ide := []
    cryptoReady := false
    zeroized := true } }
  let d := unpost { d with boot := { d.boot with aliasFormed := false } } rbCrypto
  let d := ((d.host.tdisp.map (·.1)).filter (tdispHeld d)).foldl tdispFail d
  ctrInc d cZeroizations

/-- Zeroize with the trigger that custody entry names (R676, R678). Stream 0 is the link IDE stream, which carries the
physical function's traffic. -/
def zeroizeWith (d : Dev) (trigger : Nat) : Dev :=
  let was := d
  let pfIde := d.sec.ide.contains 0
  let d := zeroizeKeys d
  let d := if pfIde then ctrInc d cFaultDropped else detectDevice d 0x905 0 0
  enterCustody (tellSensors was d) trigger

/-- Zeroization on an accepted ZEROIZE or a write of SEC_ZEROIZE. -/
def zeroizeNow (d : Dev) : Dev := zeroizeWith d 0x905

/-- A signed ZEROIZE, inside a switch window too (R753). -/
def signedZeroize (d : Dev) (h : SigHdr) : Nat × Dev := signedDo d h qZeroize true St.ok zeroizeNow

/-- ZEROIZE (R676, R678). -/
def execZeroize (h : SigHdr) (s : State) : Host.Outcome State Fault Refusal := onSigned (fun d => signedZeroize d h) s

/-- A write of SEC_ZEROIZE: through the physical function, with CONFIRM 0xC3 (R676, R677). -/
def execSecZeroize (fn : Nat) (value : U64) (s : State) : Host.Outcome State Fault Refusal :=
  onDevC (fun d => if fn == 64 && bits value.toNat 15 8 == 0xC3 && rotRuns d then zeroizeNow d else d) s

/-- The module enters its error state: 0x901 after a known-answer failure, 0x902 after an entropy failure (R673). -/
def errorState (d : Dev) (cause : Nat) : Dev :=
  zeroizeWith (detectDevice { d with sec := { d.sec with error := true } } cause 0 0) cause

/-- A continuous entropy test fails (R672, R673). -/
def execEntropyHealthFailure (s : State) : Host.Outcome State Fault Refusal :=
  onDevC (fun d => if rotRuns d && !d.sec.error then errorState (ctrInc d cEntropyFail) 0x902 else d) s

/-- What a failed set of tests does (R673). -/
def testsFailed (d : Dev) (t : SelfTests) : Dev :=
  let d := if t.entropyOk then d else ctrInc d cEntropyFail
  if t.castOk then errorState d 0x902 else errorState d 0x901

/-- A new session: identifier, sequence number, keys (R649, R675). -/
def newSession (d : Dev) : Dev :=
  let (n, d) := freeNext d
  { d with sec := { d.sec with
    session := Config.drbg n
    msgSeq := 0
    keys := true
    cryptoReady := true
    error := false
    zeroized := false } }

/-- A frame of the vault (R730). -/
def inVault (f : Nat) : Bool := 0x30000000 ≤ f && f < 0x30001800

/-- Free every skein, request, connection and region as if at reset (R675); the vault stays. -/
def freeHeld (d : Dev) : Dev :=
  { d with
    reqs := {}
    sas := { frames := d.sas.frames.filter (fun f => inVault f.1) }
    adm := { d.adm with ops := [], bookings := [], held := [] }
    retr := { d.retr with jobs := [] }
    bob := { d.bob with units := [], reads := [] }
    weft := {}
    lines := {}
    checks := d.checks.map (fun u => { u with queue := [] }) }

/-- SELF_TEST: the tests run; a module in error or zeroized that passes them recovers (R675). -/
def selfTestDo (d : Dev) (t : SelfTests) : Dev :=
  if !(t.castOk && t.entropyOk) then (if d.sec.error then d else testsFailed d t)
  else if d.sec.error || d.sec.zeroized then
    let was := d
    let d := freeHeld (newSession d)
    let formed := d.boot.measureImg.length != 0 || d.boot.phase == .noImage
    let d := { d with boot := { d.boot with aliasFormed := formed } }
    let d := if formed then post d rbCrypto else d
    tellSensors was (if d.boot.phase == .awaitVault || d.boot.phase == .running then post d rbTransport else d)
  else d

/-- A signed SELF_TEST. -/
def signedSelfTest (d : Dev) (h : SigHdr) (t : SelfTests) : Nat × Dev :=
  signedDo d h qSelfTest false St.ok (fun d => selfTestDo d t)

/-- SELF_TEST (R675). -/
def execSelfTest (h : SigHdr) (t : SelfTests) (s : State) : Host.Outcome State Fault Refusal :=
  onSigned (fun d => signedSelfTest d h t) s

/-! ## The readmission checks (R713, R714) -/

/-- Bits of the failed checks. -/
def readmitBits (d : Dev) (t : SelfTests) (coresOk portUp : Bool) : Nat :=
  let stacksBad := d.stk.units.any (fun u => u.st == 5) || (usableStacks d).length < 6
  let fabBad := (requiredDrafts d).any (fun k => match draftOf d k with
    | some i => runsAvail d i == 0
    | none => true)
  bit1 d.clk.fallback + 2 * bit1 (!(t.castOk && t.entropyOk) || d.sec.error || d.sec.zeroized) + 4 * bit1 stacksBad +
    8 * bit1 fabBad + 16 * bit1 (!coresOk) + 32 * bit1 (!(portUp || d.ports.any (fun p => p.state == .up)))

/-- The readmission checks end: back into service, or back to custody. -/
def execReadmitChecksDone (t : SelfTests) (failed : List Nat) (coresOk portUp : Bool) (s : State) :
    Host.Outcome State Fault Refusal :=
  onDevC (fun d =>
    if d.flt.custody != .testing then d else
    let was := d
    let d := tilesFail d failed
    let d := coreResetStart d
    let d := if coresOk then coreResetEnd d else d
    let bad := readmitBits d t coresOk portUp
    let d := { d with flt := { d.flt with readmit := some bad } }
    if bad == 0 then
      let d := repostAll (startFabric { d with flt := { d.flt with custody := .normal } })
      tellSensors was (detectDevice (ctrInc d cReadmits) 0xA11 0 0)
    else
      let d := { d with flt := { d.flt with custody := .custody } }
      tellSensors was (detectDevice d 0xA12 bad 0)) s

/-! ## Security associations (R662 to R665) -/

/-- The association of a local index, established or in progress. -/
def assocAt (d : Dev) (i : Nat) : Option Assoc := d.sec.assocs.find? (fun a => a.index == i)
/-- Remove it. -/
def dropAssoc (d : Dev) (i : Nat) : Dev := { d with sec := { d.sec with assocs := d.sec.assocs.filter (fun a => a.index != i) } }
/-- Store it. -/
def setAssoc (d : Dev) (a : Assoc) : Dev :=
  { d with sec := { d.sec with assocs := replaceFirst (fun x => x.index == a.index) a d.sec.assocs } }

/-- Refusal of an SA_OPEN (R662, R665). -/
def saOpenRefusal (d : Dev) (b : SaOpenBody) : Nat :=
  if 4095 < b.localSa then St.recordInvalid else if (assocAt d b.localSa).isSome then St.saBusy else St.ok

/-- An accepted SA_OPEN starts one half of the handshake; the initiator emits HELLO (R662, R663). -/
def saOpenDo (d : Dev) (b : SaOpenBody) : Dev :=
  let a : Assoc := {
    index := b.localSa
    initiator := b.initiator
    peerFleet := b.peerFleet
    handshake := b.handshake
    started := now d }
  let d := { d with sec := { d.sec with assocs := d.sec.assocs ++ [a] } }
  if b.initiator then emit d (.sa 1 b.localSa b.handshake) else d

/-- A signed SA_OPEN. -/
def signedSaOpen (d : Dev) (h : SigHdr) (b : SaOpenBody) : Nat × Dev :=
  signedDo d h qSa false (saOpenRefusal d b) (fun d => saOpenDo d b)

/-- SA_OPEN (R662, R663, R665). -/
def execSaOpen (h : SigHdr) (b : SaOpenBody) (s : State) : Host.Outcome State Fault Refusal :=
  onSigned (fun d => signedSaOpen d h b) s

/-- Refusal of an SA_CLOSE: a connection that is not FREE still uses the association (R664). -/
def saCloseRefusal (d : Dev) (sa : Nat) : Nat := if d.weft.conns.any (fun c => c.state != .free && c.saTx == sa) then St.saBusy else St.ok

/-- A signed SA_CLOSE. -/
def signedSaClose (d : Dev) (h : SigHdr) (sa : Nat) : Nat × Dev :=
  signedDo d h qSa false (saCloseRefusal d sa) (fun d => dropAssoc d sa)

/-- SA_CLOSE (R664). -/
def execSaClose (h : SigHdr) (sa : Nat) (s : State) : Host.Outcome State Fault Refusal := onSigned (fun d => signedSaClose d h sa) s

/-- A handshake fails (R664). -/
def saFails (d : Dev) (a : Assoc) : Dev := detect (ctrInc (dropAssoc d a.index) cSaFailed) 0x0C a.index 0x903 0 0

/-- A handshake message finds its half: the initiator's or the responder's, not yet established. -/
def saHalf (d : Dev) (m : SaMsg) (initiator : Bool) : Option Assoc :=
  match assocAt d m.localSa with
  | some a => if a.initiator == initiator && !a.established && a.handshake == m.handshake && !d.sec.zeroized then some a else none
  | none => none

/-- The checks of the peer's chain hold; without the image's list of allowed peers every handshake fails (R663, R727). -/
def saChecks (d : Dev) (m : SaMsg) : Bool := m.checksOk && d.boot.peers.length != 0

/-- HELLO: the responder emits REPLY (R663). -/
def execSaHello (m : SaMsg) (s : State) : Host.Outcome State Fault Refusal :=
  onDev (fun d => match saHalf d m false with
    | some a => if a.replied then d else emit (setAssoc d { a with replied := true }) (.sa 2 a.index a.handshake)
    | none => d) s

/-- REPLY: the initiator checks it, emits FINISH and has the association (R663, R664). -/
def execSaReply (m : SaMsg) (s : State) : Host.Outcome State Fault Refusal :=
  onDev (fun d => match saHalf d m true with
    | some a =>
      if saChecks d m then ctrInc (emit (setAssoc d { a with established := true }) (.sa 3 a.index a.handshake)) cSaOpened
      else saFails d a
    | none => d) s

/-- FINISH: the responder checks it and has the association (R663, R664). -/
def execSaFinish (m : SaMsg) (s : State) : Host.Outcome State Fault Refusal :=
  onDev (fun d => match saHalf d m false with
    | some a =>
      if !a.replied then d
      else if saChecks d m then ctrInc (setAssoc d { a with established := true }) cSaOpened
      else saFails d a
    | none => d) s

/-- 1 s after SA_OPEN (R664). -/
def execSaHandshakeTimeout (localSa : Nat) (s : State) : Host.Outcome State Fault Refusal :=
  onDev (fun d => match assocAt d localSa with
    | some a => if !a.established && a.started + 1000000000 ≤ now d then saFails d a else d
    | none => d) s

/-! ## Fences (R507) -/

/-- A signed FENCE. -/
def signedFence (d : Dev) (h : SigHdr) (tiles : List Nat) : Nat × Dev :=
  signedDo d h qFence false (if tiles.all (· < 640) then St.ok else St.recordInvalid) (fun d => fenceTiles d tiles)
/-- FENCE (R507, R508). -/
def execFence (h : SigHdr) (tiles : List Nat) (s : State) : Host.Outcome State Fault Refusal :=
  onSigned (fun d => signedFence d h tiles) s

/-- A signed UNFENCE. -/
def signedUnfence (d : Dev) (h : SigHdr) (tiles : List Nat) : Nat × Dev :=
  signedDo d h qFence false (if tiles.all (· < 640) then St.ok else St.recordInvalid) (fun d => unfenceTiles d tiles)
/-- UNFENCE (R507). -/
def execUnfence (h : SigHdr) (tiles : List Nat) (s : State) : Host.Outcome State Fault Refusal :=
  onSigned (fun d => signedUnfence d h tiles) s

end Sys2Proof.Machine
end

