-- ==== Sys2Proof/Machine/Events.lean ====
section
/-! DEFINITION. The course of an operation after its admission (R85, R100, R111 to R117): the end of a stage, the deadline
watch, held admission replies, and what the transport tells an operation whose write has left. -/

namespace Sys2Proof.Machine

open Sys2Proof

/-- Whether a transfer reads at its stage: at Promote, or at the Read before its Move (R108). -/
def xferReads (o : Op) (s : Stage) : Bool :=
  s.ledger == lBOB || (s.ledger == lSTK && !(o.stages.take o.cur).any (fun x => x.ledger == lSHT))

/-- The current stage ends: its overrun is noted and the next stage is due (R111). -/
def advance (d : Dev) (o : Op) (s : Stage) : Dev :=
  let r := noteOverrun d o s (if s.mirror then tMir d else 0)
  setOp r.2 { r.1 with cur := o.cur + 1, waiting := false }

/-- A class B operation whose deadline has passed is abandoned at a stage boundary (R85). -/
def expireB (d : Dev) (id : Nat) : Dev :=
  match findOp d id with
  | none => d
  | some o => match o.deadline with
    | some t => if o.cls == .b && t < now d then endOp (ctrInc d cBExpired) o St.budgetMissed else d
    | none => d

/-! ## Relays (R109, R110, R469) -/

/-- A relayed partial has been delivered. -/
def relayDone (d : Dev) (o : Op) (status : Nat) : Dev :=
  let d := if o.cls == .g then ctrInc d cGDelivered else d
  finishOp (dropOp d o.id) o.ref status 0 0

/-- The stage of a relay to host memory ends: its bytes are written in ascending order (R469). -/
def relayStage (d : Dev) (o : Op) (s : Stage) (conn addr : Nat) (bs : Bytes) (status : Nat) : Dev :=
  if conn != 0xFFFFF then d else
  let d := advance d o s
  relayDone (hostWrite d o.ref.owner addr bs) o status

/-! ## Transfers -/

/-- Frames that the first stages of a transfer need in the stack tier. -/
def xferFrames (d : Dev) (rec : Bytes) (src : Option Skein) : List Nat :=
  match src with
  | none => []
  | some k =>
    if fld rec 0x20 3 0 == 2 then (match findSkein d k.id with | some k => promoteFrames d k rec | none => [])
    else copyFrames d k rec

/-- The frames of a transfer's source can be read now (R252, R267). -/
def xferFramesReady (d : Dev) (rec : Bytes) (src : Option Skein) : Bool :=
  resident d (xferFrames d rec src) &&
  (match src with
  | some k => (xLayers rec).all (fun l => !underCow d ((findSkein d k.id).getD k) l (refFrames d (k.pages.filter (fun r => r.layer == l))))
  | none => true)

/-- A transfer waits for frames: they are promoted, and the wait is counted once (R250, R267). -/
def xferWaits (d : Dev) (o : Op) (s : Stage) (rec : Bytes) (src : Option Skein) (fs : List Nat) : Dev :=
  let d := if o.waiting then d else match src with
    | some k => (match ((k.pages.map (·.layer)).eraseDups.findSome? (fun l => waitCause d ((findSkein d k.id).getD k) l
          (if fld rec 0x20 3 0 == 2 then fs else refFrames d (k.pages.filter (fun r => r.layer == l))))) with
      | some c => countWait (setOp d { o with waiting := true }) c
      | none => d)
    | none => d
  let r := promoteAll (lowFrames d fs) (some o.id) none o.cls s.deadline d
  match r.1 with
  | none => r.2
  | some c => match findOp r.2 o.id with
    | some o => failOp r.2 o c deadStatus
    | none => r.2

/-- Deliver a transfer whose stages have all ended. -/
def xferEnd (d : Dev) (id : Nat) (rec : Bytes) : Dev :=
  match findOp d id with
  | none => d
  | some o => if o.stages.length ≤ o.cur then xferDone d o rec else expireB d id

/-- A Mirror stage ends once the partner holds what was sent (R111, R698); a class B write is no longer mirrored while the stream does
not run (R703). -/
def mirrorHolds (d : Dev) (o : Op) : Bool :=
  if streaming d then o.mseq ≤ d.pair.acked else o.cls == .b

/-- The current stage of a transfer ends. -/
def xferStage (d : Dev) (o : Op) (s : Stage) (rec : Bytes) (data : HostData) (src : Option Skein) : Dev :=
  if s.mirror then (if mirrorHolds d o then xferEnd (advance d o s) o.id rec else d)
  else if xferReads o s then
    let fs := xferFrames d rec src
    if !xferFramesReady d rec src then xferWaits d o s rec src fs else expireB (advance d o s) o.id
  else if s.ledger == lSHT then
    let d := advance d o s
    let d := expireB d o.id
    match findOp d o.id with
    | some o => if xDst rec == 2 && fld rec 0x20 3 0 != 2 then xferToConn d o rec data src else d
    | none => d
  else if fld rec 0x20 3 0 == 2 then xferEnd (advance d { o with mseq := d.pair.sent } s) o.id rec
  else if xDst rec == 2 then d
  else
    let r := noteOverrun d o s 0
    xferEnd (xferOut r.2 r.1 rec data src) o.id rec

/-! ## Far jobs -/

/-- The current stage of a far job ends (R107, R298, R425). -/
def farStage (d : Dev) (o : Op) (s : Stage) (j : FarJob) : Dev :=
  let k := jobSkein d j
  let next (d : Dev) : Dev :=
    let d := advance d o s
    match findOp d o.id with
    | none => d
    | some o =>
      let last := o.stages.length ≤ o.cur
      let d := if last then d else j.members.foldl (fun d x => expireB d x.op) d
      if !last && s.ledger != lFAB ((draftOf d 3).getD 0) then d else
      match findJob d j.id with
      | some j => sendJob d j
      | none => d
  match farStageAt o with
  | none => d
  | some .scan => if j.scanned then next d else d
  | some .promote =>
    let fs := jobFrames d j j.sel
    if framesReady d k j.layer fs then next d else jobWaits d j k fs
  | some .fetch =>
    if !(j.ended || j.ends.length ≤ j.walked) then d else
    let fs := jobFrames d j j.sel
    if !framesReady d k j.layer fs then jobWaits d j k fs else
    let bad := (j.pages.filter (fun p => j.sel.contains p.page)).foldl (fun (x : Bool × Dev) p => match findBody x.2 p.body with
      | some b => if x.1 then x else poisonBody x.2 b
      | none => x) (false, d)
    if bad.1 then failJob bad.2 j 0x410 St.stackUncorrectable else next bad.2
  | some .expand => next d
  | some .attend =>
    if d.fab.stopped then d
    else if j.ended then next d
    else if j.kPages == 0 || j.walked == 0 then d
    else match attendRound d j k with
      | (false, d) => d
      | (true, d) => match findJob d j.id with
        | some j => next (setJob d { j with ended := true })
        | none => d
  | some .back => d

/-! ## What the transport tells an operation (R86, R526) -/

/-- An operation whose write has reached its delivery point is delivered (R86). -/
def opDone (d : Dev) (o : Op) : Dev := match o.what with
  | .transfer rec _ _ => xferDone d o rec
  | .relay _ _ _ _ _ _ status => relayDone d o status
  | .farJob job _ => match findJob d job with
    | none => d
    | some j => match j.members.find? (fun x => x.op == o.id) with
      | some x => memberDone d j x o
      | none => d

/-- The write of an operation has left the port for the first time: delivered, or on a matched connection on its way for the flight bound
(R86, R89). -/
def opLeft (d : Dev) (id : Nat) (flight : Option Nat) : Dev :=
  match findOp d id with
  | none => d
  | some o =>
    let d := match o.stages[o.cur]? with
      | some s => advance d o s
      | none => d
    match findOp d id with
    | none => d
    | some o => match flight with
      | none => opDone d o
      | some f => setOp d { o with there := some (now d + f) }

/-- The write of an operation is acknowledged: on a matched connection its last byte is there (R89). -/
def opThere (d : Dev) (id : Nat) : Dev :=
  match findOp d id with
  | none => d
  | some o => if o.there.isSome then opDone d o else d

/-- The write of an operation failed with its connection (R115, R525). -/
def opLost (d : Dev) (id cause status : Nat) : Dev :=
  match findOp d id with
  | none => d
  | some o => stopOp d o cause status

/-! ## Ends of stages, the watch, held replies -/

/-- The current stage of an operation can end as far as the device itself goes: what it needs lies in the stack tier, and what must
come first has come. -/
def stageDue (d : Dev) (o : Op) : Bool := match o.stages[o.cur]? with
  | none => false
  | some s => match o.what with
    | .relay .. => true
    | .transfer rec _ src => !s.mirror && (!xferReads o s || xferFramesReady d rec src)
    | .farJob job _ => match findJob d job with
      | none => false
      | some j => (leadOp d j).map (·.id) == some o.id && (match farStageAt o with
        | some .scan => j.scanned
        | some .fetch => (j.ended || j.ends.length ≤ j.walked) && framesReady d (jobSkein d j) j.layer (jobFrames d j j.sel)
        | some .expand => true
        | _ => false)

/-- An operation's stage is the first to end on its resource: on the stacks, the shuttles and the host link no other operation whose
stage can end is served before it (R82 to R84). DESIGN CHOICE (log entry 72): each of them ends its stages in its service order. -/
def stageTurn (d : Dev) (o : Op) (s : Stage) : Bool :=
  !(s.ledger == lSTK || s.ledger == lSHT || s.ledger == lPCI) ||
  !d.adm.ops.any (fun x => x.id != o.id && (x.stages[x.cur]?).map (·.ledger) == some s.ledger && stageDue d x && opBefore d x o)

/-- The end of an operation's current stage, with the stack lines its reads found in error (R111, R115, R298). -/
def execStageComplete (op : Nat) (found : List LineErr) (s : State) : Host.Outcome State Fault Refusal :=
  onDevC (fun d => match findOp d op with
    | none => d
    | some o => match o.stages[o.cur]? with
      | none => d
      | some st =>
        if !stageTurn d o st then d else
        let r := if st.ledger == lSTK then readLines found d else (false, d)
        let d := r.2
        match o.what with
        | .relay _ _ _ conn addr bs status => relayStage d o st conn addr bs status
        | .transfer rec data src => if r.1 then failOp d o 0x410 St.stackUncorrectable else xferStage d o st rec data src
        | .farJob job _ => match findJob d job with
          | none => d
          | some j =>
            if (leadOp d j).map (·.id) != some o.id then d
            else if r.1 then failJob d j 0x410 St.stackUncorrectable
            else farStage d o st j) s

/-- The deadline watch (R112, R442): an admitted class G operation that is not delivered T_FR before its deadline. -/
def execDeadlineWatch (op : Nat) (s : State) : Host.Outcome State Fault Refusal :=
  onDevC (fun d => match findOp d op with
    | none => d
    | some o => match o.cls, o.deadline with
      | .g, some t =>
        if now d + frNs d < t then d
        else if o.there.any (· ≤ now d) then opDone d o else
        (match o.what with
        | .farJob job _ => match findJob d job with
          | some j =>
            let c := match leadOp d j with | some l => watchCause l | none => watchCause o
            failJob d j c St.budgetMissed
          | none => failOp d o (watchCause o) St.budgetMissed
        | _ => failOp d o (watchCause o) St.budgetMissed)
      | _, _ => d) s

/-- Held admission replies whose quantum boundary has come are given (R100). -/
def execAdmissionReplyRelease (s : State) : Host.Outcome State Fault Refusal :=
  onDev (fun d =>
    let due := d.adm.held.filter (fun h => h.time ≤ now d)
    let d := { d with adm := { d.adm with held := d.adm.held.filter (fun h => now d < h.time) } }
    due.foldl (fun d h => match h.far with
      | some fl => farEnd d fl h.ret h.status h.bound
      | none => complete d h.ref h.status h.bound 0 0) d) s

end Sys2Proof.Machine
end

