-- ==== Sys2Proof/Machine/Weft.lean ====
section
/-! DEFINITION. The Weft transport (R512 to R552): the send side (R526 to R528, R537 to R543), what the end of an entry or of a
service message tells its owner, the receive side (R521, R531 to R536, R543, R544, R548), the command registers. -/

namespace Sys2Proof.Machine

open Sys2Proof

/-! ## Small readings -/

/-- Big-endian bytes as a number (R8). -/
def unBe (bs : Bytes) : Nat := unLe bs.reverse

/-- A message of a connection. -/
def Conn.msg? (c : Conn) (m : U32) : Option Msg := c.msgs.find? (fun x => x.msn == m)
/-- Store a message. -/
def Conn.setMsg (c : Conn) (m : Msg) : Conn := { c with msgs := replaceFirst (fun x => x.msn == m.msn) m c.msgs }
/-- Remove a message: UNACKED is the lowest number that still waits (R523). -/
def Conn.dropMsg (c : Conn) (m : Msg) : Conn :=
  let ms := c.msgs.filter (fun x => x.msn != m.msn)
  let low := ms.foldl (fun b x => if serialDiff x.msn b < 0 then x.msn else b) c.sendMsn
  { c with msgs := ms, unacked := low, inflight := c.inflight - m.counted }

/-- Retransmission timeout in ns (R537). -/
def rtoNs (d : Dev) (c : Conn) : Nat := max (img d 0x180000 25 16 * 1000) (c.srtt + 4 * c.rttvar)

/-- The wait of an entry holds (R527). -/
def waitMet (d : Dev) (e : SqEntry) : Bool :=
  e.waitMode == 0 || (match findConn d e.waitConn with
    | some w => 0 ≤ serialDiff w.completed e.target
    | none => false)

/-- Place of an operation's write in its class: that of the operation at its stage; a member of a far job stands at the stage of the
job (R83, R84). -/
def writePlace (d : Dev) (o : Op) : Place := match o.what with
  | .farJob j _ => match (findJob d j).bind (leadOp d) with
    | some l => opPlace d { o with stages := l.stages, cur := l.cur }
    | none => opPlace d o
  | _ => opPlace d o

/-- Place of a message's packets in their class: its operation's (R83, R84); of a service message, class B by the earlier of its own and
its request's deadline, less the wire time of its entry (R84, R204). -/
def orderKey (d : Dev) (c : Conn) (e : SqEntry) : Place :=
  match (match e.use with | .op i => findOp d i | _ => none) with
  | some o => writePlace d o
  | none =>
    let req := match e.use with
      | .service m => reqDeadline d m.request
      | .record ref => reqDeadline d ref.request
      | .header ref => reqDeadline d ref.request
      | _ => none
    { due := match e.cls with
        | .g => e.deadline.map Int.ofNat
        | .b => (earlier e.deadline req).map (fun x => (x : Int) - prtNs d c.firstPort (wireBytes e.length))
      arrival := match e.use with
        | .record ref => ref.arrival
        | .header ref => ref.arrival
        | _ => e.at_ }

/-! ## Sending (R518, R526, R537, R538, R542) -/

/-- Bytes of packet `i` of a message. -/
def Msg.size (m : Msg) (i : Nat) : Nat :=
  if m.op == 0x01 then min 4096 (m.mlen - 4096 * i) else if m.op == 0x02 then m.mlen else 0

/-- Payload of packet `i` of a message. A retransmission reads its source again, as it stands now (R530); where that is poison, the
packet goes poisoned (R299). -/
def Msg.part (d : Dev) (m : Msg) (i : Nat) (retx : Bool) : Payload := match m.data with
  | .bytes b => match m.src with
    | some a =>
      let at_ := a + m.offset0 + 4096 * i
      if !retx then .bytes (sub b (m.offset0 + 4096 * i) (m.size i))
      else if (poisonRead d at_ (m.size i)).1 then .poisoned (m.size i)
      else .bytes (workRead d at_ (m.size i))
    | none => .bytes (sub b (m.offset0 + 4096 * i) (m.size i))
  | .poisoned _ => .poisoned (m.size i)
  | p => if m.op == 0x02 then p else .none

/-- Send packet `i` of a message; `retx`: again (R537). -/
def sendPart (d : Dev) (c : Conn) (m : Msg) (i : Nat) (retx : Bool) : Dev :=
  let pl := m.part d i retx
  let h : WeftHdr := {
    op := m.op
    cls := m.cls
    immValid := m.imm.isSome
    poison := (match pl with | .poisoned _ => true | _ => false)
    retx := retx
    msn := m.msn
    mlen := m.mlen
    offset := 4096 * i
    rkey := m.rkey
    raddr := m.raddr
    imm := m.imm.getD 0
    svc := m.svc }
  let d := if retx then ctrInc d cRetxPackets else d
  let d := match retx, m.src with
    | true, some a => (poisonRead d (a + m.offset0 + 4096 * i) (m.size i)).2
    | _, _ => d
  sendPacket d c (c.pathOf m.msn.toNat i) (if m.vc1 then 1 else 0) h pl (m.size i) m.place (some (c.num, m.msn)) none

/-- Send the packets of a message that have not been sent, as far as the window lets them (R542); `fuel` bounds them. -/
def pumpMsg (cn : Nat) (msn : U32) : Nat → Dev → Dev
  | 0, d => d
  | f + 1, d => match findConn d cn with
    | none => d
    | some c => match c.msg? msn with
      | none => d
      | some m =>
        let n := m.size m.sent
        if m.packets ≤ m.sent || m.withdrawn || !saUsable d c.saTx then d
        else if m.cls == .b && !(c.inflight == 0 || c.inflight + n ≤ c.cwnd) then d
        else
          let add := if m.cls == .b then n else 0
          let n := { c with inflight := c.inflight + add }
          let d := setConn d (n.setMsg { m with sent := m.sent + 1, counted := m.counted + add })
          pumpMsg cn msn f (sendPart d c m m.sent false)

/-- Send what the window now lets go of messages that have begun. -/
def pumpConn (d : Dev) (cn : Nat) : Dev := match findConn d cn with
  | some c => (c.msgs.filter (fun m => m.sent < m.packets && !m.withdrawn)).foldl (fun d m => pumpMsg cn m.msn m.packets d) d
  | none => d

/-- The message that an entry starts next (R518). -/
def nextMsg (d : Dev) (c : Conn) (e : SqEntry) : Msg :=
  let len := if e.op == 0x01 then min 0x400000 (e.length - e.begun) else if e.op == 0x05 then 0 else e.length
  let last := e.length ≤ e.begun + len
  { msn := c.sendMsn
    op := e.op
    cls := e.cls
    imm := if last then e.imm else none
    data := e.data
    mlen := len
    offset0 := e.begun
    raddr := e.raddr + e.begun
    rkey := e.rkey
    svc := (match e.data with | .svc m => m.kind | _ => 0)
    place := orderKey d c e
    passOn := e.passOn
    src := e.src
    ordinal := e.ordinal
    lastOfEntry := last
    vc1 := e.vc1
    use := e.use
    packets := if e.op == 0x01 then max 1 ((len + 4095) / 4096) else 1 }

/-- The first entry leaves its queue: the next one is at the head from now (R528). -/
def Conn.pop (c : Conn) (t : Nat) : Conn := match c.queue with
  | [] => c
  | _ :: [] => { c with queue := [] }
  | _ :: e :: rest => { c with queue := { e with headAt := some t } :: rest }

/-! ## What ends tell (R45, R50, R56, R87, R152, R526, R543) -/

/-- A far job's message was lost: its QUERY ends with ST_WEFT_FAILED. -/
def farLost (d : Dev) (h : U64) : Dev := match findHandle d h with
  | none => d
  | some (r, q) =>
    complete (setReq d { r with queries := r.queries.filter (fun x => x.handle != h) }) q.ref St.weftFailed 0 0 0

/-- What the answer to a service message, or its loss, tells its sender. -/
def svcSent (d : Dev) (m : Svc) (status : Nat) (nak : Bool) : Dev :=
  let good := status == St.ok
  match m with
  | .handoffReply req st =>
    if st != St.ok then d else match findGen d req with
      | some r => if r.state != .accepting then d else if good then genAcked d r else genNakd d r (!nak)
      | none => d
  | .place req _ app _ => if good then d else placeNak d req app status
  | .seal req _ => if good then d else shipFail d req
  | .handoff h => if good then d else handoffFail d h.core.requestId
  | .window req ps _ =>
    if good then d else
    match homeWindowOf d req ps with
    | some k => homeWindowEnd d k false
    | none => windowFail d req
  | .lookup req _ _ => if good then d else lookupFail d req St.weftFailed
  | .farJob f _ _ => if good then d else farLost d f.ret
  | _ => d

/-- The last packet of a service message has left (R75, R152). -/
def svcLeft (d : Dev) (c : Conn) (m : Svc) : Dev := match m with
  | .handoff h => match findPrompt d h.core.requestId with
    | some r => if r.state == .handing then setReq d { r with since := now d } else d
    | none => d
  | .farJob f _ _ => match findHandle d f.ret with
    | some (r, q) =>
      setReq d (r.setQuery { q with reduced := now d - q.ref.arrival + 20 + (if c.matched then c.flight else 0) })
    | none => d
  | _ => d

/-- A send queue entry has ended (R526): its ordinal, its status, what a read returned; `flight`: the flight bound of a matched
connection (R89); `cause`: the cause of the connection's failure (R115). -/
def entryEnds (d : Dev) (u : SqFor) (ordinal : U32) (status : Nat) (reply : Bytes) (flight : Option Nat) (cause : Nat) : Dev :=
  let good := status == St.ok
  match u with
  | .nobody => d
  | .record ref => finishOp d ref status ordinal.toNat 0
  | .header ref => finishOp d ref status 0 0
  | .op i => if good then opLeft d i flight else opLost d i cause status
  | .headRead n => headReadDone d n (if good then some (unLe (reply.take 4)) else none)
  | .ringFlush _ req => match d.reqs.live.find? (fun r => r.gen && r.core.requestId == req && r.endRec.isSome) with
    | some r => freeWritten (putEnd (setReq d { r with endRec := none, endFlush := false }) r (r.endRec.getD []))
    | none => d
  | .shipFlush req w => shipmentDone d req w good
  | .appendFlush req => match findGen d req with
    | some r => appendDone d r good
    | none => d
  | .homeFlush k => match findSkein d k with
    | some x => homeWindowEnd d x good
    | none => d
  | .service m => if good then d else svcSent d m status false

/-- An entry completes: COMPLETED advances, and its owner learns of it. -/
def completeEntry (d : Dev) (cn : Nat) (u : SqFor) (op : Nat) (ordinal : U32) (status : Nat) (reply : Bytes) (cause : Nat) : Dev :=
  let d := match findConn d cn with
    | some c => setConn d (c.entryDone ordinal)
    | none => d
  let flight := match findConn d cn with
    | some c => if c.matched then some c.flight else none
    | none => none
  entryEnds (if op == 0x05 then ctrInc d cFlushes else d) u ordinal status reply flight cause

/-- A packet of a message has left the port for the first time (R526, R537). -/
def frameLeft (d : Dev) (cn : Nat) (msn : U32) : Dev := match findConn d cn with
  | none => d
  | some c => match c.msg? msn with
    | none => d
    | some m =>
      if m.packets ≤ m.left then d else
      let m := { m with left := m.left + 1 }
      if m.left < m.packets then setConn d (c.setMsg m) else
      let m := { m with timerAt := some (now d + rtoNs d c) }
      let d := setConn d (c.setMsg m)
      let d := match m.use with | .service x => svcLeft d c x | _ => d
      if m.entryEnded && m.lastOfEntry then completeEntry d cn m.use m.op m.ordinal St.ok [] 0 else d

/-- Entries of a connection that have not completed, in ascending order of posting. -/
def openEntries (c : Conn) : List (SqFor × Nat × U32) :=
  let run := c.queue.filter (fun e => e.begun != 0)
  ((c.msgs.filter (fun m => !m.entryEnded && !run.any (fun e => e.ordinal == m.ordinal))).map (fun m => (m.use, m.op, m.ordinal))) ++
    c.queue.map (fun e => (e.use, e.op, e.ordinal))

/-- Take a connection's requests from the ports' queues: it sends only responses from now on (R525). -/
def unqueue (d : Dev) (cn : Nat) : Dev :=
  { d with ports := d.ports.map (fun p => { p with queue := p.queue.filter (fun f => match f.dep with
      | some x => x.1 != cn
      | none => true) }) }

/-- End every open entry of a connection, the failing one with its own status, the others with ST_WEFT_CONN; service messages
that had left and were not answered are lost (R524, R525). -/
def flushEntries (d : Dev) (cn : Nat) (st : ConnState) (bad : Option (U32 × Nat)) (cause : Nat) : Dev := match findConn d cn with
  | none => d
  | some c =>
    let es := openEntries c
    let lost := c.msgs.filterMap (fun m => match m.use with
      | .service x => if m.entryEnded then some x else none
      | _ => none)
    let gone := c.msgs.filterMap (fun m => match m.use with
      | .op i => if m.entryEnded && m.lastOfEntry && !m.withdrawn then some (i, m.ordinal) else none
      | _ => none)
    let st_ (o : U32) : Nat := match bad with
      | some (b, s) => if b == o then s else St.weftConn
      | none => St.weftConn
    let d := setConn (unqueue d cn) { c with state := st, queue := [], msgs := [], inflight := 0, unacked := c.sendMsn }
    let d := es.foldl (fun d e => completeEntry d cn e.1 e.2.1 e.2.2 (st_ e.2.2) [] cause) d
    let d := gone.foldl (fun d x => opLost d x.1 cause (st_ x.2)) d
    lost.foldl (fun d m => svcSent d m St.weftFailed false) d

/-- A READY connection enters ERROR (R524). -/
def connError (d : Dev) (cn : Nat) (bad : Option (U32 × Nat)) (cause : Nat) : Dev := flushEntries d cn .error bad cause

/-! ## The send queue (R527, R528) -/

/-- A record's entry whose deadline has passed before it starts (R85). -/
def entryLate (d : Dev) (e : SqEntry) : Bool :=
  (match e.use with | .record _ => true | .header _ => true | _ => false) &&
  (match e.deadline with | some t => t < now d | none => false)

/-- It is abandoned. -/
def entryExpires (d : Dev) (e : SqEntry) : Dev := match e.use with
  | .record ref => expire d ref
  | .header ref => expire d ref
  | _ => d

/-- The first entry, its wait met, starts its next message (R526, R527, R537, R699). -/
def execSendEntryStart (conn : Nat) (s : State) : Host.Outcome State Fault Refusal :=
  onDevC (fun d => match findConn d conn with
    | none => d
    | some c => match c.queue with
      | [] => d
      | e :: _ =>
        if c.state != .ready || !waitMet d e || (streaming d && d.pair.acked < e.after) then d
        else if e.begun == 0 && entryLate d e then entryExpires (setConn d ((c.pop (now d)).entryDone e.ordinal)) e
        else if e.op == 0x10 then completeEntry (setConn d (c.pop (now d))) conn e.use e.op e.ordinal St.ok [] 0
        else if 64 ≤ c.msgs.length || !saUsable d c.saTx || c.msgs.any (fun m => m.sent < m.packets && !m.withdrawn) then
          pumpConn d conn
        else
          let m := nextMsg d c e
          let c := { c with sendMsn := c.sendMsn + 1, msgs := c.msgs ++ [m] }
          let c := if m.lastOfEntry then c.pop (now d)
            else { c with queue := replaceFirst (fun x => x.ordinal == e.ordinal) { e with begun := e.begun + m.mlen } c.queue }
          pumpMsg conn m.msn m.packets (setConn d c)) s

/-- A wait is not met within WAIT_MS (R528). -/
def execSendWaitTimeout (conn : Nat) (s : State) : Host.Outcome State Fault Refusal :=
  onDevC (fun d => match findConn d conn with
    | none => d
    | some c => match c.queue with
      | [] => d
      | e :: _ =>
        if c.state != .ready || waitMet d e || now d < e.headAt.getD (now d) + img d 0x180000 43 34 * 1000000 then d
        else connError (detect d 0x05 conn 0x704 0 0) conn (some (e.ordinal, St.weftWait)) 0x704) s

/-- The timer of a message expires (R537). -/
def execRetransmissionTimeout (conn : Nat) (msn : U32) (s : State) : Host.Outcome State Fault Refusal :=
  onDevC (fun d => match findConn d conn with
    | none => d
    | some c => match c.msg? msn with
      | none => d
      | some m =>
        if c.state != .ready || !(match m.timerAt with | some t => t ≤ now d | none => false) then d
        else if img d 0x180000 29 26 ≤ m.timeouts + 1 then
          connError (detectFor (ctrInc d cMsgFailed) c.owner 0x02 c.peerFleet 0x701 0 0) conn (some (m.ordinal, St.weftFailed)) 0x701
        else
          let d := setConn d (c.setMsg { m with timeouts := m.timeouts + 1, timerAt := some (now d + rtoNs d c) })
          if saUsable d c.saTx then
            sendPacket (ctrInc d cProbes) c (c.pathOf msn.toNat 0) 0 { op := 0x0B, cls := m.cls, msn := msn } .none 0
              { arrival := now d } (some (conn, msn)) none
          else d) s

/-! ## Checks of a received packet (R517, R518, R521, R525, R531, R539) -/

/-- Operations of R517. -/
def opDefined (o : Nat) : Bool := [1, 2, 3, 4, 5, 8, 9, 10, 11].contains o

/-- Lengths and offsets of R518, and of the responses. -/
def lengthsOk (p : Pkt) : Bool :=
  let h := p.hdr
  let n := p.payload.length
  if h.op == 0x01 || h.op == 0x04 then
    1 ≤ h.mlen && h.mlen ≤ 0x400000 && h.offset % 4096 == 0 && h.offset < h.mlen && n == min 4096 (h.mlen - h.offset)
  else if h.op == 0x02 then
    1 ≤ h.mlen && h.mlen ≤ 0x400000 && h.offset % 4096 == 0 && h.offset < h.mlen
  else if h.op == 0x08 || h.op == 0x0A then n == 16
  else if h.op == 0x09 then n == 144
  else n == 0

/-- The replay window of an association (R521): whether a number is fresh. -/
def pnFresh (a : Assoc) (pn : Nat) : Bool := !(pn + 2048 ≤ a.top) && !a.seen.contains pn && pn != 0
/-- Accept a number. -/
def pnTake (a : Assoc) (pn : Nat) : Assoc :=
  let top := max a.top pn
  { a with top := top, seen := pn :: a.seen.filter (fun x => top < x + 2048) }

/-- A path's epoch in a packet against the newest received (R539). -/
def epochOk (c : Conn) (p : Pkt) : Bool := 0 ≤ (p.hdr.epoch - c.rxEpoch.getD p.hdr.path 0).toInt

/-- Verify a packet and find its connection: the device after the checks, and the connection when they all pass. -/
def rxCheck (d : Dev) (p : Pkt) : Option Conn × Dev :=
  let h := p.hdr
  if h.ver != 1 || !opDefined h.op || h.rsvd || !lengthsOk p then (none, ctrInc d cRxMalformed) else
  match findAssoc d h.sa with
  | none => (none, ctrInc d cTagFail)
  | some a =>
    if !pnFresh a h.pn then (none, ctrInc d cReplay)
    else if !p.tagOk then (none, ctrInc d cTagFail)
    else
      let d := { d with sec := { d.sec with assocs := replaceFirst (fun x => x.index == h.sa && x.established) (pnTake a h.pn) d.sec.assocs } }
      match findConn d h.conn with
      | none => (none, ctrInc d cRxNoConn)
      | some c =>
        let answers := h.op == 0x04 || h.op == 0x08 || h.op == 0x09 || h.op == 0x0A
        if c.state == .destroying || c.peerIp != p.srcIp || (answers && c.state != .ready) then (none, ctrInc d cRxNoConn)
        else if !epochOk c p then (none, ctrInc d cEpochDiscard)
        else
          let c := { c with rxEpoch := c.rxEpoch.set h.path h.epoch }
          (some c, ctrInc (setConn d c) cRxPackets)

/-- The meaning of a packet's command. -/
def onPkt (op : Nat) (f : Dev → Conn → Pkt → Dev) (p : Pkt) (s : State) : Host.Outcome State Fault Refusal :=
  onDevC (fun d => if p.hdr.op != op then d else match rxCheck d p with
    | (some c, d) => f d c p
    | (none, d) => d) s

/-! ## Responses at the sender (R537, R540, R542, R543) -/

/-- Clear the strikes of the paths that a message's packets used (R540). -/
def clearStrikes (c : Conn) (m : Msg) : Conn :=
  let ps := (List.range (min m.packets 8)).map (fun i => c.pathOf m.msn.toNat i)
  { c with strikes := (c.strikes.zipIdx).map (fun x => if ps.contains x.2 then 0 else x.1) }

/-- The window update of R542 for `b` acknowledged bytes. -/
def onAck (d : Dev) (c : Conn) (echo : U32) (hold b : Nat) : Conn :=
  let delta := (now32 d - echo).toNat
  let rtt := if hold < delta then delta - hold else 0
  let err : Int := (rtt : Int) - c.srtt
  let srtt := ((c.srtt : Int) + err.tdiv 8).toNat % 2 ^ 32
  let rttvar := ((c.rttvar : Int) + (((err.natAbs : Int) - c.rttvar).tdiv 4)).toNat % 2 ^ 32
  let target := img d 0x180008 19 0
  let up := c.cwnd + img d 0x180008 35 28 * 1024 * b / max 1 c.cwnd
  let cut := min (c.cwnd * img d 0x180008 27 20 * (rtt - target) / (256 * max 1 rtt)) (c.cwnd / 2)
  let cuts := target < rtt && srtt ≤ (now32 d - c.lastCut).toNat
  let w := if rtt ≤ target then up else if cuts then c.cwnd - cut else c.cwnd
  { c with
    srtt := srtt
    rttvar := rttvar
    cwnd := min (max w 4096) (img d 0x180008 59 48 * 0x100000)
    lastCut := if cuts then now32 d else c.lastCut }

/-- Resend packets of a message with RETX set (R537). -/
def resend (d : Dev) (c : Conn) (m : Msg) (is : List Nat) : Dev :=
  if m.withdrawn then d else is.foldl (fun d i => if saUsable d c.saTx then sendPart d c m i true else d) d

/-- An ACK arrives (R525, R537, R542, R544). -/
def execAck (p : Pkt) (s : State) : Host.Outcome State Fault Refusal :=
  onPkt 0x08 (fun d c p => match c.msg? p.hdr.msn with
    | none => d
    | some m =>
      let status := unBe (sub p.payload 8 2)
      let c := clearStrikes (onAck d c (u32 (unBe (sub p.payload 0 4))) (unBe (sub p.payload 4 4)) m.mlen) m
      if m.op == 0x03 && m.reply.length < m.mlen then resend (setConn d c) c m [0] else
      let ended := m.entryEnded
      let d := setConn d (c.dropMsg m)
      let d := match m.use with
        | .service x => if ended then svcSent d x St.ok false else d
        | .op i => if ended && m.lastOfEntry then opThere d i else d
        | _ => d
      let d := if !ended then completeEntry d c.num m.use m.op m.ordinal status [] 0 else d
      pumpConn d c.num) p s

/-- Reroute a path whose strikes are full (R540). -/
def strike (d : Dev) (c : Conn) (path : Nat) : Conn × Dev :=
  let n := c.strikes.getD path 0 + 1
  if n < img d 0x180000 33 30 then ({ c with strikes := c.strikes.set path n }, d)
  else
    ({ c with
      strikes := c.strikes.set path 0
      reroutes := c.reroutes.set path (c.reroutes.getD path 0 + 1)
      txEpoch := c.txEpoch.set path (c.txEpoch.getD path 0 + 1) }, ctrInc d cReroutes)

/-- A SACK arrives: resend what is missing (R537, R540). -/
def execSack (p : Pkt) (s : State) : Host.Outcome State Fault Refusal :=
  onPkt 0x09 (fun d c p => match c.msg? p.hdr.msn with
    | none => d
    | some m =>
      let bitmap := unLe (p.payload.drop 16)
      let missing := (List.range m.sent).filter (fun i => !bitOf bitmap i)
      let paths := (missing.map (fun i => c.pathOf m.msn.toNat i)).eraseDups
      let (c, d) := match paths with
        | [x] => strike d c x
        | _ => (clearStrikes c m, d)
      resend (setConn d c) c m missing) p s

/-- A NAK that fails only its own message (R543). -/
def ownOnly (m : Msg) (status : Nat) : Bool :=
  status == St.reqEnded || (match m.use with
    | .service (.place ..) => true
    | .service (.window ..) => status == St.sasFull
    | _ => false)

/-- A NAK arrives (R543). -/
def execNak (p : Pkt) (s : State) : Host.Outcome State Fault Refusal :=
  onPkt 0x0A (fun d c p => match c.msg? p.hdr.msn with
    | none => d
    | some m =>
      let status := unBe (sub p.payload 8 2)
      let d := ctrInc d cNakReceived
      let told (d : Dev) : Dev := match m.use with
        | .service x => svcSent d x status true
        | .op i => if m.entryEnded && m.lastOfEntry then opLost d i 0x702 status else d
        | _ => d
      if ownOnly m status then
        let d := setConn d (clearStrikes (c.dropMsg m) m)
        let d := if m.entryEnded then d else match findConn d c.num with
          | some c => setConn d (c.entryDone m.ordinal)
          | none => d
        pumpConn (told d) c.num
      else
        let d := told (detectFor (setConn d (c.dropMsg m)) c.owner 0x05 c.num 0x702 status 0)
        let d := if m.entryEnded then d else
          completeEntry d c.num (match m.use with | .service _ => .nobody | u => u) m.op m.ordinal
            (if m.op == 0x03 then status else St.weftFailed) [] 0x702
        connError d c.num none 0x702) p s

/-- Placed bytes of a response by packet. -/
def placeReply (m : Msg) (off : Nat) (bs : Bytes) : Msg :=
  if m.got.contains (off / 4096) then m else
  { m with got := off / 4096 :: m.got, reply := patch (fit m.reply (max m.reply.length (off + bs.length))) off bs }

/-- A READ_RESP arrives; the read completes once every byte is placed (R526). -/
def execReadResp (p : Pkt) (s : State) : Host.Outcome State Fault Refusal :=
  onPkt 0x04 (fun d c p => match c.msg? p.hdr.msn with
    | none => d
    | some m =>
      if m.op != 0x03 then d else
      let m := placeReply m p.hdr.offset p.payload
      let c := c.setMsg m
      if m.got.length * 4096 < m.mlen then setConn d c else
      let d := setConn d (clearStrikes (c.dropMsg m) m)
      pumpConn (completeEntry d c.num m.use m.op m.ordinal St.ok m.reply 0) c.num) p s

/-! ## The receiver (R531 to R536, R543, R544, R548) -/

/-- The key check of R548 for `n` bytes at a region offset: the region, or the NAK's status (R543). -/
def keyCheck (d : Dev) (c : Conn) (key off n : Nat) (write : Bool) : Region ⊕ Nat :=
  let gen : BitVec 18 := BitVec.ofNat 18 (key / 2 ^ 14)
  match tget d.weft.regions (key % 2 ^ 14) with
  | none => .inr St.weftAccess
  | some r =>
    if r.gen != gen then .inr (if (gen - r.gen).toInt < 0 then St.weftRevoked else St.weftAccess)
    else if r.state == .revoking then .inr St.weftRevoked
    else if r.state != .valid || c.owner != r.owner || !(r.conn == 0xFFFFF || r.conn == c.num) ||
        !(if write then r.wr else r.rd) || r.length < off + n then .inr St.weftAccess
    else .inl r

/-- Place bytes of a WRITE in a region; poison marks each line in WORK and leaves an intake slot unwritten (R536). None when
no frame is left. -/
def regionPut (d : Dev) (r : Region) (off : Nat) (bs : Bytes) (poison : Bool) : Option Dev :=
  let a := r.base + off
  if r.intakeTarget then some (if poison then d else windowWrite d a bs true)
  else match workWrite d r.owner a (if poison then List.replicate bs.length 0xFF else bs) with
    | none => none
    | some d =>
      if !poison then some d
      else some ((List.range ((a + bs.length + 63) / 64 - a / 64)).foldl (fun d i => setPoison d (a / 64 * 64 + 64 * i) true) d)

/-- Answer a message that is complete: an ACK, or the answer it had before (R531). -/
def answerAgain (d : Dev) (c : Conn) (p : Pkt) : Dev :=
  let st := match c.said.find? (fun x => x.1 == p.hdr.msn) with
    | some x => x.2
    | none => St.ok
  respond d c (if st == St.ok || st == St.weftFailed then 0x08 else 0x0A) p.hdr.msn (now d) (ackBytes p.hdr.ts st p.hdr.mlen)

/-- SACK payload of a tracker (R535): bit i is packet i. -/
def sackBytes (echo : U32) (placed : Nat) (got : List Nat) : Bytes :=
  ackBytes echo St.ok placed ++ le ((got.map (2 ^ ·)).sum) 128

/-- Where a message stands against the window (R531). -/
inductive Window where
  | done
  | inside
  | above
deriving DecidableEq, Repr

/-- The window check. -/
def windowOfMsn (c : Conn) (m : U32) : Window :=
  let x := serialDiff m c.rxBase
  if x < 0 || c.rxDone.contains m || c.said.any (fun y => y.1 == m) then .done else if x ≤ 63 then .inside else .above

/-- The tracker of a packet's message, taken now if there is none (R534, R535). -/
def takeTracker (d : Dev) (c : Conn) (p : Pkt) : Option Tracker × Dev :=
  match findTracker d c.num p.hdr.msn with
  | some t => (some t, d)
  | none =>
    if 16384 ≤ d.weft.trackers.length then (none, ctrInc d cRxNoTracker) else
    let t : Tracker := {
      conn := c.num
      msn := p.hdr.msn
      op := p.hdr.op
      mlen := p.hdr.mlen
      arrival := now d
      lastAt := now d
      cls := p.hdr.cls
      budget := p.hdr.budget
      raddr := p.hdr.raddr
      rkey := p.hdr.rkey
      svc := p.hdr.svc
      ts := p.hdr.ts
      path := p.hdr.path
      port := p.port }
    (some t, { d with weft := { d.weft with trackers := d.weft.trackers ++ [t] } })

/-- A packet of a request passes the window check and has a tracker (R531). -/
def inWindow (f : Dev → Conn → Pkt → Tracker → Dev) (d : Dev) (c : Conn) (p : Pkt) : Dev :=
  match windowOfMsn c p.hdr.msn with
  | .done => if p.hdr.retx then answerAgain d c p else d
  | .above => ctrInc d cRxWindow
  | .inside => match takeTracker d c p with
    | (none, d) => d
    | (some t, d) => if t.awaiting then d else f d c p t

/-- The 64 bytes of an arrival record (R533). -/
def arrivalBytes (t : Tracker) : Bytes :=
  le 0x04 1 ++ le (bit1 t.poisoned) 1 ++ le St.ok 2 ++ le t.conn 4 ++ le t.msn.toNat 4 ++ le t.mlen 4 ++
  le ((t.imm.getD 0).toNat) 8 ++ le t.raddr 8 ++ le t.rkey 8 ++ le t.arrival 8 ++ le 0 16

/-- Deliver immediate data (R467, R533). -/
def deliverImm (d : Dev) (c : Conn) (t : Tracker) : Dev := match t.imm with
  | none => d
  | some i =>
    if c.service then
      partialIn d c.peerFleet i.toNat (t.held.foldl (fun b x => patch (fit b (max b.length (x.1 + x.2.length))) x.1 x.2) [])
        t.arrival t.budget t.cls
    else if c.arrivalRing == 0xFFF then ctrInc d cImmDiscarded
    else ringPut d c.arrivalRing (arrivalBytes t) false

/-- A packet's bytes are placed: note it, and complete the message when they are all there (R532). -/
def notePlaced (d : Dev) (c : Conn) (p : Pkt) (t : Tracker) (held : Bool) : Dev :=
  let first := t.placed.isEmpty
  let t := { t with
    placed := p.hdr.offset / 4096 :: t.placed
    bytes := t.bytes + (if p.hdr.op == 0x02 then min 4096 (t.mlen - p.hdr.offset) else p.payload.length)
    imm := if first && p.hdr.immValid then some p.hdr.imm else t.imm
    poisoned := t.poisoned || p.hdr.poison
    ts := p.hdr.ts
    lastAt := now d
    path := p.hdr.path
    held := if held then (p.hdr.offset, p.payload) :: t.held else t.held }
  let d := setTracker d t
  if t.bytes < t.mlen then d
  else if p.hdr.op == 0x02 && [0x05, 0x0B, 0x0C].contains t.svc then setTracker d { t with awaiting := true }
  else
    let d := if p.hdr.op == 0x02 && t.svc == 0x0D then
        { d with weft := { d.weft with farIn := d.weft.farIn ++ [(c.num, t.port, t.arrival)] } }
      else d
    answerMsg (deliverImm d c t) t St.ok true false

/-- A WRITE packet arrives (R531, R533, R536, R548). -/
def execWrite (p : Pkt) (s : State) : Host.Outcome State Fault Refusal :=
  onPkt 0x01 (fun d c p =>
    let was := d
    flushesEnded was (inWindow (fun d c p t =>
      if t.placed.contains (p.hdr.offset / 4096) then d
      else if c.service && p.hdr.immValid then notePlaced d c p t true
      else match keyCheck d c p.hdr.rkey (p.hdr.raddr + p.hdr.offset) p.payload.length true with
        | .inr st => answerMsg d t st false true
        | .inl r => match regionPut d r (p.hdr.raddr + p.hdr.offset) p.payload p.hdr.poison with
          | none => answerMsg d t St.sasFull false true
          | some d => notePlaced d c p t false) d c p)) p s

/-- A SEND packet arrives: its service takes the message once it is complete (R532, R543). -/
def execSend (p : Pkt) (s : State) : Host.Outcome State Fault Refusal :=
  onPkt 0x02 (fun d c p =>
    let was := d
    flushesEnded was (inWindow (fun d c p t =>
      if t.placed.contains (p.hdr.offset / 4096) then d
      else if !c.service || t.svc == 0 || 0x11 < t.svc then answerMsg d t St.weftAccess false true
      else
        -- one packet carries the whole of a message whose body the specification does not lay out
        notePlaced d c { p with hdr := { p.hdr with offset := 0 } } { t with bytes := t.mlen - min 4096 t.mlen } false) d c p)) p s

/-- The responses of a read (R526), with the stack lines found in error: a part with a line that cannot be read goes out as a poisoned
packet (R298, R299). -/
def readReply (d : Dev) (c : Conn) (p : Pkt) (r : Region) (found : List LineErr) : Dev :=
  let n := (p.hdr.mlen + 4095) / 4096
  (List.range n).foldl (fun d i =>
    let a := r.base + p.hdr.raddr + 4096 * i
    let k := min 4096 (p.hdr.mlen - 4096 * i)
    let x := if r.intakeTarget then (false, d) else readRanges found [(a, k)] d
    let x := if x.1 then (true, faultOp x.2 { owner := r.owner, intake := false, remote := true } 0x410 St.stackUncorrectable 0 0) else x
    let data := if r.intakeTarget then windowRead d a k else workRead x.2 a k
    let h : WeftHdr := { op := 0x04, poison := x.1, msn := p.hdr.msn, mlen := p.hdr.mlen, offset := 4096 * i }
    sendPacket x.2 c (c.pathOf p.hdr.msn.toNat i) 2 h (if x.1 then .poisoned k else .bytes data) k { arrival := now d } none none) d

/-- A READ_REQ arrives (R543, R548). A repeated one is answered with the data again. -/
def execReadReq (x : WithErrs Pkt) (s : State) : Host.Outcome State Fault Refusal :=
  onPkt 0x03 (fun d c p =>
    let was := d
    let serve (d : Dev) (c : Conn) : Dev ⊕ Nat :=
      if 65536 < p.hdr.mlen then .inr St.weftAccess else
      match keyCheck d c p.hdr.rkey p.hdr.raddr p.hdr.mlen false with
      | .inr st => .inr st
      | .inl r => .inl (readReply d c p r x.2)
    if windowOfMsn c p.hdr.msn == .done && p.hdr.retx && !c.said.any (fun y => y.1 == p.hdr.msn) then
      match serve d c with
      | .inl d => d
      | .inr _ => d
    else flushesEnded was (inWindow (fun d c p t => match serve d c with
      | .inr st => answerMsg d t st false true
      | .inl d =>
        let d := markDone (dropTracker d t) c.num p.hdr.msn
        wakeFlushes c.num (d.weft.trackers.length + 1) d) d c p)) x.1 s

/-- A FLUSH packet arrives: answered once every lower message is complete (R544). -/
def execFlushPacket (p : Pkt) (s : State) : Host.Outcome State Fault Refusal :=
  onPkt 0x05 (fun d c p =>
    match windowOfMsn c p.hdr.msn with
    | .done => if p.hdr.retx then answerAgain d c p else d
    | .above => ctrInc d cRxWindow
    | .inside => match takeTracker d c p with
      | (none, d) => d
      | (some _, d) => flushesEnded d (wakeFlushes c.num (d.weft.trackers.length + 1) d)) p s

/-- A PROBE arrives: an ACK, or a SACK of what is placed (R531, R535, R537). -/
def execProbe (p : Pkt) (s : State) : Host.Outcome State Fault Refusal :=
  onPkt 0x0B (fun d c p =>
    match windowOfMsn c p.hdr.msn with
    | .done => answerAgain d c p
    | .above => ctrInc d cRxWindow
    | .inside => match findTracker d c.num p.hdr.msn with
      | some t => respond d c 0x09 p.hdr.msn (now d)
          (sackBytes p.hdr.ts t.bytes (if t.op == 0x05 then [0] else if t.awaiting then List.range ((t.mlen + 4095) / 4096) else t.placed))
      | none => respond d c 0x09 p.hdr.msn (now d) (sackBytes p.hdr.ts 0 [])) p s

/-! ## Command registers (R524, R549, R550, R552) -/

/-- The result of a command (R552). -/
def cmdEnd (d : Dev) (status value : Nat) : Dev :=
  { d with weft := { d.weft with cmdBusy := false, cmdStatus := status, cmdValue := if status == St.ok then value else 0 } }

/-- The target number of a command block (R552). -/
def cmdTarget (b : Bytes) : Nat := fld b 0xF8 31 0

/-- The meaning of a WEFT_CMD write: through the physical function, while no command is in progress (R14, R763); a block that
cannot be read ends the command (R630). The command's target is the one its block names (R552). -/
def onCmd (fn target : Nat) (blk : HostData) (f : Dev → Bytes → Dev) (s : State) : Host.Outcome State Fault Refusal :=
  onDevC (fun d => if fn != 64 || d.weft.cmdBusy then d else match blk with
    | none => cmdEnd (ctrInc (faultPlain d 0x811 0 0) cHostReadFail) St.hostDma 0
    | some b => if cmdTarget b != target then d else f d (fit b 256)) s

/-- F_min of a port (R609); LLR_TIMEOUT counts 10 ns. -/
def fMin (d : Dev) (p : Nat) : Nat :=
  let a := 0x200000 + p * 0x10000
  40 + img d a 31 16 + 120 + img d a 6 4 * (img d a 15 8 * 10 + 656)

/-- Port 7 is the selvedge link (R581). -/
def selvedgePort (d : Dev) : Bool := img d 0x270000 2 2 == 1

/-- The fields that host software sets (R523): no path lies on the selvedge link (R581). -/
def Conn.setFields (d : Dev) (c : Conn) (b : Bytes) : Conn :=
  let eg := fld b 0x24 23 0
  let paths := ((List.range 8).map (fun p =>
    if fld b 0x20 p p == 1 && !(selvedgePort d && bits eg (3 * p + 2) (3 * p) == 7) then 2 ^ p else 0)).sum
  { c with
    service := fld b 0 2 2 == 1
    owner := fld b 0 9 3
    matched := fld b 0 10 10 == 1
    tc := fld b 0 13 11
    peerFleet := fld b 4 23 0
    peerIp := BitVec.ofNat 128 (unLe (sub b 8 16))
    peerConn := fld b 0x18 19 0
    saTx := fld b 0x1C 15 0
    saPeer := fld b 0x1E 15 0
    paths := paths
    sportBase := fld b 0x22 15 0
    egress := eg
    flight := fld b 0x28 31 0
    arrivalRing := fld b 0x2C 11 0 }

/-- Why CONN_CREATE or CONN_MODIFY refuses its fields (R610, R664). -/
def fieldsRefused (d : Dev) (c : Conn) : Option Nat :=
  if (findAssoc d c.saTx).isNone then some St.saAbsent
  else if c.matched && c.pathList.any (fun p =>
      let n := c.port p
      let a := 0x200000 + n * 0x10000
      img d a 1 0 != 1 || !(portAt d n).llrOn || img d a 3 3 == 0 || c.flight < fMin d n) then some St.matchInvalid
  else none

/-- CONN_CREATE (R524, R610, R664). -/
def execConnCreate (fn : Nat) (conn : Nat) (blk : HostData) (s : State) : Host.Outcome State Fault Refusal :=
  onCmd fn conn blk (fun d b =>
    if (findConn d conn).isSome || 1048576 ≤ conn then cmdEnd d St.weftConn 0 else
    let c := Conn.setFields d { num := conn } b
    match fieldsRefused d c with
    | some st => cmdEnd d st 0
    | none =>
      let c := { c with cwnd := img d 0x180008 47 36 * 1024, srtt := img d 0x180000 25 16 * 1000 }
      cmdEnd { d with weft := { d.weft with conns := d.weft.conns ++ [c] } } St.ok conn) s

/-- CONN_MODIFY: paths whose source port or egress port changes take a new epoch (R524). -/
def execConnModify (fn : Nat) (conn : Nat) (blk : HostData) (s : State) : Host.Outcome State Fault Refusal :=
  onCmd fn conn blk (fun d b => match findConn d conn with
    | none => cmdEnd d St.weftConn 0
    | some c =>
      if c.state != .ready then cmdEnd d St.weftConn 0 else
      let n := Conn.setFields d c b
      match fieldsRefused d n with
      | some st => cmdEnd d st 0
      | none =>
        let ep := (c.txEpoch.zipIdx).map (fun x =>
          if c.sportBase != n.sportBase || c.port x.2 != n.port x.2 then x.1 + 1 else x.1)
        cmdEnd (setConn d { n with txEpoch := ep }) St.ok conn) s

/-- CONN_RESET (R524): entries are counted from it (R523). DEDUCED (log entry 106): COMPLETED starts over with POSTED. -/
def execConnReset (fn : Nat) (conn : Nat) (blk : HostData) (s : State) : Host.Outcome State Fault Refusal :=
  onCmd fn conn blk (fun d b => match findConn d conn with
    | none => cmdEnd d St.weftConn 0
    | some c =>
      if c.state != .ready && c.state != .error then cmdEnd d St.weftConn 0 else
      let d := flushEntries d conn .error none 0x701
      let d := match findConn d conn with
        | none => d
        | some c => setConn d { c with
          state := .ready
          sendMsn := u32 (fld b 0x40 31 0)
          unacked := u32 (fld b 0x40 31 0)
          rxBase := u32 (fld b 0x50 31 0)
          posted := 0
          completed := 0
          doneAhead := []
          rxDone := []
          rxBad := []
          said := []
          txEpoch := c.txEpoch.map (· + 1) }
      let d := { d with weft := { d.weft with
        trackers := d.weft.trackers.filter (fun t => t.conn != conn)
        farIn := d.weft.farIn.filter (fun f => f.1 != conn) } }
      cmdEnd d St.ok conn) s

/-- CONN_DESTROY (R524). -/
def execConnDestroy (fn : Nat) (conn : CmdArg) (s : State) : Host.Outcome State Fault Refusal :=
  onCmd fn conn.1 conn.2 (fun d _ => match findConn d conn.1 with
    | none => cmdEnd d St.weftConn 0
    | some c =>
      if c.state != .ready && c.state != .error then cmdEnd d St.weftConn 0
      else cmdEnd (flushEntries d conn.1 .destroying none 0x701) St.ok conn.1) s

/-- The packets of a DESTROYING connection past their checks are placed: it is FREE (R524). -/
def execConnDestroyDrained (conn : Nat) (s : State) : Host.Outcome State Fault Refusal :=
  onDev (fun d => match findConn d conn with
    | some c =>
      if c.state != .destroying then d else
      { d with weft := { d.weft with
        conns := d.weft.conns.filter (fun x => x.num != conn)
        trackers := d.weft.trackers.filter (fun t => t.conn != conn)
        farIn := d.weft.farIn.filter (fun f => f.1 != conn) } }
    | none => d) s

/-- Lanes that an intake region covers belong to its owner (R549). -/
def lanesOwned (d : Dev) (r : Region) : Bool :=
  r.length != 0 && r.base + r.length ≤ 128 * 65536 &&
  (List.range ((r.base + r.length - 1) / 65536 + 1 - r.base / 65536)).all (fun i => laneOwner d (r.base / 65536 + i) == r.owner)

/-- REGION_CREATE (R549). -/
def execRegionCreate (fn : Nat) (index : Nat) (blk : HostData) (s : State) : Host.Outcome State Fault Refusal :=
  onCmd fn index blk (fun d b =>
    let old := tgetD d.weft.regions index {}
    let r : Region := {
      gen := old.gen
      state := .valid
      rd := fld b 4 2 2 == 1
      wr := fld b 4 3 3 == 1
      intakeTarget := fld b 4 4 4 == 1
      owner := fld b 4 11 5
      base := fld b 8 47 0
      length := fld b 0x10 39 0
      conn := fld b 0x18 19 0 }
    if old.state != .free || 16384 ≤ index then cmdEnd d St.weftRevoked 0
    else if !(if r.intakeTarget then lanesOwned d r else inStage d r.owner r.base r.length) then cmdEnd d St.range 0
    else cmdEnd { d with weft := { d.weft with regions := tset d.weft.regions index r } } St.ok (index + r.gen.toNat * 2 ^ 14)) s

/-- REGION_REVOKE, first phase (R550). -/
def execRegionRevoke (fn : Nat) (key : CmdArg) (s : State) : Host.Outcome State Fault Refusal :=
  onCmd fn key.1 key.2 (fun d _ =>
    let i := key.1 % 2 ^ 14
    match tget d.weft.regions i with
    | none => cmdEnd d St.weftAccess 0
    | some r =>
      if r.state != .valid || r.gen != BitVec.ofNat 18 (key.1 / 2 ^ 14) then cmdEnd d St.weftRevoked 0
      else { d with weft := { d.weft with regions := tset d.weft.regions i { r with state := .revoking }, cmdBusy := true } }) s

/-- REGION_REVOKE, second phase: the entry is FREE under a new generation (R550). -/
def execRegionRevokeDrained (index : Nat) (s : State) : Host.Outcome State Fault Refusal :=
  onDev (fun d => match tget d.weft.regions index with
    | some r =>
      if r.state != .revoking || r.inflight != 0 then d else
      let d := { d with weft := { d.weft with regions := tset d.weft.regions index { gen := r.gen + 1 } } }
      cmdEnd (ctrInc d cRevokes) St.ok 0
    | none => d) s

/-! ## FLUSH records (R545) -/

/-- Carry out a FLUSH record. -/
def flushRecord (d : Dev) (t : Taken) (op : Nat) : Dev :=
  let o := laneOwner d t.lane
  let conn := t.f 0x20 19 0
  let mode := t.f 0x20 21 20
  let wait := t.f 0x24 19 0
  let missing := (findConn d conn).isNone || (mode != 0 && (findConn d wait).isNone)
  let foreign := !missing && (connForeign d o conn || (mode != 0 && connForeign d o wait))
  match recCheck d t true foreign (if missing then some St.weftConn else none) false true false with
  | some st => refuseTaken d t st
  | none =>
    if !connReady d conn then refuseTaken d t St.weftConn else
    postEntry (dropTaken d t) conn {
      op := op
      deadline := t.deadline
      waitMode := mode
      waitConn := wait
      target := u32 (t.f 0x28 31 0)
      use := .record (t.ref d) }

/-- FLUSH. -/
def execFlush (lane : Nat) (seq : U32) (s : State) : Host.Outcome State Fault Refusal :=
  onTaken lane seq (fun t => t.kind == 0x21 && t.f 0x20 22 22 == 0) (fun d t => flushRecord d t 0x05) s

/-- FLUSH with WAIT_ONLY. -/
def execWaitOnly (lane : Nat) (seq : U32) (s : State) : Host.Outcome State Fault Refusal :=
  onTaken lane seq (fun t => t.kind == 0x21 && t.f 0x20 22 22 == 1) (fun d t => flushRecord d t 0x10) s

end Sys2Proof.Machine
end

