-- ==== Sys2Proof/Machine/Ports.lean ====
section
/-! DEFINITION. The network ports (R580 to R617): training and port states, link words, link retry and credits, priority
flow control, classification and policing at ingress, gate lists and egress scheduling. -/

namespace Sys2Proof.Machine

open Sys2Proof

/-! ## Ports and their registers -/

/-- A field of a port's registers. -/
def portImg (d : Dev) (p off hi lo : Nat) : Nat := img d (0x200000 + p * 0x10000 + off) hi lo
/-- MODE (R580). -/
def portMode (d : Dev) (p : Nat) : Nat := portImg d p 0 1 0
/-- LLR_TIMEOUT in ns. -/
def llrNs (d : Dev) (p : Nat) : Nat := portImg d p 0 15 8 * 10
/-- CREDIT_STALL_US in ns. -/
def stallNs (d : Dev) (p : Nat) : Nat := portImg d p 8 16 0 * 1000
/-- Credits of a VC's part of the ingress buffer (R592). -/
def vcCredits (v : Nat) : Nat := if v == 0 then 1024 else 512
/-- Add to entry `v` of a list of running totals modulo 2^16 (R588). -/
def addTotal (l : List Nat) (v n : Nat) : List Nat := l.set v ((l.getD v 0 + n) % 65536)
/-- Credits that a frame of `n` bytes consumes (R592). -/
def creditsOf (n : Nat) : Nat := (n + 255) / 256
/-- Frame bytes without preamble and gap (R592, R613). -/
def PortFrame.bytes (f : PortFrame) : Nat := f.wire - 20

/-- A unit detection of a port (R682). -/
def portFault (d : Dev) (p v cause : Nat) : Dev := detect d 0x09 (p + 256 * v) cause 0 0

/-- Send a link word; its FSEQ names the next frame (R588). -/
def sendLinkWord (d : Dev) (p type body : Nat) : Dev := emit d (.linkWord p (linkWord (portAt d p).nextFseq type body))

/-- The running totals of a CREDIT word (R588). -/
def creditBody (x : Port) : Nat := x.freed.getD 0 0 + x.freed.getD 1 0 * 2 ^ 16 + x.freed.getD 2 0 * 2 ^ 32

/-! ## Gate lists (R605, R606) -/

/-- An entry as it stands in time: class G shed, B_OPEN, its first and last time. -/
structure GateEntry where
  g : Bool
  open_ : Nat
  from_ : Nat
  till : Nat
deriving DecidableEq, Repr

/-- The entry of a list that covers time `t`, from entry `k` that begins at `at_`; `fuel` bounds the entries. -/
def gateFind (d : Dev) (p l t : Nat) : Nat → Nat → Nat → Option GateEntry
  | 0, _, _ => none
  | f + 1, k, at_ =>
    let e := at_ + img d (gEntry p l k) 23 0
    if t < e then some {
      g := img d (gEntry p l k) 24 24 == 1
      open_ := img d (gEntry p l k) 39 32
      from_ := at_
      till := e }
    else gateFind d p l t f (k + 1) e

/-- The entry of list `l` with start `s` that covers time `t` (R606). -/
def gateAt (d : Dev) (p l s t : Nat) : Option GateEntry :=
  let cyc := img d (gList p l) 23 0
  if cyc == 0 || t < s then none
  else gateFind d p l t (img d (gList p l) 30 24) 0 (t - (t - s) % cyc)

/-- The entry in force at a time: of the list in force, and from a pending switchover's time of its list (R606, R608). -/
def gateNow (d : Dev) (p t : Nat) : Option GateEntry :=
  let x := portAt d p
  match x.pending with
  | some (l, at_) => if at_ ≤ t then gateAt d p l at_ t else gateAt d p x.active x.gateStart t
  | none => gateAt d p x.active x.gateStart t

/-- GUARD of a port's mode (R580). -/
def guardNs (d : Dev) (p : Nat) : Nat := if portMode d p == 2 then 50 else 30

/-- The guard before a class G shed holds (R604, R608): the entry in force is none, and the one that follows it is. -/
def inGuard (d : Dev) (p : Nat) : Bool :=
  match gateNow d p (now d) with
  | none => false
  | some e =>
    let e2 := match (portAt d p).pending with
      | some (_, at_) => if now d < at_ then min e.till at_ else e.till
      | none => e.till
    !e.g && e2 ≤ now d + guardNs d p && (match gateNow d p e2 with | some n => n.g | none => false)

/-! ## Credits and pauses (R592, R594, R596) -/

/-- The peer's free credits on a VC. -/
def vcFree (x : Port) (v : Nat) : Nat := vcCredits v - (x.used.getD v 0 + 65536 - x.peerFreed.getD v 0) % 65536

/-- A frame has credits: enough of them, and for class B more than G_RESERVE left; in mode 2 no pause holds. -/
def hasCredits (d : Dev) (p : Nat) (x : Port) (f : PortFrame) : Bool :=
  if portMode d p == 2 then match x.paused.getD f.vc none with
    | some t => t ≤ now d
    | none => true
  else
    let n := creditsOf f.bytes
    n ≤ vcFree x f.vc && (f.cls == .g || portImg d p 8 40 32 < vcFree x f.vc - n)

/-- Note which VCs wait for credits, and since when (R594). -/
def noteWaits (d : Dev) (p : Nat) : Dev :=
  let x := portAt d p
  if x.state != .up then d else
  let blocked (v : Nat) : Bool :=
    let fs := x.queue.filter (fun f => f.vc == v)
    !fs.isEmpty && fs.all (fun f => !hasCredits d p x f)
  setPort d p { x with
    waitSince := (List.range 3).map (fun v => if blocked v then some ((x.waitSince.getD v none).getD (now d)) else none)
    vcWait := (List.range 3).map (fun v => blocked v && x.vcWait.getD v false) }

/-- A VC has waited for CREDIT_STALL_US (R594). -/
def execCreditStall (port vc : Nat) (s : State) : Host.Outcome State Fault Refusal :=
  onDev (fun d =>
    let d := noteWaits d port
    let x := portAt d port
    match x.waitSince.getD vc none with
    | none => d
    | some t =>
      if x.state != .up || x.vcWait.getD vc false || now d < t + stallNs d port then d
      else portFault (ctrInc (setPort d port { x with vcWait := x.vcWait.set vc true }) (cPort port 0x1068)) port vc 0x804) s

/-! ## Port states (R589, R597) -/

/-- A port begins training (R597): with MODE 0 it stays OFF. -/
def startPort (d : Dev) (p : Nat) : Dev :=
  if portMode d p == 0 then d else setPort d p { portAt d p with state := .training }

/-- Training ends (R587, R589, R597). -/
def execPortTrainingDone (port : Nat) (pass : Bool) (rttNs : Nat) (s : State) : Host.Outcome State Fault Refusal :=
  onDev (fun d =>
    let x := portAt d port
    if x.state != .training then d
    else if pass then
      post (setPort d port { x with
        state := .up
        laneLock := 15
        rttNs := min rttNs 1023
        llrOn := portMode d port == 1 && rttNs ≤ 600 && rttNs + 64 < llrNs d port
        nextFseq := 0
        expectFseq := 0
        nacking := false
        peerFreed := [0, 0, 0]
        used := [0, 0, 0]
        freed := [0, 0, 0]
        paused := [none, none, none]
        xoff := [none, none, none] }) (rbPort port)
    else
      ctrInc (portFault (setPort d port { x with state := .down, downSince := now d, laneLock := 0 }) port 0 0x802)
        (cPort port 0x1080)) s

/-- 100 ms in DOWN: training starts again. DEDUCED (log entry 109): after the loss of an UP port too, for which R597 names no other way back. -/
def execPortRetrainTimer (port : Nat) (s : State) : Host.Outcome State Fault Refusal :=
  onDev (fun d =>
    let x := portAt d port
    if x.state == .down && x.downSince + 100000000 ≤ now d then startPort d port else d) s

/-- The next port that is up, in ascending cyclic order; never the selvedge link (R540, R581). -/
def nextUp (d : Dev) (p : Nat) : Option Nat :=
  ((List.range 7).map (fun i => (p + 1 + i) % 8)).find? (fun q => (portAt d q).state == .up && !(q == 7 && selvedgePort d))

/-- Move every path off a port that went down (R540). -/
def movePaths (d : Dev) (p : Nat) : Dev := match nextUp d p with
  | none => d
  | some q =>
    let move (c : Conn) : Conn := c.pathList.foldl (fun c k =>
      if c.port k == p then { c with
        egress := c.egress - p * 2 ^ (3 * k) + q * 2 ^ (3 * k)
        txEpoch := c.txEpoch.set k (c.txEpoch.getD k 0 + 1) }
      else c) c
    { d with weft := { d.weft with conns := d.weft.conns.map move } }

/-- An UP port loses its lanes or its link words (R540, R597): the readiness bit goes, and bookings stay (R121). -/
def execPortLinkLoss (port : Nat) (s : State) : Host.Outcome State Fault Refusal :=
  onDev (fun d =>
    let x := portAt d port
    if x.state != .up then d else
    let d := unpost (setPort d port { x with
      state := .down
      downSince := now d
      llrOn := false
      laneLock := 0
      replay := []
      resend := []
      nacking := false
      ingress := [0, 0, 0]
      vcWait := [false, false, false]
      waitSince := [none, none, none] }) (rbPort port)
    movePaths (ctrInc (portFault d port 0 0x801) (cPort port 0x1080)) port) s

/-! ## Link words and link retry (R588 to R591) -/

/-- Whether FSEQ `a` stands at or before `b` (modulo 4,096). -/
def fseqLe (a b : Nat) : Bool := (b + 4096 - a) % 4096 < 2048

/-- The meaning of a link word of one type on an UP port of mode 1; a word whose CHECK fails is ignored (R588). -/
def onLinkWord (type port : Nat) (w : BitVec 96) (f : Dev → Port → Nat → Dev) (s : State) :
    Host.Outcome State Fault Refusal :=
  onDev (fun d =>
    let x := portAt d port
    if lwOk w && lwType w == type && portMode d port == 1 && x.state == .up then f d x (lwBody w) else d) s

/-- ACK: the frames up to the one named leave the replay store (R588, R590). -/
def execLinkWordAck (port : Nat) (word : BitVec 96) (s : State) : Host.Outcome State Fault Refusal :=
  onLinkWord 1 port word (fun d x body =>
    let n := body % 4096
    setPort d port { x with
      replay := x.replay.filter (fun f => !fseqLe f.fseq n)
      resend := x.resend.filter (fun f => !fseqLe f n) }) s

/-- Replay from a frame (R591): frames that have had LLR_MAX replays are removed first, with a SKIP to the next one. -/
def startReplay (d : Dev) (p from_ : Nat) : Dev :=
  let x := portAt d p
  let fs := x.replay.filter (fun f => fseqLe from_ f.fseq)
  let dead := fs.filter (fun f => portImg d p 0 6 4 ≤ f.replays)
  let stay := fs.filter (fun f => f.replays < portImg d p 0 6 4)
  let d := setPort d p { x with
    replay := x.replay.filter (fun f => !dead.any (fun g => g.fseq == f.fseq))
    resend := stay.map (·.fseq)
    used := dead.foldl (fun u f => addTotal u f.vc (65536 - creditsOf f.bytes)) x.used }
  let d := dead.foldl (fun d _ => portFault (ctrInc d (cPort p 0x1048)) p 0 0x803) d
  let d := if dead.isEmpty && !fs.isEmpty then d
    else sendLinkWord d p 5 (match stay.head? with | some f => f.fseq | none => x.nextFseq)
  if stay.isEmpty then d else ctrInc d (cPort p 0x1040)

/-- NACK: a replay from the frame named, unless one is under way (R591). -/
def execLinkWordNack (port : Nat) (word : BitVec 96) (s : State) : Host.Outcome State Fault Refusal :=
  onLinkWord 2 port word (fun d x body => if x.llrOn && x.resend.isEmpty then startReplay d port (body % 4096) else d) s

/-- CREDIT: the peer's totals of freed credits (R588, R592). -/
def execLinkWordCredit (port : Nat) (word : BitVec 96) (s : State) : Host.Outcome State Fault Refusal :=
  onLinkWord 3 port word (fun d x body =>
    noteWaits (setPort d port { x with peerFreed := [bits body 15 0, bits body 31 16, bits body 47 32] }) port) s

/-- LANE: a lane is found in training (R587, R588). -/
def execLinkWordLane (port : Nat) (word : BitVec 96) (s : State) : Host.Outcome State Fault Refusal :=
  onDev (fun d =>
    let x := portAt d port
    let i := lwBody word % 4
    if lwOk word && lwType word == 4 && portMode d port == 1 && x.state == .training && !bitOf x.laneLock i then
      setPort d port { x with laneLock := x.laneLock + 2 ^ i }
    else d) s

/-- SKIP: the receiver expects the frame named next (R588, R591). -/
def execLinkWordSkip (port : Nat) (word : BitVec 96) (s : State) : Host.Outcome State Fault Refusal :=
  onLinkWord 5 port word (fun d x body =>
    if x.llrOn then setPort d port { x with expectFseq := body % 4096, nacking := false } else d) s

/-- The oldest frame has gone LLR_TIMEOUT without an ACK (R591). -/
def execLlrTimeout (port : Nat) (s : State) : Host.Outcome State Fault Refusal :=
  onDev (fun d =>
    let x := portAt d port
    match x.replay.head? with
    | none => d
    | some f =>
      if x.state != .up || !x.llrOn || !x.resend.isEmpty || now d < f.sentAt + llrNs d port then d
      else startReplay d port f.fseq) s

/-! ## Ingress (R583, R590, R592, R593, R599, R612 to R614) -/

/-- Colours of R613. -/
inductive Colour where
  | green
  | yellow
  | red
deriving DecidableEq, Repr

/-- The policer of a class marks a frame of `n` bytes and fills its buckets up to now (R613): both are kept as what is
missing from them. -/
def police (d : Dev) (p c n : Nat) (yellow : Bool) : Colour × Dev :=
  let x := portAt d p
  let a := 0xA00 + 0x20 * c
  let mode := portImg d p a 1 0
  let aware := portImg d p a 2 2 == 1
  let ticks := (now d - x.policedAt.getD c 0) / 10
  let capC := portImg d p (a + 0x10) 31 0 * 800
  let capE := portImg d p (a + 0x18) 31 0 * 800
  let gainC := ticks * portImg d p (a + 8) 20 0
  let gainE := if mode == 2 then ticks * portImg d p (a + 8) 52 32 else gainC - x.deficitC.getD c 0
  let missC := x.deficitC.getD c 0 - gainC
  let missE := x.deficitE.getD c 0 - gainE
  let b := n * 800
  let tc := capC - missC
  let te := capE - missE
  let keep (mc me : Nat) : Dev := setPort d p { x with
    deficitC := x.deficitC.set c mc
    deficitE := x.deficitE.set c me
    policedAt := x.policedAt.set c (now d) }
  if mode == 1 then
    if (!aware || !yellow) && b ≤ tc then (.green, keep (missC + b) missE)
    else if b ≤ te then (.yellow, keep missC (missE + b))
    else (.red, keep missC missE)
  else if mode == 2 then
    if te < b then (.red, keep missC missE)
    else if (aware && yellow) || tc < b then (.yellow, keep missC (missE + b))
    else (.green, keep (missC + b) (missE + b))
  else (.green, d)

/-- A dropped frame gives its credits back at once (R593, R614). -/
def dropFrame (d : Dev) (p : Nat) (f : Frame) : Dev :=
  if portMode d p != 1 || 2 < f.vc then d else
  let x := portAt d p
  let d := setPort d p { x with freed := addTotal x.freed f.vc (creditsOf f.bytes) }
  sendLinkWord d p 3 (creditBody (portAt d p))

/-- A port sends XOFF when a VC's occupancy passes 3/4 of its credits (R596). -/
def xoffCheck (d : Dev) (p v : Nat) : Dev :=
  let x := portAt d p
  if portMode d p == 2 && (x.xoff.getD v none).isNone && 3 * vcCredits v < 4 * x.ingress.getD v 0 then
    ctrInc (emit (setPort d p { x with xoff := x.xoff.set v (some (now d)) }) (.pfc p v 0xFFFF)) (cPort p 0x1070)
  else d

/-- The filter of R583 and R599 accepts a frame. -/
def frameOurs (d : Dev) (p : Nat) (f : Frame) : Bool :=
  f.toMac && f.toIp && !f.vlan && !f.extHdr && f.vc != 3 && (f.kind == .weft || f.kind == .line ||
    (f.kind == .selvedge && p == 7 && selvedgePort d))

/-- A frame past the link's own checks: filter, policer, ingress buffer. -/
def acceptFrame (d : Dev) (p : Nat) (f : Frame) : Dev :=
  if f.kind == .neighborSolicitation || (f.kind == .pfc && portMode d p == 2) then d
  else if !frameOurs d p f then dropFrame (ctrInc d (cPort p 0x1020)) p f
  else
    let r := police d p f.tc f.bytes f.yellow
    let d := r.2
    let x := portAt d p
    match r.1 with
    | .red => dropFrame (ctrInc d (cPort p 0x1050)) p f
    | c =>
      if c == .yellow && portImg d p 8 55 48 * vcCredits f.vc ≤ 256 * x.ingress.getD f.vc 0 then
        dropFrame (ctrInc d (cPort p 0x1058)) p f
      else
        let d := setPort d p { x with ingress := x.ingress.set f.vc (x.ingress.getD f.vc 0 + creditsOf f.bytes) }
        xoffCheck (ctrAdd (ctrInc d (cPort p 0x1010)) (cPort p 0x1018) (f.bytes + 20)) p f.vc

/-- A frame arrives: FEC, FCS and link sequence first (R590, R595). -/
def execIngressFrame (port : Nat) (f : Frame) (s : State) : Host.Outcome State Fault Refusal :=
  onDev (fun d =>
    let x := portAt d port
    if x.state != .up then d else
    let d := ctrAdd d (cPort port 0x1030) f.fecCorrected
    if !f.fecOk || !f.fcsOk then
      let d := ctrInc d (cPort port (if f.fecOk then 0x1028 else 0x1038))
      if x.llrOn then sendLinkWord (setPort d port { x with nacking := true }) port 2 x.expectFseq else d
    else if !x.llrOn then acceptFrame d port f
    else if f.fseq != x.expectFseq then
      if x.nacking || fseqLe f.fseq x.expectFseq then d
      else sendLinkWord (setPort d port { x with nacking := true }) port 2 x.expectFseq
    else
      let d := setPort d port { x with expectFseq := (x.expectFseq + 1) % 4096, nacking := false }
      acceptFrame (sendLinkWord d port 1 f.fseq) port f) s

/-- The device takes every frame from a port's ingress buffer and returns its credits (R593), or ends its XOFF (R596). -/
def takeIngress (d : Dev) (p : Nat) : Dev :=
  let x := portAt d p
  if x.state != .up then d else
  let some_ := x.ingress.any (· != 0)
  let d := setPort d p { x with
    ingress := [0, 0, 0]
    freed := (List.range 3).map (fun v => (x.freed.getD v 0 + x.ingress.getD v 0) % 65536) }
  if portMode d p == 1 then (if some_ then sendLinkWord d p 3 (creditBody (portAt d p)) else d)
  else (List.range 3).foldl (fun d v =>
    let x := portAt d p
    if (x.xoff.getD v none).isSome then
      ctrInc (emit (setPort d p { x with xoff := x.xoff.set v none }) (.pfc p v 0)) (cPort p 0x1070)
    else d) d

/-- A Neighbor Solicitation: answered when it asks for the port's address (R583). -/
def execNeighborSolicitation (port : Nat) (forUs : Bool) (s : State) : Host.Outcome State Fault Refusal :=
  onDev (fun d =>
    if (portAt d port).state != .up then d
    else if forUs then emit d (.neighborAdvertisement port) else ctrInc d (cPort port 0x1020)) s

/-- A priority flow control frame (R583, R596): quanta of 512 bit times at 800 Gb/s. -/
def execPfcFrame (port : Nat) (enable : List Bool) (quanta : List Nat) (s : State) : Host.Outcome State Fault Refusal :=
  onDev (fun d =>
    let x := portAt d port
    if x.state != .up then d
    else if portMode d port != 2 then ctrInc d (cPort port 0x1020)
    else
      let p := (List.range 3).map (fun v =>
        if !enable.getD v false then x.paused.getD v none
        else if quanta.getD v 0 == 0 then none
        else some (now d + divUp (quanta.getD v 0 * 64) 100))
      noteWaits (ctrInc (setPort d port { x with paused := p }) (cPort port 0x1078)) port) s

/-- A pause of the peer ends (R596). -/
def execPauseExpiry (port vc : Nat) (s : State) : Host.Outcome State Fault Refusal :=
  onDev (fun d =>
    let x := portAt d port
    match x.paused.getD vc none with
    | some t => if t ≤ now d then noteWaits (setPort d port { x with paused := x.paused.set vc none }) port else d
    | none => d) s

/-- XOFF is sent again every 20 µs while it holds (R596). -/
def execPfcXoffRefresh (port vc : Nat) (s : State) : Host.Outcome State Fault Refusal :=
  onDev (fun d =>
    let x := portAt d port
    match x.xoff.getD vc none with
    | some t =>
      if x.state != .up || now d < t + 20000 then d else
      ctrInc (emit (setPort d port { x with xoff := x.xoff.set vc (some (now d)) }) (.pfc port vc 0xFFFF)) (cPort port 0x1070)
    | none => d) s

/-! ## Egress scheduling (R602 to R604) -/

/-- Whether two waiting frames are packets of one message. -/
def sameMsg (a b : PortFrame) : Bool := a.dep.isSome && a.dep == b.dep

/-- Position in the queue of the first frame of the message that stands first; `pick` chooses among messages of one slack. -/
def firstOf (fs : List (PortFrame × Nat)) (pick : Nat) : Option (PortFrame × Nat) :=
  let best := fs.filter (fun f => !fs.any (fun g => placeBefore g.1.key f.1.key))
  match best.head? with
  | none => none
  | some b =>
    if b.1.key.due.isNone then some b else
    let heads := best.filter (fun f => !best.any (fun g => g.2 < f.2 && sameMsg g.1 f.1))
    heads[pick % max 1 heads.length]?

/-- The frame of a class that stands first: response, then completion, then request (R602). -/
def classHead (fs : List (PortFrame × Nat)) (c pick : Nat) : Option (PortFrame × Nat) :=
  let on (v : Nat) := firstOf (fs.filter (fun f => f.1.cls == .b && f.1.tc == c && f.1.vc == v)) pick
  match on 2 with
  | some f => some f
  | none => match on 1 with
    | some f => some f
    | none => on 0

/-- Give a tag to the frame at the head of each class that has none (R603). -/
def tagHeads (d : Dev) (p : Nat) : Port :=
  (List.range 8).foldl (fun x c =>
    match classHead x.queue.zipIdx c 0 with
    | none => { x with tags := x.tags.set c none }
    | some f =>
      if (x.tags.getD c none).isSome then x else
      let fc := x.finish.getD c 0
      let start := if 0 < (fc - x.vtime).toInt then fc else x.vtime
      let t := start + u64 (f.1.wire * 65536 / max 1 (portImg d p 0x30 (8 * c + 7) (8 * c)))
      { x with finish := x.finish.set c t, tags := x.tags.set c (some t) }) (portAt d p)

/-- The class with the lowest tag; equal tags go to the lower class (R603). -/
def lowestTag (x : Port) (cs : List Nat) : Option Nat :=
  cs.foldl (fun b c => match b with
    | none => some c
    | some a => if ((x.tags.getD c none).getD 0 - (x.tags.getD a none).getD 0).toInt < 0 then some c else b) none

/-- The frame that may start now, with its place in the queue (R602, R604). -/
def nextFrame (d : Dev) (p : Nat) (x : Port) (pick : Nat) : Option (PortFrame × Nat) :=
  let ready := x.queue.zipIdx.filter (fun f => hasCredits d p x f.1)
  match gateNow d p (now d) with
  | none => none
  | some e => match (if e.g then firstOf (ready.filter (fun f => f.1.cls == .g)) 0 else none) with
    | some f => some f
    | none =>
      if inGuard d p then none else
      let cs := (List.range 8).filter (fun c => bitOf e.open_ c && (classHead ready c 0).isSome)
      match lowestTag x cs with
      | none => none
      | some c => classHead ready c pick

/-- The connection and the message whose packet a frame is. -/
def frameMsg (d : Dev) (f : PortFrame) : Option (Conn × Msg) := match f.dep with
  | some (cn, msn) => (findConn d cn).bind (fun c => (c.msg? msn).map (fun m => (c, m)))
  | none => none

/-- BUDGET of a frame: that of its message's first byte, which counts from its departure (R75, R76, R77). -/
def frameBudget (d : Dev) (f : PortFrame) : Nat := match frameMsg d f with
  | some (c, m) => match m.budget, m.passOn with
    | some b, _ => b
    | none, some t => t - (now d + 20 + (if c.matched then c.flight else 0))
    | none, none => 0
  | none => 0

/-- The first byte of a message has left: its BUDGET stands (R76). -/
def keepBudget (d : Dev) (f : PortFrame) : Dev := match frameMsg d f with
  | some (c, m) => if m.budget.isSome then d else setConn d (c.setMsg { m with budget := some (frameBudget d f) })
  | none => d

/-- The frame as it leaves: BUDGET and TS (R76, R77, R516), HOLD_NS of a response (R532). -/
def filled (d : Dev) (f : PortFrame) : Out := match f.what with
  | .packet h hdr pl =>
    let budget := if hdr.op == 0x0B then 0 else frameBudget d f
    let pl := match f.ackAt, pl with
      | some t, .bytes b => Payload.bytes (patch b 4 (be (min (now d - t) 0xFFFFFFFF) 4))
      | _, q => q
    .packet h { hdr with ts := now32 d, budget := budget } pl
  | o => o

/-- A packet that leaves for the first time (R526): not a probe, not a repeated one. -/
def firstDeparture : Out → Bool
  | .packet _ h _ => !h.retx && h.op != 0x0B
  | _ => false

/-- The wire time of a frame in ps (R580). -/
def wirePs (d : Dev) (p n : Nat) : Nat := n * (if portMode d p == 2 then 10 else 5)

/-- Put a frame on the wire. -/
def onWire (d : Dev) (p : Nat) (f : PortFrame) : Dev :=
  let x := portAt d p
  let d := setPort d p { x with busyPs := max x.busyPs (now d * 1000) + wirePs d p f.wire }
  emit (ctrAdd d (cPort p 0x1008) f.wire) f.what

/-- Start a new frame (R590, R602, R603). -/
def startFrame (d : Dev) (p : Nat) (x : Port) (f : PortFrame) (i : Nat) : Dev :=
  let g := { f with what := filled d f, fseq := x.nextFseq, sentAt := now d }
  let d := keepBudget d f
  let tag := x.tags.getD f.tc none
  let d := setPort d p { x with
    queue := x.queue.take i ++ x.queue.drop (i + 1)
    vtime := if f.cls == .b then tag.getD x.vtime else x.vtime
    tags := if f.cls == .b then x.tags.set f.tc none else x.tags
    used := if portMode d p == 1 then addTotal x.used f.vc (creditsOf f.bytes) else x.used
    nextFseq := if portMode d p == 1 then (x.nextFseq + 1) % 4096 else 0
    replay := if x.llrOn then x.replay ++ [g] else x.replay }
  let d := onWire (ctrInc d (cPort p 0x1000)) p g
  let d := if f.cls == .g then ctrInc d (cPort p 0x1090) else d
  match f.dep with
  | some (cn, msn) => if firstDeparture f.what then frameLeft d cn msn else d
  | none => d

/-- Replay one frame of the store (R591). -/
def replayFrame (d : Dev) (p : Nat) (x : Port) (n : Nat) (rest : List Nat) : Dev :=
  match x.replay.find? (fun f => f.fseq == n) with
  | none => setPort d p { x with resend := rest }
  | some f =>
    let f := { f with replays := f.replays + 1, sentAt := now d }
    onWire (setPort d p { x with resend := rest, replay := replaceFirst (fun g => g.fseq == n) f x.replay }) p f

/-- The link is free: a replay goes on, or the next frame starts (R591, R602). -/
def execEgressFrameStart (port pick : Nat) (s : State) : Host.Outcome State Fault Refusal :=
  onDevC (fun d =>
    if (portAt d port).state != .up then d else
    match (portAt d port).resend with
    | n :: rest => replayFrame d port (portAt d port) n rest
    | [] =>
      let x := tagHeads d port
      let d := setPort d port x
      match nextFrame d port x pick with
      | none => noteWaits d port
      | some (f, i) =>
        if x.llrOn && 131072 < (x.replay.map PortFrame.bytes).sum + f.bytes then d
        else noteWaits (startFrame d port x f i) port) s

/-! ## Gate switchover (R604, R606 to R608) -/

/-- A class B frame with an open class waits in a guard. -/
def guardHolds (d : Dev) (p : Nat) : Bool :=
  let x := portAt d p
  x.state == .up && inGuard d p && (match gateNow d p (now d) with
    | some e => x.queue.any (fun f => f.cls == .b && bitOf e.open_ f.tc && hasCredits d p x f)
    | none => false)

/-- Count what a port idles in guards (R617). -/
def noteGuard (d : Dev) (p : Nat) : Dev :=
  let x := portAt d p
  match x.guardFrom with
  | some t =>
    if inGuard d p then d
    else ctrAdd (setPort d p { x with guardFrom := none }) (cPort p 0x1088) (now d - max t (divUp x.busyPs 1000))
  | none => if guardHolds d p then setPort d p { x with guardFrom := some (now d) } else d

/-- A gate list entry or its guard begins (R604, R606). -/
def execGateEntryBoundary (port : Nat) (s : State) : Host.Outcome State Fault Refusal :=
  onDev (fun d => if (portAt d port).state == .up then noteGuard d port else d) s

/-- Why a switchover is refused (R607). -/
def gateRefused (d : Dev) (p l t : Nat) : Nat :=
  let x := portAt d p
  if 4 ≤ l || img d (gList p l) 31 31 == 0 || x.active == l then St.gateList
  else if t < now d + 100000 || (t - x.gateStart) % img d (gList p x.active) 23 0 != 0 then St.gateTime
  else if x.pending.isSome then St.gatePending
  else St.ok

/-- A signed GATE_SWITCH (R118, R119, R607). -/
def signedGateSwitch (d : Dev) (h : SigHdr) (p l t : Nat) : Nat × Dev :=
  signedDo d h qGate false (if 8 ≤ p then St.recordInvalid else gateRefused d p l t) (fun d =>
    reportOver (setPort d p { portAt d p with pending := some (l, t) }) (lPRT p) t 0x09 p 0x230 false)

/-- GATE_SWITCH. -/
def execGateSwitch (h : SigHdr) (port list at_ : Nat) (s : State) : Host.Outcome State Fault Refusal :=
  onSigned (fun d => signedGateSwitch d h port list at_) s

/-- The pending list comes into force at its time (R608). -/
def execGateSwitchover (port : Nat) (s : State) : Host.Outcome State Fault Refusal :=
  onDev (fun d =>
    let x := portAt d port
    match x.pending with
    | some (l, t) =>
      if now d < t then d
      else ctrInc (setPort d port { x with active := l, gateStart := t, pending := none }) (cPort port 0x1060)
    | none => d) s

/-- While a frame is wanted again, link words carry NACK (R590). -/
def nackAgain (d : Dev) (p : Nat) : Dev :=
  if (portAt d p).nacking then sendLinkWord d p 2 (portAt d p).expectFseq else d

/-- What a reference edge does at a port: frames taken, a NACK repeated, waits and guards noted. DEDUCED (log entry 108): credits and SKIP
still go out in their words while a NACK stands (R591, R593). -/
def portTick (d : Dev) (p : Nat) : Dev :=
  if (portAt d p).state == .up then noteGuard (noteWaits (nackAgain (takeIngress d p) p) p) p else d

end Sys2Proof.Machine
end

