-- ==== Sys2Proof/Machine/Lines.lean ====
section
/-! DEFINITION. Memory-semantic access (R553 to R571): line packets and their checks, the target, line queues and the issuer. -/

namespace Sys2Proof.Machine

open Sys2Proof

/-! ## Line packets (R553 to R557) -/

/-- VER, OP, reserved bits, payload length, alignment, POISON and RESEND of a line packet (R554, R556). -/
def lineFormOk (p : LinePkt) : Bool :=
  let h := p.hdr
  h.ver == 1 && [0x01, 0x02, 0x81, 0x82, 0x83].contains h.op && !h.rsvd &&
  p.payload.length == (if h.op == 0x02 || h.op == 0x81 then 64 else 0) && h.raddr % 64 == 0 &&
  (!h.poison || h.op == 0x81) && (!h.resend || h.op == 0x01)

/-- The checks of a received line packet (R521, R525, R556): its connection when it passes. -/
def lineCheck (d : Dev) (p : LinePkt) : Option Conn × Dev :=
  let no : Option Conn × Dev := (none, ctrInc d cMsaRxDropped)
  if !lineFormOk p || !isReady d rbTransport then no else
  match findAssoc d p.hdr.sa with
  | none => no
  | some a =>
    if !pnFresh a p.hdr.pn || !p.tagOk then no else
    let d := { d with sec := { d.sec with
      assocs := replaceFirst (fun x => x.index == p.hdr.sa && x.established) (pnTake a p.hdr.pn) d.sec.assocs } }
    match findConn d p.hdr.conn with
    | none => (none, ctrInc d cMsaRxDropped)
    | some c => if c.state == .destroying || c.peerIp != p.srcIp then (none, ctrInc d cMsaRxDropped) else (some c, d)

/-- The meaning of a line packet's command. -/
def onLine (op : Nat) (f : Dev → Conn → LinePkt → Dev) (p : LinePkt) (s : State) : Host.Outcome State Fault Refusal :=
  onDevC (fun d => if p.hdr.op != op then d else match lineCheck d p with
    | (some c, d) => f d c p
    | (none, d) => d) s

/-! Fields of a TAG (R554). -/
def tagAgent (t : U32) : Nat := bits t.toNat 5 0
def tagSlot (t : U32) : Nat := bits t.toNat 14 6

/-- Send a line packet of a connection on the enabled path of index (slot mod N) (R553, R557, R600). -/
def sendLine (d : Dev) (c : Conn) (vc : Nat) (h : LineHdr) (bs : Bytes) : Dev :=
  let ps := c.pathList
  let path := ps.getD (tagSlot h.tag % max 1 ps.length) 0
  match takePn d c.saTx with
  | none => d
  | some (pn, d) =>
    let h := { h with sa := c.saPeer, pn := pn, conn := c.peerConn }
    queueFrame d (c.port path) {
      cls := .b
      tc := c.tc
      vc := vc
      wire := 134 + bs.length
      line := true
      key := { arrival := now d }
      what := .line (frameHead d c path vc (img d 0x1C0000 15 0)) h bs }

/-! ## At the target (R558 to R564) -/

/-- What a line request reaches: bytes of WORK, of the intake window, or nothing with a status. -/
inductive LineAt where
  | work (addr owner : Nat)
  | intake (off : Nat)
  | no (status : Nat)
deriving DecidableEq, Repr

/-- The areas of the requests of an owner that grant an operation (R270, R275, R276, R286, R559): base and size. -/
def lineAreas (d : Dev) (o : Nat) (write : Bool) : List (Nat × Nat) :=
  (d.reqs.live.filter (fun r => r.core.owner == o)).flatMap (fun r =>
    if r.gen then
      match r.windowBase with
      | some b => if r.state == .waiting || r.state == .decoding then
          [(b, r.shape.layers * r.wslots * pageBytes r.shape)] else []
      | none => []
    else if r.state == .prefill then
      (landingBase r.slot, 0x20000000) :: (match r.viewBase with
        | some b => if write then [] else [(b, r.shape.layers * r.prefixPages * pageBytes r.shape)]
        | none => [])
    else [])

/-- Where a line request goes: the key check of R548, or area access (R558, R559). -/
def lineTarget (d : Dev) (c : Conn) (h : LineHdr) (write : Bool) : LineAt :=
  if h.rkey != 0 then match keyCheck d c h.rkey h.raddr 64 write with
    | .inr st => .no st
    | .inl r => if r.intakeTarget then .intake (r.base + h.raddr) else .work (r.base + h.raddr) r.owner
  else if (lineAreas d c.owner write).any (fun a => a.1 ≤ h.raddr && h.raddr + 64 ≤ a.1 + a.2) then .work h.raddr c.owner
  else .no St.access

/-- Answer a line request (R557, R600). -/
def lineAnswer (d : Dev) (c : Conn) (p : LinePkt) (op status : Nat) (poison : Bool) (bs : Bytes) : Dev :=
  sendLine (if op == 0x83 then ctrInc d cMsaNakSent else d) c 2 { op := op, tag := p.hdr.tag, status := status, poison := poison } bs

/-- A LINE_RD arrives (R558 to R561, R563). -/
def execLineRd (p : LinePkt) (errs : SymbolErrors) (busy : Bool) (s : State) : Host.Outcome State Fault Refusal :=
  onLine 0x01 (fun d c p =>
    if c.state == .error then d else
    match lineTarget d c p.hdr false with
    | .no st => lineAnswer d c p 0x83 st false []
    | x =>
      if busy then lineAnswer d c p 0x83 St.msaBusy false [] else
      match x with
      | .intake off => lineAnswer (ctrInc d cMsaRdServed) c p 0x81 St.ok false (windowRead d off 64)
      | .work a _ =>
        if d.sec.zeroized then lineAnswer d c p 0x83 St.zeroized false [] else
        let r := readSasLine d (a / 4096) (a % 4096 / 64) errs
        let d := ctrInc r.2 cMsaRdServed
        if r.1 == .bad then
          lineAnswer (faultOp d { owner := c.owner, intake := false } 0x410 St.stackUncorrectable 0 0) c p 0x81
            St.stackUncorrectable true (List.replicate 64 0xFF)
        else lineAnswer d c p 0x81 St.ok false (workRead d a 64)
      | .no _ => d) p s

/-- The landing page that a line of WORK belongs to (R270): request, layer, slot, line. -/
def landingLine (d : Dev) (a : Nat) : Option (Req × Nat × Nat × Nat) :=
  match d.reqs.live.find? (fun r => !r.gen && landingBase r.slot ≤ a && a < landingBase r.slot + 0x20000000) with
  | none => none
  | some r =>
    let off := a - landingBase r.slot
    let pb := pageBytes r.shape
    let n := Req.landPages d r
    if off < 4096 || pb == 0 || n == 0 then none else
    let k := (off - 4096) / pb
    if k < r.shape.layers * n then some (r, k / n, k % n, (off - 4096) % pb / 64) else none

/-- Write a line of WORK (R271 to R274, R562): its status. -/
def lineStore (d : Dev) (owner a : Nat) (bs : Bytes) : Nat × Dev :=
  match landingLine d a with
  | none => match workWrite d owner a bs with
    | some d => (St.ok, d)
    | none => (St.sasFull, d)
  | some (r, l, k, line) =>
    let x := Req.landPage d r l k
    if r.pageComplete x then (St.landingBusy, d) else
    match workWrite d owner a bs with
    | none => (St.sasFull, d)
    | some d =>
      let x := { x with lines := if x.lines.contains line then x.lines else line :: x.lines }
      let r := Req.setLanding d r x
      (St.ok, setReq d (if r.pageComplete x then { r with ready := r.ready ++ [(x.layer, x.page)] } else r))

/-- A LINE_WR arrives (R558 to R564). -/
def execLineWr (p : LinePkt) (busy : Bool) (s : State) : Host.Outcome State Fault Refusal :=
  onLine 0x02 (fun d c p =>
    if c.state == .error then d
    else if d.flt.custody != .normal then lineAnswer d c p 0x83 St.custody false []
    else match lineTarget d c p.hdr true with
      | .no st => lineAnswer d c p 0x83 st false []
      | x =>
        if busy then lineAnswer d c p 0x83 St.msaBusy false [] else
        match x with
        | .intake off => lineAnswer (ctrInc (windowWrite d off p.payload true) cMsaWrServed) c p 0x82 St.ok false []
        | .work a o =>
          let r := lineStore d o a p.payload
          if r.1 == St.ok then lineAnswer (ctrInc r.2 cMsaWrServed) c p 0x82 St.ok false []
          else lineAnswer r.2 c p 0x83 r.1 false []
        | .no _ => d) p s

/-! ## At the issuer (R565 to R571) -/

/-- An owner's line queue. -/
def findLq (d : Dev) (o : Nat) : Option LineQueue := d.lines.queues.find? (·.owner == o)
/-- Store it. -/
def setLq (d : Dev) (q : LineQueue) : Dev :=
  { d with lines := { d.lines with queues := replaceFirst (fun x => x.owner == q.owner) q d.lines.queues } }
/-- The agent of an owner (R567). -/
def lineAgent (o : Nat) : Nat := if o == 64 then 0 else o
/-- DEAD_US in ns. -/
def deadNs (d : Dev) : Nat := img d 0x1C0000 24 16 * 1000

/-- Write a descriptor's completion (R568). -/
def lineResult (d : Dev) (x : LineDesc) (status : Nat) (poison : Bool) (line : Bytes) : Dev :=
  let bad := !x.write && (status != St.ok || poison)
  let d :=
    if x.write then d
    else if bad then hostWriteAttr d x.owner x.result (List.replicate 64 0xFF) true false
    else hostWrite d x.owner x.result line
  hostWrite d x.owner (x.result + 64) (le (status + 2 ^ 16 * bit1 bad + 2 ^ 32 * x.seq.toNat) 8)

/-- The lowest-numbered free issue slot of an agent. -/
def freeIssue (d : Dev) (ag : Nat) : Option Nat :=
  (List.range 256).find? (fun k => !d.lines.issues.any (fun i => i.agent == ag && i.slot == k))

/-- Issue slots of an agent in use or spoken for by descriptors that a fence keeps back. -/
def issueUse (d : Dev) (ag : Nat) : Nat :=
  (d.lines.issues.filter (fun i => i.agent == ag)).length +
    ((d.lines.queues.filter (fun q => lineAgent q.owner == ag)).map (fun q => q.waiting.length)).sum

/-- The request packet of a descriptor. -/
def lineRequest (x : LineDesc) (tag : U32) (resend : Bool) : LineHdr :=
  { op := if x.write then 0x02 else 0x01, tag := tag, rkey := x.rkey, raddr := x.raddr, resend := resend }

/-- Issue a descriptor (R554, R557, R568). -/
def lineIssue (d : Dev) (x : LineDesc) : Dev :=
  match findConn d x.conn with
  | none => lineResult d x St.weftConn false []
  | some c =>
    if c.state != .ready then lineResult d x St.weftConn false [] else
    let ag := lineAgent x.owner
    match freeIssue d ag with
    | none => d
    | some k =>
      let g := tgetD d.lines.gens (256 * ag + k) 0 + 1
      let tag := u32 (ag + k * 64 + g % 2 ^ 17 * 2 ^ 15)
      let d := { d with lines := { d.lines with
        issues := d.lines.issues ++ [{ tag := tag, agent := ag, slot := k, desc := x, issuedAt := now d }]
        gens := tset d.lines.gens (256 * ag + k) g } }
      sendLine (ctrInc d (if x.write then cMsaWrIssued else cMsaRdIssued)) c 0 (lineRequest x tag false)
        (if x.write then x.data else [])

/-- Issue an owner's taken descriptors in stamp order as far as fences let them (R566, R568), and end a teardown once all
have completed (R565); `fuel` bounds the descriptors. -/
def pumpLines (o : Nat) : Nat → Dev → Dev
  | 0, d => d
  | f + 1, d => match findLq d o with
    | none => d
    | some q =>
      let busy := d.lines.issues.any (fun i => i.desc.owner == o)
      match q.waiting with
      | [] =>
        if q.closing && !busy then { d with lines := { d.lines with queues := d.lines.queues.filter (fun x => x.owner != o) } }
        else d
      | x :: rest => if x.fence && busy then d else pumpLines o f (lineIssue (setLq d { q with waiting := rest }) x)

/-- Let an owner's queue go on. -/
def linesGo (d : Dev) (o : Nat) : Dev := match findLq d o with
  | some q => pumpLines o (q.waiting.length + 1) d
  | none => d

/-- The meaning of a write of MSA_LQ_SETUP: through the physical function, or the function of OWNER (R565, R625, R763); without
effect while any queue is being torn down, since BUSY reads 1 then (R14, R763). -/
def onLqSetup (fn : Nat) (v : U64) (f : Dev → Nat → Dev) (s : State) : Host.Outcome State Fault Refusal :=
  onDev (fun d =>
    let o := bits v.toNat 7 1
    if 64 < o then d
    else if fn != 64 && fn != o then ctrInc d cAccessRefused
    else if d.lines.queues.any (·.closing) then d
    else f d o) s

/-- Set up a line queue. -/
def execLineQueueSetup (fn : Nat) (value : U64) (s : State) : Host.Outcome State Fault Refusal :=
  onLqSetup fn value (fun d o =>
    let n := bits value.toNat 11 8
    if n < 6 || 12 < n then d else
    let q : LineQueue := { owner := o, log2 := n, base := bits value.toNat 63 12 * 4096 }
    let keep := match findLq d o with | some x => x.waiting | none => []
    { d with lines := { d.lines with
      queues := d.lines.queues.filter (fun x => x.owner != o) ++ [{ q with waiting := keep }] } }) s

/-- Tear a line queue down once its descriptors have completed. -/
def execLineQueueTeardown (fn : Nat) (value : U64) (s : State) : Host.Outcome State Fault Refusal :=
  onLqSetup fn value (fun d o =>
    if bits value.toNat 11 8 != 0 then d else
    match findLq d o with
    | none => d
    | some q => linesGo (setLq d { q with closing := true }) o) s

/-- The descriptor's reserved bits are zero and its line is aligned (R566, R567). -/
def descOk (b : Bytes) : Bool :=
  (fld b 0 7 0 == 1 || fld b 0 7 0 == 2) && fld b 1 7 1 == 0 && zeros b 2 4 && fld b 4 31 20 == 0 && zeros b 0x0C 0x10 &&
  fld b 0x10 63 48 == 0 && fld b 0x10 5 0 == 0 && zeros b 0x60 0x7C

/-- The descriptor that bytes hold (R566). -/
def descOf (o : Nat) (b : Bytes) : LineDesc := {
  owner := o
  seq := u32 (fld b 0x7C 31 0)
  write := fld b 0 7 0 == 2
  fence := fld b 1 0 0 == 1
  conn := fld b 4 19 0
  rkey := fld b 8 31 0
  raddr := fld b 0x10 47 0
  result := fld b 0x18 63 0
  data := sub b 0x20 64 }

/-- Read the slot at the expected stamp (R566, R567). -/
def readSlot (d : Dev) (q : LineQueue) : Dev :=
  emitReads d q.owner (q.base + q.expected.toNat % 2 ^ q.log2 * 128) 128

/-- Take the descriptor at the expected stamp: refuse it, or issue it in its turn (R567). -/
def takeDesc (d : Dev) (q : LineQueue) (b : Bytes) : Dev :=
  let x := descOf q.owner b
  let q := { q with expected := q.expected + 1 }
  let d := setLq d q
  let bad (st : Nat) : Dev := lineResult d x st false []
  let d :=
    if !descOk b then bad St.recordInvalid
    else match findConn d x.conn with
      | none => bad St.weftConn
      | some c =>
        if c.owner != q.owner then bad St.access
        else linesGo (setLq d { q with waiting := q.waiting ++ [x] }) q.owner
  readSlot d q

/-- A queue that takes descriptors: running, its owner's agent with a free slot (R567), its interface in normal operation. -/
def lqRuns (d : Dev) (o : Nat) : Option LineQueue := match findLq d o with
  | none => none
  | some q => if q.stalled || q.closing || !tdispNormal d o || 256 ≤ issueUse d (lineAgent o) then none else some q

/-- A slot was read: its difference from the expected stamp, when the queue runs. -/
def onSlot (o : Nat) (slot : HostData) (f : Dev → LineQueue → Bytes → Int → Dev) (s : State) :
    Host.Outcome State Fault Refusal :=
  onDevC (fun d => match lqRuns d o with
    | none => d
    | some q => match hostGot d o slot with
      | none => ctrInc (faultWrite d o { unit := false, cause := 0x811, first := now d, last := now d }) cHostReadFail
      | some b => f d q (fit b 128) (serialDiff (u32 (fld (fit b 128) 0x7C 31 0)) q.expected)) s

/-- The poll of a line queue (R567): it reads the slot; a stamp ahead of the expected one stops the queue, and a descriptor of no
defined operation is refused. -/
def execLineQueuePoll (owner : Nat) (slot : HostData) (s : State) : Host.Outcome State Fault Refusal :=
  onSlot owner slot (fun d q b x =>
    let d := readSlot d q
    if 0 < x then detectFor (setLq d { q with stalled := true }) owner 0x03 owner 0x711 0 0
    else if x == 0 && fld b 0 7 0 != 1 && fld b 0 7 0 != 2 then takeDesc d q b
    else d) s

/-- A read descriptor is taken. -/
def execLineRead (owner : Nat) (slot : HostData) (s : State) : Host.Outcome State Fault Refusal :=
  onSlot owner slot (fun d q b x => if x == 0 && fld b 0 7 0 == 1 then takeDesc d q b else d) s

/-- A write descriptor is taken. -/
def execLineWrite (owner : Nat) (slot : HostData) (s : State) : Host.Outcome State Fault Refusal :=
  onSlot owner slot (fun d q b x => if x == 0 && fld b 0 7 0 == 2 then takeDesc d q b else d) s

/-- The live issue of a tag. -/
def findIssue (d : Dev) (t : U32) : Option LineIssue := d.lines.issues.find? (·.tag == t)

/-- End an issue: its slot is free, its completion is written, and its queue goes on. -/
def endIssue (d : Dev) (i : LineIssue) (status : Nat) (poison : Bool) (line : Bytes) : Dev :=
  let d := { d with lines := { d.lines with issues := dropFirst (fun x => x.tag == i.tag) d.lines.issues } }
  linesGo (lineResult d i.desc status poison line) i.desc.owner

/-- A response ends the issue of its tag on its connection; any other is late (R571). -/
def lineResponse (ok : LineIssue → Bool) (d : Dev) (c : Conn) (p : LinePkt) : Dev :=
  match findIssue d p.hdr.tag with
  | none => ctrInc d cMsaLate
  | some i =>
    if i.desc.conn != c.num || !ok i then ctrInc d cMsaLate
    else endIssue d i p.hdr.status p.hdr.poison p.payload

/-- RD_DATA arrives. -/
def execRdData (p : LinePkt) (s : State) : Host.Outcome State Fault Refusal :=
  onLine 0x81 (lineResponse (fun i => !i.desc.write)) p s

/-- WR_DONE arrives. -/
def execWrDone (p : LinePkt) (s : State) : Host.Outcome State Fault Refusal :=
  onLine 0x82 (lineResponse (fun i => i.desc.write)) p s

/-- LINE_NAK arrives. -/
def execLineNak (p : LinePkt) (s : State) : Host.Outcome State Fault Refusal :=
  onLine 0x83 (lineResponse (fun _ => true)) p s

/-- A read without RD_DATA is sent again at 1/4, 2/4 and 3/4 of DEAD_US (R569). -/
def execLineReadResend (tag : U32) (s : State) : Host.Outcome State Fault Refusal :=
  onDevC (fun d => match findIssue d tag with
    | none => d
    | some i =>
      if i.desc.write || 3 ≤ i.resends || 4 * now d < 4 * i.issuedAt + (i.resends + 1) * deadNs d then d else
      match findConn d i.desc.conn with
      | none => endIssue d i St.weftConn false []
      | some c =>
        if c.state != .ready then endIssue d i St.weftConn false [] else
        let d := { d with lines := { d.lines with
          issues := replaceFirst (fun x => x.tag == tag) { i with resends := i.resends + 1 } d.lines.issues } }
        sendLine (ctrInc d cMsaResends) c 0 (lineRequest i.desc tag true) []) s

/-- DEAD_US passes without a response (R569, R570). -/
def execLineDeadTimeout (tag : U32) (s : State) : Host.Outcome State Fault Refusal :=
  onDevC (fun d => match findIssue d tag with
    | none => d
    | some i =>
      if now d < i.issuedAt + deadNs d then d else
      let fl := match findConn d i.desc.conn with | some c => c.peerFleet | none => 0xFFFFFF
      detectFor (ctrInc (endIssue d i St.msaTimeout false []) cMsaTimeouts) i.desc.owner 0x02 fl 0x710 0 0) s

end Sys2Proof.Machine
end

