-- ==== Sys2Proof/Machine/Checks.lean ====
section
/-! DEFINITION. The check-value units (R572 to R578). -/

namespace Sys2Proof.Machine

open Sys2Proof

/-- A check unit. -/
def checkAt (d : Dev) (u : Nat) : CheckUnit := d.checks.getD u {}
/-- Store it. -/
def setCheck (d : Dev) (u : Nat) (x : CheckUnit) : Dev := { d with checks := d.checks.set u x }

/-- A CONTINUE command may go on from the unit's state (R575). -/
def CheckUnit.chains (x : CheckUnit) (c : CheckCmd) : Bool := x.ok && x.poly == c.poly && x.owner == c.ref.owner

/-- The unit turns to the first command of its queue: one whose deadline has passed is abandoned, a CONTINUE that its state does not allow
is refused, and a host source is read (R85, R575, R627); `fuel` bounds those that end here. -/
def checkStart (u : Nat) : Nat → Dev → Dev
  | 0, d => d
  | f + 1, d =>
    let x := checkAt d u
    match x.queue with
    | [] => d
    | c :: rest =>
      if (match c.deadline with | some t => decide (t < now d) | none => false) then
        checkStart u f (expire (setCheck d u { x with queue := rest }) c.ref)
      else if c.cont && !x.chains c then checkStart u f (refuse (setCheck d u { x with queue := rest }) c.ref St.checkChain)
      else if c.sas then d
      else emitReads d c.ref.owner c.src c.len

/-- Carry out a CHECK record (R572, R574). -/
def checkRecord (d : Dev) (t : Taken) (cont : Bool) : Dev :=
  let o := laneOwner d t.lane
  let sas := t.f 0x28 48 48 == 1
  match recCheck d t true false none false true false with
  | some st => refuseTaken d t st
  | none =>
    let src := t.f 0x28 47 0
    let len := t.f 0x24 31 0
    if sas && !inStage d o src len then refuseTaken d t St.range else
    let u := t.f 0x20 3 0
    let x := checkAt d u
    let c : CheckCmd := { ref := t.ref d, deadline := t.deadline, poly := t.f 0x20 5 4, cont := cont, len := len, src := src, sas := sas }
    let d := setCheck (dropTaken d t) u { x with queue := x.queue ++ [c] }
    if x.queue.isEmpty then checkStart u 1 d else d

/-- CHECK. -/
def execCheck (lane : Nat) (seq : U32) (s : State) : Host.Outcome State Fault Refusal :=
  onTaken lane seq (fun t => t.kind == 0x30 && t.f 0x20 6 6 == 0) (fun d t => checkRecord d t false) s

/-- CHECK with CONTINUE. -/
def execCheckContinue (lane : Nat) (seq : U32) (s : State) : Host.Outcome State Fault Refusal :=
  onTaken lane seq (fun t => t.kind == 0x30 && t.f 0x20 6 6 == 1) (fun d t => checkRecord d t true) s

/-- What a command's source gives: its bytes, or the status of its failure (R299, R577). -/
def checkSource (d : Dev) (c : CheckCmd) (src : HostData) (errs : List LineErr) : (Bytes ⊕ Nat) × Dev :=
  if !c.sas then
    match hostGot d c.ref.owner src with
    | some b => (.inl (fit b c.len), d)
    | none => (.inr St.checkSource, d)
  else if d.sec.zeroized then (.inr St.zeroized, d)
  else
    let r := readRanges errs [(c.src, c.len)] d
    if r.1 then (.inr St.stackUncorrectable, faultOp r.2 c.ref 0x410 St.stackUncorrectable 0 0)
    else (.inl (workRead r.2 c.src c.len), r.2)

/-- A unit's running command ends (R575 to R577). -/
def execCheckCommandDone (unit : Nat) (src : HostData) (errs : List LineErr) (s : State) : Host.Outcome State Fault Refusal :=
  onDev (fun d =>
    match (checkAt d unit).queue with
    | [] => d
    | c :: rest =>
      let r := checkSource d c src errs
      let d := ctrInc r.2 cCheckCommands
      let x := { checkAt d unit with queue := rest }
      let d := match r.1 with
        | .inr st => finishOp (setCheck d unit { x with ok := false }) c.ref st 0 0
        | .inl bs =>
          let k := crcKind c.poly
          let reg := crcRun k (if c.cont then x.crc else k.init) bs
          let v := crcFinal k reg
          let x := { x with
            crc := reg
            poly := c.poly
            owner := c.ref.owner
            ok := true
            value := v
            info := c.ref.seq.toNat + c.ref.lane * 2 ^ 32 + c.poly * 2 ^ 39 + c.ref.owner * 2 ^ 41 + 2 ^ 48 }
          finishOp (ctrAdd (setCheck d unit x) cCheckBytes c.len) c.ref St.ok v c.len
      checkStart unit (rest.length + 1) d) s

end Sys2Proof.Machine
end

