-- ==== Sys2Proof/Machine/Stacks.lean ====
section
/-! DEFINITION. The memory stacks (R288 to R322): training, temperatures, scrub, command timeouts, retirement. -/

namespace Sys2Proof.Machine

open Sys2Proof

/-- Training and self-test of a stack end (R316, R321): it serves, or is ABSENT; with fewer than six stacks at the end of
bring-up the device enters custody. Without an image no bit is posted (R737). A start-up repeated after a loss of its PLL (R746)
leaves a stack that passes in its state, and takes the failing row for one that fails (log entry 86). -/
def execStackTrainingDone (stack : Nat) (pass : Bool) (s : State) : Host.Outcome State Fault Refusal :=
  onDevC (fun d =>
    let u := stackAt d stack
    let was := u.usable
    if u.trained || 12 ≤ stack || d.boot.phase == .inReset || d.boot.phase == .firmwareFailed then d else
    let d := setStack d stack { u with trained := true, st := if !pass then 0 else if u.st = 0 then 1 else u.st }
    let d := if !pass then detect d 0x06 stack 0x415 0 0
      else if d.boot.phase == .noImage then d else post d (rbStack stack)
    let d := if was && !pass then stkLoss d stack else d
    if d.stk.bringUp.isSome || !d.stk.units.all (·.trained) then d else
    let d := { d with stk := { d.stk with bringUp := some (usableStacks d) } }
    if (usableStacks d).length < 6 then enterCustody (detectDevice d 0x419 0 0) 0x419 else d) s

/-- The hottest die of a list of readings, in 0.25 °C. -/
def hottest (ts : List Nat) : Nat := ts.foldl max 0

/-- A stack's readings (R292, R294): at 95 °C its HOT bit and the capacity's scale, at 105 °C custody. -/
def stackTemp (d : Dev) (n : Nat) (ts : List Nat) : Dev :=
  let u := stackAt d n
  let was := hottest u.temps
  let h := hottest ts
  let d := setStack d n { u with temps := ts, hot := u.hot || 380 ≤ h }
  let d := tempRead d (4 + n) [some 380, some 420, some 460] h
  let d :=
    if 380 ≤ h && !u.hot then
      let d := if d.stk.hotScale then d else scaleStk { d with stk := { d.stk with hotScale := true } } 7 8
      reportOver d lSTK (nextBucket d) 0x06 n 0x412 true
    else d
  if 420 ≤ h && was < 420 then enterCustody (detect d 0x06 n 0x413 0 0) 0x413 else d

/-- The 1 ms read of the die temperatures (R291 to R294). -/
def execStackTempSample (temps : List (List Nat)) (s : State) : Host.Outcome State Fault Refusal :=
  onDevC (fun d =>
    let d := (temps.take 12).zipIdx.foldl (fun d x => stackTemp d x.2 x.1) d
    let cool := d.stk.units.all (fun u => hottest u.temps < 372)
    { d with stk := { d.stk with
      coolSince := if cool then some (d.stk.coolSince.getD (now d)) else none } }) s

/-- Every stack has stayed below 93 °C for 100 ms: HOT ends and full capacity returns (R293). -/
def execStackHotClear (s : State) : Host.Outcome State Fault Refusal :=
  onDev (fun d => match d.stk.coolSince with
    | none => d
    | some t =>
      if now d < t + 100000000 || !d.stk.hotScale then d
      else scaleStk { d with stk := { d.stk with
        hotScale := false
        units := d.stk.units.map (fun u => { u with hot := false }) } } 1 1) s

/-- The frame that a physical frame of a stack holds. -/
def frameOfPhys (d : Dev) (n phys : Nat) : Option Nat :=
  (d.sas.frames.find? (fun f => f.2.stack == some n && f.2.phys == phys)).map (·.1)

/-- A patrol read of a line of a physical frame (R301): corrections and poison as R297 and R298 give them; a line that holds the
poison codeword stays. The last line ends a pass. -/
def execScrubRead (stack frame line : Nat) (errs : SymbolErrors) (s : State) : Host.Outcome State Fault Refusal :=
  onDev (fun d =>
    let u := stackAt d stack
    if u.st == 0 || 3 < u.st || stackPhys ≤ frame || 64 ≤ line then d else
    let d :=
      if u.poison.contains (frame, line) then d else
      let r := readLine d stack frame line errs
      match r.1, frameOfPhys d stack frame with
      | .other, some f => pokeLine r.2 (4096 * f + 64 * line) ((List.range 64).map (Config.eccByte d.free))
      | _, _ => r.2
    if frame + 1 == stackPhys && line == 63 then ctrInc d (cStack stack 0x118) else d) s

/-- Mark the frames of a stack as under move, or no longer (R252, R318); those under a demotion keep their own mark. -/
def moveHeld (d : Dev) (n : Nat) (on : Bool) : Dev :=
  { d with sas := { d.sas with frames := d.sas.frames.map (fun f =>
      if f.2.stack == some n && !d.sas.demotions.any (fun x => x.frames.contains f.1) then (f.1, { f.2 with moving := on }) else f) } }

/-- A stack does not respond within 10 µs: FAILED, and custody (R290, R316). -/
def execStackCommandTimeout (stack : Nat) (s : State) : Host.Outcome State Fault Refusal :=
  onDevC (fun d =>
    let u := stackAt d stack
    if u.st == 0 || 3 < u.st then d else
    let d := moveHeld (unpost (setStack d stack { u with st := 5 }) (rbStack stack)) stack false
    let d := if u.usable then stkLoss d stack else d
    enterCustody (detect d 0x06 stack 0x414 0 0) 0x414) s

/-- A signed STACK_RETIRE (R316, R317); it changes nothing for a stack that is not READY or SUSPECT. DESIGN CHOICE (log entry 85):
every frame of the stack counts as under move until the last one has moved, so reads of them wait as MIGRATION (R252, R318). -/
def signedStackRetire (d : Dev) (h : SigHdr) (n : Nat) : Nat × Dev :=
  signedDo d h qStack false (if 12 ≤ n then St.recordInvalid else St.ok) (fun d =>
    let u := stackAt d n
    if !u.usable then d else
    stkLoss (moveHeld (setStack d n { u with st := 3 }) n true) n)

/-- STACK_RETIRE. -/
def execStackRetire (h : SigHdr) (stack : Nat) (s : State) : Host.Outcome State Fault Refusal :=
  onSigned (fun d => signedStackRetire d h stack) s

/-- Move a frame off a stack into a usable one with its poison (R303, R304, R318); none when no frame is free. -/
def moveFrame (d : Dev) (n f : Nat) : Option Dev :=
  match tget d.sas.frames f, pickStack d f with
  | some e, some (h, t) =>
    let ph := lowestPhys d t
    let mine := ((stackAt d n).poison.filter (fun p => p.1 == e.phys)).map (fun p => (ph, p.2))
    let d := clearPoison (clearPoison (if h == t then d else ctrInc d (cStack h 0x120)) n e.phys) t ph
    let v := stackAt d t
    let d := setStack d t { v with poison := mine ++ v.poison }
    some { d with sas := { d.sas with frames := tset d.sas.frames f { e with
      stack := some t
      phys := ph
      moving := d.sas.demotions.any (fun x => x.frames.contains f) } } }
  | _, _ => none

/-- The last frame of a retiring stack has moved (R316, R318): with too few free frames elsewhere the move still waits. -/
def execStackRetireComplete (stack : Nat) (s : State) : Host.Outcome State Fault Refusal :=
  onDev (fun d =>
    let u := stackAt d stack
    if u.st != 3 then d else
    let fs := (d.sas.frames.filter (fun f => f.2.stack == some stack)).map (·.1)
    match fs.foldl (fun r f => r.bind (fun d => moveFrame d stack f)) (some d) with
    | none => d
    | some d =>
      detect (unpost (setStack d stack { stackAt d stack with st := 4 }) (rbStack stack)) 0x06 stack 0x417 0 0) s

end Sys2Proof.Machine
end

