-- ==== Sys2Proof/Machine/Bobbin.lean ====
section
/-! DEFINITION. The bobbin tier (R323 to R359): bring-up, unit reads, programs, erases, garbage collection, retention, failed
targets. -/

namespace Sys2Proof.Machine

open Sys2Proof

/-! ## Bring-up (R324 to R326, R354 to R356) -/

/-- A target's FLASH descriptor (R728). -/
def flashDesc (d : Dev) (t : Nat) : Bytes := sub d.boot.flash (16 * t) 16
/-- A target is declared. -/
def declared (d : Dev) (t : Nat) : Bool := fld (flashDesc d t) 0 0 0 == 1

/-- The read bound of R324 in units of 10 ns. -/
def readBoundOk (d : Dev) : Bool :=
  let t := img d 0x400008 6 0
  let x := if img d 0x400010 40 40 == 1 then 1152 else 512
  (30 + t) * 100 + 7 * ((t + 8) * 100 + 9 * x) ≤ 120000

/-- R324 for a target's parameter page. -/
def targetOk (d : Dev) (t : Nat) (p : TargetPage) : Bool :=
  let x := flashDesc d t
  p.dataBytes == 16384 && 2048 ≤ p.spare && p.suspend && p.suspendUs ≤ 30 && 6 ≤ p.retryLevels &&
  p.luns == fld x 0 2 1 + 1 && p.blocks == fld x 4 31 0 && p.pages == fld x 8 15 0 && p.spare == fld x 0x0A 15 0 &&
  readBoundOk d

/-- The blocks of a target as the scan finds them (R354): a retired block is out of use like one with a factory mark. -/
def scanBlocks (p : TargetPage) (scan : List BlockScan) : List BobBlock :=
  let top := (scan.map (fun b => match b with | .header e _ => e | _ => 0)).foldl max 0
  (List.range (p.luns * p.blocks)).map (fun i =>
    let b : BobBlock := { lun := i / max 1 p.blocks, blk := i % max 1 p.blocks }
    match scan.getD i .other with
    | .factoryBad => { b with st := .bad }
    | .header e r => { b with erases := e, retired := r, st := if r then .bad else .free }
    | .other => { b with erases := top })

/-- Raw bytes of a target (R325). -/
def BobTarget.raw (x : BobTarget) : Nat := 16384 * x.pages * x.blocks * x.luns

/-- SAS_BOBBIN_TOTAL follows the raw capacity (R344, R357). -/
def setRaw (d : Dev) (raw : Nat) : Dev :=
  { d with bob := { d.bob with rawBytes := raw, totalFrames := raw * 3 / 4 / 4096 } }

/-- One target's scan: READY, or ABSENT with FC_422 (R324, R326). -/
def scanTarget (d : Dev) (t : Nat) (s : Option TargetScan) : Dev :=
  match s with
  | some s =>
    if targetOk d t s.page then
      let x : BobTarget := {
        st := 1
        luns := s.page.luns
        blocks := s.page.blocks
        pages := s.page.pages
        table := scanBlocks s.page s.scan }
      setRaw (setTarget d t x) (d.bob.rawBytes + x.raw)
    else detect d 0x07 (locCode t 0 0 0) 0x422 0 0
  | none => detect d 0x07 (locCode t 0 0 0) 0x422 0 0

/-- Targets of a channel in a state that serves. -/
def channelReady (d : Dev) (ch : Nat) : List Nat := (readyTargets d).filter (fun t => t / 8 == ch)

/-- The tier is ready (R355). -/
def tierCheck (d : Dev) : Dev :=
  let chs := (List.range 16).filter (fun c => (List.range 8).any (fun t => declared d (tgtOf c t)))
  let done (c : Nat) : Bool := d.bob.chEnded.contains c && (d.bob.chTrained.contains c || (channelReady d c).isEmpty)
  if !isReady d rbBobbin && chs.all done && !(readyTargets d).isEmpty then post d rbBobbin else d

/-- Training and scan of a channel end, once FLASH is applied and CRYPTO has posted (R326, R354, R355, R741). -/
def execChannelScanDone (ch : Nat) (trained : Bool) (scans : List TargetScan) (s : State) :
    Host.Outcome State Fault Refusal :=
  onDev (fun d =>
    if 16 ≤ ch || d.bob.chEnded.contains ch || d.boot.flash.isEmpty || !isReady d rbCrypto then d else
    let d := { d with bob := { d.bob with chEnded := ch :: d.bob.chEnded } }
    let d :=
      if trained then
        let ts := (List.range 8).filter (fun t => declared d (tgtOf ch t))
        let d := ts.foldl (fun d t => scanTarget d (tgtOf ch t) (scans.find? (fun x => x.target == t))) d
        if (channelReady d ch).all (fun t => 16 ≤ ((targetAt d t).table.filter (fun b => b.st == .free)).length) then
          post { d with bob := { d.bob with chTrained := ch :: d.bob.chTrained } } (rbOnfi ch)
        else d
      else detect d 0x07 ch 0x428 0 0
    tierCheck d) s

/-! ## Unit reads (R330, R337, R341, R350, R352) -/

/-- End an operation that needed what a unit cannot give. -/
def endNeeding (d : Dev) (id cause : Nat) : Dev := match findOp d id with
  | none => d
  | some o => match o.what with
    | .farJob j _ => (match findJob d j with
      | some j => failJob d j cause St.bobbinUncorrectable
      | none => failOp d o cause St.bobbinUncorrectable)
    | _ => failOp d o cause St.bobbinUncorrectable

/-- The promotions that a test picks end: their frames stay in the tier, and the operations that asked end (R269, R352, R357). -/
def failPromotions (d : Dev) (p : Promotion → Bool) (cause : Nat) : Dev :=
  let gone := d.sas.promotions.filter p
  let fs := gone.map (·.frame)
  let d := { d with sas := { d.sas with
    promotions := d.sas.promotions.filter (fun x => !p x)
    frames := d.sas.frames.map (fun f => if fs.contains f.1 then (f.1, { f.2 with moving := false }) else f) } }
  ((gone.filterMap (·.op)).eraseDups).foldl (fun d i => endNeeding d i cause) d

/-- A unit's read is uncorrectable (R352). -/
def unitFailed (d : Dev) (u : BobUnit) (tag : Bool) : Dev :=
  let loc : BlockLoc := { ch := u.tgt / 8, tgt := u.tgt % 8, lun := u.lun, blk := u.blk }
  let d := setUnit d { u with failed := true, tagFailed := tag }
  let d := { d with bob := { d.bob with
    lastUe := some (loc, u.page, tag)
    reads := d.bob.reads.filter (fun r => r.unit != u.id) } }
  let d := ctrInc (ctrInc (if tag then ctrInc d cBobTagFail else d) cBobUe) cBobReads
  failPromotions d (fun p => p.unit == u.id) (if tag then 0x425 else 0x420)

/-- A unit's read is good: a promotion goes on, a relocation programs its valid slots elsewhere (R250, R338). -/
def unitRead (d : Dev) (u : BobUnit) (r : BobRead) (attempts : Nat) : Dev :=
  let d := { d with bob := { d.bob with reads := dropFirst (fun x => x.id == r.id) d.bob.reads } }
  let d := ctrInc (ctrInc d cBobReads) (cBobAttempts + 8 * (attempts - 1))
  let d := match r.use with
    | .promote => { d with sas := { d.sas with
        promotions := d.sas.promotions.map (fun p => if p.unit == u.id then { p with read := true } else p) } }
    | .relocate =>
      if !u.slots.any Option.isSome then d else
      match programUnit d u.key u.slots (some u.id) with
      | some (_, d) => d
      | none => modBlock d u.tgt u.lun u.blk (fun b => { b with doomed := false })
  if relocRetries d < attempts then relocBlock d u.tgt u.lun u.blk cBobRetryReloc else d

/-- A FULL block whose read count has reached READ_DISTURB is relocated (R341). -/
def disturbCheck (d : Dev) (t lun blk : Nat) : Dev := match (targetAt d t).block lun blk with
  | some b => if readDisturb d != 0 && readDisturb d ≤ b.reads then relocBlock d t lun blk cBobDisturbReloc else d
  | none => d

/-- One attempt of a unit's read ends (R349, R350): not before the channel has taken the units that go first. -/
def execBobbinReadAttempt (id : Nat) (good : List Nat) (tagOk : Bool) (s : State) : Host.Outcome State Fault Refusal :=
  onTier (fun d => match d.bob.reads.find? (fun r => r.id == id && r.started) with
    | none => d
    | some r => match unitAt d r.unit with
      | none => d
      | some u =>
        if channelHeld d r then d else
        let d := modBlock d u.tgt u.lun u.blk (fun b => { b with reads := b.reads + 1 })
        let all := (List.range 4).filter (fun i => r.good.contains i || good.contains i)
        let n := r.attempts + 1
        let d :=
          if all.length == 4 then (if tagOk && !d.sec.zeroized then unitRead d u r n else unitFailed d u true)
          else if n == 7 then
            let d := unitFailed d u false
            if relocRetries d < n then relocBlock d u.tgt u.lun u.blk cBobRetryReloc else d
          else { d with bob := { d.bob with
            reads := replaceFirst (fun x => x.id == id) { r with attempts := n, good := all, begun := now d } d.bob.reads } }
        pumpBob (disturbCheck d u.tgt u.lun u.blk)) s

/-! ## Programs and erases (R337, R338, R341, R343) -/

/-- A relocated unit is programmed: its frames' entries switch to it (R338). A read that has begun completes from the old place; one that
has not reads the new. -/
def switchReloc (d : Dev) (u : BobUnit) (src : Nat) : Dev :=
  let here (f : Nat) : Bool := match tget d.sas.frames f with | some e => e.unit == some src | none => false
  let moved := (u.slots.filterMap id).filter here
  let gc := match unitAt d src with
    | some v => (match (targetAt d v.tgt).block v.lun v.blk with | some b => b.byGc | none => false)
    | none => false
  let d := moved.foldl (fun d f => dropUnitSlot d f) d
  let d := if d.bob.reads.any (fun r => r.unit == src && r.started && r.use == .promote) then d else
    { d with
      bob := { d.bob with reads := d.bob.reads.map (fun r => if r.unit == src && r.use == .promote then { r with unit := u.id } else r) }
      sas := { d.sas with promotions := d.sas.promotions.map (fun p => if p.unit == src && !p.read then { p with unit := u.id } else p) } }
  let d := setUnit d { u with
    written := true
    source := none
    slots := u.slots.map (fun x => match x with | some f => if moved.contains f then some f else none | none => none) }
  let d := { d with sas := { d.sas with
    frames := d.sas.frames.map (fun f => if moved.contains f.1 then (f.1, { f.2 with unit := some u.id }) else f) } }
  if gc then ctrAdd d cBobGcSlots moved.length else d

/-- A unit that no target can take is given up: its demotion ends with its frames where they are, or its relocation waits for
the next trigger. -/
def dropUnit (d : Dev) (u : BobUnit) : Dev :=
  let dead := d.sas.demotions.filter (fun x => x.units.contains u.id)
  let us := u.id :: dead.flatMap (·.units)
  let fs := dead.flatMap (·.frames)
  let d := match u.source.bind (unitAt d) with
    | some v => modBlock d v.tgt v.lun v.blk (fun b => { b with doomed := false })
    | none => d
  { d with
    bob := { d.bob with units := d.bob.units.filter (fun x => !us.contains x.id) }
    sas := { d.sas with
      demotions := d.sas.demotions.filter (fun x => !x.units.contains u.id)
      frames := d.sas.frames.map (fun f => if fs.contains f.1 then (f.1, { f.2 with moving := false }) else f) } }

/-- Program a unit again in the next target of the rotation, from the write buffer (R343, R356). -/
def reprogram (d : Dev) (u : BobUnit) : Dev := match nextPlace d 128 with
  | some (t, l, b, p, d) =>
    let u := { u with tgt := t, lun := l, blk := b, page := p, seq := d.bob.seq }
    emitUnit (setUnit { d with bob := { d.bob with seq := d.bob.seq + 1 } } u) u
  | none => dropUnit d u

/-- Static wear levelling of a target (R341). -/
def wearCheck (d : Dev) (t : Nat) : Dev :=
  let good := (targetAt d t).table.filter (fun b => b.st != .bad)
  match least (good.map (·.erases)) with
  | none => d
  | some lo =>
    if wearSpread d < (good.map (·.erases)).foldl max 0 - lo then
      match good.find? (fun b => b.erases == lo && b.st == .full && !b.doomed) with
      | some b => relocBlock d t b.lun b.blk cBobWearReloc
      | none => d
    else d

/-- A unit program ends (R343); not while it is suspended (R348). -/
def execBobbinProgramDone (loc : BlockLoc) (page : Nat) (ok : Bool) (s : State) : Host.Outcome State Fault Refusal :=
  onDevC (fun d =>
    let t := tgtOf loc.ch loc.tgt
    match d.bob.units.find? (fun u => u.inBlock t loc.lun loc.blk && u.page == page && !u.written) with
    | none => d
    | some u =>
      if (targetAt d t).st != 1 || suspended d t then d
      else if ok then
        let d := ctrInc d cBobPrograms
        let d := match u.source with
          | some src => switchReloc d u src
          | none => setUnit d { u with written := true }
        pumpBob (wearCheck (disturbCheck d t loc.lun loc.blk) t)
      else
        let d := modBlock (ctrInc d cBobProgFail) t loc.lun loc.blk (fun b => { b with st := .bad })
        pumpBob (reprogram (detect d 0x07 (locCode t loc.lun loc.blk page) 0x424 0 0) u)) s

/-- A block erase ends (R343); not while it is suspended (R348). -/
def execBobbinEraseDone (loc : BlockLoc) (ok : Bool) (s : State) : Host.Outcome State Fault Refusal :=
  onDev (fun d =>
    let t := tgtOf loc.ch loc.tgt
    match (targetAt d t).block loc.lun loc.blk with
    | none => d
    | some b =>
      if !b.erasing || (targetAt d t).st != 1 || suspended d t then d
      else if ok then
        let d := modBlock (ctrInc d cBobErases) t b.lun b.blk (fun b =>
          { lun := b.lun, blk := b.blk, erases := b.erases + 1, session := b.session + 1 })
        pumpBob (wearCheck d t)
      else
        let d := modBlock (ctrInc d cBobEraseFail) t b.lun b.blk (fun b => { b with st := .bad, erasing := false, doomed := false })
        pumpBob (detect d 0x07 (locCode t b.lun b.blk 0) 0x424 0 0)) s

/-! ## Garbage collection, retention, failed targets (R339 to R341, R345, R356, R357) -/

/-- Whether garbage collection runs: from GC_LOW until GC_HIGH. -/
def gcRuns (d : Dev) : Bool :=
  256 * erasedFree d < gcLow d * goodBlocks d || (d.bob.gc && 256 * erasedFree d < gcHigh d * goodBlocks d)

/-- The victim of a collection: target and block (R339). -/
def gcVictim (d : Dev) : Option (Nat × BobBlock) :=
  let all := d.bob.targets.flatMap (fun x => if x.2.st != 1 then [] else
    (x.2.table.filter (fun b => b.st == .full && !b.doomed)).map (fun b => (x.1, b)))
  all.foldl (fun best x => match best with
    | none => some x
    | some y => if validSlots d x.1 x.2.lun x.2.blk < validSlots d y.1 y.2.lun y.2.blk then some x else best) none

/-- A collection of a block gains room. -/
def gcGains (d : Dev) (t : Nat) (b : BobBlock) : Bool := validSlots d t b.lun b.blk < 4 * ((targetAt d t).pages - 1)

/-- A garbage collection decision of a target (R339, R345). -/
def execBobbinGc (ch tgt : Nat) (s : State) : Host.Outcome State Fault Refusal :=
  onDev (fun d =>
    let run := gcRuns d
    let d := { d with bob := { d.bob with gc := run } }
    if !run then d else
    let v := gcVictim d
    match v.filter (fun x => gcGains d x.1 x.2) with
    | some (t, b) => if t == tgtOf ch tgt then doomBlock d t b.lun b.blk true else d
    | none =>
      if !d.bob.full && 256 * erasedFree d ≤ reserveFloor d * goodBlocks d then
        detectDevice { d with bob := { d.bob with full := true } } 0x427 0 0
      else d) s

/-- A block passes RETENTION_H (R341). -/
def execBlockRetentionExpiry (loc : BlockLoc) (s : State) : Host.Outcome State Fault Refusal :=
  onDev (fun d =>
    let t := tgtOf loc.ch loc.tgt
    match (targetAt d t).block loc.lun loc.blk with
    | none => d
    | some b => match b.first with
      | some f => if f + retentionNs d < now d then relocBlock d t b.lun b.blk cBobRetentionReloc else d
      | none => d) s

/-- A target fails (R356, R357). -/
def execTargetTimeout (ch tgt : Nat) (s : State) : Host.Outcome State Fault Refusal :=
  onDevC (fun d =>
    let t := tgtOf ch tgt
    let x := targetAt d t
    if x.st != 1 then d else
    let d := setRaw (setTarget d t { x with st := 2 }) (d.bob.rawBytes - x.raw)
    let here (i : Nat) : Bool := match unitAt d i with | some u => u.tgt == t && u.written | none => false
    let d := reportOver d lBOB (nextBucket d) 0x07 (locCode t 0 0 0) 0x423 true
    let d := (d.bob.units.filter (fun u => u.tgt == t && !u.written)).foldl reprogram d
    let d := { d with bob := { d.bob with reads := d.bob.reads.filter (fun r => !here r.unit) } }
    let d := failPromotions d (fun p => here p.unit && !p.read) 0x423
    let d := if (readyTargets d).isEmpty then unpost d rbBobbin else d
    pumpBob d) s

end Sys2Proof.Machine
end

