-- ==== Sys2Proof/Machine/Tiers.lean ====
section
/-! DEFINITION. Movement between the tiers: promotions and walks (R250, R263), reclaim and demotion (R251 to R261), thinning on
demotion (R259 to R261, R392, R393). -/

namespace Sys2Proof.Machine

open Sys2Proof

/-! ## Promotion and walks (R250, R257, R263) -/

/-- Drop the promotions of a frame that nothing can hold: the operations that asked end with ST_SAS_FULL (R257). -/
def promotionRefused (d : Dev) (f : Nat) : Dev :=
  let ops := ((d.sas.promotions.filter (fun p => p.frame == f)).filterMap (·.op)).eraseDups
  let d := { d with sas := { d.sas with
    promotions := d.sas.promotions.filter (fun p => p.frame != f)
    frames := d.sas.frames.map (fun x => if x.1 == f then (x.1, { x.2 with moving := false }) else x) } }
  ops.foldl (fun d i => match findOp d i with
    | none => d
    | some o => match o.what with
      | .farJob j _ => (match findJob d j with
        | some j => j.members.foldl (fun d m => match findOp d m.op with | some o => endOp d o St.sasFull | none => d) d
        | none => endOp d o St.sasFull)
      | _ => endOp d o St.sasFull) (shipsRefused (ctrInc d cPlaceRefused) f)

/-- A promoted frame is written to a stack frame (R250, R302 to R304): its map entry switches, and a bobbin frame is free again (R257). -/
def execFramePromotionDone (frame stackFrame : Nat) (s : State) : Host.Outcome State Fault Refusal :=
  onTier (fun d =>
    if !d.sas.promotions.any (fun p => p.frame == frame && p.read) then d else
    match pickStack d frame with
    | none => if sasRefusing d then promotionRefused d frame else d
    | some (h, n) =>
      if stackPhys ≤ stackFrame || stackFrame < pinnedOn d n || (physOn d n).contains stackFrame then d else
      let d := if h == n then d else ctrInc d (cStack h 0x120)
      let d := ctrInc (clearPoison (dropUnitSlot d frame) n stackFrame) cPromoted
      pumpBob { d with sas := { d.sas with
        frames := tset d.sas.frames frame { stack := some n, phys := stackFrame }
        bobFullTold := false
        promotions := d.sas.promotions.filter (fun p => p.frame != frame) } }) s

/-- A layer walk ends: NR is exact (R254, R263). -/
def execLayerWalkDone (skein : U64) (layer : Nat) (s : State) : Host.Outcome State Fault Refusal :=
  onDev (fun d => match findSkein d skein with
    | none => d
    | some k =>
      let y := k.layer layer
      if !y.walking || d.sas.promotions.any (fun p => p.walk == some (k.slot, layer)) then d
      else setSkein d (k.setLayer layer { y with walking := false, nr := nonResident d k layer })) s

/-! ## What may be demoted (R247, R252, R253) -/

/-- Frames of a list in the stack tier. -/
def upFrames (d : Dev) (fs : List Nat) : List Nat :=
  fs.eraseDups.filter (fun f => match tget d.sas.frames f with | some e => e.stack.isSome | none => false)

/-- A skein-layer that R253 protects: an admitted class G operation, or a COPY_PAGES or PROMOTE in progress. -/
def layerHeld (d : Dev) (k : Skein) (l : Nat) : Bool :=
  d.retr.jobs.any (fun j => j.cls == .g && j.layer == l && j.members.any (fun x => x.msg.skein == k.id)) ||
  d.adm.ops.any (fun o => match o.what with
    | .transfer rec _ _ => (fld rec 0x20 3 0 == 1 || fld rec 0x20 3 0 == 2) && xSkein rec == k.id && (xLayers rec).contains l
    | _ => false)

/-- Whether a page of a skein can be demoted now. -/
def pageDemotable (d : Dev) (k : Skein) (r : PageRef) : Bool :=
  match findBody d r.body with
  | none => false
  | some b =>
    bodyRefs d b.id == 1 && !r.foreign && resident d b.frames && !(upFrames d b.frames).isEmpty &&
    !d.sas.demotions.any (fun x => x.skein == k.slot && x.layer == r.layer && x.page == r.page) &&
    (b.addrs.zip b.blocks).all (fun x => (poisonIn d x.1 x.2.data.length).isEmpty)

/-- The metadata frames of a layer that no other layer shares, once none of its pages is in the stack tier (R229, R263). -/
def metaDemotable (d : Dev) (k : Skein) (l : Nat) : List Nat :=
  let up := k.pages.any (fun r => r.layer == l && (match findBody d r.body with
    | some b => !(upFrames d b.frames).isEmpty
    | none => false))
  if up || !(k.pages.any (fun r => r.layer == l)) || d.sas.demotions.any (fun x => x.skein == k.slot && x.layer == l) then [] else
  let others := (List.range k.shape.layers).flatMap (fun m => if m == l then [] else layerMeta d k m true)
  let fs := (upFrames d (layerMeta d k l true)).filter (fun f => !others.contains f)
  if resident d fs then fs else []

/-- The pages of a skein-layer that can be demoted now. -/
def layerPages (d : Dev) (k : Skein) (l : Nat) : List PageRef :=
  if layerHeld d k l then [] else k.pages.filter (fun r => r.layer == l && pageDemotable d k r)

/-- The skein-layer that reclaim demotes first: the oldest LAST_ACCESS, then the lower slot, then the lower layer (R255). -/
def oldestLayer (d : Dev) : Option (Skein × Nat) :=
  let all := d.sas.skeins.flatMap (fun k => (List.range k.shape.layers).map (fun l => (k, l)))
  let can := all.filter (fun x => !(layerPages d x.1 x.2).isEmpty ||
    (!layerHeld d x.1 x.2 && !(metaDemotable d x.1 x.2).isEmpty))
  can.foldl (fun best x => match best with
    | none => some x
    | some y =>
      let a := (x.1.layer x.2).lastAccess
      let b := (y.1.layer y.2).lastAccess
      if a < b || (a == b && (x.1.slot < y.1.slot || (x.1.slot == y.1.slot && x.2 < y.2))) then some x else best) none

/-! ## Demotion (R251, R259 to R261, R393) -/

/-- Start programming the units of some frames, and remember the demotion. -/
def demoteFrames (d : Dev) (k : Skein) (x : Demotion) (fs : List Nat) (moving : Bool) : Dev :=
  match programUnits k.tenant (packUnits fs) d with
  | none => d
  | some (us, d) =>
    { d with sas := { d.sas with
      demotions := d.sas.demotions ++ [{ x with units := us }]
      frames := if moving then d.sas.frames.map (fun f => if fs.contains f.1 then (f.1, { f.2 with moving := true }) else f)
        else d.sas.frames } }

/-- Demote a page losslessly (R251). -/
def demoteWhole (d : Dev) (k : Skein) (r : PageRef) (b : PageBody) : Dev :=
  let fs := upFrames d b.frames
  demoteFrames d k { skein := k.slot, layer := r.layer, page := r.page, body := b.id, frames := fs, units := [] } fs true

/-- The thinned body of a page in a new slot of its solo group (R260, R392). -/
def thinBody (d : Dev) (k : Skein) (r : PageRef) (raw : Bytes) : PageBody :=
  let thin := thinPage k.shape raw
  let n := (thin.length + 4095) / 4096
  let bs := (List.range n).map (fun i => ({ entry := 0x80, data := fit (thin.drop (4096 * i)) 4096 } : StoredBlock))
  let slot := freeSlot d
  let g := k.soloGroup r.page
  { id := d.sas.nextBody
    resv := k.base
    index := framesOf (k.groupAddr r.layer g) 72
    group := k.groupAddr r.layer g
    fmt := k.shape.fmt
    tokens := r.tokens
    thinned := true
    solo := true
    blocks := bs
    addrs := (List.range n).map (fun i => slotAddr slot + 4096 * i) }

/-- Demote one page: thinned when its skein allows it and a thin run serves, and losslessly otherwise. -/
def demotePage (d : Dev) (k : Skein) (r : PageRef) : Dev :=
  match findBody d r.body with
  | none => d
  | some b =>
    if !k.thinOk || b.thinned then demoteWhole d k r b else
    if !(match draftOf d 5 with | some dr => 0 < runsAvail d dr | none => false) then
      demoteWhole (ctrInc d cThinFallback) k r b
    else
      let x := readBody d k.shape b
      if x.1.err.isSome then demoteWhole d k r b
      else if pageNonfinite k.shape x.1.good then demoteWhole (ctrInc x.2 cThinNonfinite) k r b
      else
        let t := thinBody x.2 k r x.1.good
        let d := { x.2 with sas := { x.2.sas with bodies := x.2.sas.bodies ++ [t], nextBody := t.id + 1 } }
        let d := jobDone (ctrAdd d cThinBlocks (pageBytes k.shape / elemBytes k.shape.fmt / 32)) k.tenant 2 [b.id]
        demoteFrames d k {
          skein := k.slot
          layer := r.layer
          page := r.page
          body := b.id
          frames := t.frames
          units := []
          thinned := some t.id } t.frames false

/-- Unit of a frame among some units. -/
def unitOf (d : Dev) (us : List Nat) (f : Nat) : Option Nat :=
  us.find? (fun i => match unitAt d i with | some u => u.slots.contains (some f) | none => false)

/-- The stack frames that reads of a body begun before the switch still use (R251). -/
def lingers (d : Dev) (body : Nat) (fs : List Nat) : List Linger :=
  if !bodyReading d body then [] else
  fs.filterMap (fun f => (tget d.sas.frames f).bind (fun e => e.stack.map (fun n => { stack := n, phys := e.phys, body := body })))

/-- Frames switch to their units; slots of frames that are no longer there hold nothing (R251, R337). A stack frame that a read of
their page's body still uses stays taken until that read ends. -/
def switchDown (d : Dev) (us fs : List Nat) (body : Nat) (ok : Nat → Bool) : Dev :=
  let go := fs.filter ok
  let late := lingers d body go
  let d := go.foldl (fun d f => match tget d.sas.frames f with
    | some e => (match e.stack with | some n => clearPoison d n e.phys | none => d)
    | none => d) d
  let frames := go.foldl (fun t f => tset t f { unit := unitOf d us f }) d.sas.frames
  { d with
    bob := { d.bob with units := d.bob.units.map (fun u => if us.contains u.id then
      { u with slots := u.slots.map (fun x => match x with | some f => if go.contains f then some f else none | none => none) }
      else u) }
    sas := { d.sas with frames := frames, lingering := d.sas.lingering ++ late, fullTold := false } }

/-- A stack frame that is to move down is still mapped there. -/
def stillUp (d : Dev) (f : Nat) : Bool := match tget d.sas.frames f with
  | some e => e.stack.isSome && e.moving
  | none => false

/-- The thinned body takes the page over (R260): summary from the restored values, page-table entry, solo group. Not when the page's own
metadata cannot be written (R269). -/
def thinSwitch (d : Dev) (k : Skein) (r : PageRef) (t : PageBody) (switch : Dev → Dev) (calm : Dev → Dev) : Dev :=
  let raw := match restorePage k.shape (t.blocks.flatMap (·.data)) (pageBytes k.shape) with
    | some (raw, sat) => (raw, sat)
    | none => ([], 0)
  let y := k.layer r.layer
  let g := k.soloGroup r.page
  let slot := (t.addrs.headD 0x800000000000 - 0x800000000000) / 0x40000
  let r2 := { r with body := t.id, thinned := true, summary := summarize k.shape raw.1 r.tokens }
  let k2 := { k.setLayer r.layer { y with groups := tset y.groups g slot, nr := y.nr + 1 } with
    pages := k.pages.map (fun x => if x.layer == r.layer && x.page == r.page then r2 else x) }
  match mapAll d (metaFrames k2 r.layer r.page [g]) with
  | none => calm d
  | some d =>
    let d := unpoisonMeta (switch d) k2 r.layer r.page [g]
    let d := ctrAdd d cThinSat raw.2
    mirrorPage (jobDone (ctrInc (setSkein d k2) cThinnedPages) k.tenant 0 [t.id]) k2 r2 t [g]

/-- The units of a demotion are programmed: its frames switch (R251, R254, R260). Page CAP names the layer's metadata. A page that more
than one skein references by then, or that has been replaced, stays where it is (R61, R247; DEDUCED, log entry 91). -/
def execPageDemotionDone (skein : U64) (layer page : Nat) (s : State) : Host.Outcome State Fault Refusal :=
  onTier (fun d => match findSkein d skein with
    | none => d
    | some k => match d.sas.demotions.find? (fun x => x.skein == k.slot && x.layer == layer && x.page == page) with
      | none => d
      | some x =>
        if !x.units.all (fun i => match unitAt d i with | some u => u.written | none => true) then d else
        let d := { d with sas := { d.sas with demotions := dropFirst (fun y => y == x) d.sas.demotions } }
        let r := (k.page? layer page).filter (fun r => r.body == x.body && !r.foreign && bodyRefs d x.body == 1)
        let calm (d : Dev) : Dev := { d with sas := { d.sas with
          frames := d.sas.frames.map (fun f => if x.frames.contains f.1 then (f.1, { f.2 with moving := false }) else f) } }
        let giveUp (d : Dev) : Dev := calm (switchDown d x.units x.frames 0 (fun _ => false))
        pumpBob (match r, x.thinned.bind (findBody d) with
          | some r, some t =>
            thinSwitch d k r t (fun d => ctrAdd (switchDown d x.units x.frames t.id (fun _ => true)) cDemoted x.frames.length) giveUp
          | some _, none =>
            let n := (x.frames.filter (stillUp d)).length
            let d := ctrAdd (switchDown d x.units x.frames x.body (stillUp d)) cDemoted n
            let y := k.layer layer
            setSkein d (k.setLayer layer { y with nr := y.nr + 1 })
          | none, _ =>
            if page == k.cap then
              let n := (x.frames.filter (stillUp d)).length
              ctrAdd (switchDown d x.units x.frames 0 (stillUp d)) cDemoted n
            else giveUp d)) s

/-! ## Reclaim (R255 to R258, R345) -/

/-- Free a PREFIX skein for its room (R258). -/
def evict (d : Dev) (k : Skein) : Dev := freeSkein (ctrInc d cEvictPrefix) k

/-- Frames of a skein: its pages' and its reservation's. -/
def skeinFrames (d : Dev) (k : Skein) : List Nat :=
  k.pages.flatMap (fun r => match findBody d r.body with | some b => b.frames | none => []) ++
  (d.sas.frames.filter (fun e => match d.sas.reservations.find? (fun r => r.base == k.base) with
    | some r => r.base ≤ 4096 * e.1 && 4096 * e.1 < r.base + r.size
    | none => false)).map (·.1)

/-- Free stack frames, with those that demotions under way will free. -/
def stackComing (d : Dev) : Nat :=
  stackFree d + ((d.sas.demotions.filter (fun x => x.thinned.isNone)).map (fun x => x.frames.length)).sum +
    ((d.sas.demotions.filter (fun x => x.thinned.isSome)).map (fun x => match findBody d x.body with
      | some b => (upFrames d b.frames).length
      | none => 0)).sum

/-- Free bobbin frames for reclaim: none while FULL is set (R345). -/
def bobRoom (d : Dev) : Nat := if d.bob.full then 0 else bobFree d

/-- The bobbin tier can take demoted pages (R255). -/
def bobTakes (d : Dev) : Bool := tierReady d && img d 0x80000 31 24 * d.bob.totalFrames < 256 * bobRoom d

/-- A reclaim decision of the stack tier (R255, R257): not in custody (R711). -/
def execStackReclaim (s : State) : Host.Outcome State Fault Refusal :=
  onDevC (fun d =>
    let f := 256 * stackComing d
    let run := f < img d 0x80000 15 8 * stackTotal d || (d.sas.reclaim && f < img d 0x80000 23 16 * stackTotal d)
    let d := { d with sas := { d.sas with reclaim := run } }
    if !run || d.flt.custody != .normal then d else
    let nothing (d : Dev) : Dev :=
      if d.sas.fullTold then d else
      detectDevice { d with sas := { d.sas with fullTold := true } } (if bobTakes d then 0x401 else 0x404) 0 0
    let freeOne (d : Dev) : Dev := match oldestPrefix d (fun k => !(upFrames d (skeinFrames d k)).isEmpty) with
      | some k => evict d k
      | none => nothing d
    if !bobTakes d then freeOne d else
    match oldestLayer d with
    | none => freeOne d
    | some (k, l) => match layerPages d k l with
      | [] =>
        let fs := metaDemotable d k l
        demoteFrames d k { skein := k.slot, layer := l, page := k.cap, frames := fs, units := [] } fs true
      | rs => rs.foldl (fun d r => demotePage d ((skeinAt d k.slot).getD k) r) d) s

/-- A reclaim decision of the bobbin tier (R256, R257): not in custody (R711). -/
def execBobbinReclaim (s : State) : Host.Outcome State Fault Refusal :=
  onDevC (fun d =>
    let f := 256 * bobRoom d
    let run := tierReady d && (f < img d 0x80000 31 24 * d.bob.totalFrames ||
      (d.sas.bobReclaim && f < img d 0x80000 39 32 * d.bob.totalFrames))
    let d := { d with sas := { d.sas with bobReclaim := run } }
    if !run || d.flt.custody != .normal then d else
    match oldestPrefix d (fun k => !(lowFrames d (skeinFrames d k)).isEmpty) with
    | some k => evict d k
    | none =>
      if d.sas.bobFullTold then d
      else detectDevice { d with sas := { d.sas with bobFullTold := true } } 0x404 0 0) s

end Sys2Proof.Machine
end

