-- ==== Sys2Proof/Machine/Boot.lean ====
section
/-! DEFINITION. Resets (R716 to R718), verification and loading of the image (R732 to R739), readiness (R741, R742), the
image switch (R749 to R753), firmware updates (R747, R748). -/

namespace Sys2Proof.Machine

open Sys2Proof

/-- Reading of sensor 103; firmware that failed its check takes precedence, then a switch (R768). -/
def imageSensor (d : Dev) : Nat :=
  if d.boot.phase == .firmwareFailed then 5
  else if d.sec.switching then 4
  else if d.boot.phase == .noImage then 3
  else if d.boot.fallback then 2 else 1

/-- Report the state sensors that differ from an earlier state. -/
def tellAll (was d : Dev) : Dev :=
  let d := tellSensors was d
  if imageSensor was != imageSensor d then pldmChange d 103 (imageSensor d) else d

/-! ## Resets (R716 to R718) -/

/-- A device reset: everything returns to its reset state. What the device has sent stays sent, and no draw repeats;
THERMTRIP_N stays low while `trip` holds (R790). -/
def deviceReset (d : Dev) (trip : Bool) : Dev :=
  { out := d.out, free := d.free, mon := { thermtrip := d.mon.thermtrip && trip } }

/-- PWR_GOOD goes low (R716): THERMTRIP_N is released. -/
def execPowerOnReset (s : State) : Host.Outcome State Fault Refusal := onDev (fun d => deviceReset d false) s

/-- SYS_RESET_N is low for at least 1 µs (R716). -/
def execSystemReset (lowNs : Nat) (s : State) : Host.Outcome State Fault Refusal :=
  onDev (fun d => if 1000 ≤ lowNs then deviceReset d true else d) s

/-- PCIE_PERST_N goes low (R633, R716). -/
def execFundamentalReset (s : State) : Host.Outcome State Fault Refusal := onDev (fun d => deviceReset d true) s

/-- A reset with the extent of an image switch (R716, R751): the root-of-trust processor and the link keep running. Local time
restarts at zero; session identifier and keys are new, unless the module is in its error state (R673). -/
def switchReset (d : Dev) : Dev :=
  let b := d.boot
  let x : Dev := {
    out := d.out
    free := d.free
    mon := { d.mon with sentAt := 0, snapshot := [], snapshotAt := 0, railTold := [] }
    host := { l0 := d.host.l0, rate := d.host.rate, width := d.host.width }
    sec := {
      switching := d.sec.switching
      sessions := d.sec.sessions
      nextSession := d.sec.nextSession
      negotiated := d.sec.negotiated
      updateStaged := d.sec.updateStaged
      error := d.sec.error
      zeroized := d.sec.error }
    boot := {
      phase := .awaitImage
      tapEn := b.tapEn
      fwSlot := b.fwSlot
      slot := b.slot
      measureFw := b.measureFw
      updating := b.updating
      fwVerified := b.fwVerified
      staged := b.staged
      switchPast := b.switchPast + (now d - b.switchStart)
      switchLoad := b.switchLoad } }
  let x :=
    if d.sec.error then
      let (n, x) := freeNext x
      { x with sec := { x.sec with session := Config.drbg n } }
    else newSession x
  if x.host.l0 then post x rbPcie else x

/-- End of reset (R717, R719, R722, R724): the firmware slot of the newest record runs, or the other; without one the device
stays in reset (R674). Then the self-tests, the session and its keys (R649, R672, R673). -/
def execEndOfReset (tapEn norReadable fw0Ok fw1Ok : Bool) (tests : SelfTests) (s : State) :
    Host.Outcome State Fault Refusal :=
  if s.dev.boot.phase != .inReset then .next s else
  let rot := activeSlot s 1
  let okAt (k : Nat) : Bool := norReadable && (if k = 0 then fw0Ok else fw1Ok)
  let d := { s.dev with boot := { s.dev.boot with tapEn := tapEn } }
  if !okAt rot && !okAt (1 - rot) then
    .next (s.setDev (pldmChange { d with boot := { d.boot with phase := .firmwareFailed } } 103 5))
  else
    let fw := if okAt rot then rot else 1 - rot
    let d := newSession { d with boot := { d.boot with
      phase := .awaitImage
      fwSlot := fw
      slot := activeSlot s 0
      measureFw := sha3_512 (norRead s (fwBase fw) 0x100000) } }
    .next (s.setDev (if tests.castOk && tests.entropyOk then d else testsFailed d tests))

/-! ## Loading the image (R732 to R737, R739) -/

/-- The no-image state (R737): no role, only the PCIE bit, the alias key over zeros. -/
def noImage (d : Dev) (cause : Nat) : Dev :=
  let was := d
  let keep := isReady d rbPcie
  let d := { d with
    ready := bit1 keep
    boot := { d.boot with
      phase := .noImage
      roles := 0
      measureImg := zeroBytes 64
      aliasFormed := d.sec.keys } }
  tellAll was (faultPlain d cause 0 0)

/-- The sections with a register, root-of-trust or flash destination take effect as one action; the alias key is formed; CRYPTO
and TRANSPORT post, and ports begin to train (R646, R703, R739, R741, R742). -/
def applyPlain (s : State) (d : Dev) (t : Tbl Nat) : Dev :=
  let was := d
  let slot := d.boot.slot
  let m := signedPart s slot
  let d := { d with
    img := t
    boot := { d.boot with
      phase := .awaitVault
      roles := fld m 7 2 0
      commit := fld m 0x0D 2 2 == 1
      revoke := fld m 0x0D 6 3
      sections := (dirSections m).filter (·.vault)
      mgrKeys := (secOf s slot 2).getD []
      peers := (secOf s slot 3).getD []
      flash := (secOf s slot 4).getD []
      measureImg := manifestDigest s slot
      aliasFormed := d.sec.keys } }
  let d := if d.sec.cryptoReady then post (post d rbCrypto) rbTransport else d
  let d := (List.range 12).foldl (fun d n => (List.range 16).foldl (fun d k => dieCheck d n k) d) d
  let d := (List.range 8).foldl startPort (buildRuns d)
  let d := if paired d then { d with pair := { d.pair with state := .forming } } else d
  tellAll was d

/-- The image in a slot failed (R736): the other slot is tried once, and a switch does not fall back (R750). -/
def imageFails (d : Dev) : Dev :=
  if d.boot.switchLoad then noImage d 0xA45
  else if d.boot.fallback then noImage d 0xA41
  else
    let was := d
    let d := { d with boot := { d.boot with slot := 1 - d.boot.slot, fallback := true } }
    tellAll was (faultPlain d 0xA40 0 0)

/-- One slot's manifest and sections outside the vault, tried (R732, R733, R736). -/
def tryImage (s : State) (sigOk : Bool) (d : Dev) : Dev :=
  if manifestOk s d.boot.slot sigOk then
    match plainSections s d.boot.slot with
    | some t => applyPlain s d t
    | none => imageFails d
  else imageFails d

/-- Image load: the slot of the newest boot record, and after a failure the other (R732, R736). -/
def execImageLoad (sigOk0 sigOk1 : Bool) (s : State) : Host.Outcome State Fault Refusal :=
  let d := s.dev
  let sig (d : Dev) : Bool := if d.boot.slot = 0 then sigOk0 else sigOk1
  if d.boot.phase != .awaitImage then .next s else
  let d := tryImage s (sig d) d
  .next (s.setDev (if d.boot.phase == .awaitImage then tryImage s (sig d) d else d))

/-- What the running image changes in the fuses (R729, R731). -/
def burn (f : Fuses) (b : Boot) (svn : Nat) : Fuses :=
  let f := { f with deployed := true }
  if b.commit then { f with minSvn := max f.minSvn svn, revoked := f.revoked ||| b.revoke } else f

/-- First address of the vault (R225, R730). -/
abbrev vaultBase : Nat := 0x30000000000

/-- The vault sections are read, at the earliest once six stacks have posted, and the image runs; or verification fails after
sections took effect, which resets first (R655, R732, R733, R736, R741). -/
def execVaultSectionsLoad (coresSigOk : Bool) (s : State) : Host.Outcome State Fault Refusal :=
  let d := s.dev
  if d.boot.phase != .awaitVault || ((List.range 12).filter (fun n => isReady d (rbStack n))).length < 6 then .next s else
  if vaultSections s d.boot.slot coresSigOk then
    let was := d
    let got := (d.boot.sections.map (fun x => (x.type, secBytes s d.boot.slot x)))
    let d := { d with boot := { d.boot with
      phase := .running
      vault := got
      measureCores := sha3_512 (tgetD got 5 [])
      switchLoad := false } }
    let d := (mapAll d (framesOf vaultBase ((got.map (fun x => x.2.length)).sum))).getD d
    let d := post (post (post d rbCores) rbImage) rbIntake
    .next { s with dev := tellAll was d, fuses := burn s.fuses d.boot (img d 0x18 6 0) }
  else
    let fell := d.boot.fallback
    let x := switchReset d
    .next (s.setDev (imageFails { x with boot := { x.boot with fallback := fell } }))

/-- Self-test of a tile group ends: its programs are loaded, and it posts (R509, R741). Failing tiles that are assigned to runs
are reported. -/
def execTileSelfTestDone (group : Nat) (failed : List Nat) (s : State) : Host.Outcome State Fault Refusal :=
  onDevC (fun d =>
    if d.boot.phase != .running || 16 ≤ group || isReady d (rbTiles group) then d
    else post (tilesFail d (failed.filter (fun t => t / 40 == group))) (rbTiles group)) s

/-! ## The image switch (R749 to R753) -/

/-- Refusal of an IMAGE_SWITCH (R749). -/
def switchRefusal (d : Dev) (slot version : Nat) : Nat :=
  if d.sec.updateStaged && d.boot.staged == some (slot, version) && d.boot.updating.isNone && !d.sec.switching then St.ok
  else St.imageState

/-- Steps 1 and 2 of an accepted IMAGE_SWITCH (R750). -/
def switchStartDo (d : Dev) (slot : Nat) : Dev :=
  let was := d
  let d := stopService d St.imageSwitch
  tellAll was { d with
    sec := { d.sec with switching := true }
    boot := { d.boot with switchTo := some slot, switchStart := now was, switchPast := 0 } }

/-- A signed IMAGE_SWITCH. -/
def signedImageSwitch (d : Dev) (h : SigHdr) (slot version : Nat) : Nat × Dev :=
  signedDo d h qImage false (switchRefusal d slot version) (fun d => switchStartDo d slot)

/-- IMAGE_SWITCH (R749, R750). -/
def execImageSwitch (h : SigHdr) (slot version : Nat) (s : State) : Host.Outcome State Fault Refusal :=
  onSigned (fun d => signedImageSwitch d h slot version) s

/-- Records that the device has issued and not delivered: queued, on their way to remote rings, or held for the partner. -/
def undelivered (d : Dev) : Nat :=
  (d.rings.map (fun r => r.queue.length)).sum + (d.reqs.live.filter (fun r => r.endRec.isSome)).length + d.flt.behind.length +
  (d.weft.conns.map (fun c => (c.queue.filter (fun e => e.op == 1 && e.vc1)).length +
    (c.msgs.filter (fun m => m.op == 1 && m.vc1)).length)).sum +
  (d.pair.held.filter (fun e => match e.2 with | .hostWrite .. => true | _ => false)).length

/-- Steps 4 and 5 of R750: the boot record, and the reset; lost records are counted in the new session's log. -/
def switchOver (s : State) (slot : Nat) : State :=
  let was := s.dev
  let lost := undelivered s.dev
  let s := writeRec s slot (activeSlot s 1)
  let d := switchReset s.dev
  let d := { d with
    sec := { d.sec with updateStaged := false }
    boot := { d.boot with slot := slot, staged := none, switchLoad := true } }
  s.setDev (tellAll was (if lost = 0 then d else faultPlain d 0xA44 lost 0))

/-- Every record is delivered, or 50 ms have passed: the device resets into the new image (R750). -/
def execImageSwitchDrainTimeout (s : State) : Host.Outcome State Fault Refusal :=
  match s.dev.boot.switchTo with
  | none => .next s
  | some slot =>
    if undelivered s.dev = 0 || s.dev.boot.switchStart + 50000000 ≤ now s.dev then .next (switchOver s slot) else .next s

/-- The window ends once IMAGE has posted or the device is in the no-image state: SPDM sessions end, SWITCHING clears (R656,
R750). -/
def execImageSwitchWindowEnd (s : State) : Host.Outcome State Fault Refusal :=
  onDev (fun d =>
    if d.sec.switching && d.boot.switchTo.isNone && (isReady d rbImage || d.boot.phase == .noImage) then
      tellAll d { d with sec := { d.sec with switching := false, sessions := [] } }
    else d) s

/-! ## Firmware updates (R747, R748): PLDM type 5, commands and codes as in DSP0267 (PRESUMED) -/

/-- An answer of the PLDM type for firmware updates: command and completion code or result. -/
def pldmFw (d : Dev) (cmd code : Nat) : Dev := emit d (.pldm (0x500 + cmd) [code])
/-- ERROR_NOT_READY. -/
abbrev pldmNotReady : Nat := 0x04

/-- RequestUpdate of component 1 or 2 (R747, R748). -/
def execRequestUpdate (component : Nat) (s : State) : Host.Outcome State Fault Refusal :=
  onDev (fun d =>
    if !rotRuns d then d
    else if d.boot.updating.isSome || d.sec.switching then pldmFw d 0x10 pldmNotReady
    else if component != 1 && component != 2 then pldmFw d 0x10 0x02
    else pldmFw { d with
      sec := { d.sec with updateStaged := false }
      boot := { d.boot with updating := some component, staged := none, fwVerified := false } } 0x10 0) s

/-- The slot that an update writes: its base and its size (R720, R747). -/
def updateSlot (s : State) (component : Nat) : Nat × Nat :=
  if component = 1 then (fwBase (1 - s.dev.boot.fwSlot), 0x100000) else (imageBase s (1 - s.dev.boot.slot), slotSize s)

/-- Data of a component arrive and are written to its inactive slot (R747). -/
def execComponentWrite (comp offset : Nat) (bytes : Bytes) (s : State) : Host.Outcome State Fault Refusal :=
  let x := updateSlot s comp
  if rotRuns s.dev && s.dev.boot.updating == some comp && offset + bytes.length ≤ x.2 then
    .next (norWrite s (x.1 + offset) bytes)
  else .next s

/-- VerifyComplete: the written slot is read back and verified (R723, R747). -/
def execVerifyComplete (sigOk coresSigOk : Bool) (s : State) : Host.Outcome State Fault Refusal :=
  let d := s.dev
  match d.boot.updating with
  | none => .next s
  | some 2 =>
    let slot := 1 - d.boot.slot
    if manifestOk s slot sigOk && (plainSections s slot).isSome && vaultSections s slot coresSigOk then
      .next ((readyRec s).setDev (pldmFw { d with
        sec := { d.sec with updateStaged := true }
        boot := { d.boot with staged := some (slot, unLe (sub (signedPart s slot) 0x10 8)) } } 0x17 0))
    else .next (s.setDev (pldmFw { d with boot := { d.boot with updating := none } } 0x17 1))
  | some _ =>
    if sigOk then .next (s.setDev (pldmFw { d with boot := { d.boot with fwVerified := true } } 0x17 0))
    else .next (s.setDev (pldmFw { d with boot := { d.boot with updating := none } } 0x17 1))

/-- ApplyComplete ends the update; verified firmware gets a boot record, and runs from the next device reset (R747). -/
def execApplyComplete (s : State) : Host.Outcome State Fault Refusal :=
  let d := s.dev
  let fin (s : State) : State := s.setDev (pldmFw { d with boot := { d.boot with updating := none, fwVerified := false } } 0x18 0)
  match d.boot.updating with
  | none => .next s
  | some 2 => if d.sec.updateStaged then .next (fin s) else .next s
  | some _ => if d.boot.fwVerified then .next (fin (writeRec s (activeSlot s 0) (1 - d.boot.fwSlot))) else .next s

/-- ActivateFirmware: only in the no-image state it switches to the staged slot, or to the one not tried last (R737, R748,
R750). -/
def execActivateFirmware (s : State) : Host.Outcome State Fault Refusal :=
  let d := s.dev
  if !rotRuns d then .next s
  else if d.boot.phase != .noImage || d.boot.updating.isSome || d.sec.switching then .next (s.setDev (pldmFw d 0x1A pldmNotReady))
  else
    let slot := match d.boot.staged with
      | some x => x.1
      | none => 1 - d.boot.slot
    .next (switchOver (s.setDev (switchStartDo (pldmFw d 0x1A 0) slot)) slot)

end Sys2Proof.Machine
end

