-- ==== Sys2Proof/Machine/Clock.lean ====
section
/-! DEFINITION. Local time (R65 to R70), PLLs (R744, R746), the watchdog and control-core resets (R754 to R756), rails and die
temperatures (R777, R778, R789, R790), coalescing times (R687 to R689), writes of registers without an action (R10 to R14). -/

namespace Sys2Proof.Machine

open Sys2Proof

/-- The device is out of reset: local time runs. -/
def outOfReset (d : Dev) : Bool := d.boot.phase != .inReset && d.boot.phase != .firmwareFailed

/-! ## Local time (R65 to R70) -/

/-- Local time moves on, and the ports do what the new time brings. -/
def advanceTime (d : Dev) (ns : Nat) : Dev :=
  (List.range 8).foldl portTick { d with clk := { d.clk with now := (d.clk.now + ns) % 2 ^ 64 } }

/-- A rising edge of the reference: 10 ns, unless the fallback counts (R65, R69). -/
def execReferenceEdge (s : State) : Host.Outcome State Fault Refusal :=
  onDev (fun d =>
    if !outOfReset d then d
    else if d.clk.fallback then { d with clk := { d.clk with refOk := true } }
    else advanceTime { d with clk := { d.clk with refOk := true } } 10) s

/-- With no command waiting: one cycle of the root-of-trust oscillator while the fallback counts (R69), else nothing. -/
def idleTick (d : Dev) : Dev := if outOfReset d && d.clk.fallback then advanceTime d 5 else d

/-- No reference edge for 200 ns (R69, R70): class G operations end, and the device enters custody. -/
def execReferenceLoss (s : State) : Host.Outcome State Fault Refusal :=
  onDevC (fun d =>
    if !outOfReset d || !d.clk.refOk then d else
    let d := failAll (ctrInc d cRefLoss) (fun _ => true) 0x220 St.budgetMissed
    let d := enterCustody (detectDevice d 0x220 0 0) 0x220
    { d with clk := { d.clk with refOk := false, fallback := true } }) s

/-! ## PLLs (R744, R746) -/

/-- Readiness bits of the functions that a PLL clocks (R744): a compute die's tile groups, the I/O core's transport and intake,
the control cores, the flash interface, a stack. -/
def pllBits (pll : Nat) : List Nat :=
  if pll < 2 then (List.range 8).map (fun g => rbTiles (8 * pll + g))
  else if pll = 2 then [rbTransport, rbIntake]
  else if pll = 3 then [rbCores]
  else if pll = 4 then rbBobbin :: (List.range 16).map rbOnfi
  else [rbStack (pll - 5)]

/-- A PLL loses lock (R746). -/
def execPllLockLoss (pll : Nat) (s : State) : Host.Outcome State Fault Refusal :=
  onDev (fun d =>
    if !outOfReset d || 17 ≤ pll || !bitOf d.clk.lock pll then d else
    let d := { d with clk := { d.clk with
      lock := d.clk.lock - 2 ^ pll
      loss := d.clk.loss ||| 2 ^ pll } }
    let d := faultPlain (ctrInc d cLockLoss) 0xA43 pll 0
    (pllBits pll).foldl unpost d) s

/-- The start-up of a domain's functions begins again (R746): runs reset (R506), cores and stacks start, and the functions
whose start-up leaves nothing to wait for post at once. A stack in ABSENT, RETIRED or FAILED stays there (R319, R320). -/
def domainRestart (d : Dev) (pll : Nat) : Dev :=
  if pll < 2 then
    (d.fab.runs.filter (fun r => r.tile / 320 == pll && r.st != 5)).foldl (fun d r => resetRun d r 0xA43) d
  else if pll = 2 then
    let d := if (d.boot.phase == .awaitVault || d.boot.phase == .running) && d.sec.cryptoReady then post d rbTransport else d
    if d.boot.phase == .running then post d rbIntake else d
  else if pll = 3 then (if d.boot.phase == .running then { d with sec := { d.sec with coresInReset := true } } else d)
  else if pll = 4 then tierCheck (d.bob.chTrained.foldl (fun d c => post d (rbOnfi c)) d)
  else
    let u := stackAt d (pll - 5)
    if 1 ≤ u.st && u.st ≤ 3 then setStack d (pll - 5) { u with trained := false } else d

/-- A PLL locks: for the first time, or again (R746). -/
def execPllRelocked (pll : Nat) (s : State) : Host.Outcome State Fault Refusal :=
  onDevC (fun d =>
    if !outOfReset d || 17 ≤ pll || bitOf d.clk.lock pll then d else
    let again := bitOf d.clk.loss pll
    let d := { d with clk := { d.clk with lock := d.clk.lock + 2 ^ pll } }
    if again then domainRestart d pll else d) s

/-- Delay in ns of a crossing between clock domains (R745): the destination's synchronizer depth in its cycles and one source cycle, each
cycle in ps, rounded up. The values that follow are those of R745's table; none lies on a class G stage. -/
def crossingNs (depth dst src : Nat) : Nat := (depth * dst + src + 999) / 1000
def xIoRot : Nat := crossingNs 2 5000 833
def xRotIo : Nat := crossingNs 3 833 5000
def xIoCores : Nat := crossingNs 3 667 833
def xCoresIo : Nat := crossingNs 3 833 667

/-! ## Watchdog (R754 to R756) -/

/-- A watched agent made no progress for WD_MS (R754, R756); suspended inside a switch window until CORES posts (R753). -/
def execWatchdogExpiry (agent : Nat) (s : State) : Host.Outcome State Fault Refusal :=
  onDevC (fun d =>
    if 10 ≤ agent || d.boot.phase != .running || (d.sec.switching && !isReady d rbCores) then d else
    let d := ctrInc { d with clk := { d.clk with wdAgent := agent, wdValid := true } } cWdExpiries
    let d := enterCustody (faultPlain d 0xA42 agent 0) 0xA42
    if agent < 8 then coreResetStart d else d) s

/-- The control cores are released with measured firmware (R755). -/
def execControlCoreResetDone (s : State) : Host.Outcome State Fault Refusal :=
  onDev (fun d =>
    if d.sec.coresInReset then
      coreResetEnd { d with boot := { d.boot with measureCores := sha3_512 (tgetD d.boot.vault 5 []) } }
    else d) s

/-- The test access port answers (R786): TAP_EN was high at end of reset, and either REGS has taken effect without approved mode, or the
device has no image and is still PROVISIONING. -/
def tapAnswers (s : State) : Bool :=
  s.dev.boot.tapEn &&
  ((!s.dev.img.isEmpty && !approved s.dev) || (s.dev.boot.phase == .noImage && !s.fuses.deployed))

/-! ## Rails and temperatures (R773, R777, R778, R789) -/

/-- Windows of the rails in mV, in the order of R773. -/
def railWindows : List (Nat × Nat) := [
  (679, 721), (679, 721), (728, 773), (728, 773), (728, 773), (728, 773), (1019, 1082), (388, 412), (1746, 1854),
  (825, 876), (1164, 1236), (825, 876), (728, 773), (1164, 1236), (1746, 1854)]

/-- One measurement of every rail: a second one in a row outside its window is reported, once per COALESCE_MS (R778). -/
def execRailMeasurement (mv : List Nat) (powerW : Nat) (s : State) : Host.Outcome State Fault Refusal :=
  onDev (fun d =>
    if !outOfReset d then d else
    let out := (List.range 15).filter (fun r =>
      let w := railWindows.getD r (0, 0)
      let v := mv.getD r 0
      v < w.1 || w.2 < v)
    let tell := out.filter (fun r => d.mon.railOut.contains r &&
      (match tget d.mon.railTold r with | none => true | some t => t + coalesceNs d ≤ now d))
    let d := tell.foldl (fun d r => faultPlain { d with mon := { d.mon with railTold := tset d.mon.railTold r (now d) } }
      0xA46 (r + mv.getD r 0 % 2 ^ 16 * 2 ^ 16) 0) d
    { d with mon := { d.mon with railOut := out, powerW := powerW } }) s

/-- Temperature of a hot spot in 0.0001 °C (R788): inlet in °C, powers in W, the region's ψ in 0.0001 °C/W: 1,200 for a compute die, 2,000 for
the I/O die, 4,500 for a stack. The board's cold plate decides it; the device reads it. -/
def hotSpot (inlet total region psi : Nat) : Nat := 10000 * inlet + 75 * total + psi * region

/-- The 1 ms read of the compute dies and the I/O die: sensors 1 to 3, critical at 100 °C and fatal at 110 °C (R768, R789). -/
def execDieTempSample (die0 die1 io : Int) (s : State) : Host.Outcome State Fault Refusal :=
  onDev (fun d =>
    if !outOfReset d then d else
    let d := { d with mon := { d.mon with dieTemp := [die0, die1, io] } }
    [die0, die1, io].zipIdx.foldl (fun d x => tempRead d (1 + x.2) [none, some 400, some 440] x.1) d) s

/-! ## Coalescing (R687 to R689) -/

/-- Entries of a subject for one destination. -/
def subjEntries (d : Dev) (k s o : Nat) : List CoEntry :=
  d.flt.entries.filter (fun e => e.subjKind == k && e.subject == s && e.dest == o)

/-- The pending entry whose earliest pending detection is oldest (R688). -/
def oldestPending (es : List CoEntry) : Option CoEntry :=
  (es.filter (fun e => e.pending != 0)).foldl (fun b e => match b with
    | none => some e
    | some x => some (if e.first < x.first then e else x)) none

/-- A subject's next-allowed time for one destination: one record, or its idle entries are freed (R688). -/
def allowedAt (d : Dev) (k s o : Nat) : Dev :=
  if now d < nextAllowed d k s o then d else
  let pend := oldestPending (subjEntries d k s o)
  let d := { d with flt := { d.flt with entries := d.flt.entries.filter (fun e =>
    !(e.subjKind == k && e.subject == s && e.dest == o && e.pending == 0)) } }
  match pend with
  | some e => writeUnit d e
  | none => d

/-- A subject's next-allowed time arrives (R687, R688). -/
def execCoalesceNextAllowed (subjKind : Nat) (subject : U64) (s : State) : Host.Outcome State Fault Refusal :=
  onDev (fun d =>
    let dests := ((d.flt.entries.filter (fun e => e.subjKind == subjKind && e.subject == subject.toNat)).map (·.dest)).eraseDups
    dests.foldl (fun d o => allowedAt d subjKind subject.toNat o) d) s

/-- The report of detections that found the table full (R689). -/
def execCoalesceFullReport (s : State) : Host.Outcome State Fault Refusal :=
  onDev (fun d =>
    if d.flt.fullLost = 0 || now d < d.flt.fullReportAt + coalesceNs d then d else
    let n := min d.flt.fullLost 0xFFFFFFFF
    let d := { d with flt := { d.flt with fullLost := 0, fullReportAt := now d } }
    faultWrite d 64
      { unit := true, cause := 0xA20, subjKind := 0x01, subject := fleet d, first := now d, last := now d, detail0 := n }) s

/-! ## Register writes (R11 to R14, R763) -/

/-- A host write of a register: the four registers with an action have commands of their own; every other write has no effect,
and neither has one that is narrower than 64 bits or misaligned. -/
def execRegisterWrite (_fn _addr _size : Nat) (_value : U64) (s : State) : Host.Outcome State Fault Refusal := .next s

end Sys2Proof.Machine
end

