-- ==== Sys2Proof/Machine/Spdm.lean ====
section
/-! DEFINITION. SPDM attestation and sessions (R647, R653 to R657, R678). Request and response codes and error codes are those
of SPDM 1.3 (PRESUMED). -/

namespace Sys2Proof.Machine

open Sys2Proof

/-- An SPDM answer, counted. -/
def spdmAnswer (d : Dev) (code : Nat) (fields : List Nat) (body : Bytes) : Dev :=
  emit (ctrInc d cSpdmRequests) (.spdm code fields body)

/-- An SPDM ERROR. -/
def spdmError (d : Dev) (code : Nat) : Dev := spdmAnswer d 0x7F [code] []
/-- InvalidRequest, InvalidSession, UnexpectedRequest, Unspecified, ResponseNotReady. -/
abbrev seInvalid : Nat := 0x01
abbrev seSession : Nat := 0x02
abbrev seUnexpected : Nat := 0x04
abbrev seUnspecified : Nat := 0x05
abbrev seNotReady : Nat := 0x42

/-- An answer whose bytes an outside standard forms: they stand free. -/
def spdmFree (d : Dev) (code : Nat) (fields : List Nat) : Dev :=
  let (n, d) := freeNext d
  spdmAnswer d code fields (Config.standardBytes n)

/-- µs from now to 200 ms after the switch start (R656). -/
def switchRest (d : Dev) : Nat := (200000000 - (d.boot.switchPast + (now d - d.boot.switchStart)) + 999) / 1000

/-- ResponseNotReady with RDTM 1 and RDTExponent ⌈log2 R⌉ (R656). -/
def spdmBusy (d : Dev) (request : Nat) : Dev :=
  ctrInc (spdmAnswer d 0x7F [seNotReady, clog2 (switchRest d), request, 1] []) cSpdmBusy

/-- The meaning of an SPDM request: the root-of-trust processor answers whenever its firmware runs (R644, R674). -/
def onSpdm (f : Dev → Dev) (s : State) : Host.Outcome State Fault Refusal := onDev (fun d => if rotRuns d then f d else d) s

/-- A request that needs the negotiated connection. -/
def onNegotiated (f : Dev → Dev) (s : State) : Host.Outcome State Fault Refusal :=
  onSpdm (fun d => if d.sec.negotiated then f d else spdmError d seUnexpected) s

/-- A request inside an established session. -/
def inSession (ses : Nat) (f : Dev → Dev) (s : State) : Host.Outcome State Fault Refusal :=
  onSpdm (fun d => if d.sec.sessions.contains (ses, true) then f d else spdmError d seSession) s

/-- GET_VERSION: SPDM 1.3; it starts the negotiation anew. -/
def execGetVersion (s : State) : Host.Outcome State Fault Refusal :=
  onSpdm (fun d => spdmAnswer { d with sec := { d.sec with negotiated := false } } 0x04 [0x13] []) s

/-- GET_CAPABILITIES. -/
def execGetCapabilities (s : State) : Host.Outcome State Fault Refusal := onSpdm (fun d => spdmFree d 0x61 []) s

/-- NEGOTIATE_ALGORITHMS: EdDSA Ed448, SHA3-512, SHA3-512, secp384r1 (R653). -/
def execNegotiateAlgorithms (s : State) : Host.Outcome State Fault Refusal :=
  onSpdm (fun d => spdmFree { d with sec := { d.sec with negotiated := true } } 0x63 []) s

/-- The chain of slot 0 (R647): its alias certificate carries both measurements. -/
def slotChain (d : Dev) : Bytes := Config.certChain d.boot.measureFw d.boot.measureImg

/-- GET_DIGESTS: slot 0 alone; without an alias certificate yet there is no chain. -/
def execGetDigests (s : State) : Host.Outcome State Fault Refusal :=
  onNegotiated (fun d =>
    if d.boot.measureImg.isEmpty then spdmError d seUnspecified else spdmAnswer d 0x01 [1] (sha3_512 (slotChain d))) s

/-- GET_CERTIFICATE. -/
def execGetCertificate (slot : Nat) (s : State) : Host.Outcome State Fault Refusal :=
  onNegotiated (fun d =>
    if slot != 0 then spdmError d seInvalid
    else if d.boot.measureImg.isEmpty then spdmError d seUnspecified else spdmAnswer d 0x02 [0] (slotChain d)) s

/-- CHALLENGE: not ready inside a switch window, Unspecified without keys (R656, R678). -/
def execChallenge (s : State) : Host.Outcome State Fault Refusal :=
  onNegotiated (fun d =>
    if d.sec.switching then spdmBusy d 0x83
    else if (aliasKey d).isNone then spdmError d seUnspecified else spdmFree d 0x03 []) s

/-- Measurement block 16 (R654). -/
def stateFlags (d : Dev) : Bytes :=
  le (bit1 d.sec.updateStaged + 2 * bit1 d.sec.coresInReset + 4 * bit1 d.sec.switching +
    8 * bit1 (d.flt.custody != .normal) + 16 * bit1 (approved d) + 32 * bit1 d.sec.error + 64 * bit1 d.sec.zeroized +
    128 * bit1 d.clk.fallback) 1 ++ zeroBytes 7 ++ le (now d) 8 ++ le d.sec.session.toNat 16

/-- The measurement blocks (R653, R655, R737): block 2 only with an image, block 3 once control-core firmware has been loaded;
how block 4 arranges its three facts is not given. -/
def measureBlocks (s : State) : List (Nat × Bytes) :=
  let d := s.dev
  [(1, d.boot.measureFw)] ++ (if d.boot.phase == .noImage || d.boot.measureImg.isEmpty then [] else [(2, d.boot.measureImg)]) ++
  (if d.boot.measureCores.isEmpty then [] else [(3, d.boot.measureCores)]) ++
  [(4, Config.fuseBlock 0x0B (bit1 s.fuses.deployed) (fleet d)), (16, stateFlags d)]

/-- GET_MEASUREMENTS (R653, R654, R656, R678): index 0 asks for the count, 255 for every block. -/
def execGetMeasurements (index : Nat) (signed : Bool) (s : State) : Host.Outcome State Fault Refusal :=
  onNegotiated (fun d =>
    if d.sec.switching then spdmBusy d 0xE0
    else if signed && (aliasKey d).isNone then spdmError d seUnspecified
    else
      let bs := measureBlocks s
      let got := bs.filter (fun b => index == 255 || b.1 == index)
      if index == 0 then spdmAnswer d 0x60 [bs.length, bit1 signed] []
      else if got.isEmpty then spdmError d seInvalid
      else spdmAnswer d 0x60 (bit1 signed :: got.map (·.1)) (got.flatMap (·.2))) s

/-- KEY_EXCHANGE opens a session; its answer is signed (R653, R656, R678). -/
def execKeyExchange (s : State) : Host.Outcome State Fault Refusal :=
  onNegotiated (fun d =>
    if d.sec.switching then spdmBusy d 0xE4
    else if (aliasKey d).isNone then spdmError d seUnspecified
    else
      let n := d.sec.nextSession
      spdmFree { d with sec := { d.sec with
        sessions := d.sec.sessions ++ [(n, false)]
        nextSession := n + 1 } } 0x64 [n]) s

/-- FINISH establishes the session. -/
def execFinish (ses : Nat) (s : State) : Host.Outcome State Fault Refusal :=
  onSpdm (fun d =>
    if d.sec.sessions.contains (ses, false) then
      spdmFree { d with sec := { d.sec with sessions := d.sec.sessions.map (fun x => if x.1 == ses then (ses, true) else x) } }
        0x65 [ses]
    else spdmError d seSession) s

/-- KEY_UPDATE. -/
def execKeyUpdate (ses : Nat) (s : State) : Host.Outcome State Fault Refusal := inSession ses (fun d => spdmAnswer d 0x69 [ses] []) s

/-- HEARTBEAT of an SPDM session. -/
def execSpdmHeartbeat (ses : Nat) (s : State) : Host.Outcome State Fault Refusal :=
  inSession ses (fun d => spdmAnswer d 0x68 [ses] []) s

/-- END_SESSION. -/
def execEndSession (ses : Nat) (s : State) : Host.Outcome State Fault Refusal :=
  inSession ses (fun d => spdmAnswer { d with sec := { d.sec with sessions := d.sec.sessions.filter (fun x => x.1 != ses) } }
    0x6C [ses] []) s

/-- VENDOR_DEFINED_REQUEST: IDE_KM programs a stream's keys, 0 the link stream and 1 to 8 the selective ones (R657); TDISP
messages have commands of their own. -/
def execVendorDefinedRequest (ses : Nat) (ideKm : Bool) (stream : Nat) (s : State) : Host.Outcome State Fault Refusal :=
  inSession ses (fun d =>
    if !ideKm then spdmAnswer d 0x7E [ses] []
    else if 8 < stream || !d.sec.keys then spdmError d seInvalid
    else spdmAnswer { d with sec := { d.sec with ide := if d.sec.ide.contains stream then d.sec.ide else d.sec.ide ++ [stream] } }
      0x7E [ses, stream] []) s

end Sys2Proof.Machine
end

