-- ==== Sys2Proof/Machine/Pair.lean ====
section
/-! DEFINITION. The selvedge pair (R694 to R708): heartbeats, the mirror stream at its receiver, resynchronization, loss of the
partner, takeover. -/

namespace Sys2Proof.Machine

open Sys2Proof

/-- The pair's security association is established, so that selvedge frames travel (R694). -/
def pairLinked (d : Dev) : Bool := paired d && (assocAt d (pairSa d)).any (·.established)

/-- A detection whose subject is the partner (R682). -/
def partnerFault (d : Dev) (cause d0 d1 : Nat) : Dev := detect d 0x0E (partnerFleet d) cause d0 d1

/-- The meaning of a selvedge frame that verifies: in TAKEN it is counted and discarded (R703). -/
def onSelvedge (tagOk : Bool) (f : Dev → Dev) (s : State) : Host.Outcome State Fault Refusal :=
  onDevC (fun d =>
    if !tagOk || !pairLinked d then d
    else if d.pair.state == .taken then ctrInc d cIgnored
    else if d.pair.state == .unpaired then d
    else f { d with pair := { d.pair with lastFrame := now d } }) s

/-! ## The mirror space (R700, R701) -/

/-- Discard the mirror space and its frames. -/
def dropMirror (d : Dev) : Dev :=
  { d with
    sas := { d.sas with
      frames := d.sas.frames.filter (fun e => e.1 < mirrorFrame)
      fullTold := false }
    pair := { d.pair with
      mirrorMem := []
      mirrorReqs := []
      mirrorRecs := []
      mirrorRings := [] } }

/-- Bytes of the mirror space. -/
def mirRead (d : Dev) (a n : Nat) : Bytes := memReadN 0 d.pair.mirrorMem a n

/-- Apply one mirror record; none when no frame is left for it (R696, R700, R701). -/
def applyMirror (d : Dev) (r : MirrorRec) : Option Dev :=
  match r.kind with
  | 1 => (mapAll d ((framesOf r.addr r.data.length).map (· + mirrorFrame))).map (fun d =>
      { d with pair := { d.pair with mirrorMem := memWriteN 0 d.pair.mirrorMem r.addr r.data } })
  | 2 =>
    let old := tgetD d.pair.mirrorReqs (r.addr / 2048) (zeroBytes 2048)
    some { d with pair := { d.pair with
      mirrorReqs := tset d.pair.mirrorReqs (r.addr / 2048) (patch old (r.addr % 2048) r.data) } }
  | 3 =>
    let key := r.addr % 2 ^ 19
    let slot := r.addr / 2 ^ 32
    let rings := match tget d.pair.mirrorRings key with
      | some b =>
        let n := unLe (sub b 32 8)
        let slots := 2 ^ fld b 4 4 0
        tset d.pair.mirrorRings key (patch b 32 (le (n + 1 + (slot + slots - n % slots) % slots) 8))
      | none => d.pair.mirrorRings
    some { d with pair := { d.pair with
      mirrorRecs := tset d.pair.mirrorRecs r.addr r.data
      mirrorRings := rings } }
  | 4 => some { d with
      sas := { d.sas with frames := tdel d.sas.frames (r.addr / 4096 + mirrorFrame) }
      pair := { d.pair with mirrorMem := memClear d.pair.mirrorMem (r.addr / 4096 * 4096) 4096 } }
  | 5 =>
    let key := r.addr % 2 ^ 19
    if fld r.data 0 13 12 == 0 then
      some { d with pair := { d.pair with
        mirrorRings := tdel d.pair.mirrorRings key
        mirrorRecs := d.pair.mirrorRecs.filter (fun x => x.1 % 2 ^ 19 != key) } }
    else some { d with pair := { d.pair with mirrorRings := tset d.pair.mirrorRings key r.data } }
  | _ => some d

/-- Apply the records of one frame in order. -/
def applyAll : Dev → List MirrorRec → Option Dev
  | d, [] => some d
  | d, r :: rs => match applyMirror d r with
    | some d => applyAll d rs
    | none => none

/-! ## Loss (R701 to R704) -/

/-- The pair enters LOST, its cause recorded; held effects leave, and the mirror space stays. -/
def enterLost (d : Dev) (cause : Nat) : Dev :=
  let was := d
  let d := partnerFault (ctrInc d cLosses) cause 0 0
  let d := { d with pair := { d.pair with
    state := .lost
    lostAt := now d
    ownResync := false
    peerResync := false
    resyncSent := none
    foreignTold := false } }
  tellSensors was (releaseHeld d d.pair.sent)

/-- A mirror record or a frame could not be applied, here or at the partner (R701). -/
def mirrorBroken (d : Dev) : Dev :=
  if d.pair.state == .mirrored || d.pair.state == .forming then enterLost d 0xA04 else d

/-- No verified selvedge frame for LOSS_US (R702). -/
def execPartnerLoss (s : State) : Host.Outcome State Fault Refusal :=
  onDevC (fun d =>
    if d.pair.state == .mirrored && d.pair.lastFrame + lossNs d ≤ now d then enterLost d 0xA01 else d) s

/-! ## Resynchronization (R703) -/

/-- Index groups that hold a page's blocks, by number in its own layer. -/
def pageGroups (k : Skein) (r : PageRef) (b : PageBody) : List Nat :=
  if r.foreign then [] else
  let g := (b.group - k.groupAddr r.layer 0) / 72
  (List.range ((b.first + b.blocks.length + 63) / 64)).map (· + g)

/-- Send every mirrored thing of a skein. -/
def sendSkein (d : Dev) (k : Skein) : Dev :=
  k.pages.foldl (fun d r => match findBody d r.body with
    | some b => if r.foreign then mirrorRef d k r b else mirrorPage d k r b (pageGroups k r b)
    | none => d) (mirrorDirs d none k)

/-- Send the whole mirrored state, then RESYNC_DONE (R695, R703). -/
def sendWhole (d : Dev) : Dev :=
  let d := { d with pair := { d.pair with resyncSent := some d.pair.sent } }
  let d := d.reqs.live.foldl (fun d r =>
    mirrorPush d [{ kind := 2, owner := r.core.owner, addr := r.slot * 2048, data := r.entryBytes }]) d
  let d := d.rings.foldl (fun d r =>
    mirrorPush d [{ kind := 5, owner := r.owner, addr := r.num + r.owner * 2 ^ 12, data := r.body }]) d
  let d := d.sas.skeins.foldl sendSkein d
  let d := d.sas.prefixTable.foldl (fun d e => sasMirror d e.owner (wayAddr e.bucket e.way) e.bytes) d
  let work := (d.sas.frames.map (·.1)).filter (fun f => 0x10000000 ≤ f && f < 0x100000000)
  let d := work.foldl (fun d f => sasMirror d 64 (4096 * f) (workRead d (4096 * f) 4096)) d
  sendSelvedge { d with pair := { d.pair with resyncSent := some d.pair.sent } } 0x04 0 false 0 []

/-- Both resynchronizations have ended: the pair is MIRRORED (R703). -/
def checkMirrored (d : Dev) : Dev :=
  if d.pair.state == .forming && d.pair.ownResync && d.pair.peerResync then
    tellSensors d { d with pair := { d.pair with state := .mirrored } }
  else d

/-- The partner's session is recorded, its stream counts on from its highest frame, and the own state goes out (R703). -/
def formWith (d : Dev) (session mseq : Nat) : Dev :=
  sendWhole { d with pair := { d.pair with
    session := some session
    applied := mseq } }

/-- HB_US since the last heartbeat (R702). DESIGN CHOICE (log entry 110): the warning of R522 for packet numbers that mirror frames used up
is written with the next heartbeat. -/
def execHeartbeatSend (s : State) : Host.Outcome State Fault Refusal :=
  onDev (fun d =>
    if !rotRuns d || !pairLinked d || d.pair.state == .taken || d.pair.state == .unpaired then d
    else if d.pair.lastHeartbeat.any (fun t => now d < t + hbNs d) then d
    else pnWarning (sendSelvedge (ctrInc { d with pair := { d.pair with lastHeartbeat := some (now d) } } cHbSent)
      0x01 d.pair.sent false (u64 d.sec.session.toNat) []) (pairSa d)) s

/-- A HEARTBEAT with its sender's session and highest frame arrives (R703). -/
def execHeartbeat (sess mseq : Nat) (tagOk : Bool) (s : State) : Host.Outcome State Fault Refusal :=
  onSelvedge tagOk (fun d =>
    let d := ctrInc d cHbReceived
    match d.pair.state with
    | .forming => if d.pair.resyncSent.isNone then formWith d sess mseq else d
    | .lost =>
      if d.pair.session == some sess then
        let was := d
        tellSensors was (formWith { dropMirror d with pair := { (dropMirror d).pair with state := .forming } } sess mseq)
      else if d.pair.foreignTold then d
      else partnerFault { d with pair := { d.pair with foreignTold := true } } 0xA02 0 0
    | _ => d) s

/-- A MIRROR frame (R697, R701): applied in order and acknowledged; a gap or a record without room breaks the pair. -/
def execMirror (mseq : Nat) (recs : List MirrorRec) (tagOk : Bool) (s : State) : Host.Outcome State Fault Refusal :=
  onSelvedge tagOk (fun d =>
    if d.pair.state != .mirrored && d.pair.state != .forming then d
    else if mseq ≤ d.pair.applied then d
    else
      let refuse (d : Dev) : Dev := mirrorBroken (sendSelvedge d 0x03 d.pair.applied true 0 [])
      if mseq != d.pair.applied + 1 then refuse d else
      match applyAll d recs with
      | some d => sendSelvedge { d with pair := { d.pair with applied := mseq } } 0x03 mseq false 0 []
      | none => refuse d) s

/-- A MACK (R698, R699, R701, R703). -/
def execMack (mseq : Nat) (error tagOk : Bool) (s : State) : Host.Outcome State Fault Refusal :=
  onSelvedge tagOk (fun d =>
    if error then mirrorBroken d
    else
      let n := max d.pair.acked (min mseq d.pair.sent)
      let own := d.pair.ownResync || (match d.pair.resyncSent with | some k => k ≤ n | none => false)
      checkMirrored (releaseHeld { d with pair := { d.pair with acked := n, ownResync := own } } n)) s

/-- The partner's RESYNC_DONE: its whole state has been applied (R703). -/
def execResyncDone (tagOk : Bool) (s : State) : Host.Outcome State Fault Refusal :=
  onSelvedge tagOk (fun d =>
    if d.pair.state == .forming then
      checkMirrored (sendSelvedge { d with pair := { d.pair with peerResync := true } } 0x03 d.pair.applied false 0 [])
    else d) s

/-! ## Adoption (R705, R707, R708) -/

/-- A block of the mirror space: position `i` of the index group at `g` (R240, R241, R374). -/
def mirBlock (d : Dev) (g bpp i : Nat) : StoredBlock × Nat :=
  let b := mirRead d (g + 72 * (i / 64)) 72
  let ents := (b.drop 8).map (·.toNat)
  let e := ents.getD (i % 64) 0
  let a := blockAddr (fld b 0 56 48) (max 1 bpp) (fld b 0 63 63 == 1) (ents.take (i % 64)) 0 (fld b 0 47 0)
  ({ entry := e, data := mirRead d a (storedLen e) }, a + mirrorOff)

/-- Shape, capacity and mask sets of a mirrored header (R24, R237). -/
def mirShape (h : Bytes) : Shape :=
  { layers := fld h 0x0C 7 0, kvHeads := fld h 0x0C 15 8, qHeads := fld h 0x0C 23 16, fmt := fld h 0x0C 31 24,
    headDim := fld h 0x10 15 0 }

/-- A page of a mirrored skein: layer, page, its 64-bit entry (R238). -/
def mirPages (d : Dev) (h : Bytes) (cap : Nat) : List (Nat × Nat × Nat) :=
  (List.range (mirShape h).layers).flatMap (fun l =>
    let pt := unLe (mirRead d (fld h 0x40 47 0 + 64 * l) 8)
    ((List.range cap).map (fun p => (l, p, unLe (mirRead d (pt + 8 * p) 8)))).filter (fun x => bits x.2.2 57 51 != 0))

/-- The state of a STATE code (R24). -/
def skeinStateOf (n : Nat) : SkeinState := if n = 1 then .receiving else if n = 2 then .bound else if n = 3 then .prefix_ else .aborted

/-- A mirrored skein with its pages' bodies numbered by `body` (R705). Its descriptor stands apart from the own ones, and its
addresses lie in the mirror space. -/
def mirSkein (d : Dev) (slot : Nat) (h : Bytes) (body : Nat → Nat) : Skein :=
  let sh := mirShape h
  let cap := unLe (mirRead d (fld h 0x40 47 0 + 0x18) 4)
  let k : Skein := {
    slot := slot + 262144
    id := u64 (unLe (sub h 0 8))
    model := fld h 8 31 0
    shape := sh
    thinOk := fld h 0x10 16 16 == 1
    retain := fld h 0x10 17 17 == 1
    sealed := fld h 0x10 18 18 == 1
    hasShared := fld h 0x10 19 19 == 1
    tenant := fld h 0x14 6 0
    state := skeinStateOf (fld h 0x14 10 8)
    tokens := unLe (sub h 0x18 8)
    lastHash := BitVec.ofNat 128 (unLe (sub h 0x20 16))
    created := unLe (sub h 0x30 8)
    lastAccess := unLe (sub h 0x38 8)
    base := fld h 0x40 47 0 + mirrorOff
    cap := cap
    maskSets := fld h 0x50 52 48
    splitPage := fld h 0x60 31 0
    windowPages := fld h 0x64 31 0
    prefixPages := fld h 0x68 31 0
    genDevice := fld h 0x70 23 0
    tokenCount := unLe (sub h 0x18 8) }
  let pages := (mirPages d h cap).map (fun x =>
    let e := x.2.2
    ({ layer := x.1
       page := x.2.1
       body := body (e % 2 ^ 51)
       tokens := bits e 57 51
       thinned := bitOf e 58
       foreign := bitOf e 59
       summary := mirRead d (k.sumAddr x.1 x.2.1 - mirrorOff) (sumBytes sh)
       masks := (List.range k.maskSets).map (fun m => u64 (unLe (mirRead d (k.maskAddr m x.1 x.2.1 - mirrorOff) 8))) } : PageRef))
  let layer (l : Nat) : LayerDir :=
    let dir := mirRead d (k.dirAddr l - mirrorOff) 64
    let slotAt (g : Nat) : Nat := (fld (mirRead d (k.groupAddr l g - mirrorOff) 8) 0 47 0 + mirrorOff - 0x800000000000) / 0x40000
    let gs := fld dir 0x28 31 0
    let solos := ((pages.filter (fun r => r.layer == l && !r.foreign)).map (fun r => k.soloGroup r.page)).filter (fun g =>
      fld (mirRead d (k.groupAddr l g - mirrorOff) 8) 0 63 63 == 1)
    { lastAccess := unLe (sub dir 0x20 8)
      nr := fld dir 0x14 31 0
      hints := (List.range (fld dir 0x2C 12 0)).map (fun i => unLe (mirRead d (k.hintAddr l - mirrorOff + 4 * i) 4))
      groups := (List.range gs ++ solos).map (fun g => (g, slotAt g))
      stream := ((List.range gs).flatMap (fun g => ((mirRead d (k.groupAddr l g - mirrorOff) 72).drop 8).map (·.toNat))).filter (· != 0) }
  { k with pages := pages, layers := (List.range sh.layers).map (fun l => (l, layer l)) }

/-- Whether an index group of a skein is a solo group (R239). -/
def soloAt (k : Skein) (g : Nat) : Bool :=
  (List.range k.shape.layers).any (fun l => k.groupAddr l (k.soloGroup 0) ≤ g && g < k.groupAddr l (k.soloGroup k.cap))

/-- Adopt every skein descriptor of the mirror space, with its pages (R705). -/
def adoptSkeins (d : Dev) : Nat × Dev :=
  let slots := ((d.pair.mirrorMem.filter (fun c => c.1 < 0x4000000)).map (fun c => c.1 / 256)).eraseDups
  let heads := (slots.map (fun n => (n, mirRead d (256 * n) 256))).filter (fun x => fld x.2 0x14 10 8 != 0)
  let capOf (h : Bytes) : Nat := unLe (mirRead d (fld h 0x40 47 0 + 0x18) 4)
  let uses := heads.flatMap (fun x => (mirPages d x.2 (capOf x.2)).map (fun p => (x.2, p.2.2)))
  let keys := (uses.map (fun u => u.2 % 2 ^ 51)).eraseDups
  let n0 := d.sas.nextBody
  let body (e : Nat) : Nat := n0 + keys.findIdx (· == e)
  let ks := heads.map (fun x => mirSkein d x.1 x.2 body)
  let bodies := keys.map (fun e =>
    let u := (uses.find? (fun u => u.2 % 2 ^ 51 == e)).getD ([], 0)
    let sh := mirShape u.1
    let bpp := shapeBpp sh
    let g := bits e 44 0 * 8
    let f := bits e 50 45
    let bs := (List.range bpp).map (fun j => mirBlock d g bpp (f + j))
    let home := ks.find? (fun k => k.base ≤ g + mirrorOff && g + mirrorOff < k.base + resvSize k.shape k.cap k.maskSets)
    ({ id := body e
       resv := match home with | some k => k.base | none => mirrorOff
       index := framesOf (g + mirrorOff) (72 * ((f + bpp + 63) / 64))
       group := g + mirrorOff
       first := f
       fmt := sh.fmt
       tokens := bits u.2 57 51
       thinned := bitOf u.2 58
       solo := match home with | some k => soloAt k (g + mirrorOff) | none => true
       blocks := bs.map (·.1)
       addrs := bs.map (·.2) } : PageBody))
  let resv := ks.map (fun k => ({ base := k.base, size := resvSize k.shape k.cap k.maskSets, slot := k.slot } : Reservation))
  let ways := ((d.pair.mirrorMem.filter (fun c => 0x20000000 ≤ c.1 && c.1 < 0x40000000)).map (fun c => (c.1 - 0x20000000) / 32)).eraseDups
  let prefixes := ways.map (fun w =>
    let b := mirRead d (0x20000000 + 32 * w) 32
    ({ bucket := w / 8
       way := w % 8 + 8
       hash := BitVec.ofNat 128 (unLe (sub b 0 16))
       skein := u64 (unLe (sub b 16 8))
       model := unLe (sub b 24 4)
       block := fld b 28 24 0
       owner := fld b 28 31 25 } : PrefixEntry))
  let work := (d.pair.mirrorMem.filter (fun c => 0x10000000000 ≤ c.1 && c.1 < 0x100000000000)).map (fun c => (c.1 + mirrorOff, c.2))
  (ks.length, { d with sas := { d.sas with
    skeins := d.sas.skeins ++ ks
    bodies := d.sas.bodies ++ bodies
    nextBody := n0 + keys.length
    reservations := d.sas.reservations ++ resv
    prefixTable := d.sas.prefixTable ++ prefixes
    work := work.foldl (fun m c => memWrite 0 m c.1 c.2) d.sas.work } })

/-- The state of a STATE code (R146, R151). -/
def reqStateOf (n : Nat) : ReqState :=
  [.free, .opening, .prefill, .handing, .shipping, .waiting, .decoding, .ending, .accepting].getD n .free

/-- Words of a byte string. -/
def wordsOf (bs : Bytes) : List U32 := (chunks 4 (bs.length / 4) bs).map (fun b => u32 (unLe b))

/-- The request table entry that 2 KiB of the mirror space hold (R146, R211, R705, R708). Its slot and its rings stand apart from
the own ones. -/
def mirReq (d : Dev) (slot : Nat) (b : Bytes) : Req :=
  let c : ReqCore := {
    requestId := u64 (unLe (sub b 0 8))
    skeinId := u64 (unLe (sub b 8 8))
    owner := fld b 0x10 12 6
    cplRing := fld b 0x14 11 0 + 4096
    tokenRing := fld b 0x16 11 0 + 4096
    home := fld b 0x18 23 0
    genDevice := fld b 0x1C 23 0
    opened := unLe (sub b 0x20 8)
    ageAtOpen := unLe (sub b 0x28 8)
    lastStep := u32 (fld b 0x30 31 0)
    generated := fld b 0x34 31 0
    maxTokens := fld b 0x38 31 0
    stopSet := fld b 0x3C 15 0
    ttftUs := fld b 0x40 31 0
    tbtUs := fld b 0x44 31 0
    lastToken := unLe (sub b 0x48 8)
    tag := u32 (fld b 0x50 31 0)
    kPages := fld b 0x54 15 0
    kCap := fld b 0x56 15 0
    epsilon := u32 (fld b 0x58 31 0)
    biasTable := fld b 0x5C 7 0
    windowPages := fld b 0x60 31 0 }
  let k := findSkein d c.skeinId
  { slot := slot + 16384
    state := reqStateOf (fld b 0x10 3 0)
    gen := fld b 0x10 4 4 == 1
    cancelPending := fld b 0x10 5 5 == 1
    core := c
    openRef := { kind := 0x10, tag := c.tag, request := c.requestId, ring := c.cplRing, owner := c.owner }
    since := now d
    model := match k with | some k => k.model | none => 0
    shape := match k with | some k => k.shape | none => {}
    maskSets := match k with | some k => k.maskSets | none => 0
    tokenCount := match k with | some k => k.tokens | none => 0
    prefixPages := match k with | some k => k.prefixPages | none => 0
    split := match k with | some k => k.splitPage | none => 0
    stopCopy := sub b 0x80 640
    hashCarry := BitVec.ofNat 128 (unLe (sub b 0x300 16))
    nextBlock := fld b 0x314 31 0
    history := wordsOf (sub b 0x340 (4 * fld b 0x37C 3 0))
    blockBuf := wordsOf (sub b 0x380 (4 * fld b 0x310 5 0)) }

/-- Adopt every request entry of the mirror space (R705). -/
def adoptReqs (d : Dev) : Nat × Dev :=
  let rs := (d.pair.mirrorReqs.map (fun x => mirReq d x.1 x.2)).filter (fun r => r.state != .free)
  let inc := (rs.filter (fun r => !r.gen)).foldl (fun t r => tset t r.slot (reqInc r.core.requestId)) d.reqs.inc
  (rs.length, { d with reqs := { d.reqs with live := d.reqs.live ++ rs, inc := inc } })

/-- A mirrored ring (R170, R695), its consumed count to be read anew (R164). -/
def mirRing (key : Nat) (b : Bytes) : Ring :=
  let n := unLe (sub b 32 8)
  { num := key % 4096 + 4096
    kind := fld b 0 13 12
    owner := bits key 18 12
    remote := bitOf (unLe (sub b 0 4)) 14
    log2 := fld b 4 4 0
    base := unLe (sub b 8 8)
    headAddr := unLe (sub b 16 8)
    conn := fld b 24 19 0
    produced := n
    consumed := n - 2 ^ fld b 4 4 0 }

/-- Rewrite the mirrored records of an adopted ring at their slots; a remote ring without its connection is BROKEN (R705,
R707). -/
def rewriteRing (d : Dev) (r : Ring) : Dev :=
  let key := r.num % 4096 + 2 ^ 12 * r.owner
  if r.remote && !connReady d r.conn then breakRing d r else
  let d := (d.pair.mirrorRecs.filter (fun x => x.1 % 2 ^ 19 == key)).foldl (fun d x =>
    let a := r.base + x.1 / 2 ^ 32 * r.slotBytes
    if r.remote then
      postEntry d r.conn { op := 0x01, length := x.2.length, data := .bytes x.2, raddr := a, rkey := Config.remoteKey r.conn a, vc1 := true }
    else hostWrite d r.owner a x.2) d
  if r.room = 0 then startHeadRead d r.num else d

/-- Adopt the mirrored rings (R705, R707). -/
def adoptRings (d : Dev) : Dev :=
  let rs := d.pair.mirrorRings.map (fun x => mirRing x.1 x.2)
  rs.foldl rewriteRing { d with rings := d.rings ++ rs }

/-- Take the partner's place (R705). -/
def takeOver (d : Dev) : Dev :=
  let was := d
  let d := if d.pair.state == .mirrored || d.pair.state == .forming then enterLost d 0xA01 else d
  let d := { d with pair := { d.pair with state := .taken, adopted := some (partnerFleet d) } }
  let (nk, d) := adoptSkeins d
  let (nr, d) := adoptReqs d
  let d := adoptRings d
  let d := partnerFault (ctrInc d cTakeovers) 0xA03 nr nk
  tellSensors was { d with pair := { d.pair with
    mirrorMem := []
    mirrorReqs := []
    mirrorRecs := []
    mirrorRings := [] } }

/-- Release the mirror space on certificate, and form anew (R703). -/
def releaseMirror (d : Dev) : Dev :=
  let was := d
  let d := faultPlain (releaseHeld (dropMirror d) d.pair.sent) 0xA05 0 0
  tellSensors was { d with pair := { d.pair with
    state := .forming
    ownResync := false
    peerResync := false
    resyncSent := none } }

/-- An accepted TAKEOVER; in TAKEN it has no effect (R703, R705). -/
def takeoverDo (d : Dev) (mode : Nat) : Dev :=
  if d.pair.state == .taken then d else if mode = 0 then takeOver d else releaseMirror d

/-- A signed TAKEOVER: one that names another pair is refused (R706). -/
def signedTakeover (d : Dev) (h : SigHdr) (mode fl : Nat) : Nat × Dev :=
  signedDo d h qTakeover false (if paired d && fl == partnerFleet d then St.ok else St.pairMismatch) (fun d => takeoverDo d mode)

/-- TAKEOVER with MODE 0 (R703, R705). -/
def execTakeover (h : SigHdr) (mode fleet : Nat) (s : State) : Host.Outcome State Fault Refusal :=
  onSigned (fun d => signedTakeover d h mode fleet) s

/-- TAKEOVER with MODE 1 (R703). -/
def execTakeoverRelease (h : SigHdr) (mode fleet : Nat) (s : State) : Host.Outcome State Fault Refusal :=
  onSigned (fun d => signedTakeover d h mode fleet) s

end Sys2Proof.Machine
end

