-- ==== Sys2Proof/Machine/RegRead.lean ====
section
/-! DEFINITION. What every register reads (R758 to R762), from the state: the registers of each block, BAR0 through the
physical function and through a tenant domain's function (R10, R12, R625), and the list of the registers of the I/O core
register file (R759, R761). -/

namespace Sys2Proof.Machine

open Sys2Proof

/-- A field of a register: its value, cut to `w` bits, from bit `lo` on. -/
def put (v w lo : Nat) : Nat := v % 2 ^ w * 2 ^ lo

/-- Registers of a family at `base`, `stride` apart. -/
def slotIn (base stride count a : Nat) : Option Nat :=
  if base ≤ a && (a - base) % stride == 0 && (a - base) / stride < count then some ((a - base) / stride) else none

/-- The value that REGS or the image header set, and the count of a counter: what a register of either kind reads (R14). -/
def plainReg (d : Dev) (a : Nat) : Nat := tgetD d.img a 0 + satRead (tgetD d.ctr a 0)

/-! ## Blocks -/

/-- Bytes 8i to 8i + 7 of the identity public key digest (R679). -/
def digestReg (i : Nat) : Nat := unLe (sub idDigest (8 * i) 8)

/-- The slots of the owner keys that are revoked, MIN_SVN and the lifecycle (R757). -/
def fuseBits (f : Fuses) : Nat := put f.minSvn 7 8 + put f.revoked 4 20 + put (bit1 f.deployed) 1 24

/-- IDENT (R640, R679, R757). -/
def identReg (s : State) (a : Nat) : Nat :=
  let d := s.dev
  match a with
  | 0x0 => 0x0B + put (roles d) 3 8 + put (bit1 (d.boot.phase == .noImage)) 1 11
  | 0x18 => tgetD d.img 0x18 0 + fuseBits s.fuses + put d.boot.slot 1 16 + put (bit1 d.boot.fallback) 1 17
  | 0x100 => Config.pciVendor.toNat + 0x4816 * 2 ^ 16 + 0x4817 * 2 ^ 32
  | 0x108 => bit1 d.host.l0 + put d.host.rate 3 1 + put d.host.width 5 4 + put (bit1 d.host.mps256) 1 9 + put d.host.vfs 7 10
  | a => match slotIn 0x180 8 8 a with
    | some i => digestReg i
    | none => plainReg d a

/-- Every expected readiness bit is posted (R741); until REGS has taken effect nothing is expected yet, and the field reads its reset
value. -/
def allPosted (d : Dev) : Bool := !d.img.isEmpty && (List.range 59).all (fun b => !bitOf (tgetD d.img 0x10008 0) b || bitOf d.ready b)

/-- READY (R757). -/
def readyReg (d : Dev) (a : Nat) : Nat :=
  match a with
  | 0x10000 => d.ready
  | 0x10010 => bit1 (allPosted d) + put d.flt.log.length 9 1
  | a => match slotIn 0x10100 8 59 a with
    | some b => tgetD d.readyAt b 0
    | none => plainReg d a

/-- A FAULT_PEER slot's four registers (R692, R693, R715). -/
def peerReg (d : Dev) (i w : Nat) : Nat :=
  match d.flt.peers[i]? with
  | some p => (match w with
    | 0 => put p.fleet 24 0 + 2 ^ 63
    | 1 => satRead p.lastWindow
    | 2 => satRead p.lastStep
    | _ => satRead p.barriers)
  | none => if i == 0 && w == 0 then 0xFFFFFF else 0

/-- FAULT (R715). -/
def faultReg (d : Dev) (a : Nat) : Nat :=
  match a with
  | 0x20008 => (match d.flt.custody with | .normal => 0 | .custody => 1 | .testing => 2) + put d.flt.trigger 12 16
  | 0x20010 => d.flt.custodyAt
  | 0x20018 => (match d.flt.last with
    | some r => put r.cause 12 0 + put (bit1 r.unit) 1 12 + put r.subjKind 8 16 + 2 ^ 63
    | none => 0)
  | 0x20020 => (match d.flt.readmit with | some x => put x 8 0 + 2 ^ 63 | none => 0)
  | 0x20028 => d.flt.stepLast
  | 0x20030 => put d.flt.entries.length 13 0
  | a => match slotIn 0x21000 8 1024 a with
    | some i => peerReg d (i / 4) (i % 4)
    | none => plainReg d a

/-- TIME (R126). -/
def timeReg (d : Dev) (a : Nat) : Nat :=
  match a with
  | 0x30000 => now d % 2 ^ 64
  | 0x30008 => bit1 d.clk.refOk + put (bit1 d.clk.fallback) 1 1
  | a => plainReg d a

/-- ADMIT (R126). -/
def admitReg (d : Dev) (a : Nat) : Nat :=
  if a == 0x40010 then put (d.adm.ops.filter (fun o => o.cls == .g)).length 17 0 else plainReg d a

/-- One bit for each stopped lane from `lo` on. -/
def stalledBits (p : Nat → Bool) : Nat := ((List.range 64).map (fun n => put (bit1 (p n)) 1 n)).sum

/-- REQ (R179, R223). -/
def reqReg (d : Dev) (a : Nat) : Nat :=
  let live := (d.reqs.live.filter (fun r => r.state != .free && r.slot < 16384)).length
  match a with
  | 0x50000 => put live 15 0 + put (bit1 (live == 16384)) 1 15
  | 0x51800 => stalledBits (fun n => (laneAt d n).stalled)
  | 0x51808 => stalledBits (fun n => (laneAt d (64 + n)).stalled)
  | 0x52020 => put d.reqs.stopSets.length 11 0
  | a => match slotIn 0x51400 8 128 a with
    | some i => (laneAt d i).expected.toNat
    | none => plainReg d a

/-- SAS (R64, R223, R287, R322). -/
def sasReg (d : Dev) (a : Nat) : Nat :=
  match a with
  | 0x80010 => put (stackFree d) 32 0 + put (stackTotal d) 32 32
  | 0x80018 => put (bobFree d) 34 0
  | 0x80020 => put d.bob.totalFrames 34 0
  | 0x80028 => put (usableStacks d).length 4 0 + put (bit1 d.stk.hotScale) 1 4
  | 0x80100 =>
    let n := (d.sas.skeins.filter (·.slot < 262144)).length
    put n 19 0 + put (bit1 (n == 262144)) 1 19
  | 0x80108 => put (d.sas.skeins.filter (fun k => k.state == .prefix_ && k.slot < 262144)).length 19 0
  | 0x80200 => put d.sas.prefixTable.length 25 0
  | a => plainReg d a

/-- CODEC (R399). -/
def codecReg (d : Dev) (a : Nat) : Nat :=
  if a == 0xC0000 then match d.codecErr with
    | some (x, k) => put x 48 0 + put k 3 48 + 2 ^ 63
    | none => 0
  else plainReg d a

/-- State of a tile: that of its run, or failed in self-test (R489, R509, R511). -/
def tileState (d : Dev) (t : Nat) : Nat :=
  if d.fab.badTiles.contains t then 6 else match d.fab.runs.find? (fun r => r.tiles.contains t) with
    | some r => r.st
    | none => if d.fab.fenced.contains t then 4 else if d.fab.stopped then 5 else 0

/-- FABRIC (R445, R478, R511). -/
def fabricReg (d : Dev) (a : Nat) : Nat :=
  match a with
  | 0x100000 => bit1 d.fab.stopped + put d.fab.fenced.length 10 1
  | 0x100200 => (match d.fab.lastMismatch with
    | some (o, x, dr, b) => put o 10 0 + put x 10 16 + put dr 4 32 + put (bit1 b) 1 36 + 2 ^ 63
    | none => 0)
  | 0x120200 => (match d.retr.lastNf with
    | some (p, l, k) => put p 32 0 + put l 8 32 + put k 18 40 + 2 ^ 63
    | none => 0)
  | a => match slotIn 0x100100 8 16 a with
    | some i => plainReg d a + put (runsAvail d i) 10 32
    | none => match slotIn 0x102000 8 640 a with
      | some t => plainReg d a + put (tileState d t) 3 15
      | none => plainReg d a

/-- Operations whose current stage is a shuttle's. -/
def activeShuttles (d : Dev) : Nat :=
  (d.adm.ops.filter (fun o => match o.stages[o.cur]? with | some s => s.ledger == lSHT | none => false)).length

/-- Index groups held: those in frames that are still mapped (R375). -/
def heldGroups (d : Dev) : Nat := (d.sas.indexCache.filter (fun a => (tget d.sas.frames (a / 4096)).isSome)).length

/-- SHUTTLE (R762). -/
def shuttleReg (d : Dev) (a : Nat) : Nat :=
  match a with
  | 0x140000 => put (sqInUse d) 17 0 + put d.weft.trackers.length 15 32 + put (min (activeShuttles d) 64) 7 48
  | 0x140008 => put (heldGroups d) 18 0
  | a => plainReg d a

/-- WEFT (R552). -/
def weftReg (d : Dev) (a : Nat) : Nat :=
  match a with
  | 0x180010 => bit1 d.weft.cmdBusy
  | 0x180018 => put d.weft.cmdStatus 16 0 + put d.weft.cmdValue 32 32
  | 0x180020 => put (d.weft.conns.filter (fun c => c.state != .free)).length 21 0 +
      put (d.weft.regions.filter (fun r => r.2.state != .free)).length 15 32
  | a => plainReg d a

/-- A line queue has stopped (R567). -/
def lqStalled (d : Dev) (o : Nat) : Bool := match findLq d o with | some q => q.stalled | none => false

/-- MSA (R579): every line request is served within its command, so MSA_ARRIVALS reads 0. -/
def msaReg (d : Dev) (a : Nat) : Nat :=
  match a with
  | 0x1C0008 => bit1 (d.lines.queues.any (·.closing))
  | 0x1C0010 => stalledBits (lqStalled d)
  | 0x1C0018 => bit1 (lqStalled d 64)
  | a => plainReg d a

/-- Port states as PORTn_STATUS gives them (R617). -/
def portCode : PortState → Nat
  | .off => 0
  | .down => 1
  | .training => 2
  | .up => 3

/-- PORTn (R617). -/
def portReg (d : Dev) (n o : Nat) : Nat :=
  let x := d.ports.getD n {}
  let a := 0x200000 + 0x10000 * n + o
  match o with
  | 0x0 => plainReg d a - (if n == 7 then 0 else put (bits (plainReg d a) 2 2) 1 2)
  | 0x10 => portCode x.state + put (bit1 x.llrOn) 1 2 + put x.laneLock 4 4 + put x.rttNs 10 8 +
      (x.vcWait.zipIdx.map (fun w => put (bit1 w.1) 1 (24 + w.2))).sum
  | 0x18 => put x.active 2 0 + (match x.pending with | some (l, _) => 4 + put l 2 3 | none => 0)
  | 0x20 => x.gateStart
  | 0x28 => (match x.pending with | some (_, t) => t | none => 0)
  | _ => plainReg d a

/-- STACKn (R291, R322). -/
def stackReg (d : Dev) (n o : Nat) : Nat :=
  let u := stackAt d n
  let h := hottest u.temps
  match o with
  | 0x0 => put u.st 3 0 + put (bit1 u.hot) 1 3 + put (if 380 ≤ h then 2 else if 340 ≤ h then 1 else 0) 2 4 + put u.suspect 16 16
  | 0x8 => put h 11 0 + put (u.temps.idxOf h) 4 16
  | 0x18 => put (freeOn d n) 32 0 + put (if u.usable then stackPhys else 0) 32 32
  | 0x20 => (match u.lastUe with
    | some (f, l, dies) => put f 25 0 + put l 6 25 + put dies 16 32 + 2 ^ 63
    | none => 0)
  | _ => plainReg d (0x300000 + 0x10000 * n + o)

/-- BOBBIN_TGTn (R359). -/
def targetReg (t : BobTarget) : Nat :=
  put t.st 2 0 + put (t.luns - 1) 2 2 +
  put (((t.table.filter (fun b => b.st != .bad)).map BobBlock.erases).foldl max 0) 24 32

/-- BOBBIN (R359). -/
def bobbinReg (d : Dev) (a : Nat) : Nat :=
  match a with
  | 0x400000 => ((List.range 16).map (fun c => put (bit1 (isReady d (rbOnfi c))) 1 c)).sum +
      put (bit1 (tierReady d)) 1 16 + put (bit1 d.bob.full) 1 17
  | 0x400018 => put (d.bob.rawBytes / 1000000) 48 0
  | 0x400020 => put (erasedFree d) 32 0 +
      put ((d.bob.targets.map (fun t => (t.2.table.filter (fun b => b.st == .bad)).length)).sum) 32 32
  | 0x400028 => (match d.bob.lastUe with
    | some (l, p, tag) => locCode (8 * l.ch + l.tgt) l.lun l.blk p + put (bit1 tag) 1 42 + 2 ^ 63
    | none => 0)
  | a => match slotIn 0x400100 8 128 a with
    | some t => (match tget d.bob.targets t with | some x => targetReg x | none => 0)
    | none => plainReg d a

/-- CHECK (R579). -/
def checkReg (d : Dev) (a : Nat) : Nat :=
  match slotIn 0x480000 8 16 a with
  | some u => (d.checks.getD u {}).value
  | none => match slotIn 0x480080 8 16 a with
    | some u =>
      let x := d.checks.getD u {}
      x.info % 2 ^ 49 + put (bit1 (!x.queue.isEmpty)) 1 49 + put (x.queue.length - 1) 7 50
    | none => plainReg d a

/-- SELVEDGE (R715). -/
def selvedgeReg (d : Dev) (a : Nat) : Nat :=
  match a with
  | 0x4C0010 => (pairSensor d - 1) + put (bit1 d.pair.ownResync) 1 3 + put (bit1 d.pair.peerResync) 1 4
  | 0x4C0018 => d.pair.sent
  | 0x4C0020 => d.pair.acked
  | 0x4C0028 => d.pair.applied
  | 0x4C0030 => d.pair.lostAt
  | a => plainReg d a

/-- SEC (R679). -/
def secReg (d : Dev) (a : Nat) : Nat :=
  match a with
  | 0x500000 => bit1 (approved d) + put (bit1 d.sec.cryptoReady) 1 1 + put (bit1 d.sec.error) 1 2 + put (bit1 d.sec.zeroized) 1 3 +
      put (bit1 d.sec.updateStaged) 1 4 + put (bit1 d.sec.coresInReset) 1 5 + put (bit1 d.sec.switching) 1 6
  | 0x500018 => d.sec.session.toNat % 2 ^ 64
  | 0x500020 => d.sec.session.toNat / 2 ^ 64
  | 0x500028 => d.sec.msgSeq
  | 0x500038 => put (d.sec.assocs.filter (·.established)).length 13 0
  | a => plainReg d a

/-- CLOCKPWR (R757). -/
def clockReg (d : Dev) (a : Nat) : Nat :=
  match a with
  | 0x600000 => put d.clk.lock 17 0 + put d.clk.loss 17 32
  | 0x600008 => plainReg d a + put d.clk.wdAgent 4 16 + put (bit1 d.clk.wdValid) 1 63
  | a => plainReg d a

/-! ## BAR0 -/

/-- Registers that every state of the device answers (R737). -/
def earlyReg (s : State) (a : Nat) : Nat :=
  if a < 0x10000 then identReg s a
  else if a < 0x20000 then readyReg s.dev a
  else if a < 0x30000 then faultReg s.dev a
  else timeReg s.dev a

/-- The register file of the I/O core from ADMIT to SELVEDGE (R758, R759). -/
def lateReg (d : Dev) (a : Nat) : Nat :=
  if a < 0x50000 then admitReg d a
  else if a < 0x80000 then reqReg d a
  else if a < 0xC0000 then sasReg d a
  else if a < 0x100000 then codecReg d a
  else if a < 0x140000 then fabricReg d a
  else if a < 0x180000 then shuttleReg d a
  else if a < 0x1C0000 then weftReg d a
  else if a < 0x200000 then msaReg d a
  else if a < 0x280000 then portReg d ((a - 0x200000) / 0x10000) (a % 0x10000)
  else if a < 0x300000 then 0
  else if a < 0x3C0000 then stackReg d ((a - 0x300000) / 0x10000) (a % 0x10000)
  else if a < 0x400000 then 0
  else if a < 0x480000 then bobbinReg d a
  else if a < 0x4C0000 then checkReg d a
  else selvedgeReg d a

/-- A 64-bit read through the physical function at an 8-byte-aligned BAR0 address: an address without a register reads zero
(R12, R737, R758). -/
def pfReg (s : State) (a : Nat) : Nat :=
  if a < 0x40000 then earlyReg s a
  else if s.dev.boot.phase == .noImage then 0
  else if a < 0x500000 then lateReg s.dev a
  else if a < 0x600000 then secReg s.dev a
  else if a < 0x800000 then clockReg s.dev a
  else 0

/-- Bits of a lane status register that a domain may see (R625). -/
def ownLanes (d : Dev) (o first v : Nat) : Nat :=
  stalledBits (fun n => bitOf v n && laneOwner d (first + n) == o)

/-- A 64-bit read through the function of tenant domain `o` (R578, R625, R762). -/
def vfReg (s : State) (o a : Nat) : Nat :=
  let d := s.dev
  let v := pfReg s a
  if a < 0x20000 || a == 0x30000 || a == 0x30008 || a == 0x40000 || a == 0x40008 then v
  else if (slotIn 0x40100 8 16 a).isSome then v
  else if a == 0x51800 then ownLanes d o 0 v
  else if a == 0x51808 then ownLanes d o 64 v
  else if a == 0x1C0010 || a == 0x1C0018 then put (bits v (o % 64) (o % 64)) 1 (o % 64)
  else if 0x101000 + 0x20 * o ≤ a && a < 0x101020 + 0x20 * o then v
  else match slotIn 0x51000 8 128 a with
    | some l => if laneOwner d l == o then v else 0
    | none => match slotIn 0x51400 8 128 a with
      | some l => if laneOwner d l == o then v else 0
      | none => match slotIn 0x480000 8 32 a with
        | some u =>
          let i := pfReg s (0x480080 + 8 * (u % 16))
          if bits i 48 48 == 1 && bits i 47 41 == o then v else 0
        | none => 0

/-- A 64-bit read at an aligned address through a function: 64 names the physical one. -/
def barReg (s : State) (fn a : Nat) : Nat := if fn == 64 then pfReg s a else vfReg s fn a

/-- A read of BAR0 by host software of `size` bytes (R10): aligned reads of 1, 2, 4 and 8 bytes, longer ones by their
aligned 8-byte parts; any other read is zero in every byte. -/
def barRead (s : State) (fn addr size : Nat) : Bytes :=
  if [1, 2, 4, 8].contains size then
    if addr % size == 0 then sub (le (barReg s fn (addr - addr % 8)) 8) (addr % 8) size else zeroBytes size
  else if 8 < size && addr % 4 == 0 then
    (List.range size).map (fun i =>
      let p := (addr + i) / 8 * 8
      if addr ≤ p && p + 8 ≤ addr + size then BitVec.ofNat 8 (barReg s fn p / 2 ^ (8 * ((addr + i) % 8))) else 0)
  else zeroBytes size

/-! ## The registers of the I/O core register file (R759, R761) -/

/-- `n` addresses from `base` on, `stride` apart. -/
def spread (base stride n : Nat) : List Nat := (List.range n).map (fun i => base + stride * i)

/-- Registers from IDENT to SAS that are not image-set. -/
def fileRegsA : List Nat :=
  spread 0x0 8 5 ++ spread 0x100 8 2 ++ spread 0x180 8 8 ++ spread 0x200 8 4 ++ [0x10000, 0x10010] ++ spread 0x10100 8 59 ++
  spread 0x20008 8 6 ++ spread 0x20100 8 7 ++ spread 0x21000 8 1024 ++ spread 0x30000 8 3 ++ [0x40010] ++ spread 0x40200 8 6 ++
  spread 0x40240 8 7 ++ [0x50000] ++ spread 0x50100 8 8 ++ spread 0x51400 8 128 ++ spread 0x51800 8 3 ++ spread 0x52000 8 5 ++
  spread 0x80010 8 4 ++ spread 0x80100 8 4 ++ spread 0x80200 8 6 ++ spread 0x80300 8 9 ++ spread 0x80380 8 8

/-- Registers from CODEC to SELVEDGE that are not image-set, but for the ports and stacks. -/
def fileRegsB : List Nat :=
  [0xC0000] ++ spread 0xC0100 8 3 ++ spread 0xC0140 8 8 ++ spread 0xC0200 8 8 ++ [0x100000, 0x100200] ++ spread 0x100300 8 6 ++
  spread 0x100380 8 6 ++ spread 0x101000 8 260 ++ spread 0x104000 8 640 ++ spread 0x106000 8 640 ++ spread 0x120100 8 7 ++
  [0x120200] ++ spread 0x120300 8 7 ++ spread 0x140000 8 2 ++ spread 0x140100 8 5 ++ spread 0x180010 8 3 ++ spread 0x180100 8 19 ++
  spread 0x1C0008 8 4 ++ spread 0x1C0100 8 9 ++ [0x400000] ++ spread 0x400018 8 3 ++ spread 0x400100 8 128 ++
  spread 0x400800 8 21 ++ spread 0x480000 8 35 ++ spread 0x4C0010 8 5 ++ spread 0x4C0100 8 7

/-- Registers of the ports and the stacks that are not image-set. -/
def fileRegsC : List Nat :=
  (List.range 8).flatMap (fun n => let b := 0x200000 + 0x10000 * n; spread (b + 0x10) 8 4 ++ spread (b + 0x1000) 8 19) ++
  (List.range 12).flatMap (fun n => let b := 0x300000 + 0x10000 * n
    [b, b + 8, b + 0x18, b + 0x20] ++ spread (b + 0x100) 8 5 ++ spread (b + 0x140) 8 16 ++ spread (b + 0x200) 8 3)

/-- Every register of the I/O core register file. -/
def fileRegs : List Nat :=
  ((imgRegs.flatMap ImgReg.addrs).filter (· < 0x500000)) ++ fileRegsA ++ fileRegsB ++ fileRegsC

/-- Whether an address holds a register of that file. -/
def inFile (a : Nat) : Bool :=
  (match imgRegAt a with | some _ => a < 0x500000 | none => false) || fileRegsA.contains a || fileRegsB.contains a ||
  fileRegsC.contains a

end Sys2Proof.Machine
end

