-- ==== Sys2Proof/Machine/Mgmt.lean ====
section
/-! DEFINITION. The management plane: register reads, signed messages and key slots over MCTP (R729, R764 to R767), PLDM
monitoring (R768, R769). PLDM command and completion codes are those of DSP0248 (PRESUMED). -/

namespace Sys2Proof.Machine

open Sys2Proof

/-- A meaning of the root-of-trust processor's firmware that reads the whole block and changes the device. -/
def onRot (f : State → Dev) (s : State) : Host.Outcome State Fault Refusal :=
  .next (if rotRuns s.dev then s.setDev (f s) else s)

/-- The register file answers: the I/O core's clock runs (R746, R765). -/
def fileAnswers (d : Dev) : Bool := bitOf d.clk.lock 2

/-- One register of a REG_READ: its value, and whether it was read live (R765, R767). -/
def readOne (s : State) (a : Nat) : U64 × Bool :=
  if 0x500000 ≤ a || fileAnswers s.dev then (u64 (pfReg s a), true)
  else if inFile a then (u64 (tgetD s.dev.mon.snapshot a 0), false)
  else (0, true)

/-- REG_READ (R764 to R767). -/
def execRegRead (inst offset count : Nat) (s : State) : Host.Outcome State Fault Refusal :=
  onRot (fun s =>
    if offset % 8 != 0 || count == 0 || 32 < count || 0x7FFFF8 < offset + 8 * (count - 1) then
      emit s.dev (.mctp 0x81 inst St.recordInvalid 0 0 [])
    else
      let vs := (List.range count).map (fun i => readOne s (offset + 8 * i))
      let live := ((vs.zipIdx).map (fun v => put (bit1 v.1.2) 1 v.2)).sum
      emit s.dev (.mctp 0x81 inst St.ok (u32 live) (if vs.all (·.2) then 0 else s.dev.mon.snapshotAt) (vs.map (·.1)))) s

/-- The refresh of the snapshot: every register of the file, when it answers (R766). -/
def execRegisterSnapshotRefresh (s : State) : Host.Outcome State Fault Refusal :=
  onRot (fun s =>
    if !fileAnswers s.dev then s.dev else
    let t := fileRegs.filterMap (fun a => if pfReg s a == 0 then none else some (a, pfReg s a))
    { s.dev with mon := { s.dev.mon with snapshot := t, snapshotAt := now s.dev } }) s

/-- The status and effect of a signed message of any kind (R651, R652). -/
def signedAny (d : Dev) (h : SigHdr) : SignedBody → Nat × Dev
  | .gateSwitch p l t => signedGateSwitch d h p l t
  | .fence ts => signedFence d h ts
  | .unfence ts => signedUnfence d h ts
  | .stackRetire n => signedStackRetire d h n
  | .saOpen b => signedSaOpen d h b
  | .saClose sa => signedSaClose d h sa
  | .zeroize => signedZeroize d h
  | .selfTest t => signedSelfTest d h t
  | .takeover m f => signedTakeover d h m f
  | .custodyEnter => signedCustodyEnter d h
  | .readmit => signedReadmit d h
  | .imageSwitch slot v => signedImageSwitch d h slot v

/-- SIGNED: the message passes the checks of R651, and its status is the answer (R767). -/
def execMctpSigned (inst : Nat) (h : SigHdr) (b : SignedBody) (s : State) : Host.Outcome State Fault Refusal :=
  onDevC (fun d => if rotRuns d then
      let r := signedAny d h b
      emit r.2 (.mctp 0x82 inst r.1 0 0 [])
    else d) s

/-- The status of SLOT_PROGRAM (R729, R767). -/
def slotStatus (f : Fuses) (slot : Nat) : Nat :=
  if 3 < slot then St.recordInvalid
  else if f.deployed || (f.slots.getD slot none).isSome then St.access
  else St.ok

/-- SLOT_PROGRAM: the digest of an owner key goes into an empty slot while PROVISIONING (R729). -/
def execSlotProgram (inst slot : Nat) (digest : Bytes) (s : State) : Host.Outcome State Fault Refusal :=
  if rotRuns s.dev then
    let st := slotStatus s.fuses slot
    let s := s.setDev (emit s.dev (.mctp 0x83 inst st 0 0 []))
    .next (if st == St.ok then { s with fuses := { s.fuses with slots := s.fuses.slots.set slot (some (fit digest 32)) } } else s)
  else .next s

/-! ## PLDM monitoring -/

/-- GetTID. -/
def execGetTid (s : State) : Host.Outcome State Fault Refusal := onRot (fun s => emit s.dev (.pldm 0x202 [0, Config.pldmTid])) s

/-- Sensor of a PDR by record handle: 1 to 16 the numeric sensors, 17 to 20 the state sensors, 21 the terminus locator. -/
def pdrSensor (h : Nat) : Option Nat :=
  if 1 ≤ h && h ≤ 16 then some h else if 17 ≤ h && h ≤ 20 then some (83 + h) else none

/-- GetPDR: handle 0 names the first record; the answer gives the next handle, 0 after the last one, and the record. -/
def execGetPdr (handle : Nat) (s : State) : Host.Outcome State Fault Refusal :=
  onRot (fun s =>
    let h := if handle == 0 then 1 else handle
    if 21 < h then emit s.dev (.pldm 0x251 [0x82])
    else emit s.dev (.pldm 0x251 ([0, (h + 1) % 22, (pdrSensor h).getD 0] ++ (Config.pdr h).map (·.toNat)))) s

/-- GetPDRRepositoryInfo: available, with its count of records. -/
def execGetPdrRepositoryInfo (s : State) : Host.Outcome State Fault Refusal :=
  onRot (fun s => emit s.dev (.pldm 0x250 [0, 0, 21])) s

/-- Reading of a numeric sensor: temperatures in 0.25 °C, sensor 16 in W (R768). -/
def numericReading (d : Dev) (id : Nat) : Option Int :=
  if 1 ≤ id && id ≤ 3 then some (d.mon.dieTemp.getD (id - 1) 0)
  else if 4 ≤ id && id ≤ 15 then some (hottest (stackAt d (id - 4)).temps)
  else if id == 16 then some d.mon.powerW
  else none

/-- GetSensorReading: the reading as 16 bits and the sensor's level. -/
def execGetSensorReading (id : Nat) (s : State) : Host.Outcome State Fault Refusal :=
  onRot (fun s => match numericReading s.dev id with
    | some v => emit s.dev (.pldm 0x211 [0, (v % 65536).toNat, tgetD s.dev.mon.level id 0])
    | none => emit s.dev (.pldm 0x211 [0x80])) s

/-- Reading of a state sensor (R768). -/
def stateReading (d : Dev) (id : Nat) : Option Nat :=
  if id == 100 then some (custodySensor d)
  else if id == 101 then some (pairSensor d)
  else if id == 102 then some (secSensor d)
  else if id == 103 then some (imageSensor d)
  else none

/-- GetStateSensorReadings; the ROM serves sensor 103 alone (R674, R768). -/
def execGetStateSensorReadings (id : Nat) (s : State) : Host.Outcome State Fault Refusal :=
  onDev (fun d =>
    if d.boot.phase == .inReset || (d.boot.phase == .firmwareFailed && id != 103) then d
    else match stateReading d id with
      | some v => emit d (.pldm 0x221 [0, 1, v])
      | none => emit d (.pldm 0x221 [0x80])) s

/-- SetEventReceiver: with no receiver nothing is sent and nothing waits (R769). -/
def execSetEventReceiver (eid : Option Nat) (s : State) : Host.Outcome State Fault Refusal :=
  onRot (fun s =>
    let m := s.dev.mon
    let m := match eid with
      | some e => { m with receiver := some e }
      | none => { m with receiver := none, outstanding := none, waiting := [] }
    emit { s.dev with mon := m } (.pldm 0x204 [0])) s

/-- Send one event message (R769). -/
def sendEvent (d : Dev) (sensor state : Nat) : Dev :=
  emit { d with mon := { d.mon with outstanding := some (sensor, state), sentAt := now d } } (.pldmEvent sensor state)

/-- The outstanding event is acknowledged: the waiting event of the lowest sensor goes out (R769). -/
def execPlatformEventAcknowledged (s : State) : Host.Outcome State Fault Refusal :=
  onRot (fun s =>
    let d := { s.dev with mon := { s.dev.mon with outstanding := none } }
    if s.dev.mon.outstanding.isNone then s.dev else
    match least (d.mon.waiting.map (·.1)) with
    | none => d
    | some k => sendEvent { d with mon := { d.mon with waiting := tdel d.mon.waiting k } } k (tgetD d.mon.waiting k 0)) s

/-- 1 s without an acknowledgement: the message goes out again (R769). -/
def execPlatformEventResend (s : State) : Host.Outcome State Fault Refusal :=
  onRot (fun s => match s.dev.mon.outstanding with
    | some (k, v) => if s.dev.mon.sentAt + 1000000000 ≤ now s.dev then sendEvent s.dev k v else s.dev
    | none => s.dev) s

end Sys2Proof.Machine
end

