-- ==== Sys2Proof/Machine/Dispatch.lean ====
section
/-! DEFINITION. One arm per command: a direct call of its meaning. -/

namespace Sys2Proof.Machine

open Sys2Proof

/-- The effect of a command on everything but the queue. -/
def exec (i : Instr) (s : State) : Host.Outcome State Fault Refusal :=
  match i with
  | .powerOnReset => Sys2Proof.Machine.execPowerOnReset s
  | .systemReset lowNs => Sys2Proof.Machine.execSystemReset lowNs s
  | .fundamentalReset => Sys2Proof.Machine.execFundamentalReset s
  | .endOfReset tapEn norReadable fw0Ok fw1Ok tests => Sys2Proof.Machine.execEndOfReset tapEn norReadable fw0Ok fw1Ok tests s
  | .imageLoad sigOk0 sigOk1 => Sys2Proof.Machine.execImageLoad sigOk0 sigOk1 s
  | .vaultSectionsLoad coresSigOk => Sys2Proof.Machine.execVaultSectionsLoad coresSigOk s
  | .stackTrainingDone stack pass => Sys2Proof.Machine.execStackTrainingDone stack pass s
  | .channelScanDone ch trained scans => Sys2Proof.Machine.execChannelScanDone ch trained scans s
  | .tileSelfTestDone group failed => Sys2Proof.Machine.execTileSelfTestDone group failed s
  | .referenceLoss => Sys2Proof.Machine.execReferenceLoss s
  | .pllLockLoss pll => Sys2Proof.Machine.execPllLockLoss pll s
  | .pllRelocked pll => Sys2Proof.Machine.execPllRelocked pll s
  | .railMeasurement mv powerW => Sys2Proof.Machine.execRailMeasurement mv powerW s
  | .dieTempSample die0 die1 io => Sys2Proof.Machine.execDieTempSample die0 die1 io s
  | .registerWrite fn addr size value => Sys2Proof.Machine.execRegisterWrite fn addr size value s
  | .reqLaneResync fn value => Sys2Proof.Machine.execReqLaneResync fn value s
  | .secZeroize fn value => Sys2Proof.Machine.execSecZeroize fn value s
  | .connCreate fn conn blk => Sys2Proof.Machine.execConnCreate fn conn blk s
  | .connModify fn conn blk => Sys2Proof.Machine.execConnModify fn conn blk s
  | .connReset fn conn blk => Sys2Proof.Machine.execConnReset fn conn blk s
  | .connDestroy fn conn => Sys2Proof.Machine.execConnDestroy fn conn s
  | .connDestroyDrained conn => Sys2Proof.Machine.execConnDestroyDrained conn s
  | .regionCreate fn index blk => Sys2Proof.Machine.execRegionCreate fn index blk s
  | .regionRevoke fn key => Sys2Proof.Machine.execRegionRevoke fn key s
  | .regionRevokeDrained index => Sys2Proof.Machine.execRegionRevokeDrained index s
  | .lineQueueSetup fn value => Sys2Proof.Machine.execLineQueueSetup fn value s
  | .lineQueueTeardown fn value => Sys2Proof.Machine.execLineQueueTeardown fn value s
  | .intakeLaneVisit lane => Sys2Proof.Machine.execIntakeLaneVisit lane s
  | .laneSetup lane seq => Sys2Proof.Machine.execLaneSetup lane seq s
  | .ringSetup lane seq => Sys2Proof.Machine.execRingSetup lane seq s
  | .ringTeardown lane seq => Sys2Proof.Machine.execRingTeardown lane seq s
  | .openReq lane seq slot => Sys2Proof.Machine.execOpenReq lane seq slot s
  | .prefillDone lane seq tail => Sys2Proof.Machine.execPrefillDone lane seq tail s
  | .cancel lane seq => Sys2Proof.Machine.execCancel lane seq s
  | .step lane seq => Sys2Proof.Machine.execStep lane seq s
  | .query lane seq data => Sys2Proof.Machine.execQuery lane seq data s
  | .stopSetDefine lane seq => Sys2Proof.Machine.execStopSetDefine lane seq s
  | .stopSetDelete lane seq => Sys2Proof.Machine.execStopSetDelete lane seq s
  | .copyRange lane seq data => Sys2Proof.Machine.execCopyRange lane seq data s
  | .copyPages lane seq => Sys2Proof.Machine.execCopyPages lane seq s
  | .promote lane seq => Sys2Proof.Machine.execPromote lane seq s
  | .header lane seq => Sys2Proof.Machine.execHeader lane seq s
  | .locate lane seq => Sys2Proof.Machine.execLocate lane seq s
  | .flush lane seq => Sys2Proof.Machine.execFlush lane seq s
  | .waitOnly lane seq => Sys2Proof.Machine.execWaitOnly lane seq s
  | .check lane seq => Sys2Proof.Machine.execCheck lane seq s
  | .checkContinue lane seq => Sys2Proof.Machine.execCheckContinue lane seq s
  | .checkCommandDone unit src errs => Sys2Proof.Machine.execCheckCommandDone unit src errs s
  | .stepCommit req => Sys2Proof.Machine.execStepCommit req s
  | .hashBlockDone req tokens => Sys2Proof.Machine.execHashBlockDone req tokens s
  | .skeinOpen frm m slot base => Sys2Proof.Machine.execSkeinOpen frm m slot base s
  | .skeinOpenReply frm req status skein => Sys2Proof.Machine.execSkeinOpenReply frm req status skein s
  | .skeinOpenTimeout req => Sys2Proof.Machine.execSkeinOpenTimeout req s
  | .lookup frm req skein chain => Sys2Proof.Machine.execLookup frm req skein chain s
  | .lookupReply frm req status pages span => Sys2Proof.Machine.execLookupReply frm req status pages span s
  | .prefixFetch frm req skein pages => Sys2Proof.Machine.execPrefixFetch frm req skein pages s
  | .landingPageTaken req layer page => Sys2Proof.Machine.execLandingPageTaken req layer page s
  | .place frm req skein appended pages => Sys2Proof.Machine.execPlace frm req skein appended pages s
  | .seal frm req skein => Sys2Proof.Machine.execSeal frm req skein s
  | .abort frm req skein => Sys2Proof.Machine.execAbort frm req skein s
  | .skeinAbortDrained slot => Sys2Proof.Machine.execSkeinAbortDrained slot s
  | .release frm req skein => Sys2Proof.Machine.execRelease frm req skein s
  | .stateReply frm req kind status => Sys2Proof.Machine.execStateReply frm req kind status s
  | .endingTimeout req => Sys2Proof.Machine.execEndingTimeout req s
  | .handoff frm m slot span => Sys2Proof.Machine.execHandoff frm m slot span s
  | .handoffReply frm req status => Sys2Proof.Machine.execHandoffReply frm req status s
  | .handoffTimeout req => Sys2Proof.Machine.execHandoffTimeout req s
  | .window frm req pages last => Sys2Proof.Machine.execWindow frm req pages last s
  | .sealed frm req skein splitPage => Sys2Proof.Machine.execSealed frm req skein splitPage s
  | .svcCancel frm req => Sys2Proof.Machine.execSvcCancel frm req s
  | .reqAbort frm req skein cause => Sys2Proof.Machine.execReqAbort frm req skein cause s
  | .shipmentFlushDone req window ok => Sys2Proof.Machine.execShipmentFlushDone req window ok s
  | .appendFlushDone req ok => Sys2Proof.Machine.execAppendFlushDone req ok s
  | .farJob frm conn m cls budget => Sys2Proof.Machine.execFarJob frm conn m cls budget s
  | .admissionReplyRelease => Sys2Proof.Machine.execAdmissionReplyRelease s
  | .stageComplete op found => Sys2Proof.Machine.execStageComplete op found s
  | .deadlineWatch op => Sys2Proof.Machine.execDeadlineWatch op s
  | .heddleScan job parity => Sys2Proof.Machine.execHeddleScan job parity s
  | .heddleWalk job parity => Sys2Proof.Machine.execHeddleWalk job parity s
  | .roundCheck job => Sys2Proof.Machine.execRoundCheck job s
  | .partialReceived frm handle answer => Sys2Proof.Machine.execPartialReceived frm handle answer s
  | .runCommandArrival run cmd => Sys2Proof.Machine.execRunCommandArrival run cmd s
  | .runCommandEnd run corrected bad stalls => Sys2Proof.Machine.execRunCommandEnd run corrected bad stalls s
  | .shadowCheckDone id outputEq failed badBound load0 load1 => Sys2Proof.Machine.execShadowCheckDone id outputEq failed badBound load0 load1 s
  | .runStallTimeout run => Sys2Proof.Machine.execRunStallTimeout run s
  | .runResetDone run => Sys2Proof.Machine.execRunResetDone run s
  | .blockCompress fmt bytes bypass => Sys2Proof.Machine.execBlockCompress fmt bytes bypass s
  | .blockExpand addr fmt thinned b waited empty => Sys2Proof.Machine.execBlockExpand addr fmt thinned b waited empty s
  | .layerWalkDone skein layer => Sys2Proof.Machine.execLayerWalkDone skein layer s
  | .framePromotionDone frame stackFrame => Sys2Proof.Machine.execFramePromotionDone frame stackFrame s
  | .stackReclaim => Sys2Proof.Machine.execStackReclaim s
  | .bobbinReclaim => Sys2Proof.Machine.execBobbinReclaim s
  | .pageDemotionDone skein layer page => Sys2Proof.Machine.execPageDemotionDone skein layer page s
  | .stackTempSample temps => Sys2Proof.Machine.execStackTempSample temps s
  | .stackHotClear => Sys2Proof.Machine.execStackHotClear s
  | .scrubRead stack frame line errs => Sys2Proof.Machine.execScrubRead stack frame line errs s
  | .stackCommandTimeout stack => Sys2Proof.Machine.execStackCommandTimeout stack s
  | .stackRetire h stack => Sys2Proof.Machine.execStackRetire h stack s
  | .stackRetireComplete stack => Sys2Proof.Machine.execStackRetireComplete stack s
  | .bobbinReadAttempt id good tagOk => Sys2Proof.Machine.execBobbinReadAttempt id good tagOk s
  | .bobbinProgramDone loc page ok => Sys2Proof.Machine.execBobbinProgramDone loc page ok s
  | .bobbinEraseDone loc ok => Sys2Proof.Machine.execBobbinEraseDone loc ok s
  | .bobbinGc ch tgt => Sys2Proof.Machine.execBobbinGc ch tgt s
  | .blockRetentionExpiry loc => Sys2Proof.Machine.execBlockRetentionExpiry loc s
  | .targetTimeout ch tgt => Sys2Proof.Machine.execTargetTimeout ch tgt s
  | .sendEntryStart conn => Sys2Proof.Machine.execSendEntryStart conn s
  | .sendWaitTimeout conn => Sys2Proof.Machine.execSendWaitTimeout conn s
  | .write p => Sys2Proof.Machine.execWrite p s
  | .send p => Sys2Proof.Machine.execSend p s
  | .readReq p => Sys2Proof.Machine.execReadReq p s
  | .readResp p => Sys2Proof.Machine.execReadResp p s
  | .flushPacket p => Sys2Proof.Machine.execFlushPacket p s
  | .ack p => Sys2Proof.Machine.execAck p s
  | .sack p => Sys2Proof.Machine.execSack p s
  | .nak p => Sys2Proof.Machine.execNak p s
  | .probe p => Sys2Proof.Machine.execProbe p s
  | .retransmissionTimeout conn msn => Sys2Proof.Machine.execRetransmissionTimeout conn msn s
  | .lineRd p errs busy => Sys2Proof.Machine.execLineRd p errs busy s
  | .lineWr p busy => Sys2Proof.Machine.execLineWr p busy s
  | .rdData p => Sys2Proof.Machine.execRdData p s
  | .wrDone p => Sys2Proof.Machine.execWrDone p s
  | .lineNak p => Sys2Proof.Machine.execLineNak p s
  | .lineQueuePoll owner slot => Sys2Proof.Machine.execLineQueuePoll owner slot s
  | .lineRead owner slot => Sys2Proof.Machine.execLineRead owner slot s
  | .lineWrite owner slot => Sys2Proof.Machine.execLineWrite owner slot s
  | .lineReadResend tag => Sys2Proof.Machine.execLineReadResend tag s
  | .lineDeadTimeout tag => Sys2Proof.Machine.execLineDeadTimeout tag s
  | .ringHeadReadDone ring result => Sys2Proof.Machine.execRingHeadReadDone ring result s
  | .ringStallTimeout ring => Sys2Proof.Machine.execRingStallTimeout ring s
  | .hostReadCompletion id result => Sys2Proof.Machine.execHostReadCompletion id result s
  | .hostLinkDown => Sys2Proof.Machine.execHostLinkDown s
  | .hostLinkUp rate width => Sys2Proof.Machine.execHostLinkUp rate width s
  | .vfFunctionLevelReset domain => Sys2Proof.Machine.execVfFunctionLevelReset domain s
  | .pfFunctionLevelReset hot => Sys2Proof.Machine.execPfFunctionLevelReset hot s
  | .msixIntervalExpiry fn => Sys2Proof.Machine.execMsixIntervalExpiry fn s
  | .doeRequest o => Sys2Proof.Machine.execDoeRequest o s
  | .doeAbort => Sys2Proof.Machine.execDoeAbort s
  | .lockInterface domain ideSecure => Sys2Proof.Machine.execLockInterface domain ideSecure s
  | .stopInterface domain => Sys2Proof.Machine.execStopInterface domain s
  | .getDeviceInterfaceReport domain => Sys2Proof.Machine.execGetDeviceInterfaceReport domain s
  | .tdispInterfaceError domain cause => Sys2Proof.Machine.execTdispInterfaceError domain cause s
  | .portTrainingDone port pass rttNs => Sys2Proof.Machine.execPortTrainingDone port pass rttNs s
  | .portRetrainTimer port => Sys2Proof.Machine.execPortRetrainTimer port s
  | .portLinkLoss port => Sys2Proof.Machine.execPortLinkLoss port s
  | .ingressFrame port f => Sys2Proof.Machine.execIngressFrame port f s
  | .neighborSolicitation port forUs => Sys2Proof.Machine.execNeighborSolicitation port forUs s
  | .pfcFrame port enable quanta => Sys2Proof.Machine.execPfcFrame port enable quanta s
  | .pfcXoffRefresh port vc => Sys2Proof.Machine.execPfcXoffRefresh port vc s
  | .linkWordAck port word => Sys2Proof.Machine.execLinkWordAck port word s
  | .linkWordNack port word => Sys2Proof.Machine.execLinkWordNack port word s
  | .linkWordCredit port word => Sys2Proof.Machine.execLinkWordCredit port word s
  | .linkWordSkip port word => Sys2Proof.Machine.execLinkWordSkip port word s
  | .linkWordLane port word => Sys2Proof.Machine.execLinkWordLane port word s
  | .llrTimeout port => Sys2Proof.Machine.execLlrTimeout port s
  | .creditStall port vc => Sys2Proof.Machine.execCreditStall port vc s
  | .egressFrameStart port pick => Sys2Proof.Machine.execEgressFrameStart port pick s
  | .gateEntryBoundary port => Sys2Proof.Machine.execGateEntryBoundary port s
  | .gateSwitch h port list at_ => Sys2Proof.Machine.execGateSwitch h port list at_ s
  | .gateSwitchover port => Sys2Proof.Machine.execGateSwitchover port s
  | .fence h tiles => Sys2Proof.Machine.execFence h tiles s
  | .unfence h tiles => Sys2Proof.Machine.execUnfence h tiles s
  | .saOpen h b => Sys2Proof.Machine.execSaOpen h b s
  | .saClose h sa => Sys2Proof.Machine.execSaClose h sa s
  | .saHello m => Sys2Proof.Machine.execSaHello m s
  | .saReply m => Sys2Proof.Machine.execSaReply m s
  | .saFinish m => Sys2Proof.Machine.execSaFinish m s
  | .saHandshakeTimeout localSa => Sys2Proof.Machine.execSaHandshakeTimeout localSa s
  | .zeroize h => Sys2Proof.Machine.execZeroize h s
  | .selfTest h t => Sys2Proof.Machine.execSelfTest h t s
  | .entropyHealthFailure => Sys2Proof.Machine.execEntropyHealthFailure s
  | .takeover h mode fleet => Sys2Proof.Machine.execTakeover h mode fleet s
  | .takeoverRelease h mode fleet => Sys2Proof.Machine.execTakeoverRelease h mode fleet s
  | .custodyEnter h => Sys2Proof.Machine.execCustodyEnter h s
  | .readmit h => Sys2Proof.Machine.execReadmit h s
  | .readmitChecksDone t failed coresOk portUp => Sys2Proof.Machine.execReadmitChecksDone t failed coresOk portUp s
  | .imageSwitch h slot version => Sys2Proof.Machine.execImageSwitch h slot version s
  | .imageSwitchDrainTimeout => Sys2Proof.Machine.execImageSwitchDrainTimeout s
  | .imageSwitchWindowEnd => Sys2Proof.Machine.execImageSwitchWindowEnd s
  | .getVersion => Sys2Proof.Machine.execGetVersion s
  | .getCapabilities => Sys2Proof.Machine.execGetCapabilities s
  | .negotiateAlgorithms => Sys2Proof.Machine.execNegotiateAlgorithms s
  | .getDigests => Sys2Proof.Machine.execGetDigests s
  | .getCertificate slot => Sys2Proof.Machine.execGetCertificate slot s
  | .challenge => Sys2Proof.Machine.execChallenge s
  | .getMeasurements index signed => Sys2Proof.Machine.execGetMeasurements index signed s
  | .keyExchange => Sys2Proof.Machine.execKeyExchange s
  | .finish ses => Sys2Proof.Machine.execFinish ses s
  | .keyUpdate ses => Sys2Proof.Machine.execKeyUpdate ses s
  | .spdmHeartbeat ses => Sys2Proof.Machine.execSpdmHeartbeat ses s
  | .endSession ses => Sys2Proof.Machine.execEndSession ses s
  | .vendorDefinedRequest ses ideKm stream => Sys2Proof.Machine.execVendorDefinedRequest ses ideKm stream s
  | .regRead inst offset count => Sys2Proof.Machine.execRegRead inst offset count s
  | .mctpSigned inst h b => Sys2Proof.Machine.execMctpSigned inst h b s
  | .slotProgram inst slot digest => Sys2Proof.Machine.execSlotProgram inst slot digest s
  | .registerSnapshotRefresh => Sys2Proof.Machine.execRegisterSnapshotRefresh s
  | .getTid => Sys2Proof.Machine.execGetTid s
  | .getPdr handle => Sys2Proof.Machine.execGetPdr handle s
  | .getPdrRepositoryInfo => Sys2Proof.Machine.execGetPdrRepositoryInfo s
  | .getSensorReading id => Sys2Proof.Machine.execGetSensorReading id s
  | .getStateSensorReadings id => Sys2Proof.Machine.execGetStateSensorReadings id s
  | .setEventReceiver eid => Sys2Proof.Machine.execSetEventReceiver eid s
  | .platformEventAcknowledged => Sys2Proof.Machine.execPlatformEventAcknowledged s
  | .platformEventResend => Sys2Proof.Machine.execPlatformEventResend s
  | .requestUpdate component => Sys2Proof.Machine.execRequestUpdate component s
  | .verifyComplete sigOk coresSigOk => Sys2Proof.Machine.execVerifyComplete sigOk coresSigOk s
  | .applyComplete => Sys2Proof.Machine.execApplyComplete s
  | .activateFirmware => Sys2Proof.Machine.execActivateFirmware s
  | .watchdogExpiry agent => Sys2Proof.Machine.execWatchdogExpiry agent s
  | .controlCoreResetDone => Sys2Proof.Machine.execControlCoreResetDone s
  | .heartbeatSend => Sys2Proof.Machine.execHeartbeatSend s
  | .heartbeat sess mseq tagOk => Sys2Proof.Machine.execHeartbeat sess mseq tagOk s
  | .partnerLoss => Sys2Proof.Machine.execPartnerLoss s
  | .mirror mseq recs tagOk => Sys2Proof.Machine.execMirror mseq recs tagOk s
  | .mack mseq error tagOk => Sys2Proof.Machine.execMack mseq error tagOk s
  | .resyncDone tagOk => Sys2Proof.Machine.execResyncDone tagOk s
  | .coalesceNextAllowed subjKind subject => Sys2Proof.Machine.execCoalesceNextAllowed subjKind subject s
  | .coalesceFullReport => Sys2Proof.Machine.execCoalesceFullReport s
  | .intakeWindowWrite fn offset bytes => Sys2Proof.Machine.execIntakeWindowWrite fn offset bytes s
  | .startInterface domain => Sys2Proof.Machine.execStartInterface domain s
  | .referenceEdge => Sys2Proof.Machine.execReferenceEdge s
  | .pcieConfigurationWrite w => Sys2Proof.Machine.execPcieConfigurationWrite w s
  | .msixVectorUnmask fn => Sys2Proof.Machine.execMsixVectorUnmask fn s
  | .pauseExpiry port vc => Sys2Proof.Machine.execPauseExpiry port vc s
  | .componentWrite comp offset bytes => Sys2Proof.Machine.execComponentWrite comp offset bytes s

end Sys2Proof.Machine
end

