-- ==== Sys2Proof/Safety.lean ====
section
/-! DEFINITION. What counts as a safe step and a safe run: the block answers every command with a next state. And the words in
which statements say that a command completes. -/

namespace Sys2Proof

/-- A step is safe when it ends in a next state. -/
def SafeStep (s : Machine.State) : Prop := ∃ t, Machine.step s = .next t

/-- A run of `n` steps is safe when it ends in a next state. -/
def SafeRun (n : Nat) (s : Machine.State) : Prop := ∃ t, core.run n s = .next t

namespace Machine

/-- The command completes: it answers a next state whose queue, NOR and fuses are those of `s`, and whose device is as `P` says. -/
def Completes (c : Instr) (s : State) (P : Dev → Prop) : Prop := ∃ d, exec c s = .next { s with dev := d } ∧ P d

/-- The command completes in a next state as `P` says. -/
def CompletesAs (c : Instr) (s : State) (P : State → Prop) : Prop := ∃ t, exec c s = .next t ∧ P t

/-- Nobody waits for the entries and messages of a connection. -/
def quietConn (c : Conn) : Bool := c.queue.all (fun e => e.use == .nobody) && c.msgs.all (fun m => m.use == .nobody)

/-- A service message can go to a fleet number: this device itself, or a READY service connection. -/
def reaches (d : Dev) (f : Nat) : Prop := isOurs d f ∨ ∃ c, serviceConn d f = some c ∧ findConn d c.num = some c

/-- A service message is on its way: delivered on this device, where it names its pages (R28), held until its change is acknowledged, or
in a send queue, its pages packed (R243). -/
def goes (d : Dev) (m : Svc) : Prop :=
  .local_ m.named ∈ d.out ∨ (∃ x ∈ d.pair.held, x.2 = .local_ m.named) ∨
    ∃ c ∈ d.weft.conns, ∃ e ∈ c.queue, e.data = .svc (m.mapParts packParts)

/-- The request table holds an entry at a slot as `P` says. -/
def entryAt (d : Dev) (slot : Nat) (P : Req → Prop) : Prop := ∃ x ∈ d.reqs.live, x.slot = slot ∧ P x

/-- The entry at a slot is free, or only waits for its end record to be written. -/
def entryFreed (d : Dev) (slot : Nat) : Prop :=
  (∀ x ∈ d.reqs.live, x.slot ≠ slot) ∨ entryAt d slot (fun x => x.state = .ending ∧ x.acked)

/-- The home's table holds a skein at a slot as `P` says. -/
def skeinIs (d : Dev) (slot : Nat) (P : Skein → Prop) : Prop := ∃ x ∈ d.sas.skeins, x.slot = slot ∧ P x

/-! ## The frame of commands, part by part -/

/-- Parts of the state for the frame of commands. -/
inductive Part where
  /-- The image-set registers and what else the image load brings. -/
  | image
  /-- The firmware's slot and measurement and the test port. -/
  | firmware
  /-- The phase of bring-up and the image slot. -/
  | phase
  /-- The state of a firmware update. -/
  | update
  /-- Local time. -/
  | time
  /-- The PLLs' lock bits. -/
  | plls
  /-- A bit of READY. -/
  | ready
  /-- Custody and what caused it. -/
  | custody
  /-- The keys, the error state and zeroization. -/
  | keys
  /-- The session number of signed messages. -/
  | session
  /-- The sequence number of signed messages. -/
  | msgSeq
  /-- The SPDM sessions, their numbers and the IDE keys. -/
  | spdm
  /-- What the rail and die sensors last read, and who is told. -/
  | sensors
  /-- The pair's state and the partner's mirrored state. -/
  | pair
  /-- The host link. -/
  | link
  /-- PCIe configuration. -/
  | config
  /-- The TDISP state of an interface. -/
  | tdisp
  /-- The DOE mailbox. -/
  | doe
  /-- A byte of the intake window. -/
  | window
  /-- A lane's engine and its mirror. -/
  | lanes
  /-- The records that the intake engine has taken. -/
  | taken
  /-- Line queues and line operations. -/
  | lines
  /-- The check units. -/
  | checks
  /-- A region table entry. -/
  | regions
  /-- A tracker. -/
  | trackers
  /-- The answer of WEFT_CMD. -/
  | weftCmd
  /-- A port. -/
  | ports
  /-- A request table entry. -/
  | requests
  /-- An incarnation of a request slot. -/
  | requestNumbers
  /-- The query handles. -/
  | handles
  /-- A stop set. -/
  | stopSets
  /-- Writes a byte of work memory. -/
  | work
  /-- Frees frames of work memory or writes to it. -/
  | frees
  /-- A skein. -/
  | skeins
  /-- An incarnation of a skein slot. -/
  | skeinNumbers
  /-- The prefix table. -/
  | prefixes
  /-- The demotions and promotions under way. -/
  | moves
  /-- A memory stack. -/
  | stacks
  /-- A bobbin target or one of its blocks. -/
  | targets
  /-- The fabric. -/
  | fabric
  /-- The fences in force. -/
  | fences
  /-- The far jobs. -/
  | retrieval
  /-- The operations of the admission unit. -/
  | operations
deriving DecidableEq, Repr

/-- Every part. -/
def allParts : List Part :=
  [.image, .firmware, .phase, .update, .time, .plls, .ready, .custody, .keys, .session, .msgSeq, .spdm, .sensors, .pair,
  .link, .config, .tdisp, .doe, .window, .lanes, .taken, .lines, .checks, .regions, .trackers, .weftCmd, .ports, .requests,
  .requestNumbers, .handles, .stopSets, .work, .frees, .skeins, .skeinNumbers, .prefixes, .moves, .stacks, .targets,
  .fabric, .fences, .retrieval, .operations]

/-- The parts of the state that a command may change; a reset of the device may change all of them (R718). -/
def mayChange (c : Instr) : List Part := match c with
  | .fundamentalReset .. | .powerOnReset .. | .systemReset .. => allParts
  | .activateFirmware .. | .imageSwitchDrainTimeout .. =>
    [.image, .phase, .update, .time, .plls, .ready, .custody, .keys, .session, .msgSeq, .spdm, .sensors, .pair, .config,
    .tdisp, .doe, .window, .lanes, .taken, .lines, .checks, .regions, .trackers, .weftCmd, .ports, .requests,
    .requestNumbers, .handles, .stopSets, .work, .frees, .skeins, .skeinNumbers, .prefixes, .moves, .stacks, .targets,
    .fabric, .fences, .retrieval, .operations]
  | .vaultSectionsLoad .. =>
    [.image, .phase, .time, .plls, .ready, .custody, .keys, .session, .msgSeq, .spdm, .sensors, .pair, .config, .tdisp,
    .doe, .window, .lanes, .taken, .lines, .checks, .regions, .trackers, .weftCmd, .ports, .requests, .requestNumbers,
    .handles, .stopSets, .work, .frees, .skeins, .skeinNumbers, .prefixes, .moves, .stacks, .targets, .fabric, .fences,
    .retrieval, .operations]
  | .mctpSigned .. =>
    [.ready, .custody, .keys, .session, .msgSeq, .spdm, .pair, .tdisp, .lanes, .lines, .checks, .regions, .trackers,
    .weftCmd, .ports, .requests, .requestNumbers, .handles, .stopSets, .work, .frees, .skeins, .skeinNumbers, .prefixes,
    .moves, .stacks, .fabric, .fences, .retrieval, .operations]
  | .selfTest .. =>
    [.ready, .custody, .keys, .session, .msgSeq, .spdm, .tdisp, .lanes, .lines, .checks, .regions, .trackers, .weftCmd,
    .ports, .requests, .requestNumbers, .handles, .stopSets, .work, .frees, .skeins, .skeinNumbers, .prefixes, .moves,
    .fabric, .retrieval, .operations]
  | .endOfReset .. =>
    [.firmware, .phase, .ready, .custody, .keys, .session, .msgSeq, .spdm, .tdisp, .lanes, .lines, .checks, .ports,
    .requests, .frees, .fabric, .retrieval, .operations]
  | .zeroize .. =>
    [.ready, .custody, .keys, .msgSeq, .spdm, .tdisp, .lanes, .lines, .checks, .ports, .requests, .frees, .fabric,
    .retrieval, .operations]
  | .entropyHealthFailure .. | .secZeroize .. =>
    [.ready, .custody, .keys, .spdm, .tdisp, .lanes, .lines, .checks, .ports, .requests, .frees, .fabric, .retrieval,
    .operations]
  | .pcieConfigurationWrite .. =>
    [.config, .tdisp, .lanes, .taken, .lines, .checks, .ports, .requests, .stopSets, .frees, .retrieval, .operations]
  | .pfFunctionLevelReset .. | .vfFunctionLevelReset .. =>
    [.config, .tdisp, .lanes, .lines, .checks, .ports, .requests, .frees, .retrieval, .operations]
  | .bobbinReadAttempt .. | .framePromotionDone .. =>
    [.ports, .work, .frees, .skeins, .moves, .stacks, .targets, .retrieval, .operations]
  | .connReset .. => [.trackers, .weftCmd, .ports, .requests, .frees, .skeins, .fabric, .retrieval, .operations]
  | .stackCommandTimeout .. | .stackTrainingDone .. =>
    [.ready, .custody, .ports, .requests, .frees, .stacks, .fabric, .retrieval, .operations]
  | .stackTempSample .. => [.custody, .sensors, .ports, .requests, .frees, .stacks, .fabric, .retrieval, .operations]
  | .stageComplete .. => [.ports, .work, .frees, .skeins, .moves, .stacks, .fabric, .retrieval, .operations]
  | .tdispInterfaceError .. => [.tdisp, .lanes, .lines, .checks, .ports, .requests, .frees, .retrieval, .operations]
  | .write .. => [.window, .trackers, .ports, .requests, .work, .frees, .stacks, .retrieval, .operations]
  | .connDestroy .. => [.weftCmd, .ports, .requests, .frees, .skeins, .fabric, .retrieval, .operations]
  | .custodyEnter .. => [.custody, .msgSeq, .ports, .requests, .frees, .fabric, .retrieval, .operations]
  | .heddleScan .. | .heddleWalk .. => [.ports, .work, .frees, .skeins, .moves, .stacks, .retrieval, .operations]
  | .place .. => [.trackers, .ports, .requests, .frees, .skeins, .prefixes, .stacks, .fabric]
  | .pllRelocked .. => [.plls, .ready, .ports, .frees, .stacks, .fabric, .retrieval, .operations]
  | .takeover .. | .takeoverRelease .. => [.msgSeq, .pair, .requests, .requestNumbers, .work, .frees, .skeins, .prefixes]
  | .watchdogExpiry .. => [.ready, .custody, .ports, .requests, .frees, .fabric, .retrieval, .operations]
  | .imageLoad .. => [.image, .phase, .ready, .pair, .ports, .stacks, .fabric]
  | .imageSwitch .. => [.msgSeq, .ports, .requests, .frees, .fabric, .retrieval, .operations]
  | .ack .. | .egressFrameStart .. | .nak .. | .readResp .. | .retransmissionTimeout .. | .sendEntryStart ..
  | .sendWaitTimeout .. => [.ports, .requests, .frees, .skeins, .fabric, .retrieval, .operations]
  | .pageDemotionDone .. => [.work, .frees, .skeins, .moves, .stacks, .targets, .fabric]
  | .prefillDone .. => [.taken, .requests, .work, .frees, .skeins, .stacks, .fabric]
  | .query .. => [.taken, .requests, .handles, .work, .frees, .skeins, .stacks]
  | .readReq .. | .window .. => [.trackers, .ports, .requests, .work, .frees, .skeins, .stacks]
  | .referenceLoss .. => [.custody, .ports, .requests, .frees, .fabric, .retrieval, .operations]
  | .targetTimeout .. => [.ready, .ports, .frees, .moves, .targets, .retrieval, .operations]
  | .copyPages .. | .promote .. => [.taken, .ports, .skeins, .moves, .retrieval, .operations]
  | .hostLinkDown .. => [.ready, .link, .taken, .requests, .stopSets, .frees]
  | .landingPageTaken .. => [.requests, .work, .frees, .skeins, .stacks, .fabric]
  | .lineWr .. => [.window, .ports, .requests, .work, .frees, .stacks]
  | .seal .. => [.work, .frees, .skeins, .prefixes, .moves, .stacks]
  | .send .. => [.trackers, .ports, .requests, .frees, .retrieval, .operations]
  | .stackReclaim .. => [.frees, .skeins, .prefixes, .moves, .targets, .fabric]
  | .stopSetDefine .. => [.taken, .stopSets, .work, .frees, .skeins, .stacks]
  | .checkCommandDone .. => [.checks, .work, .frees, .skeins, .stacks]
  | .copyRange .. => [.taken, .ports, .moves, .retrieval, .operations]
  | .deadlineWatch .. | .runCommandEnd .. | .runStallTimeout .. => [.ports, .frees, .fabric, .retrieval, .operations]
  | .fence .. | .unfence .. => [.msgSeq, .frees, .fabric, .fences, .retrieval]
  | .hashBlockDone .. => [.requests, .work, .frees, .skeins, .stacks]
  | .header .. => [.taken, .work, .frees, .skeins, .stacks]
  | .lineRd .. => [.ports, .work, .frees, .skeins, .stacks]
  | .prefixFetch .. => [.work, .frees, .skeins, .moves, .stacks]
  | .skeinOpen .. => [.frees, .skeins, .skeinNumbers, .prefixes, .stacks]
  | .farJob .. => [.skeins, .moves, .retrieval, .operations]
  | .flushPacket .. | .handoffReply .. => [.trackers, .ports, .requests, .frees]
  | .hostReadCompletion .. => [.taken, .requests, .stopSets, .frees]
  | .openReq .. => [.taken, .requests, .requestNumbers, .frees]
  | .partialReceived .. => [.ports, .requests, .retrieval, .operations]
  | .readmitChecksDone .. => [.ready, .custody, .frees, .fabric]
  | .roundCheck .. => [.ports, .frees, .retrieval, .operations]
  | .scrubRead .. => [.work, .frees, .skeins, .stacks]
  | .bobbinProgramDone .. => [.frees, .moves, .targets]
  | .bobbinReclaim .. | .release .. | .skeinAbortDrained .. => [.frees, .skeins, .prefixes]
  | .cancel .. => [.taken, .requests, .frees]
  | .gateSwitch .. => [.msgSeq, .ports, .frees]
  | .lineDeadTimeout .. | .lineNak .. | .lineQueuePoll .. | .lineRead .. | .lineReadResend .. | .lineWrite .. | .rdData ..
  | .wrDone .. => [.lines, .ports, .frees]
  | .mirror .. => [.pair, .frees, .stacks]
  | .readmit .. => [.custody, .msgSeq, .frees]
  | .regionCreate .. | .regionRevoke .. => [.regions, .weftCmd, .frees]
  | .shipmentFlushDone .. => [.requests, .frees, .skeins]
  | .stackRetire .. => [.msgSeq, .frees, .stacks]
  | .tileSelfTestDone .. => [.ready, .frees, .fabric]
  | .abort .. => [.skeins, .prefixes]
  | .channelScanDone .. => [.ready, .targets]
  | .check .. | .checkContinue .. => [.taken, .checks]
  | .connCreate .. | .connModify .. => [.weftCmd, .frees]
  | .appendFlushDone .. | .endingTimeout .. | .handoff .. | .handoffTimeout .. | .lookupReply .. | .ringHeadReadDone ..
  | .skeinOpenReply .. | .skeinOpenTimeout .. | .stateReply .. => [.requests, .frees]
  | .heartbeat .. | .mack .. | .partnerLoss .. | .resyncDone .. => [.pair, .frees]
  | .hostLinkUp .. => [.ready, .link]
  | .intakeLaneVisit .. | .laneSetup .. => [.lanes, .taken]
  | .lineQueueTeardown .. => [.lines, .ports]
  | .lookup .. => [.skeins, .stacks]
  | .pllLockLoss .. => [.plls, .ready]
  | .portLinkLoss .. | .portTrainingDone .. => [.ready, .ports]
  | .referenceEdge .. => [.time, .ports]
  | .regionRevokeDrained .. => [.regions, .weftCmd]
  | .runCommandArrival .. | .runResetDone .. => [.fabric, .retrieval]
  | .saClose .. | .saOpen .. => [.msgSeq, .frees]
  | .probe .. | .sack .. => [.ports, .frees]
  | .shadowCheckDone .. => [.frees, .fabric]
  | .stackRetireComplete .. => [.ready, .stacks]
  | .step .. => [.taken, .requests]
  | .stopSetDelete .. => [.taken, .stopSets]
  | .blockRetentionExpiry .. | .bobbinEraseDone .. | .bobbinGc .. => [.targets]
  | .connDestroyDrained .. => [.trackers]
  | .controlCoreResetDone .. => [.ready]
  | .doeAbort .. | .doeRequest .. => [.doe]
  | .endSession .. | .finish .. | .imageSwitchWindowEnd .. | .keyExchange .. | .vendorDefinedRequest .. => [.spdm]
  | .flush .. | .locate .. | .ringSetup .. | .ringTeardown .. | .waitOnly .. => [.taken]
  | .intakeWindowWrite .. => [.window]
  | .layerWalkDone .. => [.skeins]
  | .lineQueueSetup .. => [.lines]
  | .creditStall .. | .gateEntryBoundary .. | .gateSwitchover .. | .ingressFrame .. | .linkWordAck .. | .linkWordCredit ..
  | .linkWordLane .. | .linkWordNack .. | .linkWordSkip .. | .llrTimeout .. | .pauseExpiry .. | .pfcFrame ..
  | .pfcXoffRefresh .. | .portRetrainTimer .. => [.ports]
  | .lockInterface .. | .startInterface .. | .stopInterface .. => [.tdisp]
  | .reqLaneResync .. => [.lanes]
  | .applyComplete .. | .requestUpdate .. | .verifyComplete .. => [.update]
  | .dieTempSample .. | .railMeasurement .. | .registerSnapshotRefresh .. | .setEventReceiver .. => [.sensors]
  | .stackHotClear .. => [.stacks]
  | .reqAbort .. | .sealed .. | .stepCommit .. | .svcCancel .. => [.requests]
  | _ => []

/-- A command whose effect can be a reset of the device (R718, R736, R750). -/
def resetsDevice (c : Instr) : Bool := match c with
  | .powerOnReset | .systemReset .. | .fundamentalReset | .vaultSectionsLoad .. | .imageSwitchDrainTimeout | .activateFirmware => true
  | _ => false

/-- The device's shape: 16 check units (R572), 12 stacks (R288), 8 ports with three virtual channels each (R580, R592), 4 key slots (R729), local
time of 64 bits (R65), SAT counters within their limit (R15). -/
def shapeHeld (s : State) : Prop :=
  s.dev.checks.length = 16 ∧ s.dev.stk.units.length = 12 ∧ s.dev.ports.length = 8 ∧ s.fuses.slots.length = 4 ∧
  s.dev.clk.now < 2 ^ 64 ∧ (∀ e ∈ s.dev.ctr, e.2 ≤ satMax) ∧
  ∀ p ∈ s.dev.ports, p.ingress.length = 3 ∧ p.freed.length = 3 ∧ p.used.length = 3 ∧ p.peerFreed.length = 3 ∧ p.paused.length = 3 ∧
    p.xoff.length = 3 ∧ p.vcWait.length = 3 ∧ p.waitSince.length = 3

end Machine

end Sys2Proof
end

