-- ==== Sys2Proof/Certificates/Slice0/Obligations.lean ====
section
/-! DEFINITION. The statements for the provers: what each command does when it completes, what each leaves unchanged, and the invariants
that every step keeps. `Completes c s P` (Safety.lean) is an equation for a next state. -/

open Sys2Proof Sys2Proof.Machine

/-- A step with a command waiting runs that command on the state without it. -/
def Obligations.StepRunsTheFrontCommand : Prop :=
  ∀ (c : Instr) (rest : List Instr) (s : State), s.pending = c :: rest → step s = exec c { s with pending := rest }

/-- With no command waiting the block idles; only the fallback count of local time goes on, 5 ns a step (log entries 3, 4). -/
def Obligations.EmptyQueueIdles : Prop :=
  ∀ s : State, s.pending = [] →
    (¬(outOfReset s.dev ∧ s.dev.clk.fallback) → step s = .next s) ∧
    (outOfReset s.dev → s.dev.clk.fallback → ∃ t, step s = .next t ∧ t.pending = [] ∧ t.nor = s.nor ∧ t.fuses = s.fuses ∧
      t.dev.clk = { s.dev.clk with now := (s.dev.clk.now + 5) % 2 ^ 64 })

/-- The state after reset: memories canonical and empty, the shape of the tables, no command waiting, no readiness bit, no request,
skein or connection, reset phase. Where the spec leaves a point open, it is the model's choice: log entry 8. -/
def Obligations.ResetMeetsTheInvariants : Prop :=
  memWf 0xFF State.reset.nor = true ∧ memWf 0 State.reset.dev.sas.work = true ∧ memWf 0 State.reset.dev.intake.window = true ∧
  memWf 0 State.reset.dev.pair.mirrorMem = true ∧ shapeHeld State.reset ∧ State.reset.pending = [] ∧ State.reset.dev.ready = 0 ∧
  State.reset.dev.reqs.live = [] ∧ State.reset.dev.sas.skeins = [] ∧ State.reset.dev.weft.conns = [] ∧
  State.reset.dev.boot.phase = .inReset ∧ State.reset.dev.ctr = [] ∧ State.reset.dev.clk.now = 0

/-- The POLY codes select the CRCs of the table with its parameters, each gives its check value on the ASCII bytes 123456789, and a
chained command gives the CRC of the data concatenated. -/
def Obligations.ChecksGiveTheirCrcs : Prop :=
  let nine : Bytes := [0x31, 0x32, 0x33, 0x34, 0x35, 0x36, 0x37, 0x38, 0x39]
  let row (k w p i : Nat) (r : Bool) (x c : Nat) : Prop := (crcKind k).width = w ∧ (crcKind k).poly = p ∧ (crcKind k).init = i ∧
    (crcKind k).reflected = r ∧ (crcKind k).xorOut = x ∧ crcOf k nine = c
  row 0 32 0x1EDC6F41 0xFFFFFFFF true 0xFFFFFFFF 0xE3069283 ∧ row 1 32 0x04C11DB7 0xFFFFFFFF true 0xFFFFFFFF 0xCBF43926 ∧
  row 2 64 0x42F0E1EBA9EA3693 0 false 0 0x6C40DF5F0B497347 ∧ row 3 16 0x8BB7 0 false 0 0xD0DB ∧
  ∀ (k : CrcKind) (x y : Bytes), crcFinal k (crcRun k (crcRun k k.init x) y) = crcFinal k (crcRun k k.init (x ++ y))

/-- A register read over the management plane answers the registers' values and changes nothing but what has been sent; a read of BAR0
is a function of the state. -/
def Obligations.RegisterReadsChangeNothing : Prop :=
  ∀ (s : State) (inst off n : Nat),
    (∃ o : List Out, exec (.regRead inst off n) s = .next { s with dev := { s.dev with out := o ++ s.dev.out } }) ∧
    (rotRuns s.dev → fileAnswers s.dev → off % 8 = 0 → 1 ≤ n → n ≤ 32 → off + 8 * (n - 1) ≤ 0x7FFFF8 →
      ∃ live, Completes (.regRead inst off n) s (fun d =>
        d.out = .mctp 0x81 inst St.ok live 0 ((List.range n).map (fun i => u64 (pfReg s (off + 8 * i)))) :: s.dev.out))

/-- Reads of BAR0 by host software of every width and alignment (R10, R12, R13, R14). -/
def Obligations.HostReadsOfBar0 : Prop :=
  ∀ (s : State) (fn a : Nat),
    (a % 8 = 0 → barRead s fn a 8 = le (barReg s fn a) 8) ∧
    (a % 4 = 0 → barRead s fn a 4 = sub (le (barReg s fn (a - a % 8)) 8) (a % 8) 4) ∧
    (a % 2 = 0 → barRead s fn a 2 = sub (le (barReg s fn (a - a % 8)) 8) (a % 8) 2) ∧
    barRead s fn a 1 = sub (le (barReg s fn (a - a % 8)) 8) (a % 8) 1 ∧
    (∀ n, n ∈ [1, 2, 4, 8] → a % n ≠ 0 → barRead s fn a n = zeroBytes n) ∧
    (∀ k, 2 ≤ k → a % 8 = 0 → barRead s fn a (8 * k) = (List.range k).flatMap (fun i => barRead s fn (a + 8 * i) 8))

/-- A fault record holds each of its fields at its place, and PHASE in bit 7 of its last byte. -/
def Obligations.FaultRecordsCarryTheirFields : Prop :=
  ∀ (f : FaultRec) (ph : Bool), f.cause < 2 ^ 12 → f.status < 2 ^ 16 → f.subjKind < 2 ^ 8 → f.subject < 2 ^ 64 → f.first < 2 ^ 64 →
    f.last < 2 ^ 64 → f.witness < 2 ^ 32 → f.detail0 < 2 ^ 64 → f.detail1 < 2 ^ 64 → f.lane < 2 ^ 7 →
    let b := withPhase (faultBytes f) ph
    b.length = 64 ∧ fld b 0 7 0 = 5 ∧ fld b 1 0 0 = bit1 f.unit ∧ fld b 1 1 1 = bit1 (f.witness == 0xFFFFFFFF) ∧ fld b 1 7 2 = 0 ∧
    fld b 2 11 0 = f.cause ∧ fld b 2 15 12 = 0 ∧ fld b 4 15 0 = f.status ∧ fld b 6 7 0 = f.subjKind ∧ fld b 7 7 0 = 0 ∧
    fld b 8 63 0 = f.subject ∧ fld b 0x10 63 0 = f.first ∧ fld b 0x18 63 0 = f.last ∧ fld b 0x20 31 0 = f.witness ∧
    fld b 0x24 31 0 = f.tag.toNat ∧ fld b 0x28 63 0 = f.detail0 ∧ fld b 0x30 63 0 = f.detail1 ∧ fld b 0x38 31 0 = f.seq.toNat ∧
    fld b 0x3C 6 0 = f.lane ∧ fld b 0x3C 7 7 = bit1 f.remote ∧ fld b 0x3D 15 0 = 0 ∧ fld b 0x3F 6 0 = 0 ∧ fld b 0x3F 7 7 = bit1 ph

/-- The three sources of a device reset: every register, table and memory of the device is back at its reset value, the NOR and the
fuses stay. What was sent stays sent, and draws do not repeat; THERMTRIP_N is released by PWR_GOOD alone. Where the spec leaves a
point open, it is the model's choice: log entry 9. -/
def Obligations.DeviceResetsReturnTheResetState : Prop :=
  ∀ s : State,
    let after (trip : Bool) : Dev := { out := s.dev.out, free := s.dev.free, mon := { thermtrip := trip } }
    Completes .powerOnReset s (fun d => d = after false) ∧
    (∀ ns, 1000 ≤ ns → Completes (.systemReset ns) s (fun d => d = after s.dev.mon.thermtrip)) ∧
    (∀ ns, ns < 1000 → Completes (.systemReset ns) s (fun d => d = s.dev)) ∧
    Completes .fundamentalReset s (fun d => d = after s.dev.mon.thermtrip)

/-- End of reset measures the firmware of the slot that runs and draws the session; the image load sets the image-set registers and
the roles; the vault load runs the image, posts INTAKE, CORES and IMAGE and moves the lifecycle fuse; a tile group posts after its
self-test. Where the spec leaves a point open, it is the model's choice: log entry 29. -/
def Obligations.BringUpCommandsComplete : Prop :=
  ∀ s : State,
    (∀ tap fw0 fw1, s.dev.boot.phase = .inReset → (if activeSlot s 1 = 0 then fw0 else fw1) = true →
      Completes (.endOfReset tap true fw0 fw1 { castOk := true, entropyOk := true }) s (fun d =>
        d.boot.phase = .awaitImage ∧ d.boot.measureFw = sha3_512 (norRead s (fwBase (activeSlot s 1)) 0x100000) ∧
        d.boot.slot = activeSlot s 0 ∧ d.sec.session = Config.drbg s.dev.free ∧ d.sec.cryptoReady ∧ d.sec.msgSeq = 0)) ∧
    (∀ sig0 sig1, s.dev.boot.phase = .awaitImage →
      let here := s.dev.boot.slot
      let good (k : Nat) (t : Tbl Nat) : Prop := manifestOk s k (if k = 0 then sig0 else sig1) ∧ plainSections s k = some t
      Completes (.imageLoad sig0 sig1) s (fun d =>
        (∀ t, good here t → d.boot.phase = .awaitVault ∧ d.img = t ∧ d.boot.roles = fld (signedPart s here) 7 2 0 ∧
          d.boot.measureImg = manifestDigest s here) ∧
        ((∀ t, ¬good here t ∧ ¬good (1 - here) t) → d.boot.phase = .noImage ∧ d.boot.roles = 0 ∧ d.img = s.dev.img ∧
          d.boot.measureImg = zeroBytes 64))) ∧
    (∀ sig, s.dev.boot.phase = .awaitVault → 6 ≤ ((List.range 12).filter (fun n => isReady s.dev (rbStack n))).length →
      vaultSections s s.dev.boot.slot sig →
      CompletesAs (.vaultSectionsLoad sig) s (fun t =>
        t.pending = s.pending ∧ t.nor = s.nor ∧ t.fuses.deployed ∧ t.fuses.slots = s.fuses.slots ∧
        t.dev.boot.phase = .running ∧ isReady t.dev rbCores ∧ isReady t.dev rbImage ∧ isReady t.dev rbIntake ∧ t.dev.img = s.dev.img)) ∧
    (∀ g ts, s.dev.boot.phase = .running → g < 16 → isReady s.dev (rbTiles g) = false →
      Completes (.tileSelfTestDone g ts) s (fun d => isReady d (rbTiles g) ∧ d.img = s.dev.img ∧ d.reqs = s.dev.reqs))

/-- An accepted IMAGE_SWITCH sets SWITCHING and names its slot; the drain's end resets the device into that slot; the window's end
clears SWITCHING and the SPDM sessions. Where the spec leaves a point open, it is the model's choice: log entry 31. -/
def Obligations.ImageSwitchCompletes : Prop :=
  ∀ s : State,
    (∀ h slot v, rotRuns s.dev → signedCheck s.dev h qImage = St.ok → s.dev.sec.switching = false →
      s.dev.sec.updateStaged → s.dev.boot.staged = some (slot, v) → s.dev.boot.updating = none →
      Completes (.imageSwitch h slot v) s (fun d => Out.signedStatus St.ok ∈ d.out ∧
        d.boot.switchTo = some slot ∧ d.boot.switchStart = now s.dev ∧ d.sec.switching)) ∧
    (∀ slot, s.dev.boot.switchTo = some slot → (undelivered s.dev = 0 ∨ s.dev.boot.switchStart + 50000000 ≤ now s.dev) →
      CompletesAs .imageSwitchDrainTimeout s (fun t => t.fuses = s.fuses ∧ t.pending = s.pending ∧
        t.dev.boot.phase = .awaitImage ∧ t.dev.boot.slot = slot ∧ t.dev.boot.switchTo = none ∧ t.dev.clk.now = 0 ∧
        t.dev.reqs = {} ∧ t.dev.sas = {} ∧ t.dev.sec.updateStaged = false)) ∧
    (s.dev.sec.switching → s.dev.boot.switchTo = none → (isReady s.dev rbImage ∨ s.dev.boot.phase = .noImage) →
      Completes .imageSwitchWindowEnd s (fun d => d.sec.switching = false ∧ d.sec.sessions = [] ∧ d.boot = s.dev.boot))

/-- A firmware update over PLDM: the request opens it, data go to the inactive slot alone, verification stages an image and marks
firmware, ApplyComplete ends the update, and ActivateFirmware switches in the no-image state. Where the spec leaves a point open,
it is the model's choice: log entry 21. -/
def Obligations.FirmwareUpdateCompletes : Prop :=
  ∀ s : State, rotRuns s.dev →
    (∀ c, c = 1 ∨ c = 2 → s.dev.boot.updating = none → s.dev.sec.switching = false →
      Completes (.requestUpdate c) s (fun d => d.boot.updating = some c ∧ d.boot.staged = none ∧ d.sec.updateStaged = false ∧
        d.out = .pldm 0x510 [0] :: s.dev.out)) ∧
    (∀ c off bs, s.dev.boot.updating = some c → off + bs.length ≤ (updateSlot s c).2 →
      CompletesAs (.componentWrite c off bs) s (fun t => t.dev = s.dev ∧ t.fuses = s.fuses ∧ t.pending = s.pending ∧
        ∀ a, a < (updateSlot s c).1 + off ∨ (updateSlot s c).1 + off + bs.length ≤ a → memRead 0xFF t.nor a = memRead 0xFF s.nor a)) ∧
    (∀ sig cores, s.dev.boot.updating = some 2 →
      let slot := 1 - s.dev.boot.slot
      CompletesAs (.verifyComplete sig cores) s (fun t => t.fuses = s.fuses ∧
        if manifestOk s slot sig ∧ (plainSections s slot).isSome ∧ vaultSections s slot cores then
          t.dev.sec.updateStaged ∧ t.dev.boot.staged = some (slot, unLe (sub (signedPart s slot) 0x10 8))
        else t.dev.boot.updating = none ∧ t.dev.sec = s.dev.sec ∧ t.nor = s.nor)) ∧
    (∀ cores, s.dev.boot.updating = some 1 →
      CompletesAs (.verifyComplete true cores) s (fun t => t.dev.boot.fwVerified ∧ t.nor = s.nor ∧ t.fuses = s.fuses)) ∧
    (s.dev.boot.updating = some 2 → s.dev.sec.updateStaged →
      CompletesAs .applyComplete s (fun t => t.dev.boot.updating = none ∧ t.nor = s.nor ∧ t.dev.sec = s.dev.sec)) ∧
    (s.dev.boot.phase = .noImage → s.dev.boot.updating = none → s.dev.sec.switching = false →
      CompletesAs .activateFirmware s (fun t => t.dev.boot.phase = .awaitImage ∧ t.fuses = s.fuses ∧ t.dev.clk.now = 0))

/-- A reference edge adds 10 ns; reference loss and a watchdog expiry put the device into custody and say why; a PLL's loss of lock
clears the bits of its functions; a released control core posts CORES again. Rail and die readings are kept and nothing beyond
reports follows from them; a host write of a register without an action does nothing; the coalescing times write pending
detections. -/
def Obligations.ClockAndMonitoringCommandsComplete : Prop :=
  (∀ s : State, outOfReset s.dev →
      (s.dev.clk.fallback = false →
        Completes .referenceEdge s (fun d => d.clk = { s.dev.clk with now := (s.dev.clk.now + 10) % 2 ^ 64, refOk := true })) ∧
      (s.dev.clk.refOk → s.dev.flt.custody = .normal →
        Completes .referenceLoss s (fun d => d.clk.fallback ∧ d.clk.refOk = false ∧ d.flt.custody = .custody ∧ d.flt.trigger = 0x220)) ∧
      (∀ p, p < 17 → bitOf s.dev.clk.lock p →
        Completes (.pllLockLoss p) s (fun d => d.clk.lock = s.dev.clk.lock - 2 ^ p ∧ d.clk.loss = (s.dev.clk.loss ||| 2 ^ p) ∧
          (∀ b ∈ pllBits p, isReady d b = false) ∧ d.reqs = s.dev.reqs ∧ d.sas = s.dev.sas)) ∧
      (∀ p, p < 17 → bitOf s.dev.clk.lock p = false →
        Completes (.pllRelocked p) s (fun d => d.clk.lock = s.dev.clk.lock + 2 ^ p ∧ d.clk.loss = s.dev.clk.loss)) ∧
      (∀ a, a < 10 → s.dev.boot.phase = .running → s.dev.sec.switching = false → s.dev.flt.custody = .normal →
        Completes (.watchdogExpiry a) s (fun d => d.flt.custody = .custody ∧ d.flt.trigger = 0xA42 ∧ d.clk.wdAgent = a ∧ d.clk.wdValid ∧
          (a < 8 → d.sec.coresInReset ∧ isReady d rbCores = false))) ∧
      (s.dev.sec.coresInReset →
        Completes .controlCoreResetDone s (fun d => d.sec.coresInReset = false ∧ isReady d rbCores ∧ d.reqs = s.dev.reqs ∧
          d.sas = s.dev.sas))) ∧
  (∀ s : State,
      (∀ mv w, outOfReset s.dev → Completes (.railMeasurement mv w) s (fun d => d.mon.powerW = w ∧
        (∀ r, r ∈ d.mon.railOut ↔ r < 15 ∧ (mv.getD r 0 < (railWindows.getD r (0, 0)).1 ∨ (railWindows.getD r (0, 0)).2 < mv.getD r 0)) ∧
        d.reqs = s.dev.reqs ∧ d.sas = s.dev.sas ∧ d.flt.custody = s.dev.flt.custody)) ∧
      (∀ a b c, outOfReset s.dev → Completes (.dieTempSample a b c) s (fun d => d.mon.dieTemp = [a, b, c] ∧ d.clk = s.dev.clk ∧
        d.flt.custody = s.dev.flt.custody)) ∧
      (∀ f a n v, Completes (.registerWrite f a n v) s (fun d => d = s.dev)) ∧
      (∀ k x, nextAllowed s.dev k x.toNat 64 ≤ now s.dev →
        (∀ e ∈ s.dev.flt.entries, e.subjKind = k → e.subject = x.toNat → e.dest = 64 ∧ e.pending = 0) →
        Completes (.coalesceNextAllowed k x) s (fun d => ∀ e ∈ d.flt.entries, ¬(e.subjKind = k ∧ e.subject = x.toNat))) ∧
      (s.dev.flt.fullLost ≠ 0 → s.dev.flt.fullReportAt + coalesceNs s.dev ≤ now s.dev →
        Completes .coalesceFullReport s (fun d => (d.flt.fullLost = 0 ∨ ∃ r ∈ d.rings, r.broken) ∧ d.flt.fullReportAt = now s.dev ∧ d.reqs = s.dev.reqs)))

/-- A signed message of any kind is judged in the order of the table, and a refused one changes nothing but the count of refusals. -/
def Obligations.SignedMessagesAreJudgedInOrder : Prop :=
  ∀ (d : Dev) (h : SigHdr) (b : SignedBody),
    let r := signedAny d h b
    let q : Nat := match b with
      | .gateSwitch .. => qGate
      | .fence _ => qFence
      | .unfence _ => qFence
      | .stackRetire _ => qStack
      | .saOpen _ => qSa
      | .saClose _ => qSa
      | .zeroize => qZeroize
      | .selfTest _ => qSelfTest
      | .takeover .. => qTakeover
      | .custodyEnter => qCustody
      | .readmit => qReadmit
      | .imageSwitch .. => qImage
    let form := h.formOk = true ∧ h.sigs ≠ [] ∧ h.sigs.length ≤ 16
    let fresh := h.session = d.sec.session ∧ d.sec.msgSeq < h.seq
    let valid := ∀ x ∈ h.sigs, x.2 = true ∧ x.1 < mgrKeyCount d
    let quorum := img d 0x500010 (q + 3) q < (h.sigs.map (·.1)).eraseDups.length
    (¬form → r.1 = St.recordInvalid) ∧
    (form → h.target ≠ idDigest → r.1 = St.sigTarget) ∧
    (form → h.target = idDigest → ¬fresh → r.1 = St.sigStale) ∧
    (form → h.target = idDigest → fresh → ¬valid → r.1 = St.sigInvalid) ∧
    (form → h.target = idDigest → fresh → valid → ¬quorum → r.1 = St.sigQuorum) ∧
    (r.1 = St.ok → form ∧ h.target = idDigest ∧ fresh ∧ valid ∧ quorum) ∧
    (r.1 ≠ St.ok → r.2 = ctrInc d cMsgRefused)

/-- Custody by a signed message, the start of readmission and its two outcomes. Where the spec leaves a point open, it is the model's
choice: log entry 35. -/
def Obligations.CustodyAndReadmissionComplete : Prop :=
  ∀ s : State,
    (∀ h, rotRuns s.dev → signedCheck s.dev h qCustody = St.ok → s.dev.sec.switching = false → s.dev.flt.custody = .normal →
      Completes (.custodyEnter h) s (fun d => d.flt.custody = .custody ∧ d.flt.trigger = 0xA13 ∧ Out.signedStatus St.ok ∈ d.out)) ∧
    (∀ i h, rotRuns s.dev → signedCheck s.dev h qCustody = St.ok → s.dev.sec.switching = false → s.dev.flt.custody = .normal →
      Completes (.mctpSigned i h .custodyEnter) s (fun d => d.flt.custody = .custody ∧ d.flt.trigger = 0xA13 ∧
        Out.mctp 0x82 i St.ok 0 0 [] ∈ d.out)) ∧
    (∀ h, rotRuns s.dev → signedCheck s.dev h qReadmit = St.ok → s.dev.sec.switching = false → s.dev.flt.custody = .custody →
      Completes (.readmit h) s (fun d => d.flt.custody = .testing ∧ d.sec.msgSeq = h.seq ∧ d.reqs = s.dev.reqs ∧ d.fab = s.dev.fab)) ∧
    (s.dev.flt.custody = .testing → s.dev.clk.fallback = false → s.dev.sec.error = false → s.dev.sec.zeroized = false →
      (∀ u ∈ s.dev.stk.units, u.st ≠ 5) → 6 ≤ (usableStacks s.dev).length →
      (∀ k ∈ requiredDrafts s.dev, ∃ i, draftOf s.dev k = some i ∧ runsAvail s.dev i ≠ 0) →
      Completes (.readmitChecksDone { castOk := true, entropyOk := true } [] true true) s (fun d =>
        d.flt.custody = .normal ∧ d.flt.readmit = some 0 ∧ d.fab.stopped = false)) ∧
    (∀ t ts up, s.dev.flt.custody = .testing →
      Completes (.readmitChecksDone t ts false up) s (fun d =>
        d.flt.custody = .custody ∧ (∃ x, d.flt.readmit = some x ∧ bitOf x 4) ∧ d.sec.coresInReset))

/-- Zeroization from any of its commands, the entropy failure's error state, and the self-test that recovers. Where the spec leaves a
point open, it is the model's choice: log entry 34. -/
def Obligations.KeyCommandsComplete : Prop :=
  ∀ s : State, rotRuns s.dev →
    let gone (d : Dev) : Prop := d.sec.zeroized ∧ d.sec.keys = false ∧ d.sec.cryptoReady = false ∧ d.sec.assocs = [] ∧
      d.sec.sessions = [] ∧ d.sec.ide = [] ∧ d.flt.custody = .custody
    (∀ h, signedCheck s.dev h qZeroize = St.ok → Completes (.zeroize h) s gone) ∧
    (∀ v : U64, bits v.toNat 15 8 = 0xC3 → Completes (.secZeroize 64 v) s gone) ∧
    (s.dev.sec.error = false → Completes .entropyHealthFailure s (fun d => gone d ∧ d.sec.error)) ∧
    (∀ h, signedCheck s.dev h qSelfTest = St.ok → s.dev.sec.switching = false → (s.dev.sec.error ∨ s.dev.sec.zeroized) →
      Completes (.selfTest h { castOk := true, entropyOk := true }) s (fun d =>
        d.sec.error = false ∧ d.sec.zeroized = false ∧ d.sec.session = Config.drbg s.dev.free ∧ d.sec.msgSeq = 0 ∧ d.sec.keys ∧
        d.reqs = {} ∧ d.sas = {} ∧ d.weft = {} ∧ d.flt.custody = s.dev.flt.custody)) ∧
    (∀ h, signedCheck s.dev h qSelfTest = St.ok → s.dev.sec.switching = false → s.dev.sec.error = false → s.dev.sec.zeroized = false →
      Completes (.selfTest h { castOk := true, entropyOk := true }) s (fun d =>
        d.sec = { s.dev.sec with msgSeq := h.seq } ∧ d.reqs = s.dev.reqs ∧ d.weft = s.dev.weft))

/-- Security associations: opened by a signed message, shaken hands over, closed, or given up after 1 s. Where the spec leaves a point
open, it is the model's choice: log entry 12. -/
def Obligations.AssociationCommandsComplete : Prop :=
  ∀ s : State,
    (∀ h b, rotRuns s.dev → signedCheck s.dev h qSa = St.ok → s.dev.sec.switching = false → b.localSa ≤ 4095 →
      assocAt s.dev b.localSa = none →
      Completes (.saOpen h b) s (fun d => ∃ a, assocAt d b.localSa = some a ∧ a.established = false ∧ a.initiator = b.initiator ∧
        a.peerFleet = b.peerFleet ∧ a.handshake = b.handshake ∧ a.started = now s.dev ∧
        (b.initiator → Out.sa 1 b.localSa b.handshake ∈ d.out))) ∧
    (∀ h sa, rotRuns s.dev → signedCheck s.dev h qSa = St.ok → s.dev.sec.switching = false →
      (∀ c ∈ s.dev.weft.conns, c.state = .free ∨ c.saTx ≠ sa) →
      Completes (.saClose h sa) s (fun d => assocAt d sa = none ∧ ∀ i, i ≠ sa → assocAt d i = assocAt s.dev i)) ∧
    (∀ m a, saHalf s.dev m false = some a → a.replied = false →
      Completes (.saHello m) s (fun d => assocAt d m.localSa = some { a with replied := true } ∧
        d.out = .sa 2 m.localSa m.handshake :: s.dev.out)) ∧
    (∀ m a, saHalf s.dev m true = some a → saChecks s.dev m →
      Completes (.saReply m) s (fun d => assocAt d m.localSa = some { a with established := true } ∧
        d.out = .sa 3 m.localSa m.handshake :: s.dev.out ∧ tgetD d.ctr cSaOpened 0 = satAdd (tgetD s.dev.ctr cSaOpened 0) 1)) ∧
    (∀ m a, saHalf s.dev m false = some a → a.replied → saChecks s.dev m →
      Completes (.saFinish m) s (fun d => assocAt d m.localSa = some { a with established := true } ∧ d.out = s.dev.out ∧
        tgetD d.ctr cSaOpened 0 = satAdd (tgetD s.dev.ctr cSaOpened 0) 1)) ∧
    (∀ i a, assocAt s.dev i = some a → a.established = false → a.started + 1000000000 ≤ now s.dev →
      Completes (.saHandshakeTimeout i) s (fun d => assocAt d i = none ∧ d.reqs = s.dev.reqs ∧ d.flt.custody = s.dev.flt.custody))

/-- Signed commands on tiles, stacks and gates change what they name. -/
def Obligations.SignedServiceCommandsComplete : Prop :=
  ∀ s : State, rotRuns s.dev → s.dev.sec.switching = false →
    (∀ h ts, signedCheck s.dev h qFence = St.ok → (∀ t ∈ ts, t < 640) →
      Completes (.fence h ts) s (fun d => (∀ t ∈ ts, t ∈ d.fab.fenced) ∧ (∀ t ∈ s.dev.fab.fenced, t ∈ d.fab.fenced) ∧
        d.sec.msgSeq = h.seq)) ∧
    (∀ h ts, signedCheck s.dev h qFence = St.ok → (∀ t ∈ ts, t < 640) →
      Completes (.unfence h ts) s (fun d => d.fab.fenced = s.dev.fab.fenced.filter (fun t => !ts.contains t) ∧ d.sec.msgSeq = h.seq)) ∧
    (∀ h n, signedCheck s.dev h qStack = St.ok → n < s.dev.stk.units.length → n < 12 → (stackAt s.dev n).usable →
      Completes (.stackRetire h n) s (fun d => (stackAt d n).st = 3 ∧ (∀ m, m ≠ n → stackAt d m = stackAt s.dev m) ∧ d.sec.msgSeq = h.seq)) ∧
    (∀ h p l t, signedCheck s.dev h qGate = St.ok → p < 8 → p < s.dev.ports.length → gateRefused s.dev p l t = St.ok →
      Completes (.gateSwitch h p l t) s (fun d => (portAt d p).pending = some (l, t) ∧ (∀ m, m ≠ p → portAt d m = portAt s.dev m) ∧
        d.sec.msgSeq = h.seq))

/-- The selvedge pair's commands: heartbeats, the mirror stream and its acknowledgement, resynchronization, loss. A frame goes out
under the next packet number of the pair's association, as long as one is left. A TAKEOVER that names the partner takes its place
or releases the mirror space; one that names another pair changes nothing but the count of refusals. Where the spec leaves a point
open, it is the model's choice: log entries 66, 67. -/
def Obligations.PairAndTakeoverComplete : Prop :=
  (∀ s : State,
      let p := s.dev.pair
      let sa := pairSa s.dev
      let left (k : Nat) (a : Assoc) : Prop := findAssoc s.dev sa = some a ∧ a.pn + 2 < k
      (rotRuns s.dev → pairLinked s.dev → p.state ≠ .taken → p.state ≠ .unpaired →
        (∀ t, p.lastHeartbeat = some t → t + hbNs s.dev ≤ now s.dev) →
        Completes .heartbeatSend s (fun d => d.pair.lastHeartbeat = some (now s.dev) ∧ d.pair.state = p.state ∧
          (∀ a, left (2 ^ 48) a → .selvedge 0x01 sa (a.pn + 1) p.sent false (u64 s.dev.sec.session.toNat) [] ∈ d.out) ∧
          (∀ a, left (2 ^ 48 - 2 ^ 40) a → d.pair = { p with lastHeartbeat := some (now s.dev) } ∧
            findAssoc d sa = some { a with pn := a.pn + 1 }))) ∧
      (∀ sess mseq, pairLinked s.dev → p.state = .forming → p.resyncSent = none →
        Completes (.heartbeat sess mseq true) s (fun d => d.pair.state = .forming ∧ d.pair.session = some sess ∧
          d.pair.applied = mseq ∧ d.pair.lastFrame = now s.dev ∧ d.pair.resyncSent.isSome ∧
          (saUsable d sa → ∃ pn, Out.selvedge 0x04 sa pn 0 false 0 [] ∈ d.out))) ∧
      (∀ recs e, pairLinked s.dev → p.state = .mirrored →
        applyAll { s.dev with pair := { p with lastFrame := now s.dev } } recs = some e →
        Completes (.mirror (p.applied + 1) recs true) s (fun d => d.pair.applied = p.applied + 1 ∧ d.pair.mirrorMem = e.pair.mirrorMem ∧
          d.pair.mirrorReqs = e.pair.mirrorReqs ∧ d.pair.mirrorRecs = e.pair.mirrorRecs ∧ d.pair.mirrorRings = e.pair.mirrorRings ∧
          ∀ a, left (2 ^ 48) a → Out.selvedge 0x03 sa (a.pn + 1) (p.applied + 1) false 0 [] ∈ d.out)) ∧
      (∀ mseq recs, pairLinked s.dev → p.state = .mirrored → p.applied + 1 < mseq →
        Completes (.mirror mseq recs true) s (fun d => d.pair.state = .lost ∧ d.pair.applied = p.applied ∧
          d.pair.mirrorMem = p.mirrorMem ∧ ∀ a, left (2 ^ 48) a → Out.selvedge 0x03 sa (a.pn + 1) p.applied true 0 [] ∈ d.out)) ∧
      (∀ mseq, pairLinked s.dev → p.state = .mirrored →
        Completes (.mack mseq false true) s (fun d => d.pair.acked = max p.acked (min mseq p.sent) ∧ d.pair.state = .mirrored ∧
          d.pair.lastFrame = now s.dev)) ∧
      (pairLinked s.dev → p.state = .forming → p.ownResync →
        Completes (.resyncDone true) s (fun d => d.pair.state = .mirrored ∧ d.pair.peerResync)) ∧
      (p.state = .mirrored → p.lastFrame + lossNs s.dev ≤ now s.dev →
        Completes .partnerLoss s (fun d => d.pair.state = .lost ∧ d.pair.lostAt = now s.dev ∧ d.pair.mirrorMem = p.mirrorMem ∧
          d.pair.mirrorReqs = p.mirrorReqs ∧ d.reqs = s.dev.reqs))) ∧
  (∀ (s : State) (h : SigHdr) (fl : Nat), rotRuns s.dev → signedCheck s.dev h qTakeover = St.ok → s.dev.sec.switching = false →
      (paired s.dev → fl = partnerFleet s.dev → s.dev.pair.state ≠ .taken →
        Completes (.takeover h 0 fl) s (fun d => d.pair.state = .taken ∧ d.pair.adopted = some (partnerFleet s.dev) ∧
          d.pair.mirrorMem = [] ∧ isOurs d fl ∧ Out.signedStatus St.ok ∈ d.out) ∧
        Completes (.takeoverRelease h 1 fl) s (fun d => d.pair.state = .forming ∧ d.pair.mirrorMem = [] ∧ d.pair.mirrorReqs = [] ∧
          d.pair.mirrorRings = [] ∧ d.pair.resyncSent = none ∧ Out.signedStatus St.ok ∈ d.out)) ∧
      (paired s.dev = false ∨ fl ≠ partnerFleet s.dev →
        ∀ m, ∃ d, signedTakeover s.dev h m fl = (St.pairMismatch, d) ∧ d = ctrInc s.dev cMsgRefused))

/-- SPDM requests are answered while firmware runs; sessions open, are established, and end. The response codes and the sessions'
numbers are the model's choice (log entry 22). -/
def Obligations.SpdmCommandsComplete : Prop :=
  ∀ s : State, rotRuns s.dev →
    let told (d : Dev) (code : Nat) (fields : List Nat) : Prop :=
      (∃ body, d.out = .spdm code fields body :: s.dev.out) ∧
      tgetD d.ctr cSpdmRequests 0 = satAdd (tgetD s.dev.ctr cSpdmRequests 0) 1
    Completes .getVersion s (fun d => told d 0x04 [0x13] ∧ d.sec.negotiated = false) ∧
    Completes .getCapabilities s (fun d => told d 0x61 [] ∧ d.sec = s.dev.sec) ∧
    Completes .negotiateAlgorithms s (fun d => told d 0x63 [] ∧ d.sec = { s.dev.sec with negotiated := true }) ∧
    (s.dev.sec.negotiated → s.dev.boot.measureImg ≠ [] →
      Completes .getDigests s (fun d => d.out = .spdm 0x01 [1] (sha3_512 (slotChain s.dev)) :: s.dev.out ∧ d.sec = s.dev.sec) ∧
      Completes (.getCertificate 0) s (fun d => d.out = .spdm 0x02 [0] (slotChain s.dev) :: s.dev.out ∧ d.sec = s.dev.sec) ∧
      (∀ slot, slot ≠ 0 → Completes (.getCertificate slot) s (fun d => told d 0x7F [1] ∧ d.sec = s.dev.sec))) ∧
    (s.dev.sec.negotiated → s.dev.sec.switching = false → ∀ sg : Bool, (sg → s.dev.boot.aliasFormed) →
      Completes (.getMeasurements 0 sg) s (fun d => told d 0x60 [(measureBlocks s).length, bit1 sg] ∧ d.sec = s.dev.sec) ∧
      (∀ b ∈ measureBlocks s, b.1 ≠ 0 → b.1 ≠ 255 → (measureBlocks s).filter (fun x => x.1 == b.1) = [b] →
        Completes (.getMeasurements b.1 sg) s (fun d => d.out = .spdm 0x60 [bit1 sg, b.1] b.2 :: s.dev.out ∧ d.sec = s.dev.sec)) ∧
      Completes (.getMeasurements 255 sg) s (fun d => d.out = .spdm 0x60 (bit1 sg :: (measureBlocks s).map (·.1))
        ((measureBlocks s).flatMap (·.2)) :: s.dev.out ∧ d.sec = s.dev.sec)) ∧
    (s.dev.sec.negotiated → s.dev.sec.switching = false → s.dev.boot.aliasFormed →
      Completes .challenge s (fun d => told d 0x03 [] ∧ d.sec = s.dev.sec) ∧
      Completes .keyExchange s (fun d => told d 0x64 [s.dev.sec.nextSession] ∧
        d.sec.sessions = s.dev.sec.sessions ++ [(s.dev.sec.nextSession, false)] ∧ d.sec.nextSession = s.dev.sec.nextSession + 1)) ∧
    (∀ n, (n, false) ∈ s.dev.sec.sessions → Completes (.finish n) s (fun d => told d 0x65 [n] ∧ (n, true) ∈ d.sec.sessions)) ∧
    (∀ n, (n, true) ∈ s.dev.sec.sessions →
      Completes (.keyUpdate n) s (fun d => told d 0x69 [n] ∧ d.sec = s.dev.sec) ∧
      Completes (.spdmHeartbeat n) s (fun d => told d 0x68 [n] ∧ d.sec = s.dev.sec) ∧
      Completes (.endSession n) s (fun d => told d 0x6C [n] ∧ ∀ x ∈ d.sec.sessions, x.1 ≠ n) ∧
      (∀ k, k ≤ 8 → s.dev.sec.keys → Completes (.vendorDefinedRequest n true k) s (fun d => told d 0x7E [n, k] ∧ k ∈ d.sec.ide)) ∧
      (∀ k, Completes (.vendorDefinedRequest n false k) s (fun d => told d 0x7E [n] ∧ d.sec = s.dev.sec)))

/-- The management plane's other commands: a key slot is programmed only while PROVISIONING and empty, the snapshot holds what the
register file reads, sensors are read, and events go out one at a time. Where the spec leaves a point open, it is the model's
choice: log entry 20. -/
def Obligations.ManagementCommandsComplete : Prop :=
  ∀ s : State, rotRuns s.dev →
    (∀ i k dg, k < 4 → s.fuses.deployed = false → s.fuses.slots[k]? = some none →
      CompletesAs (.slotProgram i k dg) s (fun t => t.fuses = { s.fuses with slots := s.fuses.slots.set k (some (fit dg 32)) } ∧
        t.nor = s.nor ∧ t.pending = s.pending ∧ t.dev = { s.dev with out := .mctp 0x83 i St.ok 0 0 [] :: s.dev.out })) ∧
    (∀ i k dg, k < 4 → s.fuses.deployed ∨ (∃ x, s.fuses.slots[k]? = some (some x)) →
      CompletesAs (.slotProgram i k dg) s (fun t => t.fuses = s.fuses ∧
        t.dev = { s.dev with out := .mctp 0x83 i St.access 0 0 [] :: s.dev.out })) ∧
    (fileAnswers s.dev →
      Completes .registerSnapshotRefresh s (fun d => d.mon.snapshotAt = now s.dev ∧
        (∀ a, a ∈ fileRegs → pfReg s a ≠ 0 → (a, pfReg s a) ∈ d.mon.snapshot) ∧ d.out = s.dev.out)) ∧
    Completes .getTid s (fun d => d = { s.dev with out := .pldm 0x202 [0, Config.pldmTid] :: s.dev.out }) ∧
    (∀ h, h ≤ 21 → Completes (.getPdr h) s (fun d => ∃ x, d = { s.dev with out := .pldm 0x251 (0 :: x) :: s.dev.out })) ∧
    Completes .getPdrRepositoryInfo s (fun d => d = { s.dev with out := .pldm 0x250 [0, 0, 21] :: s.dev.out }) ∧
    (∀ i v, numericReading s.dev i = some v →
      Completes (.getSensorReading i) s (fun d => d = { s.dev with
        out := .pldm 0x211 [0, (v % 65536).toNat, tgetD s.dev.mon.level i 0] :: s.dev.out })) ∧
    (∀ i v, stateReading s.dev i = some v →
      Completes (.getStateSensorReadings i) s (fun d => d = { s.dev with out := .pldm 0x221 [0, 1, v] :: s.dev.out })) ∧
    (∀ e, Completes (.setEventReceiver (some e)) s (fun d => d.mon.receiver = some e)) ∧
    Completes (.setEventReceiver none) s (fun d => d.mon.receiver = none ∧ d.mon.outstanding = none ∧ d.mon.waiting = []) ∧
    (s.dev.mon.outstanding.isSome → s.dev.mon.waiting = [] →
      Completes .platformEventAcknowledged s (fun d => d.mon.outstanding = none ∧ d.out = s.dev.out)) ∧
    (∀ k v, s.dev.mon.outstanding = some (k, v) → s.dev.mon.sentAt + 1000000000 ≤ now s.dev →
      Completes .platformEventResend s (fun d => d.out = .pldmEvent k v :: s.dev.out ∧ d.mon.outstanding = some (k, v) ∧
        d.mon.sentAt = now s.dev))

/-- The host link, its reads and its interrupts. Resets of the functions: the function's enables, its line queues and its reads of
ring heads are gone, and those of other owners stay. Where the spec leaves a point open, it is the model's choice: log entry 24. -/
def Obligations.HostLinkAndFunctionResetsComplete : Prop :=
  (∀ s : State,
      let h := s.dev.host
      (∀ id x ref bs, h.reads.find? (fun y => y.id == id) = some x → x.use = .other ref → h.l0 →
        Completes (.hostReadCompletion id (some bs)) s (fun d => d.host = { h with reads := h.reads.filter (fun y => y.id != x.id) })) ∧
      (∀ id x ref, h.reads.find? (fun y => y.id == id) = some x → x.use = .other ref → h.l0 →
        Completes (.hostReadCompletion id none) s (fun d => d.reqs = s.dev.reqs ∧ (∀ y ∈ d.host.reads, y ∈ h.reads → y.id ≠ x.id) ∧
          d.flt.custody = s.dev.flt.custody)) ∧
      (h.l0 → Completes .hostLinkDown s (fun d => d.host.l0 = false ∧ d.host.retrainDue ∧ d.host.rate = h.rate ∧
        isReady d rbPcie = false)) ∧
      (∀ rate width, h.l0 = false → outOfReset s.dev → 1 ≤ rate → rate ≤ 6 → width ∈ [1, 4, 8, 16] →
        Completes (.hostLinkUp rate width) s (fun d => d.host.l0 ∧ d.host.rate = rate ∧ d.host.width = width ∧ isReady d rbPcie ∧
          d.host.retrainDue = false)) ∧
      (∀ f m, tget h.msix f = some m → m.enabled → m.masked = false → m.pending → (∀ t, m.lastSent = some t → t + 100000 ≤ now s.dev) →
        fnUp s.dev f → s.dev.pair.state = .unpaired →
        Completes (.msixIntervalExpiry f) s (fun d => d.out = .msix f :: s.dev.out ∧
          tget d.host.msix f = some { m with pending := false, lastSent := some (now s.dev) })) ∧
      (∀ f m, tget h.msix f = some m → m.pending = false →
        Completes (.msixVectorUnmask f) s (fun d => tget d.host.msix f = some { m with masked := false } ∧ d.out = s.dev.out))) ∧
  (∀ s : State,
      (∀ o, o < s.dev.host.vfs → o < 64 →
        Completes (.vfFunctionLevelReset o) s (fun d => o ∉ d.host.busMaster ∧ o ∉ d.host.memSpace ∧ o ∈ d.host.relaxed ∧
          tget d.host.msix o = none ∧ (∀ q ∈ d.lines.queues, q.owner ≠ o) ∧ (∀ i ∈ d.lines.issues, i.desc.owner ≠ o) ∧
          d.boot = s.dev.boot ∧ d.img = s.dev.img ∧ d.clk = s.dev.clk)) ∧
      (∀ hot, Completes (.pfFunctionLevelReset hot) s (fun d => d.host.vfs = 0 ∧ 64 ∉ d.host.busMaster ∧ 64 ∉ d.host.memSpace ∧
        (∀ o, o < min s.dev.host.vfs 64 → o ∉ d.host.busMaster ∧ o ∉ d.host.memSpace) ∧ d.boot = s.dev.boot ∧ d.img = s.dev.img)))

/-- The DOE mailbox answers an object it can take, and an abort clears it. Configuration writes set what they name. Where the spec
leaves a point open, it is the model's choice: log entries 24, 25. -/
def Obligations.DoeAndConfigurationComplete : Prop :=
  (∀ s : State,
      (∀ o : DoeObject, s.dev.host.doeError = false → s.dev.host.doeBusy = false → o.vendorPciSig → o.type ≤ 2 → o.length ≤ 16384 →
        Completes (.doeRequest o) s (fun d => d = { s.dev with
          host := { s.dev.host with doeReady := true }
          out := .doe false true :: s.dev.out })) ∧
      (∀ o : DoeObject, s.dev.host.doeError = false → s.dev.host.doeBusy = false → (o.vendorPciSig = false ∨ 2 < o.type ∨ 16384 < o.length) →
        Completes (.doeRequest o) s (fun d => d.host.doeError ∧ d.host.doeReady = false)) ∧
      Completes .doeAbort s (fun d => d = { s.dev with
        host := { s.dev.host with doeBusy := false, doeReady := false, doeError := false } })) ∧
  (∀ s : State,
      let h := s.dev.host
      (∀ b, Completes (.pcieConfigurationWrite (.maxPayload b)) s (fun d => d.host = { h with mps256 := b })) ∧
      (∀ n, n ∈ [128, 256, 512, 1024, 2048, 4096] →
        Completes (.pcieConfigurationWrite (.maxReadRequest n)) s (fun d => d.host = { h with readRequest := n })) ∧
      (∀ us, 50 ≤ us → us ≤ 64000 →
        Completes (.pcieConfigurationWrite (.completionTimeout us)) s (fun d => d.host = { h with timeoutUs := us })) ∧
      (∀ n, n ≤ 64 → Completes (.pcieConfigurationWrite (.vfEnable n)) s (fun d => d.host = { h with vfs := n })) ∧
      (∀ f, Completes (.pcieConfigurationWrite (.busMaster f true)) s (fun d => f ∈ d.host.busMaster)) ∧
      (∀ f, Completes (.pcieConfigurationWrite (.busMaster f false)) s (fun d => f ∉ d.host.busMaster)) ∧
      (∀ f, Completes (.pcieConfigurationWrite (.memSpace f true)) s (fun d => f ∈ d.host.memSpace)) ∧
      (∀ f on, Completes (.pcieConfigurationWrite (.relaxedOrdering f on)) s (fun d => (f ∈ d.host.relaxed ↔ on = true))) ∧
      (∀ f, (tgetD h.msix f {}).pending = false →
        Completes (.pcieConfigurationWrite (.msixEnable f true)) s (fun d => (tgetD d.host.msix f {}).enabled)) ∧
      (∀ f, Completes (.pcieConfigurationWrite (.msixMask f)) s (fun d => (tgetD d.host.msix f {}).masked)) ∧
      (∀ f, f < 64 → tdispHeld s.dev f → Completes (.pcieConfigurationWrite (.barWrite f)) s (fun d => tdispOf d f = .error)))

/-- A domain's interface moves from unlocked to locked to running and back, reports itself, and fails into ERROR. Where the spec
leaves a point open, it is the model's choice: log entry 23. -/
def Obligations.TdispCommandsComplete : Prop :=
  ∀ (s : State) (o : Nat),
    (tdispRequired s.dev → o < 64 → o ∈ s.dev.host.busMaster → o ∈ s.dev.host.memSpace → (∀ r ∈ s.dev.rings, r.owner ≠ o) →
      (∀ q ∈ s.dev.lines.queues, q.owner ≠ o) → tdispOf s.dev o = .unlocked →
      Completes (.lockInterface o true) s (fun d => tdispOf d o = .locked ∧ (∀ p, p ≠ o → tdispOf d p = tdispOf s.dev p) ∧
        d.out = .tdisp 0x03 [o] :: s.dev.out)) ∧
    (tdispOf s.dev o = .locked →
      Completes (.startInterface o) s (fun d => tdispOf d o = .run ∧ (∀ p, p ≠ o → tdispOf d p = tdispOf s.dev p) ∧
        d.out = .tdisp 0x06 [o] :: s.dev.out)) ∧
    Completes (.stopInterface o) s (fun d => tdispOf d o = .unlocked ∧ (∀ p, p ≠ o → tdispOf d p = tdispOf s.dev p) ∧
      d.out = .tdisp 0x07 [o] :: s.dev.out) ∧
    Completes (.getDeviceInterfaceReport o) s (fun d => d = { s.dev with
      out := .tdisp 0x04 ([2048, 2048, 2, o, stageSize s.dev o] ++
        (List.range 128).filter (fun l => laneEnabled s.dev l && laneOwner s.dev l == o)) :: s.dev.out }) ∧
    (∀ c, o < 64 → tdispOf s.dev o = .run →
      Completes (.tdispInterfaceError o c) s (fun d => tdispOf d o = .error ∧ (∀ q ∈ d.lines.queues, q.owner ≠ o)))

/-- The intake engine on the lane that its round has come to: the record whose stamp is the one expected is taken once, an earlier one
is left, a later one stalls the lane; a resync sets the expected stamp and lets the lane go on. A host write into BAR2 by the
owner of the lane puts its bytes there and changes no other byte of the window. -/
def Obligations.IntakeEngineAndWindowComplete : Prop :=
  (∀ (s : State) (l : Nat),
      let x := laneAt s.dev l
      let slot := 512 * l + x.expected.toNat % 512
      let bs := memReadN 0 s.dev.intake.window (l * 65536 + x.expected.toNat % 512 * 128) 128
      let diff := serialDiff (u32 (fld bs 0x7C 31 0)) x.expected
      let t : Taken := { lane := l, seq := x.expected, arrival := now s.dev, bytes := bs, remote := s.dev.intake.remoteSlots.contains slot }
      let here := nextLane s.dev = some l
      (here → laneScanned s.dev l → x.stalled = false → slot ∈ s.dev.intake.written → diff = 0 → heldBack s.dev t = none →
        kindDefined t.kind →
        Completes (.intakeLaneVisit l) s (fun d => d.intake.scan = l + 1 ∧ d.intake.taken = s.dev.intake.taken ++ [t] ∧ slot ∉ d.intake.written ∧
          (laneAt d l).expected = x.expected + 1 ∧ (laneAt d l).stalled = false ∧ d.reqs = s.dev.reqs ∧ d.sas = s.dev.sas)) ∧
      (here → laneScanned s.dev l → x.stalled = false → slot ∈ s.dev.intake.written → 0 < diff →
        Completes (.intakeLaneVisit l) s (fun d => (laneAt d l).stalled ∧ (laneAt d l).expected = x.expected ∧
          d.intake.taken = s.dev.intake.taken ∧ d.intake.written = s.dev.intake.written)) ∧
      (here → x.stalled → Completes (.intakeLaneVisit l) s (fun d => d = { s.dev with intake := { s.dev.intake with scan := l + 1 } })) ∧
      (¬here → Completes (.intakeLaneVisit l) s (fun d => d = s.dev)) ∧
      (∀ (fn : Nat) (v : U64), bits v.toNat 7 1 = l → (fn = 64 ∨ laneOwner s.dev l = fn) → laneEnabled s.dev l →
        Completes (.reqLaneResync fn v) s (fun d => (laneAt d l).expected = u32 (bits v.toNat 63 32) ∧ (laneAt d l).stalled = false ∧
          (∀ k, k ≠ l → laneAt d k = laneAt s.dev k) ∧ d.intake.taken = s.dev.intake.taken ∧ d.reqs = s.dev.reqs))) ∧
  (∀ (s : State) (fn off : Nat) (bs : Bytes) (l : Nat),
      s.dev.host.l0 → fn ∈ s.dev.host.memSpace → l < 128 → laneEnabled s.dev l → laneOwner s.dev l = fn →
      l * 65536 ≤ off → off + bs.length ≤ (l + 1) * 65536 →
      Completes (.intakeWindowWrite fn off bs) s (fun d =>
        (∀ i, i < bs.length → memRead 0 d.intake.window (off + i) = bs.getD i 0) ∧
        (∀ a, a < off ∨ off + bs.length ≤ a → memRead 0 d.intake.window a = memRead 0 s.dev.intake.window a) ∧
        (∀ k, off ≤ 128 * k + 0x7C → 128 * k + 0x7C < off + bs.length → k ∈ d.intake.written) ∧
        d.intake.lanes = s.dev.intake.lanes ∧ d.intake.taken = s.dev.intake.taken ∧ d.reqs = s.dev.reqs ∧ d.sas = s.dev.sas))

/-- LANE_SETUP and RING_SETUP records that pass their checks set up the lane's mirror, define a ring, or take one away. A ring's head
read takes over the consumed count it brings, or breaks the ring; a ring full for long is reported once. -/
def Obligations.LaneRingAndHeadCommandsComplete : Prop :=
  (∀ (s : State) (l : Nat) (q : U32) (t : Taken), findTaken s.dev l q = some t →
      let o := laneOwner s.dev l
      let n := t.f 0x20 11 0
      let conn := t.f 0x38 19 0
      (t.kind = 0x01 → recCheck s.dev t true (t.f 0x20 1 0 == 2 && connForeign s.dev o (t.f 0x30 19 0)) none true true false = none →
        (t.f 0x20 1 0 = 2 → (findConn s.dev (t.f 0x30 19 0)).isSome) →
        Completes (.laneSetup l q) s (fun d => laneAt d l = { laneAt s.dev l with
          mirrorMode := t.f 0x20 1 0
          mirrorEvery := t.f 0x22 8 0
          mirrorAddr := t.f 0x28 63 0
          mirrorConn := t.f 0x30 19 0
          sinceMirror := 0
          mirrorSent := none } ∧ d.reqs = s.dev.reqs ∧ d.sas = s.dev.sas)) ∧
      (t.kind = 0x02 → t.f 0x20 13 12 ≠ 0 →
        recCheck s.dev t true (ringForeign s.dev o n || (t.f 0x20 14 14 == 1 && connForeign s.dev o conn)) none true true false = none →
        findRing s.dev n = none → (t.f 0x20 14 14 = 1 → (findConn s.dev conn).isSome) →
        Completes (.ringSetup l q) s (fun d => (∃ r, findRing d n = some r ∧ r.kind = t.f 0x20 13 12 ∧ r.owner = o ∧
          r.remote = (t.f 0x20 14 14 == 1) ∧ r.log2 = t.f 0x24 4 0 ∧ r.base = t.f 0x28 63 0 ∧ r.headAddr = t.f 0x30 63 0 ∧
          r.conn = conn ∧ (s.dev.flt.log = [] → r.broken = false)) ∧ d.reqs = s.dev.reqs ∧ d.sas = s.dev.sas)) ∧
      (∀ r, t.kind = 0x02 → t.f 0x20 13 12 = 0 → recCheck s.dev t true (ringForeign s.dev o n) none true true false = none →
        findRing s.dev n = some r → ringInUse s.dev r = false →
        Completes (.ringTeardown l q) s (fun d => (∀ x ∈ d.rings, x.num ≠ n) ∧ d.reqs = s.dev.reqs ∧ d.sas = s.dev.sas))) ∧
  (∀ (s : State) (n : Nat) (r : Ring), findRing s.dev n = some r →
      (∀ v, r.reading → (2 ^ 32 + r.produced % 2 ^ 32 - v % 2 ^ 32) % 2 ^ 32 ≤ r.slots →
        Completes (.ringHeadReadDone n (some v)) s (fun d => ∃ x, findRing d n = some x ∧ r.produced ≤ x.produced ∧
          x.consumed = r.produced - (2 ^ 32 + r.produced % 2 ^ 32 - v % 2 ^ 32) % 2 ^ 32)) ∧
      (r.reading → Completes (.ringHeadReadDone n none) s (fun d => ∃ x, findRing d n = some x ∧ x.broken ∧ x.queue = [] ∧
        x.produced = r.produced)) ∧
      (∀ t, r.fullSince = some t → r.stallTold = false → t + ringStallNs s.dev ≤ now s.dev →
        Completes (.ringStallTimeout n) s (fun d => (∃ x, findRing d n = some x ∧ x.stallTold) ∧ d.reqs = s.dev.reqs)))

/-- A CHECK joins its unit's queue; the command at its front ends with its check value. -/
def Obligations.CheckCommandsComplete : Prop :=
  ∀ s : State, s.dev.checks.length = 16 →
    (∀ l q t (cont : Bool), findTaken s.dev l q = some t → t.kind = 0x30 → (t.f 0x20 6 6 = 1 ↔ cont = true) →
      recCheck s.dev t true false none false true false = none →
      (t.f 0x28 48 48 = 1 → inStage s.dev (laneOwner s.dev l) (t.f 0x28 47 0) (t.f 0x24 31 0)) →
      let u := t.f 0x20 3 0
      let c : CheckCmd := {
        ref := t.ref s.dev
        deadline := t.deadline
        poly := t.f 0x20 5 4
        cont := cont
        len := t.f 0x24 31 0
        src := t.f 0x28 47 0
        sas := t.f 0x28 48 48 == 1 }
      ((checkAt s.dev u).queue = [] → (cont → (checkAt s.dev u).chains c) ∧ ∀ x, t.deadline = some x → now s.dev ≤ x) →
      Completes (if cont then .checkContinue l q else .check l q) s (fun d =>
        d.checks = s.dev.checks.set u { checkAt s.dev u with queue := (checkAt s.dev u).queue ++ [c] } ∧ d.reqs = s.dev.reqs)) ∧
    (∀ u c rest, u < 16 → (checkAt s.dev u).queue = c :: rest →
      let k := crcKind c.poly
      let others (d : Dev) : Prop := (∀ v, v ≠ u → checkAt d v = checkAt s.dev v) ∧ d.reqs = s.dev.reqs
      let gives (d : Dev) (bs : Bytes) : Prop := others d ∧ (checkAt d u).ok ∧
        (checkAt d u).value = crcFinal k (crcRun k (if c.cont then (checkAt s.dev u).crc else k.init) bs)
      (∀ bs errs, c.sas = false → fnUp s.dev c.ref.owner → bs.length = c.len →
        Completes (.checkCommandDone u (some bs) errs) s (fun d => gives d bs ∧ d.sas = s.dev.sas)) ∧
      (∀ errs, c.sas = false → Completes (.checkCommandDone u none errs) s (fun d => others d ∧ (checkAt d u).ok = false ∧
        (checkAt d u).value = (checkAt s.dev u).value ∧ d.sas = s.dev.sas)) ∧
      (∀ src errs e, c.sas → s.dev.sec.zeroized = false → readRanges errs [(c.src, c.len)] s.dev = (false, e) →
        Completes (.checkCommandDone u src errs) s (fun d => gives d (workRead e c.src c.len) ∧ d.sas = e.sas)))

/-- The connection commands of WEFT_CMD: a new context, its change, its reset and its end. The region commands of WEFT_CMD: a created
entry is VALID under the generation the index had; revocation makes it REVOKING, and once nothing of it is in flight the index is
FREE under the next generation. -/
def Obligations.ConnectionAndRegionCommandsComplete : Prop :=
  (∀ (s : State) (cn : Nat) (b : Bytes), b.length = 256 → cmdTarget b = cn → s.dev.weft.cmdBusy = false →
      let ok (d : Dev) : Prop := d.weft.cmdStatus = St.ok ∧ d.weft.cmdValue = cn ∧ d.weft.cmdBusy = false
      let new := Conn.setFields s.dev { num := cn } b
      (findConn s.dev cn = none → cn < 1048576 → fieldsRefused s.dev new = none →
        Completes (.connCreate 64 cn (some b)) s (fun d => ok d ∧ d.weft.conns = s.dev.weft.conns ++ [{ new with
          cwnd := img s.dev 0x180008 47 36 * 1024
          srtt := img s.dev 0x180000 25 16 * 1000 }])) ∧
      (∀ c, findConn s.dev cn = some c → c.state = .ready → fieldsRefused s.dev (Conn.setFields s.dev c b) = none → c.txEpoch.length = 8 →
        Completes (.connModify 64 cn (some b)) s (fun d => ok d ∧ ∃ k, findConn d cn = some k ∧
          { k with txEpoch := c.txEpoch } = Conn.setFields s.dev c b ∧ ∀ p, p < 8 → k.txEpoch.getD p 0 = c.txEpoch.getD p 0 +
            (if c.sportBase ≠ k.sportBase ∨ c.port p ≠ k.port p then 1 else 0))) ∧
      (∀ c, findConn s.dev cn = some c → c.state = .ready ∨ c.state = .error →
        Completes (.connReset 64 cn (some b)) s (fun d => ok d ∧ (∀ t ∈ d.weft.trackers, t.conn ≠ cn) ∧
          (quietConn c → ∃ k, findConn d cn = some k ∧ k.state = .ready ∧ k.queue = [] ∧ k.msgs = [] ∧ k.rxDone = [] ∧
            k.sendMsn = u32 (fld b 0x40 31 0) ∧ k.unacked = k.sendMsn ∧ k.rxBase = u32 (fld b 0x50 31 0) ∧
            k.posted = 0 ∧ k.completed = 0 ∧ k.txEpoch = c.txEpoch.map (· + 1)))) ∧
      (∀ c, findConn s.dev cn = some c → c.state = .ready ∨ c.state = .error →
        Completes (.connDestroy 64 (cn, some b)) s (fun d => ok d ∧
          (quietConn c → ∃ k, findConn d cn = some k ∧ k.state = .destroying ∧ k.queue = [] ∧ k.msgs = []))) ∧
      (∀ c, findConn s.dev cn = some c → c.state = .destroying →
        Completes (.connDestroyDrained cn) s (fun d => findConn d cn = none ∧ (∀ t ∈ d.weft.trackers, t.conn ≠ cn) ∧
          (∀ m, m ≠ cn → findConn d m = findConn s.dev m) ∧ d.reqs = s.dev.reqs ∧ d.sas = s.dev.sas))) ∧
  (∀ (s : State) (i : Nat) (b : Bytes), b.length = 256 → cmdTarget b = i → s.dev.weft.cmdBusy = false →
      (let r : Region := {
          gen := (tgetD s.dev.weft.regions i {}).gen
          state := .valid
          rd := fld b 4 2 2 == 1
          wr := fld b 4 3 3 == 1
          intakeTarget := fld b 4 4 4 == 1
          owner := fld b 4 11 5
          base := fld b 8 47 0
          length := fld b 0x10 39 0
          conn := fld b 0x18 19 0 }
       i < 16384 → (tgetD s.dev.weft.regions i {}).state = .free →
        (if r.intakeTarget then lanesOwned s.dev r else inStage s.dev r.owner r.base r.length) →
        Completes (.regionCreate 64 i (some b)) s (fun d => d.weft.cmdStatus = St.ok ∧ d.weft.cmdValue = i + r.gen.toNat * 2 ^ 14 ∧
          tget d.weft.regions i = some r ∧ ∀ j, j ≠ i → tget d.weft.regions j = tget s.dev.weft.regions j)) ∧
      (∀ r, tget s.dev.weft.regions (i % 2 ^ 14) = some r → r.state = .valid → r.gen = BitVec.ofNat 18 (i / 2 ^ 14) →
        Completes (.regionRevoke 64 (i, some b)) s (fun d => d.weft.cmdBusy ∧
          tget d.weft.regions (i % 2 ^ 14) = some { r with state := .revoking } ∧
          ∀ j, j ≠ i % 2 ^ 14 → tget d.weft.regions j = tget s.dev.weft.regions j)) ∧
      (∀ r, tget s.dev.weft.regions i = some r → r.state = .revoking → r.inflight = 0 →
        Completes (.regionRevokeDrained i) s (fun d => d.weft.cmdBusy = false ∧ d.weft.cmdStatus = St.ok ∧
          tget d.weft.regions i = some { gen := r.gen + 1 } ∧ ∀ j, j ≠ i → tget d.weft.regions j = tget s.dev.weft.regions j)))

/-- FLUSH and WAIT_ONLY records join the send queue of a READY connection; its first entry whose wait holds starts its message; an
entry whose wait is not met in time puts the connection into ERROR. -/
def Obligations.SendQueueCommandsComplete : Prop :=
  ∀ s : State,
    (∀ l q t (only : Bool) c, findTaken s.dev l q = some t → t.kind = 0x21 → (t.f 0x20 22 22 = 1 ↔ only = true) →
      findConn s.dev (t.f 0x20 19 0) = some c → c.state = .ready →
      (t.f 0x20 21 20 ≠ 0 → (findConn s.dev (t.f 0x24 19 0)).isSome) →
      recCheck s.dev t true (connForeign s.dev (laneOwner s.dev l) (t.f 0x20 19 0) ||
        (t.f 0x20 21 20 != 0 && connForeign s.dev (laneOwner s.dev l) (t.f 0x24 19 0))) none false true false = none →
      Completes (if only then .waitOnly l q else .flush l q) s (fun d => ∃ e,
        findConn d c.num = some { c with posted := c.posted + 1, queue := c.queue ++ [e] } ∧ e.op = (if only then 0x10 else 0x05) ∧
        e.ordinal = c.posted + 1 ∧ e.deadline = t.deadline ∧ e.waitMode = t.f 0x20 21 20 ∧ e.waitConn = t.f 0x24 19 0 ∧ e.use = .record (t.ref s.dev) ∧
        (e.waitMode ≠ 2 → e.target = u32 (t.f 0x28 31 0)) ∧
        (e.waitMode = 2 → ∀ w, findConn s.dev e.waitConn = some w → e.target = w.posted))) ∧
    (∀ c e rest, findConn s.dev c.num = some c → c.queue = e :: rest → c.state = .ready → waitMet s.dev e →
      (streaming s.dev → e.after ≤ s.dev.pair.acked) → e.op ≠ 0x10 → c.msgs.length < 64 → saUsable s.dev c.saTx →
      (∀ m ∈ c.msgs, m.packets ≤ m.sent) → (e.begun = 0 → entryLate s.dev e = false) →
      Completes (.sendEntryStart c.num) s (fun d => ∃ k m, findConn d c.num = some k ∧ k.sendMsn = c.sendMsn + 1 ∧ m ∈ k.msgs ∧
        m.msn = c.sendMsn ∧ m.op = e.op ∧ m.rkey = e.rkey ∧ m.raddr = e.raddr + e.begun)) ∧
    (∀ c e rest, findConn s.dev c.num = some c → c.queue = e :: rest → c.state = .ready → waitMet s.dev e = false →
      e.headAt.getD (now s.dev) + img s.dev 0x180000 43 34 * 1000000 ≤ now s.dev → quietConn c →
      Completes (.sendWaitTimeout c.num) s (fun d => ∃ k, findConn d c.num = some k ∧ k.state = .error ∧ k.queue = [] ∧ k.msgs = []))

/-- A packet of a request that passes its checks within the window: a WRITE of one packet is placed where its key says and
acknowledged; a SEND is taken; a READ_REQ and a FLUSH are answered; a PROBE of an unfinished message is answered with a SACK. -/
def Obligations.ReceiverCommandsComplete : Prop :=
  ∀ (s : State) (p : Pkt) (c : Conn) (e : Dev), rxCheck s.dev p = (some c, e) → windowOfMsn c p.hdr.msn = .inside →
    (∀ t ∈ e.weft.trackers, t.op ≠ 0x05) → findTracker e c.num p.hdr.msn = none → e.weft.trackers.length < 16384 →
    findConn e c.num = some c →
    let done (d : Dev) : Prop := ∃ k, findConn d c.num = some k ∧ windowOfMsn k p.hdr.msn = .done
    let a (r : Region) := r.base + p.hdr.raddr
    (∀ r e2, p.hdr.op = 0x01 → p.hdr.mlen = p.payload.length → p.hdr.offset = 0 → p.hdr.poison = false → p.hdr.immValid = false →
      keyCheck e c p.hdr.rkey p.hdr.raddr p.payload.length true = .inl r → r.intakeTarget = false →
      workWrite (takeTracker e c p).2 r.owner (a r) p.payload = some e2 →
      Completes (.write p) s (fun d => done d ∧
        (∀ i, i < p.payload.length → (tget d.sas.frames ((a r + i) / 4096)).isSome →
          memRead 0 d.sas.work (a r + i) = p.payload.getD i 0) ∧
        (∀ x, (x < a r ∨ a r + p.payload.length ≤ x) → (tget d.sas.frames (x / 4096)).isSome →
          memRead 0 d.sas.work x = memRead 0 s.dev.sas.work x) ∧ d.reqs = s.dev.reqs ∧ d.intake = s.dev.intake)) ∧
    (p.hdr.op = 0x02 → c.service → p.hdr.immValid = false → 1 ≤ p.hdr.svc → p.hdr.svc ≤ 0x11 →
      Completes (.send p) s (fun d => d.reqs = s.dev.reqs ∧
        if p.hdr.svc ∈ [0x05, 0x0B, 0x0C] then ∃ t ∈ d.weft.trackers, t.conn = c.num ∧ t.msn = p.hdr.msn ∧ t.awaiting
        else done d)) ∧
    (∀ r found, p.hdr.op = 0x03 → p.hdr.mlen ≤ 65536 → keyCheck e c p.hdr.rkey p.hdr.raddr p.hdr.mlen false = .inl r →
      Completes (.readReq (p, found)) s (fun d => done d ∧ d.reqs = s.dev.reqs ∧
        (e.ports.length = 8 → saUsable d c.saTx → ∀ i, 4096 * i < p.hdr.mlen →
          ∃ f ∈ (portAt d (c.port (c.pathOf p.hdr.msn.toNat i))).queue, ∃ fh h pl, f.what = .packet fh h pl ∧ h.op = 0x04 ∧
            h.msn = p.hdr.msn ∧ h.offset = 4096 * i))) ∧
    (p.hdr.op = 0x05 → p.hdr.msn = c.rxBase → (∀ r ∈ e.reqs.live, r.gen = false) →
      Completes (.flushPacket p) s (fun d => done d ∧ d.reqs = s.dev.reqs)) ∧
    (p.hdr.op = 0x0B → saUsable e c.saTx → e.ports.length = 8 →
      Completes (.probe p) s (fun d => ∃ f ∈ (portAt d (c.port (c.pathOf p.hdr.msn.toNat 0))).queue, ∃ fh h pl, f.what = .packet fh h pl ∧
        h.op = 0x09 ∧ h.msn = p.hdr.msn))

/-- A response that passes its checks, at the sender: an ACK ends its message; a SACK has the missing packets sent again with RETX; a
NAK of ST_REQ_ENDED ends the message alone, another puts the connection into ERROR; the last READ_RESP ends its read. A timer that
expires is counted and set again, and at RETRY_MAX the connection is in ERROR. -/
def Obligations.SenderCommandsComplete : Prop :=
  ∀ (s : State) (p : Pkt) (c : Conn) (e : Dev) (m : Msg), c.state = .ready → quietConn c → c.msg? p.hdr.msn = some m →
    findConn e c.num = some c →
    let gone (d : Dev) : Prop := ∃ k, findConn d c.num = some k ∧ k.msg? p.hdr.msn = none ∧ k.state = .ready
    (rxCheck s.dev p = (some c, e) →
      (p.hdr.op = 0x08 → m.op ≠ 0x03 → Completes (.ack p) s (fun d => gone d ∧ d.reqs = s.dev.reqs)) ∧
      (∀ a, p.hdr.op = 0x09 → findAssoc e c.saTx = some a → a.pn + m.sent + 2 < 2 ^ 48 → e.ports.length = 8 →
        m.withdrawn = false → (streaming s.dev → pairSa s.dev ≠ c.saTx) →
        Completes (.sack p) s (fun d => ∀ i, i < m.sent → bitOf (unLe (p.payload.drop 16)) i = false →
          ∃ f ∈ (portAt d (c.port (c.pathOf m.msn.toNat i))).queue, ∃ fh h pl, f.what = .packet fh h pl ∧ h.retx ∧ h.msn = m.msn ∧
            h.offset = 4096 * i)) ∧
      (p.hdr.op = 0x0A → unBe (sub p.payload 8 2) = St.reqEnded →
        Completes (.nak p) s (fun d => gone d ∧ d.reqs = s.dev.reqs)) ∧
      (p.hdr.op = 0x0A → unBe (sub p.payload 8 2) ≠ St.reqEnded →
        Completes (.nak p) s (fun d => ∃ k, findConn d c.num = some k ∧ k.state = .error ∧ k.queue = [] ∧ k.msgs = [])) ∧
      (p.hdr.op = 0x04 → m.op = 0x03 → m.mlen ≤ (placeReply m p.hdr.offset p.payload).got.length * 4096 →
        Completes (.readResp p) s (fun d => gone d ∧ d.reqs = s.dev.reqs))) ∧
    (∀ t, findConn s.dev c.num = some c → m.timerAt = some t → t ≤ now s.dev →
      (m.timeouts + 1 < img s.dev 0x180000 29 26 →
        Completes (.retransmissionTimeout c.num p.hdr.msn) s (fun d => ∃ k x, findConn d c.num = some k ∧ k.msg? p.hdr.msn = some x ∧
          x.timeouts = m.timeouts + 1 ∧ x.timerAt = some (now s.dev + rtoNs s.dev c))) ∧
      (img s.dev 0x180000 29 26 ≤ m.timeouts + 1 →
        Completes (.retransmissionTimeout c.num p.hdr.msn) s (fun d => ∃ k, findConn d c.num = some k ∧ k.state = .error ∧
          k.msgs = [])))

/-- Line requests at the target: a read answers with the line, a write stores its 64 bytes and no other byte, and answers. -/
def Obligations.LineTargetCommandsComplete : Prop :=
  ∀ (s : State) (p : LinePkt) (c : Conn) (e : Dev), lineCheck s.dev p = (some c, e) → c.state ≠ .error → e.ports.length = 8 →
    let answered (d : Dev) (op : Nat) (bs : Bytes) : Prop := saUsable d c.saTx →
      ∃ f ∈ d.ports.flatMap (·.queue), ∃ fh h, f.what = .line fh h bs ∧ h.op = op ∧ h.tag = p.hdr.tag ∧ h.status = St.ok
    (∀ a o, p.hdr.op = 0x01 → lineTarget e c p.hdr false = .work a o → s.dev.sec.zeroized = false → linePoisoned e a = false →
      a % 64 = 0 →
      Completes (.lineRd p [] false) s (fun d => answered d 0x81 (workRead s.dev a 64) ∧ d.reqs = s.dev.reqs ∧
        d.intake = s.dev.intake)) ∧
    (∀ off errs, p.hdr.op = 0x01 → lineTarget e c p.hdr false = .intake off →
      Completes (.lineRd p errs false) s (fun d => answered d 0x81 (windowRead s.dev off 64) ∧
        d.reqs = s.dev.reqs ∧ d.intake = s.dev.intake)) ∧
    (∀ a o e2, p.hdr.op = 0x02 → s.dev.flt.custody = .normal → lineTarget e c p.hdr true = .work a o → landingLine e a = none →
      workWrite e o a p.payload = some e2 →
      Completes (.lineWr p false) s (fun d => answered d 0x82 [] ∧ d.reqs = s.dev.reqs ∧ d.intake = s.dev.intake ∧
        (∀ i, i < 64 → (tget d.sas.frames ((a + i) / 4096)).isSome → memRead 0 d.sas.work (a + i) = p.payload.getD i 0) ∧
        (∀ x, (x < a ∨ a + 64 ≤ x) → (tget d.sas.frames (x / 4096)).isSome → memRead 0 d.sas.work x = memRead 0 s.dev.sas.work x))) ∧
    (∀ a o e2 r l k line, p.hdr.op = 0x02 → s.dev.flt.custody = .normal → lineTarget e c p.hdr true = .work a o →
      landingLine e a = some (r, l, k, line) → r.pageComplete (Req.landPage e r l k) = false → workWrite e o a p.payload = some e2 →
      Completes (.lineWr p false) s (fun d => answered d 0x82 [] ∧ d.intake = s.dev.intake ∧
        entryAt d r.slot (fun x => x.state = r.state ∧ line ∈ (Req.landPage d x l k).lines) ∧
        ∀ i, i < 64 → (tget d.sas.frames ((a + i) / 4096)).isSome → memRead 0 d.sas.work (a + i) = p.payload.getD i 0)) ∧
    (∀ off, p.hdr.op = 0x02 → s.dev.flt.custody = .normal → lineTarget e c p.hdr true = .intake off →
      (∀ i, i < 64 → laneEnabled s.dev ((off + i) / 65536)) →
      Completes (.lineWr p false) s (fun d => answered d 0x82 [] ∧ d.reqs = s.dev.reqs ∧
        (∀ i, i < 64 → memRead 0 d.intake.window (off + i) = p.payload.getD i 0) ∧
        (∀ x, (x < off ∨ off + 64 ≤ x) → memRead 0 d.intake.window x = memRead 0 s.dev.intake.window x)))

/-- MSA_LQ_SETUP opens an owner's line queue, or closes it: an idle queue is gone at once, one with reads or writes out once they have
ended. While a queue closes a write has no effect. At the issuer: a poll reads the slot it expects and stops at a stamp ahead; a
read or write descriptor whose connection is READY is issued; a read without an answer is sent again. Issues end: RD_DATA brings
the line and WR_DONE and LINE_NAK their status to the descriptor's result address, and after DEAD_US the issue ends without an
answer. The issue's slot is free from then on. -/
def Obligations.LineIssuerCommandsComplete : Prop :=
  (∀ (s : State) (fn : Nat) (v : U64), bits v.toNat 7 1 ≤ 64 → (fn = 64 ∨ fn = bits v.toNat 7 1) →
      let o := bits v.toNat 7 1
      let busy : Bool := s.dev.lines.queues.any (·.closing)
      let other (d : Dev) : Prop := (∀ x, x ≠ o → findLq d x = findLq s.dev x) ∧ d.reqs = s.dev.reqs ∧ d.intake = s.dev.intake
      (busy → Completes (.lineQueueSetup fn v) s (fun d => d = s.dev) ∧ Completes (.lineQueueTeardown fn v) s (fun d => d = s.dev)) ∧
      (busy = false → 6 ≤ bits v.toNat 11 8 → bits v.toNat 11 8 ≤ 12 →
        Completes (.lineQueueSetup fn v) s (fun d => other d ∧ findLq d o = some {
          owner := o
          log2 := bits v.toNat 11 8
          base := bits v.toNat 63 12 * 4096
          waiting := match findLq s.dev o with | some x => x.waiting | none => [] })) ∧
      (∀ q, busy = false → bits v.toNat 11 8 = 0 → findLq s.dev o = some q → q.waiting = [] →
        Completes (.lineQueueTeardown fn v) s (fun d => other d ∧
          ((∀ i ∈ s.dev.lines.issues, i.desc.owner ≠ o) → findLq d o = none) ∧
          ((∃ i ∈ s.dev.lines.issues, i.desc.owner = o) → findLq d o = some { q with closing := true })))) ∧
  (∀ (s : State) (o : Nat) (q : LineQueue), lqRuns s.dev o = some q →
      (∀ bs : Bytes, bs.length = 128 → fnUp s.dev o →
        let diff := serialDiff (u32 (fld bs 0x7C 31 0)) q.expected
        (0 < diff → Completes (.lineQueuePoll o (some bs)) s (fun d => findLq d o = some { q with stalled := true } ∧
          d.lines.issues = s.dev.lines.issues)) ∧
        (diff < 0 → Completes (.lineQueuePoll o (some bs)) s (fun d => findLq d o = some q ∧
          .hostRead q.owner (q.base + q.expected.toNat % 2 ^ q.log2 * 128) (min (max 1 (min s.dev.host.readRequest 512)) 128)
            (tBit s.dev q.owner) ∈ d.out)) ∧
        (∀ (write : Bool) c k, diff = 0 → fld bs 0 7 0 = (if write then 2 else 1) → descOk bs → findConn s.dev (fld bs 4 19 0) = some c →
          c.state = .ready → c.owner = q.owner → q.waiting = [] → fld bs 1 0 0 = 0 → freeIssue s.dev (lineAgent q.owner) = some k →
          Completes (if write then .lineWrite o (some bs) else .lineRead o (some bs)) s (fun d =>
            (∃ i ∈ d.lines.issues, i.desc = descOf q.owner bs ∧ i.slot = k ∧ i.agent = lineAgent q.owner ∧ i.issuedAt = now s.dev) ∧
            findLq d o = some { q with expected := q.expected + 1 } ∧ d.reqs = s.dev.reqs))) ∧
      (∀ t i c, findIssue s.dev t = some i → i.desc.write = false → i.resends < 3 →
        4 * i.issuedAt + (i.resends + 1) * deadNs s.dev ≤ 4 * now s.dev → findConn s.dev i.desc.conn = some c → c.state = .ready →
        Completes (.lineReadResend t) s (fun d => findIssue d t = some { i with resends := i.resends + 1 } ∧ d.reqs = s.dev.reqs))) ∧
  (∀ (s : State) (i : LineIssue), (∀ q, findLq s.dev i.desc.owner = some q → q.waiting = []) → i.desc.result % 64 = 0 →
      fnUp s.dev i.desc.owner → streaming s.dev = false →
      let ended (d : Dev) (st : Nat) (bad : Bool) : Prop :=
        d.lines.issues = dropFirst (fun x => x.tag == i.tag) s.dev.lines.issues ∧
        .hostWrite i.desc.owner (i.desc.result + 64) (le (st + 2 ^ 16 * bit1 bad + 2 ^ 32 * i.desc.seq.toNat) 8) false false
          (tBit s.dev i.desc.owner) ∈ d.out
      (∀ (p : LinePkt) c e, lineCheck s.dev p = (some c, e) → findIssue s.dev p.hdr.tag = some i → i.desc.conn = c.num →
        (p.hdr.op = 0x81 → i.desc.write = false → p.hdr.status = St.ok → p.hdr.poison = false →
          Completes (.rdData p) s (fun d => ended d St.ok false ∧
            .hostWrite i.desc.owner i.desc.result p.payload false false (tBit s.dev i.desc.owner) ∈ d.out)) ∧
        (p.hdr.op = 0x82 → i.desc.write → Completes (.wrDone p) s (fun d => ended d p.hdr.status false)) ∧
        (p.hdr.op = 0x83 → i.desc.write → Completes (.lineNak p) s (fun d => ended d p.hdr.status false)) ∧
        (p.hdr.op = 0x83 → i.desc.write = false → p.hdr.status ≠ St.ok → Completes (.lineNak p) s (fun d => ended d p.hdr.status true))) ∧
      (∀ t, findIssue s.dev t = some i → i.issuedAt + deadNs s.dev ≤ now s.dev →
        Completes (.lineDeadTimeout t) s (fun d => ended d St.msaTimeout (!i.desc.write) ∧ d.reqs = s.dev.reqs)))

/-- An OPEN that passes its checks takes its entry: OPENING, under the next incarnation of its slot, and asks the home to open a
skein. A request in OPENING: its home's identifier, each block's hash, the answer to its lookup (which brings PREFILL), or no
reply in time. -/
def Obligations.OpenAndOpeningComplete : Prop :=
  (∀ (s : State) (l : Nat) (q : U32) (slot : Nat) (t : Taken), findTaken s.dev l q = some t → t.kind = 0x10 →
      recCheck s.dev t (hasPrompt s.dev) (ringForeign s.dev (laneOwner s.dev l) (t.f 0x52 11 0)) none false true true = none →
      openRefusal s.dev t = none → reqSlotExists s.dev → slot < 16384 → slotFree s.dev slot → slot ∉ s.dev.reqs.retired →
      reaches s.dev (t.f 0x30 23 0) →
      let inc := tgetD s.dev.reqs.inc slot 0 + 1
      Completes (.openReq l q slot) s (fun d => openEntry s.dev t slot inc ∈ d.reqs.live ∧
        (openEntry s.dev t slot inc).state = .opening ∧ (openEntry s.dev t slot inc).core.requestId = mkReqId (fleet s.dev) slot inc ∧
        tget d.reqs.inc slot = some inc ∧ goes d (openEntry s.dev t slot inc).openMsg ∧ (∀ x ∈ s.dev.reqs.live, x ∈ d.reqs.live) ∧
        d.sas = s.dev.sas)) ∧
  (∀ (s : State) (i : U64) (r : Req), findPrompt s.dev i = some r → r.state = .opening →
      (∀ frm k, r.core.skeinId = 0 → (r.chain.length ≠ r.tokenCount / 64 ∨ reaches s.dev r.core.home) →
        Completes (.skeinOpenReply frm i St.ok k) s (fun d => entryAt d r.slot (fun x => x.state = .opening ∧ x.core.skeinId = k ∧
          x.chain = r.chain) ∧ d.sas = s.dev.sas)) ∧
      (r.core.skeinId = 0 → r.core.opened + skeinOpenNs s.dev ≤ now s.dev →
        Completes (.skeinOpenTimeout i) s (fun d => entryFreed d r.slot)) ∧
      (∀ (bs : Bytes) (data : HostData) (found : List LineErr) (e : Dev), i ∈ hashEngines s.dev → reaches s.dev r.core.home →
        let a := r.tokenBuf + 256 * r.chain.length
        (if r.tokenSas then readRanges found [(a, 256)] s.dev = (false, e) ∧ bs = workRead e a 256
          else e = s.dev ∧ fnUp s.dev r.core.owner ∧ data = some bs ∧ bs.length = 256) →
        Completes (.hashBlockDone i (data, found)) s (fun d => entryAt d r.slot (fun x => x.state = .opening ∧
          x.chain = r.chain ++ [blockHash (r.chain.getLast?.getD 0) r.model bs]) ∧ d.sas = e.sas)) ∧
      (∀ pages span, r.lookupSent → (pages = 0 ∨ (sasRefusing s.dev = false ∧ spansExist s.dev (viewSpans r.shape pages) ∧
          spansFree s.dev span (viewSpans r.shape pages))) →
        Completes (.lookupReply r.core.home i St.ok pages span) s (fun d => entryAt d r.slot (fun x => x.state = .prefill ∧
          x.prefixPages = pages ∧ (pages ≠ 0 → x.viewBase = some span)) ∧
          (pages ≠ 0 → (span, viewSpans r.shape pages) ∈ d.sas.spans))))

/-- A request in PREFILL: the landing page that has been complete the longest is taken and placed at the home; PREFILL_DONE, all pages
taken, hands the request over. -/
def Obligations.PrefillCommandsComplete : Prop :=
  ∀ (s : State) (i : U64) (r : Req), findPrompt s.dev i = some r → r.state = .prefill → reaches s.dev r.core.home →
    (∀ l p found, r.ready.head? = some (l, p) →
      (readRanges found [(Req.landAddr s.dev r l p, pageBytes r.shape)] s.dev).1 = false →
      Completes (.landingPageTaken i l (p, found)) s (fun d => entryAt d r.slot (fun x => x.state = .prefill ∧
        tgetD x.takenPages l 0 = tgetD r.takenPages l 0 + 1) ∧
        ∃ part : PagePart, part.layer = l ∧ part.page = p ∧ part.tokens = r.pageTokens p ∧ goes d (.place i r.core.skeinId false [part]))) ∧
    (∀ l q t tail found, findTaken s.dev l q = some t → t.kind = 0x11 → t.request = i →
      recCheck s.dev t (hasPrompt s.dev) (r.core.owner != laneOwner s.dev l) none false true false = none →
      r.tokenCount % 64 = 0 → r.ready = [] → reaches s.dev r.core.genDevice →
      Completes (.prefillDone l q (tail, found)) s (fun d => entryAt d r.slot (fun x => x.state = .handing ∧ x.flushOut ∧ x.viewBase = none ∧
        x.firstToken = u32 (t.f 0x20 31 0) ∧ x.tail = [] ∧ ∃ h, goes d (.handoff h) ∧ h.core.requestId = r.core.requestId)))

/-- HANDING and SHIPPING at the prompt device: the reply ships the window; without one the request ends; its shipments' flushes and
the home's answer to SEAL settle it. An ENDING request is freed by the home's acknowledgement, and without one after the timeout. -/
def Obligations.HandingAndEndingComplete : Prop :=
  (∀ (s : State) (i : U64) (r : Req), findPrompt s.dev i = some r →
      (∀ frm, r.state = .handing → isOurs s.dev frm = false → reaches s.dev r.core.genDevice →
        Completes (.handoffReply frm i St.ok) s (fun d => entryAt d r.slot (fun x => x.state = .shipping ∧ x.kept = []) ∧
          goes d (.window i (r.kept.filter (fun p => r.firstWindow ≤ p.page)) true) ∧
          d.sas.skeins = s.dev.sas.skeins ∧ d.sas.work = s.dev.sas.work)) ∧
      (r.state = .handing → r.since + handoffNs s.dev ≤ now s.dev →
        Completes (.handoffTimeout i) s (fun d => entryAt d r.slot (fun x => x.state = .ending))) ∧
      (r.state = .shipping → flushPosted s.dev (.shipFlush i true) = false → r.windowDone = false → r.sealAcked = false →
        r.shipFailed = false → findGen s.dev i = none →
        Completes (.shipmentFlushDone i true true) s (fun d => entryAt d r.slot (fun x => x.state = .shipping ∧ x.windowDone))) ∧
      (r.state = .handing ∨ r.state = .shipping → flushPosted s.dev (.shipFlush i false) = false → r.flushOut →
        reaches s.dev r.core.home →
        Completes (.shipmentFlushDone i false true) s (fun d => entryAt d r.slot (fun x => x.flushOut = false ∧ x.sealSent) ∧
          goes d (.seal i r.core.skeinId))) ∧
      (r.state = .handing → r.sealSent → r.sealAcked = false →
        Completes (.stateReply r.core.home i 0x06 St.ok) s (fun d => entryAt d r.slot (fun x => x.sealAcked ∧ x.state = .handing))) ∧
      (r.state = .shipping → r.sealSent → r.sealAcked = false → r.windowDone →
        Completes (.stateReply r.core.home i 0x06 St.ok) s (fun d => (∀ x ∈ d.reqs.live, x.slot ≠ r.slot) ∧
          tget d.reqs.note r.slot = some (r.core.genDevice, r.core.owner)))) ∧
  (∀ (s : State) (i : U64) (r : Req),
      (∀ k st, k ≠ 0x06 →
        s.dev.reqs.live.find? (fun x => x.state == .ending && x.core.requestId == i && x.core.home == r.core.home) = some r →
        Completes (.stateReply r.core.home i k st) s (fun d => entryFreed d r.slot)) ∧
      (s.dev.reqs.live.find? (fun x => x.state == .ending && x.core.requestId == i && !x.releaseDue && !x.cancelled) = some r →
        r.since + skeinOpenNs s.dev ≤ now s.dev → r.acked = false →
        Completes (.endingTimeout i) s (fun d => entryFreed d r.slot)))

/-- CANCEL ends a request in OPENING, PREFILL or WAITING, and one in DECODING that no STEP waits for; it is remembered in HANDING, and
forwarded to the generation device from SHIPPING and by a freed entry's note. Where the spec leaves a point open, it is the
model's choice: log entry 44. -/
def Obligations.CancelCompletes : Prop :=
  ∀ (s : State) (l : Nat) (q : U32) (t : Taken), findTaken s.dev l q = some t → t.kind = 0x12 →
    recCheck s.dev t (hasPrompt s.dev || hasGeneration s.dev) (reqForeign s.dev t (lookupReq s.dev t.request)) none false true false = none →
    earlierTaken s.dev t [0x13] = false →
    (∀ r, lookupReq s.dev t.request = .prompt r → r.state = .opening ∨ r.state = .prefill →
      Completes (.cancel l q) s (fun d => entryAt d r.slot (fun x => x.state = .ending))) ∧
    (∀ r, lookupReq s.dev t.request = .prompt r → r.state = .handing →
      Completes (.cancel l q) s (fun d => entryAt d r.slot (fun x => x.state = .handing ∧ x.cancelPending) ∧ d.sas = s.dev.sas)) ∧
    (∀ g, (∃ r, lookupReq s.dev t.request = .prompt r ∧ r.state = .shipping ∧ g = r.core.genDevice) ∨
        (∃ o, lookupReq s.dev t.request = .note g o) → reaches s.dev g → ¬(s.dev.pair.state = .lost ∧ g = partnerFleet s.dev) →
      Completes (.cancel l q) s (fun d => goes d (.cancel t.request) ∧ d.reqs = s.dev.reqs ∧ d.sas = s.dev.sas)) ∧
    (∀ r, lookupReq s.dev t.request = .gen r →
      r.state = .waiting ∨ (r.state = .decoding ∧ r.await = [] ∧ ∀ x ∈ s.dev.intake.taken, x.kind = 0x13 → x.request ≠ r.core.requestId) →
      Completes (.cancel l q) s (fun d => entryAt d r.slot (fun x => x.state = .ending))) ∧
    (∀ r i, findGen s.dev i = some r → r.state = .waiting → Completes (.svcCancel (reqOrigin i) i) s (fun d =>
      entryAt d r.slot (fun x => x.state = .ending)))

/-- A HANDOFF that passes the checks of R796 makes an ACCEPTING entry with its window's spans, and is answered ST_OK. A WINDOW puts
its pages into the request's window, and SEALED brings SPLIT_PAGE; both are remembered until DECODING. Where the spec leaves a
point open, it is the model's choice: log entry 42. -/
def Obligations.HandoffAndWindowComplete : Prop :=
  (∀ (s : State) (frm : Nat) (m : HandoffMsg) (slot span : Nat), handoffRefusal s.dev m = none → slot < 16384 → slotFree s.dev slot →
      spansFree s.dev span (windowSpans m.shape m.core.windowPages) → reaches s.dev frm →
      Completes (.handoff frm m slot span) s (fun d => handoffEntry s.dev m slot span ∈ d.reqs.live ∧
        (handoffEntry s.dev m slot span).state = .accepting ∧ (handoffEntry s.dev m slot span).gen ∧
        d.sas.spans = (span, windowSpans m.shape m.core.windowPages) :: s.dev.sas.spans ∧ goes d (.handoffReply m.core.requestId St.ok))) ∧
  (∀ (s : State) (i : U64) (r : Req), findGen s.dev i = some r → r.state = .accepting ∨ r.state = .waiting →
      (∀ frm ps last e, sasRefusing s.dev = false → (∀ t ∈ s.dev.weft.trackers, t.op ≠ 0x05) →
        (let x := shipped s.dev frm 0x0C i ps
         windowPages r (unpackParts (shapeBpp r.shape) x.1) x.2 = some e) →
        Completes (.window frm i ps last) s (fun d => d.sas.work = e.sas.work ∧ d.sas.spans = s.dev.sas.spans ∧
          (last → entryAt d r.slot (fun x => x.lastFrom = r.lastFrom ++ [frm])))) ∧
      (∀ split, r.sealedSeen = false →
        Completes (.sealed r.core.home i r.core.skeinId split) s (fun d => entryAt d r.slot (fun x => x.sealedSeen ∧ x.split = split ∧
          x.lastFrom = r.lastFrom) ∧ d.sas.skeins = s.dev.sas.skeins ∧ d.sas.work = s.dev.sas.work)) ∧
      (∀ frm k c, c = 0x141 ∨ c = 0x142 → Completes (.reqAbort frm i k c) s (fun d => entryAt d r.slot (fun x =>
        if r.state = .waiting then x.state = .ending else x.abortCause = some (r.abortCause.getD c)))))

/-- A STEP of a DECODING request joins those that await commit, in stamp order; a commit counts one token under the step's stamp; the
end of an appended page's flush moves the window on. -/
def Obligations.StepCommandsComplete : Prop :=
  ∀ (s : State) (r : Req), findGen s.dev r.core.requestId = some r →
    (∀ l q t, findTaken s.dev l q = some t → t.kind = 0x13 → t.request = r.core.requestId → r.state = .decoding → r.cancelPending = false →
      recCheck s.dev t (hasGeneration s.dev) (reqForeign s.dev t (.gen r)) none false true true = none →
      earlierTaken s.dev t [0x12, 0x13] = false →
      t.step = (match r.await.getLast? with | some x => x.stamp | none => r.core.lastStep) + 1 →
      Completes (.step l q) s (fun d => entryAt d r.slot (fun x => x.state = .decoding ∧ x.await = r.await ++ [{
        ref := t.ref s.dev
        deadline := t.deadline
        stamp := t.step
        token := u32 (t.f 0x20 31 0) }] ∧ x.core = r.core) ∧ d.sas = s.dev.sas)) ∧
    (∀ a rest, r.state = .decoding → r.await = a :: rest →
      Completes (.stepCommit r.core.requestId) s (fun d => entryAt d r.slot (fun x => x.core.generated = r.core.generated + 1 ∧
        x.core.lastStep = a.stamp ∧ (x.state = .decoding ∨ x.state = .ending)))) ∧
    (∀ p, flushPosted s.dev (.appendFlush r.core.requestId) = false → r.appendOut = some p → r.appendFailed = false →
      (r.state = .ending → r.releaseDue) →
      Completes (.appendFlushDone r.core.requestId true) s (fun d => entryAt d r.slot (fun x => x.appendNext = p + 1 ∧
        x.windowFirst = r.windowFirst + 1))) ∧
    (∀ p, flushPosted s.dev (.appendFlush r.core.requestId) = false → r.appendOut = some p →
      (r.state = .ending → r.releaseDue) →
      Completes (.appendFlushDone r.core.requestId false) s (fun d => entryAt d r.slot (fun x => x.appendNext = r.appendNext ∧
        x.windowFirst = r.windowFirst ∧ x.appendFailed)))

/-- A QUERY of a DECODING request leaves for the home under the next handle; its partial, or the home's refusal, settles it. STOP_SET
defines a set from a buffer of this SAS, asks for one of host memory, and deletes one; the other sets stay. -/
def Obligations.QueriesAndStopSetsComplete : Prop :=
  (∀ (s : State) (r : Req),
      (∀ l q t data found e, findGen s.dev r.core.requestId = some r → r.state = .decoding → findTaken s.dev l q = some t → t.kind = 0x14 →
        t.request = r.core.requestId → t.f 0x20 7 0 < r.shape.layers →
        (t.f 0x30 19 0 = 0xFFFFF ∨ ((findConn s.dev (t.f 0x30 19 0)).isSome ∧
          connForeign s.dev (laneOwner s.dev l) (t.f 0x30 19 0) = false)) → reaches s.dev r.core.home →
        (let n := 2 * r.shape.qHeads * r.shape.headDim
         if t.f 0x28 48 48 = 0 then inStage s.dev (laneOwner s.dev l) (t.f 0x28 47 0) n ∧
            readRanges found [(t.f 0x28 47 0, n)] s.dev = (false, e)
          else e = s.dev ∧ fnUp s.dev (laneOwner s.dev l) ∧ ∃ bs : Bytes, data = some bs ∧ bs.length = n) →
        recCheck s.dev t (hasGeneration s.dev) (reqForeign s.dev t (.gen r)) none false false true = none →
        Completes (.query l q (data, found)) s (fun d => d.reqs.nextHandle = s.dev.reqs.nextHandle + 1 ∧
          entryAt d r.slot (fun x => ∃ o : QueryOut, x.queries = r.queries ++ [o] ∧ o.handle = u64 s.dev.reqs.nextHandle ∧
            o.step = t.step.toNat ∧ o.layer = t.f 0x20 7 0 ∧ o.ref = t.ref s.dev ∧ o.relayed = false) ∧ d.sas = e.sas)) ∧
      (∀ frm h q a, findHandle s.dev h = some (r, q) → r.state ≠ .ending → q.relayed = false →
        (∀ x ∈ r.queries, x.step = q.step → x.layer = q.layer → x.relayed = false) →
        ((∃ bs, a = .partial_ bs ∧ bs.length = partLen r.shape) ∨ ∃ st b, a = .refused st b) →
        Completes (.partialReceived frm h a) s (fun d => entryAt d r.slot (fun x => ∃ o ∈ x.queries, o.handle = h ∧ o.relayed)))) ∧
  (∀ (s : State) (l : Nat) (q : U32) (t : Taken), findTaken s.dev l q = some t → t.kind = 0x15 →
      recCheck s.dev t (hasGeneration s.dev) (stopSetForeign s.dev t) none false true false = none →
      let n := t.f 0x20 9 0
      let others (d e : Dev) : Prop := (∀ k, k ≠ n → tget d.reqs.stopSets k = tget s.dev.reqs.stopSets k) ∧
        d.reqs.live = s.dev.reqs.live ∧ d.sas = e.sas
      (∀ found, t.f 0x22 0 0 = 0 → t.f 0x28 48 48 = 0 → fnUp s.dev (laneOwner s.dev l) →
        (∀ x ∈ s.dev.host.reads, x.use ≠ .stopSet l q) →
        Completes (.stopSetDefine l (q, found)) s (fun d => others d s.dev ∧ d.reqs = s.dev.reqs ∧ ∃ x ∈ d.host.reads, x.use = .stopSet l q ∧
          x.addr = t.f 0x28 47 0 ∧ x.len = 640 ∧ x.owner = laneOwner s.dev l)) ∧
      (∀ found e, t.f 0x22 0 0 = 0 → t.f 0x28 48 48 = 1 → inStage s.dev (laneOwner s.dev l) (t.f 0x28 47 0) 640 →
        readRanges found [(t.f 0x28 47 0, 640)] s.dev = (false, e) → stopBufOk (workRead e (t.f 0x28 47 0) 640) →
        Completes (.stopSetDefine l (q, found)) s (fun d => others d e ∧ tget d.reqs.stopSets n = some {
          owner := laneOwner s.dev l
          buf := workRead e (t.f 0x28 47 0) 640 })) ∧
      (t.f 0x22 0 0 = 1 → (tget s.dev.reqs.stopSets n).isSome →
        Completes (.stopSetDelete l q) s (fun d => others d s.dev ∧ tget d.reqs.stopSets n = none)))

/-- TRANSFER records of class B that pass their checks are accepted, in their turn, as operations in service; HEADER writes the skein
header at once. -/
def Obligations.TransferCommandsComplete : Prop :=
  ∀ (s : State) (l : Nat) (q : U32) (t : Taken), findTaken s.dev l q = some t → t.kind = 0x20 →
    let r := t.bytes
    let o := laneOwner s.dev l
    let k := findSkein s.dev (xSkein r)
    let port := xPort s.dev (xConn r)
    let inService (d : Dev) (data : HostData) (src : Option Skein) : Prop := d.adm.nextOp = s.dev.adm.nextOp + 1 ∧
      ∃ p ∈ d.adm.ops, p.id = s.dev.adm.nextOp ∧ p.ref = t.ref s.dev ∧ p.cls = .b ∧ p.cur = 0 ∧ p.what = .transfer r data src
    (∀ data, t.xop = 0 → t.classG = false → takenTurn s.dev t → recCheck s.dev t true (xForeign s.dev t none) none false (xSrcHost r) false = none →
      (xSrcHost r = false → inStage s.dev o (xSrc r) (xLen r)) → dstCheck s.dev o r (xLen r) = none →
      (xDst r = 0 → sasRefusing s.dev = false) → (xSrcHost r → isReady s.dev rbPcie) →
      (∀ b ∈ xferReady s.dev false (xDst r) port (if xSrcHost r then [] else framesOf (xSrc r) (xLen r)), isReady s.dev b) →
      Completes (.copyRange l q data) s (fun d => inService d data none ∧ d.reqs = s.dev.reqs ∧ d.sas = s.dev.sas)) ∧
    (∀ x, k = some x → t.xop = 1 → t.classG = false → takenTurn s.dev t → x.state ≠ .aborted →
      let low := lowFrames s.dev (copyFrames s.dev x r)
      let n := if xExpand r = 1 then (xAllRefs x r).length * pageBytes x.shape else
        let c := (copyPagesOut s.dev x r).1
        c.bytes.length + (if c.err.isSome then 4096 else 0)
      recCheck s.dev t (hasCache s.dev) (xForeign s.dev t k) none false false false = none → dstSkein s.dev x r = none → xRange x r →
      dstCheck s.dev o r n = none → ((xDst r = 0 ∨ xDst r = 3) → sasRefusing s.dev = false) →
      (∀ f ∈ low, frameDead s.dev f = none) →
      (∀ b ∈ xferReady s.dev (!low.isEmpty) (xDst r) port (copyFrames s.dev x r), isReady s.dev b) →
      Completes (.copyPages l q) s (fun d => inService d none (some (xView x r)) ∧ d.reqs = s.dev.reqs)) ∧
    (∀ x, k = some x → t.xop = 2 → t.classG = false → takenTurn s.dev t → x.state ≠ .aborted →
      let low := lowFrames s.dev (promoteFrames s.dev x r)
      recCheck s.dev t (hasCache s.dev) (xForeign s.dev t k) none false false false = none → xRange x r →
      (∀ f ∈ low, frameDead s.dev f = none) →
      (∀ b ∈ xferReady s.dev (!low.isEmpty) 3 0 (promoteFrames s.dev x r), isReady s.dev b) →
      Completes (.promote l q) s (fun d => inService d none (some (xView x r)) ∧ d.reqs = s.dev.reqs)) ∧
    (∀ x, k = some x → t.xop = 3 → x.state ≠ .aborted → xRange x r → t.late s.dev = false →
      recCheck s.dev t (hasCache s.dev) (xForeign s.dev t k) none false true false = none → dstCheck s.dev o r 256 = none →
      (∀ b ∈ xferReady s.dev false (xDst r) port [], isReady s.dev b) →
      (xDst r = 1 → Completes (.header l q) s (fun d => d.reqs = s.dev.reqs ∧ d.sas.work = s.dev.sas.work)) ∧
      (xDst r = 2 → Completes (.header l q) s (fun d => d.reqs = s.dev.reqs ∧ ∃ c e, findConn d (xConn r) = some c ∧ e ∈ c.queue ∧
        e.op = 0x01 ∧ e.data = .bytes x.header ∧ e.raddr = xAddr r ∧ e.use = .header (t.ref s.dev))) ∧
      (xDst r = 0 → sasRefusing s.dev = false → (∀ f ∈ framesOf (xAddr r) 256, (tget s.dev.sas.frames f).any (fun e => e.stack.isSome)) →
        Completes (.header l q) s (fun d => d.reqs = s.dev.reqs ∧ workRead d (xAddr r) 256 = x.header ∧
          ∀ a, (a < xAddr r ∨ xAddr r + 256 ≤ a) → memRead 0 d.sas.work a = memRead 0 s.dev.sas.work a))) ∧
    (∀ x, t.xop = 4 → recCheck s.dev t (hasPrompt s.dev || hasGeneration s.dev) (reqForeign s.dev t (lookupReq s.dev t.request)) none
        false true false = none →
      let ok (base slots : Nat) (d : Dev) : Prop := d = finishOp (dropTaken s.dev t) (t.ref s.dev) St.ok base slots
      (lookupReq s.dev t.request = .prompt x → x.state = .prefill → t.f 0x21 5 4 = 0 →
        Completes (.locate l q) s (ok (landingBase x.slot) (Req.landPages s.dev x))) ∧
      (lookupReq s.dev t.request = .prompt x → x.state = .prefill → t.f 0x21 5 4 = 1 →
        Completes (.locate l q) s (ok (x.viewBase.getD 0) x.prefixPages)) ∧
      (lookupReq s.dev t.request = .gen x → x.state = .waiting ∨ x.state = .decoding → t.f 0x21 5 4 = 2 →
        Completes (.locate l q) s (ok (x.windowBase.getD 0) x.wslots)))

/-- SKEIN_OPEN makes a RECEIVING skein under the next incarnation of a free slot; LOOKUP shares the prefix it finds and answers;
PREFIX_FETCH answers the pages, or has them promoted first, and puts those it brings into the view; PLACE puts pages in place, and
a refused one aborts. Where the spec leaves a point open, it is the model's choice: log entries 94, 102. -/
def Obligations.SkeinFillingCommandsComplete : Prop :=
  ∀ (s : State) (frm : Nat), reaches s.dev frm →
    (∀ m slot base e, openSlots s.dev m = (none, e) → slot < 262144 → skeinAt e slot = none → slot ∉ e.sas.retired →
      resvFree e base (resvSize m.shape (capOfOpen e m) m.maskSets) →
      resvExists e (resvSize m.shape (capOfOpen e m) m.maskSets) →
      (mapAll e (framesOf base (64 * m.shape.layers))).isSome →
      let inc := tgetD e.sas.inc slot 0 + 1
      Completes (.skeinOpen frm m slot base) s (fun d => skeinIs d slot (fun k => k.state = .receiving ∧
        k.id = mkSkeinId (fleet s.dev) slot inc ∧ k.base = base ∧ k.cap = capOfOpen e m ∧ k.tenant = m.owner ∧ k.pages = [] ∧
        k.model = m.model ∧ k.shape = m.shape ∧ k.maskSets = m.maskSets ∧ k.thinOk = m.thinOk ∧ k.retain = m.retain ∧
        k.genDevice = m.genDevice ∧ k.req = m.req ∧ k.created = now s.dev ∧
        goes d (.skeinOpenReply m.req St.ok k.id)) ∧ tget d.sas.inc slot = some inc ∧ d.reqs = s.dev.reqs)) ∧
    (∀ req id chain k es e e2, hasCache s.dev → findSkein s.dev id = some k → k.state = .receiving →
      prefixLookup k chain 0 s.dev = (es, e) →
      mapAll e (((es.zipIdx).flatMap (fun x => sharePages e k x.2 x.1)).flatMap
        (fun r => metaFrames k r.layer r.page [])).eraseDups = some e2 →
      Completes (.lookup frm req id chain) s (fun d => skeinIs d k.slot (fun x => x.id = id ∧ x.chain = chain ∧ x.prefixPages = es.length ∧
        x.hasShared = (es.length != 0) ∧ x.pages = (es.zipIdx).flatMap (fun x => sharePages e k x.2 x.1)) ∧
        goes d (.lookupReply req St.ok es.length) ∧ d.reqs = s.dev.reqs)) ∧
    (∀ req id k found, findSkein s.dev id = some k →
      let rs := (k.refsOf 0 k.prefixPages).filter (fun r => !refDead s.dev r)
      (resident s.dev (refFrames s.dev rs) = true → (readRanges found (refRanges s.dev rs) s.dev).1 = false →
        Completes (.prefixFetch frm req id (none, found)) s (fun d => d.reqs = s.dev.reqs ∧ ∃ ps, goes d (.prefixPages k.req ps) ∧
          ∀ p ∈ ps, ∃ r ∈ rs, r.layer = p.layer ∧ r.page = p.page)) ∧
      (resident s.dev (refFrames s.dev rs) = false →
        Completes (.prefixFetch frm req id (none, found)) s (fun d => d.reqs = s.dev.reqs ∧
          skeinIs d k.slot (fun x => x.id = id ∧ x.fetchDue = some frm ∧ x.pages = k.pages)))) ∧
    (∀ req id ps found x b p bs qs e0, findPrompt s.dev req = some x → x.viewBase = some b → x.state = .prefill → x.core.home = frm →
      shipped s.dev frm 0x10 req ps = (qs, e0) → unpackParts (shapeBpp x.shape) qs = [p] → expandPart x.shape.fmt p = (bs, none) →
      let a := b + (p.layer * x.prefixPages + p.page) * pageBytes x.shape
      (∀ f ∈ framesOf a (pageBytes x.shape), (tget s.dev.sas.frames f).any (fun y => y.stack.isSome)) →
      Completes (.prefixFetch frm req id (some ps, found)) s (fun d => d.reqs = s.dev.reqs ∧ d.sas.skeins = s.dev.sas.skeins ∧
        workRead d a (pageBytes x.shape) = fit bs (pageBytes x.shape) ∧
        ∀ i, (i < a ∨ a + pageBytes x.shape ≤ i) → memRead 0 d.sas.work i = memRead 0 s.dev.sas.work i)) ∧
    (∀ req id ps k qs e0 st k2 e appended, hasCache s.dev → shipped s.dev frm 0x05 req ps = (qs, e0) → findSkein s.dev id = some k →
      placeChecked appended (unpackParts (shapeBpp k.shape) qs) k e0 = (st, k2, e) → (∀ t ∈ s.dev.weft.trackers, t.op ≠ 0x05) →
      (st = St.ok → k.state = (if appended then .bound else .receiving) →
        Completes (.place frm req id appended ps) s (fun d => skeinIs d k.slot (fun x => x.id = id ∧ x.state = k.state ∧
          x.pages = k2.pages ∧ x.lastAccess = now s.dev) ∧ d.reqs = s.dev.reqs)) ∧
      (st ≠ St.ok → k.state = .receiving → appended = false → isOurs s.dev frm = false →
        Completes (.place frm req id appended ps) s (fun d => skeinIs d k.slot (fun x => x.id = id ∧ x.state = .aborted) ∧
          d.reqs = s.dev.reqs)))

/-- SEAL binds a RECEIVING skein at its SPLIT_PAGE and answers; ABORT, RELEASE and the end of an aborted skein's placements move it on
or free its slot. -/
def Obligations.SkeinEndingCommandsComplete : Prop :=
  ∀ (s : State) (frm : Nat) (req id : U64) (k : Skein), findSkein s.dev id = some k →
    (k.state = .receiving →
      Completes (.seal frm req id) s (fun d => skeinIs d k.slot (fun x => x.id = id ∧ x.state = .bound ∧ x.sealed ∧
        x.splitPage = pagesOf k.tokens - k.windowPages ∧ x.pages = k.pages) ∧
        (reaches s.dev frm → goes d (.stateReply req 0x06 St.ok)))) ∧
    (k.state = .receiving ∨ k.state = .bound →
      Completes (.abort frm req id) s (fun d => skeinIs d k.slot (fun x => x.id = id ∧ x.state = .aborted) ∧ d.reqs = s.dev.reqs ∧
        (k.state = .bound → ∀ e ∈ d.sas.prefixTable, e.skein ≠ id) ∧ (reaches s.dev frm → goes d (.stateReply req 0x07 St.ok)))) ∧
    (k.state = .bound → k.retain →
      Completes (.release frm req id) s (fun d => skeinIs d k.slot (fun x => x.id = id ∧ x.state = .prefix_ ∧ x.genDevice = 0 ∧
        x.pages = k.pages) ∧ d.reqs = s.dev.reqs ∧ (reaches s.dev frm → goes d (.stateReply req 0x08 St.ok)))) ∧
    (k.state = .bound → k.retain = false →
      Completes (.release frm req id) s (fun d => (∀ x ∈ d.sas.skeins, x.slot ≠ k.slot) ∧
        (∀ e ∈ d.sas.prefixTable, e.skein ≠ id) ∧ d.reqs = s.dev.reqs ∧ (reaches s.dev frm → goes d (.stateReply req 0x08 St.ok)))) ∧
    (∀ x, skeinAt s.dev k.slot = some x → x.state = .aborted →
      Completes (.skeinAbortDrained k.slot) s (fun d => (∀ y ∈ d.sas.skeins, y.slot ≠ k.slot) ∧
        (∀ e ∈ d.sas.prefixTable, e.skein ≠ x.id) ∧ d.reqs = s.dev.reqs))

/-- A class B far job that passes its checks and joins no batch is a new job with one member, over the pages it names. With every
frame in the stack tier: a scan selects the pages of a job, a walk passes one round on, and a round check attends a round. Where
the spec leaves a point open, it is the model's choice: log entry 47. -/
def Obligations.FarJobCommandsComplete : Prop :=
  (∀ (s : State) (frm conn : Nat) (m : FarJobMsg) (budget : Nat) (k : Skein), farCheck s.dev (some k) m .b = none →
      (isOurs s.dev frm = false → farTurn s.dev conn (farStamp s.dev frm conn).1 (farStamp s.dev frm conn).2) → findSkein s.dev m.skein = some k →
      s.dev.retr.jobs.find? (canJoin s.dev k m .b (anchorOf s.dev (s.dev.sas.skeins.length + 1) k m.splitPage)) = none →
      (∀ b ∈ (farStages s.dev k m 1 (if isOurs s.dev frm then none else (findConn s.dev conn).map (fun c => c.port (c.pathList.headD 0)))).2.1,
        isReady s.dev b) →
      Completes (.farJob frm conn m .b budget) s (fun d => d.retr.nextJob = s.dev.retr.nextJob + 1 ∧
        (∃ j ∈ d.retr.jobs, j.id = s.dev.retr.nextJob ∧ j.layer = m.layer ∧ j.far = m.splitPage ∧ j.kPages = m.kPages ∧
          j.pages = jobPages k m.layer m.splitPage ∧ ∃ x, j.members = [x] ∧ x.msg = m ∧ x.cfleet = frm ∧ x.op = s.dev.adm.nextOp ∧
            x.arrival = (farStamp s.dev frm conn).2) ∧
        (∃ o ∈ d.adm.ops, o.id = s.dev.adm.nextOp ∧ o.what = .farJob s.dev.retr.nextJob m.ret) ∧ d.reqs = s.dev.reqs)) ∧
  (∀ (s : State) (i : Nat) (j : FarJob) (o : Op) (found : List LineErr), findJob s.dev i = some j → leadOp s.dev j = some o →
      (∀ e ∈ s.dev.sas.frames, e.2.stack.isSome ∧ e.2.moving = false) →
      let jobIs (d : Dev) (P : FarJob → Prop) : Prop := ∃ x ∈ d.retr.jobs, x.id = i ∧ P x
      (j.scanned = false → (∀ x ∈ j.members, queryBad x.msg = false) →
        (readRanges found (j.pages.flatMap (scanRanges (jobSkein s.dev j) j.layer)) s.dev).1 = false →
        Completes (.heddleScan i (none, found)) s (fun d => jobIs d (fun x => x.scanned ∧ x.batch = j.members.length ∧
          x.sel = select x.bounds j.far (img s.dev 0x120000 5 0) (img s.dev 0x120000 13 8) (if j.kPages ≠ 0 then j.kPages else j.kCap) ∧
          (∀ b ∈ x.bounds, ∃ p ∈ j.pages, p.page = b.page ∧ p.elig ≠ 0)) ∧ d.reqs = s.dev.reqs)) ∧
      (j.scanned → j.ended = false → j.walked < j.ends.length →
        (∀ p ∈ roundPages j.sel j.ends j.walked, ∃ x ∈ j.pages, x.page = p ∧ x.tokens ≠ 0) →
        let k := jobSkein s.dev j
        let ps := roundPages j.sel j.ends j.walked
        ∀ e, readRanges found (ps.flatMap (walkRanges s.dev k j.layer j.pages)) s.dev = (false, e) →
        underCow e k j.layer (jobFrames e j ps) = false →
        Completes (.heddleWalk i (none, found)) s (fun d => jobIs d (fun x => x = { j with walked := j.walked + 1, waiting := false }) ∧
          d.reqs = s.dev.reqs)) ∧
      (j.scanned → j.ended = false → j.kPages = 0 → j.round < j.walked → s.dev.fab.stopped = false →
        (attendRound s.dev j (jobSkein s.dev j)).1 →
        Completes (.roundCheck i) s (fun d => jobIs d (fun x => x.round = j.round + 1 ∧ x.sel = j.sel ∧
          (x.ended = true ↔ j.ends.length ≤ x.round ∨ x.members.any (memberAbove (jobSkein s.dev j) x) = false)) ∧ d.reqs = s.dev.reqs)))

/-- A stage of a transfer ends and the next one is due; a relay to host memory is delivered; an operation that runs late is abandoned
by its deadline watch; held admission replies go when their time has come. -/
def Obligations.OperationEventsComplete : Prop :=
  ∀ s : State,
    (∀ o st rec data src, findOp s.dev o.id = some o → o.what = .transfer rec data src → o.stages[o.cur]? = some st → st.mirror = false →
      st.ledger = lSTK → (∀ x ∈ o.stages.take o.cur, x.ledger ≠ lSHT) → xferFramesReady s.dev rec src → stageTurn s.dev o st →
      (o.cls = .g ∨ o.deadline = none) →
      Completes (.stageComplete o.id []) s (fun d => (∃ x ∈ d.adm.ops, x.id = o.id ∧ x.cur = o.cur + 1 ∧ x.stages = o.stages) ∧
        d.reqs = s.dev.reqs)) ∧
    (∀ o st req step layer addr bs status, findOp s.dev o.id = some o → o.what = .relay req step layer 0xFFFFF addr bs status →
      o.stages[o.cur]? = some st → stageTurn s.dev o st →
      Completes (.stageComplete o.id []) s (fun d => (∀ x ∈ d.adm.ops, x.id ≠ o.id) ∧ (∀ b ∈ d.adm.bookings, b.op ≠ o.id) ∧
        d.reqs = s.dev.reqs)) ∧
    (∀ o t, findOp s.dev o.id = some o → o.cls = .g → o.deadline = some t → t ≤ now s.dev + frNs s.dev →
      o.there.any (· ≤ now s.dev) = false →
      (∀ j ret, o.what ≠ .farJob j ret) →
      Completes (.deadlineWatch o.id) s (fun d => (∀ x ∈ d.adm.ops, x.id ≠ o.id) ∧ (∀ b ∈ d.adm.bookings, b.op ≠ o.id) ∧
        d.reqs = s.dev.reqs)) ∧
    Completes .admissionReplyRelease s (fun d => d.adm = { s.dev.adm with held := s.dev.adm.held.filter (fun h => now s.dev < h.time) } ∧
      d.reqs = s.dev.reqs ∧ d.sas = s.dev.sas)

/-- Commands of fabric runs: an idle run starts one, a busy one queues it or, for an earlier deadline, displaces its own; an end, a
tile fault, a stall and the end of a reset move the run on. A shuttle codes a block of 4 KiB and decodes a stored one. -/
def Obligations.RunAndShuttleCommandsComplete : Prop :=
  (∀ (s : State) (r : Run), findRun s.dev r.num = some r →
      let runIs (d : Dev) (P : Run → Prop) : Prop := ∃ x ∈ d.fab.runs, x.num = r.num ∧ P x
      (∀ m : RunCmdMsg, s.dev.fab.stopped = false → r.st < 3 → runIn s.dev r → cmdDraft m.kind = img s.dev (0x100100 + 8 * r.draft) 2 0 →
        m.kind ≤ 5 →
        let j := if m.kind == 2 || m.kind == 3 || m.kind == 4 then findJob s.dev m.id else none
        let c : RunCmd := {
          id := m.id
          kind := m.kind
          cls := (j.map (·.cls)).getD m.cls
          place := cmdPlace s.dev m j
          job := j.map (·.id)
          live := min m.live 262144 }
        (r.cur = none → r.st = 0 → Completes (.runCommandArrival r.num m) s (fun d => runIs d (fun x => x.cur = some c ∧ x.st = 1 ∧
          x.queue = r.queue) ∧ d.reqs = s.dev.reqs ∧ d.sas = s.dev.sas)) ∧
        (r.cur = none → r.st ≠ 0 → Completes (.runCommandArrival r.num m) s (fun d => runIs d (fun y => y.cur = none ∧
          y.queue = r.queue ++ [c] ∧ y.st = r.st) ∧ d.reqs = s.dev.reqs ∧ d.sas = s.dev.sas)) ∧
        (∀ x, r.cur = some x → c.displaces x = false ∨ 2 ≤ r.spilled.length → Completes (.runCommandArrival r.num m) s (fun d => runIs d (fun y => y.cur = some x ∧
          y.queue = r.queue ++ [c]) ∧ d.reqs = s.dev.reqs ∧ d.sas = s.dev.sas)) ∧
        (∀ x, r.cur = some x → c.displaces x → r.spilled.length < 2 → Completes (.runCommandArrival r.num m) s (fun d =>
          runIs d (fun y => y.cur = some c ∧ y.spilled = x :: r.spilled) ∧ d.reqs = s.dev.reqs ∧ d.sas = s.dev.sas))) ∧
      (∀ x n st, r.cur = some x →
        (r.queue = [] → r.spilled = [] → Completes (.runCommandEnd r.num n none st) s (fun d => runIs d (fun y => y.cur = none ∧
          (y.st = 0 ∨ y.st = 4)) ∧ d.reqs = s.dev.reqs)) ∧
        (r.st = 3 → r.spilled = [] → Completes (.runCommandEnd r.num n none st) s (fun d => runIs d (fun y => y.cur = none ∧ y.st = 4 ∧
          y.queue = r.queue) ∧ d.reqs = s.dev.reqs)) ∧
        (∀ c, r.st ≠ 3 → r.queue = [c] → r.spilled = [] → Completes (.runCommandEnd r.num n none st) s (fun d => runIs d (fun y => y.cur = some c ∧
          y.queue = []) ∧ d.reqs = s.dev.reqs)) ∧
        (∀ t b, t ∈ r.tiles → Completes (.runCommandEnd r.num n (some (t, b)) st) s (fun d => runIs d (fun y => y.cur = none ∧
          y.spilled = [] ∧ y.st = 2) ∧ d.reqs = s.dev.reqs)) ∧
        (r.busySince + 20000 ≤ now s.dev → Completes (.runStallTimeout r.num) s (fun d => runIs d (fun y => y.cur = none ∧ y.spilled = [] ∧
          y.st = 2) ∧ d.reqs = s.dev.reqs))) ∧
      (r.st = 2 → s.dev.fab.stopped = false → Completes (.runResetDone r.num) s (fun d => runIs d (fun y => y.st = 0 ∨ y.st = 1 ∨ y.st = 4) ∧
        d.reqs = s.dev.reqs ∧ d.sas = s.dev.sas)) ∧
      (∀ x eq bad l0 l1, s.dev.fab.shadows.find? (fun y => y.id == x.id) = some x →
        Completes (.shadowCheckDone x.id eq false bad l0 l1) s (fun d => d.fab.shadows = s.dev.fab.shadows.filter (fun y => y.id != x.id) ∧
          d.reqs = s.dev.reqs ∧ (eq → bad = none → d.fab.lastMismatch = s.dev.fab.lastMismatch) ∧
          (eq = false ∨ bad.isSome → d.fab.lastMismatch.isSome)))) ∧
  (∀ s : State,
      (∀ fmt bs (bypass : Bool), bs.length = 4096 → 1 ≤ fmt → fmt ≤ 4 →
        Completes (.blockCompress fmt bs bypass) s (fun d => d.sas = s.dev.sas ∧ d.reqs = s.dev.reqs ∧
          d.out = .stored (if bypass then { entry := 0x80, data := bs } else compressBlock fmt bs) :: s.dev.out)) ∧
      (∀ a fmt b w e out, a % 32 = 0 → expandBlock fmt b = .ok out →
        Completes (.blockExpand a fmt false b w e) s (fun d => d.sas = s.dev.sas ∧ d.reqs = s.dev.reqs ∧ d.out = .expanded out :: s.dev.out)) ∧
      (∀ a fmt b w e out sat, a % 32 = 0 → thinBad 1 b.data = none → restorePage { fmt := fmt } b.data (32 * elemBytes fmt) = some (out, sat) →
        Completes (.blockExpand a fmt true b w e) s (fun d => d.sas = s.dev.sas ∧ d.reqs = s.dev.reqs ∧ d.out = .expanded out :: s.dev.out)) ∧
      (∀ a fmt b w e k, a % 32 = 0 → expandBlock fmt b = .err k →
        Completes (.blockExpand a fmt false b w e) s (fun d => d.codecErr.isSome ∧ d.sas = s.dev.sas ∧ d.reqs = s.dev.reqs)))

/-- Movement between the tiers: a promoted frame is mapped in its stack, a walk's layer has its count, a demoted page's layer one more
page below; reclaim starts demotions or frees the oldest PREFIX skein. Where the spec leaves a point open, it is the model's
choice: log entry 51. -/
def Obligations.TierCommandsComplete : Prop :=
  ∀ s : State,
    (∀ f ph h n, (∃ p ∈ s.dev.sas.promotions, p.frame = f ∧ p.read) → pickStack s.dev f = some (h, n) → ph < stackPhys →
      pinnedOn s.dev n ≤ ph → ph ∉ physOn s.dev n →
      Completes (.framePromotionDone f ph) s (fun d => (∀ p ∈ d.sas.promotions, p.frame ≠ f) ∧
        (tget d.sas.frames f = some { stack := some n, phys := ph } ∨ tget d.sas.frames f = none) ∧ d.reqs = s.dev.reqs)) ∧
    (∀ id k l, findSkein s.dev id = some k → (k.layer l).walking → (∀ p ∈ s.dev.sas.promotions, p.walk ≠ some (k.slot, l)) →
      Completes (.layerWalkDone id l) s (fun d => skeinIs d k.slot (fun x => x.id = id ∧ (x.layer l).walking = false ∧
        (x.layer l).nr = nonResident s.dev k l ∧ x.pages = k.pages) ∧ d.reqs = s.dev.reqs)) ∧
    (∀ id k x r, findSkein s.dev id = some k →
      s.dev.sas.demotions.find? (fun y => y.skein == k.slot && y.layer == x.layer && y.page == x.page) = some x → x.thinned = none →
      (∀ i ∈ x.units, ∀ u, unitAt s.dev i = some u → u.written) → k.page? x.layer x.page = some r → r.body = x.body →
      r.foreign = false → bodyRefs s.dev x.body = 1 → (∀ y ∈ s.dev.sas.skeins, y.fetchDue = none ∧ y.windowDue = false) →
      Completes (.pageDemotionDone id x.layer x.page) s (fun d => d.sas.demotions = dropFirst (fun y => y == x) s.dev.sas.demotions ∧
        skeinIs d k.slot (fun y => y.id = id ∧ (y.layer x.layer).nr = (k.layer x.layer).nr + 1) ∧ d.reqs = s.dev.reqs)) ∧
    (let e : Dev := { s.dev with sas := { s.dev.sas with reclaim := true } }
     256 * stackComing s.dev < img s.dev 0x80000 15 8 * stackTotal s.dev → s.dev.flt.custody = .normal →
      (∀ k, bobTakes e = false ∨ oldestLayer e = none → oldestPrefix e (fun k => !(upFrames e (skeinFrames e k)).isEmpty) = some k →
        Completes .stackReclaim s (fun d => d.sas.reclaim ∧ (∀ x ∈ d.sas.skeins, x.slot ≠ k.slot) ∧ d.reqs = s.dev.reqs)) ∧
      (∀ k l r b, bobTakes e → oldestLayer e = some (k, l) → layerPages e k l = [r] → skeinAt e k.slot = some k → k.thinOk = false →
        findBody e r.body = some b → (programUnits k.tenant (packUnits (upFrames e b.frames)) e).isSome →
        Completes .stackReclaim s (fun d => d.sas.reclaim ∧ d.reqs = s.dev.reqs ∧
          ∃ x ∈ d.sas.demotions, x.skein = k.slot ∧ x.layer = r.layer ∧ x.page = r.page ∧ x.body = b.id))) ∧
    (let e : Dev := { s.dev with sas := { s.dev.sas with bobReclaim := true } }
     tierReady s.dev → 256 * bobRoom s.dev < img s.dev 0x80000 31 24 * s.dev.bob.totalFrames → s.dev.flt.custody = .normal →
      ∀ k, oldestPrefix e (fun k => !(lowFrames e (skeinFrames e k)).isEmpty) = some k →
        Completes .bobbinReclaim s (fun d => d.sas.bobReclaim ∧ (∀ x ∈ d.sas.skeins, x.slot ≠ k.slot) ∧ d.reqs = s.dev.reqs))

/-- Memory stacks: training's end, temperatures, the end of heat, patrol reads, a lost stack, the end of a retirement. -/
def Obligations.StackCommandsComplete : Prop :=
  ∀ (s : State) (n : Nat), n < 12 → s.dev.stk.units.length = 12 →
    let u := stackAt s.dev n
    (∀ (pass : Bool), u.trained = false → s.dev.stk.bringUp.isSome ∨ (∃ m, m < 12 ∧ m ≠ n ∧ (stackAt s.dev m).trained = false) →
      s.dev.boot.phase = .running →
      Completes (.stackTrainingDone n pass) s (fun d => (stackAt d n).trained ∧
        (stackAt d n).st = (if pass then (if u.st = 0 then 1 else u.st) else 0) ∧
        (pass → isReady d (rbStack n)) ∧ (∀ k, k ≠ n → stackAt d k = stackAt s.dev k) ∧ d.reqs = s.dev.reqs)) ∧
    (∀ ts : List (List Nat), ts.length = 12 → (∀ t ∈ ts, hottest t < 380) →
      Completes (.stackTempSample ts) s (fun d => (stackAt d n).temps = ts.getD n [] ∧ (stackAt d n).hot = u.hot ∧
        d.reqs = s.dev.reqs ∧ d.flt.custody = s.dev.flt.custody)) ∧
    (∀ t, s.dev.stk.coolSince = some t → t + 100000000 ≤ now s.dev → s.dev.stk.hotScale →
      Completes .stackHotClear s (fun d => d.stk.hotScale = false ∧ (∀ x ∈ d.stk.units, x.hot = false) ∧
        d.adm.stkCap = { start := nextBucket s.dev, num := 1, den := 1 } :: s.dev.adm.stkCap ∧ d.reqs = s.dev.reqs ∧ d.sas = s.dev.sas)) ∧
    (∀ f l errs, 1 ≤ u.st → u.st ≤ 3 → f < stackPhys → l < 64 → (f, l) ∉ u.poison →
      ((badSyms errs) = [] → (f + 1 ≠ stackPhys ∨ l ≠ 63) → Completes (.scrubRead n f l errs) s (fun d => d = s.dev)) ∧
      (6 ≤ (badSyms errs).length → (badSyms errs).length ≤ 11 →
        Completes (.scrubRead n f l errs) s (fun d => (f, l) ∈ (stackAt d n).poison ∧ d.sas = s.dev.sas ∧ d.reqs = s.dev.reqs))) ∧
    (1 ≤ u.st → u.st ≤ 3 → Completes (.stackCommandTimeout n) s (fun d => d.flt.custody = .custody ∧ (stackAt d n).st = 5)) ∧
    (u.st = 3 → (∀ f ∈ s.dev.sas.frames, f.2.stack ≠ some n) →
      Completes (.stackRetireComplete n) s (fun d => (stackAt d n).st = 4 ∧ isReady d (rbStack n) = false ∧ d.sas = s.dev.sas ∧
        d.reqs = s.dev.reqs))

/-- The bobbin tier's reads, programs and erases: a channel's scan makes its targets READY; an attempt keeps its good codewords; a
whole unit lets its frames be promoted; a program and an erase change their block, a failed one makes it BAD. The bobbin tier's
own decisions: garbage collection and retention doom a block, and a failed target leaves service with its raw capacity. Where the
spec leaves a point open, it is the model's choice: log entry 55. -/
def Obligations.BobbinCommandsComplete : Prop :=
  (∀ s : State,
      (∀ ch (trained : Bool) scans, ch < 16 → ch ∉ s.dev.bob.chEnded → s.dev.boot.flash ≠ [] → isReady s.dev rbCrypto →
        Completes (.channelScanDone ch trained scans) s (fun d => ch ∈ d.bob.chEnded ∧ d.reqs = s.dev.reqs ∧
          (trained → ∀ t x, t < 8 → declared s.dev (tgtOf ch t) → scans.find? (fun y => y.target == t) = some x →
            targetOk s.dev (tgtOf ch t) x.page → (targetAt d (tgtOf ch t)).st = 1))) ∧
      (∀ r u good tagOk, s.dev.bob.reads.find? (fun x => x.id == r.id && x.started) = some r → unitAt s.dev r.unit = some u →
        readDisturb s.dev = 0 → channelHeld s.dev r = false → (∀ y ∈ s.dev.sas.skeins, y.fetchDue = none ∧ y.windowDue = false) →
        let all := (List.range 4).filter (fun i => r.good.contains i || good.contains i)
        (all.length < 4 → r.attempts + 1 < 7 →
          Completes (.bobbinReadAttempt r.id good tagOk) s (fun d => (∃ x ∈ d.bob.reads, x.id = r.id ∧ x.attempts = r.attempts + 1 ∧
            x.good = all) ∧ d.reqs = s.dev.reqs)) ∧
        (all.length = 4 → tagOk → s.dev.sec.zeroized = false → r.use = .promote →
          Completes (.bobbinReadAttempt r.id good tagOk) s (fun d => (∀ p ∈ d.sas.promotions, p.unit = u.id → p.read) ∧
            d.reqs = s.dev.reqs))) ∧
      (∀ (loc : BlockLoc) page u, s.dev.bob.units.find? (fun x => x.inBlock (tgtOf loc.ch loc.tgt) loc.lun loc.blk && x.page == page && !x.written) =
        some u → (targetAt s.dev (tgtOf loc.ch loc.tgt)).st = 1 → suspended s.dev (tgtOf loc.ch loc.tgt) = false →
        (u.source = none → u.slots.any Option.isSome →
          Completes (.bobbinProgramDone loc page true) s (fun d => (∃ x ∈ d.bob.units, x.id = u.id ∧ x.written) ∧ d.reqs = s.dev.reqs)) ∧
        Completes (.bobbinProgramDone loc page false) s (fun d => d.reqs = s.dev.reqs ∧
          ∀ b ∈ (targetAt d (tgtOf loc.ch loc.tgt)).table, b.lun = loc.lun → b.blk = loc.blk → b.st = .bad)) ∧
      (∀ (loc : BlockLoc) b, (targetAt s.dev (tgtOf loc.ch loc.tgt)).block loc.lun loc.blk = some b → b.erasing →
        (targetAt s.dev (tgtOf loc.ch loc.tgt)).st = 1 → suspended s.dev (tgtOf loc.ch loc.tgt) = false →
        Completes (.bobbinEraseDone loc true) s (fun d => d.reqs = s.dev.reqs ∧ ∃ x, (targetAt d (tgtOf loc.ch loc.tgt)).block loc.lun loc.blk = some x ∧
          x.erases = b.erases + 1 ∧ x.st = .free ∧ x.session = b.session + 1) ∧
        Completes (.bobbinEraseDone loc false) s (fun d => d.reqs = s.dev.reqs ∧ ∃ x, (targetAt d (tgtOf loc.ch loc.tgt)).block loc.lun loc.blk = some x ∧
          x.st = .bad ∧ x.erasing = false))) ∧
  (∀ s : State,
      (∀ ch t, gcRuns s.dev = false → Completes (.bobbinGc ch t) s (fun d => d = { s.dev with bob := { s.dev.bob with gc := false } })) ∧
      (∀ ch t b, gcRuns s.dev → gcVictim { s.dev with bob := { s.dev.bob with gc := true } } = some (tgtOf ch t, b) →
        gcGains s.dev (tgtOf ch t) b → (targetAt s.dev (tgtOf ch t)).block b.lun b.blk = some b →
        Completes (.bobbinGc ch t) s (fun d => d.bob.gc ∧ d.reqs = s.dev.reqs ∧ ∃ x, (targetAt d (tgtOf ch t)).block b.lun b.blk = some x ∧
          x.doomed ∧ x.byGc)) ∧
      (∀ (loc : BlockLoc) b f, (targetAt s.dev (tgtOf loc.ch loc.tgt)).block loc.lun loc.blk = some b → b.first = some f →
        f + retentionNs s.dev < now s.dev → b.st = .full → b.doomed = false →
        Completes (.blockRetentionExpiry loc) s (fun d => d.reqs = s.dev.reqs ∧ ∃ x,
          (targetAt d (tgtOf loc.ch loc.tgt)).block loc.lun loc.blk = some x ∧ x.doomed)) ∧
      (∀ ch t, (targetAt s.dev (tgtOf ch t)).st = 1 →
        Completes (.targetTimeout ch t) s (fun d => (targetAt d (tgtOf ch t)).st = 2 ∧ d.reqs = s.dev.reqs ∧
          d.bob.rawBytes = s.dev.bob.rawBytes - (targetAt s.dev (tgtOf ch t)).raw)))

/-- A port trains, comes up or stays down, trains again after 100 ms, and goes down with its link. Link words: an ACK clears the
replay store up to its frame, a NACK and the timeout replay from theirs, CREDIT, SKIP and LANE are taken over. Where the spec
leaves a point open, it is the model's choice: log entry 63. -/
def Obligations.PortStateAndLinkWordsComplete : Prop :=
  (∀ (s : State) (p : Nat), p < 8 → s.dev.ports.length = 8 →
      let x := portAt s.dev p
      let others (d : Dev) : Prop := (∀ k, k ≠ p → portAt d k = portAt s.dev k) ∧ d.reqs = s.dev.reqs ∧ d.sas = s.dev.sas
      (∀ rtt, x.state = .training → Completes (.portTrainingDone p true rtt) s (fun d => others d ∧ (portAt d p).state = .up ∧
        isReady d (rbPort p) ∧ (portAt d p).rttNs = min rtt 1023 ∧
        ((portAt d p).llrOn = true ↔ portMode s.dev p = 1 ∧ rtt ≤ 600 ∧ rtt + 64 < llrNs s.dev p))) ∧
      (∀ rtt, x.state = .training → Completes (.portTrainingDone p false rtt) s (fun d => others d ∧ (portAt d p).state = .down ∧
        (portAt d p).downSince = now s.dev)) ∧
      (x.state = .down → x.downSince + 100000000 ≤ now s.dev → portMode s.dev p ≠ 0 →
        Completes (.portRetrainTimer p) s (fun d => d = setPort s.dev p { x with state := .training })) ∧
      (x.state = .up → Completes (.portLinkLoss p) s (fun d => others d ∧ (portAt d p).state = .down ∧ isReady d (rbPort p) = false ∧
        (portAt d p).replay = [] ∧ (portAt d p).queue = x.queue))) ∧
  (∀ (s : State) (p : Nat) (w : BitVec 96), p < 8 → s.dev.ports.length = 8 → lwOk w → portMode s.dev p = 1 →
      let x := portAt s.dev p
      let n := lwBody w % 4096
      let again (k : Nat) : List Nat := (x.replay.filter (fun f => fseqLe k f.fseq && decide (f.replays < portImg s.dev p 0 6 4))).map (·.fseq)
      (x.state = .up → lwType w = 1 → Completes (.linkWordAck p w) s (fun d => d = setPort s.dev p { x with
        replay := x.replay.filter (fun f => !fseqLe f.fseq n)
        resend := x.resend.filter (fun f => !fseqLe f n) })) ∧
      (x.state = .up → lwType w = 2 → x.llrOn → x.resend = [] →
        Completes (.linkWordNack p w) s (fun d => (portAt d p).resend = again n ∧ d.reqs = s.dev.reqs ∧ d.sas = s.dev.sas)) ∧
      (x.state = .up → lwType w = 3 → Completes (.linkWordCredit p w) s (fun d =>
        (portAt d p).peerFreed = [bits (lwBody w) 15 0, bits (lwBody w) 31 16, bits (lwBody w) 47 32] ∧ (portAt d p).queue = x.queue ∧
        d.reqs = s.dev.reqs ∧ d.sas = s.dev.sas)) ∧
      (x.state = .up → lwType w = 5 → x.llrOn → Completes (.linkWordSkip p w) s (fun d => d = setPort s.dev p { x with
        expectFseq := n
        nacking := false })) ∧
      (x.state = .training → lwType w = 4 → bitOf x.laneLock (lwBody w % 4) = false → Completes (.linkWordLane p w) s (fun d =>
        d = setPort s.dev p { x with laneLock := x.laneLock + 2 ^ (lwBody w % 4) })) ∧
      (∀ f rest, x.replay = f :: rest → x.state = .up → x.llrOn → x.resend = [] → f.sentAt + llrNs s.dev p ≤ now s.dev →
        Completes (.llrTimeout p) s (fun d => (portAt d p).resend = again f.fseq ∧ d.reqs = s.dev.reqs ∧ d.sas = s.dev.sas)))

/-- Frames that arrive at an UP port, and pauses: a green frame takes its credits; a solicitation for this port is answered; a pause
holds until it ends; XOFF goes out again; a wait for credits is reported. What leaves a port: a replayed frame, or the next frame
by class and gate; the guard of a gate; a list that comes into force. Where the spec leaves a point open, it is the model's
choice: log entries 62, 64. -/
def Obligations.PortTrafficCommandsComplete : Prop :=
  (∀ (s : State) (p : Nat), p < 8 → s.dev.ports.length = 8 →
      let x := portAt s.dev p
      let rest (d : Dev) : Prop := d.reqs = s.dev.reqs ∧ d.sas = s.dev.sas ∧ ∀ k, k ≠ p → portAt d k = portAt s.dev k
      (∀ f : Frame, x.state = .up → f.fecOk → f.fcsOk → x.llrOn = false → f.kind = .weft → frameOurs s.dev p f → f.vc < 3 →
        x.ingress.length = 3 → (police s.dev p f.tc f.bytes f.yellow).1 = .green →
        Completes (.ingressFrame p f) s (fun d => rest d ∧
          (portAt d p).ingress = x.ingress.set f.vc (x.ingress.getD f.vc 0 + creditsOf f.bytes))) ∧
      (x.state = .up → Completes (.neighborSolicitation p true) s (fun d => d = emit s.dev (.neighborAdvertisement p))) ∧
      (∀ en qs, x.state = .up → portMode s.dev p = 2 → Completes (.pfcFrame p en qs) s (fun d => rest d ∧
        (portAt d p).paused = (List.range 3).map (fun v => if en.getD v false = false then x.paused.getD v none
          else if qs.getD v 0 = 0 then none else some (now s.dev + divUp (qs.getD v 0 * 64) 100)))) ∧
      (∀ v t, x.paused.getD v none = some t → t ≤ now s.dev →
        Completes (.pauseExpiry p v) s (fun d => rest d ∧ (portAt d p).paused = x.paused.set v none)) ∧
      (∀ v t, x.xoff.getD v none = some t → x.state = .up → t + 20000 ≤ now s.dev →
        Completes (.pfcXoffRefresh p v) s (fun d => rest d ∧ d.out = .pfc p v 0xFFFF :: s.dev.out ∧
          (portAt d p).xoff = x.xoff.set v (some (now s.dev)))) ∧
      (∀ v t, let y := portAt (noteWaits s.dev p) p
        v < 3 → x.state = .up → y.waitSince.getD v none = some t → y.vcWait.getD v false = false → t + stallNs s.dev p ≤ now s.dev →
        Completes (.creditStall p v) s (fun d => rest d ∧ (portAt d p).vcWait = y.vcWait.set v true ∧ (portAt d p).queue = x.queue))) ∧
  (∀ (s : State) (p : Nat), p < 8 → s.dev.ports.length = 8 →
      let x := portAt s.dev p
      (∀ pick n rest f, x.state = .up → x.resend = n :: rest → x.replay.find? (fun g => g.fseq == n) = some f →
        Completes (.egressFrameStart p pick) s (fun d => (portAt d p).resend = rest ∧ f.what ∈ d.out ∧ d.reqs = s.dev.reqs)) ∧
      (∀ pick f i, let y := tagHeads s.dev p
        x.state = .up → x.resend = [] → nextFrame (setPort s.dev p y) p y pick = some (f, i) →
        y.llrOn = false ∨ (y.replay.map PortFrame.bytes).sum + f.bytes ≤ 131072 →
        Completes (.egressFrameStart p pick) s (fun d => filled s.dev f ∈ d.out)) ∧
      (x.state = .up → x.guardFrom = none → guardHolds s.dev p →
        Completes (.gateEntryBoundary p) s (fun d => d = setPort s.dev p { x with guardFrom := some (now s.dev) })) ∧
      (∀ t, x.state = .up → x.guardFrom = some t → inGuard s.dev p = false →
        Completes (.gateEntryBoundary p) s (fun d => (portAt d p).guardFrom = none ∧ d.reqs = s.dev.reqs ∧ d.sas = s.dev.sas)) ∧
      (∀ l t, x.pending = some (l, t) → t ≤ now s.dev →
        Completes (.gateSwitchover p) s (fun d => (portAt d p).active = l ∧ (portAt d p).gateStart = t ∧ (portAt d p).pending = none ∧
          (portAt d p).queue = x.queue ∧ (∀ k, k ≠ p → portAt d k = portAt s.dev k) ∧ d.reqs = s.dev.reqs ∧ d.sas = s.dev.sas)))

/-- No command changes the queue or the size of the NOR; the fuses change by provisioning and the vault load alone; the NOR by
firmware updates, the switch's boot record and activation alone. -/
def Obligations.FlashFusesAndQueueFrame : Prop :=
  ∀ (c : Instr) (s t : State), exec c s = .next t →
    t.pending = s.pending ∧ t.norBytes = s.norBytes ∧
    (match c with
      | .slotProgram .. | .vaultSectionsLoad .. => True
      | _ => t.fuses = s.fuses) ∧
    (match c with
      | .componentWrite .. | .verifyComplete .. | .applyComplete | .activateFirmware | .imageSwitchDrainTimeout => True
      | _ => t.nor = s.nor)

/-- What commands other than those of the table leave unchanged of the root of trust: image, firmware, phase, update, time, READY,
custody, keys, sessions. -/
def Obligations.RootOfTrustFrame : Prop :=
  ∀ (c : Instr) (s t : State), exec c s = .next t →
    (.image ∉ mayChange c → t.dev.img = s.dev.img ∧ t.dev.boot.sections = s.dev.boot.sections ∧ t.dev.boot.mgrKeys = s.dev.boot.mgrKeys ∧
      t.dev.boot.peers = s.dev.boot.peers ∧ t.dev.boot.measureImg = s.dev.boot.measureImg ∧ t.dev.boot.roles = s.dev.boot.roles ∧
      t.dev.boot.commit = s.dev.boot.commit ∧ t.dev.boot.revoke = s.dev.boot.revoke ∧ t.dev.boot.flash = s.dev.boot.flash) ∧
    (.firmware ∉ mayChange c → t.dev.boot.measureFw = s.dev.boot.measureFw ∧ t.dev.boot.fwSlot = s.dev.boot.fwSlot ∧
      t.dev.boot.tapEn = s.dev.boot.tapEn) ∧
    (.phase ∉ mayChange c → t.dev.boot.phase = s.dev.boot.phase ∧ t.dev.boot.slot = s.dev.boot.slot) ∧
    (.update ∉ mayChange c → t.dev.boot.updating = s.dev.boot.updating ∧ t.dev.boot.staged = s.dev.boot.staged ∧
      t.dev.sec.updateStaged = s.dev.sec.updateStaged) ∧
    (.time ∉ mayChange c → t.dev.clk.now = s.dev.clk.now) ∧
    (.plls ∉ mayChange c → t.dev.clk.lock = s.dev.clk.lock ∧ t.dev.clk.loss = s.dev.clk.loss) ∧
    (.ready ∉ mayChange c → t.dev.ready = s.dev.ready) ∧
    (.custody ∉ mayChange c → t.dev.flt.custody = s.dev.flt.custody ∧ t.dev.flt.trigger = s.dev.flt.trigger ∧
      t.dev.flt.custodyAt = s.dev.flt.custodyAt) ∧
    (.keys ∉ mayChange c → t.dev.sec.keys = s.dev.sec.keys ∧ t.dev.sec.cryptoReady = s.dev.sec.cryptoReady ∧
      t.dev.sec.error = s.dev.sec.error ∧ t.dev.sec.zeroized = s.dev.sec.zeroized) ∧
    (.session ∉ mayChange c → t.dev.sec.session = s.dev.sec.session) ∧
    (.msgSeq ∉ mayChange c → t.dev.sec.msgSeq = s.dev.sec.msgSeq) ∧
    (.spdm ∉ mayChange c → t.dev.sec.sessions = s.dev.sec.sessions ∧ t.dev.sec.nextSession = s.dev.sec.nextSession ∧
      t.dev.sec.ide = s.dev.sec.ide) ∧
    (.sensors ∉ mayChange c → t.dev.mon.dieTemp = s.dev.mon.dieTemp ∧ t.dev.mon.level = s.dev.mon.level ∧
      t.dev.mon.powerW = s.dev.mon.powerW ∧ t.dev.mon.railOut = s.dev.mon.railOut ∧ t.dev.mon.receiver = s.dev.mon.receiver ∧
      t.dev.mon.snapshot = s.dev.mon.snapshot)

/-- What commands other than those of the table leave unchanged of the host link and the intake: link, configuration, TDISP, DOE,
intake window, lanes, taken records, line queues, check units. -/
def Obligations.HostAndIntakeFrame : Prop :=
  ∀ (c : Instr) (s t : State), exec c s = .next t →
    let h := s.dev.host
    let k := t.dev.host
    (.link ∉ mayChange c → k.l0 = h.l0 ∧ k.rate = h.rate ∧ k.width = h.width) ∧
    (.config ∉ mayChange c → k.mps256 = h.mps256 ∧ k.vfs = h.vfs ∧ k.busMaster = h.busMaster ∧ k.memSpace = h.memSpace ∧
      k.relaxed = h.relaxed ∧ k.readRequest = h.readRequest ∧ k.timeoutUs = h.timeoutUs) ∧
    (.tdisp ∉ mayChange c → k.tdisp = h.tdisp) ∧
    (.doe ∉ mayChange c → k.doeBusy = h.doeBusy ∧ k.doeReady = h.doeReady ∧ k.doeError = h.doeError) ∧
    (.window ∉ mayChange c → ∀ a, memRead 0 t.dev.intake.window a = memRead 0 s.dev.intake.window a) ∧
    (.lanes ∉ mayChange c → t.dev.intake.lanes = s.dev.intake.lanes) ∧
    (.taken ∉ mayChange c → t.dev.intake.taken = s.dev.intake.taken) ∧
    (.lines ∉ mayChange c → t.dev.lines = s.dev.lines) ∧
    (.checks ∉ mayChange c → t.dev.checks = s.dev.checks)

/-- What commands other than those of the table leave unchanged of the fabric transport and the pair: regions, trackers, the answer of
WEFT_CMD, ports, the pair's state and the mirror space. -/
def Obligations.TransportFrame : Prop :=
  ∀ (c : Instr) (s t : State), exec c s = .next t →
    (.regions ∉ mayChange c → t.dev.weft.regions = s.dev.weft.regions) ∧
    (.trackers ∉ mayChange c → t.dev.weft.trackers = s.dev.weft.trackers) ∧
    (.weftCmd ∉ mayChange c → t.dev.weft.cmdBusy = s.dev.weft.cmdBusy ∧ t.dev.weft.cmdStatus = s.dev.weft.cmdStatus ∧
      t.dev.weft.cmdValue = s.dev.weft.cmdValue) ∧
    (.ports ∉ mayChange c → t.dev.ports = s.dev.ports) ∧
    (.pair ∉ mayChange c → t.dev.pair.state = s.dev.pair.state ∧ t.dev.pair.acked = s.dev.pair.acked ∧
      t.dev.pair.applied = s.dev.pair.applied ∧ t.dev.pair.mirrorMem = s.dev.pair.mirrorMem ∧
      t.dev.pair.mirrorReqs = s.dev.pair.mirrorReqs ∧ t.dev.pair.mirrorRecs = s.dev.pair.mirrorRecs ∧
      t.dev.pair.mirrorRings = s.dev.pair.mirrorRings ∧ t.dev.pair.adopted = s.dev.pair.adopted)

/-- What commands other than those of the table leave unchanged of the stores: every byte of work memory (a command that writes none
may still free frames, whose bytes then read zero), skeins, prefix table, tier moves, stacks, bobbin targets. -/
def Obligations.StoreFrame : Prop :=
  ∀ (c : Instr) (s t : State), exec c s = .next t →
    (.frees ∉ mayChange c → ∀ a, memRead 0 t.dev.sas.work a = memRead 0 s.dev.sas.work a) ∧
    (.work ∉ mayChange c → ∀ a, memRead 0 t.dev.sas.work a = memRead 0 s.dev.sas.work a ∨ memRead 0 t.dev.sas.work a = 0) ∧
    (.skeins ∉ mayChange c → t.dev.sas.skeins = s.dev.sas.skeins) ∧
    (.skeinNumbers ∉ mayChange c → t.dev.sas.inc = s.dev.sas.inc) ∧
    (.prefixes ∉ mayChange c → t.dev.sas.prefixTable = s.dev.sas.prefixTable) ∧
    (.moves ∉ mayChange c → t.dev.sas.demotions = s.dev.sas.demotions ∧ t.dev.sas.promotions = s.dev.sas.promotions) ∧
    (.stacks ∉ mayChange c → t.dev.stk = s.dev.stk) ∧
    (.targets ∉ mayChange c → t.dev.bob.targets = s.dev.bob.targets)

/-- What commands other than those of the table leave unchanged of requests and engines: request table, incarnations, handles, stop
sets, fabric, fences, far jobs, operations. -/
def Obligations.RequestAndEngineFrame : Prop :=
  ∀ (c : Instr) (s t : State), exec c s = .next t →
    (.requests ∉ mayChange c → t.dev.reqs.live = s.dev.reqs.live ∧ t.dev.reqs.retired = s.dev.reqs.retired) ∧
    (.requestNumbers ∉ mayChange c → t.dev.reqs.inc = s.dev.reqs.inc) ∧
    (.handles ∉ mayChange c → t.dev.reqs.nextHandle = s.dev.reqs.nextHandle) ∧
    (.stopSets ∉ mayChange c → t.dev.reqs.stopSets = s.dev.reqs.stopSets) ∧
    (.fabric ∉ mayChange c → t.dev.fab = s.dev.fab) ∧
    (.fences ∉ mayChange c → t.dev.fab.fenced = s.dev.fab.fenced) ∧
    (.retrieval ∉ mayChange c → t.dev.retr = s.dev.retr) ∧
    (.operations ∉ mayChange c → t.dev.adm.ops = s.dev.adm.ops ∧ t.dev.adm.bookings = s.dev.adm.bookings)

/-- Every step keeps every memory canonical: addresses strictly rise and no byte stands at the value an unlisted address reads as. -/
def Obligations.MemoriesStayCanonical : Prop :=
  ∀ s t : State, step s = .next t →
    memWf 0xFF s.nor = true → memWf 0 s.dev.sas.work = true → memWf 0 s.dev.intake.window = true → memWf 0 s.dev.pair.mirrorMem = true →
    memWf 0xFF t.nor = true ∧ memWf 0 t.dev.sas.work = true ∧ memWf 0 t.dev.intake.window = true ∧ memWf 0 t.dev.pair.mirrorMem = true

/-- Every step keeps the device's shape: 16 check units, 12 stacks, 8 ports with three virtual channels each, 4 key slots, local time
of 64 bits, counters within their limit. -/
def Obligations.TablesKeepTheirShape : Prop :=
  ∀ s t : State, step s = .next t → shapeHeld s → shapeHeld t

/-- Fuses only move forward: MIN_SVN never falls, a revoked key and the lifecycle state stay, a programmed slot keeps its digest. -/
def Obligations.FusesOnlyMoveForward : Prop :=
  ∀ s t : State, step s = .next t →
    s.fuses.minSvn ≤ t.fuses.minSvn ∧ (∀ i, s.fuses.revoked.testBit i → t.fuses.revoked.testBit i) ∧
    (s.fuses.deployed → t.fuses.deployed) ∧ t.fuses.slots.length = s.fuses.slots.length ∧
    (∀ (i : Nat) (x : Bytes), s.fuses.slots[i]? = some (some x) → t.fuses.slots[i]? = some (some x))

/-- A SAT counter falls only with a reset of the device; at its limit it stays there and bit 63 of its register reads 1 (R15, R16). -/
def Obligations.CountersFallOnlyByReset : Prop :=
  (∀ (c : Instr) (s t : State) (a : Nat), exec c s = .next t → resetsDevice c = false → tgetD s.dev.ctr a 0 ≤ satMax →
    tgetD s.dev.ctr a 0 ≤ tgetD t.dev.ctr a 0 ∧ tgetD t.dev.ctr a 0 ≤ satMax ∧
    (tgetD s.dev.ctr a 0 = satMax → tgetD t.dev.ctr a 0 = satMax)) ∧
  satMax = 0xFFFFFFFFFFFF ∧ (∀ n, n < satMax → satRead n = n) ∧ satRead satMax = 2 ^ 63 + satMax
end

