-- ==== Sys2Proof/Laws/Reports.lean ====
section
/-! SUPPORT. What the reporting operations of Ops.lean can do: counting, sending, posting on a connection, writing records into
rings and reporting faults change outputs, counters, rings, connection queues and the bookkeeping of reports, and
nothing else. Each operation has one lemma; later proofs cite it and do not unfold the operation. -/

namespace Sys2Proof.Machine

open Sys2Proof

/-- A pair's state without the stream's position and the effects that wait. -/
def pairCore (p : Pair) : Pair := { p with sent := 0, held := [] }
/-- The fault unit without the bookkeeping of its records and the completions that wait for them. -/
def fltCore (f : FaultUnit) : FaultUnit := { f with last := none, entries := [], allowed := [], fullLost := 0, log := [], behind := [] }
/-- The host side without reads, discarded writes and interrupts. -/
def hostCore (h : HostSide) : HostSide := { h with reads := [], nextRead := 0, dropped := 0, msix := [] }
/-- Monitoring without the event messages. -/
def monCore (m : Monitor) : Monitor := { m with outstanding := none, sentAt := 0, waiting := [] }
/-- The transport without its connections. -/
def weftCore (w : Weft) : Weft := { w with conns := [] }

/-- An association without its last packet number. -/
def assocCore (a : Assoc) : Assoc := { a with pn := 0 }
/-- The security block without the packet numbers that frames to the partner use up. -/
def secCore (x : SecUnit) : SecUnit := { x with assocs := x.assocs.map assocCore }

/-- `e` differs from `d` only in outputs, counters, rings, connections, held effects, packet numbers and the bookkeeping of reports. -/
structure Reports (d e : Dev) : Prop where
  free : e.free = d.free
  clk : e.clk = d.clk
  boot : e.boot = d.boot
  img : e.img = d.img
  ready : e.ready = d.ready
  readyAt : e.readyAt = d.readyAt
  sec : secCore e.sec = secCore d.sec
  intake : e.intake = d.intake
  adm : e.adm = d.adm
  ports : e.ports = d.ports
  reqs : e.reqs = d.reqs
  sas : e.sas = d.sas
  stk : e.stk = d.stk
  bob : e.bob = d.bob
  codecErr : e.codecErr = d.codecErr
  retr : e.retr = d.retr
  fab : e.fab = d.fab
  lines : e.lines = d.lines
  checks : e.checks = d.checks
  pair : pairCore e.pair = pairCore d.pair
  flt : fltCore e.flt = fltCore d.flt
  host : hostCore e.host = hostCore d.host
  mon : monCore e.mon = monCore d.mon
  weft : weftCore e.weft = weftCore d.weft
  out : d.out <:+ e.out

theorem Reports.refl (d : Dev) : Reports d d := by constructor <;> rfl

theorem Reports.trans {a b c : Dev} (h : Reports a b) (k : Reports b c) : Reports a c where
  free := k.free.trans h.free
  clk := k.clk.trans h.clk
  boot := k.boot.trans h.boot
  img := k.img.trans h.img
  ready := k.ready.trans h.ready
  readyAt := k.readyAt.trans h.readyAt
  sec := k.sec.trans h.sec
  intake := k.intake.trans h.intake
  adm := k.adm.trans h.adm
  ports := k.ports.trans h.ports
  reqs := k.reqs.trans h.reqs
  sas := k.sas.trans h.sas
  stk := k.stk.trans h.stk
  bob := k.bob.trans h.bob
  codecErr := k.codecErr.trans h.codecErr
  retr := k.retr.trans h.retr
  fab := k.fab.trans h.fab
  lines := k.lines.trans h.lines
  checks := k.checks.trans h.checks
  pair := k.pair.trans h.pair
  flt := k.flt.trans h.flt
  host := k.host.trans h.host
  mon := k.mon.trans h.mon
  weft := k.weft.trans h.weft
  out := h.out.trans k.out

/-- Either branch only reports. -/
theorem Reports.ite {d a b : Dev} {p : Prop} [Decidable p] (ha : Reports d a) (hb : Reports d b) :
    Reports d (if p then a else b) := by
  split <;> assumption

/-- A fold of steps that only report only reports. -/
theorem Reports.foldl {α : Type} (f : Dev → α → Dev) (h : ∀ d x, Reports d (f d x)) (l : List α) (d : Dev) :
    Reports d (l.foldl f d) := by
  induction l generalizing d with
  | nil => exact .refl d
  | cons x xs ih => exact (h d x).trans (ih _)

/-! Fields that reports leave, below the record fields. -/

theorem Reports.pairState {d e : Dev} (h : Reports d e) : e.pair.state = d.pair.state := by
  show (pairCore e.pair).state = (pairCore d.pair).state
  rw [h.pair]
theorem Reports.custody {d e : Dev} (h : Reports d e) : e.flt.custody = d.flt.custody := by
  show (fltCore e.flt).custody = (fltCore d.flt).custody
  rw [h.flt]
theorem Reports.trigger {d e : Dev} (h : Reports d e) : e.flt.trigger = d.flt.trigger := by
  show (fltCore e.flt).trigger = (fltCore d.flt).trigger
  rw [h.flt]
theorem Reports.receiver {d e : Dev} (h : Reports d e) : e.mon.receiver = d.mon.receiver := by
  show (monCore e.mon).receiver = (monCore d.mon).receiver
  rw [h.mon]
theorem Reports.dieTemp {d e : Dev} (h : Reports d e) : e.mon.dieTemp = d.mon.dieTemp := by
  show (monCore e.mon).dieTemp = (monCore d.mon).dieTemp
  rw [h.mon]
theorem Reports.level {d e : Dev} (h : Reports d e) : e.mon.level = d.mon.level := by
  show (monCore e.mon).level = (monCore d.mon).level
  rw [h.mon]
theorem Reports.regions {d e : Dev} (h : Reports d e) : e.weft.regions = d.weft.regions := by
  show (weftCore e.weft).regions = (weftCore d.weft).regions
  rw [h.weft]
theorem Reports.trackers {d e : Dev} (h : Reports d e) : e.weft.trackers = d.weft.trackers := by
  show (weftCore e.weft).trackers = (weftCore d.weft).trackers
  rw [h.weft]
theorem Reports.now {d e : Dev} (h : Reports d e) : now e = now d := congrArg Clock.now h.clk

/-! ## The operations -/

theorem ctrAdd_reports (d : Dev) (a n : Nat) : Reports d (ctrAdd d a n) := by
  unfold ctrAdd; split <;> constructor <;> rfl

theorem ctrInc_reports (d : Dev) (a : Nat) : Reports d (ctrInc d a) := ctrAdd_reports d a 1

theorem emit_reports (d : Dev) (o : Out) : Reports d (emit d o) := by constructor <;> first | rfl | exact List.suffix_cons _ _

theorem emitWA_reports (d : Dev) (o : Out) : Reports d (emitWA d o) := by
  unfold emitWA emit; split <;> constructor <;> first | rfl | exact List.suffix_cons _ _

/-- Taking a packet number changes no association in anything else. -/
theorem replaceFirst_map_core (i : Nat) (a : Assoc) (n : Nat) (l : List Assoc)
    (h : l.find? (fun x => x.index == i && x.established) = some a) :
    (replaceFirst (fun x => x.index == i && x.established) { a with pn := n } l).map assocCore = l.map assocCore := by
  induction l with
  | nil => rfl
  | cons x xs ih =>
    by_cases hx : (x.index == i && x.established) = true
    · simp only [List.find?_cons, hx, Option.some.injEq] at h
      subst h
      simp [replaceFirst, hx, assocCore]
    · simp only [List.find?_cons, hx] at h
      simp [replaceFirst, hx, ih h]

theorem usePn_reports (d : Dev) (a : Assoc) (sa : Nat) (h : findAssoc d sa = some a) : Reports d (usePn d a) := by
  have hi : a.index = sa := by
    have := List.find?_some h
    simp only [Bool.and_eq_true, beq_iff_eq] at this
    exact this.1
  subst hi
  constructor <;> first | rfl | skip
  show secCore _ = secCore _
  unfold secCore usePn
  simp only [SecUnit.mk.injEq, true_and, and_true]
  exact replaceFirst_map_core _ _ _ _ h

theorem sendSelvedge_reports (d : Dev) (op mseq : Nat) (error : Bool) (session : U64) (recs : List MirrorRec) :
    Reports d (sendSelvedge d op mseq error session recs) := by
  unfold sendSelvedge
  split
  · exact .refl d
  · rename_i a ha
    exact .ite ((usePn_reports d a _ ha).trans (emit_reports _ _)) (.refl d)

theorem mirrorPush_reports (d : Dev) (recs : List MirrorRec) : Reports d (mirrorPush d recs) := by
  unfold mirrorPush
  refine .ite (.foldl _ (fun d g => ?_) _ d) (.refl d)
  refine .trans ?_ ((ctrInc_reports _ _).trans (ctrAdd_reports _ _ _))
  refine .trans ?_ (sendSelvedge_reports _ _ _ _ _ _)
  constructor <;> rfl

theorem hostWriteAttr_reports (d : Dev) (o a : Nat) (bs : Bytes) (ep relaxed : Bool) :
    Reports d (hostWriteAttr d o a bs ep relaxed) := by
  unfold hostWriteAttr
  split
  · exact .foldl _ (fun d _ => emitWA_reports d _) _ d
  · refine (ctrInc_reports d cHostDropped).trans ?_
    constructor <;> rfl

theorem hostWrite_reports (d : Dev) (o a : Nat) (bs : Bytes) : Reports d (hostWrite d o a bs) :=
  hostWriteAttr_reports d o a bs false false

theorem emitReads_reports (d : Dev) (o a len : Nat) : Reports d (emitReads d o a len) :=
  .foldl _ (fun d _ => emit_reports d _) _ d

theorem hostRead_reports (d : Dev) (o a len : Nat) (use : ReadFor) : Reports d (hostRead d o a len use) := by
  refine .trans ?_ (emitReads_reports _ o a len)
  constructor <;> rfl

theorem msixRaise_reports (d : Dev) (o : Nat) : Reports d (msixRaise d o) := by
  unfold msixRaise
  refine .ite (.refl d) (.ite ?_ ?_)
  · refine .trans ?_ (emitWA_reports _ _)
    constructor <;> rfl
  · constructor <;> rfl

theorem setConn_reports (d : Dev) (c : Conn) : Reports d (setConn d c) := by constructor <;> rfl

theorem postEntry_reports (d : Dev) (cn : Nat) (e : SqEntry) : Reports d (postEntry d cn e) := by
  unfold postEntry
  split
  · exact .refl d
  · simp only
    split
    · exact .refl d
    · exact setConn_reports _ _

/-- A message to this device itself hands its pages over; nothing else of it is more than a report. -/
theorem sendSvcFor_reports (d : Dev) (f : Nat) (m : Svc) (cls : Cls) (dl po : Option Nat) (use : SqFor) :
    Reports d (sendSvcFor d f m cls dl po use).2 ∨
      Reports (handOwn d m (shipReq m)) (sendSvcFor d f m cls dl po use).2 := by
  unfold sendSvcFor
  split
  · exact .inr (emitWA_reports _ _)
  · split
    · exact .inl (.refl d)
    · exact .inl (postEntry_reports _ _ _)

theorem sendSvc_reports (d : Dev) (f : Nat) (m : Svc) :
    Reports d (sendSvc d f m).2 ∨ Reports (handOwn d m (shipReq m)) (sendSvc d f m).2 := sendSvcFor_reports d f m _ _ _ _

theorem pldmChange_reports (d : Dev) (sensor state : Nat) : Reports d (pldmChange d sensor state) := by
  unfold pldmChange
  split
  · exact .refl d
  · split <;> constructor <;> first | rfl | exact List.suffix_cons _ _

theorem setRing_reports (d : Dev) (r : Ring) : Reports d (setRing d r) := by constructor <;> rfl

theorem ringBreak_reports (d : Dev) (r : Ring) : Reports d (ringBreak d r) :=
  (setRing_reports _ _).trans (ctrAdd_reports _ _ _)

theorem startHeadRead_reports (d : Dev) (n : Nat) : Reports d (startHeadRead d n) := by
  unfold startHeadRead
  split
  · exact .refl d
  · exact .ite (.refl d) (.ite (ringBreak_reports _ _) ((setRing_reports _ _).trans
      (.ite (postEntry_reports _ _ _) (hostRead_reports _ _ _ _ _))))

theorem faultWritten_reports (d : Dev) (r : Ring) (bs : Bytes) : Reports d (faultWritten d r bs) := by
  unfold faultWritten
  simp only
  have h (d : Dev) (x : FaultRec) (a : Nat) : Reports d (ctrInc { d with flt := { d.flt with last := some x } } a) := by
    refine .trans ?_ (ctrInc_reports _ a)
    constructor <;> rfl
  split
  · exact h _ _ _
  · exact (h _ _ _).trans (msixRaise_reports _ _)

theorem ringWriteSlot_reports (d : Dev) (r : Ring) (rec : Bytes) : Reports d (ringWriteSlot d r rec) := by
  unfold ringWriteSlot
  extract_lets slot bs a d1 full d2 d3 d4
  have h1 : Reports d d1 := mirrorPush_reports _ _
  have h2 : Reports d1 d2 := setRing_reports _ _
  have h3 : Reports d2 d3 := .ite (postEntry_reports _ _ _) (hostWrite_reports _ _ _ _)
  have h4 : Reports d3 d4 := .ite (ctrInc_reports _ _) (.ite (faultWritten_reports _ _ _) (.refl _))
  have h := h1.trans (h2.trans (h3.trans h4))
  exact .ite (h.trans (startHeadRead_reports _ _)) h

theorem ringPutRaw_reports (d : Dev) (n : Nat) (rec : Bytes) (keep : Bool) : Reports d (ringPutRaw d n rec keep).2 := by
  unfold ringPutRaw
  split
  · exact ctrInc_reports _ _
  · split
    · exact ctrInc_reports _ _
    · split
      · exact ringWriteSlot_reports _ _ _
      · split
        · exact (setRing_reports _ _).trans (startHeadRead_reports _ _)
        · split
          · exact (ctrInc_reports _ _).trans (setRing_reports _ _)
          · exact ctrInc_reports _ _

theorem setAllowed_reports (d : Dev) (k s o t : Nat) : Reports d (setAllowed d k s o t) := by constructor <;> rfl

theorem faultPut_reports (d : Dev) (o : Nat) (f : FaultRec) : Reports d (faultPut d o f) := by
  unfold faultPut
  split
  · exact ringPutRaw_reports _ _ _ _
  · split
    · constructor <;> rfl
    · exact ctrInc_reports _ _

theorem unitPut_reports (d : Dev) (e : CoEntry) : Reports d (unitPut d e) := by
  unfold unitPut
  extract_lets d1 es f d2
  have h1 : Reports d d1 := faultPut_reports _ _ _
  have h2 : Reports d1 d2 := by constructor <;> rfl
  exact h1.trans (h2.trans (setAllowed_reports _ _ _ _ _))

theorem detectPut_reports (d : Dev) (o k s c d0 d1 : Nat) : Reports d (detectPut d o k s c d0 d1) := by
  unfold detectPut
  simp only
  refine (ctrInc_reports d cDetections).trans ?_
  split
  · refine (ctrInc_reports _ cCoalesceFull).trans ?_
    constructor <;> rfl
  · refine .ite ?_ ?_
    · refine .trans ?_ (unitPut_reports _ _)
      constructor <;> rfl
    · constructor <;> rfl

theorem tellBroken_reports (n : Nat) (d : Dev) : Reports d (tellBroken n d) := by
  induction n generalizing d with
  | zero => exact .refl d
  | succ n ih =>
    unfold tellBroken
    split
    · exact .refl d
    · refine .trans ((setRing_reports _ _).trans (.ite (detectPut_reports _ _ _ _ _ _ _) ?_)) (ih _)
      exact (faultPut_reports _ _ _).trans (ctrInc_reports _ _)

theorem brokenTold_reports (d : Dev) : Reports d (brokenTold d) := tellBroken_reports _ d

theorem faultWrite_reports (d : Dev) (o : Nat) (f : FaultRec) : Reports d (faultWrite d o f) :=
  (faultPut_reports d o f).trans (brokenTold_reports _)

theorem faultOp_reports (d : Dev) (ref : OpRef) (c st d0 d1 : Nat) : Reports d (faultOp d ref c st d0 d1) :=
  faultWrite_reports _ _ _

theorem faultPlain_reports (d : Dev) (c d0 d1 : Nat) : Reports d (faultPlain d c d0 d1) := faultWrite_reports _ _ _

theorem writeUnit_reports (d : Dev) (e : CoEntry) : Reports d (writeUnit d e) :=
  (unitPut_reports d e).trans (brokenTold_reports _)

theorem detectFor_reports (d : Dev) (o k s c d0 d1 : Nat) : Reports d (detectFor d o k s c d0 d1) :=
  (detectPut_reports d o k s c d0 d1).trans (brokenTold_reports _)

theorem detect_reports (d : Dev) (k s c d0 d1 : Nat) : Reports d (detect d k s c d0 d1) := detectFor_reports _ _ _ _ _ _ _

theorem detectDevice_reports (d : Dev) (c d0 d1 : Nat) : Reports d (detectDevice d c d0 d1) := detect_reports _ _ _ _ _ _

theorem ringPut_reports (d : Dev) (n : Nat) (rec : Bytes) (keep : Bool) : Reports d (ringPut d n rec keep) := by
  have h := ringPutRaw_reports d n rec keep
  unfold ringPut
  split
  · rename_i e he
    rw [he] at h
    exact h.trans (brokenTold_reports _)
  · rename_i e he
    rw [he] at h
    split
    · exact h.trans (detect_reports _ _ _ _ _ _)
    · exact h

theorem ringDrain_reports (n : Nat) (f : Nat) (d : Dev) : Reports d (ringDrain n f d) := by
  induction f generalizing d with
  | zero => exact .refl d
  | succ f ih =>
    unfold ringDrain
    split
    · exact .refl d
    · split
      · split
        · exact (setRing_reports _ _).trans (detectFor_reports _ _ _ _ _ _ _)
        · exact .refl d
      · split
        · exact .refl d
        · exact (ringWriteSlot_reports _ _ _).trans (ih _)

theorem putCompletion_reports (d : Dev) (ref : OpRef) (rec : Bytes) (keep : Bool) :
    Reports d (putCompletion d ref rec keep) := by
  unfold putCompletion
  split
  · constructor <;> rfl
  · exact ringPut_reports _ _ _ _

theorem releaseBehind_reports (d : Dev) : Reports d (releaseBehind d) := by
  refine .trans ?_ (.foldl _ (fun d _ => ringPut_reports d _ _ _) _ _)
  constructor <;> rfl

theorem complete_reports (d : Dev) (ref : OpRef) (st b r0 r1 : Nat) : Reports d (complete d ref st b r0 r1) := by
  unfold complete
  split
  · split
    · exact putCompletion_reports _ _ _ _
    · exact ctrInc_reports _ _
  · exact ctrInc_reports _ _

theorem finishOp_reports (d : Dev) (ref : OpRef) (st r0 r1 : Nat) : Reports d (finishOp d ref st r0 r1) := by
  unfold finishOp
  split
  · exact .refl d
  · exact complete_reports _ _ _ _ _ _

theorem refuse_reports (d : Dev) (ref : OpRef) (st : Nat) : Reports d (refuse d ref st) := complete_reports _ _ _ _ _ _

end Sys2Proof.Machine
end

