-- ==== Sys2Proof/Laws/Frees.lean ====
section
/-! SUPPORT. What freeing frames and stored pages can do: it changes the SAS, the bobbin units' slots, the mirror stream's
position, outputs and counters, and nothing else. -/

namespace Sys2Proof.Machine

open Sys2Proof

/-- `e` differs from `d` only in the SAS, bobbin units, the mirror stream, packet numbers, outputs and counters. -/
structure Frees (d e : Dev) : Prop where
  free : e.free = d.free
  clk : e.clk = d.clk
  boot : e.boot = d.boot
  img : e.img = d.img
  ready : e.ready = d.ready
  readyAt : e.readyAt = d.readyAt
  flt : e.flt = d.flt
  host : e.host = d.host
  sec : secCore e.sec = secCore d.sec
  mon : e.mon = d.mon
  intake : e.intake = d.intake
  rings : e.rings = d.rings
  weft : e.weft = d.weft
  adm : e.adm = d.adm
  ports : e.ports = d.ports
  reqs : e.reqs = d.reqs
  stk : e.stk = d.stk
  codecErr : e.codecErr = d.codecErr
  retr : e.retr = d.retr
  fab : e.fab = d.fab
  lines : e.lines = d.lines
  checks : e.checks = d.checks
  pair : pairCore e.pair = pairCore d.pair
  out : d.out <:+ e.out

theorem Frees.refl (d : Dev) : Frees d d := by
  constructor <;> rfl

theorem Frees.trans {a b c : Dev} (h : Frees a b) (k : Frees b c) : Frees a c where
  free := k.free.trans h.free
  clk := k.clk.trans h.clk
  boot := k.boot.trans h.boot
  img := k.img.trans h.img
  ready := k.ready.trans h.ready
  readyAt := k.readyAt.trans h.readyAt
  flt := k.flt.trans h.flt
  host := k.host.trans h.host
  sec := k.sec.trans h.sec
  mon := k.mon.trans h.mon
  intake := k.intake.trans h.intake
  rings := k.rings.trans h.rings
  weft := k.weft.trans h.weft
  adm := k.adm.trans h.adm
  ports := k.ports.trans h.ports
  reqs := k.reqs.trans h.reqs
  stk := k.stk.trans h.stk
  codecErr := k.codecErr.trans h.codecErr
  retr := k.retr.trans h.retr
  fab := k.fab.trans h.fab
  lines := k.lines.trans h.lines
  checks := k.checks.trans h.checks
  pair := k.pair.trans h.pair
  out := h.out.trans k.out

theorem Frees.foldl {α : Type} (f : Dev → α → Dev) (h : ∀ d x, Frees d (f d x)) (l : List α) (d : Dev) :
    Frees d (l.foldl f d) := by
  induction l generalizing d with
  | nil => exact .refl d
  | cons x xs ih => exact (h d x).trans (ih _)

theorem Frees.ite {d a b : Dev} {p : Prop} [Decidable p] (ha : Frees d a) (hb : Frees d b) : Frees d (if p then a else b) := by
  split <;> assumption

/-- A new SAS alone. -/
theorem sas_frees (d : Dev) (x : Sas) : Frees d { d with sas := x } := by
  constructor <;> rfl

theorem ctrAdd_frees (d : Dev) (a n : Nat) : Frees d (ctrAdd d a n) := by
  unfold ctrAdd; split <;> constructor <;> rfl

theorem sendSelvedge_frees (d : Dev) (op mseq : Nat) (error : Bool) (session : U64) (recs : List MirrorRec) :
    Frees d (sendSelvedge d op mseq error session recs) := by
  unfold sendSelvedge
  split
  · exact .refl d
  · rename_i a ha
    refine .ite ?_ (.refl d)
    constructor <;> first | rfl | exact (usePn_reports d a _ ha).sec | exact List.suffix_cons _ _

theorem mirrorPush_frees (d : Dev) (recs : List MirrorRec) : Frees d (mirrorPush d recs) := by
  unfold mirrorPush
  refine .ite (.foldl _ (fun d g => ?_) _ d) (.refl d)
  refine .trans ?_ ((ctrAdd_frees _ _ 1).trans (ctrAdd_frees _ _ _))
  refine .trans ?_ (sendSelvedge_frees _ _ _ _ _ _)
  constructor <;> rfl

theorem dropUnitSlot_frees (d : Dev) (f : Nat) : Frees d (dropUnitSlot d f) := by
  unfold dropUnitSlot
  split
  · exact .refl d
  · split
    · exact .refl d
    · constructor <;> rfl

theorem unmapFrames_frees (d : Dev) (o : Nat) (fs : List Nat) : Frees d (unmapFrames d o fs) := by
  unfold unmapFrames
  refine .ite (.refl d) ?_
  exact (Frees.foldl _ (fun d f => dropUnitSlot_frees d f) _ d).trans ((sas_frees _ _).trans (mirrorPush_frees _ _))

theorem collect_frees (d : Dev) : Frees d (collect d) := by
  unfold collect
  refine .trans (sas_frees _ _) (.trans (Frees.foldl _ (fun d b => ?_) _ _) (Frees.foldl _ (fun d r => ?_) _ _))
  · exact (sas_frees _ _).trans (unmapFrames_frees _ _ _)
  · exact .ite ((unmapFrames_frees _ _ _).trans (sas_frees _ _)) (unmapFrames_frees _ _ _)

theorem Frees.pairState {d e : Dev} (h : Frees d e) : e.pair.state = d.pair.state := by
  show (pairCore e.pair).state = (pairCore d.pair).state
  rw [h.pair]

end Sys2Proof.Machine
end

