-- ==== Sys2Proof/Laws/Memory.lean ====
section
/-! SUPPORT. The laws of sparse memory: every operation keeps the canonical form, a read after a write gives the byte written, and a
write leaves every other byte alone. -/

namespace Sys2Proof.Machine

open Sys2Proof

/-- The canonical form, as a fact about all entries: rising addresses, and none at the unlisted value. -/
theorem memWf_iff (d : Byte) (m : Mem) :
    memWf d m = true ↔ m.Pairwise (fun x y => x.1 < y.1) ∧ ∀ c ∈ m, c.2 ≠ d := by
  induction m with
  | nil => simp [memWf]
  | cons c t ih =>
    cases t with
    | nil => simp [memWf]
    | cons e t =>
      simp only [memWf, Bool.and_eq_true, decide_eq_true_eq, bne_iff_ne, ne_eq, ih, List.pairwise_cons,
        List.mem_cons, forall_eq_or_imp]
      constructor
      · rintro ⟨⟨hc, hlt⟩, ⟨⟨he, hp⟩, hn⟩⟩
        exact ⟨⟨⟨hlt, fun a ha => hlt.trans (he a ha)⟩, he, hp⟩, hc, hn⟩
      · rintro ⟨⟨⟨hlt, -⟩, he, hp⟩, hc, hn⟩
        exact ⟨⟨hc, hlt⟩, ⟨he, hp⟩, hn⟩

/-- Removing entries keeps the canonical form. -/
theorem memWf_filter (d : Byte) (m : Mem) (p : Host.Cell → Bool) (h : memWf d m = true) : memWf d (m.filter p) = true := by
  rw [memWf_iff] at *
  exact ⟨h.1.sublist List.filter_sublist, fun c hc => h.2 c (List.mem_of_mem_filter hc)⟩

theorem memInsert_mem (m : Mem) (a : Nat) (b : Byte) (c : Host.Cell) : c ∈ memInsert m a b ↔ c = (a, b) ∨ c ∈ m := by
  induction m with
  | nil => simp [memInsert]
  | cons x t ih =>
    unfold memInsert
    split
    · simp
    · simp only [List.mem_cons, ih]; tauto

/-- Inserting at an address that no entry lists keeps the canonical form. -/
theorem memWf_insert (d : Byte) (m : Mem) (a : Nat) (b : Byte) (h : memWf d m = true) (hb : b ≠ d) (ha : ∀ c ∈ m, c.1 ≠ a) :
    memWf d (memInsert m a b) = true := by
  rw [memWf_iff] at *
  refine ⟨?_, fun c hc => ?_⟩
  · obtain ⟨hp, -⟩ := h
    induction m with
    | nil => simp [memInsert]
    | cons x t ih =>
      unfold memInsert
      rw [List.pairwise_cons] at hp
      split
      · rename_i hlt
        refine List.pairwise_cons.mpr ⟨fun c hc => ?_, List.pairwise_cons.mpr hp⟩
        rcases List.mem_cons.mp hc with rfl | hc
        · exact hlt
        · exact hlt.trans (hp.1 c hc)
      · rename_i hlt
        refine List.pairwise_cons.mpr ⟨fun c hc => ?_, ih (fun c hc => ha c (List.mem_cons_of_mem _ hc)) hp.2⟩
        rcases (memInsert_mem t a b c).mp hc with rfl | hc
        · exact lt_of_le_of_ne (not_lt.mp hlt) (ha x List.mem_cons_self)
        · exact hp.1 c hc
  · rcases (memInsert_mem m a b c).mp hc with rfl | hc
    · exact hb
    · exact h.2 c hc

/-- Writing a byte keeps the canonical form. -/
theorem memWf_write (d : Byte) (m : Mem) (a : Nat) (b : Byte) (h : memWf d m = true) : memWf d (memWrite d m a b) = true := by
  unfold memWrite
  extract_lets rest
  have hr : memWf d rest = true := memWf_filter d m _ h
  split
  · exact hr
  · rename_i hb
    exact memWf_insert d rest a b hr hb (fun c hc => by simpa using (List.mem_filter.mp hc).2)

/-- Writing bytes keeps the canonical form. -/
theorem memWf_writeN (d : Byte) (bs : Bytes) (m : Mem) (a : Nat) (h : memWf d m = true) : memWf d (memWriteN d m a bs) = true := by
  induction bs generalizing m a with
  | nil => exact h
  | cons b bs ih => exact ih _ _ (memWf_write d m a b h)

/-- Clearing a range keeps the canonical form. -/
theorem memWf_clear (d : Byte) (m : Mem) (a n : Nat) (h : memWf d m = true) : memWf d (memClear m a n) = true :=
  memWf_filter d m _ h

theorem memRead_cons (d : Byte) (c : Host.Cell) (t : Mem) (x : Nat) :
    memRead d (c :: t) x = if c.1 = x then c.2 else memRead d t x := by
  unfold memRead tgetD tget
  by_cases h : c.1 = x
  · simp [h]
  · simp [h]

theorem memRead_insert (d : Byte) (m : Mem) (a : Nat) (b : Byte) (ha : ∀ c ∈ m, c.1 ≠ a) (x : Nat) :
    memRead d (memInsert m a b) x = if a = x then b else memRead d m x := by
  induction m with
  | nil => simp [memInsert, memRead_cons]
  | cons c t ih =>
    unfold memInsert
    split
    · rw [memRead_cons]
    · rw [memRead_cons, ih (fun e he => ha e (List.mem_cons_of_mem _ he)), memRead_cons]
      have := ha c List.mem_cons_self
      split_ifs <;> simp_all

theorem memRead_filter (d : Byte) (m : Mem) (p : Nat → Bool) (x : Nat) :
    memRead d (m.filter (fun c => p c.1)) x = if p x then memRead d m x else d := by
  induction m with
  | nil => simp [memRead, tgetD, tget]
  | cons c t ih =>
    by_cases hc : p c.1 = true
    · rw [List.filter_cons_of_pos (by simpa using hc), memRead_cons, ih, memRead_cons]
      by_cases hx : c.1 = x
      · subst hx; simp [hc]
      · simp [hx]
    · rw [List.filter_cons_of_neg (by simpa using hc), ih, memRead_cons]
      by_cases hx : c.1 = x
      · subst hx; simp [hc]
      · simp [hx]

/-- A read after a write: the byte written at its address, every other byte as before. -/
theorem memRead_write (d : Byte) (m : Mem) (a : Nat) (b : Byte) (x : Nat) :
    memRead d (memWrite d m a b) x = if a = x then b else memRead d m x := by
  have hf := memRead_filter d m (fun k => k != a) x
  unfold memWrite
  extract_lets rest
  split
  · rename_i hb
    rw [show memRead d rest x = _ from hf, hb]
    by_cases hx : a = x
    · subst hx; simp
    · simp [hx, Ne.symm hx]
  · rw [memRead_insert d rest a b (fun c hc => by simpa using (List.mem_filter.mp hc).2), show memRead d rest x = _ from hf]
    by_cases hx : a = x
    · simp [hx]
    · simp [hx, Ne.symm hx]

/-- A read after a write of several bytes: those bytes inside the range, every other byte as before. -/
theorem memRead_writeN (d : Byte) (bs : Bytes) (m : Mem) (a x : Nat) :
    memRead d (memWriteN d m a bs) x = if a ≤ x then bs.getD (x - a) (memRead d m x) else memRead d m x := by
  induction bs generalizing m a with
  | nil => simp [memWriteN]
  | cons b bs ih =>
    rw [memWriteN, ih, memRead_write]
    by_cases h : a ≤ x
    · obtain ⟨k, rfl⟩ := Nat.exists_eq_add_of_le h
      cases k with
      | zero => simp
      | succ k => simp [show a + 1 ≤ a + (k + 1) by omega, show a + (k + 1) - (a + 1) = k by omega]
    · simp [h, show ¬ a + 1 ≤ x by omega, show a ≠ x by omega]

/-- A read after clearing a range: the unlisted value inside it, every other byte as before. -/
theorem memRead_clear (d : Byte) (m : Mem) (a n x : Nat) :
    memRead d (memClear m a n) x = if a ≤ x ∧ x < a + n then d else memRead d m x := by
  have hf := memRead_filter d m (fun k => decide (k < a) || decide (a + n ≤ k)) x
  unfold memClear
  rw [hf]
  by_cases h : a ≤ x ∧ x < a + n
  · simp [h, show ¬ x < a by omega, show ¬ a + n ≤ x by omega]
  · rw [if_neg h, if_pos]; simp; omega

end Sys2Proof.Machine
end

