-- ==== Sys2Proof/Laws/PerInstr.lean ====
section
/-! SUPPORT. Statements about every command, made one constructor at a time. The family TimeMoves says of the frame table
of Safety.lean which commands it lets move local time: a rising edge of the reference (R65) and the resets of the device. -/

namespace Sys2Proof.Laws.TimeMoves

set_option Elab.async false

open Sys2Proof Sys2Proof.Machine

/-- A rising edge of the reference. -/
def isEdge (c : Instr) : Bool := match c with
  | .referenceEdge => true
  | _ => false

/-- The frame lets the command move local time only if it is a reference edge or can reset the device; and a command that can reset the
device may change READY, time, requests, skeins and keys. -/
def Statement (c : Instr) : Prop :=
  ((!(mayChange c).contains .time || isEdge c || resetsDevice c) &&
    (!resetsDevice c || [Part.time, .ready, .requests, .skeins, .keys].all (mayChange c).contains)) = true

theorem powerOnReset : Statement (.powerOnReset) := rfl
theorem systemReset : ∀ x0, Statement (.systemReset x0) := by intros; rfl
theorem fundamentalReset : Statement (.fundamentalReset) := rfl
theorem endOfReset : ∀ x0 x1 x2 x3 x4, Statement (.endOfReset x0 x1 x2 x3 x4) := by intros; rfl
theorem imageLoad : ∀ x0 x1, Statement (.imageLoad x0 x1) := by intros; rfl
theorem vaultSectionsLoad : ∀ x0, Statement (.vaultSectionsLoad x0) := by intros; rfl
theorem stackTrainingDone : ∀ x0 x1, Statement (.stackTrainingDone x0 x1) := by intros; rfl
theorem channelScanDone : ∀ x0 x1 x2, Statement (.channelScanDone x0 x1 x2) := by intros; rfl
theorem tileSelfTestDone : ∀ x0 x1, Statement (.tileSelfTestDone x0 x1) := by intros; rfl
theorem referenceLoss : Statement (.referenceLoss) := rfl
theorem pllLockLoss : ∀ x0, Statement (.pllLockLoss x0) := by intros; rfl
theorem pllRelocked : ∀ x0, Statement (.pllRelocked x0) := by intros; rfl
theorem railMeasurement : ∀ x0 x1, Statement (.railMeasurement x0 x1) := by intros; rfl
theorem dieTempSample : ∀ x0 x1 x2, Statement (.dieTempSample x0 x1 x2) := by intros; rfl
theorem registerWrite : ∀ x0 x1 x2 x3, Statement (.registerWrite x0 x1 x2 x3) := by intros; rfl
theorem reqLaneResync : ∀ x0 x1, Statement (.reqLaneResync x0 x1) := by intros; rfl
theorem secZeroize : ∀ x0 x1, Statement (.secZeroize x0 x1) := by intros; rfl
theorem connCreate : ∀ x0 x1 x2, Statement (.connCreate x0 x1 x2) := by intros; rfl
theorem connModify : ∀ x0 x1 x2, Statement (.connModify x0 x1 x2) := by intros; rfl
theorem connReset : ∀ x0 x1 x2, Statement (.connReset x0 x1 x2) := by intros; rfl
theorem connDestroy : ∀ x0 x1, Statement (.connDestroy x0 x1) := by intros; rfl
theorem connDestroyDrained : ∀ x0, Statement (.connDestroyDrained x0) := by intros; rfl
theorem regionCreate : ∀ x0 x1 x2, Statement (.regionCreate x0 x1 x2) := by intros; rfl
theorem regionRevoke : ∀ x0 x1, Statement (.regionRevoke x0 x1) := by intros; rfl
theorem regionRevokeDrained : ∀ x0, Statement (.regionRevokeDrained x0) := by intros; rfl
theorem lineQueueSetup : ∀ x0 x1, Statement (.lineQueueSetup x0 x1) := by intros; rfl
theorem lineQueueTeardown : ∀ x0 x1, Statement (.lineQueueTeardown x0 x1) := by intros; rfl
theorem intakeLaneVisit : ∀ x0, Statement (.intakeLaneVisit x0) := by intros; rfl
theorem laneSetup : ∀ x0 x1, Statement (.laneSetup x0 x1) := by intros; rfl
theorem ringSetup : ∀ x0 x1, Statement (.ringSetup x0 x1) := by intros; rfl
theorem ringTeardown : ∀ x0 x1, Statement (.ringTeardown x0 x1) := by intros; rfl
theorem openReq : ∀ x0 x1 x2, Statement (.openReq x0 x1 x2) := by intros; rfl
theorem prefillDone : ∀ x0 x1 x2, Statement (.prefillDone x0 x1 x2) := by intros; rfl
theorem cancel : ∀ x0 x1, Statement (.cancel x0 x1) := by intros; rfl
theorem step : ∀ x0 x1, Statement (.step x0 x1) := by intros; rfl
theorem query : ∀ x0 x1 x2, Statement (.query x0 x1 x2) := by intros; rfl
theorem stopSetDefine : ∀ x0 x1, Statement (.stopSetDefine x0 x1) := by intros; rfl
theorem stopSetDelete : ∀ x0 x1, Statement (.stopSetDelete x0 x1) := by intros; rfl
theorem copyRange : ∀ x0 x1 x2, Statement (.copyRange x0 x1 x2) := by intros; rfl
theorem copyPages : ∀ x0 x1, Statement (.copyPages x0 x1) := by intros; rfl
theorem promote : ∀ x0 x1, Statement (.promote x0 x1) := by intros; rfl
theorem header : ∀ x0 x1, Statement (.header x0 x1) := by intros; rfl
theorem locate : ∀ x0 x1, Statement (.locate x0 x1) := by intros; rfl
theorem flush : ∀ x0 x1, Statement (.flush x0 x1) := by intros; rfl
theorem waitOnly : ∀ x0 x1, Statement (.waitOnly x0 x1) := by intros; rfl
theorem check : ∀ x0 x1, Statement (.check x0 x1) := by intros; rfl
theorem checkContinue : ∀ x0 x1, Statement (.checkContinue x0 x1) := by intros; rfl
theorem checkCommandDone : ∀ x0 x1 x2, Statement (.checkCommandDone x0 x1 x2) := by intros; rfl
theorem stepCommit : ∀ x0, Statement (.stepCommit x0) := by intros; rfl
theorem hashBlockDone : ∀ x0 x1, Statement (.hashBlockDone x0 x1) := by intros; rfl
theorem skeinOpen : ∀ x0 x1 x2 x3, Statement (.skeinOpen x0 x1 x2 x3) := by intros; rfl
theorem skeinOpenReply : ∀ x0 x1 x2 x3, Statement (.skeinOpenReply x0 x1 x2 x3) := by intros; rfl
theorem skeinOpenTimeout : ∀ x0, Statement (.skeinOpenTimeout x0) := by intros; rfl
theorem lookup : ∀ x0 x1 x2 x3, Statement (.lookup x0 x1 x2 x3) := by intros; rfl
theorem lookupReply : ∀ x0 x1 x2 x3 x4, Statement (.lookupReply x0 x1 x2 x3 x4) := by intros; rfl
theorem prefixFetch : ∀ x0 x1 x2 x3, Statement (.prefixFetch x0 x1 x2 x3) := by intros; rfl
theorem landingPageTaken : ∀ x0 x1 x2, Statement (.landingPageTaken x0 x1 x2) := by intros; rfl
theorem place : ∀ x0 x1 x2 x3 x4, Statement (.place x0 x1 x2 x3 x4) := by intros; rfl
theorem abort : ∀ x0 x1 x2, Statement (.abort x0 x1 x2) := by intros; rfl
theorem skeinAbortDrained : ∀ x0, Statement (.skeinAbortDrained x0) := by intros; rfl
theorem release : ∀ x0 x1 x2, Statement (.release x0 x1 x2) := by intros; rfl
theorem stateReply : ∀ x0 x1 x2 x3, Statement (.stateReply x0 x1 x2 x3) := by intros; rfl
theorem endingTimeout : ∀ x0, Statement (.endingTimeout x0) := by intros; rfl
theorem handoff : ∀ x0 x1 x2 x3, Statement (.handoff x0 x1 x2 x3) := by intros; rfl
theorem handoffReply : ∀ x0 x1 x2, Statement (.handoffReply x0 x1 x2) := by intros; rfl
theorem handoffTimeout : ∀ x0, Statement (.handoffTimeout x0) := by intros; rfl
theorem window : ∀ x0 x1 x2 x3, Statement (.window x0 x1 x2 x3) := by intros; rfl
theorem sealed : ∀ x0 x1 x2 x3, Statement (.sealed x0 x1 x2 x3) := by intros; rfl
theorem svcCancel : ∀ x0 x1, Statement (.svcCancel x0 x1) := by intros; rfl
theorem reqAbort : ∀ x0 x1 x2 x3, Statement (.reqAbort x0 x1 x2 x3) := by intros; rfl
theorem shipmentFlushDone : ∀ x0 x1 x2, Statement (.shipmentFlushDone x0 x1 x2) := by intros; rfl
theorem appendFlushDone : ∀ x0 x1, Statement (.appendFlushDone x0 x1) := by intros; rfl
theorem farJob : ∀ x0 x1 x2 x3 x4, Statement (.farJob x0 x1 x2 x3 x4) := by intros; rfl
theorem admissionReplyRelease : Statement (.admissionReplyRelease) := rfl
theorem stageComplete : ∀ x0 x1, Statement (.stageComplete x0 x1) := by intros; rfl
theorem deadlineWatch : ∀ x0, Statement (.deadlineWatch x0) := by intros; rfl
theorem heddleScan : ∀ x0 x1, Statement (.heddleScan x0 x1) := by intros; rfl
theorem heddleWalk : ∀ x0 x1, Statement (.heddleWalk x0 x1) := by intros; rfl
theorem roundCheck : ∀ x0, Statement (.roundCheck x0) := by intros; rfl
theorem partialReceived : ∀ x0 x1 x2, Statement (.partialReceived x0 x1 x2) := by intros; rfl
theorem runCommandArrival : ∀ x0 x1, Statement (.runCommandArrival x0 x1) := by intros; rfl
theorem runCommandEnd : ∀ x0 x1 x2 x3, Statement (.runCommandEnd x0 x1 x2 x3) := by intros; rfl
theorem shadowCheckDone : ∀ x0 x1 x2 x3 x4 x5, Statement (.shadowCheckDone x0 x1 x2 x3 x4 x5) := by intros; rfl
theorem runStallTimeout : ∀ x0, Statement (.runStallTimeout x0) := by intros; rfl
theorem runResetDone : ∀ x0, Statement (.runResetDone x0) := by intros; rfl
theorem blockCompress : ∀ x0 x1 x2, Statement (.blockCompress x0 x1 x2) := by intros; rfl
theorem blockExpand : ∀ x0 x1 x2 x3 x4 x5, Statement (.blockExpand x0 x1 x2 x3 x4 x5) := by intros; rfl
theorem layerWalkDone : ∀ x0 x1, Statement (.layerWalkDone x0 x1) := by intros; rfl
theorem framePromotionDone : ∀ x0 x1, Statement (.framePromotionDone x0 x1) := by intros; rfl
theorem stackReclaim : Statement (.stackReclaim) := rfl
theorem bobbinReclaim : Statement (.bobbinReclaim) := rfl
theorem pageDemotionDone : ∀ x0 x1 x2, Statement (.pageDemotionDone x0 x1 x2) := by intros; rfl
theorem stackTempSample : ∀ x0, Statement (.stackTempSample x0) := by intros; rfl
theorem stackHotClear : Statement (.stackHotClear) := rfl
theorem scrubRead : ∀ x0 x1 x2 x3, Statement (.scrubRead x0 x1 x2 x3) := by intros; rfl
theorem stackCommandTimeout : ∀ x0, Statement (.stackCommandTimeout x0) := by intros; rfl
theorem stackRetire : ∀ x0 x1, Statement (.stackRetire x0 x1) := by intros; rfl
theorem stackRetireComplete : ∀ x0, Statement (.stackRetireComplete x0) := by intros; rfl
theorem bobbinReadAttempt : ∀ x0 x1 x2, Statement (.bobbinReadAttempt x0 x1 x2) := by intros; rfl
theorem bobbinProgramDone : ∀ x0 x1 x2, Statement (.bobbinProgramDone x0 x1 x2) := by intros; rfl
theorem bobbinEraseDone : ∀ x0 x1, Statement (.bobbinEraseDone x0 x1) := by intros; rfl
theorem bobbinGc : ∀ x0 x1, Statement (.bobbinGc x0 x1) := by intros; rfl
theorem blockRetentionExpiry : ∀ x0, Statement (.blockRetentionExpiry x0) := by intros; rfl
theorem targetTimeout : ∀ x0 x1, Statement (.targetTimeout x0 x1) := by intros; rfl
theorem sendEntryStart : ∀ x0, Statement (.sendEntryStart x0) := by intros; rfl
theorem sendWaitTimeout : ∀ x0, Statement (.sendWaitTimeout x0) := by intros; rfl
theorem write : ∀ x0, Statement (.write x0) := by intros; rfl
theorem send : ∀ x0, Statement (.send x0) := by intros; rfl
theorem readReq : ∀ x0, Statement (.readReq x0) := by intros; rfl
theorem readResp : ∀ x0, Statement (.readResp x0) := by intros; rfl
theorem flushPacket : ∀ x0, Statement (.flushPacket x0) := by intros; rfl
theorem ack : ∀ x0, Statement (.ack x0) := by intros; rfl
theorem sack : ∀ x0, Statement (.sack x0) := by intros; rfl
theorem nak : ∀ x0, Statement (.nak x0) := by intros; rfl
theorem probe : ∀ x0, Statement (.probe x0) := by intros; rfl
theorem retransmissionTimeout : ∀ x0 x1, Statement (.retransmissionTimeout x0 x1) := by intros; rfl
theorem lineRd : ∀ x0 x1 x2, Statement (.lineRd x0 x1 x2) := by intros; rfl
theorem lineWr : ∀ x0 x1, Statement (.lineWr x0 x1) := by intros; rfl
theorem rdData : ∀ x0, Statement (.rdData x0) := by intros; rfl
theorem wrDone : ∀ x0, Statement (.wrDone x0) := by intros; rfl
theorem lineNak : ∀ x0, Statement (.lineNak x0) := by intros; rfl
theorem lineQueuePoll : ∀ x0 x1, Statement (.lineQueuePoll x0 x1) := by intros; rfl
theorem lineRead : ∀ x0 x1, Statement (.lineRead x0 x1) := by intros; rfl
theorem lineWrite : ∀ x0 x1, Statement (.lineWrite x0 x1) := by intros; rfl
theorem lineReadResend : ∀ x0, Statement (.lineReadResend x0) := by intros; rfl
theorem lineDeadTimeout : ∀ x0, Statement (.lineDeadTimeout x0) := by intros; rfl
theorem ringHeadReadDone : ∀ x0 x1, Statement (.ringHeadReadDone x0 x1) := by intros; rfl
theorem ringStallTimeout : ∀ x0, Statement (.ringStallTimeout x0) := by intros; rfl
theorem hostReadCompletion : ∀ x0 x1, Statement (.hostReadCompletion x0 x1) := by intros; rfl
theorem hostLinkDown : Statement (.hostLinkDown) := rfl
theorem hostLinkUp : ∀ x0 x1, Statement (.hostLinkUp x0 x1) := by intros; rfl
theorem vfFunctionLevelReset : ∀ x0, Statement (.vfFunctionLevelReset x0) := by intros; rfl
theorem pfFunctionLevelReset : ∀ x0, Statement (.pfFunctionLevelReset x0) := by intros; rfl
theorem msixIntervalExpiry : ∀ x0, Statement (.msixIntervalExpiry x0) := by intros; rfl
theorem doeRequest : ∀ x0, Statement (.doeRequest x0) := by intros; rfl
theorem doeAbort : Statement (.doeAbort) := rfl
theorem lockInterface : ∀ x0 x1, Statement (.lockInterface x0 x1) := by intros; rfl
theorem stopInterface : ∀ x0, Statement (.stopInterface x0) := by intros; rfl
theorem getDeviceInterfaceReport : ∀ x0, Statement (.getDeviceInterfaceReport x0) := by intros; rfl
theorem tdispInterfaceError : ∀ x0 x1, Statement (.tdispInterfaceError x0 x1) := by intros; rfl
theorem portTrainingDone : ∀ x0 x1 x2, Statement (.portTrainingDone x0 x1 x2) := by intros; rfl
theorem portRetrainTimer : ∀ x0, Statement (.portRetrainTimer x0) := by intros; rfl
theorem portLinkLoss : ∀ x0, Statement (.portLinkLoss x0) := by intros; rfl
theorem ingressFrame : ∀ x0 x1, Statement (.ingressFrame x0 x1) := by intros; rfl
theorem neighborSolicitation : ∀ x0 x1, Statement (.neighborSolicitation x0 x1) := by intros; rfl
theorem pfcFrame : ∀ x0 x1 x2, Statement (.pfcFrame x0 x1 x2) := by intros; rfl
theorem pfcXoffRefresh : ∀ x0 x1, Statement (.pfcXoffRefresh x0 x1) := by intros; rfl
theorem linkWordAck : ∀ x0 x1, Statement (.linkWordAck x0 x1) := by intros; rfl
theorem linkWordNack : ∀ x0 x1, Statement (.linkWordNack x0 x1) := by intros; rfl
theorem linkWordCredit : ∀ x0 x1, Statement (.linkWordCredit x0 x1) := by intros; rfl
theorem linkWordSkip : ∀ x0 x1, Statement (.linkWordSkip x0 x1) := by intros; rfl
theorem linkWordLane : ∀ x0 x1, Statement (.linkWordLane x0 x1) := by intros; rfl
theorem llrTimeout : ∀ x0, Statement (.llrTimeout x0) := by intros; rfl
theorem creditStall : ∀ x0 x1, Statement (.creditStall x0 x1) := by intros; rfl
theorem egressFrameStart : ∀ x0 x1, Statement (.egressFrameStart x0 x1) := by intros; rfl
theorem gateEntryBoundary : ∀ x0, Statement (.gateEntryBoundary x0) := by intros; rfl
theorem gateSwitch : ∀ x0 x1 x2 x3, Statement (.gateSwitch x0 x1 x2 x3) := by intros; rfl
theorem gateSwitchover : ∀ x0, Statement (.gateSwitchover x0) := by intros; rfl
theorem fence : ∀ x0 x1, Statement (.fence x0 x1) := by intros; rfl
theorem unfence : ∀ x0 x1, Statement (.unfence x0 x1) := by intros; rfl
theorem saOpen : ∀ x0 x1, Statement (.saOpen x0 x1) := by intros; rfl
theorem saClose : ∀ x0 x1, Statement (.saClose x0 x1) := by intros; rfl
theorem saHello : ∀ x0, Statement (.saHello x0) := by intros; rfl
theorem saReply : ∀ x0, Statement (.saReply x0) := by intros; rfl
theorem saFinish : ∀ x0, Statement (.saFinish x0) := by intros; rfl
theorem saHandshakeTimeout : ∀ x0, Statement (.saHandshakeTimeout x0) := by intros; rfl
theorem zeroize : ∀ x0, Statement (.zeroize x0) := by intros; rfl
theorem selfTest : ∀ x0 x1, Statement (.selfTest x0 x1) := by intros; rfl
theorem entropyHealthFailure : Statement (.entropyHealthFailure) := rfl
theorem takeover : ∀ x0 x1 x2, Statement (.takeover x0 x1 x2) := by intros; rfl
theorem takeoverRelease : ∀ x0 x1 x2, Statement (.takeoverRelease x0 x1 x2) := by intros; rfl
theorem custodyEnter : ∀ x0, Statement (.custodyEnter x0) := by intros; rfl
theorem readmit : ∀ x0, Statement (.readmit x0) := by intros; rfl
theorem readmitChecksDone : ∀ x0 x1 x2 x3, Statement (.readmitChecksDone x0 x1 x2 x3) := by intros; rfl
theorem imageSwitch : ∀ x0 x1 x2, Statement (.imageSwitch x0 x1 x2) := by intros; rfl
theorem imageSwitchDrainTimeout : Statement (.imageSwitchDrainTimeout) := rfl
theorem imageSwitchWindowEnd : Statement (.imageSwitchWindowEnd) := rfl
theorem getVersion : Statement (.getVersion) := rfl
theorem getCapabilities : Statement (.getCapabilities) := rfl
theorem negotiateAlgorithms : Statement (.negotiateAlgorithms) := rfl
theorem getDigests : Statement (.getDigests) := rfl
theorem getCertificate : ∀ x0, Statement (.getCertificate x0) := by intros; rfl
theorem challenge : Statement (.challenge) := rfl
theorem getMeasurements : ∀ x0 x1, Statement (.getMeasurements x0 x1) := by intros; rfl
theorem keyExchange : Statement (.keyExchange) := rfl
theorem finish : ∀ x0, Statement (.finish x0) := by intros; rfl
theorem keyUpdate : ∀ x0, Statement (.keyUpdate x0) := by intros; rfl
theorem spdmHeartbeat : ∀ x0, Statement (.spdmHeartbeat x0) := by intros; rfl
theorem endSession : ∀ x0, Statement (.endSession x0) := by intros; rfl
theorem vendorDefinedRequest : ∀ x0 x1 x2, Statement (.vendorDefinedRequest x0 x1 x2) := by intros; rfl
theorem regRead : ∀ x0 x1 x2, Statement (.regRead x0 x1 x2) := by intros; rfl
theorem mctpSigned : ∀ x0 x1 x2, Statement (.mctpSigned x0 x1 x2) := by intros; rfl
theorem slotProgram : ∀ x0 x1 x2, Statement (.slotProgram x0 x1 x2) := by intros; rfl
theorem registerSnapshotRefresh : Statement (.registerSnapshotRefresh) := rfl
theorem getTid : Statement (.getTid) := rfl
theorem getPdr : ∀ x0, Statement (.getPdr x0) := by intros; rfl
theorem getPdrRepositoryInfo : Statement (.getPdrRepositoryInfo) := rfl
theorem getSensorReading : ∀ x0, Statement (.getSensorReading x0) := by intros; rfl
theorem getStateSensorReadings : ∀ x0, Statement (.getStateSensorReadings x0) := by intros; rfl
theorem setEventReceiver : ∀ x0, Statement (.setEventReceiver x0) := by intros; rfl
theorem platformEventAcknowledged : Statement (.platformEventAcknowledged) := rfl
theorem platformEventResend : Statement (.platformEventResend) := rfl
theorem requestUpdate : ∀ x0, Statement (.requestUpdate x0) := by intros; rfl
theorem verifyComplete : ∀ x0 x1, Statement (.verifyComplete x0 x1) := by intros; rfl
theorem applyComplete : Statement (.applyComplete) := rfl
theorem activateFirmware : Statement (.activateFirmware) := rfl
theorem watchdogExpiry : ∀ x0, Statement (.watchdogExpiry x0) := by intros; rfl
theorem controlCoreResetDone : Statement (.controlCoreResetDone) := rfl
theorem heartbeatSend : Statement (.heartbeatSend) := rfl
theorem heartbeat : ∀ x0 x1 x2, Statement (.heartbeat x0 x1 x2) := by intros; rfl
theorem partnerLoss : Statement (.partnerLoss) := rfl
theorem mirror : ∀ x0 x1 x2, Statement (.mirror x0 x1 x2) := by intros; rfl
theorem mack : ∀ x0 x1 x2, Statement (.mack x0 x1 x2) := by intros; rfl
theorem resyncDone : ∀ x0, Statement (.resyncDone x0) := by intros; rfl
theorem coalesceNextAllowed : ∀ x0 x1, Statement (.coalesceNextAllowed x0 x1) := by intros; rfl
theorem coalesceFullReport : Statement (.coalesceFullReport) := rfl
theorem intakeWindowWrite : ∀ x0 x1 x2, Statement (.intakeWindowWrite x0 x1 x2) := by intros; rfl
theorem startInterface : ∀ x0, Statement (.startInterface x0) := by intros; rfl
theorem referenceEdge : Statement (.referenceEdge) := rfl
theorem pcieConfigurationWrite : ∀ x0, Statement (.pcieConfigurationWrite x0) := by intros; rfl
theorem msixVectorUnmask : ∀ x0, Statement (.msixVectorUnmask x0) := by intros; rfl
theorem pauseExpiry : ∀ x0 x1, Statement (.pauseExpiry x0 x1) := by intros; rfl
theorem componentWrite : ∀ x0 x1 x2, Statement (.componentWrite x0 x1 x2) := by intros; rfl

end Sys2Proof.Laws.TimeMoves

theorem Sys2Proof.Laws.TimeMoves.seal : ∀ x0 x1 x2, Sys2Proof.Laws.TimeMoves.Statement (.seal x0 x1 x2) := by intros; rfl
end

