-- ==== Sys2Proof/Laws/State.lean ====
section
/-! SUPPORT. The small lemmas of State: what each update leaves of each field, so that later proofs unfold no record update; and the
laws of tables. -/

namespace Sys2Proof.Machine

open Sys2Proof

variable (s : State) (d e : Dev)

@[simp] theorem State.setDev_dev : (s.setDev d).dev = d := rfl
@[simp] theorem State.setDev_pending : (s.setDev d).pending = s.pending := rfl
@[simp] theorem State.setDev_nor : (s.setDev d).nor = s.nor := rfl
@[simp] theorem State.setDev_norBytes : (s.setDev d).norBytes = s.norBytes := rfl
@[simp] theorem State.setDev_fuses : (s.setDev d).fuses = s.fuses := rfl
@[simp] theorem State.setDev_setDev : (s.setDev d).setDev e = s.setDev e := rfl
@[simp] theorem State.setDev_self : s.setDev s.dev = s := rfl

/-- Every meaning of the form `onDev f` completes, with the device that `f` gives and the rest kept. -/
theorem onDev_next (f : Dev → Dev) : onDev f s = .next (s.setDev (f s.dev)) := rfl


@[simp] theorem emit_free (x : Out) : (emit d x).free = d.free := rfl
@[simp] theorem emit_clk (x : Out) : (emit d x).clk = d.clk := rfl
@[simp] theorem emit_boot (x : Out) : (emit d x).boot = d.boot := rfl
@[simp] theorem emit_img (x : Out) : (emit d x).img = d.img := rfl
@[simp] theorem emit_ready (x : Out) : (emit d x).ready = d.ready := rfl
@[simp] theorem emit_readyAt (x : Out) : (emit d x).readyAt = d.readyAt := rfl
@[simp] theorem emit_ctr (x : Out) : (emit d x).ctr = d.ctr := rfl
@[simp] theorem emit_flt (x : Out) : (emit d x).flt = d.flt := rfl
@[simp] theorem emit_pair (x : Out) : (emit d x).pair = d.pair := rfl
@[simp] theorem emit_host (x : Out) : (emit d x).host = d.host := rfl
@[simp] theorem emit_sec (x : Out) : (emit d x).sec = d.sec := rfl
@[simp] theorem emit_mon (x : Out) : (emit d x).mon = d.mon := rfl
@[simp] theorem emit_intake (x : Out) : (emit d x).intake = d.intake := rfl
@[simp] theorem emit_rings (x : Out) : (emit d x).rings = d.rings := rfl
@[simp] theorem emit_weft (x : Out) : (emit d x).weft = d.weft := rfl
@[simp] theorem emit_adm (x : Out) : (emit d x).adm = d.adm := rfl
@[simp] theorem emit_ports (x : Out) : (emit d x).ports = d.ports := rfl
@[simp] theorem emit_reqs (x : Out) : (emit d x).reqs = d.reqs := rfl
@[simp] theorem emit_sas (x : Out) : (emit d x).sas = d.sas := rfl
@[simp] theorem emit_stk (x : Out) : (emit d x).stk = d.stk := rfl
@[simp] theorem emit_bob (x : Out) : (emit d x).bob = d.bob := rfl
@[simp] theorem emit_codecErr (x : Out) : (emit d x).codecErr = d.codecErr := rfl
@[simp] theorem emit_retr (x : Out) : (emit d x).retr = d.retr := rfl
@[simp] theorem emit_fab (x : Out) : (emit d x).fab = d.fab := rfl
@[simp] theorem emit_lines (x : Out) : (emit d x).lines = d.lines := rfl
@[simp] theorem emit_checks (x : Out) : (emit d x).checks = d.checks := rfl
@[simp] theorem emit_out (x : Out) : (emit d x).out = x :: d.out := rfl

@[simp] theorem setConn_out (c : Conn) : (setConn d c).out = d.out := rfl
@[simp] theorem setConn_free (c : Conn) : (setConn d c).free = d.free := rfl
@[simp] theorem setConn_clk (c : Conn) : (setConn d c).clk = d.clk := rfl
@[simp] theorem setConn_boot (c : Conn) : (setConn d c).boot = d.boot := rfl
@[simp] theorem setConn_img (c : Conn) : (setConn d c).img = d.img := rfl
@[simp] theorem setConn_ready (c : Conn) : (setConn d c).ready = d.ready := rfl
@[simp] theorem setConn_readyAt (c : Conn) : (setConn d c).readyAt = d.readyAt := rfl
@[simp] theorem setConn_ctr (c : Conn) : (setConn d c).ctr = d.ctr := rfl
@[simp] theorem setConn_flt (c : Conn) : (setConn d c).flt = d.flt := rfl
@[simp] theorem setConn_pair (c : Conn) : (setConn d c).pair = d.pair := rfl
@[simp] theorem setConn_host (c : Conn) : (setConn d c).host = d.host := rfl
@[simp] theorem setConn_sec (c : Conn) : (setConn d c).sec = d.sec := rfl
@[simp] theorem setConn_mon (c : Conn) : (setConn d c).mon = d.mon := rfl
@[simp] theorem setConn_intake (c : Conn) : (setConn d c).intake = d.intake := rfl
@[simp] theorem setConn_rings (c : Conn) : (setConn d c).rings = d.rings := rfl
@[simp] theorem setConn_adm (c : Conn) : (setConn d c).adm = d.adm := rfl
@[simp] theorem setConn_ports (c : Conn) : (setConn d c).ports = d.ports := rfl
@[simp] theorem setConn_reqs (c : Conn) : (setConn d c).reqs = d.reqs := rfl
@[simp] theorem setConn_sas (c : Conn) : (setConn d c).sas = d.sas := rfl
@[simp] theorem setConn_stk (c : Conn) : (setConn d c).stk = d.stk := rfl
@[simp] theorem setConn_bob (c : Conn) : (setConn d c).bob = d.bob := rfl
@[simp] theorem setConn_codecErr (c : Conn) : (setConn d c).codecErr = d.codecErr := rfl
@[simp] theorem setConn_retr (c : Conn) : (setConn d c).retr = d.retr := rfl
@[simp] theorem setConn_fab (c : Conn) : (setConn d c).fab = d.fab := rfl
@[simp] theorem setConn_lines (c : Conn) : (setConn d c).lines = d.lines := rfl
@[simp] theorem setConn_checks (c : Conn) : (setConn d c).checks = d.checks := rfl
@[simp] theorem setConn_regions (c : Conn) : (setConn d c).weft.regions = d.weft.regions := rfl
@[simp] theorem setConn_trackers (c : Conn) : (setConn d c).weft.trackers = d.weft.trackers := rfl

@[simp] theorem setRing_out (r : Ring) : (setRing d r).out = d.out := rfl
@[simp] theorem setRing_free (r : Ring) : (setRing d r).free = d.free := rfl
@[simp] theorem setRing_clk (r : Ring) : (setRing d r).clk = d.clk := rfl
@[simp] theorem setRing_boot (r : Ring) : (setRing d r).boot = d.boot := rfl
@[simp] theorem setRing_img (r : Ring) : (setRing d r).img = d.img := rfl
@[simp] theorem setRing_ready (r : Ring) : (setRing d r).ready = d.ready := rfl
@[simp] theorem setRing_readyAt (r : Ring) : (setRing d r).readyAt = d.readyAt := rfl
@[simp] theorem setRing_ctr (r : Ring) : (setRing d r).ctr = d.ctr := rfl
@[simp] theorem setRing_flt (r : Ring) : (setRing d r).flt = d.flt := rfl
@[simp] theorem setRing_pair (r : Ring) : (setRing d r).pair = d.pair := rfl
@[simp] theorem setRing_host (r : Ring) : (setRing d r).host = d.host := rfl
@[simp] theorem setRing_sec (r : Ring) : (setRing d r).sec = d.sec := rfl
@[simp] theorem setRing_mon (r : Ring) : (setRing d r).mon = d.mon := rfl
@[simp] theorem setRing_intake (r : Ring) : (setRing d r).intake = d.intake := rfl
@[simp] theorem setRing_weft (r : Ring) : (setRing d r).weft = d.weft := rfl
@[simp] theorem setRing_adm (r : Ring) : (setRing d r).adm = d.adm := rfl
@[simp] theorem setRing_ports (r : Ring) : (setRing d r).ports = d.ports := rfl
@[simp] theorem setRing_reqs (r : Ring) : (setRing d r).reqs = d.reqs := rfl
@[simp] theorem setRing_sas (r : Ring) : (setRing d r).sas = d.sas := rfl
@[simp] theorem setRing_stk (r : Ring) : (setRing d r).stk = d.stk := rfl
@[simp] theorem setRing_bob (r : Ring) : (setRing d r).bob = d.bob := rfl
@[simp] theorem setRing_codecErr (r : Ring) : (setRing d r).codecErr = d.codecErr := rfl
@[simp] theorem setRing_retr (r : Ring) : (setRing d r).retr = d.retr := rfl
@[simp] theorem setRing_fab (r : Ring) : (setRing d r).fab = d.fab := rfl
@[simp] theorem setRing_lines (r : Ring) : (setRing d r).lines = d.lines := rfl
@[simp] theorem setRing_checks (r : Ring) : (setRing d r).checks = d.checks := rfl

@[simp] theorem unpost_out (b : Nat) : (unpost d b).out = d.out := rfl
@[simp] theorem unpost_free (b : Nat) : (unpost d b).free = d.free := rfl
@[simp] theorem unpost_clk (b : Nat) : (unpost d b).clk = d.clk := rfl
@[simp] theorem unpost_boot (b : Nat) : (unpost d b).boot = d.boot := rfl
@[simp] theorem unpost_img (b : Nat) : (unpost d b).img = d.img := rfl
@[simp] theorem unpost_readyAt (b : Nat) : (unpost d b).readyAt = d.readyAt := rfl
@[simp] theorem unpost_ctr (b : Nat) : (unpost d b).ctr = d.ctr := rfl
@[simp] theorem unpost_flt (b : Nat) : (unpost d b).flt = d.flt := rfl
@[simp] theorem unpost_pair (b : Nat) : (unpost d b).pair = d.pair := rfl
@[simp] theorem unpost_host (b : Nat) : (unpost d b).host = d.host := rfl
@[simp] theorem unpost_sec (b : Nat) : (unpost d b).sec = d.sec := rfl
@[simp] theorem unpost_mon (b : Nat) : (unpost d b).mon = d.mon := rfl
@[simp] theorem unpost_intake (b : Nat) : (unpost d b).intake = d.intake := rfl
@[simp] theorem unpost_rings (b : Nat) : (unpost d b).rings = d.rings := rfl
@[simp] theorem unpost_weft (b : Nat) : (unpost d b).weft = d.weft := rfl
@[simp] theorem unpost_adm (b : Nat) : (unpost d b).adm = d.adm := rfl
@[simp] theorem unpost_ports (b : Nat) : (unpost d b).ports = d.ports := rfl
@[simp] theorem unpost_reqs (b : Nat) : (unpost d b).reqs = d.reqs := rfl
@[simp] theorem unpost_sas (b : Nat) : (unpost d b).sas = d.sas := rfl
@[simp] theorem unpost_stk (b : Nat) : (unpost d b).stk = d.stk := rfl
@[simp] theorem unpost_bob (b : Nat) : (unpost d b).bob = d.bob := rfl
@[simp] theorem unpost_codecErr (b : Nat) : (unpost d b).codecErr = d.codecErr := rfl
@[simp] theorem unpost_retr (b : Nat) : (unpost d b).retr = d.retr := rfl
@[simp] theorem unpost_fab (b : Nat) : (unpost d b).fab = d.fab := rfl
@[simp] theorem unpost_lines (b : Nat) : (unpost d b).lines = d.lines := rfl
@[simp] theorem unpost_checks (b : Nat) : (unpost d b).checks = d.checks := rfl

@[simp] theorem freeNext_out : ((freeNext d).2).out = d.out := rfl
@[simp] theorem freeNext_clk : ((freeNext d).2).clk = d.clk := rfl
@[simp] theorem freeNext_boot : ((freeNext d).2).boot = d.boot := rfl
@[simp] theorem freeNext_img : ((freeNext d).2).img = d.img := rfl
@[simp] theorem freeNext_ready : ((freeNext d).2).ready = d.ready := rfl
@[simp] theorem freeNext_readyAt : ((freeNext d).2).readyAt = d.readyAt := rfl
@[simp] theorem freeNext_ctr : ((freeNext d).2).ctr = d.ctr := rfl
@[simp] theorem freeNext_flt : ((freeNext d).2).flt = d.flt := rfl
@[simp] theorem freeNext_pair : ((freeNext d).2).pair = d.pair := rfl
@[simp] theorem freeNext_host : ((freeNext d).2).host = d.host := rfl
@[simp] theorem freeNext_sec : ((freeNext d).2).sec = d.sec := rfl
@[simp] theorem freeNext_mon : ((freeNext d).2).mon = d.mon := rfl
@[simp] theorem freeNext_intake : ((freeNext d).2).intake = d.intake := rfl
@[simp] theorem freeNext_rings : ((freeNext d).2).rings = d.rings := rfl
@[simp] theorem freeNext_weft : ((freeNext d).2).weft = d.weft := rfl
@[simp] theorem freeNext_adm : ((freeNext d).2).adm = d.adm := rfl
@[simp] theorem freeNext_ports : ((freeNext d).2).ports = d.ports := rfl
@[simp] theorem freeNext_reqs : ((freeNext d).2).reqs = d.reqs := rfl
@[simp] theorem freeNext_sas : ((freeNext d).2).sas = d.sas := rfl
@[simp] theorem freeNext_stk : ((freeNext d).2).stk = d.stk := rfl
@[simp] theorem freeNext_bob : ((freeNext d).2).bob = d.bob := rfl
@[simp] theorem freeNext_codecErr : ((freeNext d).2).codecErr = d.codecErr := rfl
@[simp] theorem freeNext_retr : ((freeNext d).2).retr = d.retr := rfl
@[simp] theorem freeNext_fab : ((freeNext d).2).fab = d.fab := rfl
@[simp] theorem freeNext_lines : ((freeNext d).2).lines = d.lines := rfl
@[simp] theorem freeNext_checks : ((freeNext d).2).checks = d.checks := rfl
@[simp] theorem freeNext_free : (freeNext d).2.free = d.free + 1 := rfl

@[simp] theorem ctrAdd_out (a n : Nat) : (ctrAdd d a n).out = d.out := by unfold ctrAdd; split <;> rfl
@[simp] theorem ctrAdd_free (a n : Nat) : (ctrAdd d a n).free = d.free := by unfold ctrAdd; split <;> rfl
@[simp] theorem ctrAdd_clk (a n : Nat) : (ctrAdd d a n).clk = d.clk := by unfold ctrAdd; split <;> rfl
@[simp] theorem ctrAdd_boot (a n : Nat) : (ctrAdd d a n).boot = d.boot := by unfold ctrAdd; split <;> rfl
@[simp] theorem ctrAdd_img (a n : Nat) : (ctrAdd d a n).img = d.img := by unfold ctrAdd; split <;> rfl
@[simp] theorem ctrAdd_ready (a n : Nat) : (ctrAdd d a n).ready = d.ready := by unfold ctrAdd; split <;> rfl
@[simp] theorem ctrAdd_readyAt (a n : Nat) : (ctrAdd d a n).readyAt = d.readyAt := by unfold ctrAdd; split <;> rfl
@[simp] theorem ctrAdd_flt (a n : Nat) : (ctrAdd d a n).flt = d.flt := by unfold ctrAdd; split <;> rfl
@[simp] theorem ctrAdd_pair (a n : Nat) : (ctrAdd d a n).pair = d.pair := by unfold ctrAdd; split <;> rfl
@[simp] theorem ctrAdd_host (a n : Nat) : (ctrAdd d a n).host = d.host := by unfold ctrAdd; split <;> rfl
@[simp] theorem ctrAdd_sec (a n : Nat) : (ctrAdd d a n).sec = d.sec := by unfold ctrAdd; split <;> rfl
@[simp] theorem ctrAdd_mon (a n : Nat) : (ctrAdd d a n).mon = d.mon := by unfold ctrAdd; split <;> rfl
@[simp] theorem ctrAdd_intake (a n : Nat) : (ctrAdd d a n).intake = d.intake := by unfold ctrAdd; split <;> rfl
@[simp] theorem ctrAdd_rings (a n : Nat) : (ctrAdd d a n).rings = d.rings := by unfold ctrAdd; split <;> rfl
@[simp] theorem ctrAdd_weft (a n : Nat) : (ctrAdd d a n).weft = d.weft := by unfold ctrAdd; split <;> rfl
@[simp] theorem ctrAdd_adm (a n : Nat) : (ctrAdd d a n).adm = d.adm := by unfold ctrAdd; split <;> rfl
@[simp] theorem ctrAdd_ports (a n : Nat) : (ctrAdd d a n).ports = d.ports := by unfold ctrAdd; split <;> rfl
@[simp] theorem ctrAdd_reqs (a n : Nat) : (ctrAdd d a n).reqs = d.reqs := by unfold ctrAdd; split <;> rfl
@[simp] theorem ctrAdd_sas (a n : Nat) : (ctrAdd d a n).sas = d.sas := by unfold ctrAdd; split <;> rfl
@[simp] theorem ctrAdd_stk (a n : Nat) : (ctrAdd d a n).stk = d.stk := by unfold ctrAdd; split <;> rfl
@[simp] theorem ctrAdd_bob (a n : Nat) : (ctrAdd d a n).bob = d.bob := by unfold ctrAdd; split <;> rfl
@[simp] theorem ctrAdd_codecErr (a n : Nat) : (ctrAdd d a n).codecErr = d.codecErr := by unfold ctrAdd; split <;> rfl
@[simp] theorem ctrAdd_retr (a n : Nat) : (ctrAdd d a n).retr = d.retr := by unfold ctrAdd; split <;> rfl
@[simp] theorem ctrAdd_fab (a n : Nat) : (ctrAdd d a n).fab = d.fab := by unfold ctrAdd; split <;> rfl
@[simp] theorem ctrAdd_lines (a n : Nat) : (ctrAdd d a n).lines = d.lines := by unfold ctrAdd; split <;> rfl
@[simp] theorem ctrAdd_checks (a n : Nat) : (ctrAdd d a n).checks = d.checks := by unfold ctrAdd; split <;> rfl
@[simp] theorem ctrInc_out (a : Nat) : (ctrInc d a).out = d.out := ctrAdd_out d a 1
@[simp] theorem ctrInc_free (a : Nat) : (ctrInc d a).free = d.free := ctrAdd_free d a 1
@[simp] theorem ctrInc_clk (a : Nat) : (ctrInc d a).clk = d.clk := ctrAdd_clk d a 1
@[simp] theorem ctrInc_boot (a : Nat) : (ctrInc d a).boot = d.boot := ctrAdd_boot d a 1
@[simp] theorem ctrInc_img (a : Nat) : (ctrInc d a).img = d.img := ctrAdd_img d a 1
@[simp] theorem ctrInc_ready (a : Nat) : (ctrInc d a).ready = d.ready := ctrAdd_ready d a 1
@[simp] theorem ctrInc_readyAt (a : Nat) : (ctrInc d a).readyAt = d.readyAt := ctrAdd_readyAt d a 1
@[simp] theorem ctrInc_flt (a : Nat) : (ctrInc d a).flt = d.flt := ctrAdd_flt d a 1
@[simp] theorem ctrInc_pair (a : Nat) : (ctrInc d a).pair = d.pair := ctrAdd_pair d a 1
@[simp] theorem ctrInc_host (a : Nat) : (ctrInc d a).host = d.host := ctrAdd_host d a 1
@[simp] theorem ctrInc_sec (a : Nat) : (ctrInc d a).sec = d.sec := ctrAdd_sec d a 1
@[simp] theorem ctrInc_mon (a : Nat) : (ctrInc d a).mon = d.mon := ctrAdd_mon d a 1
@[simp] theorem ctrInc_intake (a : Nat) : (ctrInc d a).intake = d.intake := ctrAdd_intake d a 1
@[simp] theorem ctrInc_rings (a : Nat) : (ctrInc d a).rings = d.rings := ctrAdd_rings d a 1
@[simp] theorem ctrInc_weft (a : Nat) : (ctrInc d a).weft = d.weft := ctrAdd_weft d a 1
@[simp] theorem ctrInc_adm (a : Nat) : (ctrInc d a).adm = d.adm := ctrAdd_adm d a 1
@[simp] theorem ctrInc_ports (a : Nat) : (ctrInc d a).ports = d.ports := ctrAdd_ports d a 1
@[simp] theorem ctrInc_reqs (a : Nat) : (ctrInc d a).reqs = d.reqs := ctrAdd_reqs d a 1
@[simp] theorem ctrInc_sas (a : Nat) : (ctrInc d a).sas = d.sas := ctrAdd_sas d a 1
@[simp] theorem ctrInc_stk (a : Nat) : (ctrInc d a).stk = d.stk := ctrAdd_stk d a 1
@[simp] theorem ctrInc_bob (a : Nat) : (ctrInc d a).bob = d.bob := ctrAdd_bob d a 1
@[simp] theorem ctrInc_codecErr (a : Nat) : (ctrInc d a).codecErr = d.codecErr := ctrAdd_codecErr d a 1
@[simp] theorem ctrInc_retr (a : Nat) : (ctrInc d a).retr = d.retr := ctrAdd_retr d a 1
@[simp] theorem ctrInc_fab (a : Nat) : (ctrInc d a).fab = d.fab := ctrAdd_fab d a 1
@[simp] theorem ctrInc_lines (a : Nat) : (ctrInc d a).lines = d.lines := ctrAdd_lines d a 1
@[simp] theorem ctrInc_checks (a : Nat) : (ctrInc d a).checks = d.checks := ctrAdd_checks d a 1

/-! ## Tables -/

/-- The entry that was set is read back. -/
theorem tget_tset_same {α : Type} (t : Tbl α) (k : Nat) (v : α) : tget (tset t k v) k = some v := by
  induction t with
  | nil => simp [tset, tget]
  | cons x t ih =>
    obtain ⟨j, w⟩ := x
    unfold tset
    split
    · simp [tget]
    · split
      · simp [tget]
      · rename_i h
        simpa [tget, List.find?_cons, show (j == k) = false by simp; omega] using ih

/-- Setting an entry leaves every other entry alone. -/
theorem tget_tset_other {α : Type} (t : Tbl α) (k j : Nat) (v : α) (h : j ≠ k) : tget (tset t k v) j = tget t j := by
  induction t with
  | nil => simp [tset, tget, h.symm]
  | cons x t ih =>
    obtain ⟨i, w⟩ := x
    unfold tset
    split
    · simp [tget, List.find?_cons, show (k == j) = false by simp; omega]
    · split
      · rename_i hk
        simp [tget, show (k == j) = false by simp; omega, show (i == j) = false by simp; omega]
      · by_cases hij : i = j
        · subst hij; simp [tget]
        · simpa [tget, List.find?_cons, hij] using ih

/-- A counter's step of `n` adds to that counter alone, up to its limit (R15). -/
theorem ctrAdd_ctr (a n b : Nat) :
    tgetD (ctrAdd d a n).ctr b 0 = if b = a ∧ n ≠ 0 then satAdd (tgetD d.ctr a 0) n else tgetD d.ctr b 0 := by
  unfold ctrAdd
  by_cases hn : n = 0
  · simp [hn]
  · by_cases hb : b = a
    · subst hb; simp [hn, tgetD, tget_tset_same]
    · simp [hn, hb, tgetD, tget_tset_other _ _ _ _ hb]

end Sys2Proof.Machine
end

