-- ==== Sys2Proof/Machine/Wire.lean ====
section
/-! DEFINITION. What stands on the wire: the headers' bytes (R8, R512 to R515, R554, R582, R696), and the transmit stream of an RL400
port from the MAC's characters to PAM6 levels (R585, R586). -/

namespace Sys2Proof.Machine

open Sys2Proof

/-! ## Headers (R8) -/

/-- The bytes of a Weft header (R515). -/
def weftHdrBytes (h : WeftHdr) : Bytes :=
  be (h.ver % 16 * 16) 1 ++ be h.op 1 ++ be h.sa 2 ++ be h.pn 6 ++
  be ((match h.cls with | .g => 1 | .b => 0) + 2 * bit1 h.immValid + 4 * bit1 h.poison + 8 * bit1 h.retx) 2 ++
  be (h.conn % 2 ^ 20 + 2 ^ 20 * (h.path % 8) + 2 ^ 24 * h.epoch.toNat) 4 ++ be h.msn.toNat 4 ++ be h.mlen 4 ++ be h.offset 4 ++
  be h.budget 6 ++ be h.ts.toNat 4 ++ be h.rkey 4 ++ be h.raddr 6 ++ be h.imm.toNat 8 ++ be h.svc 2

/-- Big-endian bytes as a number. -/
def beNat (bs : Bytes) : Nat := unLe bs.reverse

/-- The Weft header that 58 bytes hold (R515); a set reserved bit is noted. -/
def weftHdrOf (b : Bytes) : WeftHdr :=
  let f (o n : Nat) : Nat := beNat (sub b o n)
  { ver := f 0 1 / 16
    op := f 1 1
    sa := f 2 2
    pn := f 4 6
    cls := if bitOf (f 0xA 2) 0 then .g else .b
    immValid := bitOf (f 0xA 2) 1
    poison := bitOf (f 0xA 2) 2
    retx := bitOf (f 0xA 2) 3
    rsvd := f 0 1 % 16 != 0 || f 0xA 2 / 16 != 0 || bitOf (f 0xC 4) 23
    conn := bits (f 0xC 4) 19 0
    path := bits (f 0xC 4) 22 20
    epoch := BitVec.ofNat 8 (bits (f 0xC 4) 31 24)
    msn := u32 (f 0x10 4)
    mlen := f 0x14 4
    offset := f 0x18 4
    budget := f 0x1C 6
    ts := u32 (f 0x22 4)
    rkey := f 0x26 4
    raddr := f 0x2A 6
    imm := u64 (f 0x30 8)
    svc := f 0x38 2 }

/-- The bytes of a line header (R554). -/
def lineHdrBytes (h : LineHdr) : Bytes :=
  be (h.ver % 16 * 16) 1 ++ be h.op 1 ++ be h.sa 2 ++ be h.pn 6 ++ be (bit1 h.poison + 2 * bit1 h.resend) 2 ++
  be (h.conn % 2 ^ 20) 4 ++ be h.tag.toNat 4 ++ be h.rkey 4 ++ be h.raddr 6 ++ be h.status 2

/-- The line header that 32 bytes hold (R554); a set reserved bit is noted. -/
def lineHdrOf (b : Bytes) : LineHdr :=
  let f (o n : Nat) : Nat := beNat (sub b o n)
  { ver := f 0 1 / 16
    op := f 1 1
    sa := f 2 2
    pn := f 4 6
    poison := bitOf (f 0xA 2) 0
    resend := bitOf (f 0xA 2) 1
    rsvd := f 0 1 % 16 != 0 || f 0xA 2 / 4 != 0 || f 0xC 4 / 2 ^ 20 != 0
    conn := bits (f 0xC 4) 19 0
    tag := u32 (f 0x10 4)
    rkey := f 0x14 4
    raddr := f 0x18 6
    status := f 0x1E 2 }

/-- The bytes of a selvedge header (R696). DEDUCED (log entry 98): big-endian, as in the header whose place it takes. -/
def selvedgeHdr (op sa pn : Nat) (error : Bool) (len mseq : Nat) (session : U64) : Bytes :=
  be 0x10 1 ++ be op 1 ++ be sa 2 ++ be pn 6 ++ be (bit1 error) 2 ++ be len 4 ++ be mseq 8 ++ be session.toNat 8

/-- The Ethernet, IPv6 and UDP headers of a frame whose UDP payload is `n` bytes (R513, R514, R582), in the byte order of their standards
(R8). DESIGN CHOICE (log entry 98): bits [47:40] of a MAC address register are the address's first octet. -/
def frameHeadBytes (h : FrameHead) (n : Nat) : Bytes :=
  be h.dstMac 6 ++ be h.srcMac 6 ++ be 0x86DD 2 ++
  be (6 * 2 ^ 28 + h.tclass % 256 * 2 ^ 20) 4 ++ be (8 + n) 2 ++ be 17 1 ++ be 64 1 ++ le h.srcIp.toNat 16 ++ le h.dstIp.toNat 16 ++
  be h.sport 2 ++ be h.dport 2 ++ be (8 + n) 2 ++ be 0 2

/-- A frame with its FCS, which goes out least significant byte first (R8). -/
def withFcs (b : Bytes) : Bytes := b ++ le (crcOf 1 b) 4

/-- The 76 bytes that a handshake derives: key and salt from initiator to responder, then key and salt back (R663). -/
def saKeyBytes (a : Assoc) : Bytes :=
  kmac256 (fit (Config.saSecret a.index a.handshake) 80) (sha3_512 (Config.saTranscript a.index a.handshake)) (ascii "CN4816 SA") 76

/-- Key and salt of one direction, the initiator's or the responder's sending (R663). -/
def saDirection (a : Assoc) (fromInitiator : Bool) : Bytes × Bytes :=
  let b := (saKeyBytes a).drop (if fromInitiator then 0 else 38)
  (b.take 32, sub b 32 6)

/-- GCM nonce of a packet: the salt of its direction, then the packet number, big-endian (R519). -/
def gcmNonce (a : Assoc) (fromInitiator : Bool) (pn : Nat) : Bytes := (saDirection a fromInitiator).2 ++ be pn 6

/-- A payload as it travels: sealed under the association's key with the header as additional data, its tag after it (R519, R555). -/
def sealed (a : Assoc) (pn : Nat) (header payload : Bytes) : Bytes :=
  fit (Config.gcmSeal (saDirection a a.initiator).1 (gcmNonce a a.initiator pn) header payload) (payload.length + 16)

/-- The frame of a Weft packet (R512, R519). -/
def weftFrame (head : FrameHead) (a : Assoc) (h : WeftHdr) (payload : Bytes) : Bytes :=
  withFcs (frameHeadBytes head (58 + payload.length + 16) ++ weftHdrBytes h ++ sealed a h.pn (weftHdrBytes h) payload)

/-- The frame of a line packet (R554, R555). -/
def lineFrame (head : FrameHead) (a : Assoc) (h : LineHdr) (payload : Bytes) : Bytes :=
  withFcs (frameHeadBytes head (32 + payload.length + 16) ++ lineHdrBytes h ++ sealed a h.pn (lineHdrBytes h) payload)

/-- The bytes of a mirror record: its header, little-endian as every record (R7), and its data padded to 8 B (R696). -/
def mirrorRecOut (r : MirrorRec) : Bytes :=
  le r.kind 1 ++ le r.owner 1 ++ le r.data.length 2 ++ zeroBytes 4 ++ le r.addr 8 ++ fit r.data ((r.data.length + 7) / 8 * 8)

/-- The payload of a MIRROR frame (R696). -/
def mirrorPayload (recs : List MirrorRec) : Bytes := recs.flatMap mirrorRecOut

/-- The headers of a frame that the device sends: of a Weft or a line packet with those below it (R515, R554, R582), of a selvedge frame
its own, since no rule gives the partner's addresses (R696). -/
def outHeaders : Out → Option Bytes
  | .packet head h pl =>
    let n := match pl with
      | .bytes b => b.length
      | .poisoned k => k
      | .svc m => svcLen m
      | .none => 0
    some (frameHeadBytes head (58 + n + 16) ++ weftHdrBytes h)
  | .line head h pl => some (frameHeadBytes head (32 + pl.length + 16) ++ lineHdrBytes h)
  | .selvedge op sa pn mseq error session recs =>
    some (selvedgeHdr op sa pn error ((recs.map mirrorRecBytes).sum) mseq session)
  | _ => none

/-- The vendor payload of a response over MCTP, little-endian (R764). -/
def mctpBytes (command inst status : Nat) (live : U32) (snapAt : Nat) (values : List U64) : Bytes :=
  le command 1 ++ le inst 1 ++ le status 2 ++ le live.toNat 4 ++ le snapAt 8 ++ values.flatMap (fun v => le v.toNat 8)

/-! ## The transmit stream of RL400 (R585). PRESUMED (log entry 99): what R585 leaves to IEEE 802.3 stands here as that standard gives
it: the control codes and block types, the transcoding, the Reed–Solomon code's field and roots. -/

/-- A bit string, first bit first. -/
abbrev BitStr := List Bool

/-- The low `n` bits of a number, least significant first. -/
def lsbBits : Nat → Nat → BitStr
  | 0, _ => []
  | n + 1, x => (x % 2 == 1) :: lsbBits n (x / 2)

/-- A character of the MAC stream. -/
inductive MacChar where
  | data (b : Byte)
  | idle
  | start
  | term
  | error
deriving DecidableEq, Repr

/-- A data byte. -/
def MacChar.isData : MacChar → Bool
  | .data _ => true
  | _ => false
/-- Its bits, where it is data. -/
def MacChar.dataBits : MacChar → BitStr
  | .data b => lsbBits 8 b.toNat
  | _ => lsbBits 8 0
/-- The 7-bit code of a control character. -/
def MacChar.ctlBits : MacChar → BitStr
  | .error => lsbBits 7 0x1E
  | _ => lsbBits 7 0

/-- Block type of a terminate in position `i`. -/
def termType (i : Nat) : Nat := [0x87, 0x99, 0xAA, 0xB4, 0xCC, 0xD2, 0xE1, 0xFF].getD i 0x87

/-- The 64b/66b block of eight characters (R585, step 1): its sync header and its 64 bits. -/
def block66 (cs : List MacChar) : BitStr :=
  if cs.all MacChar.isData then [false, true] ++ cs.flatMap MacChar.dataBits
  else if cs.head? == some .start then
    [true, false] ++ lsbBits 8 0x78 ++ (cs.drop 1).flatMap MacChar.dataBits
  else match cs.findIdx? (· == .term) with
    | some i =>
      [true, false] ++ lsbBits 8 (termType i) ++ (cs.take i).flatMap MacChar.dataBits ++ List.replicate (7 - i) false ++
        (cs.drop (i + 1)).flatMap MacChar.ctlBits
    | none => [true, false] ++ lsbBits 8 0x1E ++ cs.flatMap MacChar.ctlBits

/-- A 66-bit block holds data only. -/
def dataBlock (b : BitStr) : Bool := b.head? == some false

/-- Four 66-bit blocks transcoded to 257 bits (R585, step 1): of the first control block the upper half of the type is left out. -/
def block257 (bs : List BitStr) : BitStr :=
  if bs.all dataBlock then true :: bs.flatMap (·.drop 2)
  else
    let first := (bs.findIdx? (fun b => !dataBlock b)).getD 0
    false :: bs.map dataBlock ++
      (bs.zipIdx).flatMap (fun x =>
        let p := x.1.drop 2
        if x.2 == first then p.take 4 ++ p.drop 8 else p)

/-- The 257-bit blocks of a character stream. -/
def rlBlocks (cs : List MacChar) : List BitStr :=
  (chunks 4 (cs.length / 32 + 1) ((chunks 8 (cs.length / 8 + 1) cs).map block66)).map block257

/-- Product with α in GF(2^10) under x^10 + x^3 + 1. -/
def g10Double (a : Nat) : Nat := if 512 ≤ a then (2 * a) ^^^ 0x409 else 2 * a
/-- Product in GF(2^10). -/
def g10Mul (a b : Nat) : Nat :=
  ((List.range 10).foldl (fun (r : Nat × Nat) i => (if bitOf b i then r.1 ^^^ r.2 else r.1, g10Double r.2)) (0, a)).1
/-- α^n. -/
def g10Alpha : Nat → Nat
  | 0 => 1
  | n + 1 => g10Double (g10Alpha n)
/-- Coefficients of the generator with the roots α^0 to α^29, from x^30 down. -/
def fecGen : List Nat :=
  (List.range 30).foldl (fun g i => List.zipWith (· ^^^ ·) (g ++ [0]) (0 :: g.map (g10Mul (g10Alpha i)))) [1]
/-- An RS(544,514) codeword: the 514 message symbols and their 30 check symbols (R585, step 3). -/
def fecWord (msg : List Nat) : List Nat :=
  msg ++ msg.foldl (fun r s =>
    let f := s ^^^ r.headD 0
    List.zipWith (fun x g => x ^^^ g10Mul f g) (r.drop 1 ++ [0]) (fecGen.drop 1)) (List.replicate 30 0)

/-- The number that bits spell, least significant first. -/
def ofLsb : BitStr → Nat
  | [] => 0
  | b :: bs => bit1 b + 2 * ofLsb bs

/-- Twenty 257-bit blocks are the 514 message symbols of a codeword. -/
def fecSymbols (blocks : List BitStr) : List Nat := (chunks 10 514 blocks.flatten).map ofLsb

/-- Two codewords interleaved symbol by symbol, as bits (R585, step 3). -/
def interleave (a b : List Nat) : BitStr := (a.zip b).flatMap (fun x => lsbBits 10 x.1 ++ lsbBits 10 x.2)

/-- The pairs that carry a value, in order (R586): 0 to 35 without 0, 5, 30 and 35. -/
def pamPairs : List Nat := (List.range 36).filter (fun n => !(n == 0 || n == 5 || n == 30 || n == 35))
/-- The two PAM6 symbols of a value (R586). -/
def pamSymbols (v : Nat) : Nat × Nat := let n := pamPairs.getD v 0; (n / 6, n % 6)
/-- Their levels (R586). -/
def pamLevels (v : Nat) : List Int := let s := pamSymbols v; [2 * (s.1 : Int) - 5, 2 * (s.2 : Int) - 5]
/-- Bits as a value, most significant first. -/
def ofMsb (bs : BitStr) : Nat := bs.foldl (fun a b => 2 * a + bit1 b) 0
/-- The levels of a lane's bits, in groups of five (R586). -/
def laneLevels (bs : BitStr) : List Int := (chunks 5 (bs.length / 5 + 1) bs).flatMap (fun g => pamLevels (ofMsb g))

/-- The 257-bit blocks of lane `n`: the stream is dealt to lanes 0 to 3 in turn (R585, step 2). -/
def laneBlocks (blocks : List BitStr) (n : Nat) : List BitStr := ((blocks.zipIdx).filter (fun x => x.2 % 4 == n)).map (·.1)
/-- The bits of forty blocks of a lane: two codewords, interleaved (R585, step 3). -/
def pairBits (blocks : List BitStr) : BitStr :=
  interleave (fecWord (fecSymbols (blocks.take 20))) (fecWord (fecSymbols ((blocks.drop 20).take 20)))
/-- What lane `n` of a port sends for a character stream (R585, R586). -/
def laneOut (cs : List MacChar) (n : Nat) : List Int :=
  let bs := laneBlocks (rlBlocks cs) n
  laneLevels ((chunks 40 (bs.length / 40 + 1) bs).flatMap pairBits)

/-- The characters of a frame on the MAC stream: start, preamble, the frame with its FCS, terminate (R590's preamble and gap count as
IEEE 802.3 gives them). -/
def frameChars (frame : Bytes) : List MacChar :=
  .start :: (List.replicate 6 (MacChar.data 0x55)) ++ [.data 0xD5] ++ frame.map .data ++ [.term]

end Sys2Proof.Machine
end

