-- ==== Sys2Proof/WellFormed.lean ====
section
/-! DEFINITION. Well-formed commands: every operand lies in the range the specification gives the unit it names. -/

namespace Sys2Proof

/-- The operands of a command lie in their ranges. -/
def Instr.wf : Instr → Bool
  | .powerOnReset => true
  | .systemReset _ => true
  | .fundamentalReset => true
  | .endOfReset _ _ _ _ _ => true
  | .imageLoad _ _ => true
  | .vaultSectionsLoad _ => true
  | .stackTrainingDone stack _ => stack < 12
  | .channelScanDone ch _ _ => ch < 16
  | .tileSelfTestDone group _ => group < 16
  | .referenceLoss => true
  | .pllLockLoss pll => pll < 17
  | .pllRelocked pll => pll < 17
  | .railMeasurement mv _ => mv.length == 15
  | .dieTempSample _ _ _ => true
  | .registerWrite fn addr size _ => fn ≤ 64 && addr < 0x800000 && (size == 1 || size == 2 || size == 4 || size == 8)
  | .reqLaneResync fn _ => fn ≤ 64
  | .secZeroize fn _ => fn ≤ 64
  | .connCreate fn conn _ => fn ≤ 64 && conn < 0x100000
  | .connModify fn conn _ => fn ≤ 64 && conn < 0x100000
  | .connReset fn conn _ => fn ≤ 64 && conn < 0x100000
  | .connDestroy fn conn => fn ≤ 64 && conn.1 < 0x100000
  | .connDestroyDrained conn => conn < 0x100000
  | .regionCreate fn index _ => fn ≤ 64 && index < 0x4000
  | .regionRevoke fn _ => fn ≤ 64
  | .regionRevokeDrained index => index < 0x4000
  | .lineQueueSetup fn _ => fn ≤ 64
  | .lineQueueTeardown fn _ => fn ≤ 64
  | .intakeLaneVisit lane => lane < 128
  | .laneSetup lane _ => lane < 128
  | .ringSetup lane _ => lane < 128
  | .ringTeardown lane _ => lane < 128
  | .openReq lane _ slot => lane < 128 && slot < 0x4000
  | .prefillDone lane _ _ => lane < 128
  | .cancel lane _ => lane < 128
  | .step lane _ => lane < 128
  | .query lane _ _ => lane < 128
  | .stopSetDefine lane _ => lane < 128
  | .stopSetDelete lane _ => lane < 128
  | .copyRange lane _ _ => lane < 128
  | .copyPages lane _ => lane < 128
  | .promote lane _ => lane < 128
  | .header lane _ => lane < 128
  | .locate lane _ => lane < 128
  | .flush lane _ => lane < 128
  | .waitOnly lane _ => lane < 128
  | .check lane _ => lane < 128
  | .checkContinue lane _ => lane < 128
  | .checkCommandDone unit _ _ => unit < 16
  | .stepCommit _ => true
  | .hashBlockDone _ _ => true
  | .skeinOpen frm _ slot _ => frm < 0x1000000 && slot < 0x40000
  | .skeinOpenReply frm _ _ _ => frm < 0x1000000
  | .skeinOpenTimeout _ => true
  | .lookup frm _ _ _ => frm < 0x1000000
  | .lookupReply frm _ _ _ _ => frm < 0x1000000
  | .prefixFetch frm _ _ _ => frm < 0x1000000
  | .landingPageTaken _ _ _ => true
  | .place frm _ _ _ _ => frm < 0x1000000
  | .seal frm _ _ => frm < 0x1000000
  | .abort frm _ _ => frm < 0x1000000
  | .skeinAbortDrained slot => slot < 0x40000
  | .release frm _ _ => frm < 0x1000000
  | .stateReply frm _ _ _ => frm < 0x1000000
  | .endingTimeout _ => true
  | .handoff frm _ slot _ => frm < 0x1000000 && slot < 0x4000
  | .handoffReply frm _ _ => frm < 0x1000000
  | .handoffTimeout _ => true
  | .window frm _ _ _ => frm < 0x1000000
  | .sealed frm _ _ _ => frm < 0x1000000
  | .svcCancel frm _ => frm < 0x1000000
  | .reqAbort frm _ _ _ => frm < 0x1000000
  | .shipmentFlushDone _ _ _ => true
  | .appendFlushDone _ _ => true
  | .farJob frm conn _ _ _ => frm < 0x1000000 && conn < 0x100000
  | .admissionReplyRelease => true
  | .stageComplete _ _ => true
  | .deadlineWatch _ => true
  | .heddleScan _ _ => true
  | .heddleWalk _ _ => true
  | .roundCheck _ => true
  | .partialReceived frm _ _ => frm < 0x1000000
  | .runCommandArrival run _ => run < 640
  | .runCommandEnd run _ _ stalls => run < 640 && stalls.length == 4
  | .shadowCheckDone _ _ _ _ _ _ => true
  | .runStallTimeout run => run < 640
  | .runResetDone run => run < 640
  | .blockCompress fmt bytes _ => 1 ≤ fmt && fmt ≤ 4 && bytes.length == 4096
  | .blockExpand _ fmt _ _ _ _ => 1 ≤ fmt && fmt ≤ 4
  | .layerWalkDone _ layer => layer < 256
  | .framePromotionDone _ _ => true
  | .stackReclaim => true
  | .bobbinReclaim => true
  | .pageDemotionDone _ _ _ => true
  | .stackTempSample temps => temps.length == 12
  | .stackHotClear => true
  | .scrubRead stack frame line _ => stack < 12 && frame < 23437500 && line < 64
  | .stackCommandTimeout stack => stack < 12
  | .stackRetire _ stack => stack < 12
  | .stackRetireComplete stack => stack < 12
  | .bobbinReadAttempt _ _ _ => true
  | .bobbinProgramDone _ _ _ => true
  | .bobbinEraseDone _ _ => true
  | .bobbinGc ch tgt => ch < 16 && tgt < 8
  | .blockRetentionExpiry _ => true
  | .targetTimeout ch tgt => ch < 16 && tgt < 8
  | .sendEntryStart conn => conn < 0x100000
  | .sendWaitTimeout conn => conn < 0x100000
  | .write _ => true
  | .send _ => true
  | .readReq _ => true
  | .readResp _ => true
  | .flushPacket _ => true
  | .ack _ => true
  | .sack _ => true
  | .nak _ => true
  | .probe _ => true
  | .retransmissionTimeout conn _ => conn < 0x100000
  | .lineRd _ _ _ => true
  | .lineWr _ _ => true
  | .rdData _ => true
  | .wrDone _ => true
  | .lineNak _ => true
  | .lineQueuePoll owner _ => owner ≤ 64
  | .lineRead owner _ => owner ≤ 64
  | .lineWrite owner _ => owner ≤ 64
  | .lineReadResend _ => true
  | .lineDeadTimeout _ => true
  | .ringHeadReadDone ring _ => ring < 4096
  | .ringStallTimeout ring => ring < 4096
  | .hostReadCompletion _ _ => true
  | .hostLinkDown => true
  | .hostLinkUp rate width => 1 ≤ rate && rate ≤ 6 && (width == 1 || width == 4 || width == 8 || width == 16)
  | .vfFunctionLevelReset domain => domain < 64
  | .pfFunctionLevelReset _ => true
  | .msixIntervalExpiry fn => fn ≤ 64
  | .doeRequest _ => true
  | .doeAbort => true
  | .lockInterface domain _ => domain < 64
  | .stopInterface domain => domain < 64
  | .getDeviceInterfaceReport domain => domain < 64
  | .tdispInterfaceError domain _ => domain < 64
  | .portTrainingDone port _ _ => port < 8
  | .portRetrainTimer port => port < 8
  | .portLinkLoss port => port < 8
  | .ingressFrame port _ => port < 8
  | .neighborSolicitation port _ => port < 8
  | .pfcFrame port enable quanta => port < 8 && enable.length == 8 && quanta.length == 8
  | .pfcXoffRefresh port vc => port < 8 && vc < 3
  | .linkWordAck port _ => port < 8
  | .linkWordNack port _ => port < 8
  | .linkWordCredit port _ => port < 8
  | .linkWordSkip port _ => port < 8
  | .linkWordLane port _ => port < 8
  | .llrTimeout port => port < 8
  | .creditStall port vc => port < 8 && vc < 3
  | .egressFrameStart port _ => port < 8
  | .gateEntryBoundary port => port < 8
  | .gateSwitch _ port list _ => port < 8 && list < 4
  | .gateSwitchover port => port < 8
  | .fence _ tiles => tiles.all (· < 640)
  | .unfence _ tiles => tiles.all (· < 640)
  | .saOpen _ _ => true
  | .saClose _ sa => sa < 4096
  | .saHello _ => true
  | .saReply _ => true
  | .saFinish _ => true
  | .saHandshakeTimeout localSa => localSa < 4096
  | .zeroize _ => true
  | .selfTest _ _ => true
  | .entropyHealthFailure => true
  | .takeover _ _ _ => true
  | .takeoverRelease _ _ _ => true
  | .custodyEnter _ => true
  | .readmit _ => true
  | .readmitChecksDone _ _ _ _ => true
  | .imageSwitch _ slot _ => slot < 2
  | .imageSwitchDrainTimeout => true
  | .imageSwitchWindowEnd => true
  | .getVersion => true
  | .getCapabilities => true
  | .negotiateAlgorithms => true
  | .getDigests => true
  | .getCertificate _ => true
  | .challenge => true
  | .getMeasurements index _ => index < 256
  | .keyExchange => true
  | .finish _ => true
  | .keyUpdate _ => true
  | .spdmHeartbeat _ => true
  | .endSession _ => true
  | .vendorDefinedRequest _ _ _ => true
  | .regRead inst _ _ => inst < 256
  | .mctpSigned inst _ _ => inst < 256
  | .slotProgram inst _ digest => inst < 256 && digest.length == 32
  | .registerSnapshotRefresh => true
  | .getTid => true
  | .getPdr _ => true
  | .getPdrRepositoryInfo => true
  | .getSensorReading _ => true
  | .getStateSensorReadings _ => true
  | .setEventReceiver _ => true
  | .platformEventAcknowledged => true
  | .platformEventResend => true
  | .requestUpdate _ => true
  | .verifyComplete _ _ => true
  | .applyComplete => true
  | .activateFirmware => true
  | .watchdogExpiry agent => agent < 10
  | .controlCoreResetDone => true
  | .heartbeatSend => true
  | .heartbeat _ _ _ => true
  | .partnerLoss => true
  | .mirror _ _ _ => true
  | .mack _ _ _ => true
  | .resyncDone _ => true
  | .coalesceNextAllowed _ _ => true
  | .coalesceFullReport => true
  | .intakeWindowWrite fn offset bytes => fn ≤ 64 && offset + bytes.length ≤ 0x800000
  | .startInterface domain => domain < 64
  | .referenceEdge => true
  | .pcieConfigurationWrite _ => true
  | .msixVectorUnmask fn => fn ≤ 64
  | .pauseExpiry port vc => port < 8 && vc < 3
  | .componentWrite _ _ _ => true

end Sys2Proof
end

