-- ==== Sys2Proof/Tests/Slice0.lean ====
section
/-! SUPPORT. Tests: the smoke test of WellFormed, decoding, the specification's worked examples, and for every statement
with hypotheses a state and operands that meet them, clause by clause. -/

namespace Sys2Proof.Tests

open Sys2Proof Sys2Proof.Machine

set_option maxRecDepth 4000
set_option Elab.async false

/-! ## States the witnesses share -/

/-- The registers an image sets that the witnesses look at: fleet number 5, buckets of 4 µs, lanes 0 to 3 of the physical function
and lane 4 of domain 3, one manager key, and the defaults of the connection and retry timers. -/
def img0 : Tbl Nat := [
  (0x8, 5), (0x20, 5 + 10 * 2 ^ 16 + 20 * 2 ^ 32), (0x20000, 10), (0x40000, 4 + 20 * 2 ^ 16 + 10 * 2 ^ 32),
  (0x40008, 200 + 50 * 2 ^ 8 + 100 * 2 ^ 16 + 200 * 2 ^ 24 + 100 * 2 ^ 32),
  (0x51000, 129), (0x51008, 129), (0x51010, 129), (0x51018, 129), (0x51020, 7),
  (0x80000, 1 + 8 * 2 ^ 8 + 16 * 2 ^ 16 + 4 * 2 ^ 24 + 8 * 2 ^ 32), (0x80008, 4194304 + 32 * 2 ^ 32),
  (0x80400, 16), (0x80418, 16), (0x80600, 64),
  (0x120000, 1 + 4 * 2 ^ 8 + 1024 * 2 ^ 16 + 8 * 2 ^ 32), (0x180000, 28512 + 50 * 2 ^ 16 + 7 * 2 ^ 26 + 3 * 2 ^ 30 + 100 * 2 ^ 34),
  (0x180008, 12000 + 128 * 2 ^ 20 + 4 * 2 ^ 28 + 256 * 2 ^ 36 + 16 * 2 ^ 48), (0x1C0000, 28513 + 40 * 2 ^ 16 + 1000 * 2 ^ 25),
  (0x500008, 1 * 2 ^ 8), (0x600008, 100)]

/-- A device of every role in service: the image is applied, every function ready, the host link up. -/
def dev0 : Dev where
  clk := { now := 1000000000, lock := 0x1FFFF }
  boot := { phase := .running, roles := 7, measureImg := [1] }
  img := img0
  ready := 2 ^ 59 - 1
  host := { l0 := true, rate := 5, width := 16, busMaster := [64, 3], memSpace := [64, 3] }
  sec := { cryptoReady := true, keys := true, negotiated := true }
  stk := { units := List.replicate 12 { st := 1, trained := true }, bringUp := some (List.range 12) }

/-- A state with a device and nothing else. -/
def st (d : Dev) : State := { dev := d }

/-- A signed message that every check of R651 passes, on a device of session 0. -/
def hdr0 : SigHdr := { formOk := true, session := 0, seq := 1, target := idDigest, sigs := [(0, true)] }

theorem hdr0_ok (d : Dev) (lo : Nat) (h1 : d.sec.session = 0) (h2 : d.sec.msgSeq = 0) (h3 : mgrKeyCount d = 1)
    (h4 : img d 0x500010 (lo + 3) lo = 0) : signedCheck d hdr0 lo = St.ok := by
  have e : ([0].eraseDups : List Nat) = [0] := by decide
  simp [signedCheck, hdr0, h1, h2, h3, h4, e]

/-- A record of 128 bytes from its fields: offset, bytes, value. -/
def mk (fields : List (Nat × Nat × Nat)) : Bytes := fields.foldl (fun b x => patch b x.1 (le x.2.2 x.2.1)) (zeroBytes 128)

/-- Rings of the physical function: completions 1, tokens 2, fault records 3. -/
def rings0 : List Ring := [
  { num := 1, kind := 1, owner := 64, remote := false, log2 := 4, base := 0x1000, headAddr := 0x800, conn := 0 },
  { num := 2, kind := 2, owner := 64, remote := false, log2 := 4, base := 0x2000, headAddr := 0x808, conn := 0 },
  { num := 3, kind := 3, owner := 64, remote := false, log2 := 4, base := 0x3000, headAddr := 0x810, conn := 0 }]

/-- A connection to device 9 over association 1 and port 0. -/
def conn0 : Conn where
  num := 2
  peerFleet := 9
  peerConn := 4
  saTx := 1
  flight := 500
  cwnd := 262144
  srtt := 12000

/-- A service connection to device 9. -/
def conn1 : Conn := { conn0 with num := 3, service := true, peerConn := 5 }

/-- `dev0` with those rings and connections, and the record waiting on lane 0. -/
def devT (rec : Bytes) : Dev := { dev0 with
  rings := rings0
  weft := { conns := [conn0, conn1] }
  sec := { dev0.sec with assocs := [{ index := 1, initiator := true, peerFleet := 9, handshake := 3, started := 0, established := true }] }
  intake := { taken := [{ lane := 0, seq := 0, arrival := 0, bytes := rec, remote := false }] } }

/-- The record that waits on lane 0. -/
def tk (rec : Bytes) : Taken := { lane := 0, seq := 0, arrival := 0, bytes := rec, remote := false }


/-! ## WellFormed: for each check a command that it alone refuses -/

def ill1 : List Instr := [
  .stackTrainingDone 12 false, .channelScanDone 16 false default, .tileSelfTestDone 16 default, .pllLockLoss 17,
  .pllRelocked 17, .railMeasurement [] 0, .registerWrite 65 0 8 default, .registerWrite 0 0x800000 8 default,
  .registerWrite 0 0 3 default, .reqLaneResync 65 default, .secZeroize 65 default, .connCreate 65 0 default,
  .connCreate 0 0x100000 default, .connModify 65 0 default, .connModify 0 0x100000 default, .connReset 65 0 default,
  .connReset 0 0x100000 default, .connDestroy 65 default, .connDestroy 0 (0x100000, default), .connDestroyDrained 0x100000,
  .regionCreate 65 0 default, .regionCreate 0 0x4000 default, .regionRevoke 65 default, .regionRevokeDrained 0x4000,
  .lineQueueSetup 65 default, .lineQueueTeardown 65 default, .intakeLaneVisit 128, .laneSetup 128 default,
  .ringSetup 128 default, .ringTeardown 128 default]

def ill2 : List Instr := [
  .openReq 128 default 0, .openReq 0 default 0x4000, .prefillDone 128 default default, .cancel 128 default,
  .step 128 default, .query 128 default default, .stopSetDefine 128 default, .stopSetDelete 128 default,
  .copyRange 128 default default, .copyPages 128 default, .promote 128 default, .header 128 default, .locate 128 default,
  .flush 128 default, .waitOnly 128 default, .check 128 default, .checkContinue 128 default,
  .checkCommandDone 16 default default, .skeinOpen 0x1000000 default 0 0, .skeinOpen 0 default 0x40000 0,
  .skeinOpenReply 0x1000000 default 0 default, .lookup 0x1000000 default default default,
  .lookupReply 0x1000000 default 0 0 0, .prefixFetch 0x1000000 default default default,
  .place 0x1000000 default default false default, .seal 0x1000000 default default, .abort 0x1000000 default default,
  .skeinAbortDrained 0x40000, .release 0x1000000 default default, .stateReply 0x1000000 default 0 0]

def ill3 : List Instr := [
  .handoff 0x1000000 default 0 0, .handoff 0 default 0x4000 0, .handoffReply 0x1000000 default 0,
  .window 0x1000000 default default false, .sealed 0x1000000 default default 0, .svcCancel 0x1000000 default,
  .reqAbort 0x1000000 default default 0, .farJob 0x1000000 0 default default 0, .farJob 0 0x100000 default default 0,
  .partialReceived 0x1000000 default default, .runCommandArrival 640 default, .runCommandEnd 640 0 default [0, 0, 0, 0],
  .runCommandEnd 0 0 default [], .runStallTimeout 640, .runResetDone 640, .blockCompress 0 (List.replicate 4096 0) false,
  .blockCompress 5 (List.replicate 4096 0) false, .blockCompress 1 [] false, .blockExpand 0 0 false default 0 0,
  .blockExpand 0 5 false default 0 0, .layerWalkDone default 256, .stackTempSample [], .scrubRead 12 0 0 default,
  .scrubRead 0 23437500 0 default, .scrubRead 0 0 64 default, .stackCommandTimeout 12, .stackRetire default 12,
  .stackRetireComplete 12, .bobbinGc 16 0, .bobbinGc 0 8]

def ill4 : List Instr := [
  .targetTimeout 16 0, .targetTimeout 0 8, .sendEntryStart 0x100000, .sendWaitTimeout 0x100000,
  .retransmissionTimeout 0x100000 default, .lineQueuePoll 65 default, .lineRead 65 default, .lineWrite 65 default,
  .ringHeadReadDone 4096 default, .ringStallTimeout 4096, .hostLinkUp 0 16, .hostLinkUp 7 16, .hostLinkUp 1 3,
  .vfFunctionLevelReset 64, .msixIntervalExpiry 65, .lockInterface 64 false, .stopInterface 64,
  .getDeviceInterfaceReport 64, .tdispInterfaceError 64 default, .portTrainingDone 8 false 0, .portRetrainTimer 8,
  .portLinkLoss 8, .ingressFrame 8 default, .neighborSolicitation 8 false,
  .pfcFrame 8 (List.replicate 8 false) (List.replicate 8 0), .pfcFrame 0 [] (List.replicate 8 0),
  .pfcFrame 0 (List.replicate 8 false) [], .pfcXoffRefresh 8 0, .pfcXoffRefresh 0 3, .linkWordAck 8 default]

def ill5 : List Instr := [
  .linkWordNack 8 default, .linkWordCredit 8 default, .linkWordSkip 8 default, .linkWordLane 8 default, .llrTimeout 8,
  .creditStall 8 0, .creditStall 0 3, .egressFrameStart 8 0, .gateEntryBoundary 8, .gateSwitch default 8 0 0,
  .gateSwitch default 0 4 0, .gateSwitchover 8, .fence default [640], .unfence default [640], .saClose default 4096,
  .saHandshakeTimeout 4096, .imageSwitch default 2 0, .getMeasurements 256 false, .regRead 256 0 0,
  .mctpSigned 256 default default, .slotProgram 256 0 (List.replicate 32 0), .slotProgram 0 0 [], .watchdogExpiry 10,
  .intakeWindowWrite 65 0 default, .intakeWindowWrite 0 0x800000 [0], .startInterface 64, .msixVectorUnmask 65,
  .pauseExpiry 8 0, .pauseExpiry 0 3]

def fine1 : List Instr := [
  .stackTrainingDone 0 false, .channelScanDone 0 false default, .tileSelfTestDone 0 default, .pllLockLoss 0, .pllRelocked 0,
  .railMeasurement (List.replicate 15 0) 0, .registerWrite 0 0 8 default, .reqLaneResync 0 default, .secZeroize 0 default,
  .connCreate 0 0 default, .connModify 0 0 default, .connReset 0 0 default, .connDestroy 0 default, .connDestroyDrained 0,
  .regionCreate 0 0 default, .regionRevoke 0 default, .regionRevokeDrained 0, .lineQueueSetup 0 default,
  .lineQueueTeardown 0 default, .intakeLaneVisit 0, .laneSetup 0 default, .ringSetup 0 default, .ringTeardown 0 default,
  .openReq 0 default 0, .prefillDone 0 default default, .cancel 0 default, .step 0 default, .query 0 default default,
  .stopSetDefine 0 default, .stopSetDelete 0 default]

def fine2 : List Instr := [
  .copyRange 0 default default, .copyPages 0 default, .promote 0 default, .header 0 default, .locate 0 default,
  .flush 0 default, .waitOnly 0 default, .check 0 default, .checkContinue 0 default, .checkCommandDone 0 default default,
  .skeinOpen 0 default 0 0, .skeinOpenReply 0 default 0 default, .lookup 0 default default default,
  .lookupReply 0 default 0 0 0, .prefixFetch 0 default default default, .place 0 default default false default,
  .seal 0 default default, .abort 0 default default, .skeinAbortDrained 0, .release 0 default default,
  .stateReply 0 default 0 0, .handoff 0 default 0 0, .handoffReply 0 default 0, .window 0 default default false,
  .sealed 0 default default 0, .svcCancel 0 default, .reqAbort 0 default default 0, .farJob 0 0 default default 0,
  .partialReceived 0 default default, .runCommandArrival 0 default]

def fine3 : List Instr := [
  .runCommandEnd 0 0 default [0, 0, 0, 0], .runStallTimeout 0, .runResetDone 0,
  .blockCompress 1 (List.replicate 4096 0) false, .blockExpand 0 1 false default 0 0, .layerWalkDone default 0,
  .stackTempSample (List.replicate 12 []), .scrubRead 0 0 0 default, .stackCommandTimeout 0, .stackRetire default 0,
  .stackRetireComplete 0, .bobbinGc 0 0, .targetTimeout 0 0, .sendEntryStart 0, .sendWaitTimeout 0,
  .retransmissionTimeout 0 default, .lineQueuePoll 0 default, .lineRead 0 default, .lineWrite 0 default,
  .ringHeadReadDone 0 default, .ringStallTimeout 0, .hostLinkUp 1 16, .vfFunctionLevelReset 0, .msixIntervalExpiry 0,
  .lockInterface 0 false, .stopInterface 0, .getDeviceInterfaceReport 0, .tdispInterfaceError 0 default,
  .portTrainingDone 0 false 0, .portRetrainTimer 0]

def fine4 : List Instr := [
  .portLinkLoss 0, .ingressFrame 0 default, .neighborSolicitation 0 false,
  .pfcFrame 0 (List.replicate 8 false) (List.replicate 8 0), .pfcXoffRefresh 0 0, .linkWordAck 0 default,
  .linkWordNack 0 default, .linkWordCredit 0 default, .linkWordSkip 0 default, .linkWordLane 0 default, .llrTimeout 0,
  .creditStall 0 0, .egressFrameStart 0 0, .gateEntryBoundary 0, .gateSwitch default 0 0 0, .gateSwitchover 0,
  .fence default default, .unfence default default, .saClose default 0, .saHandshakeTimeout 0, .imageSwitch default 0 0,
  .getMeasurements 0 false, .regRead 0 0 0, .mctpSigned 0 default default, .slotProgram 0 0 (List.replicate 32 0),
  .watchdogExpiry 0, .intakeWindowWrite 0 0 default, .startInterface 0, .msixVectorUnmask 0, .pauseExpiry 0 0]

theorem test_wf_refuses_1 : ill1.all (fun c => !c.wf) = true := by decide +kernel
theorem test_wf_refuses_2 : ill2.all (fun c => !c.wf) = true := by decide +kernel
theorem test_wf_refuses_3 : ill3.all (fun c => !c.wf) = true := by decide +kernel
theorem test_wf_refuses_4 : ill4.all (fun c => !c.wf) = true := by decide +kernel
theorem test_wf_refuses_5 : ill5.all (fun c => !c.wf) = true := by decide +kernel
theorem test_wf_accepts_1 : fine1.all Instr.wf = true := by decide +kernel
theorem test_wf_accepts_2 : fine2.all Instr.wf = true := by decide +kernel
theorem test_wf_accepts_3 : fine3.all Instr.wf = true := by decide +kernel
theorem test_wf_accepts_4 : fine4.all Instr.wf = true := by decide +kernel


/-! ## Decoding -/

/-- No row of the opcode table gives bits: no word spells a command, and a fetch word changes nothing. -/
theorem test_no_word_spells_a_command : decodeTableWord 64 0xFF = none ∧ (State.reset.withFetchWord 64 0xFF).pending = [] := by decide

/-! ## Worked examples of the specification -/

/-- The worked bound of chapter 2: Δ 4 µs, T_FR 20 µs, shares 128, 32, 32, 64, the partial-attention draft, and the gate lists of ports 1 and 3. -/
def wb : Dev where
  img := [
    (0x40000, 4 + 20 * 2 ^ 16), (0x40008, 128 + 32 * 2 ^ 8 + 32 * 2 ^ 16 + 64 * 2 ^ 24),
    (0x40100, 16 + 2048 * 2 ^ 16 + 1952 * 2 ^ 32), (0x100100, 3),
    (0x210100, 8000 + 2 * 2 ^ 24), (0x210200, 4000 + 2 ^ 24), (0x210208, 4000),
    (0x230100, 20000 + 2 * 2 ^ 24), (0x230200, 10000 + 2 ^ 24), (0x230208, 10000)]
  stk := { units := List.replicate 12 { st := 1, trained := true } }
  fab := { runs := (List.range 16).map (fun i => { num := i, draft := 0, run := i, tiles := [i] }) }

def e72 : Shape where
  layers := 72
  kvHeads := 6
  qHeads := 48
  fmt := 1
  headDim := 160

def wbJob : FarJobMsg where
  req := 1
  skein := 1
  step := 40
  layer := 0
  biasTable := 0
  kPages := 1024
  splitPage := 15113
  kCap := 0
  epsilon := 0
  ret := 0
  query := []

/-- Sizes of E72 (chapter 0): page 122,880 B, summary 1,920 B, partial result 31,488 B in 8 packets. -/
theorem test_e72_sizes : pageBytes e72 = 122880 ∧ sumBytes e72 = 1920 ∧ partLen e72 = 31488 ∧ wireBytes 31488 = 31488 + 8 * 160 := by decide

/-- The far-attention layer job: works and stage deadlines of the table. -/
theorem test_worked_bound_far_job :
    let k : Skein := { slot := 0, id := 1, shape := e72 }
    let st := (farStages wb k wbJob 1 (some 3)).1
    st.map (·.work) = [2764, 11984, 204800, 69405, 164] ∧
    (placeAll wb 0 st 0 []).map (fun r => (r.1.map (·.deadline), r.2.1)) = some ([8000, 28000, 252000, 340000, 348000], 348000) := by
  decide +kernel

/-- The shuttle transfer from intake: works and stage deadlines of the table. -/
theorem test_worked_bound_transfer :
    let st := (xferStages wb 52446080 52446080 false false false 2 1 0).filter (fun x => !x.mirror)
    st.map (·.work) = [4995, 21341, 272475] ∧
    (placeAll wb 0 st 0 []).map (fun r => r.1.map (·.deadline)) = some [12000, 40000, 596000] := by
  decide +kernel

/-- The run codes of chapter 8: 3 is 001 and 1, 1 is 000, 600 is 255, 255 and 90, whose extra bits are 011010. -/
theorem test_run_codes : runBits 3 = [false, false, true, true] ∧ runBits 1 = [false, false, false] ∧
    zRuns 3 600 = [.z 255, .z 255, .z 90] ∧ runBits 90 = [true, true, false, false, true, true, false, true, false] := by decide

/-- The codes of T2 for D2, D3, D1, D4, D0, Z, ESC and D14. -/
theorem test_codes_t2 : bitsMsb (codeOf 2 2) (codeLen 2 2) = [false, false] ∧ bitsMsb (codeOf 2 3) (codeLen 2 3) = [false, true] ∧
    (codeOf 2 1, codeLen 2 1) = (4, 3) ∧ (codeOf 2 4, codeLen 2 4) = (5, 3) ∧ (codeOf 2 0, codeLen 2 0) = (28, 5) ∧
    (codeOf 2 16, codeLen 2 16) = (30, 5) ∧ (codeOf 2 15, codeLen 2 15) = (254, 8) ∧ (codeOf 2 14, codeLen 2 14) = (4095, 12) := by
  decide +kernel

/-- The E72 block of chapter 8: the bits of its stream under each of the eight tables, twelve runs of one zero among them. -/
theorem test_e72_block_tables :
    let counts := [60, 300, 900, 1100, 800, 500, 250, 110, 40, 16, 6, 2]
    (List.range 8).map (fun t => ((counts.zipIdx).map (fun c => c.1 * codeLen t c.2)).sum + 12 * (codeLen t 16 + (runBits 1).length)) =
      [18524, 13562, 11672, 12924, 13948, 16254, 16422, 16432] := by decide +kernel

/-- The thinning example of chapter 8: scale byte 125, codes 7, -2, 2, -6 and 0, and 15 takes s = 2. -/
theorem test_thinning_example : thinScale (175 * 2 ^ 160 / 100) 254 0 = 125 ∧ thinScale (15 * 2 ^ 160) 254 0 = 128 ∧
    [1750000, -625000, 406250, -1375000, 0].map (fun x : Int => thinCode (x * 2 ^ 160 / 1000000) 125) = [7, -2, 2, -6, 0] ∧
    thinPage e72 ([0x3E, 0xB2, 0x2D, 0xBB, 0x00] ++ List.replicate 27 0) =
      [0xE7, 0xA2] ++ List.replicate 14 0 ++ [125] := by decide +kernel

/-- The buckets of the example of chapter 9. -/
theorem test_buckets : [999976, 1000039, 551976, 552039, 49128, 49191, 32808, 32871, 15, 201326592].map bucket =
    [47, 47, 46, 46, 38, 39, 38, 38, 15, 63] := by decide +kernel

/-- Rounds of the example of chapter 9: 1,024, 2,048 and 4,096 pages. -/
theorem test_rounds : rounds 0 4096 1024 15113 = [1024, 2048, 4096] := by decide +kernel

/-- The class G open times of port 3 in the worked bound: 4,000, 4,000, 2,000, 0 and 0 ns. -/
theorem test_gate_open_times : (List.range 5).map (fun b => capOf wb (lPRT 3) b) = [4000, 4000, 2000, 0, 0] := by decide +kernel

/-- A link word's check covers its other 80 bits: one with a bit turned over is refused. -/
theorem test_link_word_check : lwOk (linkWord 5 1 9) = true ∧ lwOk (linkWord 5 1 9 ^^^ 0x100000) = false ∧
    lwFseq (linkWord 5 1 9) = 5 ∧ lwType (linkWord 5 1 9) = 1 ∧ lwBody (linkWord 5 1 9) = 9 := by decide +kernel

/-- A counter at its limit reads with bit 63 set and stays there (R15). -/
theorem test_counter_saturates : satAdd (satMax - 1) 5 = satMax ∧ satRead satMax = 0x8000FFFFFFFFFFFF ∧ satAdd satMax 1 = satMax := by decide

/-! ## Codes and layouts -/

/-- The line code (R295): its generator's coefficients, and codewords that vanish at its roots; the poison codeword does not (R298). -/
theorem test_line_code : eccGen = [1, 59, 13, 104, 189, 68, 209, 30, 8, 163, 65, 41, 229, 98, 50, 36, 59] ∧
    (let w := lineWord false ((List.range 64).map (BitVec.ofNat 8))
     w.length = 80 ∧ (List.range 16).all (fun i => syndrome w i == 0)) ∧
    syndrome poisonCodeword 1 != 0 := by decide +kernel

/-- The PAM6 examples of R586, and the levels that no value uses. -/
theorem test_pam6 : pamSymbols 0 = (0, 1) ∧ pamLevels 0 = [-5, -3] ∧ pamSymbols 31 = (5, 4) ∧ pamLevels 31 = [5, 3] ∧
    pamPairs.length = 32 := by decide

/-- Crossings of R102 and hot spots of R788. -/
theorem test_crossings : [xPortIo, xIoPort, xIoStk, xStkIo] = [4, 4, 2, 3] ∧ [crossingNs 3 556 833, crossingNs 3 833 556] = [3, 4] ∧
    hotSpot 45 1400 297 1200 = 911400 := by decide

/-- A Weft header's fields at their places, most significant octet first (R8, R515). -/
theorem test_weft_header : (let h : WeftHdr := {
      ver := 1, op := 2, sa := 0x304, pn := 0x05060708090A, cls := .g, retx := true, conn := 0xABCDE, path := 5, epoch := 0xEF
      msn := 0x11121314, mlen := 0x21222324, offset := 0x31323334, budget := 0x414243444546, ts := 0x51525354
      rkey := 0x61626364, raddr := 0x717273747576, imm := 0x8182838485868788, svc := 0x9192 }
    weftHdrBytes h = [0x10, 2, 3, 4, 5, 6, 7, 8, 9, 10, 0, 9, 0xEF, 0x5A, 0xBC, 0xDE, 0x11, 0x12, 0x13, 0x14, 0x21, 0x22, 0x23, 0x24,
      0x31, 0x32, 0x33, 0x34, 0x41, 0x42, 0x43, 0x44, 0x45, 0x46, 0x51, 0x52, 0x53, 0x54, 0x61, 0x62, 0x63, 0x64,
      0x71, 0x72, 0x73, 0x74, 0x75, 0x76, 0x81, 0x82, 0x83, 0x84, 0x85, 0x86, 0x87, 0x88, 0x91, 0x92] ∧
    weftHdrOf (weftHdrBytes h) = h) := by decide +kernel

/-- Sample 4 of NIST's KMAC256 examples: key 40 to 5F, data 00 to 03, customization "My Tagged Application". -/
theorem test_kmac256 : (kmac256 ((List.range 32).map (fun i => BitVec.ofNat 8 (0x40 + i))) [0, 1, 2, 3] (ascii "My Tagged Application") 64).take 8 =
    [0x20, 0xC5, 0x70, 0xC3, 0x13, 0x46, 0xF7, 0x03] := by decide +kernel

/-! ## Witnesses of the statements without an instruction of their own -/

theorem witness_frames_apply : ∀ p, p ∈ allParts → p ∉ mayChange .stackHotClear ∨ p ∉ mayChange .doeAbort := by decide

theorem witness_a_command_completes : (∃ t, exec .doeAbort State.reset = .next t) ∧ resetsDevice .doeAbort = false ∧
    tgetD State.reset.dev.ctr 0x200 0 ≤ satMax := ⟨⟨_, rfl⟩, by decide, by decide⟩

theorem witness_memories_and_shape : memWf 0xFF State.reset.nor = true ∧ memWf 0 State.reset.dev.sas.work = true ∧
    memWf 0 State.reset.dev.intake.window = true ∧ memWf 0 State.reset.dev.pair.mirrorMem = true ∧ shapeHeld State.reset ∧
    ∃ t, step State.reset = .next t := by
  refine ⟨by decide, by decide, by decide, by decide, ?_, ⟨_, rfl⟩⟩
  unfold shapeHeld
  decide

theorem witness_fuses : ∃ t, step { fuses := { slots := [some [1], none, none, none], revoked := 1, deployed := true } } = .next t :=
  ⟨_, rfl⟩

/-- A fault record with every field at the end of its range. -/
def topRecord : FaultRec where
  unit := true
  cause := 0xFFF
  status := 0xFFFF
  subjKind := 0xFF
  subject := 2 ^ 64 - 1
  first := 0
  last := 2 ^ 64 - 1
  witness := 2 ^ 32 - 1
  detail0 := 0
  detail1 := 2 ^ 64 - 1
  lane := 127

theorem witness_fault_record :
    let f := topRecord
    f.cause < 2 ^ 12 ∧ f.status < 2 ^ 16 ∧ f.subjKind < 2 ^ 8 ∧ f.subject < 2 ^ 64 ∧ f.first < 2 ^ 64 ∧ f.last < 2 ^ 64 ∧
    f.witness < 2 ^ 32 ∧ f.detail0 < 2 ^ 64 ∧ f.detail1 < 2 ^ 64 ∧ f.lane < 2 ^ 7 := by decide

/-- The 64 bytes of that record, field by field from the table. -/
theorem test_fault_record_bytes : faultBytes topRecord =
    [5, 3, 0xFF, 0x0F, 0xFF, 0xFF, 0xFF, 0] ++ List.replicate 8 0xFF ++ List.replicate 8 0 ++ List.replicate 8 0xFF ++
    [0xFF, 0xFF, 0xFF, 0xFF, 0, 0, 0, 0] ++ List.replicate 8 0 ++ List.replicate 8 0xFF ++ [0, 0, 0, 0, 0x7F, 0, 0, 0] := by
  decide +kernel

/-! ## Bring-up -/

def w1Reset : State := st { boot := { phase := .inReset } }
def w1Image : State := st { boot := { phase := .awaitImage } }
def w1Vault : State :=
  { dev := { boot := { phase := .awaitVault }, ready := 63 * 2 ^ 9 }, nor := (List.range 16).map (fun i => (0x210000 + i, 0)) }
def w1Tiles : State := st { dev0 with ready := dev0.ready - 2 ^ 37 }

theorem witness_step : ∃ (c : Instr) (rest : List Instr) (s : State), s.pending = c :: rest :=
  ⟨.doeAbort, [], { pending := [.doeAbort] }, rfl⟩

theorem witness_idle : (st dev0).pending = [] ∧ ¬(outOfReset dev0 ∧ dev0.clk.fallback) ∧
    (let d := { dev0 with clk := { fallback := true } }; outOfReset d ∧ d.clk.fallback) := by decide

theorem witness_resets : 1000 ≤ 1000 ∧ 999 < 1000 := by decide

theorem witness_bringUp : w1Reset.dev.boot.phase = .inReset ∧ (if activeSlot w1Reset 1 = 0 then true else false) = true ∧
    w1Image.dev.boot.phase = .awaitImage ∧ w1Vault.dev.boot.phase = .awaitVault ∧
    6 ≤ ((List.range 12).filter (fun n => isReady w1Vault.dev (rbStack n))).length ∧ vaultSections w1Vault w1Vault.dev.boot.slot true ∧
    w1Tiles.dev.boot.phase = .running ∧ isReady w1Tiles.dev (rbTiles 0) = false := by
  decide +kernel

def w1Staged : State := st { dev0 with
  sec := { dev0.sec with updateStaged := true }
  boot := { dev0.boot with staged := some (1, 7) } }
def w1Switch : State := st { dev0 with boot := { dev0.boot with switchTo := some 1 } }
def w1Window : State := st { dev0 with sec := { dev0.sec with switching := true } }

theorem witness_imageSwitch : rotRuns w1Staged.dev ∧ signedCheck w1Staged.dev hdr0 qImage = St.ok ∧ w1Staged.dev.sec.switching = false ∧
    w1Staged.dev.sec.updateStaged ∧ w1Staged.dev.boot.staged = some (1, 7) ∧ w1Staged.dev.boot.updating = none ∧
    w1Switch.dev.boot.switchTo = some 1 ∧ undelivered w1Switch.dev = 0 ∧ w1Window.dev.sec.switching ∧
    w1Window.dev.boot.switchTo = none ∧ isReady w1Window.dev rbImage :=
  ⟨by decide, hdr0_ok _ _ rfl rfl (by decide) (by decide), by decide, by decide, by decide, by decide, by decide, by decide,
    by decide, by decide, by decide⟩

def w1Upd (c : Nat) : State := st { dev0 with boot := { dev0.boot with updating := some c } }
def w1Apply : State := st { dev0 with sec := { dev0.sec with updateStaged := true }, boot := { dev0.boot with updating := some 2 } }
def w1NoImage : State := st { boot := { phase := .noImage } }

theorem witness_update : rotRuns dev0 ∧ dev0.boot.updating = none ∧ dev0.sec.switching = false ∧
    0xFFFFF + [7#8].length ≤ (updateSlot (w1Upd 1) 1).2 ∧ (w1Upd 2).dev.boot.updating = some 2 ∧ (w1Upd 1).dev.boot.updating = some 1 ∧
    w1Apply.dev.boot.updating = some 2 ∧ w1Apply.dev.sec.updateStaged ∧ rotRuns w1NoImage.dev ∧ w1NoImage.dev.boot.phase = .noImage ∧
    w1NoImage.dev.boot.updating = none ∧ w1NoImage.dev.sec.switching = false := by decide

/-! ## Clock and monitoring -/

def w1Unlocked : State := st { dev0 with clk := { dev0.clk with lock := 0xFFFF } }
def w1Cores : State := st { dev0 with sec := { dev0.sec with coresInReset := true } }

theorem witness_clock : outOfReset dev0 ∧ dev0.clk.fallback = false ∧ dev0.clk.refOk ∧ dev0.flt.custody = .normal ∧
    bitOf dev0.clk.lock 16 ∧ outOfReset w1Unlocked.dev ∧ bitOf w1Unlocked.dev.clk.lock 16 = false ∧ dev0.boot.phase = .running ∧
    dev0.sec.switching = false ∧ outOfReset w1Cores.dev ∧ w1Cores.dev.sec.coresInReset := by decide

def w1Co : State := st { dev0 with flt := { fullLost := 1, fullReportAt := 0 } }

theorem witness_monitoring : outOfReset dev0 ∧ nextAllowed dev0 3 (7#64).toNat 64 ≤ now dev0 ∧
    (∀ e ∈ dev0.flt.entries, e.subjKind = 3 → e.subject = (7#64).toNat → e.dest = 64 ∧ e.pending = 0) ∧
    w1Co.dev.flt.fullLost ≠ 0 ∧ w1Co.dev.flt.fullReportAt + coalesceNs w1Co.dev ≤ now w1Co.dev := by decide


/-! ## Signed messages and security associations -/

theorem witness_signed : (hdr0.formOk = true ∧ hdr0.sigs ≠ [] ∧ hdr0.sigs.length ≤ 16) ∧ hdr0.target = idDigest ∧
    (hdr0.session = dev0.sec.session ∧ dev0.sec.msgSeq < hdr0.seq) ∧ (∀ x ∈ hdr0.sigs, x.2 = true ∧ x.1 < mgrKeyCount dev0) ∧
    img dev0 0x500010 43 40 < (hdr0.sigs.map (·.1)).eraseDups.length :=
  ⟨by decide, rfl, by decide, by decide, by decide⟩

def w2Custody : State := st { dev0 with flt := { custody := .custody } }
def w2Testing : State := st { dev0 with flt := { custody := .testing }, boot := { dev0.boot with roles := 2 } }

theorem witness_custody : rotRuns dev0 ∧ signedCheck dev0 hdr0 qCustody = St.ok ∧ dev0.sec.switching = false ∧
    dev0.flt.custody = .normal ∧ rotRuns w2Custody.dev ∧ signedCheck w2Custody.dev hdr0 qReadmit = St.ok ∧
    w2Custody.dev.sec.switching = false ∧ w2Custody.dev.flt.custody = .custody ∧ w2Testing.dev.flt.custody = .testing ∧
    w2Testing.dev.clk.fallback = false ∧ w2Testing.dev.sec.error = false ∧ w2Testing.dev.sec.zeroized = false ∧
    (∀ u ∈ w2Testing.dev.stk.units, u.st ≠ 5) ∧ 6 ≤ (usableStacks w2Testing.dev).length ∧ requiredDrafts w2Testing.dev = [] :=
  ⟨by decide, hdr0_ok _ _ rfl rfl (by decide) (by decide), by decide, by decide, by decide, hdr0_ok _ _ rfl rfl (by decide) (by decide),
    by decide, by decide, by decide, by decide, by decide, by decide, by decide, by decide, by decide⟩

def w2Zero : State := st { dev0 with sec := { dev0.sec with zeroized := true, keys := false } }

theorem witness_keys : rotRuns dev0 ∧ signedCheck dev0 hdr0 qZeroize = St.ok ∧ bits (0xC300#64).toNat 15 8 = 0xC3 ∧ dev0.sec.error = false ∧
    signedCheck w2Zero.dev hdr0 qSelfTest = St.ok ∧ w2Zero.dev.sec.switching = false ∧ w2Zero.dev.sec.zeroized ∧
    signedCheck dev0 hdr0 qSelfTest = St.ok ∧ dev0.sec.switching = false ∧ dev0.sec.zeroized = false :=
  ⟨by decide, hdr0_ok _ _ rfl rfl (by decide) (by decide), by decide, by decide, hdr0_ok _ _ rfl rfl (by decide) (by decide), by decide,
    by decide, hdr0_ok _ _ rfl rfl (by decide) (by decide), by decide, by decide⟩

def w2Sa (init rep : Bool) : State := st { dev0 with
  boot := { dev0.boot with peers := zeroBytes 64 }
  sec := { dev0.sec with assocs := [{ index := 4095, initiator := init, peerFleet := 9, handshake := 3, started := 0, replied := rep }] } }
def w2Msg : SaMsg := { localSa := 4095, handshake := 3, checksOk := true }
def w2Open : SaOpenBody := { localSa := 4095, initiator := true, peerFleet := 9, handshake := 3, peerId := [] }

theorem witness_associations : rotRuns dev0 ∧ signedCheck dev0 hdr0 qSa = St.ok ∧ dev0.sec.switching = false ∧ w2Open.localSa ≤ 4095 ∧
    assocAt dev0 w2Open.localSa = none ∧ (∀ c ∈ dev0.weft.conns, c.saTx ≠ 4095) ∧ (saHalf (w2Sa false false).dev w2Msg false).isSome ∧
    (saHalf (w2Sa true false).dev w2Msg true).isSome ∧ saChecks (w2Sa true false).dev w2Msg ∧
    (saHalf (w2Sa false true).dev w2Msg false).any (·.replied) ∧
    (assocAt (w2Sa true false).dev 4095).any (fun a => !a.established && a.started + 1000000000 ≤ now dev0) :=
  ⟨by decide, hdr0_ok _ _ rfl rfl (by decide) (by decide), by decide, by decide, by decide, by decide, by decide, by decide, by decide,
    by decide, by decide⟩

def w2Fenced : State := st { dev0 with fab := { fenced := [639, 2] } }
def w2Gate : State := st { dev0 with img := tset (tset dev0.img (gList 7 3) (2 ^ 31)) (gList 7 0) (2 ^ 31 + 1000) }

theorem witness_signedService : rotRuns w2Gate.dev ∧ w2Gate.dev.sec.switching = false ∧ signedCheck w2Gate.dev hdr0 qGate = St.ok ∧
    signedCheck w2Gate.dev hdr0 qFence = St.ok ∧ signedCheck w2Gate.dev hdr0 qStack = St.ok ∧ (∀ t ∈ [639], t < 640) ∧
    11 < w2Gate.dev.stk.units.length ∧ (stackAt w2Gate.dev 11).usable ∧ 7 < w2Gate.dev.ports.length ∧
    gateRefused w2Gate.dev 7 3 1000100000 = St.ok :=
  ⟨by decide, by decide, hdr0_ok _ _ rfl rfl (by decide) (by decide), hdr0_ok _ _ rfl rfl (by decide) (by decide),
    hdr0_ok _ _ rfl rfl (by decide) (by decide), by decide, by decide, by decide, by decide, by decide⟩


/-! ## The pair -/

def w3Pair (p : Pair) : State := st { dev0 with
  pair := p
  img := tset (tset dev0.img 0x4C0000 (1 + 6 * 2 ^ 16 + 100 * 2 ^ 40)) 0x4C0008 1000
  sec := { dev0.sec with assocs := [{ index := 0, initiator := true, peerFleet := 6, handshake := 3, started := 0, established := true }] } }
def w3Mirror : State := w3Pair { state := .mirrored, lastFrame := 999000000, sent := 4, applied := 7 }
def w3Form : State := w3Pair { state := .forming, ownResync := true }

theorem witness_pair : rotRuns w3Mirror.dev ∧ pairLinked w3Mirror.dev ∧ w3Mirror.dev.pair.state = .mirrored ∧
    (∀ t, w3Mirror.dev.pair.lastHeartbeat = some t → t + hbNs w3Mirror.dev ≤ now w3Mirror.dev) ∧
    pairLinked w3Form.dev ∧ w3Form.dev.pair.state = .forming ∧ w3Form.dev.pair.resyncSent = none ∧ w3Form.dev.pair.ownResync ∧
    (applyAll { w3Mirror.dev with pair := { w3Mirror.dev.pair with lastFrame := now w3Mirror.dev } }
      [{ kind := 1, owner := 64, addr := 0x10000000000, data := [1, 2] }]).isSome ∧ w3Mirror.dev.pair.applied + 1 < 9 ∧
    w3Mirror.dev.pair.lastFrame + lossNs w3Mirror.dev ≤ now w3Mirror.dev ∧ signedCheck w3Mirror.dev hdr0 qTakeover = St.ok ∧
    w3Mirror.dev.sec.switching = false ∧ paired w3Mirror.dev ∧ 6 = partnerFleet w3Mirror.dev ∧ paired dev0 = false ∧
    (findAssoc w3Mirror.dev (pairSa w3Mirror.dev)).any (fun a => a.pn + 2 < 2 ^ 48 - 2 ^ 40) ∧ saUsable w3Form.dev (pairSa w3Form.dev) := by
  refine ⟨by decide, by decide, by decide, ?_, by decide, by decide, by decide, by decide, by decide, by decide, by decide,
    hdr0_ok _ _ rfl rfl (by decide) (by decide), by decide, by decide, by decide, by decide, by decide, by decide⟩
  intro t h; cases h

/-! ## The management plane -/

def w3Spdm (sessions : List (Nat × Bool)) : State := st { dev0 with
  sec := { dev0.sec with sessions := sessions }
  boot := { dev0.boot with aliasFormed := true } }

theorem witness_spdm : rotRuns (w3Spdm [(0, false)]).dev ∧ (w3Spdm []).dev.sec.negotiated ∧ (w3Spdm []).dev.boot.measureImg ≠ [] ∧
    (w3Spdm []).dev.sec.switching = false ∧ (w3Spdm []).dev.boot.aliasFormed ∧ (0, false) ∈ (w3Spdm [(0, false)]).dev.sec.sessions ∧
    (0, true) ∈ (w3Spdm [(0, true)]).dev.sec.sessions ∧ (w3Spdm [(0, true)]).dev.sec.keys ∧ 8 ≤ 8 ∧ (1 : Nat) ≠ 0 ∧
    (measureBlocks (w3Spdm [])).filter (fun x => x.1 == 2) = [(2, [1])] := by decide

def w3Event : State := st { dev0 with mon := { receiver := some 1, outstanding := some (100, 2), sentAt := 0 } }

theorem witness_management : rotRuns dev0 ∧ fileAnswers dev0 ∧ 0x7FFFF8 % 8 = 0 ∧ 0 + 8 * (32 - 1) ≤ 0x7FFFF8 ∧
    (st dev0).fuses.deployed = false ∧ (st dev0).fuses.slots[3]? = some none ∧ 21 ≤ 21 ∧ (numericReading dev0 16).isSome ∧
    (stateReading dev0 103).isSome ∧ w3Event.dev.mon.outstanding = some (100, 2) ∧ w3Event.dev.mon.waiting = [] ∧
    w3Event.dev.mon.sentAt + 1000000000 ≤ now w3Event.dev := by decide

/-- Boundary reads of BAR0: 64, 32, 16 and 8 bits and a misaligned read, of IDENT_FLEET_NUMBER, and past the last register. -/
theorem test_bar0 : barRead (st dev0) 64 8 8 = [5, 0, 0, 0, 0, 0, 0, 0] ∧ barRead (st dev0) 64 12 4 = [0, 0, 0, 0] ∧
    barRead (st dev0) 64 8 1 = [5] ∧ barRead (st dev0) 64 9 4 = [0, 0, 0, 0] ∧ barRead (st dev0) 64 0x7FFFF8 8 = zeroBytes 8 := by
  decide +kernel


/-! ## The host link and configuration -/

def w4Read : State := st { dev0 with host := { dev0.host with reads := [{ id := 2, owner := 64, addr := 0, len := 8, use := .other {} }] } }
def w4Down : State := st { dev0 with host := { dev0.host with l0 := false } }
def w4Irq (m : Msix) : State := st { dev0 with host := { dev0.host with msix := [(64, m)] } }
def w4Vfs : State := st { dev0 with host := { dev0.host with vfs := 64 } }

theorem witness_hostLink : (w4Read.dev.host.reads.find? (fun y => y.id == 2)).any (fun x => x.use = .other {}) ∧ w4Read.dev.host.l0 ∧
    w4Down.dev.host.l0 = false ∧ outOfReset w4Down.dev ∧
    tget (w4Irq { enabled := true, masked := false, pending := true, lastSent := some 999900000 }).dev.host.msix 64 =
      some { enabled := true, masked := false, pending := true, lastSent := some 999900000 } ∧
    999900000 + 100000 ≤ now (w4Irq {}).dev ∧ fnUp (w4Irq {}).dev 64 ∧ (w4Irq {}).dev.pair.state = .unpaired ∧
    tget (w4Irq {}).dev.host.msix 64 = some {} ∧ 63 < w4Vfs.dev.host.vfs ∧ (16 : Nat) ∈ [1, 4, 8, 16] := by decide

def w4Doe (b : Bool) : State := st { dev0 with host := { dev0.host with doeBusy := b } }
def w4Obj (n : Nat) : DoeObject := { vendorPciSig := true, type := 2, length := n }
def w4Td (t : Tdisp) : State := st { dev0 with
  img := tset dev0.img 0x500008 (2 + 2 ^ 8)
  host := { dev0.host with vfs := 4, tdisp := [(3, t)] } }

theorem witness_configuration : dev0.host.doeError = false ∧ dev0.host.doeBusy = false ∧ (w4Obj 16384).length ≤ 16384 ∧
    16384 < (w4Obj 16385).length ∧ (4096 : Nat) ∈ [128, 256, 512, 1024, 2048, 4096] ∧ (64 : Nat) ≤ 64 ∧
    (tgetD dev0.host.msix 64 {}).pending = false ∧ tdispHeld (w4Td .run).dev 3 := by decide

theorem witness_tdisp : tdispRequired (w4Td .unlocked).dev ∧ 3 ∈ (w4Td .unlocked).dev.host.busMaster ∧
    3 ∈ (w4Td .unlocked).dev.host.memSpace ∧ (∀ r ∈ (w4Td .unlocked).dev.rings, r.owner ≠ 3) ∧
    (∀ q ∈ (w4Td .unlocked).dev.lines.queues, q.owner ≠ 3) ∧ tdispOf (w4Td .unlocked).dev 3 = .unlocked ∧
    tdispOf (w4Td .locked).dev 3 = .locked ∧ tdispOf (w4Td .run).dev 3 = .run := by decide


/-! ## Intake -/

def w5Lane (seq : Nat) : State := st { dev0 with
  intake := { window := memWriteN 0 [] (512 * 65536 / 512 * 3 + 128) (mk [(0, 1, 0x12), (0x7C, 4, seq)]), written := [512 * 3 + 1], lanes := [(3, { expected := 1 })], scan := 3 } }
def w5Stalled : State := st { dev0 with intake := { lanes := [(3, { stalled := true })], scan := 3 } }

theorem witness_intakeLane :
    (let d := (w5Lane 1).dev; let x := laneAt d 3; let slot := 512 * 3 + x.expected.toNat % 512
     let bs := memReadN 0 d.intake.window (3 * 65536 + x.expected.toNat % 512 * 128) 128
     let t : Taken := { lane := 3, seq := x.expected, arrival := now d, bytes := bs, remote := d.intake.remoteSlots.contains slot }
     nextLane d = some 3 ∧ laneScanned d 3 ∧ x.stalled = false ∧ slot ∈ d.intake.written ∧ serialDiff (u32 (fld bs 0x7C 31 0)) x.expected = 0 ∧
       heldBack d t = none ∧ kindDefined t.kind) ∧
    (let d := (w5Lane 2).dev; let x := laneAt d 3
     let bs := memReadN 0 d.intake.window (3 * 65536 + x.expected.toNat % 512 * 128) 128
     0 < serialDiff (u32 (fld bs 0x7C 31 0)) x.expected) ∧
    (laneAt w5Stalled.dev 3).stalled ∧ nextLane w5Stalled.dev = some 3 ∧ nextLane dev0 ≠ some 3 ∧ bits (6#64).toNat 7 1 = 3 ∧ laneEnabled w5Stalled.dev 3 := by
  decide +kernel

/-- Lane 3 of the physical function, its last byte. -/
theorem witness_intakeWindow : dev0.host.l0 ∧ 64 ∈ dev0.host.memSpace ∧ 3 < 128 ∧ laneEnabled dev0 3 ∧ laneOwner dev0 3 = 64 ∧
    3 * 65536 ≤ 4 * 65536 - 4 ∧ 4 * 65536 - 4 + [1#8, 2#8, 3#8, 4#8].length ≤ (3 + 1) * 65536 := by decide

def w5LaneSetup : Bytes := mk [(0, 1, 1), (2, 2, 1), (0x20, 1, 2), (0x22, 2, 256), (0x28, 8, 0x1000), (0x30, 4, 2)]
def w5RingSetup : Bytes := mk [(0, 1, 2), (2, 2, 1), (0x20, 2, 0x100F), (0x24, 1, 6), (0x28, 8, 0x4000), (0x30, 8, 0x818)]
def w5RingGone : Bytes := mk [(0, 1, 2), (2, 2, 1), (0x20, 2, 2), (0x24, 1, 20)]

theorem witness_laneAndRing :
    (let d := devT w5LaneSetup; let t := tk w5LaneSetup
     findTaken d 0 0 = some t ∧ t.kind = 0x01 ∧ t.f 0x20 1 0 = 2 ∧ (findConn d (t.f 0x30 19 0)).isSome ∧
       recCheck d t true (t.f 0x20 1 0 == 2 && connForeign d 64 (t.f 0x30 19 0)) none true true false = none) ∧
    (let d := devT w5RingSetup; let t := tk w5RingSetup
     findTaken d 0 0 = some t ∧ t.kind = 0x02 ∧ t.f 0x20 13 12 ≠ 0 ∧ findRing d (t.f 0x20 11 0) = none ∧
       recCheck d t true (ringForeign d 64 (t.f 0x20 11 0) || (t.f 0x20 14 14 == 1 && connForeign d 64 (t.f 0x38 19 0))) none true true
         false = none) ∧
    (let d := devT w5RingGone; let t := tk w5RingGone
     findTaken d 0 0 = some t ∧ t.kind = 0x02 ∧ t.f 0x20 13 12 = 0 ∧ (findRing d (t.f 0x20 11 0)).any (fun r => !ringInUse d r) ∧
       recCheck d t true (ringForeign d 64 (t.f 0x20 11 0)) none true true false = none) := by decide +kernel

def w5Ring (r : Ring) : State := st { dev0 with rings := [r] }
def ring5 : Ring where
  num := 1
  kind := 1
  owner := 64
  remote := false
  log2 := 4
  base := 0x1000
  headAddr := 0x800
  conn := 0
  produced := 16
  reading := true
  fullSince := some 0

theorem witness_ringHeads : findRing (w5Ring ring5).dev 1 = some ring5 ∧ ring5.reading ∧
    (2 ^ 32 + ring5.produced % 2 ^ 32 - 0 % 2 ^ 32) % 2 ^ 32 ≤ ring5.slots ∧ ring5.stallTold = false ∧
    0 + ringStallNs (w5Ring ring5).dev ≤ now (w5Ring ring5).dev := by decide

def w5Check (cont : Bool) : Bytes :=
  mk [(0, 1, 0x30), (2, 2, 1), (0x20, 1, 15 + 64 * bit1 cont), (0x24, 4, 9), (0x28, 8, 0x2000)]
def w5Nine : Bytes := [0x31, 0x32, 0x33, 0x34, 0x35, 0x36, 0x37, 0x38, 0x39]
def w5Unit : State := st { dev0 with rings := rings0
                                     checks := (List.replicate 16 {}).set 15 { queue := [{ ref := { ring := 1 }, poly := 1, cont := false, len := 9, src := 0, sas := false }] } }
def w5Sas : State := st { dev0 with
  rings := rings0
  sas := { frames := [(34359738368, { stack := some 8, phys := 58065 })], work := [(0x800000000001, 5)] }
  checks := (List.replicate 16 {}).set 0 { queue := [{ ref := { ring := 1 }, poly := 3, cont := false, len := 9, src := 0x800000000000, sas := true }] } }
def w5Cont : State := st { devT (w5Check true) with checks := (List.replicate 16 {}).set 15 { owner := 64, ok := true } }

theorem witness_checks :
    (let d := devT (w5Check false); let t := tk (w5Check false)
     d.checks.length = 16 ∧ findTaken d 0 0 = some t ∧ t.kind = 0x30 ∧ (t.f 0x20 6 6 = 1 ↔ false = true) ∧
       recCheck d t true false none false true false = none ∧ t.f 0x28 48 48 ≠ 1) ∧
    (let d := w5Cont.dev; let t := tk (w5Check true)
     findTaken d 0 0 = some t ∧ (t.f 0x20 6 6 = 1 ↔ true = true) ∧ recCheck d t true false none false true false = none ∧
       (checkAt d 15).chains { ref := t.ref d, poly := 0, cont := true, len := 9, src := 0x2000, sas := false }) ∧
    w5Unit.dev.checks.length = 16 ∧ (checkAt w5Unit.dev 15).queue.length = 1 ∧ w5Nine.length = 9 ∧ fnUp w5Unit.dev 64 ∧
    (tk (w5Check false)).deadline = none ∧ (checkAt w5Sas.dev 0).queue.length = 1 ∧ w5Sas.dev.sec.zeroized = false ∧
    (readRanges [{ frame := 0x800000000, line := 0, errs := [] }] [(0x800000000000, 9)] w5Sas.dev).1 = false := by decide +kernel


/-! ## The Weft transport -/

/-- A command block that names its target. -/
def aimed (n : Nat) (b : Bytes) : Bytes := patch (fit b 256) 0xF8 (le n 4)
/-- A context block: owner 64, peer 9, association 1. -/
def w6Blk : Bytes := fit (mk [(0, 2, 64 * 8), (4, 4, 9), (0x18, 4, 4), (0x1C, 2, 1), (0x20, 1, 1), (0x28, 4, 500), (0x40, 4, 77), (0x50, 4, 88)]) 256
def w6 : State := st (devT [])
def w6With (c : Conn) : State := st { devT [] with weft := { conns := [c, conn1] } }
def w6Destroying : Conn := { conn0 with state := .destroying }

theorem witness_connections : (∀ n ∈ [2, 1048575], (aimed n w6Blk).length = 256 ∧ cmdTarget (aimed n w6Blk) = n) ∧ w6.dev.weft.cmdBusy = false ∧ findConn w6.dev 1048575 = none ∧
    fieldsRefused w6.dev (Conn.setFields w6.dev { num := 1048575 } (aimed 1048575 w6Blk)) = none ∧ findConn w6.dev 2 = some conn0 ∧
    conn0.state = .ready ∧ fieldsRefused w6.dev (Conn.setFields w6.dev conn0 (aimed 2 w6Blk)) = none ∧ conn0.txEpoch.length = 8 ∧ quietConn conn0 ∧
    findConn (w6With w6Destroying).dev 2 = some w6Destroying := by decide +kernel

def w6Region : Bytes := fit (mk [(4, 2, 8 + 64 * 32), (8, 8, 0x20000000000), (0x10, 8, 0x4000000), (0x18, 4, 0xFFFFF)]) 256
def reg6 (s : RegionState) : Region := { gen := 5, state := s, rd := true, wr := true, owner := 64, base := 0x11000000000, length := 0x100000 }
def w6Reg (s : RegionState) : State := st { devT [] with
  weft := { conns := [conn0, conn1], regions := [(16383, reg6 s)] }
  sas := { frames := [(0x11000000, { stack := some 0, phys := 9 })] } }
def w6Key : Nat := 16383 + 5 * 2 ^ 14

theorem witness_regions : (∀ n ∈ [16383, w6Key], (aimed n w6Region).length = 256 ∧ cmdTarget (aimed n w6Region) = n) ∧ (tgetD w6.dev.weft.regions 16383 {}).state = .free ∧ fld w6Region 4 4 4 = 0 ∧
    inStage w6.dev (fld w6Region 4 11 5) (fld w6Region 8 47 0) (fld w6Region 0x10 39 0) ∧ w6Key % 2 ^ 14 = 16383 ∧
    tget (w6Reg .valid).dev.weft.regions (w6Key % 2 ^ 14) = some (reg6 .valid) ∧ (reg6 .valid).gen = BitVec.ofNat 18 (w6Key / 2 ^ 14) ∧
    tget (w6Reg .revoking).dev.weft.regions 16383 = some (reg6 .revoking) ∧ (reg6 .revoking).inflight = 0 := by decide +kernel

def w6Flush (only : Bool) : Bytes := mk [(0, 1, 0x21), (2, 2, 1), (0x20, 4, 2 + 2 ^ 20 * 2 + 2 ^ 22 * bit1 only), (0x24, 4, 3)]
def w6Entry (e : SqEntry) : State := w6With { conn0 with queue := [e] }
def w6Write : SqEntry := { op := 1, length := 4, data := .bytes [1, 2, 3, 4], raddr := 0x40, rkey := 7 }
def w6Wait : SqEntry := { op := 5, waitMode := 1, waitConn := 3, target := 4, headAt := some 0 }

theorem witness_sendQueue :
    (let d := devT (w6Flush true); let t := tk (w6Flush true)
     findTaken d 0 0 = some t ∧ t.kind = 0x21 ∧ (t.f 0x20 22 22 = 1 ↔ true = true) ∧ findConn d (t.f 0x20 19 0) = some conn0 ∧
       (findConn d (t.f 0x24 19 0)).isSome ∧
       recCheck d t true (connForeign d 64 (t.f 0x20 19 0) || (t.f 0x20 21 20 != 0 && connForeign d 64 (t.f 0x24 19 0))) none false true
         false = none) ∧
    (let d := (w6Entry w6Write).dev
     findConn d 2 = some { conn0 with queue := [w6Write] } ∧ waitMet d w6Write ∧ streaming d = false ∧ w6Write.op ≠ 0x10 ∧
       conn0.msgs.length < 64 ∧ saUsable d 1 ∧ (∀ m ∈ conn0.msgs, m.packets ≤ m.sent) ∧ entryLate d w6Write = false) ∧
    (let d := (w6Entry w6Wait).dev
     waitMet d w6Wait = false ∧ w6Wait.headAt.getD (now d) + img d 0x180000 43 34 * 1000000 ≤ now d ∧
       quietConn { conn0 with queue := [w6Wait] }) := by decide +kernel

def pkt6 (op conn : Nat) (msn : U32) (mlen : Nat) (pl : Bytes) : Pkt :=
  { port := 0, srcIp := 0, hdr := { op := op, sa := 1, pn := 1, conn := conn, msn := msn, mlen := mlen, rkey := w6Key, raddr := 0x20 }, payload := pl, tagOk := true }

/-- A packet passes its checks at a device, and its message is new, at the edge of the window. -/
def newAt (d : Dev) (p : Pkt) : Bool :=
  let x := rxCheck d p
  x.1.any (fun c => windowOfMsn c p.hdr.msn == .inside && (findTracker x.2 c.num p.hdr.msn).isNone && findConn x.2 c.num == some c) &&
  x.2.weft.trackers.isEmpty

theorem witness_receiver : newAt (w6Reg .valid).dev (pkt6 1 2 63 4 [1, 2, 3, 4]) ∧
    (keyCheck (w6Reg .valid).dev conn0 w6Key 0x20 4 true).isLeft ∧
    (workWrite (rxCheck (w6Reg .valid).dev (pkt6 1 2 63 4 [1, 2, 3, 4])).2 64 0x11000000020 [1, 2, 3, 4]).isSome ∧
    newAt (w6Reg .valid).dev { pkt6 2 3 63 8 [] with hdr := { (pkt6 2 3 63 8 []).hdr with svc := 0x11 } } ∧
    newAt (w6Reg .valid).dev (pkt6 3 2 63 65536 []) ∧ (keyCheck (w6Reg .valid).dev conn0 w6Key 0x20 65536 false).isLeft ∧
    newAt (w6Reg .valid).dev (pkt6 5 2 0 0 []) ∧ newAt (w6Reg .valid).dev (pkt6 0xB 2 63 0 []) ∧
    saUsable (rxCheck (w6Reg .valid).dev (pkt6 0xB 2 63 0 [])).2 1 ∧ (w6Reg .valid).dev.ports.length = 8 := by decide +kernel

def msg6 (op n : Nat) : Msg := { msn := 7, op := op, cls := .b, imm := none, data := .bytes (List.replicate 8 1), mlen := 8, offset0 := 0,
                                 raddr := 0, rkey := 0, svc := 0, ordinal := 1, lastOfEntry := true, use := .nobody,
                                 sent := 1, left := 1, packets := 1, timeouts := n, timerAt := some 0 }
def conn6 (op n : Nat) : Conn := { conn0 with sendMsn := 8, posted := 1, msgs := [msg6 op n] }

theorem witness_sender :
    (∀ op ∈ [1, 3], let d := (w6With (conn6 op 0)).dev; (conn6 op 0).state = .ready ∧ quietConn (conn6 op 0) ∧ findConn d 2 = some (conn6 op 0) ∧
      (conn6 op 0).msg? 7 = some (msg6 op 0) ∧ (msg6 op 0).timerAt = some 0 ∧ 0 ≤ now d ∧ (msg6 op 0).timeouts + 1 < img d 0x180000 29 26) ∧
    (rxCheck (w6With (conn6 1 0)).dev (pkt6 8 2 7 0 (zeroBytes 16))).1 = some (conn6 1 0) ∧
    (rxCheck (w6With (conn6 1 0)).dev (pkt6 9 2 7 0 (zeroBytes 144))).1 = some (conn6 1 0) ∧
    (findAssoc (w6With (conn6 1 0)).dev 1).any (fun a => a.pn + 1 + 2 < 2 ^ 48) ∧ (msg6 1 0).withdrawn = false ∧
    streaming (w6With (conn6 1 0)).dev = false ∧
    (rxCheck (w6With (conn6 1 0)).dev (pkt6 10 2 7 0 (zeroBytes 16))).1 = some (conn6 1 0) ∧ unBe (sub (zeroBytes 16) 8 2) ≠ St.reqEnded ∧
    unBe (sub (zeroBytes 8 ++ be St.reqEnded 2 ++ zeroBytes 6) 8 2) = St.reqEnded ∧
    (rxCheck (w6With (conn6 3 0)).dev (pkt6 4 2 7 8 (zeroBytes 8))).1 = some (conn6 3 0) ∧
    (msg6 3 0).mlen ≤ (placeReply (msg6 3 0) 0 (zeroBytes 8)).got.length * 4096 ∧
    img (w6With (conn6 1 6)).dev 0x180000 29 26 ≤ (msg6 1 6).timeouts + 1 := by decide +kernel


/-! ## Line operations -/

def w7 (q : LineQueue) (issues : List LineIssue) : State := st { devT [] with lines := { queues := [q], issues := issues } }
def lq7 : LineQueue := { owner := 64, log2 := 12, base := 0x5000, expected := 1 }
def desc7 (w : Bool) : LineDesc := { owner := 64, seq := 1, write := w, fence := false, conn := 2, rkey := 0, raddr := 0, result := 0x9000, data := [] }
def issue7 (w : Bool) (t : Nat) : LineIssue := { tag := 6, agent := 0, slot := 0, desc := desc7 w, issuedAt := t }

theorem witness_lineQueues : bits (64 * 2 + 12 * 2 ^ 8 + 5 * 2 ^ 12) 7 1 = 64 ∧ bits (64 * 2 + 12 * 2 ^ 8 + 5 * 2 ^ 12) 11 8 = 12 ∧
    (devT []).lines.queues.any (·.closing) = false ∧ (w7 { lq7 with closing := true } []).dev.lines.queues.any (·.closing) ∧ findLq (devT []) 64 = none ∧ findLq (w7 lq7 []).dev 64 = some lq7 ∧
    lq7.closing = false ∧ lq7.waiting = [] ∧ bits (64 * 2) 11 8 = 0 := by decide

/-- A descriptor: operation, connection 2, stamp. -/
def slot7 (op seq : Nat) : Bytes := mk [(0, 1, op), (4, 4, 2), (0x10, 8, 0x40), (0x18, 8, 0x9000), (0x7C, 4, seq)]

theorem witness_lineIssues : lqRuns (w7 lq7 []).dev 64 = some lq7 ∧ fnUp (w7 lq7 []).dev 64 ∧ (slot7 1 1).length = 128 ∧
    0 < serialDiff (u32 (fld (slot7 1 2) 0x7C 31 0)) lq7.expected ∧ serialDiff (u32 (fld (slot7 1 0) 0x7C 31 0)) lq7.expected < 0 ∧
    (∀ op ∈ [1, 2], serialDiff (u32 (fld (slot7 op 1) 0x7C 31 0)) lq7.expected = 0 ∧ fld (slot7 op 1) 0 7 0 = op ∧ descOk (slot7 op 1) ∧
      fld (slot7 op 1) 1 0 0 = 0) ∧ findConn (w7 lq7 []).dev (fld (slot7 1 1) 4 19 0) = some conn0 ∧ conn0.owner = lq7.owner ∧
    freeIssue (w7 lq7 []).dev (lineAgent 64) = some 0 ∧
    findIssue (w7 lq7 [issue7 false 0]).dev 6 = some (issue7 false 0) ∧
    4 * 0 + (0 + 1) * deadNs (w7 lq7 [issue7 false 0]).dev ≤ 4 * now (w7 lq7 [issue7 false 0]).dev ∧
    findConn (w7 lq7 [issue7 false 0]).dev (desc7 false).conn = some conn0 := by decide +kernel

def line7 (op conn : Nat) (raddr rkey : Nat) (pl : Bytes) (status : Nat := 0) : LinePkt :=
  { srcIp := 0, hdr := { op := op, sa := 1, pn := 1, conn := conn, tag := 6, raddr := raddr, rkey := rkey, status := status }, payload := pl, tagOk := true }

theorem witness_lineEnds : (∀ q, findLq (w7 lq7 [issue7 true 0]).dev 64 = some q → q.waiting = []) ∧ (desc7 true).result % 64 = 0 ∧
    fnUp (w7 lq7 [issue7 true 0]).dev 64 ∧ streaming (w7 lq7 [issue7 true 0]).dev = false ∧
    (lineCheck (w7 lq7 [issue7 false 0]).dev (line7 0x81 2 0 0 (zeroBytes 64))).1 = some conn0 ∧
    (lineCheck (w7 lq7 [issue7 true 0]).dev (line7 0x82 2 0 0 [])).1 = some conn0 ∧
    (lineCheck (w7 lq7 [issue7 true 0]).dev (line7 0x83 2 0 0 [] St.msaBusy)).1 = some conn0 ∧ St.msaBusy ≠ St.ok ∧
    findIssue (w7 lq7 [issue7 true 0]).dev 6 = some (issue7 true 0) ∧ (issue7 true 0).desc.conn = conn0.num ∧
    (issue7 true 0).issuedAt + deadNs (w7 lq7 []).dev ≤ now (w7 lq7 []).dev := by
  refine ⟨?_, by decide, by decide, by decide, by decide +kernel, by decide +kernel, by decide +kernel, by decide, by decide, by decide,
    by decide⟩
  intro q h
  have : some lq7 = some q := h
  cases this
  rfl

def w7Target : State := st { devT [] with
  weft := { conns := [conn0, conn1], regions := [
    (1, { state := .valid, rd := true, wr := true, owner := 64, base := 0x20000000000, length := 0x100000 }),
    (2, { state := .valid, rd := true, wr := true, owner := 64, intakeTarget := true, base := 65536, length := 65536 })] }
  sas := { frames := [(0x20000000, { stack := some 0, phys := 9 })] } }

theorem witness_lineTarget :
    (lineCheck w7Target.dev (line7 1 2 0xFC0 1 [])).1 = some conn0 ∧
    lineTarget (lineCheck w7Target.dev (line7 1 2 0xFC0 1 [])).2 conn0 (line7 1 2 0xFC0 1 []).hdr false = .work 0x20000000FC0 64 ∧
    linePoisoned (lineCheck w7Target.dev (line7 1 2 0xFC0 1 [])).2 0x20000000FC0 = false ∧ 0x20000000FC0 % 64 = 0 ∧
    saUsable (lineCheck w7Target.dev (line7 1 2 0xFC0 1 [])).2 1 ∧ (lineCheck w7Target.dev (line7 1 2 0xFC0 1 [])).2.ports.length = 8 ∧
    lineTarget (lineCheck w7Target.dev (line7 1 2 0xFFC0 2 [])).2 conn0 (line7 1 2 0xFFC0 2 []).hdr false = .intake 131008 ∧
    (lineCheck w7Target.dev (line7 2 2 0xFC0 1 (zeroBytes 64))).1 = some conn0 ∧ w7Target.dev.flt.custody = .normal ∧
    (∀ i ∈ [0, 63], laneEnabled w7Target.dev ((131008 + i) / 65536)) ∧ landingLine w7Target.dev 0x20000000FC0 = none ∧ (workWrite w7Target.dev 64 0x20000000FC0 (zeroBytes 64)).isSome := by decide +kernel


/-! ## Requests at the prompt device -/

def shape8 : Shape := { layers := 1, kvHeads := 1, qHeads := 1, fmt := 3, headDim := 16 }
/-- An OPEN of 64 tokens, home and generation device 9, token ring 2. -/
def open8 : Bytes := mk [(0, 1, 0x10), (2, 2, 1), (0x24, 4, 1 + 2 ^ 8 + 2 ^ 16 + 3 * 2 ^ 24), (0x28, 2, 16), (0x30, 4, 9), (0x34, 4, 9),
  (0x40, 4, 64), (0x44, 4, 10), (0x50, 2, 0xFFFF), (0x52, 2, 2), (0x54, 2, 8), (0x5C, 1, 0xFF)]

theorem witness_open : (let d := devT open8; let t := tk open8
    findTaken d 0 0 = some t ∧ t.kind = 0x10 ∧ recCheck d t (hasPrompt d) (ringForeign d 64 (t.f 0x52 11 0)) none false true true = none ∧
      openRefusal d t = none ∧ slotFree d 16383 ∧ 16383 ∉ d.reqs.retired ∧ t.f 0x30 23 0 = 9 ∧
      serviceConn d 9 = some conn1 ∧ findConn d conn1.num = some conn1) := by decide +kernel

theorem witness_open_slot : reqSlotExists (devT open8) := by decide +kernel

def id8 : U64 := mkReqId 5 7 1
def req8 (s : ReqState) : Req := { slot := 7, state := s, core := { requestId := id8, owner := 64, cplRing := 1, tokenRing := 2, home := 9, genDevice := 9 }, model := 3, shape := shape8, tokenCount := 64 }
/-- The device with a request, and a record of lane 0. -/
def w8 (r : Req) (rec : Bytes := []) : State := st { devT rec with reqs := { live := [r], inc := [(7, 1)], hashQ := [id8] } }

def w8Page : Req := { req8 .prefill with landing := [{ layer := 0, page := 0, lines := List.range 64 }], ready := [(0, 0)] }
def w8Done : Bytes := mk [(0, 1, 0x11), (2, 2, 1), (0x10, 8, id8.toNat), (0x20, 4, 99)]
def w8Sas : State := let s := w8 { req8 .opening with tokenSas := true, tokenBuf := 0x20000000000 }
  st { s.dev with sas := { frames := [(0x20000000, { stack := some 1, phys := 8 })], work := [(0x20000000003, 9)] } }
/-- The landing region of the request in slot 7 through a region key, its first page mapped. -/
def w8Line : State := let s := w8 (req8 .prefill)
  st { s.dev with
    weft := { conns := [conn0, conn1], regions := [(1, { state := .valid, wr := true, owner := 64, base := 0x400E0001000, length := 0x1000 })] }
    sas := { frames := [(0x400E0001, { stack := some 0, phys := 9 })] } }
def w8LinePkt : LinePkt := line7 2 2 0xFC0 1 (List.replicate 64 7)

theorem witness_lineLanding : (lineCheck w8Line.dev w8LinePkt).1 = some conn0 ∧
    (let e := (lineCheck w8Line.dev w8LinePkt).2
     lineTarget e conn0 w8LinePkt.hdr true = .work 0x400E0001FC0 64 ∧ landingLine e 0x400E0001FC0 = some (req8 .prefill, 0, 0, 63) ∧
       (req8 .prefill).pageComplete (Req.landPage e (req8 .prefill) 0 0) = false ∧
       (workWrite e 64 0x400E0001FC0 w8LinePkt.payload).isSome) := by decide +kernel
def w8Known : Req := { req8 .opening with core := { (req8 .opening).core with skeinId := 4 } }

theorem witness_opening : findPrompt (w8 (req8 .opening)).dev id8 = some (req8 .opening) ∧ (req8 .opening).core.skeinId = 0 ∧
    (req8 .opening).chain.length ≠ (req8 .opening).tokenCount / 64 ∧
    (req8 .opening).core.opened + skeinOpenNs (w8 (req8 .opening)).dev ≤ now (w8 (req8 .opening)).dev ∧ (zeroBytes 256).length = 256 ∧
    (req8 .opening).tokenSas = false ∧ fnUp (w8 (req8 .opening)).dev 64 ∧ id8 ∈ hashEngines (w8 (req8 .opening)).dev ∧
    id8 ∈ hashEngines w8Sas.dev ∧ (readRanges [] [(0x20000000000, 256)] w8Sas.dev).1 = false ∧
    isOurs (w8 (req8 .opening)).dev 9 = false ∧ serviceConn (w8 (req8 .opening)).dev 9 = some conn1 ∧
    { w8Known with lookupSent := true }.lookupSent ∧ sasRefusing (w8 w8Known).dev = false ∧
    spansExist (w8 w8Known).dev (viewSpans shape8 1) ∧ spansFree (w8 w8Known).dev 0xC0000000000 (viewSpans shape8 1) := by
  decide +kernel

theorem witness_prefill : findPrompt (w8 w8Page).dev id8 = some w8Page ∧ w8Page.state = .prefill ∧
    w8Page.ready.head? = some (0, 0) ∧ (readRanges [] [(Req.landAddr (w8 w8Page).dev w8Page 0 0, 4096)] (w8 w8Page).dev).1 = false ∧
    (let s := w8 (req8 .prefill) w8Done; let t := tk w8Done
     findTaken s.dev 0 0 = some t ∧ t.kind = 0x11 ∧ t.request = id8 ∧ findPrompt s.dev id8 = some (req8 .prefill) ∧
       recCheck s.dev t (hasPrompt s.dev) ((req8 .prefill).core.owner != laneOwner s.dev 0) none false true false = none ∧
       (req8 .prefill).tokenCount % 64 = 0 ∧ (req8 .prefill).ready = []) := by
  decide +kernel

def w8Hand : Req := { req8 .handing with kept := [{ layer := 0, page := 0, tokens := 64 }], flushOut := true }
def w8Seal (s : ReqState) : Req := { req8 s with sealSent := true, windowDone := true }
def w8End : Req := { req8 .ending with releaseDue := false }

theorem witness_handing : findPrompt (w8 w8Hand).dev id8 = some w8Hand ∧ w8Hand.state = .handing ∧
    w8Hand.since + handoffNs (w8 w8Hand).dev ≤ now (w8 w8Hand).dev ∧ flushPosted (w8 w8Hand).dev (.shipFlush id8 false) = false ∧
    w8Hand.flushOut ∧ flushPosted (w8 (req8 .shipping)).dev (.shipFlush id8 true) = false ∧ (req8 .shipping).windowDone = false ∧
    (req8 .shipping).sealAcked = false ∧ (req8 .shipping).shipFailed = false ∧ findGen (w8 (req8 .shipping)).dev id8 = none ∧
    (w8Seal .handing).sealSent ∧ (w8Seal .handing).sealAcked = false ∧ findPrompt (w8 (w8Seal .shipping)).dev id8 = some (w8Seal .shipping) ∧
    (w8Seal .shipping).windowDone ∧
    (w8 w8End).dev.reqs.live.find? (fun x => x.state == .ending && x.core.requestId == id8 && x.core.home == w8End.core.home) = some w8End ∧
    (w8 w8End).dev.reqs.live.find? (fun x => x.state == .ending && x.core.requestId == id8 && !x.releaseDue && !x.cancelled) = some w8End ∧
    w8End.since + skeinOpenNs (w8 w8End).dev ≤ now (w8 w8End).dev ∧ w8End.acked = false := by decide +kernel

def cancel8 : Bytes := mk [(0, 1, 0x12), (2, 2, 1), (0x10, 8, id8.toNat)]
def gen8 (s : ReqState) : Req := { req8 s with slot := 20000, gen := true }

/-- The device with a forwarding note alone. -/
def w8Note : State := let s := w8 (req8 .opening) cancel8; st { s.dev with reqs := { inc := [(7, 1)], note := [(7, (9, 64))] } }

/-- What a record names is this prompt-side entry. -/
def isPrompt (f : Found) (r : Req) : Bool := match f with | .prompt x => x == r | _ => false
/-- What a record names is this generation-side entry. -/
def isGen (f : Found) (r : Req) : Bool := match f with | .gen x => x == r | _ => false

/-- What a record names is a forwarding note to a device. -/
def isNote (f : Found) (g : Nat) : Bool := match f with | .note x _ => x == g | _ => false

theorem witness_cancel : (∀ s ∈ [ReqState.opening, .prefill, .handing, .shipping],
      let d := (w8 (req8 s) cancel8).dev; let t := tk cancel8
      findTaken d 0 0 = some t ∧ t.kind = 0x12 ∧ earlierTaken d t [0x13] = false ∧ isPrompt (lookupReq d t.request) (req8 s) ∧
        recCheck d t (hasPrompt d || hasGeneration d) (reqForeign d t (lookupReq d t.request)) none false true false = none) ∧
    (∀ s ∈ [ReqState.waiting, .decoding], let d := (w8 (gen8 s) cancel8).dev; let t := tk cancel8
     isGen (lookupReq d t.request) (gen8 s) ∧ findGen d id8 = some (gen8 s) ∧ (gen8 s).await = [] ∧
       ∀ x ∈ d.intake.taken, x.kind = 0x13 → x.request ≠ id8) ∧
    (let d := w8Note.dev; let t := tk cancel8
     isNote (lookupReq d t.request) 9 ∧ d.pair.state ≠ .lost ∧
       recCheck d t (hasPrompt d || hasGeneration d) (reqForeign d t (lookupReq d t.request)) none false true false = none) := by decide +kernel


/-! ## Requests at the generation device -/

def handoff9 : HandoffMsg := { core := { requestId := mkReqId 9 3 1, owner := 64, cplRing := 1, tokenRing := 2, home := 9, windowPages := 512 }, firstToken := 4, age := 10, windowFirst := 0, windowLast := 0, hashCarry := 0, tail := [], shape := shape8, model := 3, maskSets := 0, prefixPages := 0, tokenCount := 64, seq := 0, lane := 0 }

theorem witness_handoff : handoffRefusal (devT []) handoff9 = none ∧ slotFree (devT []) 16383 ∧
    spansFree (devT []) 0xC0000000000 (windowSpans shape8 512) ∧ isOurs (devT []) 9 = false ∧ serviceConn (devT []) 9 = some conn1 := by
  decide +kernel

def req9 (s : ReqState) : Req where
  slot := 20000
  state := s
  gen := true
  core := { requestId := id8, owner := 64, cplRing := 1, tokenRing := 2, home := 9, maxTokens := 10, windowPages := 512 }
  model := 3
  shape := shape8
  tokenCount := 64
  windowBase := some 0xC0000000000
def page9 : PagePart := { layer := 0, page := 0, tokens := 64, raw := List.replicate 4096 1 }
def w9 (r : Req) (rec : Bytes := []) : State := st { devT rec with
  reqs := { live := [r] }
  sas := { spans := [(0xC0000000000, 1)], frames := [(0xC0000000, { stack := some 0, phys := 9 }), (0x20000000, { stack := some 1, phys := 8 })] } }

theorem witness_window : findGen (w9 (req9 .accepting)).dev id8 = some (req9 .accepting) ∧ sasRefusing (w9 (req9 .accepting)).dev = false ∧
    isOurs (w9 (req9 .accepting)).dev 9 = false ∧ (∀ t ∈ (w9 (req9 .accepting)).dev.weft.trackers, t.op ≠ 0x05) ∧
    (windowPages (req9 .accepting) [] (w9 (req9 .accepting)).dev).isSome ∧ (req9 .accepting).sealedSeen = false ∧
    findGen (w9 (req9 .waiting)).dev id8 = some (req9 .waiting) ∧
    (let x := shipped (w9 (req9 .waiting)).dev 9 0x0C id8 [page9]
     (windowPages (req9 .waiting) (unpackParts (shapeBpp shape8) x.1) x.2).isSome) := by decide +kernel

def step9 : Bytes := mk [(0, 1, 0x13), (2, 2, 1), (0x10, 8, id8.toNat), (0x18, 4, 1), (0x20, 4, 77)]
def w9Await : Req := { req9 .decoding with await := [{ ref := { ring := 1 }, stamp := 1, token := 77 }] }
def w9Append : Req := { req9 .decoding with appendOut := some 5 }

theorem witness_step9 :
    (let d := (w9 (req9 .decoding) step9).dev; let t := tk step9
     findTaken d 0 0 = some t ∧ t.kind = 0x13 ∧ t.request = id8 ∧ findGen d id8 = some (req9 .decoding) ∧
       recCheck d t (hasGeneration d) (reqForeign d t (.gen (req9 .decoding))) none false true true = none ∧
       earlierTaken d t [0x12, 0x13] = false ∧ t.deadline = none ∧ t.step = (req9 .decoding).core.lastStep + 1) ∧
    findGen (w9 w9Await).dev id8 = some w9Await ∧ w9Await.state = .decoding ∧ w9Await.await.length = 1 ∧
    findGen (w9 w9Append).dev id8 = some w9Append ∧ flushPosted (w9 w9Append).dev (.appendFlush id8) = false ∧
    w9Append.appendOut = some 5 ∧ w9Append.appendFailed = false ∧ w9Append.state ≠ .ending := by decide +kernel

def query9 : Bytes := mk [(0, 1, 0x14), (2, 2, 1), (0x10, 8, id8.toNat), (0x18, 4, 1), (0x28, 8, 0x20000000000 + 2 ^ 48), (0x30, 4, 0xFFFFF)]
/-- The same with its query in the state address space, and its partial bound for connection 2. -/
def query9s : Bytes := mk [(0, 1, 0x14), (2, 2, 1), (0x10, 8, id8.toNat), (0x18, 4, 1), (0x28, 8, 0x20000000000), (0x30, 4, 2)]
def w9Asked : Req := { req9 .decoding with queries := [{ ref := { ring := 1 }, step := 1, layer := 0, handle := 6, conn := 0xFFFFF, addr := 0, reduced := 0 }] }

theorem witness_query : (let d := (w9 (req9 .decoding) query9).dev; let t := tk query9
     findTaken d 0 0 = some t ∧ t.kind = 0x14 ∧ t.request = id8 ∧ t.f 0x20 7 0 < shape8.layers ∧ t.f 0x30 19 0 = 0xFFFFF ∧
       t.f 0x28 48 48 = 1 ∧ (zeroBytes 32).length = 2 * shape8.qHeads * shape8.headDim ∧
       fnUp d 64 ∧ recCheck d t (hasGeneration d) (reqForeign d t (.gen (req9 .decoding))) none false false true = none) ∧
    (let d := (w9 (req9 .decoding) query9s).dev; let t := tk query9s
     findTaken d 0 0 = some t ∧ t.f 0x28 48 48 = 0 ∧ inStage d 64 (t.f 0x28 47 0) 32 ∧ (readRanges [] [(t.f 0x28 47 0, 32)] d).1 = false ∧
       (findConn d (t.f 0x30 19 0)).isSome ∧ connForeign d 64 (t.f 0x30 19 0) = false ∧
       recCheck d t (hasGeneration d) (reqForeign d t (.gen (req9 .decoding))) none false false true = none) ∧
    (findHandle (w9 w9Asked).dev 6).any (fun x => x.1 == w9Asked && !x.2.relayed) ∧ w9Asked.state ≠ .ending ∧
    (zeroBytes 80).length = partLen shape8 := by decide +kernel

/-- A stop buffer of 16 identifiers at their limit. -/
def stopBuf9 : Bytes := patch (zeroBytes 640) 0 [16, 0]
def stop9 (del : Nat) (at_ : Nat := 0x20000000000 + 2 ^ 48) : Bytes :=
  mk [(0, 1, 0x15), (2, 2, 1), (0x20, 2, 1023), (0x22, 2, del), (0x28, 8, if del = 1 then 0 else at_)]
def w9StopHost : State := st (devT (stop9 0 0x5000))
def w9Stop (del : Nat) (sets : Tbl StopSet) : State := st { devT (stop9 del) with
  reqs := { stopSets := sets }
  sas := { work := memWriteN 0 [] 0x20000000000 stopBuf9, frames := [(0x20000000, { stack := some 1, phys := 8 })] } }

theorem witness_stopSet :
    (let d := (w9Stop 0 []).dev; let t := tk (stop9 0)
     findTaken d 0 0 = some t ∧ t.kind = 0x15 ∧ recCheck d t (hasGeneration d) (stopSetForeign d t) none false true false = none ∧
       t.f 0x22 0 0 = 0 ∧ t.f 0x28 48 48 = 1 ∧ inStage d 64 (t.f 0x28 47 0) 640 ∧
       (readRanges [] [(t.f 0x28 47 0, 640)] d).1 = false ∧ stopBufOk (workRead d (t.f 0x28 47 0) 640)) ∧
    (let d := (w9Stop 1 [(1023, { owner := 64, buf := stopBuf9 })]).dev; let t := tk (stop9 1)
     recCheck d t (hasGeneration d) (stopSetForeign d t) none false true false = none ∧ t.f 0x22 0 0 = 1 ∧
       (tget d.reqs.stopSets (t.f 0x20 9 0)).isSome) ∧
    (let d := w9StopHost.dev; let t := tk (stop9 0 0x5000)
     findTaken d 0 0 = some t ∧ recCheck d t (hasGeneration d) (stopSetForeign d t) none false true false = none ∧ t.f 0x22 0 0 = 0 ∧
       t.f 0x28 48 48 = 0 ∧ fnUp d 64 ∧ d.host.reads = []) := by decide +kernel


/-! ## Transfers and the skeins of the home -/

/-- A raw block of 4 KiB, and a page of it. -/
def blk10 : StoredBlock := { entry := 0x80, data := List.replicate 4096 1 }
def pp10 : PagePart := { layer := 0, page := 0, tokens := 64, blocks := [blk10], summary := zeroBytes 80 }
def sk10 : U64 := mkSkeinId 5 7 1
/-- A skein without pages, and one of one page. -/
def skein0 : Skein where
  slot := 7
  id := sk10
  model := 3
  shape := shape8
  created := 5
  base := 0x100000000000
  cap := 2
  windowPages := 1
  genDevice := 9
  req := mkReqId 9 3 1
  tokenCount := 64
def skein1 : Skein := { skein0 with
  tokens := 64
  pages := [{ layer := 0, page := 0, body := 0, tokens := 64, summary := zeroBytes 80 }]
  layers := [(0, { nr := 0, groups := [(0, 0)], stream := [128] })] }
def body10 : PageBody where
  id := 0
  resv := 0x100000000000
  index := [4294967299]
  group := 17592186056704
  fmt := 3
  tokens := 64
  blocks := [blk10]
  addrs := [140737488355328]
/-- The frames of the skein's metadata, its page, and one page of staging. -/
def frames10 : Tbl Frame4K := [(536870912, { stack := some 1, phys := 8 }), (4294967296, { stack := some 4, phys := 58064 }),
  (4294967297, { stack := some 5, phys := 58064 }), (4294967298, { stack := some 6, phys := 58064 }),
  (4294967299, { stack := some 7, phys := 58064 }), (34359738368, { stack := some 8, phys := 58065 })]
def sas10 (k : Skein) : Sas where
  skeins := [k]
  inc := [(7, 1)]
  bodies := [body10]
  nextBody := 1
  reservations := [{ base := 0x100000000000, size := 32768, slot := 7 }]
  frames := frames10
/-- A device of role 7 with a skein, a request and the record of lane 0. -/
def w10 (k : Skein) (rec : Bytes := []) (rs : List Req := []) : State := st { devT rec with sas := sas10 k, reqs := { live := rs } }

/-- A TRANSFER: its OP and EXPAND, what it moves from and to, its destination's address or skein and its connection. -/
def xfer10 (op expand src dst : Nat) (skein : U64) (addr : Nat) : Bytes := mk [(0, 1, 0x20), (2, 2, 1), (0x20, 1, op + 16 * expand), (0x21, 1, src + 4 * dst),
  (0x24, 4, if op = 0 then 64 else 0), (0x28, 8, skein.toNat), (0x30, 2, 0x100), (0x38, 4, 1), (0x40, 8, if op = 0 then 0x20000000000 else 0), (0x48, 8, addr), (0x50, 4, if dst = 2 then 2 else 0)]

theorem witness_copyRange : (let d := (w10 skein0 (xfer10 0 0 0 1 0 64)).dev; let t := tk (xfer10 0 0 0 1 0 64); let r := t.bytes
    findTaken d 0 0 = some t ∧ t.kind = 0x20 ∧ t.xop = 0 ∧ t.classG = false ∧
      recCheck d t true (xForeign d t none) none false (xSrcHost r) false = none ∧ xSrcHost r = false ∧ inStage d 64 (xSrc r) (xLen r) ∧
      dstCheck d 64 r (xLen r) = none ∧ xDst r ≠ 0 ∧ takenTurn d t ∧
      (∀ b ∈ xferReady d false (xDst r) (xPort d (xConn r)) (framesOf (xSrc r) (xLen r)), isReady d b)) := by
  decide +kernel

theorem witness_copyPages : (∀ e ∈ [0, 1], let d := (w10 skein1 (xfer10 1 e 0 1 sk10 64)).dev; let t := tk (xfer10 1 e 0 1 sk10 64); let r := t.bytes
    findTaken d 0 0 = some t ∧ t.kind = 0x20 ∧ t.xop = 1 ∧ t.classG = false ∧ findSkein d (xSkein r) = some skein1 ∧ skein1.state ≠ .aborted ∧
      recCheck d t (hasCache d) (xForeign d t (some skein1)) none false false false = none ∧ dstSkein d skein1 r = none ∧ xRange skein1 r ∧
      xExpand r = e ∧ (xAllRefs skein1 r).length = 1 ∧ xDst r = 1 ∧ takenTurn d t ∧
      dstCheck d 64 r (if e = 1 then (xAllRefs skein1 r).length * pageBytes skein1.shape else (copyPagesOut d skein1 r).1.bytes.length) = none ∧
      (copyPagesOut d skein1 r).1.err.isNone ∧ lowFrames d (copyFrames d skein1 r) = [] ∧
      (∀ b ∈ xferReady d false (xDst r) (xPort d (xConn r)) (copyFrames d skein1 r), isReady d b)) := by decide +kernel

theorem witness_promote : (let d := (w10 skein1 (xfer10 2 0 0 0 sk10 0)).dev; let t := tk (xfer10 2 0 0 0 sk10 0); let r := t.bytes
    findTaken d 0 0 = some t ∧ t.kind = 0x20 ∧ t.xop = 2 ∧ t.classG = false ∧ findSkein d (xSkein r) = some skein1 ∧
      recCheck d t (hasCache d) (xForeign d t (some skein1)) none false false false = none ∧ xRange skein1 r ∧
      lowFrames d (promoteFrames d skein1 r) = [] ∧ promoteFrames d skein1 r ≠ [] ∧ takenTurn d t ∧
      (∀ b ∈ xferReady d false 3 0 (promoteFrames d skein1 r), isReady d b)) := by decide +kernel

theorem witness_header : (∀ x ∈ [(1, 64), (2, 64), (0, 0x20000000000)],
    let d := (w10 skein1 (xfer10 3 0 0 x.1 sk10 x.2)).dev; let t := tk (xfer10 3 0 0 x.1 sk10 x.2); let r := t.bytes
    findTaken d 0 0 = some t ∧ t.kind = 0x20 ∧ t.xop = 3 ∧ findSkein d (xSkein r) = some skein1 ∧
      recCheck d t (hasCache d) (xForeign d t (some skein1)) none false true false = none ∧ dstCheck d 64 r 256 = none ∧ xDst r = x.1 ∧
      (∀ b ∈ xferReady d false (xDst r) (xPort d (xConn r)) [], isReady d b) ∧ sasRefusing d = false ∧ xRange skein1 r ∧ t.late d = false ∧
      (x.1 = 0 → ∀ f ∈ framesOf (xAddr r) 256, (tget d.sas.frames f).any (fun e => e.stack.isSome))) := by decide +kernel

/-- LOCATE of a request: its landing area, view or window. -/
def locate10 (what : Nat) : Bytes := mk [(0, 1, 0x20), (2, 2, 1), (0x10, 8, id8.toNat), (0x20, 1, 4), (0x21, 1, 16 * what)]

theorem witness_locate : (∀ x ∈ [(0, req8 .prefill), (1, req8 .prefill), (2, req9 .waiting), (2, req9 .decoding)],
    let d := (w10 skein0 (locate10 x.1) [x.2]).dev; let t := tk (locate10 x.1)
    findTaken d 0 0 = some t ∧ t.kind = 0x20 ∧ t.xop = 4 ∧ (isPrompt (lookupReq d t.request) x.2 ∨ isGen (lookupReq d t.request) x.2) ∧
      t.f 0x21 5 4 = x.1 ∧
      recCheck d t (hasPrompt d || hasGeneration d) (reqForeign d t (lookupReq d t.request)) none false true false = none) := by decide +kernel

def open10 : SkeinOpenMsg := { req := mkReqId 9 3 1, owner := 64, model := 3, shape := shape8, thinOk := false, retain := true, maskSets := 0, windowPages := 1, genDevice := 9, tokenCount := 64, maxTokens := 10 }
def skeinP : Skein := { skein0 with state := .prefix_, retain := true }

def skein2 : Skein := { skein1 with prefixPages := 1 }
/-- The prompt device that waits for its prefix view, one page mapped. -/
def w10View : State :=
  let r := { req8 .prefill with viewBase := some 0xC0000000000, prefixPages := 1 }
  st { devT [] with
    reqs := { live := [r] }
    sas := { spans := [(0xC0000000000, 1)], frames := [(0xC0000000, { stack := some 0, phys := 9 })] } }
/-- The home of a skein whose page lies in a bobbin unit. -/
def w10Low : State := let s := w10 skein2
  st { s.dev with
    bob := { targets := [(0, { st := 1 })], units := [{ id := 1, tgt := 0, lun := 0, blk := 0, page := 1, key := 64, slots := [some 34359738368, none, none, none], written := true, seq := 1 }] }
    sas := { s.dev.sas with frames := frames10.map (fun f => if f.1 = 34359738368 then (f.1, { unit := some 1 }) else f) } }

theorem witness_filling : (let d := devT []
    reaches d 9 ∧ (openSlots d open10).1 = none ∧ (openSlots d open10).2 = d ∧ skeinAt d 7 = none ∧ 7 ∉ d.sas.retired ∧
      resvFree d 0x100000000000 (resvSize shape8 (capOfOpen d open10) 0) ∧ resvExists d (resvSize shape8 (capOfOpen d open10) 0) ∧
      (mapAll d (framesOf 0x100000000000 64)).isSome) ∧
    (let d := (w10 skein0).dev
     hasCache d ∧ findSkein d sk10 = some skein0 ∧ skein0.state = .receiving ∧ (prefixLookup skein0 [5] 0 d).1 = [] ∧
       (∀ t ∈ d.weft.trackers, t.op ≠ 0x05) ∧ isOurs d 9 = false ∧
       (placeChecked false (unpackParts 1 (shipped d 9 0x05 open10.req [pp10]).1) skein0 { d with sas := { d.sas with bodies := [] } }).1 =
         St.ok ∧
       (placeChecked false (unpackParts 1 [{ pp10 with page := 2 }]) skein0 d).1 ≠ St.ok) := by
  refine ⟨⟨Or.inr ⟨conn1, ?_⟩, ?_⟩, ?_⟩ <;> decide +kernel

theorem witness_prefixFetch :
    (let d := (w10 skein2).dev
     findSkein d sk10 = some skein2 ∧ (skein2.refsOf 0 1).length = 1 ∧ (∀ r ∈ skein2.refsOf 0 1, refDead d r = false) ∧
       resident d (refFrames d (skein2.refsOf 0 1)) ∧ (readRanges [] (refRanges d (skein2.refsOf 0 1)) d).1 = false) ∧
    (let d := w10Low.dev
     findSkein d sk10 = some skein2 ∧ (∀ r ∈ skein2.refsOf 0 1, refDead d r = false) ∧
       resident d (refFrames d (skein2.refsOf 0 1)) = false) ∧
    (let d := w10View.dev
     (findPrompt d id8).any (fun x => x.viewBase == some 0xC0000000000 && x.state == .prefill && x.core.home == 9) ∧
       unpackParts 1 (shipped d 9 0x10 id8 [pp10]).1 = [pp10] ∧ expandPart 3 pp10 = (List.replicate 4096 1, none) ∧ pageBytes shape8 = 4096 ∧
       ∀ f ∈ framesOf 0xC0000000000 4096, (tget d.sas.frames f).any (fun e => e.stack.isSome)) := by decide +kernel

def skeinB (r : Bool) : Skein := { skein0 with state := .bound, retain := r }

theorem witness_skeinEnd : findSkein (w10 skein0).dev sk10 = some skein0 ∧ skein0.state = .receiving ∧
    (∀ r ∈ [true, false], findSkein (w10 (skeinB r)).dev sk10 = some (skeinB r) ∧ (skeinB r).retain = r) ∧
    (let k : Skein := { skein0 with state := .aborted }
     findSkein (w10 k).dev sk10 = some k ∧ skeinAt (w10 k).dev k.slot = some k) := by decide +kernel


/-! ## Far jobs and operations -/

/-- `devT` with a partial-attention draft of one run, its page counts and batches. -/
def dev11 : Dev := { devT [] with
  img := img0 ++ [(0x100100, 3), (0x120208, 1 + 16 * 2 ^ 8 + 2 ^ 18), (0x40100, 1 + 100 * 2 ^ 32)]
  fab := { runs := [{ num := 0, draft := 0, run := 0, tiles := [0] }] } }
def farMsg : FarJobMsg := { req := mkReqId 9 3 1, skein := sk10, step := 1, layer := 0, biasTable := 0xFF, kPages := 0, splitPage := 1, kCap := 4, epsilon := 0, ret := 6, query := List.replicate 16 0x3F80 }
/-- A state with a bound skein of one page in the stack tier. -/
def skein11 : Skein := { skein1 with state := .bound }
def w11 (jobs : List FarJob) (ops : List Op) : State := st { dev11 with
  sas := sas10 skein11
  retr := { jobs := jobs, nextJob := 3 }
  adm := { ops := ops, nextOp := 5 } }

theorem witness_farJob : (let d := (w11 [] []).dev
    farCheck d (some skein11) farMsg .b = none ∧ findSkein d sk10 = some skein11 ∧ d.retr.jobs = [] ∧
      isOurs d 9 = false ∧ farTurn d 3 (farStamp d 9 3).1 (farStamp d 9 3).2 ∧
      (∀ b ∈ (farStages d skein11 farMsg 1 (if isOurs d 9 then none else (findConn d 3).map (fun c => c.port (c.pathList.headD 0)))).2.1,
        isReady d b)) := by decide +kernel

def job11 (scanned : Bool) (walked : Nat) : FarJob where
  id := 2
  view := { skein11 with pages := [], layers := [] }
  layer := 0
  far := 1
  cls := .b
  anchor := sk10
  kPages := 0
  kCap := 4
  members := [{ msg := farMsg, op := 4, owner := 64, cfleet := 9, conn := 3, arrival := 7, tc := 64 }]
  pages := jobPages skein11 0 1
  scanned := scanned
  sel := if scanned then [0] else []
  ends := if scanned then [1] else []
  walked := walked
def lead11 : Op where
  id := 4
  ref := { request := mkReqId 9 3 1, owner := 64, intake := false, remote := true, arrival := 7 }
  cls := .b
  budget := 0
  deadline := none
  stages := [{ ledger := lSTK, work := 5, pre := 5 }]
  what := .farJob 2 6

theorem witness_rounds : (∀ j ∈ [job11 false 0, job11 true 0, job11 true 1],
    let d := (w11 [j] [lead11]).dev
    findJob d 2 = some j ∧ leadOp d j = some lead11 ∧ (∀ e ∈ d.sas.frames, e.2.stack.isSome ∧ e.2.moving = false)) ∧
    (∀ j ∈ [job11 false 0, job11 true 0], let d := (w11 [j] [lead11]).dev
      (readRanges [] (j.pages.flatMap (scanRanges (jobSkein d j) 0)) d).1 = false ∧
      (readRanges [] ((roundPages j.sel j.ends 0).flatMap (walkRanges d (jobSkein d j) 0 j.pages)) d).1 = false ∧
      underCow d (jobSkein d j) 0 (jobFrames d j (roundPages j.sel j.ends 0)) = false) ∧
    (∀ x ∈ (job11 false 0).members, queryBad x.msg = false) ∧ (job11 true 0).walked < (job11 true 0).ends.length ∧
    (∀ p ∈ roundPages (job11 true 0).sel (job11 true 0).ends 0, ∃ x ∈ (job11 true 0).pages, x.page = p ∧ x.tokens ≠ 0) ∧
    (job11 true 1).round < (job11 true 1).walked ∧ (w11 [job11 true 1] [lead11]).dev.fab.stopped = false := by decide +kernel

/-- The page of the round above as it stands in a transfer or a relay; `reads`: its codec answers for every round. -/
theorem witness_round : (attendRound (w11 [job11 true 1] [lead11]).dev (job11 true 1) skein11).1 := by decide +kernel

/-- A copy to host memory, a relay to host memory, and a class G operation past its deadline. -/
def op11 (cls : Cls) (deadline : Option Nat) (what : OpWhat) : Op where
  id := 4
  ref := { request := mkReqId 9 3 1, owner := 64, ring := 1 }
  cls := cls
  budget := 0
  deadline := deadline
  stages := [{ ledger := lSTK, work := 5, pre := 5 }, { ledger := lSHT, work := 5, pre := 5 }]
  what := what
def copy11 : OpWhat := .transfer (xfer10 1 1 0 1 sk10 64) none (some (xView skein11 (xfer10 1 1 0 1 sk10 64)))
def relay11 : OpWhat := .relay id8 1 0 0xFFFFF 0x5000 [1, 2] 0

theorem witness_operations : (let o := op11 .b none copy11; let d := (w11 [] [o]).dev
    findOp d 4 = some o ∧ (∀ rec data src, o.what = .transfer rec data src → xferFramesReady d rec src) ∧ stageTurn d o { ledger := lSTK, work := 5, pre := 5 } ∧
      (∀ x ∈ o.stages.take o.cur, x.ledger ≠ lSHT) ∧ (o.stages[o.cur]?.map (·.ledger)) = some lSTK) ∧
    (let o := op11 .b none relay11; findOp (w11 [] [o]).dev 4 = some o ∧ (o.stages[o.cur]?).isSome ∧
      stageTurn (w11 [] [o]).dev o { ledger := lSTK, work := 5, pre := 5 }) ∧
    (let o := op11 .g (some 5) copy11; let d := (w11 [] [o]).dev
     findOp d 4 = some o ∧ 5 ≤ now d + frNs d ∧ o.there.any (· ≤ now d) = false) := by
  refine ⟨⟨?_, ?_, ?_, ?_, ?_⟩, ?_, ?_⟩
  · decide +kernel
  · intro rec data src h
    have h2 : copy11 = OpWhat.transfer rec data src := h
    unfold copy11 at h2
    injection h2 with h3 h4 h5
    subst h3 h5
    decide +kernel
  all_goals decide +kernel


/-! ## Runs, shuttles and tiers -/

def cmd12 (id : Nat) (cls : Cls) (deadline : Nat) : RunCmd :=
  { id := id, kind := 3, cls := cls, place := { due := if cls == .b && deadline == 0 then none else some deadline, arrival := 1000000000 } }
def msg12 (cls : Cls) (deadline : Nat) : RunCmdMsg := { id := 9, kind := 3, cls := cls, deadline := deadline }
def run12 (st : Nat) (cur : Option RunCmd) (queue : List RunCmd) : Run := { num := 0, draft := 0, run := 0, tiles := [0], st := st, cur := cur, queue := queue }
def shadow12 : Shadow := { id := 6, kind := 1, draft := 0, run := 0, shadowRun := 0 }
def w12 (r : Run) : State := st { dev11 with fab := { runs := [r], shadows := [shadow12] } }

theorem witness_runs : (∀ r ∈ [run12 0 none [], run12 1 (some (cmd12 3 .b 0)) [], run12 1 (some (cmd12 3 .b 0)) [cmd12 4 .b 0], run12 2 none [],
        run12 3 (some (cmd12 3 .b 0)) [cmd12 4 .b 0]],
      findRun (w12 r).dev 0 = some r ∧ (r.queue = [] → r.st < 3) ∧ r.spilled = [] ∧ runIn (w12 r).dev r ∧ (w12 r).dev.fab.stopped = false ∧
        cmdDraft 3 = img (w12 r).dev (0x100100 + 8 * r.draft) 2 0 ∧ r.busySince + 20000 ≤ now (w12 r).dev) ∧
    (cmd12 9 .b 0).displaces (cmd12 3 .b 0) = false ∧ (cmd12 9 .g 7).displaces (cmd12 3 .b 0) ∧
    (w12 (run12 2 none [])).dev.fab.shadows.find? (fun y => y.id == shadow12.id) = some shadow12 := by decide +kernel

theorem witness_shuttle : (zeroBytes 4096).length = 4096 ∧ expandBlock 3 { entry := 0x80, data := zeroBytes 64 } = .ok (zeroBytes 64) ∧
    thinBad 1 (zeroBytes 17) = none ∧ (restorePage { fmt := 3 } (zeroBytes 17) 64).isSome ∧
    expandBlock 3 { entry := 0, data := [] } = .err 1 := by decide +kernel

/-- Stack 8 serves alone, and the frame map of its flash declaration leaves six frames, all of them mapped. -/
def low12 : Bytes := le 1 4 ++ le 3881083152 4 ++ le 1 2 ++ zeroBytes 6
def full12 (k : Skein) (free : Nat) : State := st { devT [] with
  boot := { (devT []).boot with flash := low12 }
  stk := { units := List.replicate 8 {} ++ [{ st := 1, trained := true }] ++ List.replicate 3 {}, bringUp := some [8] }
  bob := { totalFrames := free, targets := [(0, { st := 1, blocks := 2, pages := 4, table := [{ lun := 0, blk := 0 }, { lun := 0, blk := 1 }] })] }
  sas := { sas10 k with frames := (sas10 k).frames.map (fun x => (x.1, { stack := some 8, phys := 23437490 + x.1 % 7 })) } }

def skein12 : Skein := { skein1 with state := .prefix_ }

theorem witness_stackReclaim : (let s := full12 skein12 0; let e : Dev := { s.dev with sas := { s.dev.sas with reclaim := true } }
    256 * stackComing s.dev < img s.dev 0x80000 15 8 * stackTotal s.dev ∧ s.dev.flt.custody = .normal ∧ bobTakes e = false ∧
      oldestPrefix e (fun k => !(upFrames e (skeinFrames e k)).isEmpty) = some skein12) ∧
    (let s := full12 skein11 1000; let e : Dev := { s.dev with sas := { s.dev.sas with reclaim := true } }
     256 * stackComing s.dev < img s.dev 0x80000 15 8 * stackTotal s.dev ∧ s.dev.flt.custody = .normal ∧ bobTakes e ∧
       oldestLayer e = some (skein11, 0) ∧ layerPages e skein11 0 = skein11.pages ∧ skein11.pages.length = 1 ∧
       skeinAt e 7 = some skein11 ∧ skein11.thinOk = false ∧ findBody e 0 = some body10 ∧
       (programUnits skein11.tenant (packUnits (upFrames e body10.frames)) e).isSome) := by
  decide +kernel

/-- The page's frame lies in a unit, and its promotion has read it; the layer walks. -/
def unit12 : BobUnit := { id := 2, tgt := 0, lun := 0, blk := 0, page := 1, key := 64, slots := [some 34359738368, none, none, none], seq := 0, written := true }
def skeinW : Skein := { skein11 with layers := [(0, { nr := 3, groups := [(0, 0)], stream := [128], walking := true })] }
def w12Low (k : Skein) (moving : Bool) (ps : List Promotion) (ds : List Demotion) : State := st { devT [] with
  bob := { totalFrames := 1, units := [unit12], targets := [(0, { st := 1, blocks := 2, pages := 4, table := [{ lun := 0, blk := 0 }] })] }
  sas := { sas10 k with
    frames := tset frames10 34359738368 (if ds.isEmpty then { unit := some 2, moving := moving } else { stack := some 8, phys := 58065, moving := true })
    promotions := ps
    demotions := ds } }
def demotion12 : Demotion := { skein := 7, layer := 0, page := 0, body := 0, frames := [34359738368], units := [2] }

theorem witness_tiers : (let d := (w12Low skein11 true [{ frame := 34359738368, unit := 2, read := true }] []).dev
    (∃ p ∈ d.sas.promotions, p.frame = 34359738368 ∧ p.read) ∧ pickStack d 34359738368 = some (8, 8) ∧ pinnedOn d 8 ≤ 58065 ∧
      58065 < stackPhys ∧ 58065 ∉ physOn d 8) ∧
    (let d := (w12Low skeinW false [] []).dev
     findSkein d sk10 = some skeinW ∧ (skeinW.layer 0).walking ∧ (∀ p ∈ d.sas.promotions, p.walk ≠ some (skeinW.slot, 0))) ∧
    (let d := (w12Low skein11 false [] [demotion12]).dev
     findSkein d sk10 = some skein11 ∧
       d.sas.demotions.find? (fun y => y.skein == skein11.slot && y.layer == demotion12.layer && y.page == demotion12.page) = some demotion12 ∧
       demotion12.thinned = none ∧ (∀ i ∈ demotion12.units, (unitAt d i).any (·.written)) ∧
       (skein11.page? demotion12.layer demotion12.page).any (fun r => r.body == demotion12.body && !r.foreign) ∧ bodyRefs d demotion12.body = 1 ∧
       (∀ y ∈ d.sas.skeins, y.fetchDue = none ∧ y.windowDue = false)) ∧
    (let s := w12Low skein12 false [] []; let e : Dev := { s.dev with sas := { s.dev.sas with bobReclaim := true } }
     tierReady s.dev ∧ 256 * bobRoom s.dev < img s.dev 0x80000 31 24 * s.dev.bob.totalFrames ∧ s.dev.flt.custody = .normal ∧
       oldestPrefix e (fun k => !(lowFrames e (skeinFrames e k)).isEmpty) = some skein12) := by decide +kernel


/-! ## Stacks and the bobbin tier -/

/-- Stack 3 in a given state, every other stack in service; stack 0 has not trained. -/
def w13 (u : StackUnit) : State := st { dev0 with stk := { dev0.stk with
  units := [{}] ++ List.replicate 2 { st := 1, trained := true } ++ [u] ++ List.replicate 8 { st := 1, trained := true }
  hotScale := true
  coolSince := some 5 } }
/-- Symbols of six bytes in error. -/
def errs13 : SymbolErrors := (List.range 6).map (fun i => (i, 1))

theorem witness_stacks : (∀ u : StackUnit, stackAt (w13 u).dev 3 = u ∧ (w13 u).dev.stk.units.length = 12 ∧
      (stackAt (w13 u).dev 0).trained = false ∧ (w13 u).dev.boot.phase = .running) ∧
    (∀ t ∈ List.replicate 12 [100, 200], hottest t < 380) ∧ (w13 {}).dev.stk.coolSince = some 5 ∧ (w13 {}).dev.stk.hotScale ∧
    5 + 100000000 ≤ now (w13 {}).dev ∧ badSyms [] = [] ∧ 6 ≤ (badSyms errs13).length ∧ (badSyms errs13).length ≤ 11 ∧
    7 < stackPhys ∧ (w13 { st := 3 }).dev.sas.frames = [] := by
  refine ⟨fun u => ⟨rfl, rfl, rfl, rfl⟩, ?_⟩
  decide +kernel

/-- Target 0 declared, not yet scanned. -/
def page13 : TargetPage := { dataBytes := 16384, spare := 2048, suspend := true, suspendUs := 30, retryLevels := 6, luns := 1, blocks := 2, pages := 4 }
def scan13 : TargetScan := { target := 0, page := page13, scan := [.other, .header 3 false] }
def flash13 : Bytes := le 1 4 ++ le 2 4 ++ le 4 2 ++ le 2048 2 ++ zeroBytes 4 ++ zeroBytes 2032
def w13Scan : State := st { dev0 with boot := { dev0.boot with flash := flash13 } }

theorem witness_scan : 0 ∉ w13Scan.dev.bob.chEnded ∧ w13Scan.dev.boot.flash ≠ [] ∧ isReady w13Scan.dev rbCrypto ∧
    declared w13Scan.dev (tgtOf 0 0) ∧ [scan13].find? (fun y => y.target == 0) = some scan13 ∧ targetOk w13Scan.dev (tgtOf 0 0) page13 := by
  decide +kernel

/-- A block in some state and a unit of it, read and written. -/
def loc13 : BlockLoc := { ch := 0, tgt := 0, lun := 0, blk := 0 }
def read13 : BobRead := { id := 4, unit := 2, cls := .b, attempts := 2, good := [0, 1], started := true, use := .promote }
def w13Media (b : BobBlock) (written : Bool) : State := st { dev0 with
  bob := {
    units := [{ unit12 with written := written }]
    reads := [read13]
    totalFrames := 1
    rawBytes := 131072
    targets := [(0, { st := 1, blocks := 2, pages := 4, table := [b, { lun := 0, blk := 1, st := .open_ }] })] }
  sas := { sas10 skein11 with
    frames := tset frames10 34359738368 { unit := some 2, moving := true }
    promotions := [{ frame := 34359738368, unit := 2 }] } }
def full13 : BobBlock := { lun := 0, blk := 0, st := .full, first := some 3 }

theorem witness_media : (let d := (w13Media full13 true).dev
    d.bob.reads.find? (fun x => x.id == read13.id && x.started) = some read13 ∧ unitAt d 2 = some { unit12 with written := true } ∧
      readDisturb d = 0 ∧ ((List.range 4).filter (fun i => [0, 1].contains i || [2].contains i)).length < 4 ∧
      ((List.range 4).filter (fun i => [0, 1].contains i || [2, 3].contains i)).length = 4 ∧ d.sec.zeroized = false ∧ channelHeld d read13 = false ∧
      (∀ y ∈ d.sas.skeins, y.fetchDue = none ∧ y.windowDue = false)) ∧
    (let d := (w13Media full13 false).dev
     d.bob.units.find? (fun x => x.inBlock (tgtOf 0 0) 0 0 && x.page == 1 && !x.written) = some { unit12 with written := false } ∧
       (targetAt d (tgtOf 0 0)).st = 1 ∧ suspended d (tgtOf 0 0) = false ∧ unit12.source = none ∧ unit12.slots.any Option.isSome) ∧
    (let b : BobBlock := { full13 with erasing := true }
     (targetAt (w13Media b true).dev (tgtOf 0 0)).block 0 0 = some b) := by decide +kernel

/-- The same with GC_LOW 255. -/
def gc13 (b : BobBlock) (low : Nat) : State :=
  let s := w13Media b true
  { s with dev := { s.dev with img := s.dev.img ++ [(0x400010, 1 + low * 2 ^ 16 + 255 * 2 ^ 24)], clk := { s.dev.clk with now := 2 ^ 63 } } }

theorem witness_decisions : gcRuns (gc13 full13 0).dev = false ∧
    (let d := (gc13 full13 254).dev
     gcRuns d ∧ gcVictim { d with bob := { d.bob with gc := true } } = some (tgtOf 0 0, full13) ∧ gcGains d (tgtOf 0 0) full13 ∧
       (targetAt d (tgtOf 0 0)).block 0 0 = some full13 ∧ full13.first = some 3 ∧ 3 + retentionNs d < now d ∧ full13.st = .full ∧
       full13.doomed = false ∧ (targetAt d (tgtOf 0 0)).st = 1) := by decide +kernel


/-! ## Ports -/

/-- Port 0 in link mode 1 and port 1 in mode 2; list 0 of port 0: 1,000 ns open to every class, then 1,000 ns of a shed. -/
def img14 : Tbl Nat := img0 ++ [(0x200000, 1 + 7 * 2 ^ 4 + 100 * 2 ^ 8), (0x200008, 50), (0x210000, 2), (0x210008, 50), (0x200030, 0x0101010101010101),
  (0x200100, 2000 + 2 * 2 ^ 24 + 2 ^ 31), (0x200200, 1000 + 255 * 2 ^ 32), (0x200208, 1000 + 2 ^ 24)]
/-- Port 0 as given, the others training; `at_`: the time. -/
def w14 (x : Port) (at_ : Nat := 1000000000) : State := st { devT [] with
  img := img14
  clk := { dev0.clk with now := at_ }
  ports := [x, x] ++ List.replicate 6 { state := .training } }
/-- An ACK frame that waits in class 2, and one in the replay store. -/
def frame14 (n : Nat) : PortFrame := { cls := .b, tc := 2, vc := 1, wire := 104, what := .neighborAdvertisement 0, fseq := n, sentAt := 5 }
def up14 : Port := { state := .up, queue := [frame14 0] }
def llr14 (resend : List Nat) : Port := { state := .up, llrOn := true, replay := [frame14 4, frame14 5], resend := resend, nextFseq := 6 }

theorem witness_ports : (∀ x : Port, portAt (w14 x).dev 0 = x ∧ (w14 x).dev.ports.length = 8) ∧ portMode (w14 {}).dev 0 = 1 ∧
    portMode (w14 {}).dev 1 = 2 ∧ ({ state := .down, downSince := 7 } : Port).downSince + 100000000 ≤ now (w14 {}).dev := by
  refine ⟨fun x => ⟨rfl, rfl⟩, ?_⟩
  decide +kernel

theorem witness_linkWords : (∀ t ∈ [1, 2, 3, 4, 5], lwOk (linkWord 0 t 4) ∧ lwType (linkWord 0 t 4) = t ∧ lwBody (linkWord 0 t 4) = 4) ∧
    bitOf ({ state := .training } : Port).laneLock (4 % 4) = false ∧
    (∃ f rest, (llr14 []).replay = f :: rest ∧ f.sentAt + llrNs (w14 (llr14 [])).dev 0 ≤ now (w14 (llr14 [])).dev) := by
  refine ⟨by decide +kernel, by decide +kernel, frame14 4, [frame14 5], rfl, by decide +kernel⟩

def ingress14 : Frame := { kind := .weft, toMac := true, toIp := true, vlan := false, extHdr := false, fcsOk := true, fecOk := true, fseq := 0, bytes := 300, tc := 1, vc := 0, yellow := false }
/-- No credits are left on VC 1. -/
def stall14 : Port := { up14 with used := [0, 512, 0], waitSince := [none, some 5, none] }

theorem witness_ingress : (let d := (w14 up14).dev; frameOurs d 0 ingress14 ∧ up14.ingress.length = 3 ∧ (police d 0 1 300 false).1 = .green ∧
      up14.llrOn = false) ∧
    (let x : Port := { up14 with paused := [none, some 5, none], xoff := [none, some 5, none] }
     x.paused.getD 1 none = some 5 ∧ x.xoff.getD 1 none = some 5 ∧ 5 + 20000 ≤ now (w14 x).dev) ∧
    (let y := portAt (noteWaits (w14 stall14).dev 0) 0
     y.waitSince.getD 1 none = some 5 ∧ y.vcWait.getD 1 false = false ∧ 5 + stallNs (w14 stall14).dev 0 ≤ now (w14 stall14).dev) := by
  decide +kernel

theorem witness_egress : (llr14 [4, 5]).resend = [4, 5] ∧ (llr14 [4, 5]).replay.find? (fun g => g.fseq == 4) = some (frame14 4) ∧
    (let y := tagHeads (w14 up14).dev 0
     nextFrame (setPort (w14 up14).dev 0 y) 0 y 0 = some (frame14 0, 0) ∧ y.llrOn = false) ∧
    (let x : Port := { llr14 [] with queue := [frame14 0] }; let y := tagHeads (w14 x).dev 0
     nextFrame (setPort (w14 x).dev 0 y) 0 y 0 = some (frame14 0, 0) ∧ (y.replay.map PortFrame.bytes).sum + (frame14 0).bytes ≤ 131072) ∧
    (let x : Port := { up14 with used := [0, 0, 0] }; guardHolds (w14 x 980).dev 0 ∧ x.guardFrom = none) ∧
    inGuard (w14 { up14 with guardFrom := some 980 } 1000).dev 0 = false := by decide +kernel


end Sys2Proof.Tests
end

section
/-! # Reads of BAR0 by host software (R10)

A read of 1, 2, 4 or 8 bytes takes the bytes of one register, or nothing but zeros; one of 8 k bytes is the reads of its k parts. -/

namespace Sys2Proof.Machine

open Sys2Proof

section
variable {s : State} {fn a n : Nat}

theorem length_le (n k : Nat) : (le n k).length = k := by
  induction k generalizing n with
  | zero => rfl
  | succ k ih => exact congrArg (· + 1) (ih _)

/-- The byte `i` of a number is its quotient by `2 ^ (8 * i)`. -/
theorem le_eq_map_range (n k : Nat) : le n k = (List.range k).map fun i => BitVec.ofNat 8 (n / 2 ^ (8 * i)) := by
  induction k generalizing n with
  | zero => rfl
  | succ k ih =>
    rw [le, ih, List.range_succ_eq_map, List.map_cons, List.map_map]
    congr 1
    · simp
    · refine List.map_congr_left fun i _ => ?_
      rw [Function.comp_apply, Nat.div_div_eq_div_mul, Nat.mul_succ, Nat.add_comm, Nat.pow_add]

theorem map_range_mul {α : Type} (f : Nat → α) (m k : Nat) :
    (List.range (m * k)).map f = (List.range k).flatMap fun j => (List.range m).map fun i => f (m * j + i) := by
  induction k with
  | zero => rfl
  | succ k ih => simp [Nat.mul_succ, List.range_add, List.range_succ, ih, Function.comp_def]

/-- A read of a register or of a part of one, aligned to its size. -/
theorem barRead_of_aligned (hn : n ∈ [1, 2, 4, 8]) (ha : a % n = 0) :
    barRead s fn a n = sub (le (barReg s fn (a - a % 8)) 8) (a % 8) n := by
  rw [barRead, if_pos (List.contains_iff_mem.mpr hn), if_pos (beq_iff_eq.mpr ha)]

theorem barRead_of_unaligned (hn : n ∈ [1, 2, 4, 8]) (ha : a % n ≠ 0) : barRead s fn a n = zeroBytes n := by
  rw [barRead, if_pos (List.contains_iff_mem.mpr hn), if_neg (mt beq_iff_eq.mp ha)]

/-- An aligned read of 8 bytes gives the whole register. -/
theorem barRead_eight (ha : a % 8 = 0) : barRead s fn a 8 = le (barReg s fn a) 8 := by
  rw [barRead_of_aligned (by decide) ha, ha, Nat.sub_zero, sub, List.drop_zero, List.take_of_length_le (length_le ..).le]

/-- A read of more than a register, aligned to 8 bytes, takes the byte at `a + i` from the register that holds it. -/
theorem barRead_long {k : Nat} (hk : 2 ≤ k) (ha : a % 8 = 0) :
    barRead s fn a (8 * k) =
      (List.range (8 * k)).map fun i => BitVec.ofNat 8 (barReg s fn (a + 8 * (i / 8)) / 2 ^ (8 * (i % 8))) := by
  have hlong : ¬ [1, 2, 4, 8].contains (8 * k) = true := by simp; omega
  rw [barRead, if_neg hlong, if_pos (by simp; omega)]
  refine List.map_congr_left fun i hi => ?_
  have hi := List.mem_range.mp hi
  have hp : (a + i) / 8 * 8 = a + 8 * (i / 8) := by omega
  have hr : (a + i) % 8 = i % 8 := by omega
  have hin : a ≤ a + 8 * (i / 8) ∧ a + 8 * (i / 8) + 8 ≤ a + 8 * k := by omega
  simp [hp, hr, hin]

/-- Such a read gives what the aligned reads of its 8-byte parts give. -/
theorem barRead_parts {k : Nat} (hk : 2 ≤ k) (ha : a % 8 = 0) :
    barRead s fn a (8 * k) = (List.range k).flatMap fun i => barRead s fn (a + 8 * i) 8 := by
  rw [barRead_long hk ha, map_range_mul]
  congr 1
  funext j
  rw [barRead_eight (by omega), le_eq_map_range]
  refine List.map_congr_left fun i hi => ?_
  have hi := List.mem_range.mp hi
  rw [show (8 * j + i) / 8 = j by omega, show (8 * j + i) % 8 = i by omega]

end

/-- Settles O6: by the size of the read, and its alignment. -/
theorem hostReadsOfBar0 : Obligations.HostReadsOfBar0 := by
  unfold Obligations.HostReadsOfBar0
  intro s fn a
  refine ⟨barRead_eight, barRead_of_aligned (by decide), barRead_of_aligned (by decide),
    barRead_of_aligned (by decide) (Nat.mod_one a), fun n hn ha => barRead_of_unaligned hn ha, fun k hk ha => barRead_parts hk ha⟩

end Sys2Proof.Machine
end

section
/-! # What every command keeps

The counters (R15, R16) and the device's shape (R65, R288, R572, R592) rest on five fields of the device: the counters, the check
units, the stacks, the ports and the clock. `Kept d₀ d` says that `d` came from `d₀` with counters that did not fall and with the
shape kept. Each function of the model has one lemma `f_kept`: what was kept before it is kept after it; its proof follows the
branches of `f` and cites the lemmas of the functions that `f` calls. The commands' lemmas `execF_keeps` are made of these, and the
obligations of the last section of these in turn. -/

namespace Sys2Proof.Machine

open Sys2Proof

/-- Each of a port's eight per-channel lists has one entry for each of the three virtual channels (R592). -/
def PortShaped (p : Port) : Prop :=
  p.ingress.length = 3 ∧ p.freed.length = 3 ∧ p.used.length = 3 ∧ p.peerFreed.length = 3 ∧ p.paused.length = 3 ∧
    p.xoff.length = 3 ∧ p.vcWait.length = 3 ∧ p.waitSince.length = 3

/-- A port as shaped as those of `d`. -/
def ShapedAs (d : Dev) (p : Port) : Prop := (∀ q ∈ d.ports, PortShaped q) → PortShaped p

/-- From `c` to `k` no counter within its limit falls or passes the limit. -/
structure CountersRise (c k : Tbl Nat) : Prop where
  rises : ∀ a, tgetD c a 0 ≤ satMax → tgetD c a 0 ≤ tgetD k a 0 ∧ tgetD k a 0 ≤ satMax
  within : (∀ e ∈ c, e.2 ≤ satMax) → ∀ e ∈ k, e.2 ≤ satMax

/-- `e` has the shape of `d`, and its counters have not fallen since. -/
structure Kept (d e : Dev) : Prop where
  counters : CountersRise d.ctr e.ctr
  checks : e.checks.length = d.checks.length
  units : e.stk.units.length = d.stk.units.length
  ports : e.ports.length = d.ports.length
  channels : ∀ p ∈ e.ports, ShapedAs d p
  time : d.clk.now < 2 ^ 64 → e.clk.now < 2 ^ 64

/-- Every next state that the outcome answers is kept, and has as many key slots (R729). -/
def Keeps (s : State) (o : Host.Outcome State Fault Refusal) : Prop :=
  ∀ t, o = .next t → Kept s.dev t.dev ∧ t.fuses.slots.length = s.fuses.slots.length

section
variable {d₀ d e : Dev}

/-! ## Counters -/

theorem CountersRise.refl (c : Tbl Nat) : CountersRise c c := ⟨fun _ h => ⟨le_rfl, h⟩, id⟩

theorem CountersRise.trans {a b c : Tbl Nat} (h : CountersRise a b) (k : CountersRise b c) : CountersRise a c where
  rises n hn := by
    obtain ⟨hle, hb⟩ := h.rises n hn
    obtain ⟨hle', hc⟩ := k.rises n hb
    exact ⟨hle.trans hle', hc⟩
  within := k.within ∘ h.within

theorem satAdd_le (c n : Nat) : satAdd c n ≤ satMax := Nat.min_le_right ..

theorem le_satAdd {c n : Nat} (h : c ≤ satMax) : c ≤ satAdd c n := Nat.le_min.mpr ⟨Nat.le_add_right .., h⟩

/-- An entry of a table after a setting is the entry set or stood there before. -/
theorem mem_tset {α : Type} {t : Tbl α} {k : Nat} {v : α} {e : Nat × α} (h : e ∈ tset t k v) : e = (k, v) ∨ e ∈ t := by
  induction t with
  | nil => simpa [tset] using h
  | cons x t ih =>
    unfold tset at h
    split at h
    · simpa using h
    · split at h
      · exact (List.mem_cons.mp h).imp_right (List.mem_cons_of_mem _)
      · rcases List.mem_cons.mp h with h | h
        · exact .inr (h ▸ List.mem_cons_self)
        · exact (ih h).imp_right (List.mem_cons_of_mem _)

theorem countersRise_ctrAdd (d : Dev) (a n : Nat) : CountersRise d.ctr (ctrAdd d a n).ctr where
  rises b hb := by
    rw [ctrAdd_ctr]
    split
    · next h => rw [h.1] at hb ⊢; exact ⟨le_satAdd hb, satAdd_le ..⟩
    · exact ⟨le_rfl, hb⟩
  within h := by
    unfold ctrAdd
    split
    · exact h
    · intro e he
      rcases mem_tset he with rfl | he
      · exact satAdd_le ..
      · exact h e he

/-! ## Ports -/

theorem shapedAs_portAt {p : Nat} : ShapedAs d (portAt d p) := by
  intro h
  unfold portAt
  rw [List.getD_eq_getElem?_getD]
  cases hp : d.ports[p]? with
  | none => exact ⟨rfl, rfl, rfl, rfl, rfl, rfl, rfl, rfl⟩
  | some q => exact h q (List.mem_of_getElem? hp)

theorem Kept.shaped (hk : Kept d₀ d) {p : Port} (h : ShapedAs d p) : ShapedAs d₀ p := fun h₀ => h fun q hq => hk.channels q hq h₀

/-- A port of a kept device is shaped as those at the start; so is one that differs in none of the eight lists. -/
theorem portAt_shaped (hk : Kept d₀ d) {p : Nat} : ShapedAs d₀ (portAt d p) := hk.shaped shapedAs_portAt

/-! ## What `Kept` is closed under -/

theorem Kept.refl (d : Dev) : Kept d d := ⟨.refl _, rfl, rfl, rfl, fun p hp h => h p hp, id⟩

theorem Kept.trans {a b c : Dev} (h : Kept a b) (k : Kept b c) : Kept a c where
  counters := h.counters.trans k.counters
  checks := k.checks.trans h.checks
  units := k.units.trans h.units
  ports := k.ports.trans h.ports
  channels p hp := h.shaped (k.channels p hp)
  time := k.time ∘ h.time

/-- An update of other fields than the five. -/
theorem Kept.record {out free boot img ready readyAt flt pair host sec mon intake rings weft adm reqs sas bob codecErr retr fab lines}
    (hk : Kept d₀ d) :
    Kept d₀ (Dev.mk out free d.clk boot img ready readyAt d.ctr flt pair host sec mon intake rings weft adm d.ports reqs sas d.stk bob
      codecErr retr fab lines d.checks) :=
  ⟨hk.counters, hk.checks, hk.units, hk.ports, hk.channels, hk.time⟩

theorem Kept.clock {c : Clock} (hk : Kept d₀ d) (h : d.clk.now < 2 ^ 64 → c.now < 2 ^ 64) : Kept d₀ { d with clk := c } :=
  { hk with time := h ∘ hk.time }

theorem Kept.stacks {x : Stacks} (hk : Kept d₀ d) (h : x.units.length = d.stk.units.length) : Kept d₀ { d with stk := x } :=
  { hk with units := h.trans hk.units }

theorem Kept.checkUnits {x : List CheckUnit} (hk : Kept d₀ d) (h : x.length = d.checks.length) : Kept d₀ { d with checks := x } :=
  { hk with checks := h.trans hk.checks }

/-- Ports whose eight lists stay as they are. -/
theorem Kept.mapPorts {f : Port → Port} (hk : Kept d₀ d) (h : ∀ p, PortShaped p → PortShaped (f p)) :
    Kept d₀ { d with ports := d.ports.map f } :=
  { hk with
    ports := (List.length_map ..).trans hk.ports
    channels := by
      intro p hp h₀
      obtain ⟨q, hq, rfl⟩ := List.mem_map.mp hp
      exact h q (hk.channels q hq h₀) }

/-- A new port in place of another, shaped as those at the start. -/
theorem setPort_kept {p : Nat} {x : Port} (hk : Kept d₀ d) (hx : ShapedAs d₀ x) : Kept d₀ (setPort d p x) :=
  { hk with
    ports := (List.length_set ..).trans hk.ports
    channels := by
      intro q hq
      rcases List.mem_or_eq_of_mem_set hq with hq | rfl
      · exact hk.channels q hq
      · exact hx }

theorem Kept.ite {p : Prop} [Decidable p] {a b : Dev} (ha : Kept d a) (hb : Kept d b) : Kept d (if p then a else b) := by
  split <;> assumption

theorem Kept.ite₂ {α : Type} {p : Prop} [Decidable p] {a b : α × Dev} (ha : Kept d a.2) (hb : Kept d b.2) :
    Kept d (if p then a else b).2 := by
  split <;> assumption

theorem Kept.ite₃ {α β : Type} {p : Prop} [Decidable p] {a b : α × β × Dev} (ha : Kept d a.2.2) (hb : Kept d b.2.2) :
    Kept d (if p then a else b).2.2 := by
  split <;> assumption

theorem Kept.iteSome {α : Type} {p : Prop} [Decidable p] {a b : Option (α × Dev)} (ha : ∀ r, a = some r → Kept d r.2)
    (hb : ∀ r, b = some r → Kept d r.2) : ∀ r, (if p then a else b) = some r → Kept d r.2 := by
  split <;> assumption

theorem Kept.foldl {α : Type} {f : Dev → α → Dev} {l : List α} (hf : ∀ x a, Kept d₀ x → Kept d₀ (f x a)) (hk : Kept d₀ d) :
    Kept d₀ (l.foldl f d) := by
  induction l generalizing d with
  | nil => exact hk
  | cons a l ih => exact ih (hf d a hk)

/-- A fold that carries a value beside the device. -/
theorem Kept.foldl₂ {α β : Type} {f : β × Dev → α → β × Dev} {l : List α} {r : β × Dev}
    (hf : ∀ x a, Kept d₀ x.2 → Kept d₀ (f x a).2) (hk : Kept d₀ r.2) : Kept d₀ (l.foldl f r).2 := by
  induction l generalizing r with
  | nil => exact hk
  | cons a l ih => exact ih (hf r a hk)

/-- The device of a pair that has been taken apart. -/
theorem Kept.snd {α : Type} {r : α × Dev} {a : α} (hk : Kept d₀ r.2) (he : r = (a, e)) : Kept d₀ e := by
  subst he; exact hk

/-- The device of an answer, where there is one. -/
theorem Kept.getD {o : Option Dev} (ho : ∀ x, o = some x → Kept d₀ x) (hk : Kept d₀ d) : Kept d₀ (o.getD d) := by
  cases o with
  | none => exact hk
  | some x => exact ho x rfl

/-! ## What a command answers -/

theorem keeps_self {s : State} : Keeps s (.next s) := by
  rintro _ ⟨⟩
  exact ⟨.refl _, rfl⟩

theorem keeps_next {s t : State} (hk : Kept s.dev t.dev) (hf : t.fuses.slots.length = s.fuses.slots.length) : Keeps s (.next t) := by
  rintro _ ⟨⟩
  exact ⟨hk, hf⟩

theorem keeps_setDev {s : State} (hk : Kept s.dev d) : Keeps s (.next (s.setDev d)) := keeps_next hk rfl

end

end Sys2Proof.Machine
end

section
/-! # Every function keeps the counters and the shape -/

namespace Sys2Proof.Machine

open Sys2Proof

section
variable {d₀ d e : Dev}

/-! ## Machine/Regs.lean -/

theorem ctrAdd_kept {a n} (hk : Kept d₀ d) : Kept d₀ (ctrAdd d a n) := by
  refine hk.trans ?_
  unfold ctrAdd
  split
  · exact .refl d
  · next hn =>
    have h := countersRise_ctrAdd d a n
    rw [ctrAdd, if_neg hn] at h
    exact { Kept.refl d with counters := h }

theorem ctrInc_kept {a} (hk : Kept d₀ d) : Kept d₀ (ctrInc d a) := ctrAdd_kept hk

theorem freeNext_kept (hk : Kept d₀ d) : Kept d₀ (freeNext d).2 := .record hk

theorem post_kept {b} (hk : Kept d₀ d) : Kept d₀ (post d b) := .record hk

theorem unpost_kept {b} (hk : Kept d₀ d) : Kept d₀ (unpost d b) := .record hk

/-! ## Machine/Ops.lean -/

theorem onDev_keeps {f : Dev → Dev} {s : State} (hf : ∀ {d₀ d}, Kept d₀ d → Kept d₀ (f d)) : Keeps s (onDev f s) := by
  rintro t ⟨⟩
  exact ⟨hf (.refl _), rfl⟩

theorem emit_kept {o} (hk : Kept d₀ d) : Kept d₀ (emit d o) := .record hk

theorem usePn_kept {a} (hk : Kept d₀ d) : Kept d₀ (usePn d a) := .record hk

theorem sendSelvedge_kept {op mseq error session recs} (hk : Kept d₀ d) : Kept d₀ (sendSelvedge d op mseq error session recs) := by
  unfold sendSelvedge
  split
  · exact hk
  · exact .ite (emit_kept (usePn_kept hk)) hk

theorem mirrorPush_kept {recs} (hk : Kept d₀ d) : Kept d₀ (mirrorPush d recs) :=
  .ite (.foldl (fun _ _ k => ctrAdd_kept (ctrInc_kept (sendSelvedge_kept (.record k)))) hk) hk

theorem emitWA_kept {o} (hk : Kept d₀ d) : Kept d₀ (emitWA d o) := .ite (.record hk) (emit_kept hk)

theorem releaseHeld_kept {upTo} (hk : Kept d₀ d) : Kept d₀ (releaseHeld d upTo) := .foldl (fun _ _ k => emit_kept k) (.record hk)

theorem hostWriteAttr_kept {o a bs ep relaxed} (hk : Kept d₀ d) : Kept d₀ (hostWriteAttr d o a bs ep relaxed) :=
  .ite (.foldl (fun _ _ k => emitWA_kept k) hk) (.record (ctrInc_kept hk))

theorem hostWrite_kept {o a bs} (hk : Kept d₀ d) : Kept d₀ (hostWrite d o a bs) := hostWriteAttr_kept hk

theorem emitReads_kept {o a len} (hk : Kept d₀ d) : Kept d₀ (emitReads d o a len) := .foldl (fun _ _ k => emit_kept k) hk

theorem hostRead_kept {o a len use} (hk : Kept d₀ d) : Kept d₀ (hostRead d o a len use) := emitReads_kept (.record hk)

theorem msixRaise_kept {o} (hk : Kept d₀ d) : Kept d₀ (msixRaise d o) := .ite hk (.ite (emitWA_kept (.record hk)) (.record hk))

theorem setConn_kept {c} (hk : Kept d₀ d) : Kept d₀ (setConn d c) := .record hk

theorem postEntry_kept {cn e} (hk : Kept d₀ d) : Kept d₀ (postEntry d cn e) := by
  unfold postEntry
  split
  · exact hk
  · exact .ite hk (setConn_kept hk)

theorem handOwn_kept {m req} (hk : Kept d₀ d) : Kept d₀ (handOwn d m req) := .record hk

theorem takeHanded_kept {kind req ps} (hk : Kept d₀ d) : Kept d₀ (takeHanded d kind req ps).2 := by
  induction ps generalizing d with
  | nil => exact hk
  | cons p ps ih =>
    rw [takeHanded]
    split
    · exact ih hk
    · exact ih (.record hk)

theorem shipped_kept {frm kind req pages} (hk : Kept d₀ d) : Kept d₀ (shipped d frm kind req pages).2 := .ite₂ (takeHanded_kept hk) hk

theorem sendSvcFor_kept {f m cls deadline passOn use} (hk : Kept d₀ d) : Kept d₀ (sendSvcFor d f m cls deadline passOn use).2 := by
  unfold sendSvcFor
  refine .ite₂ (emitWA_kept (handOwn_kept hk)) ?_
  split
  · exact hk
  · exact postEntry_kept hk

theorem sendSvc_kept {f m} (hk : Kept d₀ d) : Kept d₀ (sendSvc d f m).2 := sendSvcFor_kept hk

theorem pldmChange_kept {sensor state} (hk : Kept d₀ d) : Kept d₀ (pldmChange d sensor state) := by
  unfold pldmChange
  split
  · exact hk
  · exact .ite (emit_kept (.record hk)) (.record hk)

theorem setRing_kept {r} (hk : Kept d₀ d) : Kept d₀ (setRing d r) := .record hk

theorem ringBreak_kept {r} (hk : Kept d₀ d) : Kept d₀ (ringBreak d r) := ctrAdd_kept (setRing_kept hk)

theorem startHeadRead_kept {n} (hk : Kept d₀ d) : Kept d₀ (startHeadRead d n) := by
  unfold startHeadRead
  split
  · exact hk
  · exact .ite hk (.ite (ringBreak_kept hk) (.ite (postEntry_kept (setRing_kept hk)) (hostRead_kept (setRing_kept hk))))

theorem faultWritten_kept {r bs} (hk : Kept d₀ d) : Kept d₀ (faultWritten d r bs) :=
  .ite (ctrInc_kept (.record hk)) (msixRaise_kept (ctrInc_kept (.record hk)))

theorem ringWriteSlot_kept {r rec} (hk : Kept d₀ d) : Kept d₀ (ringWriteSlot d r rec) := by
  unfold ringWriteSlot
  extract_lets _ _ _ d1 _ d2 d3 d4
  have h1 : Kept d₀ d1 := mirrorPush_kept hk
  have h2 : Kept d₀ d2 := setRing_kept h1
  have h3 : Kept d₀ d3 := .ite (postEntry_kept h2) (hostWrite_kept h2)
  have h4 : Kept d₀ d4 := .ite (ctrInc_kept h3) (.ite (faultWritten_kept h3) h3)
  exact .ite (startHeadRead_kept h4) h4

theorem ringPutRaw_kept {n rec keep} (hk : Kept d₀ d) : Kept d₀ (ringPutRaw d n rec keep).2 := by
  unfold ringPutRaw
  split
  · exact ctrInc_kept hk
  · exact .ite₂ (ctrInc_kept hk) (.ite₂ (ringWriteSlot_kept hk)
      (.ite₂ (startHeadRead_kept (setRing_kept hk)) (.ite₂ (setRing_kept (ctrInc_kept hk)) (ctrInc_kept hk))))

theorem faultPut_kept {o f} (hk : Kept d₀ d) : Kept d₀ (faultPut d o f) := by
  unfold faultPut
  split
  · exact ringPutRaw_kept hk
  · exact .ite (.record hk) (ctrInc_kept hk)

theorem setAllowed_kept {k s o t} (hk : Kept d₀ d) : Kept d₀ (setAllowed d k s o t) := .record hk

theorem unitPut_kept {e} (hk : Kept d₀ d) : Kept d₀ (unitPut d e) := setAllowed_kept (.record (faultPut_kept hk))

theorem detectPut_kept {o k s c d0 d1} (hk : Kept d₀ d) : Kept d₀ (detectPut d o k s c d0 d1) := by
  unfold detectPut
  extract_lets d1
  have h1 : Kept d₀ d1 := ctrInc_kept hk
  exact .ite (.record (ctrInc_kept h1)) (.ite (unitPut_kept (.record h1)) (.record h1))

theorem tellBroken_kept {n} (hk : Kept d₀ d) : Kept d₀ (tellBroken n d) := by
  induction n generalizing d with
  | zero => exact hk
  | succ n ih =>
    rw [tellBroken]
    split
    · exact hk
    · exact ih (.ite (detectPut_kept (setRing_kept hk)) (ctrInc_kept (faultPut_kept (setRing_kept hk))))

theorem brokenTold_kept (hk : Kept d₀ d) : Kept d₀ (brokenTold d) := tellBroken_kept hk

theorem faultWrite_kept {o f} (hk : Kept d₀ d) : Kept d₀ (faultWrite d o f) := brokenTold_kept (faultPut_kept hk)

theorem faultOp_kept {ref cause status d0 d1} (hk : Kept d₀ d) : Kept d₀ (faultOp d ref cause status d0 d1) := faultWrite_kept hk

theorem faultPlain_kept {cause d0 d1} (hk : Kept d₀ d) : Kept d₀ (faultPlain d cause d0 d1) := faultWrite_kept hk

theorem writeUnit_kept {e} (hk : Kept d₀ d) : Kept d₀ (writeUnit d e) := brokenTold_kept (unitPut_kept hk)

theorem detectFor_kept {o k s c d0 d1} (hk : Kept d₀ d) : Kept d₀ (detectFor d o k s c d0 d1) := brokenTold_kept (detectPut_kept hk)

theorem detect_kept {k s c d0 d1} (hk : Kept d₀ d) : Kept d₀ (detect d k s c d0 d1) := detectFor_kept hk

theorem detectDevice_kept {c d0 d1} (hk : Kept d₀ d) : Kept d₀ (detectDevice d c d0 d1) := detect_kept hk

theorem ringPut_kept {n rec keep} (hk : Kept d₀ d) : Kept d₀ (ringPut d n rec keep) := by
  unfold ringPut
  split
  next he => exact brokenTold_kept (.snd (ringPutRaw_kept hk) he)
  next he =>
    split
    · exact detect_kept (.snd (ringPutRaw_kept hk) he)
    · exact .snd (ringPutRaw_kept hk) he

theorem ringDrain_kept {n fuel} (hk : Kept d₀ d) : Kept d₀ (ringDrain n fuel d) := by
  induction fuel generalizing d with
  | zero => exact hk
  | succ fuel ih =>
    rw [ringDrain]
    split
    · exact hk
    · split
      · exact .ite (detectFor_kept (setRing_kept hk)) hk
      · exact .ite hk (ih (ringWriteSlot_kept hk))

theorem putCompletion_kept {ref rec keep} (hk : Kept d₀ d) : Kept d₀ (putCompletion d ref rec keep) :=
  .ite (.record hk) (ringPut_kept hk)

theorem releaseBehind_kept (hk : Kept d₀ d) : Kept d₀ (releaseBehind d) := .foldl (fun _ _ k => ringPut_kept k) (.record hk)

theorem complete_kept {ref status bound r0 r1} (hk : Kept d₀ d) : Kept d₀ (complete d ref status bound r0 r1) := by
  unfold complete
  split
  · exact .ite (putCompletion_kept hk) (ctrInc_kept hk)
  · exact ctrInc_kept hk

theorem finishOp_kept {ref status r0 r1} (hk : Kept d₀ d) : Kept d₀ (finishOp d ref status r0 r1) := .ite hk (complete_kept hk)

theorem refuse_kept {ref status} (hk : Kept d₀ d) : Kept d₀ (refuse d ref status) := complete_kept hk

/-! ## Machine/Admit.lean -/

theorem admitG_kept {op ready post} (hk : Kept d₀ d) : Kept d₀ (admitG d op ready post).2 := by
  unfold admitG
  refine .ite₂ (ctrInc_kept hk) (.ite₂ (ctrInc_kept hk) (.ite₂ (ctrInc_kept hk) (.ite₂ (ctrInc_kept hk) ?_)))
  dsimp only
  split
  · exact ctrInc_kept hk
  · exact ctrInc_kept (.record hk)

theorem acceptB_kept {op ready} (hk : Kept d₀ d) : Kept d₀ (acceptB d op ready).2 := .ite₂ hk (ctrInc_kept (.record hk))

/-- Admission or acceptance, by the class of the operation. -/
theorem admitted_kept {cls : Cls} {op : Op} {ready : List Nat} {post : Nat} {a : Admitted} (hk : Kept d₀ d)
    (he : (match cls with | .g => admitG d op ready post | .b => acceptB d op ready) = (a, e)) : Kept d₀ e := by
  cases cls
  · exact .snd (acceptB_kept hk) he
  · exact .snd (admitG_kept hk) he

theorem farEnd_kept {fl ret status bound} (hk : Kept d₀ d) : Kept d₀ (farEnd d fl ret status bound) := emitWA_kept hk

theorem admissionReply_kept {ref status bound} (hk : Kept d₀ d) : Kept d₀ (admissionReply d ref status bound) :=
  .ite (complete_kept hk) (.record hk)

theorem farReply_kept {ref fl ret status bound} (hk : Kept d₀ d) : Kept d₀ (farReply d ref fl ret status bound) :=
  .ite (farEnd_kept hk) (.record hk)

theorem setOp_kept {o} (hk : Kept d₀ d) : Kept d₀ (setOp d o) := .record hk

theorem withdraw_kept {id} (hk : Kept d₀ d) : Kept d₀ (withdraw d id) :=
  .ite hk (.record (d := { d with ports := d.ports.map _ }) (.mapPorts hk fun _ h => h))

theorem dropOp_kept {id} (hk : Kept d₀ d) : Kept d₀ (dropOp d id) := .record hk

theorem jobCount_kept {o k} (hk : Kept d₀ d) : Kept d₀ (jobCount d o k) := ctrInc_kept hk

theorem dropMember_kept {job op} (hk : Kept d₀ d) : Kept d₀ (dropMember d job op) := .record hk

theorem handOver_kept {o} (hk : Kept d₀ d) : Kept d₀ (handOver d o) := by
  unfold handOver
  split
  · split
    · exact hk
    · split
      · exact .ite hk (.record hk)
      · exact hk
  · exact hk

theorem opEnds_kept {o status} (hk : Kept d₀ d) : Kept d₀ (opEnds d o status) := by
  unfold opEnds
  split
  · exact dropMember_kept (farEnd_kept (jobCount_kept hk))
  · exact complete_kept (ctrInc_kept hk)
  · exact complete_kept hk

theorem failOp_kept {o cause status} (hk : Kept d₀ d) : Kept d₀ (failOp d o cause status) := by
  unfold failOp
  extract_lets d1 d2 d3
  have h1 : Kept d₀ d1 := withdraw_kept (dropOp_kept (handOver_kept hk))
  have h2 : Kept d₀ d2 := .ite (ctrInc_kept h1) h1
  have h3 : Kept d₀ d3 := faultOp_kept h2
  exact opEnds_kept h3

theorem endOp_kept {o status} (hk : Kept d₀ d) : Kept d₀ (endOp d o status) :=
  opEnds_kept (withdraw_kept (dropOp_kept (handOver_kept hk)))

theorem stopOp_kept {o cause status} (hk : Kept d₀ d) : Kept d₀ (stopOp d o cause status) := .ite (failOp_kept hk) (endOp_kept hk)

theorem noteOverrun_kept {o s extra} (hk : Kept d₀ d) : Kept d₀ (noteOverrun d o s extra).2 := .ite₂ (ctrInc_kept (setOp_kept hk)) hk

theorem failAll_kept {p cause status} (hk : Kept d₀ d) : Kept d₀ (failAll d p cause status) := .foldl (fun _ _ k => failOp_kept k) hk

/-! ## Machine/Operands.lean -/

theorem dropTaken_kept {t} (hk : Kept d₀ d) : Kept d₀ (dropTaken d t) := .record hk

theorem refuseTaken_kept {t st} (hk : Kept d₀ d) : Kept d₀ (refuseTaken d t st) := by
  unfold refuseTaken
  extract_lets d1 d2
  have h1 : Kept d₀ d1 := .ite (ctrInc_kept (dropTaken_kept hk)) (dropTaken_kept hk)
  have h2 : Kept d₀ d2 := .ite (ctrInc_kept h1) h1
  exact .ite (admissionReply_kept h2) (refuse_kept h2)

theorem expire_kept {ref} (hk : Kept d₀ d) : Kept d₀ (expire d ref) := complete_kept (ctrInc_kept hk)

theorem onTaken_keeps {l q form s} {f : Dev → Taken → Dev} (hf : ∀ {d₀ d t}, Kept d₀ d → Kept d₀ (f d t)) :
    Keeps s (onTaken l q form f s) :=
  onDev_keeps fun hk => by
    split
    · exact .ite (hf hk) hk
    · exact hk

/-! ## Machine/FabOps.lean -/

theorem setRun_kept {r} (hk : Kept d₀ d) : Kept d₀ (setRun d r) := .record hk

theorem sampleShadow_kept {kind slot layer pins served} (hk : Kept d₀ d) : Kept d₀ (sampleShadow d kind slot layer pins served) := by
  unfold sampleShadow
  refine .ite hk (.ite (freeNext_kept hk) ?_)
  dsimp only
  split
  · exact ctrInc_kept (ctrInc_kept (freeNext_kept hk))
  · split
    · exact ctrInc_kept (ctrInc_kept (freeNext_kept hk))
    · split
      · exact ctrInc_kept (ctrInc_kept (freeNext_kept hk))
      · exact .ite (ctrInc_kept (ctrInc_kept (freeNext_kept hk))) (.record (ctrInc_kept (freeNext_kept hk)))

theorem jobDone_kept {o kind pins} (hk : Kept d₀ d) : Kept d₀ (jobDone d o kind pins) :=
  sampleShadow_kept (jobCount_kept (jobCount_kept hk))

/-! ## Machine/SasOps.lean -/

theorem clearPoison_kept {n ph} (hk : Kept d₀ d) : Kept d₀ (clearPoison d n ph) := .stacks hk List.length_set

theorem dropUnitSlot_kept {f} (hk : Kept d₀ d) : Kept d₀ (dropUnitSlot d f) := by
  unfold dropUnitSlot
  split
  · exact hk
  · split
    · exact hk
    · exact .record hk

theorem mapStack_kept {f} (hk : Kept d₀ d) (he : mapStack d f = some e) : Kept d₀ e := by
  unfold mapStack at he
  split at he
  · cases he
  · cases he
    exact .record (clearPoison_kept (dropUnitSlot_kept (.ite hk (ctrInc_kept hk))))

theorem mapFrame_kept {f} (hk : Kept d₀ d) (he : mapFrame d f = some e) : Kept d₀ e := by
  unfold mapFrame at he
  split at he
  · exact mapStack_kept hk he
  · split at he
    · cases he; exact hk
    · split at he
      · cases he
      · obtain ⟨x, hx, rfl⟩ := Option.map_eq_some_iff.mp he
        exact ctrInc_kept (.record (mapStack_kept hk hx))

theorem mapAll_kept {fs} (hk : Kept d₀ d) (he : mapAll d fs = some e) : Kept d₀ e := by
  induction fs generalizing d with
  | nil => cases he; exact hk
  | cons f fs ih =>
    rw [mapAll] at he
    split at he
    · cases he
    · next hx => exact ih (mapFrame_kept hk hx) he

theorem unmapFrames_kept {owner fs} (hk : Kept d₀ d) : Kept d₀ (unmapFrames d owner fs) :=
  .ite hk (mirrorPush_kept (.record (.foldl (fun _ _ k => dropUnitSlot_kept k) hk)))

theorem sasMirror_kept {owner a bs} (hk : Kept d₀ d) : Kept d₀ (sasMirror d owner a bs) :=
  .ite (.foldl (fun _ _ k => mirrorPush_kept k) hk) hk

theorem unpoison_kept {a n} (hk : Kept d₀ d) : Kept d₀ (unpoison d a n) := .foldl (fun _ _ k => .stacks k List.length_set) hk

theorem workWrite_kept {o a bs} (hk : Kept d₀ d) (he : workWrite d o a bs = some e) : Kept d₀ e := by
  unfold workWrite at he
  split at he
  · cases he
  · next hx =>
    cases he
    exact sasMirror_kept (.record (unpoison_kept (mapAll_kept hk hx)))

theorem workFree_kept {owner a n} (hk : Kept d₀ d) : Kept d₀ (workFree d owner a n) := unmapFrames_kept hk

theorem setPoison_kept {a on} (hk : Kept d₀ d) : Kept d₀ (setPoison d a on) := by
  unfold setPoison
  split
  · exact hk
  · exact .stacks hk List.length_set

theorem mirrorDirs_kept {was k} (hk : Kept d₀ d) : Kept d₀ (mirrorDirs d was k) := by
  unfold mirrorDirs
  refine .ite hk ?_
  extract_lets d1
  have h1 : Kept d₀ d1 := sasMirror_kept hk
  exact .foldl (fun _ _ k => .ite (.ite k (sasMirror_kept k)) (sasMirror_kept (.ite k (sasMirror_kept k)))) h1

theorem setSkein_kept {k} (hk : Kept d₀ d) : Kept d₀ (setSkein d k) := mirrorDirs_kept (.record hk)

theorem unpoisonMeta_kept {k l p groups} (hk : Kept d₀ d) : Kept d₀ (unpoisonMeta d k l p groups) := by
  unfold unpoisonMeta
  extract_lets d1 d2
  have h1 : Kept d₀ d1 := unpoison_kept (unpoison_kept hk)
  have h2 : Kept d₀ d2 := .foldl (fun _ _ k => unpoison_kept k) h1
  exact .foldl (fun _ _ k => unpoison_kept k) h2

theorem mirrorRef_kept {k r b} (hk : Kept d₀ d) : Kept d₀ (mirrorRef d k r b) :=
  .foldl (fun _ _ k => sasMirror_kept k) (sasMirror_kept (sasMirror_kept hk))

theorem mirrorPage_kept {k r b groups} (hk : Kept d₀ d) : Kept d₀ (mirrorPage d k r b groups) :=
  .ite hk (.foldl (fun _ _ k => sasMirror_kept k) (mirrorRef_kept (.foldl (fun _ _ k => sasMirror_kept k) hk)))

theorem collect_kept (hk : Kept d₀ d) : Kept d₀ (collect d) := by
  unfold collect
  extract_lets _ d1 _ _ d2
  have h1 : Kept d₀ d1 := .record hk
  have h2 : Kept d₀ d2 := .foldl (fun _ _ k => unmapFrames_kept (.record k)) h1
  exact .foldl (fun _ _ k => .ite (.record (unmapFrames_kept k)) (unmapFrames_kept k)) h2

theorem placeRefused_kept (hk : Kept d₀ d) : Kept d₀ (placeRefused d).2 := ctrInc_kept hk

theorem storePage_kept {k p inStream thin r} (hk : Kept d₀ d) (he : storePage d k p inStream thin = .inr r) : Kept d₀ r.2 := by
  unfold storePage at he
  extract_lets at he
  dsimp only at he
  split at he
  · cases he
  · next hx =>
    cases he
    exact mirrorPage_kept (.record (unpoisonMeta_kept (.foldl (fun _ _ k => unpoison_kept k) (mapAll_kept hk hx))))

theorem placeEarly_kept {l fuel k} (hk : Kept d₀ d) : Kept d₀ (placeEarly l fuel k d).2 := by
  induction fuel generalizing k d with
  | zero => exact hk
  | succ fuel ih =>
    rw [placeEarly]
    split
    · exact hk
    · split
      · exact hk
      · next he => exact ih (storePage_kept hk he)

theorem resummarize_kept {k p} (hk : Kept d₀ d) : Kept d₀ (resummarize d k p).2 := jobDone_kept hk

theorem placePage_kept {k p summed} (hk : Kept d₀ d) : Kept d₀ (placePage d k p summed).2.2 := by
  unfold placePage
  refine .ite₃ hk (.ite₃ (placeRefused_kept hk) ?_)
  extract_lets _ finish _ k1
  have h_finish : ∀ {o cow}, (∀ r, o = .inr r → Kept d₀ (Prod.snd r)) → Kept d₀ (finish o cow).2.2 := by
    intro o cow ho
    unfold finish
    split
    · exact placeRefused_kept hk
    · exact faultOp_kept hk
    · exact placeEarly_kept (.ite (ctrInc_kept (ho _ rfl)) (ho _ rfl))
  have h_store {d k p b} (hk : Kept d₀ d) : ∀ r, storePage d k p b false = .inr r → Kept d₀ r.2 := fun _ he => storePage_kept hk he
  split
  · exact .ite₃ (h_finish (h_store hk)) (.ite₃ hk (h_finish (h_store hk)))
  · refine .ite₃ (h_finish (h_store hk)) (.ite₃ ?_ (h_finish (h_store hk)))
    split
    next he => exact h_finish (h_store (.snd (resummarize_kept hk) he))

theorem prefixInsert_kept {k block h} (hk : Kept d₀ d) : Kept d₀ (prefixInsert d k block h) := by
  unfold prefixInsert
  refine .ite hk ?_
  dsimp only
  split
  · exact ctrInc_kept hk
  · exact sasMirror_kept (.record hk)

theorem prefixRemove_kept {k} (hk : Kept d₀ d) : Kept d₀ (prefixRemove d k) := .foldl (fun _ _ k => sasMirror_kept k) (.record hk)

theorem prefixLookup_kept {k hs i} (hk : Kept d₀ d) : Kept d₀ (prefixLookup k hs i d).2 := by
  induction hs generalizing i with
  | nil => exact hk
  | cons h hs ih =>
    rw [prefixLookup]
    split
    · exact hk
    · split
      · exact detect_kept hk
      · split
        · exact hk
        · split
          · exact ctrInc_kept hk
          · exact ih

theorem freeSkein_kept {k} (hk : Kept d₀ d) : Kept d₀ (freeSkein d k) := by
  unfold freeSkein
  extract_lets d1 _ d2 d3 _ d4
  have h1 : Kept d₀ d1 := prefixRemove_kept hk
  have h2 : Kept d₀ d2 := .record h1
  have h3 : Kept d₀ d3 := sasMirror_kept h2
  have h4 : Kept d₀ d4 := .ite (ctrInc_kept (.record h3)) h3
  exact collect_kept h4

theorem onDevC_keeps {f : Dev → Dev} {s} (hf : ∀ {d₀ d}, Kept d₀ d → Kept d₀ (f d)) : Keeps s (onDevC f s) :=
  onDev_keeps fun hk => collect_kept (hf hk)

/-! ## Machine/WeftOps.lean -/

theorem pnWarning_kept {sa} (hk : Kept d₀ d) : Kept d₀ (pnWarning d sa) := .ite (detect_kept (.record hk)) hk

theorem takePn_kept {sa r} (hk : Kept d₀ d) (he : takePn d sa = some r) : Kept d₀ r.2 := by
  unfold takePn at he
  split at he
  · cases he
  · split at he
    · cases he; exact pnWarning_kept (usePn_kept hk)
    · cases he

theorem queueFrame_kept {p f} (hk : Kept d₀ d) : Kept d₀ (queueFrame d p f) := setPort_kept hk (portAt_shaped hk)

theorem sendPacket_kept {c path vc h pl size key dep ackAt} (hk : Kept d₀ d) :
    Kept d₀ (sendPacket d c path vc h pl size key dep ackAt) := by
  unfold sendPacket
  split
  · exact hk
  next he => exact ctrInc_kept (queueFrame_kept (takePn_kept hk he))

theorem respond_kept {c op msn arrival payload} (hk : Kept d₀ d) : Kept d₀ (respond d c op msn arrival payload) :=
  sendPacket_kept (.ite (ctrInc_kept hk) hk)

theorem setTracker_kept {t} (hk : Kept d₀ d) : Kept d₀ (setTracker d t) := .record hk

theorem dropTracker_kept {t} (hk : Kept d₀ d) : Kept d₀ (dropTracker d t) := .record hk

theorem markDone_kept {cn m} (hk : Kept d₀ d) : Kept d₀ (markDone d cn m) := by
  unfold markDone
  split
  · exact hk
  · exact setConn_kept hk

theorem wakeFlushes_kept {cn fuel} (hk : Kept d₀ d) : Kept d₀ (wakeFlushes cn fuel d) := by
  induction fuel generalizing d with
  | zero => exact hk
  | succ fuel ih =>
    rw [wakeFlushes]
    split
    · exact hk
    · split
      · exact hk
      · extract_lets _ d1 d2 d3
        have h2 : Kept d₀ d2 := markDone_kept (setConn_kept (dropTracker_kept hk))
        refine ih ?_
        unfold d3
        split
        · exact respond_kept h2
        · exact h2

theorem answerMsg_kept {t status done bad} (hk : Kept d₀ d) : Kept d₀ (answerMsg d t status done bad) := by
  unfold answerMsg
  extract_lets d1 d2
  have h1 : Kept d₀ d1 := dropTracker_kept hk
  have h2 : Kept d₀ d2 := .ite (markDone_kept h1) h1
  split
  · exact h2
  · exact wakeFlushes_kept (respond_kept (setConn_kept h2))

theorem svcAnswer_kept {frm kind status} (hk : Kept d₀ d) : Kept d₀ (svcAnswer d frm kind status) := by
  unfold svcAnswer
  split
  · exact hk
  · exact answerMsg_kept hk

/-! ## Machine/ReqOps.lean -/

theorem setReq_kept {r} (hk : Kept d₀ d) : Kept d₀ (setReq d r) := mirrorPush_kept (.record hk)

theorem addReq_kept {r} (hk : Kept d₀ d) : Kept d₀ (addReq d r) := mirrorPush_kept (.record hk)

theorem freeSpans_kept {owner b} (hk : Kept d₀ d) : Kept d₀ (freeSpans d owner b) := by
  unfold freeSpans
  split
  · exact hk
  · split
    · exact hk
    · exact workFree_kept (.record hk)

theorem freeReqNow_kept {r} (hk : Kept d₀ d) : Kept d₀ (freeReqNow d r) := by
  unfold freeReqNow
  extract_lets d1 d2 _ d3 _ d4 d5
  have h1 : Kept d₀ d1 := freeSpans_kept (freeSpans_kept hk)
  have h2 : Kept d₀ d2 := .ite h1 (workFree_kept h1)
  have h3 : Kept d₀ d3 := .record h2
  have h4 : Kept d₀ d4 := .ite h3 (.record h3)
  have h5 : Kept d₀ d5 := mirrorPush_kept h4
  exact .ite (ctrInc_kept (.record h5)) h5

theorem freeReq_kept {r} (hk : Kept d₀ d) : Kept d₀ (freeReq d r) := .ite (setReq_kept hk) (freeReqNow_kept hk)

theorem putEnd_kept {r bs} (hk : Kept d₀ d) : Kept d₀ (putEnd d r bs) := by
  unfold putEnd
  split
  · exact .ite (ringPut_kept hk) (ctrInc_kept hk)
  · exact ctrInc_kept hk

theorem sendEnd_kept {r bs} (hk : Kept d₀ d) : Kept d₀ (sendEnd d r bs).2 := by
  unfold sendEnd
  split
  · exact .ite₂ (postEntry_kept hk) (putEnd_kept hk)
  · exact putEnd_kept hk

theorem writeEnd_kept {r status cause cancelAck} (hk : Kept d₀ d) : Kept d₀ (writeEnd d r status cause cancelAck).2 :=
  .ite₂ hk (sendEnd_kept hk)

theorem sendEnds_kept (hk : Kept d₀ d) : Kept d₀ (sendEnds d) := .foldl (fun _ _ k => .ite k (setReq_kept (sendEnd_kept k))) hk

theorem freeWritten_kept (hk : Kept d₀ d) : Kept d₀ (freeWritten d) := .foldl (fun _ _ k => .ite k (freeReqNow_kept k)) hk

theorem ringsMoved_kept (hk : Kept d₀ d) : Kept d₀ (ringsMoved d) := freeWritten_kept (sendEnds_kept (releaseBehind_kept hk))

theorem settleSteps_kept {r} (hk : Kept d₀ d) : Kept d₀ (settleSteps d r).2 := .foldl (fun _ _ k => complete_kept k) hk

theorem sendAbort_kept {r} (hk : Kept d₀ d) : Kept d₀ (sendAbort d r) := sendSvc_kept hk

theorem endReq_kept {r status cause cancelAck} (hk : Kept d₀ d) : Kept d₀ (endReq d r status cause cancelAck).2 :=
  setReq_kept (settleSteps_kept (writeEnd_kept hk))

theorem endAbort_kept {r status cause cancelAck} (hk : Kept d₀ d) : Kept d₀ (endAbort d r status cause cancelAck) :=
  .ite (setReq_kept (endReq_kept hk)) (sendAbort_kept (endReq_kept hk))

theorem endFree_kept {r status} (hk : Kept d₀ d) : Kept d₀ (endFree d r status) := freeReq_kept (endReq_kept hk)

/-! ## Machine/BobOps.lean -/

theorem setTarget_kept {t x} (hk : Kept d₀ d) : Kept d₀ (setTarget d t x) := .record hk

theorem modBlock_kept {t lun blk f} (hk : Kept d₀ d) : Kept d₀ (modBlock d t lun blk f) := setTarget_kept hk

theorem setUnit_kept {u} (hk : Kept d₀ d) : Kept d₀ (setUnit d u) := .record hk

theorem pumpReads_kept (hk : Kept d₀ d) : Kept d₀ (pumpReads d) := .foldl (fun _ _ k => .ite k (.record k)) hk

theorem addRead_kept {unit cls deadline use} (hk : Kept d₀ d) : Kept d₀ (addRead d unit cls deadline use) :=
  .ite hk (pumpReads_kept (.record (.ite (ctrInc_kept hk) hk)))

theorem emitHeader_kept {t b} (hk : Kept d₀ d) : Kept d₀ (emitHeader d t b) := emit_kept hk

theorem nextPageOf_kept {t r} (hk : Kept d₀ d) (he : nextPageOf d t = some r) : Kept d₀ r.2.2.2 := by
  unfold nextPageOf at he
  extract_lets at he
  split at he
  · cases he
  · split at he
    · cases he; exact modBlock_kept hk
    · obtain ⟨b, _, rfl⟩ := Option.map_eq_some_iff.mp he
      exact modBlock_kept (emitHeader_kept hk)

theorem nextPlace_kept {fuel r} (hk : Kept d₀ d) (he : nextPlace d fuel = some r) : Kept d₀ r.2.2.2.2 := by
  induction fuel generalizing d with
  | zero => cases he
  | succ fuel ih =>
    rw [nextPlace] at he
    extract_lets at he
    split at he
    · next hx => cases he; exact nextPageOf_kept (.record hk) hx
    · exact ih (.record hk) he

theorem emitUnit_kept {u} (hk : Kept d₀ d) : Kept d₀ (emitUnit d u) := emit_kept hk

theorem programUnit_kept {key slots source r} (hk : Kept d₀ d) (he : programUnit d key slots source = some r) : Kept d₀ r.2 := by
  unfold programUnit at he
  split at he
  · cases he
  · next hx =>
    cases he
    exact emitUnit_kept (.record (nextPlace_kept hk hx))

theorem programUnits_kept {key ss r} (hk : Kept d₀ d) (he : programUnits key ss d = some r) : Kept d₀ r.2 := by
  induction ss generalizing d r with
  | nil => cases he; exact hk
  | cons s ss ih =>
    rw [programUnits] at he
    split at he
    · cases he
    · next hx =>
      obtain ⟨x, hy, rfl⟩ := Option.map_eq_some_iff.mp he
      exact ih (r := x) (programUnit_kept hk hx) hy

theorem dropEmptyUnits_kept (hk : Kept d₀ d) : Kept d₀ (dropEmptyUnits d) := .record hk

theorem startErases_kept (hk : Kept d₀ d) : Kept d₀ (startErases d) := .record hk

theorem pumpBob_kept (hk : Kept d₀ d) : Kept d₀ (pumpBob d) := by
  unfold pumpBob
  extract_lets d1 _ d2
  have h1 : Kept d₀ d1 := startErases_kept (dropEmptyUnits_kept hk)
  have h2 : Kept d₀ d2 := .ite (.record h1) h1
  exact pumpReads_kept h2

theorem doomBlock_kept {t lun blk byGc} (hk : Kept d₀ d) : Kept d₀ (doomBlock d t lun blk byGc) :=
  pumpBob_kept (.foldl (fun _ _ k => addRead_kept k) (modBlock_kept hk))

theorem relocBlock_kept {t lun blk ctr} (hk : Kept d₀ d) : Kept d₀ (relocBlock d t lun blk ctr) := by
  unfold relocBlock
  split
  · exact .ite (doomBlock_kept (ctrInc_kept hk)) hk
  · exact hk

theorem promoteFrame_kept {f op walk cls deadline} (hk : Kept d₀ d) : Kept d₀ (promoteFrame d f op walk cls deadline).2 := by
  unfold promoteFrame
  split
  · exact hk
  · split
    · exact hk
    · split
      · exact hk
      · exact .ite (.ite hk (.record hk)) (addRead_kept (.ite hk (.record hk)))

theorem promoteAll_kept {fs op walk cls dl} (hk : Kept d₀ d) : Kept d₀ (promoteAll fs op walk cls dl d).2 :=
  .foldl₂ (fun r _ k => by
    split
    · exact k
    · exact promoteFrame_kept k) hk

theorem startWalk_kept {slot l} (hk : Kept d₀ d) : Kept d₀ (startWalk d slot l) := by
  unfold startWalk
  split
  · exact hk
  · exact .ite hk (.foldl (fun _ _ k => promoteFrame_kept k) (ctrInc_kept (setSkein_kept hk)))

theorem jobWalks_kept {k l} (hk : Kept d₀ d) : Kept d₀ (jobWalks d k l) := by
  unfold jobWalks
  extract_lets _ d1
  have h1 : Kept d₀ d1 := .foldl (fun _ _ k => startWalk_kept k) hk
  exact .ite h1 (startWalk_kept h1)

theorem countWait_kept {c} (hk : Kept d₀ d) : Kept d₀ (countWait d c) := ctrInc_kept hk

/-! ## Machine/GenOps.lean -/

theorem peerSlot_kept {f} (hk : Kept d₀ d) : Kept d₀ (peerSlot d f).2 := by
  unfold peerSlot
  refine .ite₂ (.ite (.record hk) hk) ?_
  dsimp only
  split
  · exact .ite (.record hk) hk
  · exact .ite₂ (.ite (.record hk) hk) (.record (.ite (.record hk) hk))

theorem peerCount_kept {f g} (hk : Kept d₀ d) : Kept d₀ (peerCount d f g) := .record (peerSlot_kept hk)

theorem barrierDone_kept {senders window} (hk : Kept d₀ d) : Kept d₀ (barrierDone d senders window) := by
  unfold barrierDone
  extract_lets d1
  have h1 : Kept d₀ d1 := by
    unfold d1
    split
    · exact peerCount_kept hk
    · exact hk
  exact .foldl (fun _ _ k => peerCount_kept k) h1

theorem stepInput_kept {r step f} (hk : Kept d₀ d) : Kept d₀ (stepInput d r step f).2 := .ite₂ (barrierDone_kept hk) hk

theorem appendFault_kept {r} (hk : Kept d₀ d) : Kept d₀ (appendFault d r) := faultOp_kept hk

theorem sendRelease_kept {r} (hk : Kept d₀ d) : Kept d₀ (sendRelease d r) := sendSvc_kept (setReq_kept hk)

theorem shipNext_kept {r} (hk : Kept d₀ d) : Kept d₀ (shipNext d r) := by
  unfold shipNext
  refine .ite (setReq_kept hk) (.ite (.ite (setReq_kept ?_) ?_) (.ite (sendRelease_kept hk) (setReq_kept hk)))
  · dsimp only
    split
    · exact .ite (sendSvc_kept hk) (postEntry_kept (sendSvc_kept hk))
    · exact sendSvc_kept hk
  · exact .ite (sendRelease_kept (appendFault_kept hk)) (setReq_kept (appendFault_kept hk))

theorem dropOldest_kept {r} (hk : Kept d₀ d) : Kept d₀ (dropOldest d r).2 := unmapFrames_kept hk

theorem appendDone_kept {r ok} (hk : Kept d₀ d) : Kept d₀ (appendDone d r ok) := by
  unfold appendDone
  split
  · exact hk
  · exact .ite (shipNext_kept (dropOldest_kept hk)) (.ite (setReq_kept hk) (shipNext_kept (.ite hk (appendFault_kept hk))))

theorem genEnd_kept {r status cause ack} (hk : Kept d₀ d) : Kept d₀ (genEnd d r status cause ack) :=
  .ite (sendAbort_kept (endReq_kept hk)) (shipNext_kept (endReq_kept hk))

theorem genFault_kept {r fc status} (hk : Kept d₀ d) : Kept d₀ (genFault d r fc status) := genEnd_kept (faultOp_kept hk)

theorem commitToken_kept {r tok stamp first} (hk : Kept d₀ d) : Kept d₀ (commitToken d r tok stamp first) := by
  unfold commitToken
  extract_lets _ _ _ _ _ _ _ _ met _ _ _ _ _ _ d1 d2 _ d3 d4
  have h1 : Kept d₀ d1 := .ite (ctrInc_kept hk) hk
  have h2 : Kept d₀ d2 := .ite (ctrInc_kept h1) h1
  have h4 : Kept d₀ d4 := setReq_kept (ctrInc_kept (.record h2))
  clear_value met
  split
  extract_lets _ d5
  have h5 : Kept d₀ d5 := by
    unfold d5
    split
    · exact .ite (ringPut_kept h4) (ctrInc_kept h4)
    · exact ctrInc_kept h4
  split
  · exact genEnd_kept (.ite h5 (ctrInc_kept h5))
  · exact .ite (genEnd_kept h5) (.ite (genFault_kept h5) (.ite (shipNext_kept h5) (setReq_kept h5)))

theorem genReady_kept {r} (hk : Kept d₀ d) : Kept d₀ (genReady d r) := .ite (barrierDone_kept (setReq_kept hk)) (setReq_kept hk)

theorem genFlushed_kept {r frm} (hk : Kept d₀ d) : Kept d₀ (genFlushed d r frm) := .ite hk (genReady_kept hk)

theorem peerFlushed_kept {frm} (hk : Kept d₀ d) : Kept d₀ (peerFlushed d frm) := by
  unfold peerFlushed
  refine .foldl (fun _ _ k => ?_) hk
  split
  · exact genFlushed_kept k
  · exact k

theorem flushesEnded_kept {was : Dev} (hk : Kept d₀ d) : Kept d₀ (flushesEnded was d) := by
  unfold flushesEnded
  refine .foldl (fun _ _ k => ?_) hk
  split
  · exact .ite k (peerFlushed_kept k)
  · exact k

theorem genAcked_kept {r} (hk : Kept d₀ d) : Kept d₀ (genAcked d r) := by
  unfold genAcked
  extract_lets _ d1 d2 d3
  have h1 : Kept d₀ d1 := setReq_kept hk
  have h2 : Kept d₀ d2 := commitToken_kept h1
  have h3 : Kept d₀ d3 := by
    unfold d3
    split
    · exact .ite (genEnd_kept h2) (.ite (genEnd_kept h2) (.ite (genFault_kept h2) (genReady_kept h2)))
    · exact h2
  exact h3

theorem genNakd_kept {r failed} (hk : Kept d₀ d) : Kept d₀ (genNakd d r failed) := freeReqNow_kept (.ite (faultWrite_kept hk) hk)

/-! ## Machine/PageOps.lean -/

theorem countCoded_kept {bs} (hk : Kept d₀ d) : Kept d₀ (countCoded d bs) :=
  .foldl (fun _ _ k => .ite (ctrInc_kept (ctrAdd_kept k)) (ctrInc_kept (ctrInc_kept (ctrAdd_kept k)))) hk

theorem countExpanded_kept {bs} (hk : Kept d₀ d) : Kept d₀ (countExpanded d bs) := .foldl (fun _ _ k => ctrInc_kept k) hk

theorem decodeError_kept {ref fc addr kind} (hk : Kept d₀ d) : Kept d₀ (decodeError d ref fc addr kind) :=
  ctrInc_kept (faultOp_kept (.record hk))

theorem lookGroup_kept {a} (hk : Kept d₀ d) : Kept d₀ (lookGroup d a) :=
  .ite (ctrInc_kept hk) (.ite (ctrInc_kept (.record hk)) (ctrInc_kept (.record (freeNext_kept hk))))

theorem shuttleBytes_kept {stored out} (hk : Kept d₀ d) : Kept d₀ (shuttleBytes d stored out) := ctrAdd_kept (ctrAdd_kept hk)

theorem shuttleBody_kept {b out} (hk : Kept d₀ d) : Kept d₀ (shuttleBody d b out) :=
  shuttleBytes_kept (.foldl (fun _ _ k => lookGroup_kept k) hk)

theorem expandBody_kept {s b} (hk : Kept d₀ d) : Kept d₀ (expandBody d s b).2 := by
  unfold expandBody
  refine .ite₂ ?_ (countExpanded_kept hk)
  dsimp only
  split
  · split
    · exact ctrAdd_kept (countExpanded_kept hk)
    · exact countExpanded_kept hk
  · exact countExpanded_kept hk

theorem readBody_kept {s b} (hk : Kept d₀ d) : Kept d₀ (readBody d s b).2 := shuttleBody_kept (expandBody_kept hk)

theorem travelPart_kept {k r} (hk : Kept d₀ d) : Kept d₀ (travelPart d k r).2 := by
  unfold travelPart
  split
  · exact hk
  · refine .ite₂ ?_ ?_
    · dsimp only
      split
      · exact readBody_kept hk
      · exact countCoded_kept (readBody_kept hk)
    · split
      · exact hk
      · exact shuttleBody_kept hk

theorem travelParts_kept {k ref rs} (hk : Kept d₀ d) : Kept d₀ (travelParts d k ref rs).2 := by
  induction rs generalizing d with
  | nil => exact hk
  | cons r rs ih =>
    rw [travelParts]
    dsimp only
    split
    · exact ih (travelPart_kept hk)
    · exact ih (decodeError_kept (travelPart_kept hk))

theorem execBlockCompress_keeps {fmt bytes bypass} {s : State} : Keeps s (execBlockCompress fmt bytes bypass s) :=
  onDev_keeps fun hk => .ite hk (emit_kept (countCoded_kept hk))

theorem execBlockExpand_keeps {addr fmt thinned b waited empty} {s : State} : Keeps s (execBlockExpand addr fmt thinned b waited empty s) :=
  onDev_keeps fun hk => by
    refine .ite (decodeError_kept (ctrAdd_kept (ctrAdd_kept hk))) (.ite ?_ ?_)
    · refine .ite (decodeError_kept (ctrAdd_kept (ctrAdd_kept hk))) ?_
      dsimp only
      split
      · exact emit_kept (ctrAdd_kept (ctrAdd_kept (ctrAdd_kept hk)))
      · exact decodeError_kept (ctrAdd_kept (ctrAdd_kept hk))
    · dsimp only
      split
      · exact emit_kept (countExpanded_kept (ctrAdd_kept (ctrAdd_kept hk)))
      · exact decodeError_kept (ctrAdd_kept (ctrAdd_kept hk))

/-! ## Machine/StkOps.lean -/

theorem setStack_kept {n u} (hk : Kept d₀ d) : Kept d₀ (setStack d n u) := .stacks hk List.length_set

theorem dieCheck_kept {n die} (hk : Kept d₀ d) : Kept d₀ (dieCheck d n die) := .ite (detect_kept (setStack_kept hk)) hk

theorem dieCorrected_kept {n die} (hk : Kept d₀ d) : Kept d₀ (dieCorrected d n die) := dieCheck_kept (ctrInc_kept hk)

theorem lineUncorrectable_kept {n phys line syms} (hk : Kept d₀ d) : Kept d₀ (lineUncorrectable d n phys line syms) :=
  ctrInc_kept (setStack_kept hk)

theorem pokeLine_kept {a bs} (hk : Kept d₀ d) : Kept d₀ (pokeLine d a bs) := .record hk

theorem readLine_kept {n phys line errs} (hk : Kept d₀ d) : Kept d₀ (readLine d n phys line errs).2 := by
  unfold readLine
  refine .ite₂ (ctrInc_kept hk) ?_
  extract_lets
  refine .ite₂ hk (.ite₂ ?_ (.ite₂ (lineUncorrectable_kept hk)
    (.ite₂ (lineUncorrectable_kept (freeNext_kept hk)) (ctrInc_kept (freeNext_kept hk)))))
  split
  · exact dieCorrected_kept (ctrInc_kept hk)
  · exact ctrInc_kept hk

theorem readSasLine_kept {frame line errs} (hk : Kept d₀ d) : Kept d₀ (readSasLine d frame line errs).2 := by
  unfold readSasLine
  dsimp only
  split
  · exact hk
  · split
    · exact pokeLine_kept (readLine_kept hk)
    · exact readLine_kept hk

theorem readLines_kept {found} (hk : Kept d₀ d) : Kept d₀ (readLines found d).2 := .foldl₂ (fun _ _ k => readSasLine_kept k) hk

theorem poisonRead_kept {a n} (hk : Kept d₀ d) : Kept d₀ (poisonRead d a n).2 := by
  unfold poisonRead
  split
  · exact hk
  · exact ctrInc_kept hk

theorem readRanges_kept {found rs} (hk : Kept d₀ d) : Kept d₀ (readRanges found rs d).2 := by
  induction rs generalizing d with
  | nil => exact hk
  | cons a rs ih =>
    rw [readRanges]
    have h1 {l} : Kept d₀ (if (poisonRead d a.1 a.2).1 then poisonRead d a.1 a.2 else readLines l (poisonRead d a.1 a.2).2).2 :=
      .ite₂ (poisonRead_kept hk) (readLines_kept (poisonRead_kept hk))
    exact .ite₂ h1 (ih h1)

theorem poisonBody_kept {b} (hk : Kept d₀ d) : Kept d₀ (poisonBody d b).2 := .foldl₂ (fun _ _ k => .ite₂ k (poisonRead_kept k)) hk

theorem scaleStk_kept {num den} (hk : Kept d₀ d) : Kept d₀ (scaleStk d num den) := .record hk

theorem reportOver_kept {l t kind subject cause always} (hk : Kept d₀ d) : Kept d₀ (reportOver d l t kind subject cause always) :=
  .ite hk (detect_kept hk)

theorem stkLoss_kept {n} (hk : Kept d₀ d) : Kept d₀ (stkLoss d n) := reportOver_kept hk

theorem tempRead_kept {id th t} (hk : Kept d₀ d) : Kept d₀ (tempRead d id th t) := .ite hk (pldmChange_kept (.record hk))

/-! ## Machine/Prompt.lean -/

theorem dropView_kept {r} (hk : Kept d₀ d) : Kept d₀ (dropView d r).2 := freeSpans_kept hk

theorem promptEnd_kept {r status cause ack} (hk : Kept d₀ d) : Kept d₀ (promptEnd d r status cause ack) :=
  endAbort_kept (dropView_kept hk)

theorem promptEndFault_kept {r fc status ack} (hk : Kept d₀ d) : Kept d₀ (promptEndFault d r fc status ack) :=
  promptEnd_kept (faultOp_kept hk)

theorem shippingSettle_kept {r} (hk : Kept d₀ d) : Kept d₀ (shippingSettle d r) := .ite (freeReqNow_kept (.record hk)) (setReq_kept hk)

theorem shipFail_kept {i} (hk : Kept d₀ d) : Kept d₀ (shipFail d i) := by
  unfold shipFail
  split
  · exact hk
  · exact .ite hk (.ite (promptEndFault_kept hk) (.ite (shippingSettle_kept (sendSvc_kept (sendAbort_kept (faultOp_kept hk)))) hk))

theorem homeWindowEnd_kept {k ok} (hk : Kept d₀ d) : Kept d₀ (homeWindowEnd d k ok) :=
  .ite hk (.ite (setSkein_kept hk) (sendSvc_kept (faultOp_kept (setSkein_kept hk))))

theorem windowFail_kept {i} (hk : Kept d₀ d) : Kept d₀ (windowFail d i) := by
  unfold windowFail
  split
  · exact hk
  · exact .ite hk (shippingSettle_kept (sendSvc_kept (faultOp_kept hk)))

theorem handoffFail_kept {i} (hk : Kept d₀ d) : Kept d₀ (handoffFail d i) := by
  unfold handoffFail
  split
  · exact .ite (promptEndFault_kept hk) hk
  · exact hk

theorem lookupFail_kept {i status} (hk : Kept d₀ d) : Kept d₀ (lookupFail d i status) := by
  unfold lookupFail
  split
  · exact .ite (promptEnd_kept hk) hk
  · exact hk

theorem execOpenReq_keeps {lane seq slot} {s : State} : Keeps s (execOpenReq lane seq slot s) :=
  onTaken_keeps fun {d₀} {_} {_} hk => by
    extract_lets _ _ _ d1 _ d2
    have h2 : Kept d₀ d2 := addReq_kept (.record (dropTaken_kept hk))
    split
    · exact refuseTaken_kept hk
    · split
      · exact refuseTaken_kept hk
      · exact .ite (ctrInc_kept (refuseTaken_kept hk)) (.ite hk (.ite (sendSvc_kept h2) (endFree_kept (sendSvc_kept h2))))

theorem trySendLookup_kept {r} (hk : Kept d₀ d) : Kept d₀ (trySendLookup d r) :=
  .ite (.ite (sendSvc_kept (setReq_kept hk)) (promptEnd_kept hk)) (setReq_kept hk)

theorem execSkeinOpenReply_keeps {frm req status skein} {s : State} : Keeps s (execSkeinOpenReply frm req status skein s) :=
  onDev_keeps fun {d₀} {_} hk => by
    extract_lets d1
    have h1 : Kept d₀ d1 := .ite (sendSvc_kept hk) hk
    split
    · exact h1
    · refine .ite h1 (.ite (.ite (trySendLookup_kept hk) (endFree_kept hk)) (.ite ?_ h1))
      exact .ite (sendAbort_kept (setReq_kept hk)) (freeReq_kept hk)

theorem execSkeinOpenTimeout_keeps {req} {s : State} : Keeps s (execSkeinOpenTimeout req s) :=
  onDev_keeps fun hk => by
    split
    · exact hk
    · exact .ite hk (.ite (endFree_kept (faultOp_kept hk)) (.ite (freeReq_kept (faultOp_kept hk)) hk))

theorem hashAgain_kept {i} (hk : Kept d₀ d) : Kept d₀ (hashAgain d i) := .record hk

theorem execHashBlockDone_keeps {req tokens} {s : State} : Keeps s (execHashBlockDone req tokens s) :=
  onDev_keeps fun hk => by
    split
    · exact hk
    · refine .ite hk (.ite (promptEndFault_kept (.ite₂ (readRanges_kept hk) hk)) ?_)
      dsimp only
      split
      · exact promptEnd_kept (faultOp_kept (ctrInc_kept (.ite₂ (readRanges_kept hk) hk)))
      · exact .ite (.ite₂ (readRanges_kept hk) hk) (trySendLookup_kept (hashAgain_kept (.ite₂ (readRanges_kept hk) hk)))

theorem execLookupReply_keeps {frm req status pages span} {s : State} : Keeps s (execLookupReply frm req status pages span s) :=
  onDev_keeps fun {d₀} {_} hk => by
    split
    · exact hk
    · refine .ite hk (.ite (promptEnd_kept hk) ?_)
      extract_lets _ ready
      have h_ready {x y1} (k : Kept d₀ x) : Kept d₀ (ready x y1) := complete_kept (setReq_kept k)
      exact .ite (h_ready hk) (.ite (promptEnd_kept (.ite (placeRefused_kept hk) hk)) (.ite hk (sendSvc_kept (h_ready (.record hk)))))

theorem viewPage_kept {r base p} (hk : Kept d₀ d) : Kept d₀ (viewPage d r base p) := by
  unfold viewPage
  extract_lets _ _ d1 d2 d3
  have h2 : Kept d₀ d2 := shuttleBytes_kept (countExpanded_kept hk)
  have h3 : Kept d₀ d3 := by
    unfold d3
    split
    · exact decodeError_kept h2
    · exact h2
  split
  · exact placeRefused_kept h3
  · next he =>
    split
    · exact workWrite_kept h3 he
    · exact .foldl (fun _ _ k => setPoison_kept k) (workWrite_kept h3 he)

theorem takePage_kept {r l p tokens found} (hk : Kept d₀ d) : Kept d₀ (takePage d r l p tokens found) := by
  unfold takePage
  extract_lets a
  split
  next bad d1 he =>
    have h1 : Kept d₀ d1 := .snd (readRanges_kept hk) he
    refine .ite (promptEndFault_kept h1) ?_
    extract_lets _ _ _ _ d2 d3
    have h2 : Kept d₀ d2 := unmapFrames_kept (jobDone_kept (countCoded_kept h1))
    have h3 : Kept d₀ d3 := .getD (fun _ he => workWrite_kept h2 he) h2
    exact .ite (sendSvc_kept (setReq_kept h3)) (shipFail_kept (sendSvc_kept (setReq_kept h3)))

theorem execLandingPageTaken_keeps {req layer page} {s : State} : Keeps s (execLandingPageTaken req layer page s) :=
  onDev_keeps fun hk => by
    split
    · exact hk
    · exact .ite (takePage_kept hk) hk

theorem takeRest_kept {i found} (hk : Kept d₀ d) : Kept d₀ (takeRest d i found) := by
  unfold takeRest
  split
  · exact hk
  · extract_lets _ _ go d1
    have h_go {x y1 y2 y3} (k : Kept d₀ x) : Kept d₀ (go x y1 y2 y3) := by
      unfold go
      split
      · exact .ite (takePage_kept k) k
      · exact k
    have h1 : Kept d₀ d1 := .foldl (fun _ _ k => h_go k) hk
    exact .foldl (fun _ _ k => h_go k) h1

theorem postFlush_kept {peer use} (hk : Kept d₀ d) : Kept d₀ (postFlush d peer use) := by
  unfold postFlush
  refine .ite hk ?_
  split
  · exact postEntry_kept hk
  · exact hk

theorem execPrefillDone_keeps {lane seq tail} {s : State} : Keeps s (execPrefillDone lane seq tail s) :=
  onTaken_keeps fun {d₀} {d} {t} hk => by
    extract_lets entry own
    clear_value own entry
    split
    · exact refuseTaken_kept hk
    · split
      · exact refuseTaken_kept hk
      · refine .ite (refuseTaken_kept hk) ?_
        extract_lets _ _ failed
        have h_failed {x c st} (k : Kept d₀ x) : Kept d₀ (failed x c st) :=
          promptEnd_kept (complete_kept (faultOp_kept (dropTaken_kept k)))
        split
        next bad d1 he =>
          have h1 : Kept d₀ d1 := .snd (.ite₂ (readRanges_kept hk) hk) he
          extract_lets d2
          have h2 : Kept d₀ d2 := finishOp_kept (dropTaken_kept h1)
          refine .ite (h_failed h1) ?_
          split
          · exact h_failed (ctrInc_kept h1)
          · refine .ite h1 ?_
            extract_lets d3 d4
            have h4 : Kept d₀ d4 := takeRest_kept (setReq_kept h2)
            split
            · exact h4
            · refine .ite h4 ?_
              split
              next r d5 he =>
                have h5 {r n u} : Kept d₀ (postFlush (setReq d5 r) n u) := postFlush_kept (setReq_kept (.snd (dropView_kept h4) he))
                exact .ite (sendSvc_kept h5) (handoffFail_kept (sendSvc_kept h5))

theorem handoffTaken_kept {r} (hk : Kept d₀ d) : Kept d₀ (handoffTaken d r) :=
  .ite (postFlush_kept (sendSvc_kept (setReq_kept hk))) (windowFail_kept (sendSvc_kept (setReq_kept hk)))

theorem execHandoffReply_keeps {frm req status} {s : State} : Keeps s (execHandoffReply frm req status s) :=
  onDev_keeps fun {d₀} {_} hk => by
    extract_lets answer
    have h_answer {x y} (hx : Kept d₀ x) : Kept d₀ (answer x y) := by
      unfold answer
      refine .ite ?_ (svcAnswer_kept hx)
      split
      · exact .ite hx (.ite (genAcked_kept hx) (genNakd_kept hx))
      · exact hx
    split
    · exact h_answer hk
    · have h1 {r y} := h_answer (y := y) (handoffTaken_kept (r := r) hk)
      refine .ite (h_answer hk) (.ite (h_answer hk) (.ite ?_ (h_answer (promptEndFault_kept hk))))
      exact .ite (sendSvc_kept h1) h1

theorem execHandoffTimeout_keeps {req} {s : State} : Keeps s (execHandoffTimeout req s) :=
  onDev_keeps fun hk => by
    split
    · exact .ite (handoffFail_kept hk) hk
    · exact hk

theorem shipmentDone_kept {i window ok} (hk : Kept d₀ d) : Kept d₀ (shipmentDone d i window ok) := by
  unfold shipmentDone
  split
  · exact hk
  · refine .ite (.ite hk (.ite (shippingSettle_kept hk) (windowFail_kept hk))) (.ite hk (.ite ?_ (shipFail_kept (setReq_kept hk))))
    exact .ite (sendSvc_kept (setReq_kept hk)) (shipFail_kept (sendSvc_kept (setReq_kept hk)))

theorem execShipmentFlushDone_keeps {req window ok} {s : State} : Keeps s (execShipmentFlushDone req window ok s) :=
  onDev_keeps fun hk => by
    refine .ite hk (.ite (shipmentDone_kept hk) (.ite ?_ ?_))
    · split
      · refine genFlushed_kept ?_
        split
        · exact homeWindowEnd_kept (shipmentDone_kept hk)
        · exact shipmentDone_kept hk
      · split
        · exact homeWindowEnd_kept (shipmentDone_kept hk)
        · exact shipmentDone_kept hk
    · split
      · exact homeWindowEnd_kept (shipmentDone_kept hk)
      · exact shipmentDone_kept hk

theorem execStateReply_keeps {frm req kind status} {s : State} : Keeps s (execStateReply frm req kind status s) :=
  onDev_keeps fun hk => by
    refine .ite ?_ ?_
    · split
      · exact .ite hk (.ite (.ite (shippingSettle_kept hk) hk) (shipFail_kept hk))
      · exact hk
    · split
      · exact freeReq_kept hk
      · exact hk

theorem execEndingTimeout_keeps {req} {s : State} : Keeps s (execEndingTimeout req s) :=
  onDev_keeps fun hk => by
    split
    · exact .ite (freeReq_kept (faultOp_kept hk)) hk
    · exact hk

theorem genCancel_kept {r} (hk : Kept d₀ d) : Kept d₀ (genCancel d r) := by
  unfold genCancel
  split
  · exact genEnd_kept hk
  · exact .ite (genEnd_kept hk) (setReq_kept hk)
  · exact setReq_kept hk
  · exact hk

theorem cancelSettle_kept {i} (hk : Kept d₀ d) : Kept d₀ (cancelSettle d i) := by
  unfold cancelSettle
  split
  · exact .ite (genEnd_kept hk) hk
  · exact hk

theorem execCancel_keeps {lane seq} {s : State} : Keeps s (execCancel lane seq s) :=
  onTaken_keeps fun {d₀} {d} {_} hk => by
    extract_lets found _ forward
    have h_forward {g} : Kept d₀ (forward g) :=
      .ite (refuseTaken_kept hk) (.ite (sendSvcFor_kept (dropTaken_kept hk)) (refuseTaken_kept hk))
    clear_value found
    split
    · exact refuseTaken_kept hk
    · refine .ite hk ?_
      split
      · split
        · exact hk
        · exact refuseTaken_kept hk
        · exact genCancel_kept (dropTaken_kept hk)
      · split
        · exact promptEnd_kept (dropTaken_kept hk)
        · exact promptEnd_kept (dropTaken_kept hk)
        · exact setReq_kept (dropTaken_kept hk)
        · exact h_forward
        · exact refuseTaken_kept hk
        · exact refuseTaken_kept hk
      · exact h_forward
      · exact refuseTaken_kept hk

theorem execSvcCancel_keeps {frm req} {s : State} : Keeps s (execSvcCancel frm req s) :=
  onDev_keeps fun hk => by
    split
    · exact .ite (genCancel_kept hk) hk
    · exact hk

/-! ## Machine/Serving.lean -/

theorem execHandoff_keeps {frm m slot span} {s : State} : Keeps s (execHandoff frm m slot span s) :=
  onDev_keeps fun {d₀} {_} hk => by
    split
    · exact sendSvc_kept (.ite (ctrInc_kept hk) (.ite (placeRefused_kept hk) hk))
    · extract_lets
      exact .ite hk (.ite (sendSvc_kept (addReq_kept (.record hk))) (genNakd_kept (sendSvc_kept (addReq_kept (.record hk)))))

theorem windowPage_kept {r p} (hk : Kept d₀ d) (he : windowPage d r p = some e) : Kept d₀ e := by
  unfold windowPage at he
  extract_lets _ _ d1 d2 d3 at he
  have h2 : Kept d₀ d2 := shuttleBytes_kept (countExpanded_kept hk)
  have h3 : Kept d₀ d3 := by
    unfold d3
    split
    · exact decodeError_kept h2
    · exact h2
  obtain ⟨x, hx, rfl⟩ := Option.map_eq_some_iff.mp he
  split
  · exact .foldl (fun _ _ k => setPoison_kept k) (workWrite_kept h3 hx)
  · exact workWrite_kept h3 hx

theorem windowPages_kept {r ps} (hk : Kept d₀ d) (he : windowPages r ps d = some e) : Kept d₀ e := by
  induction ps generalizing d with
  | nil => cases he; exact hk
  | cons p ps ih =>
    rw [windowPages] at he
    split at he
    · cases he
    · next hx => exact ih (windowPage_kept hk hx) he

theorem windowAnswer_kept {frm req pages status} (hk : Kept d₀ d) : Kept d₀ (windowAnswer d frm req pages status) := by
  unfold windowAnswer
  refine .ite (.ite hk ?_) (flushesEnded_kept (svcAnswer_kept hk))
  split
  · exact homeWindowEnd_kept hk
  · exact windowFail_kept hk

theorem execWindow_keeps {frm req pages last} {s : State} : Keeps s (execWindow frm req pages last s) :=
  onDev_keeps fun hk => by
    dsimp only
    split
    · exact windowAnswer_kept (shipped_kept hk)
    · refine .ite (windowAnswer_kept (shipped_kept hk)) (.ite (windowAnswer_kept (placeRefused_kept (shipped_kept hk))) ?_)
      split
      · exact windowAnswer_kept (placeRefused_kept (shipped_kept hk))
      · next he =>
        have h1 := windowPages_kept (shipped_kept hk) he
        exact windowAnswer_kept (.ite (setReq_kept h1) h1)

theorem execSealed_keeps {frm req skein splitPage} {s : State} : Keeps s (execSealed frm req skein splitPage s) :=
  onDev_keeps fun hk => by
    split
    · exact hk
    · exact .ite hk (.ite (genReady_kept hk) hk)

theorem execReqAbort_keeps {_frm req _skein cause} {s : State} : Keeps s (execReqAbort _frm req _skein cause s) :=
  onDev_keeps fun hk => by
    split
    · exact hk
    · refine .ite hk ?_
      split
      · exact genFault_kept hk
      · exact genFault_kept hk
      · exact setReq_kept hk
      · exact hk

theorem execStep_keeps {lane seq} {s : State} : Keeps s (execStep lane seq s) :=
  onTaken_keeps fun hk => by
    dsimp only
    split
    · exact cancelSettle_kept (refuseTaken_kept hk)
    · split
      · split
        · exact hk
        · exact refuseTaken_kept hk
        · exact .ite hk (.ite (refuseTaken_kept hk) (.ite (cancelSettle_kept (refuseTaken_kept hk))
            (.ite (cancelSettle_kept (refuseTaken_kept hk)) (setReq_kept (stepInput_kept (dropTaken_kept hk))))))
        · exact refuseTaken_kept hk
      · exact refuseTaken_kept hk
      · exact refuseTaken_kept hk

theorem execStepCommit_keeps {req} {s : State} : Keeps s (execStepCommit req s) :=
  onDev_keeps fun hk => by
    split
    · exact hk
    · split
      · exact finishOp_kept (commitToken_kept hk)
      · exact hk

theorem stopSetFinish_kept {t data} (hk : Kept d₀ d) : Kept d₀ (stopSetFinish d t data) := by
  unfold stopSetFinish
  refine .ite (refuseTaken_kept hk) ?_
  dsimp only
  split
  · exact .ite (finishOp_kept (.record (dropTaken_kept hk))) (refuseTaken_kept hk)
  · exact refuseTaken_kept (faultOp_kept (ctrInc_kept hk))

theorem execStopSetDefine_keeps {lane seq} {s : State} : Keeps s (execStopSetDefine lane seq s) :=
  onTaken_keeps fun {d₀} {_} {_} hk => by
    split
    · exact refuseTaken_kept hk
    · extract_lets
      refine .ite (.ite (refuseTaken_kept hk) ?_) (.ite hk (.ite (stopSetFinish_kept hk) (hostRead_kept hk)))
      exact .ite (refuseTaken_kept (faultOp_kept (readRanges_kept hk))) (stopSetFinish_kept (readRanges_kept hk))

theorem execStopSetDelete_keeps {lane seq} {s : State} : Keeps s (execStopSetDelete lane seq s) :=
  onTaken_keeps fun hk => by
    split
    · exact refuseTaken_kept hk
    · exact .ite (refuseTaken_kept hk) (finishOp_kept (.record (dropTaken_kept hk)))

theorem forwardQuery_kept {r t q} (hk : Kept d₀ d) : Kept d₀ (forwardQuery d r t q) := by
  unfold forwardQuery
  extract_lets _ _ d1
  have h1 : Kept d₀ d1 := .record hk
  exact .ite (finishOp_kept (dropTaken_kept (sendSvcFor_kept h1))) (setReq_kept (dropTaken_kept (sendSvcFor_kept h1)))

theorem execQuery_keeps {lane seq data} {s : State} : Keeps s (execQuery lane seq data s) :=
  onTaken_keeps fun hk => by
    dsimp only
    refine .ite (refuseTaken_kept hk) ?_
    split
    · exact refuseTaken_kept hk
    · split
      · split
        · exact hk
        · exact hk
        · exact refuseTaken_kept hk
        · refine .ite (refuseTaken_kept hk) (.ite (.ite (refuseTaken_kept hk) (.ite (refuseTaken_kept (faultOp_kept (readRanges_kept hk)))
            (forwardQuery_kept (readRanges_kept hk)))) ?_)
          split
          · exact refuseTaken_kept (faultOp_kept (ctrInc_kept hk))
          · exact .ite (forwardQuery_kept hk) hk
        · exact refuseTaken_kept hk
      · exact refuseTaken_kept hk
      · exact refuseTaken_kept hk

theorem relayPost_kept {id} (hk : Kept d₀ d) : Kept d₀ (relayPost d id) := by
  unfold relayPost
  split
  · exact hk
  · split
    · exact .ite hk (.ite (stopOp_kept hk) (postEntry_kept hk))
    · exact hk

theorem relayB_kept {r q bs arrival budget status} (hk : Kept d₀ d) : Kept d₀ (relayB d r q bs arrival budget status) := by
  unfold relayB
  dsimp only
  split
  next he =>
    refine relayPost_kept (.ite ?_ (ctrInc_kept (.snd (acceptB_kept hk) he)))
    split
    · exact setOp_kept (ctrInc_kept (.snd (acceptB_kept hk) he))
    · exact ctrInc_kept (.snd (acceptB_kept hk) he)
  next he => exact admissionReply_kept (.snd (acceptB_kept hk) he)

theorem partialIn_kept {frm handle bs arrival budget cls} (hk : Kept d₀ d) :
    Kept d₀ (partialIn d frm handle bs arrival budget cls) := by
  unfold partialIn
  split
  · exact .ite (ctrInc_kept hk) (detect_kept (ctrInc_kept hk))
  next r _ =>
    refine .ite (ctrInc_kept hk) (.ite (ctrInc_kept hk) (.ite (complete_kept (setReq_kept (detect_kept (ctrInc_kept hk)))) ?_))
    have h1 {r step f x} : Kept d₀ (setReq (stepInput d r step f).2 x) := setReq_kept (stepInput_kept hk)
    refine .ite ?_ (relayB_kept h1)
    dsimp only
    split
    next he => exact relayPost_kept (ctrInc_kept (.snd (admitG_kept h1) he))
    next he => exact relayB_kept (.snd (admitG_kept h1) he)

theorem execPartialReceived_keeps {frm handle answer} {s : State} : Keeps s (execPartialReceived frm handle answer s) :=
  onDev_keeps fun hk => by
    split
    · split
      · exact partialIn_kept hk
      · exact partialIn_kept hk
    · split
      · exact hk
      · exact .ite hk (complete_kept (setReq_kept hk))

theorem execAppendFlushDone_keeps {req ok} {s : State} : Keeps s (execAppendFlushDone req ok s) :=
  onDev_keeps fun hk => by
    refine .ite hk ?_
    split
    · exact appendDone_kept hk
    · exact hk

/-! ## Machine/Skeins.lean -/

theorem stateReply_kept {frm req kind status} (hk : Kept d₀ d) : Kept d₀ (stateReply d frm req kind status) := sendSvc_kept hk

theorem openSlots_kept {m} (hk : Kept d₀ d) : Kept d₀ (openSlots d m).2 := by
  unfold openSlots
  refine .ite₂ hk (.ite₂ hk (.ite₂ hk (.ite₂ hk ?_)))
  split
  · exact freeSkein_kept hk
  · exact ctrInc_kept hk

theorem execSkeinOpen_keeps {frm m slot base} {s : State} : Keeps s (execSkeinOpen frm m slot base s) :=
  onDevC_keeps fun hk => by
    dsimp only
    split
    · exact sendSvc_kept (openSlots_kept hk)
    · refine .ite (sendSvc_kept (openSlots_kept hk)) (.ite hk ?_)
      split
      · exact sendSvc_kept (openSlots_kept hk)
      next he => exact sendSvc_kept (mirrorDirs_kept (.record (mapAll_kept (openSlots_kept hk) he)))

theorem touchSkein_kept {i} (hk : Kept d₀ d) : Kept d₀ (touchSkein d i) := by
  unfold touchSkein
  split
  · exact setSkein_kept hk
  · exact hk

theorem execLookup_keeps {frm req skein chain} {s : State} : Keeps s (execLookup frm req skein chain s) :=
  onDev_keeps fun {d₀} {_} hk => by
    extract_lets answer
    have h_answer {x y1 y2} (k : Kept d₀ x) : Kept d₀ (answer x y1 y2) := sendSvc_kept k
    refine .ite (h_answer hk) ?_
    split
    · exact h_answer hk
    · refine .ite (h_answer hk) ?_
      dsimp only
      split
      · exact h_answer (placeRefused_kept (prefixLookup_kept hk))
      · next he =>
        refine h_answer (setSkein_kept (.foldl (fun _ _ k => touchSkein_kept k) (ctrAdd_kept (ctrInc_kept (.foldl (fun _ _ k => ?_)
          (mapAll_kept (prefixLookup_kept hk) he))))))
        split
        · exact mirrorRef_kept k
        · exact k

theorem shipReady_kept {k rs} (hk : Kept d₀ d) : Kept d₀ (shipReady d k rs).2 := by
  unfold shipReady
  refine .ite₂ hk (promoteAll_kept ?_)
  split
  · exact countWait_kept hk
  · exact hk

theorem fetchShip_kept {k frm found} (hk : Kept d₀ d) : Kept d₀ (fetchShip d k frm found) := by
  unfold fetchShip
  extract_lets
  split
  next he => exact setSkein_kept (.snd (shipReady_kept hk) he)
  next d1 he =>
    have h1 : Kept d₀ d1 := .snd (shipReady_kept hk) he
    have h2 {rs} : Kept d₀ (readRanges found rs d1).2 := readRanges_kept h1
    exact .ite (faultOp_kept (setSkein_kept h2)) (sendSvc_kept (setSkein_kept (travelParts_kept h2)))

theorem homeWindow_kept {k} (hk : Kept d₀ d) : Kept d₀ (homeWindow d k) := by
  unfold homeWindow
  refine .ite hk ?_
  extract_lets
  refine .ite (homeWindowEnd_kept (setSkein_kept hk)) ?_
  split
  next he => exact setSkein_kept (.snd (shipReady_kept hk) he)
  next d1 he =>
    have h1 : Kept d₀ d1 := .snd (shipReady_kept hk) he
    have h2 {found rs} : Kept d₀ (readRanges found rs d1).2 := readRanges_kept h1
    refine .ite (homeWindowEnd_kept (faultOp_kept (setSkein_kept h2))) ?_
    refine .ite (homeWindowEnd_kept (setSkein_kept (travelParts_kept h2))) ?_
    exact .ite (postFlush_kept (sendSvc_kept (setSkein_kept (travelParts_kept h2))))
      (homeWindowEnd_kept (sendSvc_kept (setSkein_kept (travelParts_kept h2))))

theorem pumpShips_kept (hk : Kept d₀ d) : Kept d₀ (pumpShips d) := by
  unfold pumpShips
  refine .foldl (fun _ _ k => ?_) hk
  dsimp only
  split
  · refine .ite ?_ ?_
    · refine homeWindow_kept ?_
      split
      · exact fetchShip_kept k
      · exact k
    · split
      · exact fetchShip_kept k
      · exact k
  · split
    · exact fetchShip_kept k
    · exact k

theorem shipsRefused_kept {f} (hk : Kept d₀ d) : Kept d₀ (shipsRefused d f) := by
  unfold shipsRefused
  refine .foldl (fun _ _ k => ?_) hk
  dsimp only
  split
  · refine .ite ?_ ?_
    · refine homeWindowEnd_kept (setSkein_kept ?_)
      split
      · exact .ite k (sendSvc_kept (setSkein_kept (travelParts_kept k)))
      · exact k
    · split
      · exact .ite k (sendSvc_kept (setSkein_kept (travelParts_kept k)))
      · exact k
  · split
    · exact .ite k (sendSvc_kept (setSkein_kept (travelParts_kept k)))
    · exact k

theorem onTier_keeps {f : Dev → Dev} {s} (hf : ∀ {d₀ d}, Kept d₀ d → Kept d₀ (f d)) : Keeps s (onTier f s) :=
  onDevC_keeps fun hk => pumpShips_kept (hf hk)

theorem execPrefixFetch_keeps {frm req skein pages} {s : State} : Keeps s (execPrefixFetch frm req skein pages s) :=
  onDev_keeps fun hk => by
    split
    · split
      · exact hk
      · exact fetchShip_kept (setSkein_kept hk)
    · dsimp only
      split
      · exact shipped_kept hk
      · split
        · exact .ite (.foldl (fun _ _ k => viewPage_kept k) (shipped_kept hk)) (shipped_kept hk)
        · exact shipped_kept hk

theorem readyPart_kept {k p appended} (hk : Kept d₀ d) : Kept d₀ (readyPart d k p appended).2 :=
  .ite₂ (jobDone_kept (countCoded_kept hk)) hk

theorem placeAllPages_kept {appended ps k} (hk : Kept d₀ d) : Kept d₀ (placeAllPages appended ps k d).2.2 := by
  induction ps generalizing k d with
  | nil => exact hk
  | cons p ps ih =>
    rw [placeAllPages]
    split
    · exact ih (ctrInc_kept hk)
    · split
      · exact ih hk
      · have h1 : Kept d₀ (placePage (readyPart d k p appended).2 k (readyPart d k p appended).1 appended).2.2 :=
          placePage_kept (readyPart_kept hk)
        dsimp only
        split
        · exact ih h1
        · exact h1

theorem appendHash_kept {k p} (hk : Kept d₀ d) : Kept d₀ (appendHash d k p).2 := by
  unfold appendHash
  split
  · exact hk
  · exact .ite₂ hk (.ite (prefixInsert_kept hk) hk)

theorem placeNak_kept {req appended status} (hk : Kept d₀ d) : Kept d₀ (placeNak d req appended status) := by
  unfold placeNak
  refine .ite (shipFail_kept hk) ?_
  split
  · exact hk
  · exact .ite (genFault_kept hk) (setReq_kept hk)

theorem placeChecked_kept {appended ps k} (hk : Kept d₀ d) : Kept d₀ (placeChecked appended ps k d).2.2 := by
  unfold placeChecked
  split
  · exact decodeError_kept hk
  · exact placeAllPages_kept hk

theorem execPlace_keeps {frm req skein appended pages} {s : State} : Keeps s (execPlace frm req skein appended pages s) :=
  onDevC_keeps fun {d₀} {_} hk => by
    extract_lets answer
    have h_answer {x y} (hx : Kept d₀ x) : Kept d₀ (answer x y) :=
      .ite (.ite hx (placeNak_kept hx)) (flushesEnded_kept (svcAnswer_kept hx))
    refine .ite (h_answer (shipped_kept hk)) ?_
    dsimp only
    split
    · exact h_answer (shipped_kept hk)
    · refine .ite (h_answer (shipped_kept hk)) (h_answer (setSkein_kept (.ite₂ ?_ (placeChecked_kept (shipped_kept hk)))))
      split
      · exact appendHash_kept (placeChecked_kept (shipped_kept hk))
      · exact placeChecked_kept (shipped_kept hk)

theorem execSeal_keeps {frm req skein} {s : State} : Keeps s (execSeal frm req skein s) :=
  onDev_keeps fun {d₀} {_} hk => by
    split
    · exact stateReply_kept hk
    · refine .ite (stateReply_kept hk) ?_
      extract_lets _ d1 d2 d3 d4
      have h1 : Kept d₀ d1 := setSkein_kept hk
      have h2 : Kept d₀ d2 := .ite (.foldl (fun _ _ k => prefixInsert_kept k) h1) h1
      have h3 : Kept d₀ d3 := homeWindow_kept h2
      have h4 : Kept d₀ d4 := sendSvc_kept h3
      exact stateReply_kept h4

theorem execAbort_keeps {frm req skein} {s : State} : Keeps s (execAbort frm req skein s) :=
  onDev_keeps fun hk => by
    split
    · exact stateReply_kept hk
    · split
      · exact stateReply_kept (setSkein_kept hk)
      · exact stateReply_kept (setSkein_kept (prefixRemove_kept hk))
      · exact stateReply_kept hk

theorem execSkeinAbortDrained_keeps {slot} {s : State} : Keeps s (execSkeinAbortDrained slot s) :=
  onDev_keeps fun hk => by
    split
    · exact .ite (freeSkein_kept hk) hk
    · exact hk

theorem execRelease_keeps {frm req skein} {s : State} : Keeps s (execRelease frm req skein s) :=
  onDev_keeps fun hk => by
    split
    · exact stateReply_kept hk
    · exact .ite (stateReply_kept hk) (.ite (stateReply_kept (setSkein_kept hk)) (stateReply_kept (freeSkein_kept hk)))

/-! ## Machine/Retrieval.lean -/

theorem farCheck_kept {k m cls r} (hk : Kept d₀ d) (he : farCheck d k m cls = some r) : Kept d₀ r.2 := by
  have h_refused {n : Nat} {e} (hk : Kept d₀ e) : ∀ r, some (n, e) = some r → Kept d₀ r.2 := by
    rintro _ ⟨⟩
    exact hk
  have no {n : Nat} := h_refused (n := n) hk
  suffices h : ∀ r, farCheck d k m cls = some r → Kept d₀ r.2 from h r he
  unfold farCheck
  refine .iteSome no (.iteSome no (.iteSome no (.iteSome no (.iteSome no (.iteSome no (.iteSome no ?_))))))
  split
  · exact no
  · refine .iteSome no (.iteSome no (.iteSome no (.iteSome (h_refused (ctrInc_kept hk)) (.iteSome no ?_))))
    exact .iteSome (h_refused (ctrInc_kept hk)) (.iteSome no fun _ he => nomatch he)

theorem joinJob_kept {j x} (hk : Kept d₀ d) : Kept d₀ (joinJob d j x) := .record hk

theorem newJob_kept {k m cls anchor x} (hk : Kept d₀ d) : Kept d₀ (newJob d k m cls anchor x) := .record hk

theorem joinG_kept {j op stages post ready r} (hk : Kept d₀ d) (he : joinG d j op stages post ready = some r) : Kept d₀ r.2 := by
  unfold joinG at he
  dsimp only at he
  split at he; · cases he
  split at he; · cases he
  split at he; · cases he
  split at he; · cases he
  split at he; · cases he
  split at he; · cases he
  cases he
  exact ctrInc_kept (.record hk)

theorem farTaken_kept {k l} (hk : Kept d₀ d) : Kept d₀ (farTaken d k l) := by
  unfold farTaken
  dsimp only
  split
  · exact jobWalks_kept (jobCount_kept (setSkein_kept hk))
  · exact jobCount_kept (setSkein_kept hk)

theorem execFarJob_keeps {frm conn m cls budget} {s : State} : Keeps s (execFarJob frm conn m cls budget s) :=
  onDev_keeps fun {d₀} {_} hk => by
    refine .ite hk ?_
    extract_lets _ d1 k _ count
    have h1 : Kept d₀ d1 := .record hk
    have h_count {x} (hx : Kept d₀ x) : Kept d₀ (count x) := by
      unfold count
      clear_value k
      split
      · exact jobCount_kept hx
      · exact hx
    clear_value count k
    split
    · next he => exact farReply_kept (h_count (.ite (ctrInc_kept (farCheck_kept h1 he)) (farCheck_kept h1 he)))
    · split
      · exact h1
      · refine .ite (startWalk_kept (farReply_kept (h_count (ctrInc_kept h1)))) ?_
        extract_lets _ _ _ joins joined
        have h_joined {e} (he : joined = some e) : Kept d₀ e := by
          unfold joined at he
          clear_value joins
          split at he
          · cases he
          · split at he
            split at he
            · obtain ⟨r, hr, rfl⟩ := Option.map_eq_some_iff.mp he
              exact joinJob_kept (joinG_kept h1 hr)
            · split at he
              · next ha =>
                cases he
                exact joinJob_kept (.snd (acceptB_kept h1) ha)
              · cases he
        clear_value joined
        split
        · exact farTaken_kept (h_joined rfl)
        · split
          extract_lets
          split
          next he => exact farReply_kept (h_count (admitted_kept h1 he))
          next he => exact farTaken_kept (newJob_kept (admitted_kept h1 he))

theorem setJob_kept {j} (hk : Kept d₀ d) : Kept d₀ (setJob d j) := .record hk

theorem failJob_kept {j cause status} (hk : Kept d₀ d) : Kept d₀ (failJob d j cause status) := by
  unfold failJob
  refine .foldl (fun _ _ k => ?_) hk
  split
  · exact failOp_kept k
  · exact k

theorem heddleFault_kept {j stack} (hk : Kept d₀ d) : Kept d₀ (heddleFault d j stack) := detect_kept (failJob_kept hk)

theorem jobWaits_kept {j k fs} (hk : Kept d₀ d) : Kept d₀ (jobWaits d j k fs) := by
  unfold jobWaits
  extract_lets d1
  have h1 : Kept d₀ d1 := by
    unfold d1
    refine .ite hk ?_
    split
    · exact countWait_kept (setJob_kept hk)
    · exact hk
  split
  · exact h1
  · dsimp only
    split
    · exact failJob_kept (promoteAll_kept h1)
    · exact promoteAll_kept h1

theorem setHints_kept {j ps} (hk : Kept d₀ d) : Kept d₀ (setHints d j ps) := by
  unfold setHints
  refine .foldl (fun _ _ k => ?_) hk
  split
  · exact k
  · split
    · exact k
    next he => exact setSkein_kept (mapAll_kept k he)

theorem selectPages_kept {j k o} (hk : Kept d₀ d) : Kept d₀ (selectPages d j k o) := by
  unfold selectPages
  refine .ite (setHints_kept (setJob_kept hk)) (.ite (ctrInc_kept (failJob_kept (setHints_kept (setJob_kept hk)))) ?_)
  dsimp only
  split
  · exact failJob_kept (promoteAll_kept (setHints_kept (setJob_kept hk)))
  · exact promoteAll_kept (setHints_kept (setJob_kept hk))

theorem execHeddleScan_keeps {job parity} {s : State} : Keeps s (execHeddleScan job parity s) :=
  onDevC_keeps fun {d₀} {_} hk => by
    split
    · exact hk
    · refine .ite hk ?_
      split
      · exact heddleFault_kept hk
      · split
        · exact hk
        · extract_lets
          refine .ite (jobWaits_kept hk) ?_
          split
          next lost d1 he =>
            have h1 : Kept d₀ d1 := .snd (readRanges_kept hk) he
            refine .ite (failJob_kept h1) ?_
            extract_lets _ d2
            have h2 : Kept d₀ d2 := .foldl (fun _ _ k => by
                split
                · exact failOp_kept (ctrInc_kept k)
                · exact k) h1
            split
            · exact h2
            · extract_lets _ _ d3 _ _ d4
              have h4 : Kept d₀ d4 := ctrAdd_kept (.foldl (fun _ _ k => .ite k (ctrInc_kept (ctrAdd_kept k))) h2)
              split
              · exact selectPages_kept (setJob_kept h4)
              · exact h4

theorem execHeddleWalk_keeps {job parity} {s : State} : Keeps s (execHeddleWalk job parity s) :=
  onDevC_keeps fun hk => by
    split
    · exact hk
    · refine .ite hk ?_
      split
      · exact heddleFault_kept hk
      · refine .ite (failJob_kept (readRanges_kept hk)) ?_
        dsimp only
        split
        · exact heddleFault_kept (readRanges_kept hk)
        · exact .ite (jobWaits_kept (readRanges_kept hk)) (ctrInc_kept (setJob_kept (readRanges_kept hk)))

theorem expandPages_kept {k ps} (hk : Kept d₀ d) : Kept d₀ (expandPages k ps d).2 := by
  induction ps generalizing d with
  | nil => exact hk
  | cons p ps ih =>
    rw [expandPages]
    split
    · exact ih hk
    · next b _ =>
      have h1 : Kept d₀ (readBody d k.shape b).2 := readBody_kept hk
      dsimp only
      split
      · exact h1
      · split
        next he => exact .snd (ih h1) he
        next => exact ih h1

theorem attendRound_kept {j k} (hk : Kept d₀ d) : Kept d₀ (attendRound d j k).2 := by
  unfold attendRound
  dsimp only
  split
  next he =>
    refine .foldl (fun _ _ k => ?_) (ctrInc_kept (.record (.snd (expandPages_kept hk) he)))
    split
    · exact failOp_kept k
    · exact k
  next he => exact setJob_kept (.ite (.snd (expandPages_kept hk) he) (ctrInc_kept (.snd (expandPages_kept hk) he)))

theorem execRoundCheck_keeps {job} {s : State} : Keeps s (execRoundCheck job s) :=
  onDevC_keeps fun hk => by
    split
    · exact hk
    · refine .ite hk ?_
      dsimp only
      split
      next he => exact .snd (attendRound_kept hk) he
      next he =>
        split
        · exact .snd (attendRound_kept hk) he
        · exact .ite (ctrAdd_kept (setJob_kept (.snd (attendRound_kept hk) he))) (.snd (attendRound_kept hk) he)

theorem memberDone_kept {j x o} (hk : Kept d₀ d) : Kept d₀ (memberDone d j x o) := by
  unfold memberDone
  extract_lets _ d1 d2 d3 d4 d5
  have h1 : Kept d₀ d1 := .ite (ctrInc_kept hk) hk
  have h2 : Kept d₀ d2 := ctrAdd_kept (ctrAdd_kept (ctrInc_kept h1))
  have h3 : Kept d₀ d3 := .ite (ctrInc_kept h2) h2
  have h4 : Kept d₀ d4 := .ite (ctrInc_kept h3) h3
  have h5 : Kept d₀ d5 := dropMember_kept (dropOp_kept (handOver_kept (jobCount_kept h4)))
  exact .ite h5 (sampleShadow_kept h5)

theorem sendMember_kept {j x} (hk : Kept d₀ d) : Kept d₀ (sendMember d j x) := by
  unfold sendMember
  split
  · exact hk
  · extract_lets _ _ d1
    have h1 : Kept d₀ d1 := by
      unfold d1
      split
      · exact hk
      · exact ctrInc_kept (.record (faultOp_kept hk))
    exact .ite (memberDone_kept (emitWA_kept h1)) (.ite (stopOp_kept h1) (postEntry_kept h1))

theorem sendJob_kept {j} (hk : Kept d₀ d) : Kept d₀ (sendJob d j) :=
  .foldl (fun _ _ k => sendMember_kept k) (setHints_kept (setJob_kept hk))

/-! ## Machine/Fabric.lean -/

theorem buildRuns_kept (hk : Kept d₀ d) : Kept d₀ (buildRuns d) := .record hk

theorem startCmd_kept {r c} (hk : Kept d₀ d) : Kept d₀ (startCmd d r c) := by
  unfold startCmd
  dsimp only
  split
  · exact setJob_kept (setRun_kept hk)
  · exact setRun_kept hk

theorem nextCmd_kept {r} (hk : Kept d₀ d) : Kept d₀ (nextCmd d r) := by
  unfold nextCmd
  dsimp only
  split
  · exact startCmd_kept hk
  · exact setRun_kept hk
  · split
    · exact .ite (startCmd_kept hk) (startCmd_kept (ctrAdd_kept hk))
    · exact startCmd_kept (ctrAdd_kept hk)

theorem cmdFails_kept {c cause} (hk : Kept d₀ d) : Kept d₀ (cmdFails d c cause) := by
  unfold cmdFails
  refine .ite (.ite (ctrInc_kept (.record hk)) hk) ?_
  split
  · exact failJob_kept hk
  · exact hk

theorem resetRun_kept {r cause} (hk : Kept d₀ d) : Kept d₀ (resetRun d r cause) :=
  setRun_kept (.foldl (fun _ _ k => cmdFails_kept k) hk)

theorem tileFault_kept {t} (hk : Kept d₀ d) : Kept d₀ (tileFault d t) := ctrInc_kept hk

theorem execRunCommandArrival_keeps {run cmd} {s : State} : Keeps s (execRunCommandArrival run cmd s) :=
  onDev_keeps fun hk => by
    split
    · exact hk
    · refine .ite hk ?_
      dsimp only
      split
      · exact .ite (startCmd_kept hk) (setRun_kept hk)
      · exact .ite (startCmd_kept (ctrAdd_kept (ctrInc_kept hk))) (setRun_kept hk)

theorem execRunCommandEnd_keeps {run corrected bad stalls} {s : State} : Keeps s (execRunCommandEnd run corrected bad stalls s) :=
  onDevC_keeps fun {d₀} {_} hk => by
    split
    · exact hk
    · split
      · exact hk
      · extract_lets d1 d2
        have h1 : Kept d₀ d1 := ctrAdd_kept hk
        have h2 : Kept d₀ d2 := ctrAdd_kept (ctrAdd_kept (ctrAdd_kept (ctrAdd_kept h1)))
        split
        · exact .ite h2 (detect_kept (resetRun_kept (tileFault_kept h2)))
        · exact nextCmd_kept h2

theorem execRunStallTimeout_keeps {run} {s : State} : Keeps s (execRunStallTimeout run s) :=
  onDevC_keeps fun hk => by
    split
    · exact hk
    · exact .ite hk (detect_kept (resetRun_kept (.foldl (fun _ _ k => tileFault_kept k) hk)))

theorem execRunResetDone_keeps {run} {s : State} : Keeps s (execRunResetDone run s) :=
  onDev_keeps fun hk => by
    split
    · exact hk
    · exact .ite (nextCmd_kept hk) hk

theorem stopFabric_kept {status} (hk : Kept d₀ d) : Kept d₀ (stopFabric d status) := by
  unfold stopFabric
  refine .foldl (fun _ _ k => ?_) (.record (ctrAdd_kept hk))
  split
  · exact endOp_kept k
  · exact k

theorem startFabric_kept (hk : Kept d₀ d) : Kept d₀ (startFabric d) := .record hk

theorem fabLoss_kept {was : Dev} {dr tile} (hk : Kept d₀ d) : Kept d₀ (fabLoss was d dr tile) := .ite (reportOver_kept hk) hk

theorem fabLosses_kept {was : Dev} (hk : Kept d₀ d) : Kept d₀ (fabLosses was d) := .foldl (fun _ _ k => fabLoss_kept k) hk

theorem fenceTiles_kept {ts} (hk : Kept d₀ d) : Kept d₀ (fenceTiles d ts) := by
  unfold fenceTiles
  refine fabLosses_kept (.foldl (fun _ _ k => ?_) (.record hk))
  dsimp only
  split
  · exact .ite (nextCmd_kept (setRun_kept k)) (setRun_kept (setRun_kept k))
  · exact setRun_kept k

theorem unfenceTiles_kept {ts} (hk : Kept d₀ d) : Kept d₀ (unfenceTiles d ts) :=
  .foldl (fun _ _ k => .ite (nextCmd_kept k) (.ite (setRun_kept k) k)) (.record hk)

theorem tilesFail_kept {ts} (hk : Kept d₀ d) : Kept d₀ (tilesFail d ts) :=
  fabLosses_kept (.foldl (fun _ _ k => detect_kept k) (.record hk))

theorem execShadowCheckDone_keeps {id outputEq failed badBound load0 load1} {s : State} :
    Keeps s (execShadowCheckDone id outputEq failed badBound load0 load1 s) :=
  onDevC_keeps fun {d₀} {_} hk => by
    split
    · exact hk
    · dsimp only
      refine .ite (ctrInc_kept (.record hk)) (.ite (ctrInc_kept (.record hk)) ?_)
      exact .ite (detect_kept (.record (.foldl (fun _ _ k => ctrInc_kept k) (ctrInc_kept (.record hk)))))
        (detect_kept (.record (.foldl (fun _ _ k => ctrInc_kept k) (ctrInc_kept (.record hk)))))

/-! ## Machine/Intake.lean -/

theorem setLane_kept {l x} (hk : Kept d₀ d) : Kept d₀ (setLane d l x) := .record hk

theorem windowWrite_kept {off bs remote} (hk : Kept d₀ d) : Kept d₀ (windowWrite d off bs remote) := .record hk

theorem execIntakeWindowWrite_keeps {fn offset bytes} {s : State} : Keeps s (execIntakeWindowWrite fn offset bytes s) :=
  onDev_keeps fun hk => .ite hk (.foldl (fun _ _ k => .ite (windowWrite_kept k) k) hk)

theorem writeMirror_kept {l} (hk : Kept d₀ d) : Kept d₀ (writeMirror d l) :=
  .ite hk (.ite (hostWrite_kept (setLane_kept hk)) (postEntry_kept (setLane_kept hk)))

theorem execIntakeLaneVisit_keeps {lane} {s : State} : Keeps s (execIntakeLaneVisit lane s) :=
  onDev_keeps fun {d₀} {d} hk => by
    extract_lets _ d1 _ _ _ _ _ _ _ x d2 _ d3 d4 d5
    have h1 : Kept d₀ d1 := .record hk
    have h4 : Kept d₀ d4 := ctrInc_kept (.record (setLane_kept h1))
    have h5 : Kept d₀ d5 := .ite (writeMirror_kept h4) h4
    refine .ite hk (.ite h1 (.ite (writeMirror_kept h1) (.ite (writeMirror_kept h1) (.ite (detectFor_kept (setLane_kept h1)) ?_))))
    split
    · exact ctrInc_kept h1
    · exact .ite h5 (refuseTaken_kept h5)

theorem execReqLaneResync_keeps {fn value} {s : State} : Keeps s (execReqLaneResync fn value s) :=
  onDev_keeps fun hk => .ite (ctrInc_kept hk) (.ite hk (setLane_kept hk))

theorem execLaneSetup_keeps {lane seq} {s : State} : Keeps s (execLaneSetup lane seq s) :=
  onTaken_keeps fun hk => by
    dsimp only
    split
    · exact refuseTaken_kept hk
    · exact .ite (refuseTaken_kept hk) (finishOp_kept (setLane_kept (dropTaken_kept hk)))

theorem flushLog_kept {n} (hk : Kept d₀ d) : Kept d₀ (flushLog d n) :=
  brokenTold_kept (.foldl (fun _ _ k => ringPutRaw_kept k) (.record hk))

theorem execRingSetup_keeps {lane seq} {s : State} : Keeps s (execRingSetup lane seq s) :=
  onTaken_keeps fun {d₀} {_} {_} hk => by
    dsimp only
    split
    · exact refuseTaken_kept hk
    · refine .ite (refuseTaken_kept hk) (.ite (refuseTaken_kept hk) (finishOp_kept ?_))
      exact .ite (flushLog_kept (mirrorPush_kept (.record (dropTaken_kept hk)))) (mirrorPush_kept (.record (dropTaken_kept hk)))

theorem dropRing_kept {n} (hk : Kept d₀ d) : Kept d₀ (dropRing d n) := mirrorPush_kept (.record hk)

theorem execRingTeardown_keeps {lane seq} {s : State} : Keeps s (execRingTeardown lane seq s) :=
  onTaken_keeps fun hk => by
    dsimp only
    split
    · exact refuseTaken_kept hk
    · split
      · exact refuseTaken_kept hk
      · exact .ite (refuseTaken_kept hk) (finishOp_kept (dropRing_kept (dropTaken_kept hk)))

theorem breakRing_kept {r} (hk : Kept d₀ d) : Kept d₀ (breakRing d r) := brokenTold_kept (ringBreak_kept hk)

theorem headReadDone_kept {n result} (hk : Kept d₀ d) : Kept d₀ (headReadDone d n result) := by
  unfold headReadDone
  split
  · exact hk
  · refine .ite hk ?_
    extract_lets _ d1
    have h1 : Kept d₀ d1 := .record hk
    split
    · exact ringsMoved_kept (breakRing_kept h1)
    · refine .ite (ringsMoved_kept (brokenTold_kept (ringDrain_kept ?_))) (ringsMoved_kept (brokenTold_kept (startHeadRead_kept ?_)))
      · exact setRing_kept h1
      · exact setRing_kept h1

theorem execRingHeadReadDone_keeps {ring result} {s : State} : Keeps s (execRingHeadReadDone ring result s) :=
  onDev_keeps fun hk => headReadDone_kept hk

theorem execRingStallTimeout_keeps {ring} {s : State} : Keeps s (execRingStallTimeout ring s) :=
  onDev_keeps fun hk => by
    split
    · split
      · exact .ite hk (detect_kept (setRing_kept hk))
      · exact hk
    · exact hk

/-! ## Machine/Transfer.lean -/

theorem storedBlocks_kept {k rs} (hk : Kept d₀ d) : Kept d₀ (storedBlocks k rs d).2 := by
  induction rs generalizing d with
  | nil => exact hk
  | cons r rs ih =>
    rw [storedBlocks]
    split
    next he => exact .snd (travelPart_kept hk) he
    next he => exact ih (.snd (travelPart_kept hk) he)

theorem copyStored_kept {k r ls} (hk : Kept d₀ d) : Kept d₀ (copyStored k r ls d).2 := by
  induction ls generalizing d with
  | nil => exact hk
  | cons l ls ih =>
    rw [copyStored]
    dsimp only
    split
    · exact storedBlocks_kept hk
    · exact ih (storedBlocks_kept hk)

theorem copyExpanded_kept {k rs} (hk : Kept d₀ d) : Kept d₀ (copyExpanded k rs d).2 := by
  induction rs generalizing d with
  | nil => exact hk
  | cons r rs ih =>
    rw [copyExpanded]
    split
    · exact ih hk
    · dsimp only
      split
      · exact readBody_kept hk
      · exact ih (readBody_kept hk)

theorem copyPagesOut_kept {k r} (hk : Kept d₀ d) : Kept d₀ (copyPagesOut d k r).2 := .ite₂ (copyExpanded_kept hk) (copyStored_kept hk)

theorem onXfer_keeps {l q form s} {f : Dev → Taken → Dev} (hf : ∀ {d₀ d t}, Kept d₀ d → Kept d₀ (f d t)) :
    Keeps s (onXfer l q form f s) :=
  onTaken_keeps fun hk => .ite (hf hk) hk

theorem startXfer_kept {t stages ready data src low count port} {touch : Dev → Dev} (hk : Kept d₀ d)
    (ht : ∀ {x}, Kept d₀ x → Kept d₀ (touch x)) :
    Kept d₀ (startXfer d t stages ready data src low count port touch) := by
  unfold startXfer
  extract_lets _ _ d1
  have h1 : Kept d₀ d1 := dropTaken_kept hk
  split
  next he => exact admissionReply_kept (admitted_kept h1 he)
  next he =>
    extract_lets d3 _ r
    have h3 : Kept d₀ d3 := ht (admitted_kept h1 he)
    have hr : Kept d₀ r.2 := promoteAll_kept h3
    clear_value r
    refine .ite (admissionReply_kept (ctrInc_kept h1)) ?_
    split
    · exact hr
    · split
      · exact failOp_kept hr
      · exact hr

theorem touchSource_kept {k ls} (hk : Kept d₀ d) : Kept d₀ (touchSource d k ls) := setSkein_kept hk

theorem execCopyRange_keeps {lane seq data} {s : State} : Keeps s (execCopyRange lane seq data s) :=
  onXfer_keeps fun hk => by
    dsimp only
    split
    · exact refuseTaken_kept hk
    · refine .ite (refuseTaken_kept hk) ?_
      split
      · exact refuseTaken_kept hk
      · split
        · exact refuseTaken_kept hk
        · exact .ite (refuseTaken_kept (placeRefused_kept hk)) (startXfer_kept hk id)

theorem execCopyPages_keeps {lane seq} {s : State} : Keeps s (execCopyPages lane seq s) :=
  onXfer_keeps fun hk => by
    dsimp only
    split
    · exact refuseTaken_kept hk
    · split
      · exact refuseTaken_kept hk
      · refine .ite (refuseTaken_kept hk) ?_
        split
        · exact refuseTaken_kept hk
        · refine .ite (refuseTaken_kept hk) ?_
          split
          · exact refuseTaken_kept hk
          · refine .ite (refuseTaken_kept hk) ?_
            split
            · exact refuseTaken_kept hk
            · exact .ite (refuseTaken_kept (placeRefused_kept hk)) (startXfer_kept hk touchSource_kept)

theorem execPromote_keeps {lane seq} {s : State} : Keeps s (execPromote lane seq s) :=
  onXfer_keeps fun hk => by
    dsimp only
    split
    · exact refuseTaken_kept hk
    · split
      · exact refuseTaken_kept hk
      · refine .ite (refuseTaken_kept hk) (.ite (refuseTaken_kept hk) ?_)
        split
        · exact refuseTaken_kept hk
        · exact startXfer_kept hk (fun k => touchSource_kept k)

theorem xferPost_kept {c a bs cls deadline src use} (hk : Kept d₀ d) : Kept d₀ (xferPost d c a bs cls deadline src use) :=
  postEntry_kept hk

theorem execHeader_keeps {lane seq} {s : State} : Keeps s (execHeader lane seq s) :=
  onTaken_keeps fun {d₀} {_} {_} hk => by
    extract_lets _ k
    clear_value k
    split
    · exact refuseTaken_kept hk
    · split
      · exact refuseTaken_kept hk
      · refine .ite (refuseTaken_kept hk) ?_
        split
        · exact refuseTaken_kept hk
        · extract_lets _ d2
          have h2 : Kept d₀ d2 := ctrInc_kept (touchSource_kept (dropTaken_kept hk))
          refine .ite (refuseTaken_kept hk) (.ite (refuseTaken_kept hk) (.ite (expire_kept (dropTaken_kept hk)) ?_))
          refine .ite (xferPost_kept h2) (.ite (finishOp_kept (hostWriteAttr_kept h2)) ?_)
          split
          · next he =>
            obtain ⟨_, he⟩ := Option.ite_none_left_eq_some.mp he
            exact finishOp_kept (workWrite_kept h2 he)
          · exact finishOp_kept (ctrInc_kept h2)

theorem execLocate_keeps {lane seq} {s : State} : Keeps s (execLocate lane seq s) :=
  onTaken_keeps fun hk => by
    dsimp only
    split
    · exact refuseTaken_kept hk
    · split
      · exact .ite (finishOp_kept (dropTaken_kept hk)) (refuseTaken_kept hk)
      · exact .ite (finishOp_kept (dropTaken_kept hk)) (refuseTaken_kept hk)
      · exact .ite (finishOp_kept (dropTaken_kept hk)) (refuseTaken_kept hk)
      · exact refuseTaken_kept hk
      · exact refuseTaken_kept hk
      · exact refuseTaken_kept hk
      · exact refuseTaken_kept hk
      · exact refuseTaken_kept hk

theorem deliverSas_kept {o a c} (hk : Kept d₀ d) (he : deliverSas d o a c = some e) : Kept d₀ e := by
  unfold deliverSas at he
  split at he
  · cases he
  · next hx =>
    split at he
    · cases he; exact workWrite_kept hk hx
    · obtain ⟨x, hy, rfl⟩ := Option.map_eq_some_iff.mp he
      exact .foldl (fun _ _ k => setPoison_kept k) (workWrite_kept (workWrite_kept hk hx) hy)

theorem placeCopies_kept {k dst rs n} (hk : Kept d₀ d) : Kept d₀ (placeCopies d k dst rs n).2.2.2 := by
  induction rs generalizing d n with
  | nil => exact hk
  | cons r rs ih =>
    rw [placeCopies]
    split
    · exact hk
    · split
      next he => exact .snd (travelPart_kept hk) he
      next he =>
        dsimp only
        split
        · exact setSkein_kept (placePage_kept (.snd (travelPart_kept hk) he))
        · exact ih (setSkein_kept (placePage_kept (.snd (travelPart_kept hk) he)))

theorem xferDecode_kept {o expanded e} (hk : Kept d₀ d) : Kept d₀ (xferDecode d o expanded e) := decodeError_kept hk

theorem endXfer_kept {o status r0 r1} (hk : Kept d₀ d) : Kept d₀ (endXfer d o status r0 r1) :=
  finishOp_kept (dropOp_kept (ctrInc_kept (.ite (ctrInc_kept hk) (.ite (ctrInc_kept hk) hk))))

theorem xferRefused_kept {o status r0} (hk : Kept d₀ d) : Kept d₀ (xferRefused d o status r0) := by
  unfold xferRefused
  split
  · exact failOp_kept hk
  · exact endXfer_kept hk

theorem xferData_kept {o rec data src} (hk : Kept d₀ d) : Kept d₀ (xferData d o rec data src).2 := by
  have h1 : Kept d₀ (endXfer d o St.zeroized 0 0) := endXfer_kept hk
  unfold xferData
  refine .ite₂ (.ite₂ ?_ ?_) ?_
  · split
    · exact shuttleBytes_kept hk
    · exact failOp_kept (ctrInc_kept hk)
  · extract_lets p
    exact .ite₂ h1 (.ite₂ (failOp_kept (poisonRead_kept hk)) (shuttleBytes_kept hk))
  · split
    · exact hk
    · extract_lets bad
      have h2 : Kept d₀ bad.2 := .foldl₂ (fun _ _ k => by
          split
          · exact .ite₂ k (poisonBody_kept k)
          · exact k) hk
      refine .ite₂ h1 (.ite₂ (failOp_kept h2) (copyPagesOut_kept hk))

theorem xferOut_kept {o rec data src} (hk : Kept d₀ d) : Kept d₀ (xferOut d o rec data src) := by
  unfold xferOut
  refine .ite ?_ ?_
  · split
    · exact hk
    · extract_lets refs
      refine .ite (endXfer_kept hk) ?_
      split
      next he =>
        have h1 := congrArg (fun r : Nat × Nat × _ × Dev => Kept d₀ r.2.2.2) he ▸ placeCopies_kept hk
        split
        · exact endXfer_kept (xferDecode_kept h1)
        · exact .ite (xferRefused_kept h1) (setOp_kept h1)
  · split
    · next he => exact .snd (xferData_kept hk) he
    · next c d1 he =>
      have h1 : Kept d₀ d1 := .snd (xferData_kept hk) he
      extract_lets fin _ d2
      have h_fin {x} (k : Kept d₀ x) : Kept d₀ (fin x) := by
        unfold fin
        split
        · exact endXfer_kept (xferDecode_kept k)
        · exact setOp_kept k
      have h2 : Kept d₀ d2 := hostWriteAttr_kept h1
      refine .ite (h_fin (.ite (hostWriteAttr_kept h2) h2)) ?_
      split
      · next he =>
        obtain ⟨_, he⟩ := Option.ite_none_left_eq_some.mp he
        exact h_fin (deliverSas_kept h1 he)
      · exact xferRefused_kept (ctrInc_kept h1)

theorem xferToConn_kept {o rec data src} (hk : Kept d₀ d) : Kept d₀ (xferToConn d o rec data src) := by
  unfold xferToConn
  split
  next he => exact .snd (xferData_kept hk) he
  next he =>
    refine .ite (stopOp_kept (setOp_kept (.snd (xferData_kept hk) he))) ?_
    dsimp only
    split
    · exact xferPost_kept (setOp_kept (.snd (xferData_kept hk) he))
    · exact endXfer_kept (xferDecode_kept (postEntry_kept (xferPost_kept (setOp_kept (.snd (xferData_kept hk) he)))))

theorem xferDone_kept {o rec} (hk : Kept d₀ d) : Kept d₀ (xferDone d o rec) := endXfer_kept hk

/-! ## Machine/Host.lean -/

theorem endOwned_kept {p status} (hk : Kept d₀ d) : Kept d₀ (endOwned d p status) := by
  unfold endOwned
  refine .foldl (fun _ _ k => ?_) hk
  split
  · exact k
  · exact .ite k (.ite (genEnd_kept k) (promptEnd_kept k))

theorem hostReadEnds_kept {x data} (hk : Kept d₀ d) : Kept d₀ (hostReadEnds d x data) := by
  unfold hostReadEnds
  split
  · exact headReadDone_kept hk
  · dsimp only
    split
    · split
      · exact stopSetFinish_kept (.record hk)
      · exact .record hk
    · split
      · exact .record hk
      · exact complete_kept (faultOp_kept (ctrInc_kept (.record hk)))
    · exact .record hk

theorem execHostReadCompletion_keeps {id result} {s : State} : Keeps s (execHostReadCompletion id result s) :=
  onDevC_keeps fun hk => by
    split
    · exact .ite (hostReadEnds_kept hk) hk
    · exact hk

theorem failReads_kept {p} (hk : Kept d₀ d) : Kept d₀ (failReads d p) := .foldl (fun _ _ k => .ite (hostReadEnds_kept k) k) hk

theorem execHostLinkDown_keeps {s : State} : Keeps s (execHostLinkDown s) :=
  onDevC_keeps fun hk => .ite hk (failReads_kept (unpost_kept (.record hk)))

theorem execHostLinkUp_keeps {rate width} {s : State} : Keeps s (execHostLinkUp rate width s) :=
  onDev_keeps fun {d₀} {_} hk => by
    refine .ite hk ?_
    extract_lets _ _ _ _ d1
    have h1 : Kept d₀ d1 := post_kept (.record hk)
    exact .ite h1 (.ite (reportOver_kept (detect_kept (ctrInc_kept h1))) (detect_kept (ctrInc_kept h1)))

theorem fnReset_kept {o} (hk : Kept d₀ d) : Kept d₀ (fnReset d o) := by
  unfold fnReset
  extract_lets _ d1 _ d2 d3 d4 d5 _ d6 d7
  have h3 : Kept d₀ d3 := .foldl (fun _ _ k => dropRing_kept k) (.record (ctrAdd_kept hk))
  have h5 : Kept d₀ d5 := .foldl (fun _ _ k => endOp_kept k) (endOwned_kept h3)
  have h7 : Kept d₀ d7 := .checkUnits (.record h5) (List.length_map ..)
  exact ringsMoved_kept (.record h7)

theorem fnConfigReset_kept {o} (hk : Kept d₀ d) : Kept d₀ (fnConfigReset d o) := .record hk

theorem setTdisp_kept {o t} (hk : Kept d₀ d) : Kept d₀ (setTdisp d o t) := .record hk

theorem tdispFail_kept {o} (hk : Kept d₀ d) : Kept d₀ (tdispFail d o) := detect_kept (ctrInc_kept (fnReset_kept (setTdisp_kept hk)))

theorem resetFn_kept {o} (hk : Kept d₀ d) : Kept d₀ (resetFn d o) := fnConfigReset_kept (.ite (tdispFail_kept hk) (fnReset_kept hk))

theorem execVfFunctionLevelReset_keeps {domain} {s : State} : Keeps s (execVfFunctionLevelReset domain s) :=
  onDevC_keeps fun hk => .ite (resetFn_kept (ctrInc_kept hk)) hk

theorem resetAllFns_kept (hk : Kept d₀ d) : Kept d₀ (resetAllFns d) := .record (.foldl (fun _ _ k => resetFn_kept k) hk)

theorem execPfFunctionLevelReset_keeps {_hot} {s : State} : Keeps s (execPfFunctionLevelReset _hot s) :=
  onDevC_keeps fun hk => resetAllFns_kept (ctrInc_kept hk)

theorem execMsixIntervalExpiry_keeps {fn} {s : State} : Keeps s (execMsixIntervalExpiry fn s) :=
  onDev_keeps fun hk => .ite (msixRaise_kept hk) hk

theorem execMsixVectorUnmask_keeps {fn} {s : State} : Keeps s (execMsixVectorUnmask fn s) :=
  onDev_keeps fun hk => .ite (msixRaise_kept (.record hk)) (.record hk)

theorem execDoeRequest_keeps {o} {s : State} : Keeps s (execDoeRequest o s) :=
  onDev_keeps fun hk => .ite hk (.ite (emit_kept (.record hk)) (emit_kept (.record hk)))

theorem execDoeAbort_keeps {s : State} : Keeps s (execDoeAbort s) := onDev_keeps fun hk => .record hk

theorem tdispRefuse_kept {o code} (hk : Kept d₀ d) : Kept d₀ (tdispRefuse d o code) := emit_kept hk

theorem execLockInterface_keeps {domain ideSecure} {s : State} : Keeps s (execLockInterface domain ideSecure s) :=
  onDev_keeps fun hk => .ite (tdispRefuse_kept hk) (.ite (tdispRefuse_kept hk) (emit_kept (setTdisp_kept hk)))

theorem execStartInterface_keeps {domain} {s : State} : Keeps s (execStartInterface domain s) :=
  onDev_keeps fun hk => .ite (emit_kept (setTdisp_kept hk)) (tdispRefuse_kept hk)

theorem execStopInterface_keeps {domain} {s : State} : Keeps s (execStopInterface domain s) :=
  onDev_keeps fun hk => emit_kept (setTdisp_kept hk)

theorem execGetDeviceInterfaceReport_keeps {domain} {s : State} : Keeps s (execGetDeviceInterfaceReport domain s) :=
  onDev_keeps fun hk => emit_kept hk

theorem execTdispInterfaceError_keeps {domain cause} {s : State} : Keeps s (execTdispInterfaceError domain cause s) :=
  onDevC_keeps fun hk => .ite (tdispFail_kept hk) hk

theorem cfgTouch_kept {fn} (hk : Kept d₀ d) : Kept d₀ (cfgTouch d fn) := .ite (tdispFail_kept hk) hk

theorem execPcieConfigurationWrite_keeps {w} {s : State} : Keeps s (execPcieConfigurationWrite w s) :=
  onDevC_keeps fun hk => by
    split
    · exact .record hk
    · exact .ite (.record hk) hk
    · exact .ite (.record hk) hk
    · exact .ite hk (cfgTouch_kept (.ite (.record hk) (failReads_kept (.record hk))))
    · exact .ite hk (cfgTouch_kept (.record hk))
    · exact .ite (.record hk) hk
    · exact .record hk
    · exact .ite (msixRaise_kept (.record hk)) (.record hk)
    · exact .record hk
    · exact cfgTouch_kept hk

/-! ## Machine/Custody.lean -/

theorem signedDo_kept {h lo anyTime own} {f : Dev → Dev} (hk : Kept d₀ d) (hf : ∀ {x}, Kept d₀ x → Kept d₀ (f x)) :
    Kept d₀ (signedDo d h lo anyTime own f).2 := by
  unfold signedDo
  extract_lets
  split
  · exact hf (ctrInc_kept (.record hk))
  · exact ctrInc_kept hk

theorem onSigned_keeps {f : Dev → Nat × Dev} {s} (hf : ∀ {d₀ d}, Kept d₀ d → Kept d₀ (f d).2) : Keeps s (onSigned f s) :=
  onDevC_keeps fun hk => .ite (emit_kept (hf hk)) hk

theorem tellSensors_kept {was : Dev} (hk : Kept d₀ d) : Kept d₀ (tellSensors was d) := by
  unfold tellSensors
  extract_lets d1 d2
  have h1 : Kept d₀ d1 := .ite (pldmChange_kept hk) hk
  have h2 : Kept d₀ d2 := .ite (pldmChange_kept h1) h1
  exact .ite (pldmChange_kept h2) h2

theorem stopService_kept {status} (hk : Kept d₀ d) : Kept d₀ (stopService d status) := by
  unfold stopService
  refine endOwned_kept (failAll_kept (stopFabric_kept (.foldl (fun _ _ k => ?_) (.record hk))))
  split
  · exact farEnd_kept k
  · exact complete_kept k

theorem enterCustody_kept {trigger} (hk : Kept d₀ d) : Kept d₀ (enterCustody d trigger) := by
  unfold enterCustody
  dsimp only
  split
  · exact ctrInc_kept hk
  · exact tellSensors_kept (.record (detectDevice_kept (ctrInc_kept hk)))
  · exact tellSensors_kept (.record (stopService_kept (detectDevice_kept (ctrInc_kept hk))))

theorem custodyEnterDo_kept (hk : Kept d₀ d) : Kept d₀ (custodyEnterDo d) := enterCustody_kept (detectDevice_kept hk)

theorem signedCustodyEnter_kept {h} (hk : Kept d₀ d) : Kept d₀ (signedCustodyEnter d h).2 := signedDo_kept hk custodyEnterDo_kept

theorem execCustodyEnter_keeps {h} {s : State} : Keeps s (execCustodyEnter h s) := onSigned_keeps fun hk => signedCustodyEnter_kept hk

theorem readmitDo_kept (hk : Kept d₀ d) : Kept d₀ (readmitDo d) := .ite (tellSensors_kept (.record hk)) hk

theorem signedReadmit_kept {h} (hk : Kept d₀ d) : Kept d₀ (signedReadmit d h).2 := signedDo_kept hk readmitDo_kept

theorem execReadmit_keeps {h} {s : State} : Keeps s (execReadmit h s) := onSigned_keeps fun hk => signedReadmit_kept hk

theorem coreResetStart_kept (hk : Kept d₀ d) : Kept d₀ (coreResetStart d) := unpost_kept (.record (ctrInc_kept hk))

theorem coreResetEnd_kept (hk : Kept d₀ d) : Kept d₀ (coreResetEnd d) := post_kept (.record hk)

theorem repostAll_kept (hk : Kept d₀ d) : Kept d₀ (repostAll d) := .foldl (fun _ _ k => .ite (post_kept k) k) hk

theorem zeroizeKeys_kept (hk : Kept d₀ d) : Kept d₀ (zeroizeKeys d) :=
  ctrInc_kept (.foldl (fun _ _ k => tdispFail_kept k) (unpost_kept (.record (.record hk))))

theorem zeroizeWith_kept {trigger} (hk : Kept d₀ d) : Kept d₀ (zeroizeWith d trigger) := by
  unfold zeroizeWith
  extract_lets d1 _ d2 d3
  have h1 : Kept d₀ d1 := hk
  have h2 : Kept d₀ d2 := zeroizeKeys_kept hk
  have h3 : Kept d₀ d3 := .ite (ctrInc_kept h2) (detectDevice_kept h2)
  exact enterCustody_kept (tellSensors_kept h3)

theorem zeroizeNow_kept (hk : Kept d₀ d) : Kept d₀ (zeroizeNow d) := zeroizeWith_kept hk

theorem signedZeroize_kept {h} (hk : Kept d₀ d) : Kept d₀ (signedZeroize d h).2 := signedDo_kept hk zeroizeNow_kept

theorem execZeroize_keeps {h} {s : State} : Keeps s (execZeroize h s) := onSigned_keeps fun hk => signedZeroize_kept hk

theorem execSecZeroize_keeps {fn value} {s : State} : Keeps s (execSecZeroize fn value s) :=
  onDevC_keeps fun hk => .ite (zeroizeNow_kept hk) hk

theorem errorState_kept {cause} (hk : Kept d₀ d) : Kept d₀ (errorState d cause) := zeroizeWith_kept (detectDevice_kept (.record hk))

theorem execEntropyHealthFailure_keeps {s : State} : Keeps s (execEntropyHealthFailure s) :=
  onDevC_keeps fun hk => .ite (errorState_kept (ctrInc_kept hk)) hk

theorem testsFailed_kept {t} (hk : Kept d₀ d) : Kept d₀ (testsFailed d t) :=
  .ite (errorState_kept (.ite hk (ctrInc_kept hk))) (errorState_kept (.ite hk (ctrInc_kept hk)))

theorem newSession_kept (hk : Kept d₀ d) : Kept d₀ (newSession d) := .record (freeNext_kept hk)

theorem freeHeld_kept (hk : Kept d₀ d) : Kept d₀ (freeHeld d) := .record (.checkUnits hk (List.length_map ..))

theorem selfTestDo_kept {t} (hk : Kept d₀ d) : Kept d₀ (selfTestDo d t) := by
  unfold selfTestDo
  refine .ite (.ite hk (testsFailed_kept hk)) (.ite ?_ hk)
  extract_lets d1 d2 _ _ d3 d4
  have h1 : Kept d₀ d1 := hk
  have h2 : Kept d₀ d2 := freeHeld_kept (newSession_kept hk)
  have h3 : Kept d₀ d3 := .record h2
  have h4 : Kept d₀ d4 := .ite (post_kept h3) h3
  exact tellSensors_kept (.ite (post_kept h4) h4)

theorem signedSelfTest_kept {h t} (hk : Kept d₀ d) : Kept d₀ (signedSelfTest d h t).2 := signedDo_kept hk (fun k => selfTestDo_kept k)

theorem execSelfTest_keeps {h t} {s : State} : Keeps s (execSelfTest h t s) := onSigned_keeps fun hk => signedSelfTest_kept hk

theorem execReadmitChecksDone_keeps {t failed coresOk portUp} {s : State} : Keeps s (execReadmitChecksDone t failed coresOk portUp s) :=
  onDevC_keeps fun {d₀} {_} hk => by
    refine .ite hk ?_
    extract_lets _ d2 d3 d4 _ _ d5
    have h3 : Kept d₀ d3 := coreResetStart_kept (tilesFail_kept hk)
    have h4 : Kept d₀ d4 := .ite (coreResetEnd_kept h3) h3
    have h5 : Kept d₀ d5 := .record h4
    refine .ite ?_ (tellSensors_kept (detectDevice_kept (.record h5)))
    exact tellSensors_kept (detectDevice_kept (ctrInc_kept (repostAll_kept (startFabric_kept (.record h5)))))

theorem dropAssoc_kept {i} (hk : Kept d₀ d) : Kept d₀ (dropAssoc d i) := .record hk

theorem setAssoc_kept {a} (hk : Kept d₀ d) : Kept d₀ (setAssoc d a) := .record hk

theorem saOpenDo_kept {b} (hk : Kept d₀ d) : Kept d₀ (saOpenDo d b) := .ite (emit_kept (.record hk)) (.record hk)

theorem signedSaOpen_kept {h b} (hk : Kept d₀ d) : Kept d₀ (signedSaOpen d h b).2 := signedDo_kept hk (fun k => saOpenDo_kept k)

theorem execSaOpen_keeps {h b} {s : State} : Keeps s (execSaOpen h b s) := onSigned_keeps fun hk => signedSaOpen_kept hk

theorem signedSaClose_kept {h sa} (hk : Kept d₀ d) : Kept d₀ (signedSaClose d h sa).2 := signedDo_kept hk (fun k => dropAssoc_kept k)

theorem execSaClose_keeps {h sa} {s : State} : Keeps s (execSaClose h sa s) := onSigned_keeps fun hk => signedSaClose_kept hk

theorem saFails_kept {a} (hk : Kept d₀ d) : Kept d₀ (saFails d a) := detect_kept (ctrInc_kept (dropAssoc_kept hk))

theorem execSaHello_keeps {m} {s : State} : Keeps s (execSaHello m s) :=
  onDev_keeps fun hk => by
    split
    · exact .ite hk (emit_kept (setAssoc_kept hk))
    · exact hk

theorem execSaReply_keeps {m} {s : State} : Keeps s (execSaReply m s) :=
  onDev_keeps fun hk => by
    split
    · exact .ite (ctrInc_kept (emit_kept (setAssoc_kept hk))) (saFails_kept hk)
    · exact hk

theorem execSaFinish_keeps {m} {s : State} : Keeps s (execSaFinish m s) :=
  onDev_keeps fun hk => by
    split
    · exact .ite hk (.ite (ctrInc_kept (setAssoc_kept hk)) (saFails_kept hk))
    · exact hk

theorem execSaHandshakeTimeout_keeps {localSa} {s : State} : Keeps s (execSaHandshakeTimeout localSa s) :=
  onDev_keeps fun hk => by
    split
    · exact .ite (saFails_kept hk) hk
    · exact hk

theorem signedFence_kept {h tiles} (hk : Kept d₀ d) : Kept d₀ (signedFence d h tiles).2 := signedDo_kept hk (fun k => fenceTiles_kept k)

theorem execFence_keeps {h tiles} {s : State} : Keeps s (execFence h tiles s) := onSigned_keeps fun hk => signedFence_kept hk

theorem signedUnfence_kept {h tiles} (hk : Kept d₀ d) : Kept d₀ (signedUnfence d h tiles).2 :=
  signedDo_kept hk (fun k => unfenceTiles_kept k)

theorem execUnfence_keeps {h tiles} {s : State} : Keeps s (execUnfence h tiles s) := onSigned_keeps fun hk => signedUnfence_kept hk

/-! ## Machine/Events.lean -/

theorem advance_kept {o s} (hk : Kept d₀ d) : Kept d₀ (advance d o s) := setOp_kept (noteOverrun_kept hk)

theorem expireB_kept {id} (hk : Kept d₀ d) : Kept d₀ (expireB d id) := by
  unfold expireB
  split
  · exact hk
  · split
    · exact .ite (endOp_kept (ctrInc_kept hk)) hk
    · exact hk

theorem relayDone_kept {o status} (hk : Kept d₀ d) : Kept d₀ (relayDone d o status) :=
  finishOp_kept (dropOp_kept (.ite (ctrInc_kept hk) hk))

theorem relayStage_kept {o s conn addr bs status} (hk : Kept d₀ d) : Kept d₀ (relayStage d o s conn addr bs status) :=
  .ite hk (relayDone_kept (hostWrite_kept (advance_kept hk)))

theorem xferWaits_kept {o s rec src fs} (hk : Kept d₀ d) : Kept d₀ (xferWaits d o s rec src fs) := by
  unfold xferWaits
  extract_lets d1 r2
  have h1 : Kept d₀ d1 := by
    unfold d1
    refine .ite hk ?_
    split
    · split
      · exact countWait_kept (setOp_kept hk)
      · exact hk
    · exact hk
  have h2 : Kept d₀ r2.2 := promoteAll_kept h1
  split
  · exact h2
  · split
    · exact failOp_kept h2
    · exact h2

theorem xferEnd_kept {id rec} (hk : Kept d₀ d) : Kept d₀ (xferEnd d id rec) := by
  unfold xferEnd
  split
  · exact hk
  · exact .ite (xferDone_kept hk) (expireB_kept hk)

theorem xferStage_kept {o s rec data src} (hk : Kept d₀ d) : Kept d₀ (xferStage d o s rec data src) := by
  have h1 {o} : Kept d₀ (advance d o s) := advance_kept hk
  unfold xferStage
  refine .ite (.ite (xferEnd_kept h1) hk) (.ite (.ite (xferWaits_kept hk) (expireB_kept h1)) ?_)
  refine .ite ?_ (.ite (xferEnd_kept h1) (.ite hk (xferEnd_kept (xferOut_kept (noteOverrun_kept hk)))))
  dsimp only
  split
  · exact .ite (xferToConn_kept (expireB_kept h1)) (expireB_kept h1)
  · exact expireB_kept h1

theorem farStage_kept {o s j} (hk : Kept d₀ d) : Kept d₀ (farStage d o s j) := by
  unfold farStage
  extract_lets _ next _ bad
  have h_next {x} (k : Kept d₀ x) : Kept d₀ (next x) := by
    unfold next
    extract_lets d1
    have h1 : Kept d₀ d1 := advance_kept k
    split
    · exact h1
    · extract_lets _ d2
      have h2 : Kept d₀ d2 := .ite h1 (.foldl (fun _ _ k => expireB_kept k) h1)
      refine .ite h2 ?_
      split
      · exact sendJob_kept h2
      · exact h2
  split
  · exact hk
  · exact .ite (h_next hk) hk
  · exact .ite (h_next hk) (jobWaits_kept hk)
  · have hb : Kept d₀ bad.2 := .foldl₂ (fun _ _ k => by
        split
        · exact .ite₂ k (poisonBody_kept k)
        · exact k) hk
    exact .ite hk (.ite (jobWaits_kept hk) (.ite (failJob_kept hb) (h_next hb)))
  · exact h_next hk
  · refine .ite hk (.ite (h_next hk) (.ite hk ?_))
    split
    next he => exact .snd (attendRound_kept hk) he
    next he =>
      split
      · exact h_next (setJob_kept (.snd (attendRound_kept hk) he))
      · exact .snd (attendRound_kept hk) he
  · exact hk

theorem opDone_kept {o} (hk : Kept d₀ d) : Kept d₀ (opDone d o) := by
  unfold opDone
  split
  · exact xferDone_kept hk
  · exact relayDone_kept hk
  · split
    · exact hk
    · split
      · exact memberDone_kept hk
      · exact hk

theorem opLeft_kept {id flight} (hk : Kept d₀ d) : Kept d₀ (opLeft d id flight) := by
  unfold opLeft
  split
  · exact hk
  · dsimp only
    split
    · split
      · exact advance_kept hk
      · exact hk
    · split
      · refine opDone_kept ?_
        split
        · exact advance_kept hk
        · exact hk
      · refine setOp_kept ?_
        split
        · exact advance_kept hk
        · exact hk

theorem opThere_kept {id} (hk : Kept d₀ d) : Kept d₀ (opThere d id) := by
  unfold opThere
  split
  · exact hk
  · exact .ite (opDone_kept hk) hk

theorem opLost_kept {id cause status} (hk : Kept d₀ d) : Kept d₀ (opLost d id cause status) := by
  unfold opLost
  split
  · exact hk
  · exact stopOp_kept hk

theorem execStageComplete_keeps {op found} {s : State} : Keeps s (execStageComplete op found s) :=
  onDevC_keeps fun {d₀} {_} hk => by
    split
    · exact hk
    · split
      · exact hk
      · refine .ite hk ?_
        extract_lets r1 d2
        have h1 : Kept d₀ r1.2 := .ite₂ (readLines_kept hk) hk
        have h2 : Kept d₀ d2 := h1
        split
        · exact relayStage_kept h2
        · exact .ite (failOp_kept h2) (xferStage_kept h2)
        · split
          · exact h2
          · exact .ite h2 (.ite (failJob_kept h2) (farStage_kept h2))

theorem execDeadlineWatch_keeps {op} {s : State} : Keeps s (execDeadlineWatch op s) :=
  onDevC_keeps fun hk => by
    split
    · exact hk
    · split
      · refine .ite hk (.ite (opDone_kept hk) ?_)
        split
        · split
          · exact failJob_kept hk
          · exact failOp_kept hk
        · exact failOp_kept hk
      · exact hk

theorem execAdmissionReplyRelease_keeps {s : State} : Keeps s (execAdmissionReplyRelease s) :=
  onDev_keeps fun hk => by
    refine .foldl (fun _ _ k => ?_) (.record hk)
    split
    · exact farEnd_kept k
    · exact complete_kept k

/-! ## Machine/Weft.lean -/

theorem sendPart_kept {c m i retx} (hk : Kept d₀ d) : Kept d₀ (sendPart d c m i retx) := by
  unfold sendPart
  refine sendPacket_kept ?_
  split
  · exact poisonRead_kept (.ite (ctrInc_kept hk) hk)
  · exact .ite (ctrInc_kept hk) hk

theorem pumpMsg_kept {cn msn fuel} (hk : Kept d₀ d) : Kept d₀ (pumpMsg cn msn fuel d) := by
  induction fuel generalizing d with
  | zero => exact hk
  | succ fuel ih =>
    rw [pumpMsg]
    split
    · exact hk
    · split
      · exact hk
      · exact .ite hk (.ite hk (ih (sendPart_kept (setConn_kept hk))))

theorem pumpConn_kept {cn} (hk : Kept d₀ d) : Kept d₀ (pumpConn d cn) := by
  unfold pumpConn
  split
  · exact .foldl (fun _ _ k => pumpMsg_kept k) hk
  · exact hk

theorem farLost_kept {h} (hk : Kept d₀ d) : Kept d₀ (farLost d h) := by
  unfold farLost
  split
  · exact hk
  · exact complete_kept (setReq_kept hk)

theorem svcSent_kept {m status nak} (hk : Kept d₀ d) : Kept d₀ (svcSent d m status nak) := by
  unfold svcSent
  extract_lets
  split
  · refine .ite hk ?_
    split
    · exact .ite hk (.ite (genAcked_kept hk) (genNakd_kept hk))
    · exact hk
  · exact .ite hk (placeNak_kept hk)
  · exact .ite hk (shipFail_kept hk)
  · exact .ite hk (handoffFail_kept hk)
  · refine .ite hk ?_
    split
    · exact homeWindowEnd_kept hk
    · exact windowFail_kept hk
  · exact .ite hk (lookupFail_kept hk)
  · exact .ite hk (farLost_kept hk)
  · exact hk

theorem svcLeft_kept {c m} (hk : Kept d₀ d) : Kept d₀ (svcLeft d c m) := by
  unfold svcLeft
  split
  · split
    · exact .ite (setReq_kept hk) hk
    · exact hk
  · split
    · exact setReq_kept hk
    · exact hk
  · exact hk

theorem entryEnds_kept {u ordinal status reply flight cause} (hk : Kept d₀ d) :
    Kept d₀ (entryEnds d u ordinal status reply flight cause) := by
  unfold entryEnds
  extract_lets
  split
  · exact hk
  · exact finishOp_kept hk
  · exact finishOp_kept hk
  · exact .ite (opLeft_kept hk) (opLost_kept hk)
  · exact headReadDone_kept hk
  · split
    · exact freeWritten_kept (putEnd_kept (setReq_kept hk))
    · exact hk
  · exact shipmentDone_kept hk
  · split
    · exact appendDone_kept hk
    · exact hk
  · split
    · exact homeWindowEnd_kept hk
    · exact hk
  · exact .ite hk (svcSent_kept hk)

theorem completeEntry_kept {cn u op ordinal status reply cause} (hk : Kept d₀ d) :
    Kept d₀ (completeEntry d cn u op ordinal status reply cause) := by
  unfold completeEntry
  refine entryEnds_kept (.ite ?_ ?_)
  · refine ctrInc_kept ?_
    split
    · exact setConn_kept hk
    · exact hk
  · split
    · exact setConn_kept hk
    · exact hk

theorem frameLeft_kept {cn msn} (hk : Kept d₀ d) : Kept d₀ (frameLeft d cn msn) := by
  unfold frameLeft
  split
  · exact hk
  · split
    · exact hk
    · refine .ite hk (.ite (setConn_kept hk) (.ite ?_ ?_))
      · refine completeEntry_kept ?_
        dsimp only
        split
        · exact svcLeft_kept (setConn_kept hk)
        · exact setConn_kept hk
      · dsimp only
        split
        · exact svcLeft_kept (setConn_kept hk)
        · exact setConn_kept hk

theorem unqueue_kept {cn} (hk : Kept d₀ d) : Kept d₀ (unqueue d cn) := .mapPorts hk fun _ h => h

theorem flushEntries_kept {cn st bad cause} (hk : Kept d₀ d) : Kept d₀ (flushEntries d cn st bad cause) := by
  unfold flushEntries
  split
  · exact hk
  · extract_lets _ _ _ _ d1 d2 d3
    have h1 : Kept d₀ d1 := setConn_kept (unqueue_kept hk)
    have h2 : Kept d₀ d2 := .foldl (fun _ _ k => completeEntry_kept k) h1
    have h3 : Kept d₀ d3 := .foldl (fun _ _ k => opLost_kept k) h2
    exact .foldl (fun _ _ k => svcSent_kept k) h3

theorem connError_kept {cn bad cause} (hk : Kept d₀ d) : Kept d₀ (connError d cn bad cause) := flushEntries_kept hk

theorem entryExpires_kept {e} (hk : Kept d₀ d) : Kept d₀ (entryExpires d e) := by
  unfold entryExpires
  split
  · exact expire_kept hk
  · exact expire_kept hk
  · exact hk

theorem execSendEntryStart_keeps {conn} {s : State} : Keeps s (execSendEntryStart conn s) :=
  onDevC_keeps fun hk => by
    split
    · exact hk
    · split
      · exact hk
      · refine .ite hk (.ite (entryExpires_kept (setConn_kept hk)) (.ite (completeEntry_kept (setConn_kept hk)) ?_))
        exact .ite (pumpConn_kept hk) (pumpMsg_kept (setConn_kept hk))

theorem execSendWaitTimeout_keeps {conn} {s : State} : Keeps s (execSendWaitTimeout conn s) :=
  onDevC_keeps fun hk => by
    split
    · exact hk
    · split
      · exact hk
      · exact .ite hk (connError_kept (detect_kept hk))

theorem execRetransmissionTimeout_keeps {conn msn} {s : State} : Keeps s (execRetransmissionTimeout conn msn s) :=
  onDevC_keeps fun hk => by
    split
    · exact hk
    · split
      · exact hk
      · refine .ite hk (.ite (connError_kept (detectFor_kept (ctrInc_kept hk))) ?_)
        exact .ite (sendPacket_kept (ctrInc_kept (setConn_kept hk))) (setConn_kept hk)

theorem rxCheck_kept {p} (hk : Kept d₀ d) : Kept d₀ (rxCheck d p).2 := by
  unfold rxCheck
  refine .ite₂ (ctrInc_kept hk) ?_
  dsimp only
  split
  · exact ctrInc_kept hk
  · refine .ite₂ (ctrInc_kept hk) (.ite₂ (ctrInc_kept hk) ?_)
    split
    · exact ctrInc_kept (.record hk)
    · exact .ite₂ (ctrInc_kept (.record hk)) (.ite₂ (ctrInc_kept (.record hk)) (ctrInc_kept (setConn_kept (.record hk))))

theorem onPkt_keeps {op p s} {f : Dev → Conn → Pkt → Dev} (hf : ∀ {d₀ d c p}, Kept d₀ d → Kept d₀ (f d c p)) :
    Keeps s (onPkt op f p s) :=
  onDevC_keeps fun hk => by
    split
    · exact hk
    · split
      next he => exact hf (.snd (rxCheck_kept hk) he)
      next he => exact .snd (rxCheck_kept hk) he

theorem resend_kept {c m is} (hk : Kept d₀ d) : Kept d₀ (resend d c m is) :=
  .ite hk (.foldl (fun _ _ k => .ite (sendPart_kept k) k) hk)

theorem execAck_keeps {p} {s : State} : Keeps s (execAck p s) :=
  onPkt_keeps fun hk => by
    split
    · exact hk
    · refine .ite (resend_kept (setConn_kept hk)) (pumpConn_kept (.ite ?_ ?_))
      · refine completeEntry_kept ?_
        split
        · exact .ite (svcSent_kept (setConn_kept hk)) (setConn_kept hk)
        · exact .ite (opThere_kept (setConn_kept hk)) (setConn_kept hk)
        · exact setConn_kept hk
      · split
        · exact .ite (svcSent_kept (setConn_kept hk)) (setConn_kept hk)
        · exact .ite (opThere_kept (setConn_kept hk)) (setConn_kept hk)
        · exact setConn_kept hk

theorem strike_kept {c path} (hk : Kept d₀ d) : Kept d₀ (strike d c path).2 := .ite₂ hk (ctrInc_kept hk)

theorem execSack_keeps {p} {s : State} : Keeps s (execSack p s) :=
  onPkt_keeps fun hk => by
    split
    · exact hk
    · refine resend_kept (setConn_kept ?_)
      split
      · exact strike_kept hk
      · exact hk

theorem execNak_keeps {p} {s : State} : Keeps s (execNak p s) :=
  onPkt_keeps fun {d₀} {_} {_} {_} hk => by
    split
    · exact hk
    · extract_lets _ d1 told d2 d3 d4 d5
      have h1 : Kept d₀ d1 := ctrInc_kept hk
      have h_told {x} (k : Kept d₀ x) : Kept d₀ (told x) := by
        unfold told
        split
        · exact svcSent_kept k
        · exact .ite (opLost_kept k) k
        · exact k
      refine .ite (pumpConn_kept (h_told (.ite (setConn_kept h1) ?_))) ?_
      · split
        · exact setConn_kept (setConn_kept h1)
        · exact setConn_kept h1
      · have h4 : Kept d₀ d4 := h_told (detectFor_kept (setConn_kept h1))
        exact connError_kept (.ite h4 (completeEntry_kept h4))

theorem execReadResp_keeps {p} {s : State} : Keeps s (execReadResp p s) :=
  onPkt_keeps fun hk => by
    split
    · exact hk
    · exact .ite hk (.ite (setConn_kept hk) (pumpConn_kept (completeEntry_kept (setConn_kept hk))))

theorem regionPut_kept {r off bs poison} (hk : Kept d₀ d) (he : regionPut d r off bs poison = some e) : Kept d₀ e := by
  unfold regionPut at he
  extract_lets at he
  split at he
  · cases he; exact .ite hk (windowWrite_kept hk)
  · split at he
    · cases he
    · next hx =>
      have h1 := workWrite_kept hk hx
      split at he
      · cases he; exact h1
      · cases he; exact .foldl (fun _ _ k => setPoison_kept k) h1

theorem answerAgain_kept {c p} (hk : Kept d₀ d) : Kept d₀ (answerAgain d c p) := respond_kept hk

theorem takeTracker_kept {c p} (hk : Kept d₀ d) : Kept d₀ (takeTracker d c p).2 := by
  unfold takeTracker
  split
  · exact hk
  · exact .ite₂ (ctrInc_kept hk) (.record hk)

theorem inWindow_kept {c p} {f : Dev → Conn → Pkt → Tracker → Dev} (hk : Kept d₀ d)
    (hf : ∀ {x c p t}, Kept d₀ x → Kept d₀ (f x c p t)) : Kept d₀ (inWindow f d c p) := by
  unfold inWindow
  split
  · exact .ite (answerAgain_kept hk) hk
  · exact ctrInc_kept hk
  · split
    next he => exact .snd (takeTracker_kept hk) he
    next he => exact .ite (.snd (takeTracker_kept hk) he) (hf (.snd (takeTracker_kept hk) he))

theorem deliverImm_kept {c t} (hk : Kept d₀ d) : Kept d₀ (deliverImm d c t) := by
  unfold deliverImm
  split
  · exact hk
  · exact .ite (partialIn_kept hk) (.ite (ctrInc_kept hk) (ringPut_kept hk))

theorem notePlaced_kept {c p t held} (hk : Kept d₀ d) : Kept d₀ (notePlaced d c p t held) := by
  unfold notePlaced
  extract_lets _ _ d1
  have h1 : Kept d₀ d1 := setTracker_kept hk
  exact .ite h1 (.ite (setTracker_kept h1) (answerMsg_kept (deliverImm_kept (.ite (.record h1) h1))))

theorem execWrite_keeps {p} {s : State} : Keeps s (execWrite p s) :=
  onPkt_keeps fun hk => by
    refine flushesEnded_kept (inWindow_kept hk fun k => ?_)
    refine .ite k (.ite (notePlaced_kept k) ?_)
    split
    · exact answerMsg_kept k
    · split
      · exact answerMsg_kept k
      next he => exact notePlaced_kept (regionPut_kept k he)

theorem execSend_keeps {p} {s : State} : Keeps s (execSend p s) :=
  onPkt_keeps fun hk => flushesEnded_kept (inWindow_kept hk (fun k => .ite k (.ite (answerMsg_kept k) (notePlaced_kept k))))

theorem readReply_kept {c p r found} (hk : Kept d₀ d) : Kept d₀ (readReply d c p r found) :=
  .foldl (fun _ _ k => by
    extract_lets _ _ x y
    have hx : Kept d₀ x.2 := .ite₂ k (readRanges_kept k)
    have hy : Kept d₀ y.2 := .ite₂ (faultOp_kept hx) hx
    exact sendPacket_kept hy) hk

theorem execReadReq_keeps {x} {s : State} : Keeps s (execReadReq x s) :=
  onPkt_keeps fun {d₀} {d} {c} {p} hk => by
    extract_lets was serve
    have h_serve {x c e} (k : Kept d₀ x) (he : serve x c = .inl e) : Kept d₀ e := by
      unfold serve at he
      split at he
      · cases he
      · split at he
        · cases he
        · cases he
          exact readReply_kept k
    refine .ite ?_ (flushesEnded_kept (inWindow_kept hk fun k => ?_))
    · split
      · next he => exact h_serve hk he
      · exact hk
    · split
      · exact answerMsg_kept k
      · next he => exact wakeFlushes_kept (markDone_kept (dropTracker_kept (h_serve k he)))

theorem execFlushPacket_keeps {p} {s : State} : Keeps s (execFlushPacket p s) :=
  onPkt_keeps fun hk => by
    split
    · exact .ite (answerAgain_kept hk) hk
    · exact ctrInc_kept hk
    · split
      next he => exact .snd (takeTracker_kept hk) he
      next he => exact flushesEnded_kept (wakeFlushes_kept (.snd (takeTracker_kept hk) he))

theorem execProbe_keeps {p} {s : State} : Keeps s (execProbe p s) :=
  onPkt_keeps fun hk => by
    split
    · exact answerAgain_kept hk
    · exact ctrInc_kept hk
    · split
      · exact respond_kept hk
      · exact respond_kept hk

theorem cmdEnd_kept {status value} (hk : Kept d₀ d) : Kept d₀ (cmdEnd d status value) := .record hk

theorem onCmd_keeps {fn target blk s} {f : Dev → Bytes → Dev} (hf : ∀ {d₀ d b}, Kept d₀ d → Kept d₀ (f d b)) :
    Keeps s (onCmd fn target blk f s) :=
  onDevC_keeps fun hk => by
    split
    · exact hk
    · split
      · exact cmdEnd_kept (ctrInc_kept (faultPlain_kept hk))
      · exact .ite hk (hf hk)

theorem execConnCreate_keeps {fn conn blk} {s : State} : Keeps s (execConnCreate fn conn blk s) :=
  onCmd_keeps fun hk => by
    refine .ite (cmdEnd_kept hk) ?_
    dsimp only
    split
    · exact cmdEnd_kept hk
    · exact cmdEnd_kept (.record hk)

theorem execConnModify_keeps {fn conn blk} {s : State} : Keeps s (execConnModify fn conn blk s) :=
  onCmd_keeps fun hk => by
    split
    · exact cmdEnd_kept hk
    · refine .ite (cmdEnd_kept hk) ?_
      dsimp only
      split
      · exact cmdEnd_kept hk
      · exact cmdEnd_kept (setConn_kept hk)

theorem execConnReset_keeps {fn conn blk} {s : State} : Keeps s (execConnReset fn conn blk s) :=
  onCmd_keeps fun hk => by
    split
    · exact cmdEnd_kept hk
    · refine .ite (cmdEnd_kept hk) (cmdEnd_kept (.record ?_))
      split
      · exact flushEntries_kept hk
      · exact setConn_kept (flushEntries_kept hk)

theorem execConnDestroy_keeps {fn conn} {s : State} : Keeps s (execConnDestroy fn conn s) :=
  onCmd_keeps fun hk => by
    split
    · exact cmdEnd_kept hk
    · exact .ite (cmdEnd_kept hk) (cmdEnd_kept (flushEntries_kept hk))

theorem execConnDestroyDrained_keeps {conn} {s : State} : Keeps s (execConnDestroyDrained conn s) :=
  onDev_keeps fun hk => by
    split
    · exact .ite hk (.record hk)
    · exact hk

theorem execRegionCreate_keeps {fn index blk} {s : State} : Keeps s (execRegionCreate fn index blk s) :=
  onCmd_keeps fun hk => .ite (cmdEnd_kept hk) (.ite (cmdEnd_kept hk) (cmdEnd_kept (.record hk)))

theorem execRegionRevoke_keeps {fn key} {s : State} : Keeps s (execRegionRevoke fn key s) :=
  onCmd_keeps fun hk => by
    dsimp only
    split
    · exact cmdEnd_kept hk
    · exact .ite (cmdEnd_kept hk) (.record hk)

theorem execRegionRevokeDrained_keeps {index} {s : State} : Keeps s (execRegionRevokeDrained index s) :=
  onDev_keeps fun hk => by
    split
    · exact .ite hk (cmdEnd_kept (ctrInc_kept (.record hk)))
    · exact hk

theorem flushRecord_kept {t op} (hk : Kept d₀ d) : Kept d₀ (flushRecord d t op) := by
  unfold flushRecord
  dsimp only
  split
  · exact refuseTaken_kept hk
  · exact .ite (refuseTaken_kept hk) (postEntry_kept (dropTaken_kept hk))

theorem execFlush_keeps {lane seq} {s : State} : Keeps s (execFlush lane seq s) := onTaken_keeps fun hk => flushRecord_kept hk

theorem execWaitOnly_keeps {lane seq} {s : State} : Keeps s (execWaitOnly lane seq s) := onTaken_keeps fun hk => flushRecord_kept hk

/-! ## Machine/Ports.lean -/

theorem portFault_kept {p v cause} (hk : Kept d₀ d) : Kept d₀ (portFault d p v cause) := detect_kept hk

theorem sendLinkWord_kept {p type body} (hk : Kept d₀ d) : Kept d₀ (sendLinkWord d p type body) := emit_kept hk

theorem noteWaits_kept {p} (hk : Kept d₀ d) : Kept d₀ (noteWaits d p) :=
  .ite hk (setPort_kept hk fun h =>
    let ⟨hi, hf, hu, hpf, hpa, hx, _, _⟩ := portAt_shaped hk h
    ⟨hi, hf, hu, hpf, hpa, hx, rfl, rfl⟩)

theorem execCreditStall_keeps {port vc} {s : State} : Keeps s (execCreditStall port vc s) :=
  onDev_keeps fun hk => by
    dsimp only
    split
    · exact noteWaits_kept hk
    · refine .ite (noteWaits_kept hk) (portFault_kept (ctrInc_kept (setPort_kept (noteWaits_kept hk) fun h => ?_)))
      obtain ⟨hi, hf, hu, hpf, hpa, hx, hv, hw⟩ := portAt_shaped (noteWaits_kept hk) h
      exact ⟨hi, hf, hu, hpf, hpa, hx, List.length_set.trans hv, hw⟩

theorem startPort_kept {p} (hk : Kept d₀ d) : Kept d₀ (startPort d p) := .ite hk (setPort_kept hk (portAt_shaped hk))

theorem execPortTrainingDone_keeps {port pass rttNs} {s : State} : Keeps s (execPortTrainingDone port pass rttNs s) :=
  onDev_keeps fun hk => by
    refine .ite hk (.ite (post_kept (setPort_kept hk fun h => ?_))
      (ctrInc_kept (portFault_kept (setPort_kept hk fun h => portAt_shaped hk h))))
    obtain ⟨hi, _, _, _, _, _, hv, hw⟩ := portAt_shaped hk h
    exact ⟨hi, rfl, rfl, rfl, rfl, rfl, hv, hw⟩

theorem execPortRetrainTimer_keeps {port} {s : State} : Keeps s (execPortRetrainTimer port s) :=
  onDev_keeps fun hk => .ite (startPort_kept hk) hk

theorem movePaths_kept {p} (hk : Kept d₀ d) : Kept d₀ (movePaths d p) := by
  unfold movePaths
  split
  · exact hk
  · exact .record hk

theorem execPortLinkLoss_keeps {port} {s : State} : Keeps s (execPortLinkLoss port s) :=
  onDev_keeps fun hk => by
    refine .ite hk (movePaths_kept (ctrInc_kept (portFault_kept (unpost_kept (setPort_kept hk fun h => ?_)))))
    obtain ⟨_, hf, hu, hpf, hpa, hx, _, _⟩ := portAt_shaped hk h
    exact ⟨rfl, hf, hu, hpf, hpa, hx, rfl, rfl⟩

/-- The port that the command works on is shaped as those at the start. -/
theorem onLinkWord_keeps {type port w s} {f : Dev → Port → Nat → Dev}
    (hf : ∀ {d₀ d x b}, Kept d₀ d → ShapedAs d₀ x → Kept d₀ (f d x b)) : Keeps s (onLinkWord type port w f s) :=
  onDev_keeps fun hk => .ite (hf hk (portAt_shaped hk)) hk

theorem execLinkWordAck_keeps {port word} {s : State} : Keeps s (execLinkWordAck port word s) :=
  onLinkWord_keeps fun hk hx => setPort_kept hk fun h => hx h

theorem addTotal_length (l : List Nat) (v n : Nat) : (addTotal l v n).length = l.length := List.length_set

theorem foldl_addTotal_length {α : Type} (vc n : α → Nat) (fs : List α) (l : List Nat) :
    (fs.foldl (fun u f => addTotal u (vc f) (n f)) l).length = l.length := by
  induction fs generalizing l with
  | nil => rfl
  | cons f fs ih => exact (ih _).trans (addTotal_length ..)

theorem startReplay_kept {p from_} (hk : Kept d₀ d) : Kept d₀ (startReplay d p from_) := by
  unfold startReplay
  extract_lets x fs dead stay d1 d2 d3
  have h1 : Kept d₀ d1 := setPort_kept hk fun h =>
    let ⟨hi, hf, hu, hpf, hpa, hx, hv, hw⟩ := portAt_shaped hk h
    ⟨hi, hf, (foldl_addTotal_length ..).trans hu, hpf, hpa, hx, hv, hw⟩
  have h2 : Kept d₀ d2 := .foldl (fun _ _ k => portFault_kept (ctrInc_kept k)) h1
  have h3 : Kept d₀ d3 := .ite h2 (sendLinkWord_kept h2)
  exact .ite h3 (ctrInc_kept h3)

theorem execLinkWordNack_keeps {port word} {s : State} : Keeps s (execLinkWordNack port word s) :=
  onLinkWord_keeps fun hk _ => .ite (startReplay_kept hk) hk

theorem execLinkWordCredit_keeps {port word} {s : State} : Keeps s (execLinkWordCredit port word s) :=
  onLinkWord_keeps fun hk hx => noteWaits_kept (setPort_kept hk fun h =>
    let ⟨hi, hf, hu, _, hpa, hxo, hv, hw⟩ := hx h
    ⟨hi, hf, hu, rfl, hpa, hxo, hv, hw⟩)

theorem execLinkWordLane_keeps {port word} {s : State} : Keeps s (execLinkWordLane port word s) :=
  onDev_keeps fun hk => .ite (setPort_kept hk (portAt_shaped hk)) hk

theorem execLinkWordSkip_keeps {port word} {s : State} : Keeps s (execLinkWordSkip port word s) :=
  onLinkWord_keeps fun hk hx => .ite (setPort_kept hk fun h => hx h) hk

theorem execLlrTimeout_keeps {port} {s : State} : Keeps s (execLlrTimeout port s) :=
  onDev_keeps fun hk => by
    dsimp only
    split
    · exact hk
    · exact .ite hk (startReplay_kept hk)

theorem police_kept {p c n yellow} (hk : Kept d₀ d) : Kept d₀ (police d p c n yellow).2 := by
  unfold police
  extract_lets
  have h1 {x : Port} (hx : ShapedAs d₀ x) : Kept d₀ (setPort d p x) := setPort_kept hk hx
  have hx := portAt_shaped hk (p := p)
  exact .ite₂ (.ite₂ (h1 hx) (.ite₂ (h1 hx) (h1 hx))) (.ite₂ (.ite₂ (h1 hx) (.ite₂ (h1 hx) (h1 hx))) hk)

theorem dropFrame_kept {p f} (hk : Kept d₀ d) : Kept d₀ (dropFrame d p f) :=
  .ite hk (sendLinkWord_kept (setPort_kept hk fun h =>
    let ⟨hi, hf, hu, hpf, hpa, hx, hv, hw⟩ := portAt_shaped hk h
    ⟨hi, (addTotal_length ..).trans hf, hu, hpf, hpa, hx, hv, hw⟩))

/-- A port whose pause of one channel is noted is shaped as before. -/
theorem ShapedAs.setXoff {x : Port} {v : Nat} {t : Option Nat} (hx : ShapedAs d₀ x) : ShapedAs d₀ { x with xoff := x.xoff.set v t } := by
  intro h
  obtain ⟨hi, hf, hu, hpf, hpa, hxo, hv, hw⟩ := hx h
  exact ⟨hi, hf, hu, hpf, hpa, List.length_set.trans hxo, hv, hw⟩

theorem xoffCheck_kept {p v} (hk : Kept d₀ d) : Kept d₀ (xoffCheck d p v) :=
  .ite (ctrInc_kept (emit_kept (setPort_kept hk (portAt_shaped hk).setXoff))) hk

theorem acceptFrame_kept {p f} (hk : Kept d₀ d) : Kept d₀ (acceptFrame d p f) := by
  unfold acceptFrame
  refine .ite hk (.ite (dropFrame_kept (ctrInc_kept hk)) ?_)
  extract_lets r d1 x d2
  have h1 : Kept d₀ d1 := police_kept hk
  have h2 : Kept d₀ d2 := setPort_kept h1 fun h =>
    let ⟨hi, hf, hu, hpf, hpa, hx, hv, hw⟩ := portAt_shaped h1 h
    ⟨List.length_set.trans hi, hf, hu, hpf, hpa, hx, hv, hw⟩
  split
  · exact dropFrame_kept (ctrInc_kept h1)
  · exact .ite (dropFrame_kept (ctrInc_kept h1)) (xoffCheck_kept (ctrAdd_kept (ctrInc_kept h2)))

theorem execIngressFrame_keeps {port f} {s : State} : Keeps s (execIngressFrame port f s) :=
  onDev_keeps fun {d₀} {d} hk => by
    extract_lets x d1
    have hx : ShapedAs d₀ x := portAt_shaped hk
    have h1 : Kept d₀ d1 := ctrAdd_kept hk
    refine .ite hk (.ite (.ite (sendLinkWord_kept (setPort_kept (ctrInc_kept h1) fun h => hx h)) (ctrInc_kept h1)) ?_)
    refine .ite (acceptFrame_kept h1) (.ite (.ite h1 (sendLinkWord_kept (setPort_kept h1 fun h => hx h))) ?_)
    exact acceptFrame_kept (sendLinkWord_kept (setPort_kept h1 fun h => hx h))

theorem takeIngress_kept {p} (hk : Kept d₀ d) : Kept d₀ (takeIngress d p) := by
  unfold takeIngress
  extract_lets x some_ d1
  have h1 : Kept d₀ d1 := setPort_kept hk fun h =>
    let ⟨_, _, hu, hpf, hpa, hx, hv, hw⟩ := portAt_shaped hk h
    ⟨rfl, rfl, hu, hpf, hpa, hx, hv, hw⟩
  exact .ite hk (.ite (.ite (sendLinkWord_kept h1) h1) (.foldl (fun _ _ k =>
    .ite (ctrInc_kept (emit_kept (setPort_kept k (portAt_shaped k).setXoff))) k) h1))

theorem execNeighborSolicitation_keeps {port forUs} {s : State} : Keeps s (execNeighborSolicitation port forUs s) :=
  onDev_keeps fun hk => .ite hk (.ite (emit_kept hk) (ctrInc_kept hk))

theorem execPfcFrame_keeps {port enable quanta} {s : State} : Keeps s (execPfcFrame port enable quanta s) :=
  onDev_keeps fun hk =>
    .ite hk (.ite (ctrInc_kept hk) (noteWaits_kept (ctrInc_kept (setPort_kept hk fun h =>
      let ⟨hi, hf, hu, hpf, _, hx, hv, hw⟩ := portAt_shaped hk h
      ⟨hi, hf, hu, hpf, rfl, hx, hv, hw⟩))))

theorem execPauseExpiry_keeps {port vc} {s : State} : Keeps s (execPauseExpiry port vc s) :=
  onDev_keeps fun hk => by
    dsimp only
    split
    · refine .ite (noteWaits_kept (setPort_kept hk fun h => ?_)) hk
      obtain ⟨hi, hf, hu, hpf, hpa, hx, hv, hw⟩ := portAt_shaped hk h
      exact ⟨hi, hf, hu, hpf, List.length_set.trans hpa, hx, hv, hw⟩
    · exact hk

theorem execPfcXoffRefresh_keeps {port vc} {s : State} : Keeps s (execPfcXoffRefresh port vc s) :=
  onDev_keeps fun hk => by
    dsimp only
    split
    · exact .ite hk (ctrInc_kept (emit_kept (setPort_kept hk (portAt_shaped hk).setXoff)))
    · exact hk

theorem keepBudget_kept {f} (hk : Kept d₀ d) : Kept d₀ (keepBudget d f) := by
  unfold keepBudget
  split
  · exact .ite hk (setConn_kept hk)
  · exact hk

theorem onWire_kept {p f} (hk : Kept d₀ d) : Kept d₀ (onWire d p f) := emit_kept (ctrAdd_kept (setPort_kept hk (portAt_shaped hk)))

theorem startFrame_kept {p x f i} (hk : Kept d₀ d) (hx : ShapedAs d₀ x) : Kept d₀ (startFrame d p x f i) := by
  unfold startFrame
  extract_lets g d1 tag d2 d3 d4
  have h1 : Kept d₀ d1 := keepBudget_kept hk
  have h2 : Kept d₀ d2 := setPort_kept h1 fun h => by
    obtain ⟨hi, hf, hu, hpf, hpa, hxo, hv, hw⟩ := hx h
    refine ⟨hi, hf, ?_, hpf, hpa, hxo, hv, hw⟩
    dsimp only
    split
    · exact (addTotal_length ..).trans hu
    · exact hu
  have h3 : Kept d₀ d3 := onWire_kept (ctrInc_kept h2)
  have h4 : Kept d₀ d4 := .ite (ctrInc_kept h3) h3
  split
  · exact .ite (frameLeft_kept h4) h4
  · exact h4

theorem replayFrame_kept {p x n rest} (hk : Kept d₀ d) (hx : ShapedAs d₀ x) : Kept d₀ (replayFrame d p x n rest) := by
  unfold replayFrame
  split
  · exact setPort_kept hk fun h => hx h
  · exact onWire_kept (setPort_kept hk fun h => hx h)

/-- Tagging the heads of the classes leaves the eight lists alone. -/
theorem tagHeads_shaped {p} (hk : Kept d₀ d) : ShapedAs d₀ (tagHeads d p) := by
  refine List.foldlRecOn (motive := ShapedAs d₀) _ _ (portAt_shaped hk) fun x hx c _ => ?_
  split
  · exact fun h => hx h
  · dsimp only
    split
    · exact hx
    · exact fun h => hx h

theorem execEgressFrameStart_keeps {port pick} {s : State} : Keeps s (execEgressFrameStart port pick s) :=
  onDevC_keeps fun hk => by
    refine .ite hk ?_
    split
    · exact replayFrame_kept hk (portAt_shaped hk)
    · have h1 := setPort_kept (p := port) hk (tagHeads_shaped (p := port) hk)
      dsimp only
      split
      · exact noteWaits_kept h1
      · exact .ite h1 (noteWaits_kept (startFrame_kept h1 (tagHeads_shaped hk)))

theorem noteGuard_kept {p} (hk : Kept d₀ d) : Kept d₀ (noteGuard d p) := by
  unfold noteGuard
  dsimp only
  split
  · exact .ite hk (ctrAdd_kept (setPort_kept hk (portAt_shaped hk)))
  · exact .ite (setPort_kept hk (portAt_shaped hk)) hk

theorem execGateEntryBoundary_keeps {port} {s : State} : Keeps s (execGateEntryBoundary port s) :=
  onDev_keeps fun hk => .ite (noteGuard_kept hk) hk

theorem signedGateSwitch_kept {h p l t} (hk : Kept d₀ d) : Kept d₀ (signedGateSwitch d h p l t).2 :=
  signedDo_kept hk fun k => reportOver_kept (setPort_kept k fun h => portAt_shaped k h)

theorem execGateSwitch_keeps {h port list at_} {s : State} : Keeps s (execGateSwitch h port list at_ s) :=
  onSigned_keeps fun hk => signedGateSwitch_kept hk

theorem execGateSwitchover_keeps {port} {s : State} : Keeps s (execGateSwitchover port s) :=
  onDev_keeps fun hk => by
    dsimp only
    split
    · exact .ite hk (ctrInc_kept (setPort_kept hk (portAt_shaped hk)))
    · exact hk

theorem nackAgain_kept {p} (hk : Kept d₀ d) : Kept d₀ (nackAgain d p) := .ite (sendLinkWord_kept hk) hk

theorem portTick_kept {p} (hk : Kept d₀ d) : Kept d₀ (portTick d p) :=
  .ite (noteGuard_kept (noteWaits_kept (nackAgain_kept (takeIngress_kept hk)))) hk

/-! ## Machine/Lines.lean -/

theorem lineCheck_kept {p} (hk : Kept d₀ d) : Kept d₀ (lineCheck d p).2 := by
  unfold lineCheck
  refine .ite₂ (ctrInc_kept hk) ?_
  dsimp only
  split
  · exact ctrInc_kept hk
  · refine .ite₂ (ctrInc_kept hk) ?_
    split
    · exact ctrInc_kept (.record hk)
    · exact .ite₂ (ctrInc_kept (.record hk)) (.record hk)

theorem onLine_keeps {op p s} {f : Dev → Conn → LinePkt → Dev} (hf : ∀ {d₀ d c p}, Kept d₀ d → Kept d₀ (f d c p)) :
    Keeps s (onLine op f p s) :=
  onDevC_keeps fun hk => by
    split
    · exact hk
    · split
      next he => exact hf (.snd (lineCheck_kept hk) he)
      next he => exact .snd (lineCheck_kept hk) he

theorem sendLine_kept {c vc h bs} (hk : Kept d₀ d) : Kept d₀ (sendLine d c vc h bs) := by
  unfold sendLine
  dsimp only
  split
  · exact hk
  next he => exact queueFrame_kept (takePn_kept hk he)

theorem lineAnswer_kept {c p op status poison bs} (hk : Kept d₀ d) : Kept d₀ (lineAnswer d c p op status poison bs) :=
  sendLine_kept (.ite (ctrInc_kept hk) hk)

theorem execLineRd_keeps {p errs busy} {s : State} : Keeps s (execLineRd p errs busy s) :=
  onLine_keeps fun {d₀} {_} {_} {_} hk => by
    refine .ite hk ?_
    split
    · exact lineAnswer_kept hk
    · refine .ite (lineAnswer_kept hk) ?_
      split
      · exact lineAnswer_kept (ctrInc_kept hk)
      · refine .ite (lineAnswer_kept hk) ?_
        extract_lets r1 d2
        have h1 : Kept d₀ r1.2 := readSasLine_kept hk
        have h2 : Kept d₀ d2 := ctrInc_kept h1
        exact .ite (lineAnswer_kept (faultOp_kept h2)) (lineAnswer_kept h2)
      · exact hk

theorem lineStore_kept {owner a bs} (hk : Kept d₀ d) : Kept d₀ (lineStore d owner a bs).2 := by
  unfold lineStore
  split
  · split
    next he => exact workWrite_kept hk he
    · exact hk
  · refine .ite₂ hk ?_
    dsimp only
    split
    · exact hk
    next he => exact setReq_kept (workWrite_kept hk he)

theorem execLineWr_keeps {p busy} {s : State} : Keeps s (execLineWr p busy s) :=
  onLine_keeps fun hk => by
    refine .ite hk (.ite (lineAnswer_kept hk) ?_)
    split
    · exact lineAnswer_kept hk
    · refine .ite (lineAnswer_kept hk) ?_
      split
      · exact lineAnswer_kept (ctrInc_kept (windowWrite_kept hk))
      · exact .ite (lineAnswer_kept (ctrInc_kept (lineStore_kept hk))) (lineAnswer_kept (lineStore_kept hk))
      · exact hk

theorem setLq_kept {q} (hk : Kept d₀ d) : Kept d₀ (setLq d q) := .record hk

theorem lineResult_kept {x status poison line} (hk : Kept d₀ d) : Kept d₀ (lineResult d x status poison line) :=
  hostWrite_kept (.ite hk (.ite (hostWriteAttr_kept hk) (hostWrite_kept hk)))

theorem lineIssue_kept {x} (hk : Kept d₀ d) : Kept d₀ (lineIssue d x) := by
  unfold lineIssue
  split
  · exact lineResult_kept hk
  · refine .ite (lineResult_kept hk) ?_
    dsimp only
    split
    · exact hk
    · exact sendLine_kept (ctrInc_kept (.record hk))

theorem pumpLines_kept {o fuel} (hk : Kept d₀ d) : Kept d₀ (pumpLines o fuel d) := by
  induction fuel generalizing d with
  | zero => exact hk
  | succ fuel ih =>
    rw [pumpLines]
    split
    · exact hk
    · extract_lets
      split
      · exact .ite (.record hk) hk
      · exact .ite hk (ih (lineIssue_kept (setLq_kept hk)))

theorem linesGo_kept {o} (hk : Kept d₀ d) : Kept d₀ (linesGo d o) := by
  unfold linesGo
  split
  · exact pumpLines_kept hk
  · exact hk

theorem onLqSetup_keeps {fn v s} {f : Dev → Nat → Dev} (hf : ∀ {d₀ d o}, Kept d₀ d → Kept d₀ (f d o)) :
    Keeps s (onLqSetup fn v f s) :=
  onDev_keeps fun hk => .ite hk (.ite (ctrInc_kept hk) (.ite hk (hf hk)))

theorem execLineQueueSetup_keeps {fn value} {s : State} : Keeps s (execLineQueueSetup fn value s) :=
  onLqSetup_keeps fun hk => .ite hk (.record hk)

theorem execLineQueueTeardown_keeps {fn value} {s : State} : Keeps s (execLineQueueTeardown fn value s) :=
  onLqSetup_keeps fun hk => by
    refine .ite hk ?_
    split
    · exact hk
    · exact linesGo_kept (setLq_kept hk)

theorem readSlot_kept {q} (hk : Kept d₀ d) : Kept d₀ (readSlot d q) := emitReads_kept hk

theorem takeDesc_kept {q b} (hk : Kept d₀ d) : Kept d₀ (takeDesc d q b) := by
  unfold takeDesc
  refine readSlot_kept (.ite (lineResult_kept (setLq_kept hk)) ?_)
  dsimp only
  split
  · exact lineResult_kept (setLq_kept hk)
  · exact .ite (lineResult_kept (setLq_kept hk)) (linesGo_kept (setLq_kept (setLq_kept hk)))

theorem onSlot_keeps {o slot s} {f : Dev → LineQueue → Bytes → Int → Dev} (hf : ∀ {d₀ d q b n}, Kept d₀ d → Kept d₀ (f d q b n)) :
    Keeps s (onSlot o slot f s) :=
  onDevC_keeps fun hk => by
    split
    · exact hk
    · split
      · exact ctrInc_kept (faultWrite_kept hk)
      · exact hf hk

theorem execLineQueuePoll_keeps {owner slot} {s : State} : Keeps s (execLineQueuePoll owner slot s) :=
  onSlot_keeps fun {d₀} {_} {_} {_} {_} hk => by
    extract_lets d1
    have h1 : Kept d₀ d1 := readSlot_kept hk
    exact .ite (detectFor_kept (setLq_kept h1)) (.ite (takeDesc_kept h1) h1)

theorem execLineRead_keeps {owner slot} {s : State} : Keeps s (execLineRead owner slot s) :=
  onSlot_keeps fun hk => .ite (takeDesc_kept hk) hk

theorem execLineWrite_keeps {owner slot} {s : State} : Keeps s (execLineWrite owner slot s) :=
  onSlot_keeps fun hk => .ite (takeDesc_kept hk) hk

theorem endIssue_kept {i status poison line} (hk : Kept d₀ d) : Kept d₀ (endIssue d i status poison line) :=
  linesGo_kept (lineResult_kept (.record hk))

theorem lineResponse_kept {ok c p} (hk : Kept d₀ d) : Kept d₀ (lineResponse ok d c p) := by
  unfold lineResponse
  split
  · exact ctrInc_kept hk
  · exact .ite (ctrInc_kept hk) (endIssue_kept hk)

theorem execRdData_keeps {p} {s : State} : Keeps s (execRdData p s) := onLine_keeps fun hk => lineResponse_kept hk

theorem execWrDone_keeps {p} {s : State} : Keeps s (execWrDone p s) := onLine_keeps fun hk => lineResponse_kept hk

theorem execLineNak_keeps {p} {s : State} : Keeps s (execLineNak p s) := onLine_keeps fun hk => lineResponse_kept hk

theorem execLineReadResend_keeps {tag} {s : State} : Keeps s (execLineReadResend tag s) :=
  onDevC_keeps fun hk => by
    split
    · exact hk
    · refine .ite hk ?_
      split
      · exact endIssue_kept hk
      · exact .ite (endIssue_kept hk) (sendLine_kept (ctrInc_kept (.record hk)))

theorem execLineDeadTimeout_keeps {tag} {s : State} : Keeps s (execLineDeadTimeout tag s) :=
  onDevC_keeps fun hk => by
    split
    · exact hk
    · exact .ite hk (detectFor_kept (ctrInc_kept (endIssue_kept hk)))

/-! ## Machine/Checks.lean -/

theorem setCheck_kept {u x} (hk : Kept d₀ d) : Kept d₀ (setCheck d u x) := .checkUnits hk List.length_set

theorem checkStart_kept {u fuel} (hk : Kept d₀ d) : Kept d₀ (checkStart u fuel d) := by
  induction fuel generalizing d with
  | zero => exact hk
  | succ fuel ih =>
    rw [checkStart]
    split
    · exact hk
    · exact .ite (ih (expire_kept (setCheck_kept hk))) (.ite (ih (refuse_kept (setCheck_kept hk))) (.ite hk (emitReads_kept hk)))

theorem checkRecord_kept {t cont} (hk : Kept d₀ d) : Kept d₀ (checkRecord d t cont) := by
  unfold checkRecord
  dsimp only
  split
  · exact refuseTaken_kept hk
  · exact .ite (refuseTaken_kept hk) (.ite (checkStart_kept (setCheck_kept (dropTaken_kept hk))) (setCheck_kept (dropTaken_kept hk)))

theorem execCheck_keeps {lane seq} {s : State} : Keeps s (execCheck lane seq s) := onTaken_keeps fun hk => checkRecord_kept hk

theorem execCheckContinue_keeps {lane seq} {s : State} : Keeps s (execCheckContinue lane seq s) :=
  onTaken_keeps fun hk => checkRecord_kept hk

theorem checkSource_kept {c src errs} (hk : Kept d₀ d) : Kept d₀ (checkSource d c src errs).2 := by
  unfold checkSource
  refine .ite₂ ?_ (.ite₂ hk (.ite₂ (faultOp_kept (readRanges_kept hk)) (readRanges_kept hk)))
  split
  · exact hk
  · exact hk

theorem execCheckCommandDone_keeps {unit src errs} {s : State} : Keeps s (execCheckCommandDone unit src errs s) :=
  onDev_keeps fun hk => by
    split
    · exact hk
    · refine checkStart_kept ?_
      dsimp only
      split
      · exact finishOp_kept (setCheck_kept (ctrInc_kept (checkSource_kept hk)))
      · exact finishOp_kept (ctrAdd_kept (setCheck_kept (ctrInc_kept (checkSource_kept hk))))

/-! ## Machine/Stacks.lean -/

theorem execStackTrainingDone_keeps {stack pass} {s : State} : Keeps s (execStackTrainingDone stack pass s) :=
  onDevC_keeps fun {d₀} {_} hk => by
    extract_lets _ _ d1 d2 d3 _ d4
    have h1 : Kept d₀ d1 := setStack_kept hk
    have h2 : Kept d₀ d2 := .ite (detect_kept h1) (.ite h1 (post_kept h1))
    have h3 : Kept d₀ d3 := .ite (stkLoss_kept h2) h2
    have h4 : Kept d₀ d4 := .stacks h3 rfl
    exact .ite hk (.ite h3 (.ite (enterCustody_kept (detectDevice_kept h4)) h4))

theorem stackTemp_kept {n ts} (hk : Kept d₀ d) : Kept d₀ (stackTemp d n ts) := by
  unfold stackTemp
  extract_lets _ _ _ d1 d2 _ d3 d4
  have h2 : Kept d₀ d2 := tempRead_kept (setStack_kept hk)
  have h3 : Kept d₀ d3 := .ite h2 (scaleStk_kept (.stacks h2 rfl))
  have h4 : Kept d₀ d4 := .ite (reportOver_kept h3) h2
  exact .ite (enterCustody_kept (detect_kept h4)) h4

theorem execStackTempSample_keeps {temps} {s : State} : Keeps s (execStackTempSample temps s) :=
  onDevC_keeps fun hk => .stacks (.foldl (fun _ _ k => stackTemp_kept k) hk) rfl

theorem execStackHotClear_keeps {s : State} : Keeps s (execStackHotClear s) :=
  onDev_keeps fun hk => by
    split
    · exact hk
    · exact .ite hk (scaleStk_kept (.stacks hk (List.length_map ..)))

theorem execScrubRead_keeps {stack frame line errs} {s : State} : Keeps s (execScrubRead stack frame line errs s) :=
  onDev_keeps fun hk => by
    refine .ite hk (.ite ?_ ?_)
    · refine ctrInc_kept (.ite hk ?_)
      dsimp only
      split
      · exact pokeLine_kept (readLine_kept hk)
      · exact readLine_kept hk
    · refine .ite hk ?_
      dsimp only
      split
      · exact pokeLine_kept (readLine_kept hk)
      · exact readLine_kept hk

theorem moveHeld_kept {n on} (hk : Kept d₀ d) : Kept d₀ (moveHeld d n on) := .record hk

theorem execStackCommandTimeout_keeps {stack} {s : State} : Keeps s (execStackCommandTimeout stack s) :=
  onDevC_keeps fun {d₀} {_} hk => by
    extract_lets _ d1 d2
    have h1 : Kept d₀ d1 := moveHeld_kept (unpost_kept (setStack_kept hk))
    exact .ite hk (enterCustody_kept (detect_kept (.ite (stkLoss_kept h1) h1)))

theorem signedStackRetire_kept {h n} (hk : Kept d₀ d) : Kept d₀ (signedStackRetire d h n).2 :=
  signedDo_kept hk (fun k => .ite k (stkLoss_kept (moveHeld_kept (setStack_kept k))))

theorem execStackRetire_keeps {h stack} {s : State} : Keeps s (execStackRetire h stack s) :=
  onSigned_keeps fun hk => signedStackRetire_kept hk

theorem moveFrame_kept {n f} (hk : Kept d₀ d) (he : moveFrame d n f = some e) : Kept d₀ e := by
  unfold moveFrame at he
  split at he
  · cases he
    exact .record (setStack_kept (clearPoison_kept (clearPoison_kept (.ite hk (ctrInc_kept hk)))))
  · cases he

/-- Moving frames one after another, until one cannot be moved. -/
theorem moveFrames_kept {n} {fs : List Nat} {o : Option Dev} (hk : ∀ x, o = some x → Kept d₀ x)
    (he : fs.foldl (fun (r : Option Dev) f => r.bind fun x => moveFrame x n f) o = some e) : Kept d₀ e := by
  induction fs generalizing o with
  | nil => exact hk e he
  | cons f fs ih =>
    refine ih (fun x hx => ?_) he
    obtain ⟨y, hy, hm⟩ := Option.bind_eq_some_iff.mp hx
    exact moveFrame_kept (hk y hy) hm

theorem execStackRetireComplete_keeps {stack} {s : State} : Keeps s (execStackRetireComplete stack s) :=
  onDev_keeps fun hk => by
    refine .ite hk ?_
    dsimp only
    split
    · exact hk
    · next he => exact detect_kept (unpost_kept (setStack_kept (moveFrames_kept (by rintro _ ⟨⟩; exact hk) he)))

/-! ## Machine/Bobbin.lean -/

theorem setRaw_kept {raw} (hk : Kept d₀ d) : Kept d₀ (setRaw d raw) := .record hk

theorem scanTarget_kept {t s} (hk : Kept d₀ d) : Kept d₀ (scanTarget d t s) := by
  unfold scanTarget
  split
  · exact .ite (setRaw_kept (setTarget_kept hk)) (detect_kept hk)
  · exact detect_kept hk

theorem tierCheck_kept (hk : Kept d₀ d) : Kept d₀ (tierCheck d) := .ite (post_kept hk) hk

theorem execChannelScanDone_keeps {ch trained scans} {s : State} : Keeps s (execChannelScanDone ch trained scans s) :=
  onDev_keeps fun {d₀} {_} hk => by
    refine .ite hk ?_
    extract_lets _ d1 _ d2 _ d3
    have h1 : Kept d₀ d1 := .record hk
    have h2 : Kept d₀ d2 := .foldl (fun _ _ k => scanTarget_kept k) h1
    have h3 : Kept d₀ d3 := .ite (.ite (post_kept (.record h2)) h2) (detect_kept h1)
    exact tierCheck_kept h3

theorem endNeeding_kept {id cause} (hk : Kept d₀ d) : Kept d₀ (endNeeding d id cause) := by
  unfold endNeeding
  split
  · exact hk
  · split
    · split
      · exact failJob_kept hk
      · exact failOp_kept hk
    · exact failOp_kept hk

theorem failPromotions_kept {p cause} (hk : Kept d₀ d) : Kept d₀ (failPromotions d p cause) :=
  .foldl (fun _ _ k => endNeeding_kept k) (.record hk)

theorem unitFailed_kept {u tag} (hk : Kept d₀ d) : Kept d₀ (unitFailed d u tag) := by
  unfold unitFailed
  extract_lets _ d1 _ d2 d3
  have h1 : Kept d₀ d1 := setUnit_kept hk
  have h2 : Kept d₀ d2 := .record h1
  have h3 : Kept d₀ d3 := ctrInc_kept (ctrInc_kept (.ite (ctrInc_kept h2) h2))
  exact failPromotions_kept h3

theorem unitRead_kept {u r attempts} (hk : Kept d₀ d) : Kept d₀ (unitRead d u r attempts) := by
  unfold unitRead
  extract_lets _ d1 d2 _ d3
  have h2 : Kept d₀ d2 := ctrInc_kept (ctrInc_kept (.record hk))
  have h3 : Kept d₀ d3 := by
    unfold d3
    split
    · exact .record h2
    · refine .ite h2 ?_
      split
      next he => exact programUnit_kept h2 he
      next => exact modBlock_kept h2
  exact .ite (relocBlock_kept h3) h3

theorem disturbCheck_kept {t lun blk} (hk : Kept d₀ d) : Kept d₀ (disturbCheck d t lun blk) := by
  unfold disturbCheck
  split
  · exact .ite (relocBlock_kept hk) hk
  · exact hk

theorem execBobbinReadAttempt_keeps {id good tagOk} {s : State} : Keeps s (execBobbinReadAttempt id good tagOk s) :=
  onTier_keeps fun {d₀} {_} hk => by
    split
    · exact hk
    · split
      · exact hk
      · refine .ite hk ?_
        extract_lets d1 _ _ _ _ d2
        have h1 : Kept d₀ d1 := modBlock_kept hk
        have h2 : Kept d₀ d2 := by
          refine .ite (.ite (unitRead_kept h1) (unitFailed_kept h1)) (.ite (.ite ?_ (unitFailed_kept h1)) (.record h1))
          exact relocBlock_kept (unitFailed_kept h1)
        exact pumpBob_kept (disturbCheck_kept h2)

theorem switchReloc_kept {u src} (hk : Kept d₀ d) : Kept d₀ (switchReloc d u src) := by
  unfold switchReloc
  extract_lets _ _ _ d1 _ _ d2 d3 _ d4
  have h1 : Kept d₀ d1 := .foldl (fun _ _ k => dropUnitSlot_kept k) hk
  have h2 : Kept d₀ d2 := .ite h1 (.record h1)
  have h3 : Kept d₀ d3 := setUnit_kept h2
  have h4 : Kept d₀ d4 := .record h3
  exact .ite (ctrAdd_kept h4) h4

theorem dropUnit_kept {u} (hk : Kept d₀ d) : Kept d₀ (dropUnit d u) := by
  unfold dropUnit
  refine .record ?_
  split
  · exact modBlock_kept hk
  · exact hk

theorem reprogram_kept {u} (hk : Kept d₀ d) : Kept d₀ (reprogram d u) := by
  unfold reprogram
  split
  next he => exact emitUnit_kept (setUnit_kept (.record (nextPlace_kept hk he)))
  · exact dropUnit_kept hk

theorem wearCheck_kept {t} (hk : Kept d₀ d) : Kept d₀ (wearCheck d t) := by
  unfold wearCheck
  dsimp only
  split
  · exact hk
  · refine .ite ?_ hk
    split
    · exact relocBlock_kept hk
    · exact hk

theorem execBobbinProgramDone_keeps {loc page ok} {s : State} : Keeps s (execBobbinProgramDone loc page ok s) :=
  onDevC_keeps fun hk => by
    dsimp only
    split
    · exact hk
    · refine .ite hk (.ite (pumpBob_kept (wearCheck_kept (disturbCheck_kept ?_))) ?_)
      · split
        · exact switchReloc_kept (ctrInc_kept hk)
        · exact setUnit_kept (ctrInc_kept hk)
      · exact pumpBob_kept (reprogram_kept (detect_kept (modBlock_kept (ctrInc_kept hk))))

theorem execBobbinEraseDone_keeps {loc ok} {s : State} : Keeps s (execBobbinEraseDone loc ok s) :=
  onDev_keeps fun {d₀} {_} hk => by
    extract_lets
    split
    · exact hk
    · exact .ite hk (.ite (pumpBob_kept (wearCheck_kept (modBlock_kept (ctrInc_kept hk))))
        (pumpBob_kept (detect_kept (modBlock_kept (ctrInc_kept hk)))))

theorem execBobbinGc_keeps {ch tgt} {s : State} : Keeps s (execBobbinGc ch tgt s) :=
  onDev_keeps fun hk => by
    refine .ite (.record hk) ?_
    dsimp only
    split
    · exact .ite (doomBlock_kept (.record hk)) (.record hk)
    · exact .ite (detectDevice_kept (.record (.record hk))) (.record hk)

theorem execBlockRetentionExpiry_keeps {loc} {s : State} : Keeps s (execBlockRetentionExpiry loc s) :=
  onDev_keeps fun hk => by
    dsimp only
    split
    · exact hk
    · split
      · exact .ite (relocBlock_kept hk) hk
      · exact hk

theorem execTargetTimeout_keeps {ch tgt} {s : State} : Keeps s (execTargetTimeout ch tgt s) :=
  onDevC_keeps fun {d₀} {_} hk => by
    extract_lets _ _ d1 _ d2 d3 _ d4 d5 d6
    have h3 : Kept d₀ d3 := .foldl (fun _ _ k => reprogram_kept k) (reportOver_kept (setRaw_kept (setTarget_kept hk)))
    have h5 : Kept d₀ d5 := failPromotions_kept (.record h3)
    exact .ite hk (pumpBob_kept (.ite (unpost_kept h5) h5))

/-! ## Machine/Tiers.lean -/

theorem promotionRefused_kept {f} (hk : Kept d₀ d) : Kept d₀ (promotionRefused d f) := by
  unfold promotionRefused
  refine .foldl (fun _ _ k => ?_) (shipsRefused_kept (ctrInc_kept (.record hk)))
  split
  · exact k
  · split
    · split
      · refine .foldl (fun _ _ k => ?_) k
        split
        · exact endOp_kept k
        · exact k
      · exact endOp_kept k
    · exact endOp_kept k

theorem execFramePromotionDone_keeps {frame stackFrame} {s : State} : Keeps s (execFramePromotionDone frame stackFrame s) :=
  onTier_keeps fun hk => by
    refine .ite hk ?_
    split
    · exact .ite (promotionRefused_kept hk) hk
    · exact .ite hk (pumpBob_kept (.record (ctrInc_kept (clearPoison_kept (dropUnitSlot_kept (.ite hk (ctrInc_kept hk)))))))

theorem execLayerWalkDone_keeps {skein layer} {s : State} : Keeps s (execLayerWalkDone skein layer s) :=
  onDev_keeps fun hk => by
    split
    · exact hk
    · exact .ite hk (setSkein_kept hk)

theorem demoteFrames_kept {k x fs moving} (hk : Kept d₀ d) : Kept d₀ (demoteFrames d k x fs moving) := by
  unfold demoteFrames
  split
  · exact hk
  next he => exact .record (programUnits_kept hk he)

theorem demoteWhole_kept {k r b} (hk : Kept d₀ d) : Kept d₀ (demoteWhole d k r b) := demoteFrames_kept hk

theorem demotePage_kept {k r} (hk : Kept d₀ d) : Kept d₀ (demotePage d k r) := by
  unfold demotePage
  split
  · exact hk
  · refine .ite (demoteWhole_kept hk) (.ite (demoteWhole_kept (ctrInc_kept hk)) ?_)
    extract_lets r1
    have h1 : Kept d₀ r1.2 := readBody_kept hk
    refine .ite (demoteWhole_kept hk) (.ite (demoteWhole_kept (ctrInc_kept h1)) ?_)
    exact demoteFrames_kept (jobDone_kept (ctrAdd_kept (.record h1)))

theorem switchDown_kept {us fs body ok} (hk : Kept d₀ d) : Kept d₀ (switchDown d us fs body ok) := by
  unfold switchDown
  refine .record (.foldl (fun _ _ k => ?_) hk)
  split
  · split
    · exact clearPoison_kept k
    · exact k
  · exact k

theorem thinSwitch_kept {k r t} {switch calm : Dev → Dev} (hk : Kept d₀ d) (hs : ∀ {x}, Kept d₀ x → Kept d₀ (switch x))
    (hc : ∀ {x}, Kept d₀ x → Kept d₀ (calm x)) : Kept d₀ (thinSwitch d k r t switch calm) := by
  unfold thinSwitch
  extract_lets
  split
  · exact hc hk
  · next he =>
    exact mirrorPage_kept (jobDone_kept (ctrInc_kept (setSkein_kept (ctrAdd_kept (unpoisonMeta_kept (hs (mapAll_kept hk he)))))))

theorem execPageDemotionDone_keeps {skein layer page} {s : State} : Keeps s (execPageDemotionDone skein layer page s) :=
  onTier_keeps fun {d₀} {_} hk => by
    split
    · exact hk
    · split
      · exact hk
      · refine .ite hk (pumpBob_kept ?_)
        dsimp only
        split
        · exact thinSwitch_kept (.record hk) (fun k => ctrAdd_kept (switchDown_kept k)) (fun k => .record (switchDown_kept k))
        · exact setSkein_kept (ctrAdd_kept (switchDown_kept (.record hk)))
        · exact .ite (ctrAdd_kept (switchDown_kept (.record hk))) (.record (switchDown_kept (.record hk)))

theorem evict_kept {k} (hk : Kept d₀ d) : Kept d₀ (evict d k) := freeSkein_kept (ctrInc_kept hk)

theorem execStackReclaim_keeps {s : State} : Keeps s (execStackReclaim s) :=
  onDevC_keeps fun hk => by
    refine .ite (.record hk) (.ite ?_ ?_)
    · dsimp only
      split
      · exact evict_kept (.record hk)
      · exact .ite (.record hk) (detectDevice_kept (.record (.record hk)))
    · dsimp only
      split
      · split
        · exact evict_kept (.record hk)
        · exact .ite (.record hk) (detectDevice_kept (.record (.record hk)))
      · split
        · exact demoteFrames_kept (.record hk)
        · exact .foldl (fun _ _ k => demotePage_kept k) (.record hk)

theorem execBobbinReclaim_keeps {s : State} : Keeps s (execBobbinReclaim s) :=
  onDevC_keeps fun hk => by
    refine .ite (.record hk) ?_
    dsimp only
    split
    · exact evict_kept (.record hk)
    · exact .ite (.record hk) (detectDevice_kept (.record (.record hk)))

/-! ## Machine/Boot.lean -/

theorem tellAll_kept {was : Dev} (hk : Kept d₀ d) : Kept d₀ (tellAll was d) :=
  .ite (pldmChange_kept (tellSensors_kept hk)) (tellSensors_kept hk)

theorem execEndOfReset_keeps {tapEn norReadable fw0Ok fw1Ok tests} {s : State} :
    Keeps s (execEndOfReset tapEn norReadable fw0Ok fw1Ok tests s) := by
  unfold execEndOfReset
  extract_lets _ _ _ _ d1 _ _ d2
  have h2 : Kept s.dev d2 := newSession_kept (.record (.record (.refl _)))
  split
  · exact keeps_self
  · split
    · exact keeps_setDev (pldmChange_kept (.record (.record (.refl _))))
    · exact keeps_setDev (.ite h2 (testsFailed_kept h2))

theorem noImage_kept {cause} (hk : Kept d₀ d) : Kept d₀ (noImage d cause) := tellAll_kept (faultPlain_kept (.record hk))

theorem applyPlain_kept {s : State} {t} (hk : Kept d₀ d) : Kept d₀ (applyPlain s d t) := by
  unfold applyPlain
  extract_lets d1 _ _ _ d2 d3 d4 d5 _ d6
  have h1 : Kept d₀ d1 := hk
  have h2 : Kept d₀ d2 := .record hk
  have h3 : Kept d₀ d3 := .ite (post_kept (post_kept h2)) h2
  have h4 : Kept d₀ d4 := .foldl (fun _ _ k => .foldl (fun _ _ k => dieCheck_kept k) k) h3
  have h5 : Kept d₀ d5 := .foldl (fun _ _ k => startPort_kept k) (buildRuns_kept h4)
  have h6 : Kept d₀ d6 := .ite (.record h5) h5
  exact tellAll_kept h6

theorem imageFails_kept (hk : Kept d₀ d) : Kept d₀ (imageFails d) :=
  .ite (noImage_kept hk) (.ite (noImage_kept hk) (tellAll_kept (faultPlain_kept (.record hk))))

theorem tryImage_kept {s : State} {sigOk} (hk : Kept d₀ d) : Kept d₀ (tryImage s sigOk d) := by
  unfold tryImage
  refine .ite ?_ (imageFails_kept hk)
  split
  · exact applyPlain_kept hk
  · exact imageFails_kept hk

theorem execImageLoad_keeps {sigOk0 sigOk1} {s : State} : Keeps s (execImageLoad sigOk0 sigOk1 s) := by
  unfold execImageLoad
  extract_lets
  split
  · exact keeps_self
  · exact keeps_setDev (.ite (tryImage_kept (tryImage_kept (.refl _))) (tryImage_kept (.refl _)))

theorem execTileSelfTestDone_keeps {group failed} {s : State} : Keeps s (execTileSelfTestDone group failed s) :=
  onDevC_keeps fun hk => .ite hk (post_kept (tilesFail_kept hk))

theorem switchStartDo_kept {slot} (hk : Kept d₀ d) : Kept d₀ (switchStartDo d slot) := tellAll_kept (.record (stopService_kept hk))

theorem signedImageSwitch_kept {h slot version} (hk : Kept d₀ d) : Kept d₀ (signedImageSwitch d h slot version).2 :=
  signedDo_kept hk (fun k => switchStartDo_kept k)

theorem execImageSwitch_keeps {h slot version} {s : State} : Keeps s (execImageSwitch h slot version s) :=
  onSigned_keeps fun hk => signedImageSwitch_kept hk

theorem execImageSwitchWindowEnd_keeps {s : State} : Keeps s (execImageSwitchWindowEnd s) :=
  onDev_keeps fun hk => .ite (tellAll_kept (.record hk)) hk

theorem pldmFw_kept {cmd code} (hk : Kept d₀ d) : Kept d₀ (pldmFw d cmd code) := emit_kept hk

theorem execRequestUpdate_keeps {component} {s : State} : Keeps s (execRequestUpdate component s) :=
  onDev_keeps fun hk => .ite hk (.ite (pldmFw_kept hk) (.ite (pldmFw_kept hk) (pldmFw_kept (.record hk))))

theorem execComponentWrite_keeps {comp offset bytes} {s : State} : Keeps s (execComponentWrite comp offset bytes s) := by
  unfold execComponentWrite
  extract_lets
  split
  · exact keeps_next (.refl _) rfl
  · exact keeps_self

theorem readyRec_fuses {s : State} : (readyRec s).fuses = s.fuses := by
  unfold readyRec
  dsimp only
  split <;> rfl

theorem execVerifyComplete_keeps {sigOk coresSigOk} {s : State} : Keeps s (execVerifyComplete sigOk coresSigOk s) := by
  unfold execVerifyComplete
  dsimp only
  have h1 {b n} : Kept s.dev (pldmFw { s.dev with boot := b } 0x17 n) := pldmFw_kept (.record (.refl _))
  split
  · exact keeps_self
  · split
    · exact keeps_next (pldmFw_kept (.record (.refl _))) (congrArg (·.slots.length) readyRec_fuses)
    · exact keeps_setDev h1
  · split
    · exact keeps_setDev h1
    · exact keeps_setDev h1

theorem norWrite_fuses (s : State) (a : Nat) (bs : Bytes) : (norWrite s a bs).fuses = s.fuses := rfl

theorem writeRec_fuses {s : State} {image rot} : (writeRec s image rot).fuses = s.fuses := by
  unfold writeRec
  split
  · exact norWrite_fuses ..
  · rfl

theorem execApplyComplete_keeps {s : State} : Keeps s (execApplyComplete s) := by
  unfold execApplyComplete
  dsimp only
  have h1 {b} : Kept s.dev (pldmFw { s.dev with boot := b } 0x18 0) := pldmFw_kept (.record (.refl _))
  split
  · exact keeps_self
  · split
    · exact keeps_setDev h1
    · exact keeps_self
  · split
    · exact keeps_next h1 (congrArg (·.slots.length) writeRec_fuses)
    · exact keeps_self

/-! ## Machine/Clock.lean -/

/-- Local time is a 64-bit count (R65). -/
theorem advanceTime_kept {ns} (hk : Kept d₀ d) : Kept d₀ (advanceTime d ns) :=
  .foldl (fun _ _ k => portTick_kept k) (.clock hk fun _ => Nat.mod_lt _ (Nat.two_pow_pos 64))

theorem execReferenceEdge_keeps {s : State} : Keeps s (execReferenceEdge s) :=
  onDev_keeps fun hk => .ite hk (.ite (.clock hk id) (advanceTime_kept (.clock hk id)))

theorem idleTick_kept (hk : Kept d₀ d) : Kept d₀ (idleTick d) := .ite (advanceTime_kept hk) hk

theorem execReferenceLoss_keeps {s : State} : Keeps s (execReferenceLoss s) :=
  onDevC_keeps fun hk => .ite hk (.clock (enterCustody_kept (detectDevice_kept (failAll_kept (ctrInc_kept hk)))) id)

theorem execPllLockLoss_keeps {pll} {s : State} : Keeps s (execPllLockLoss pll s) :=
  onDev_keeps fun hk => .ite hk (.foldl (fun _ _ k => unpost_kept k) (faultPlain_kept (ctrInc_kept (.clock hk id))))

theorem domainRestart_kept {pll} (hk : Kept d₀ d) : Kept d₀ (domainRestart d pll) := by
  unfold domainRestart
  refine .ite (.foldl (fun _ _ k => resetRun_kept k) hk) (.ite ?_ (.ite (.ite (.record hk) hk) (.ite ?_ (.ite (setStack_kept hk) hk))))
  · extract_lets d1
    have h1 : Kept d₀ d1 := .ite (post_kept hk) hk
    exact .ite (post_kept h1) h1
  · exact tierCheck_kept (.foldl (fun _ _ k => post_kept k) hk)

theorem execPllRelocked_keeps {pll} {s : State} : Keeps s (execPllRelocked pll s) :=
  onDevC_keeps fun hk => .ite hk (.ite (domainRestart_kept (.clock hk id)) (.clock hk id))

theorem execWatchdogExpiry_keeps {agent} {s : State} : Keeps s (execWatchdogExpiry agent s) :=
  onDevC_keeps fun {d₀} {_} hk => by
    extract_lets _ d1 d2
    have h2 : Kept d₀ d2 := enterCustody_kept (faultPlain_kept (ctrInc_kept (.clock hk id)))
    exact .ite hk (.ite (coreResetStart_kept h2) h2)

theorem execControlCoreResetDone_keeps {s : State} : Keeps s (execControlCoreResetDone s) :=
  onDev_keeps fun hk => .ite (coreResetEnd_kept (.record hk)) hk

theorem execRailMeasurement_keeps {mv powerW} {s : State} : Keeps s (execRailMeasurement mv powerW s) :=
  onDev_keeps fun hk => .ite hk (.record (.foldl (fun _ _ k => faultPlain_kept (.record k)) hk))

theorem execDieTempSample_keeps {die0 die1 io} {s : State} : Keeps s (execDieTempSample die0 die1 io s) :=
  onDev_keeps fun hk => .ite hk (.foldl (fun _ _ k => tempRead_kept k) (.record hk))

theorem allowedAt_kept {k s o} (hk : Kept d₀ d) : Kept d₀ (allowedAt d k s o) := by
  unfold allowedAt
  refine .ite hk ?_
  dsimp only
  split
  · exact writeUnit_kept (.record hk)
  · exact .record hk

theorem execCoalesceNextAllowed_keeps {subjKind subject} {s : State} : Keeps s (execCoalesceNextAllowed subjKind subject s) :=
  onDev_keeps fun hk => .foldl (fun _ _ k => allowedAt_kept k) hk

theorem execCoalesceFullReport_keeps {s : State} : Keeps s (execCoalesceFullReport s) :=
  onDev_keeps fun hk => .ite hk (faultWrite_kept (.record hk))

/-! ## Machine/Spdm.lean -/

theorem spdmAnswer_kept {code fields body} (hk : Kept d₀ d) : Kept d₀ (spdmAnswer d code fields body) := emit_kept (ctrInc_kept hk)

theorem spdmError_kept {code} (hk : Kept d₀ d) : Kept d₀ (spdmError d code) := spdmAnswer_kept hk

theorem spdmFree_kept {code fields} (hk : Kept d₀ d) : Kept d₀ (spdmFree d code fields) := spdmAnswer_kept (freeNext_kept hk)

theorem spdmBusy_kept {request} (hk : Kept d₀ d) : Kept d₀ (spdmBusy d request) := ctrInc_kept (spdmAnswer_kept hk)

theorem onSpdm_keeps {f : Dev → Dev} {s} (hf : ∀ {d₀ d}, Kept d₀ d → Kept d₀ (f d)) : Keeps s (onSpdm f s) :=
  onDev_keeps fun hk => .ite (hf hk) hk

theorem onNegotiated_keeps {f : Dev → Dev} {s} (hf : ∀ {d₀ d}, Kept d₀ d → Kept d₀ (f d)) : Keeps s (onNegotiated f s) :=
  onSpdm_keeps fun hk => .ite (hf hk) (spdmError_kept hk)

theorem inSession_keeps {ses s} {f : Dev → Dev} (hf : ∀ {d₀ d}, Kept d₀ d → Kept d₀ (f d)) : Keeps s (inSession ses f s) :=
  onSpdm_keeps fun hk => .ite (hf hk) (spdmError_kept hk)

theorem execGetVersion_keeps {s : State} : Keeps s (execGetVersion s) := onSpdm_keeps fun hk => spdmAnswer_kept (.record hk)

theorem execGetCapabilities_keeps {s : State} : Keeps s (execGetCapabilities s) := onSpdm_keeps fun hk => spdmFree_kept hk

theorem execNegotiateAlgorithms_keeps {s : State} : Keeps s (execNegotiateAlgorithms s) :=
  onSpdm_keeps fun hk => spdmFree_kept (.record hk)

theorem execGetDigests_keeps {s : State} : Keeps s (execGetDigests s) :=
  onNegotiated_keeps fun hk => .ite (spdmError_kept hk) (spdmAnswer_kept hk)

theorem execGetCertificate_keeps {slot} {s : State} : Keeps s (execGetCertificate slot s) :=
  onNegotiated_keeps fun hk => .ite (spdmError_kept hk) (.ite (spdmError_kept hk) (spdmAnswer_kept hk))

theorem execChallenge_keeps {s : State} : Keeps s (execChallenge s) :=
  onNegotiated_keeps fun hk => .ite (spdmBusy_kept hk) (.ite (spdmError_kept hk) (spdmFree_kept hk))

theorem execGetMeasurements_keeps {index signed} {s : State} : Keeps s (execGetMeasurements index signed s) :=
  onNegotiated_keeps fun hk => .ite (spdmBusy_kept hk) (.ite (spdmError_kept hk)
    (.ite (spdmAnswer_kept hk) (.ite (spdmError_kept hk) (spdmAnswer_kept hk))))

theorem execKeyExchange_keeps {s : State} : Keeps s (execKeyExchange s) :=
  onNegotiated_keeps fun hk => .ite (spdmBusy_kept hk) (.ite (spdmError_kept hk) (spdmFree_kept (.record hk)))

theorem execFinish_keeps {ses} {s : State} : Keeps s (execFinish ses s) :=
  onSpdm_keeps fun hk => .ite (spdmFree_kept (.record hk)) (spdmError_kept hk)

theorem execKeyUpdate_keeps {ses} {s : State} : Keeps s (execKeyUpdate ses s) := inSession_keeps fun hk => spdmAnswer_kept hk

theorem execSpdmHeartbeat_keeps {ses} {s : State} : Keeps s (execSpdmHeartbeat ses s) := inSession_keeps fun hk => spdmAnswer_kept hk

theorem execEndSession_keeps {ses} {s : State} : Keeps s (execEndSession ses s) :=
  inSession_keeps fun hk => spdmAnswer_kept (.record hk)

theorem execVendorDefinedRequest_keeps {ses ideKm stream} {s : State} : Keeps s (execVendorDefinedRequest ses ideKm stream s) :=
  inSession_keeps fun hk => .ite (spdmAnswer_kept hk) (.ite (spdmError_kept hk) (spdmAnswer_kept (.record hk)))

/-! ## Machine/Pair.lean -/

theorem partnerFault_kept {cause d0 d1} (hk : Kept d₀ d) : Kept d₀ (partnerFault d cause d0 d1) := detect_kept hk

theorem onSelvedge_keeps {tagOk s} {f : Dev → Dev} (hf : ∀ {d₀ d}, Kept d₀ d → Kept d₀ (f d)) : Keeps s (onSelvedge tagOk f s) :=
  onDevC_keeps fun hk => .ite hk (.ite (ctrInc_kept hk) (.ite hk (hf (.record hk))))

theorem dropMirror_kept (hk : Kept d₀ d) : Kept d₀ (dropMirror d) := .record hk

theorem applyMirror_kept {r} (hk : Kept d₀ d) (he : applyMirror d r = some e) : Kept d₀ e := by
  unfold applyMirror at he
  split at he
  · obtain ⟨x, hx, rfl⟩ := Option.map_eq_some_iff.mp he
    exact .record (mapAll_kept hk hx)
  · cases he; exact .record hk
  · cases he; exact .record hk
  · cases he; exact .record hk
  · extract_lets at he
    split at he <;> cases he <;> exact .record hk
  · cases he; exact hk

theorem applyAll_kept {rs} (hk : Kept d₀ d) (he : applyAll d rs = some e) : Kept d₀ e := by
  induction rs generalizing d with
  | nil => cases he; exact hk
  | cons r rs ih =>
    rw [applyAll] at he
    split at he
    · next hx => exact ih (applyMirror_kept hk hx) he
    · cases he

theorem enterLost_kept {cause} (hk : Kept d₀ d) : Kept d₀ (enterLost d cause) :=
  tellSensors_kept (releaseHeld_kept (.record (partnerFault_kept (ctrInc_kept hk))))

theorem mirrorBroken_kept (hk : Kept d₀ d) : Kept d₀ (mirrorBroken d) := .ite (enterLost_kept hk) hk

theorem execPartnerLoss_keeps {s : State} : Keeps s (execPartnerLoss s) := onDevC_keeps fun hk => .ite (enterLost_kept hk) hk

theorem sendSkein_kept {k} (hk : Kept d₀ d) : Kept d₀ (sendSkein d k) := by
  unfold sendSkein
  refine .foldl (fun _ _ k => ?_) (mirrorDirs_kept hk)
  split
  · exact .ite (mirrorRef_kept k) (mirrorPage_kept k)
  · exact k

theorem sendWhole_kept (hk : Kept d₀ d) : Kept d₀ (sendWhole d) := by
  unfold sendWhole
  extract_lets _ d1 d2 d3 d4 d5 _ d6
  have h1 : Kept d₀ d1 := .record hk
  have h2 : Kept d₀ d2 := .foldl (fun _ _ k => mirrorPush_kept k) h1
  have h3 : Kept d₀ d3 := .foldl (fun _ _ k => mirrorPush_kept k) h2
  have h4 : Kept d₀ d4 := .foldl (fun _ _ k => sendSkein_kept k) h3
  have h5 : Kept d₀ d5 := .foldl (fun _ _ k => sasMirror_kept k) h4
  have h6 : Kept d₀ d6 := .foldl (fun _ _ k => sasMirror_kept k) h5
  exact sendSelvedge_kept (.record h6)

theorem checkMirrored_kept (hk : Kept d₀ d) : Kept d₀ (checkMirrored d) := .ite (tellSensors_kept (.record hk)) hk

theorem formWith_kept {session mseq} (hk : Kept d₀ d) : Kept d₀ (formWith d session mseq) := sendWhole_kept (.record hk)

theorem execHeartbeatSend_keeps {s : State} : Keeps s (execHeartbeatSend s) :=
  onDev_keeps fun hk => .ite hk (.ite hk (pnWarning_kept (sendSelvedge_kept (ctrInc_kept (.record hk)))))

theorem execHeartbeat_keeps {sess mseq tagOk} {s : State} : Keeps s (execHeartbeat sess mseq tagOk s) :=
  onSelvedge_keeps fun {d₀} {_} hk => by
    extract_lets d1
    have h1 : Kept d₀ d1 := ctrInc_kept hk
    split
    · exact .ite (formWith_kept h1) h1
    · exact .ite (tellSensors_kept (formWith_kept (.record (dropMirror_kept h1)))) (.ite h1 (partnerFault_kept (.record h1)))
    · exact h1

theorem execMirror_keeps {mseq recs tagOk} {s : State} : Keeps s (execMirror mseq recs tagOk s) :=
  onSelvedge_keeps fun hk => by
    refine .ite hk (.ite hk (.ite (mirrorBroken_kept (sendSelvedge_kept hk)) ?_))
    dsimp only
    split
    next he => exact sendSelvedge_kept (.record (applyAll_kept hk he))
    · exact mirrorBroken_kept (sendSelvedge_kept hk)

theorem execMack_keeps {mseq error tagOk} {s : State} : Keeps s (execMack mseq error tagOk s) :=
  onSelvedge_keeps fun hk => .ite (mirrorBroken_kept hk) (checkMirrored_kept (releaseHeld_kept (.record hk)))

theorem execResyncDone_keeps {tagOk} {s : State} : Keeps s (execResyncDone tagOk s) :=
  onSelvedge_keeps fun hk => .ite (checkMirrored_kept (sendSelvedge_kept (.record hk))) hk

theorem adoptSkeins_kept (hk : Kept d₀ d) : Kept d₀ (adoptSkeins d).2 := .record hk

theorem adoptReqs_kept (hk : Kept d₀ d) : Kept d₀ (adoptReqs d).2 := .record hk

theorem rewriteRing_kept {r} (hk : Kept d₀ d) : Kept d₀ (rewriteRing d r) := by
  unfold rewriteRing
  extract_lets _ d1
  have h1 : Kept d₀ d1 := .foldl (fun _ _ k => .ite (postEntry_kept k) (hostWrite_kept k)) hk
  exact .ite (breakRing_kept hk) (.ite (startHeadRead_kept h1) h1)

theorem adoptRings_kept (hk : Kept d₀ d) : Kept d₀ (adoptRings d) := .foldl (fun _ _ k => rewriteRing_kept k) (.record hk)

theorem takeOver_kept (hk : Kept d₀ d) : Kept d₀ (takeOver d) := by
  unfold takeOver
  extract_lets d1 d2 _ d3
  have h3 : Kept d₀ d3 := .record (.ite (enterLost_kept hk) hk)
  exact tellSensors_kept (.record (partnerFault_kept (ctrInc_kept (adoptRings_kept (adoptReqs_kept (adoptSkeins_kept h3))))))

theorem releaseMirror_kept (hk : Kept d₀ d) : Kept d₀ (releaseMirror d) :=
  tellSensors_kept (.record (faultPlain_kept (releaseHeld_kept (dropMirror_kept hk))))

theorem takeoverDo_kept {mode} (hk : Kept d₀ d) : Kept d₀ (takeoverDo d mode) :=
  .ite hk (.ite (takeOver_kept hk) (releaseMirror_kept hk))

theorem signedTakeover_kept {h mode fl} (hk : Kept d₀ d) : Kept d₀ (signedTakeover d h mode fl).2 :=
  signedDo_kept hk (fun k => takeoverDo_kept k)

theorem execTakeover_keeps {h mode fleet} {s : State} : Keeps s (execTakeover h mode fleet s) :=
  onSigned_keeps fun hk => signedTakeover_kept hk

theorem execTakeoverRelease_keeps {h mode fleet} {s : State} : Keeps s (execTakeoverRelease h mode fleet s) :=
  onSigned_keeps fun hk => signedTakeover_kept hk

/-! ## Machine/Mgmt.lean -/

theorem onRot_keeps {f : State → Dev} {s} (hf : Kept s.dev (f s)) : Keeps s (onRot f s) := by
  rintro t ⟨⟩
  split
  · exact ⟨hf, rfl⟩
  · exact ⟨.refl _, rfl⟩

theorem execRegRead_keeps {inst offset count} {s : State} : Keeps s (execRegRead inst offset count s) :=
  onRot_keeps (.ite (emit_kept (.refl _)) (emit_kept (.refl _)))

theorem execRegisterSnapshotRefresh_keeps {s : State} : Keeps s (execRegisterSnapshotRefresh s) :=
  onRot_keeps (.ite (.refl _) (.record (.refl _)))

theorem signedAny_kept {h x} (hk : Kept d₀ d) : Kept d₀ (signedAny d h x).2 := by
  unfold signedAny
  split
  · exact signedGateSwitch_kept hk
  · exact signedFence_kept hk
  · exact signedUnfence_kept hk
  · exact signedStackRetire_kept hk
  · exact signedSaOpen_kept hk
  · exact signedSaClose_kept hk
  · exact signedZeroize_kept hk
  · exact signedSelfTest_kept hk
  · exact signedTakeover_kept hk
  · exact signedCustodyEnter_kept hk
  · exact signedReadmit_kept hk
  · exact signedImageSwitch_kept hk

theorem execMctpSigned_keeps {inst h b} {s : State} : Keeps s (execMctpSigned inst h b s) :=
  onDevC_keeps fun hk => .ite (emit_kept (signedAny_kept hk)) hk

theorem execSlotProgram_keeps {inst slot digest} {s : State} : Keeps s (execSlotProgram inst slot digest s) := by
  unfold execSlotProgram
  dsimp only
  split
  · split
    · exact keeps_next (emit_kept (.refl _)) List.length_set
    · exact keeps_setDev (emit_kept (.refl _))
  · exact keeps_self

theorem execGetTid_keeps {s : State} : Keeps s (execGetTid s) := onRot_keeps (emit_kept (.refl _))

theorem execGetPdr_keeps {handle} {s : State} : Keeps s (execGetPdr handle s) :=
  onRot_keeps (.ite (emit_kept (.refl _)) (emit_kept (.refl _)))

theorem execGetPdrRepositoryInfo_keeps {s : State} : Keeps s (execGetPdrRepositoryInfo s) := onRot_keeps (emit_kept (.refl _))

theorem execGetSensorReading_keeps {id} {s : State} : Keeps s (execGetSensorReading id s) := onRot_keeps <| by
  split
  · exact emit_kept (.refl _)
  · exact emit_kept (.refl _)

theorem execGetStateSensorReadings_keeps {id} {s : State} : Keeps s (execGetStateSensorReadings id s) :=
  onDev_keeps fun hk => by
    refine .ite hk ?_
    split
    · exact emit_kept hk
    · exact emit_kept hk

theorem execSetEventReceiver_keeps {eid} {s : State} : Keeps s (execSetEventReceiver eid s) := onRot_keeps (emit_kept (.record (.refl _)))

theorem sendEvent_kept {sensor state} (hk : Kept d₀ d) : Kept d₀ (sendEvent d sensor state) := emit_kept (.record hk)

theorem execPlatformEventAcknowledged_keeps {s : State} : Keeps s (execPlatformEventAcknowledged s) := onRot_keeps <| by
  refine .ite (.refl _) ?_
  split
  · exact .record (.refl _)
  · exact sendEvent_kept (.record (.record (.refl _)))

theorem execPlatformEventResend_keeps {s : State} : Keeps s (execPlatformEventResend s) := onRot_keeps <| by
  split
  · exact .ite (sendEvent_kept (.refl _)) (.refl _)
  · exact .refl _

end

end Sys2Proof.Machine
end

section
/-! # Every command and every step -/

namespace Sys2Proof.Machine

open Sys2Proof

section
variable {d₀ d e : Dev}

/-! ## Every command but the resets -/

/-- A command that cannot reset the device keeps its shape and takes nothing from its counters. -/
theorem exec_keeps : ∀ (c : Instr) (s : State), resetsDevice c = false → Keeps s (exec c s)
  | .powerOnReset, _, h | .systemReset _, _, h | .fundamentalReset, _, h | .vaultSectionsLoad _, _, h
  | .imageSwitchDrainTimeout, _, h | .activateFirmware, _, h => nomatch h
  | .endOfReset .., _, _ => execEndOfReset_keeps
  | .imageLoad .., _, _ => execImageLoad_keeps
  | .stackTrainingDone .., _, _ => execStackTrainingDone_keeps
  | .channelScanDone .., _, _ => execChannelScanDone_keeps
  | .tileSelfTestDone .., _, _ => execTileSelfTestDone_keeps
  | .referenceLoss, _, _ => execReferenceLoss_keeps
  | .pllLockLoss .., _, _ => execPllLockLoss_keeps
  | .pllRelocked .., _, _ => execPllRelocked_keeps
  | .railMeasurement .., _, _ => execRailMeasurement_keeps
  | .dieTempSample .., _, _ => execDieTempSample_keeps
  | .registerWrite .., _, _ => keeps_self
  | .reqLaneResync .., _, _ => execReqLaneResync_keeps
  | .secZeroize .., _, _ => execSecZeroize_keeps
  | .connCreate .., _, _ => execConnCreate_keeps
  | .connModify .., _, _ => execConnModify_keeps
  | .connReset .., _, _ => execConnReset_keeps
  | .connDestroy .., _, _ => execConnDestroy_keeps
  | .connDestroyDrained .., _, _ => execConnDestroyDrained_keeps
  | .regionCreate .., _, _ => execRegionCreate_keeps
  | .regionRevoke .., _, _ => execRegionRevoke_keeps
  | .regionRevokeDrained .., _, _ => execRegionRevokeDrained_keeps
  | .lineQueueSetup .., _, _ => execLineQueueSetup_keeps
  | .lineQueueTeardown .., _, _ => execLineQueueTeardown_keeps
  | .intakeLaneVisit .., _, _ => execIntakeLaneVisit_keeps
  | .laneSetup .., _, _ => execLaneSetup_keeps
  | .ringSetup .., _, _ => execRingSetup_keeps
  | .ringTeardown .., _, _ => execRingTeardown_keeps
  | .openReq .., _, _ => execOpenReq_keeps
  | .prefillDone .., _, _ => execPrefillDone_keeps
  | .cancel .., _, _ => execCancel_keeps
  | .step .., _, _ => execStep_keeps
  | .query .., _, _ => execQuery_keeps
  | .stopSetDefine .., _, _ => execStopSetDefine_keeps
  | .stopSetDelete .., _, _ => execStopSetDelete_keeps
  | .copyRange .., _, _ => execCopyRange_keeps
  | .copyPages .., _, _ => execCopyPages_keeps
  | .promote .., _, _ => execPromote_keeps
  | .header .., _, _ => execHeader_keeps
  | .locate .., _, _ => execLocate_keeps
  | .flush .., _, _ => execFlush_keeps
  | .waitOnly .., _, _ => execWaitOnly_keeps
  | .check .., _, _ => execCheck_keeps
  | .checkContinue .., _, _ => execCheckContinue_keeps
  | .checkCommandDone .., _, _ => execCheckCommandDone_keeps
  | .stepCommit .., _, _ => execStepCommit_keeps
  | .hashBlockDone .., _, _ => execHashBlockDone_keeps
  | .skeinOpen .., _, _ => execSkeinOpen_keeps
  | .skeinOpenReply .., _, _ => execSkeinOpenReply_keeps
  | .skeinOpenTimeout .., _, _ => execSkeinOpenTimeout_keeps
  | .lookup .., _, _ => execLookup_keeps
  | .lookupReply .., _, _ => execLookupReply_keeps
  | .prefixFetch .., _, _ => execPrefixFetch_keeps
  | .landingPageTaken .., _, _ => execLandingPageTaken_keeps
  | .place .., _, _ => execPlace_keeps
  | .seal .., _, _ => execSeal_keeps
  | .abort .., _, _ => execAbort_keeps
  | .skeinAbortDrained .., _, _ => execSkeinAbortDrained_keeps
  | .release .., _, _ => execRelease_keeps
  | .stateReply .., _, _ => execStateReply_keeps
  | .endingTimeout .., _, _ => execEndingTimeout_keeps
  | .handoff .., _, _ => execHandoff_keeps
  | .handoffReply .., _, _ => execHandoffReply_keeps
  | .handoffTimeout .., _, _ => execHandoffTimeout_keeps
  | .window .., _, _ => execWindow_keeps
  | .sealed .., _, _ => execSealed_keeps
  | .svcCancel .., _, _ => execSvcCancel_keeps
  | .reqAbort frm _ skein _, _, _ => execReqAbort_keeps (_frm := frm) (_skein := skein)
  | .shipmentFlushDone .., _, _ => execShipmentFlushDone_keeps
  | .appendFlushDone .., _, _ => execAppendFlushDone_keeps
  | .farJob .., _, _ => execFarJob_keeps
  | .admissionReplyRelease, _, _ => execAdmissionReplyRelease_keeps
  | .stageComplete .., _, _ => execStageComplete_keeps
  | .deadlineWatch .., _, _ => execDeadlineWatch_keeps
  | .heddleScan .., _, _ => execHeddleScan_keeps
  | .heddleWalk .., _, _ => execHeddleWalk_keeps
  | .roundCheck .., _, _ => execRoundCheck_keeps
  | .partialReceived .., _, _ => execPartialReceived_keeps
  | .runCommandArrival .., _, _ => execRunCommandArrival_keeps
  | .runCommandEnd .., _, _ => execRunCommandEnd_keeps
  | .shadowCheckDone .., _, _ => execShadowCheckDone_keeps
  | .runStallTimeout .., _, _ => execRunStallTimeout_keeps
  | .runResetDone .., _, _ => execRunResetDone_keeps
  | .blockCompress .., _, _ => execBlockCompress_keeps
  | .blockExpand .., _, _ => execBlockExpand_keeps
  | .layerWalkDone .., _, _ => execLayerWalkDone_keeps
  | .framePromotionDone .., _, _ => execFramePromotionDone_keeps
  | .stackReclaim, _, _ => execStackReclaim_keeps
  | .bobbinReclaim, _, _ => execBobbinReclaim_keeps
  | .pageDemotionDone .., _, _ => execPageDemotionDone_keeps
  | .stackTempSample .., _, _ => execStackTempSample_keeps
  | .stackHotClear, _, _ => execStackHotClear_keeps
  | .scrubRead .., _, _ => execScrubRead_keeps
  | .stackCommandTimeout .., _, _ => execStackCommandTimeout_keeps
  | .stackRetire .., _, _ => execStackRetire_keeps
  | .stackRetireComplete .., _, _ => execStackRetireComplete_keeps
  | .bobbinReadAttempt .., _, _ => execBobbinReadAttempt_keeps
  | .bobbinProgramDone .., _, _ => execBobbinProgramDone_keeps
  | .bobbinEraseDone .., _, _ => execBobbinEraseDone_keeps
  | .bobbinGc .., _, _ => execBobbinGc_keeps
  | .blockRetentionExpiry .., _, _ => execBlockRetentionExpiry_keeps
  | .targetTimeout .., _, _ => execTargetTimeout_keeps
  | .sendEntryStart .., _, _ => execSendEntryStart_keeps
  | .sendWaitTimeout .., _, _ => execSendWaitTimeout_keeps
  | .write .., _, _ => execWrite_keeps
  | .send .., _, _ => execSend_keeps
  | .readReq .., _, _ => execReadReq_keeps
  | .readResp .., _, _ => execReadResp_keeps
  | .flushPacket .., _, _ => execFlushPacket_keeps
  | .ack .., _, _ => execAck_keeps
  | .sack .., _, _ => execSack_keeps
  | .nak .., _, _ => execNak_keeps
  | .probe .., _, _ => execProbe_keeps
  | .retransmissionTimeout .., _, _ => execRetransmissionTimeout_keeps
  | .lineRd .., _, _ => execLineRd_keeps
  | .lineWr .., _, _ => execLineWr_keeps
  | .rdData .., _, _ => execRdData_keeps
  | .wrDone .., _, _ => execWrDone_keeps
  | .lineNak .., _, _ => execLineNak_keeps
  | .lineQueuePoll .., _, _ => execLineQueuePoll_keeps
  | .lineRead .., _, _ => execLineRead_keeps
  | .lineWrite .., _, _ => execLineWrite_keeps
  | .lineReadResend .., _, _ => execLineReadResend_keeps
  | .lineDeadTimeout .., _, _ => execLineDeadTimeout_keeps
  | .ringHeadReadDone .., _, _ => execRingHeadReadDone_keeps
  | .ringStallTimeout .., _, _ => execRingStallTimeout_keeps
  | .hostReadCompletion .., _, _ => execHostReadCompletion_keeps
  | .hostLinkDown, _, _ => execHostLinkDown_keeps
  | .hostLinkUp .., _, _ => execHostLinkUp_keeps
  | .vfFunctionLevelReset .., _, _ => execVfFunctionLevelReset_keeps
  | .pfFunctionLevelReset hot, _, _ => execPfFunctionLevelReset_keeps (_hot := hot)
  | .msixIntervalExpiry .., _, _ => execMsixIntervalExpiry_keeps
  | .doeRequest .., _, _ => execDoeRequest_keeps
  | .doeAbort, _, _ => execDoeAbort_keeps
  | .lockInterface .., _, _ => execLockInterface_keeps
  | .stopInterface .., _, _ => execStopInterface_keeps
  | .getDeviceInterfaceReport .., _, _ => execGetDeviceInterfaceReport_keeps
  | .tdispInterfaceError .., _, _ => execTdispInterfaceError_keeps
  | .portTrainingDone .., _, _ => execPortTrainingDone_keeps
  | .portRetrainTimer .., _, _ => execPortRetrainTimer_keeps
  | .portLinkLoss .., _, _ => execPortLinkLoss_keeps
  | .ingressFrame .., _, _ => execIngressFrame_keeps
  | .neighborSolicitation .., _, _ => execNeighborSolicitation_keeps
  | .pfcFrame .., _, _ => execPfcFrame_keeps
  | .pfcXoffRefresh .., _, _ => execPfcXoffRefresh_keeps
  | .linkWordAck .., _, _ => execLinkWordAck_keeps
  | .linkWordNack .., _, _ => execLinkWordNack_keeps
  | .linkWordCredit .., _, _ => execLinkWordCredit_keeps
  | .linkWordSkip .., _, _ => execLinkWordSkip_keeps
  | .linkWordLane .., _, _ => execLinkWordLane_keeps
  | .llrTimeout .., _, _ => execLlrTimeout_keeps
  | .creditStall .., _, _ => execCreditStall_keeps
  | .egressFrameStart .., _, _ => execEgressFrameStart_keeps
  | .gateEntryBoundary .., _, _ => execGateEntryBoundary_keeps
  | .gateSwitch .., _, _ => execGateSwitch_keeps
  | .gateSwitchover .., _, _ => execGateSwitchover_keeps
  | .fence .., _, _ => execFence_keeps
  | .unfence .., _, _ => execUnfence_keeps
  | .saOpen .., _, _ => execSaOpen_keeps
  | .saClose .., _, _ => execSaClose_keeps
  | .saHello .., _, _ => execSaHello_keeps
  | .saReply .., _, _ => execSaReply_keeps
  | .saFinish .., _, _ => execSaFinish_keeps
  | .saHandshakeTimeout .., _, _ => execSaHandshakeTimeout_keeps
  | .zeroize .., _, _ => execZeroize_keeps
  | .selfTest .., _, _ => execSelfTest_keeps
  | .entropyHealthFailure, _, _ => execEntropyHealthFailure_keeps
  | .takeover .., _, _ => execTakeover_keeps
  | .takeoverRelease .., _, _ => execTakeoverRelease_keeps
  | .custodyEnter .., _, _ => execCustodyEnter_keeps
  | .readmit .., _, _ => execReadmit_keeps
  | .readmitChecksDone .., _, _ => execReadmitChecksDone_keeps
  | .imageSwitch .., _, _ => execImageSwitch_keeps
  | .imageSwitchWindowEnd, _, _ => execImageSwitchWindowEnd_keeps
  | .getVersion, _, _ => execGetVersion_keeps
  | .getCapabilities, _, _ => execGetCapabilities_keeps
  | .negotiateAlgorithms, _, _ => execNegotiateAlgorithms_keeps
  | .getDigests, _, _ => execGetDigests_keeps
  | .getCertificate .., _, _ => execGetCertificate_keeps
  | .challenge, _, _ => execChallenge_keeps
  | .getMeasurements .., _, _ => execGetMeasurements_keeps
  | .keyExchange, _, _ => execKeyExchange_keeps
  | .finish .., _, _ => execFinish_keeps
  | .keyUpdate .., _, _ => execKeyUpdate_keeps
  | .spdmHeartbeat .., _, _ => execSpdmHeartbeat_keeps
  | .endSession .., _, _ => execEndSession_keeps
  | .vendorDefinedRequest .., _, _ => execVendorDefinedRequest_keeps
  | .regRead .., _, _ => execRegRead_keeps
  | .mctpSigned .., _, _ => execMctpSigned_keeps
  | .slotProgram .., _, _ => execSlotProgram_keeps
  | .registerSnapshotRefresh, _, _ => execRegisterSnapshotRefresh_keeps
  | .getTid, _, _ => execGetTid_keeps
  | .getPdr .., _, _ => execGetPdr_keeps
  | .getPdrRepositoryInfo, _, _ => execGetPdrRepositoryInfo_keeps
  | .getSensorReading .., _, _ => execGetSensorReading_keeps
  | .getStateSensorReadings .., _, _ => execGetStateSensorReadings_keeps
  | .setEventReceiver .., _, _ => execSetEventReceiver_keeps
  | .platformEventAcknowledged, _, _ => execPlatformEventAcknowledged_keeps
  | .platformEventResend, _, _ => execPlatformEventResend_keeps
  | .requestUpdate .., _, _ => execRequestUpdate_keeps
  | .verifyComplete .., _, _ => execVerifyComplete_keeps
  | .applyComplete, _, _ => execApplyComplete_keeps
  | .watchdogExpiry .., _, _ => execWatchdogExpiry_keeps
  | .controlCoreResetDone, _, _ => execControlCoreResetDone_keeps
  | .heartbeatSend, _, _ => execHeartbeatSend_keeps
  | .heartbeat .., _, _ => execHeartbeat_keeps
  | .partnerLoss, _, _ => execPartnerLoss_keeps
  | .mirror .., _, _ => execMirror_keeps
  | .mack .., _, _ => execMack_keeps
  | .resyncDone .., _, _ => execResyncDone_keeps
  | .coalesceNextAllowed .., _, _ => execCoalesceNextAllowed_keeps
  | .coalesceFullReport, _, _ => execCoalesceFullReport_keeps
  | .intakeWindowWrite .., _, _ => execIntakeWindowWrite_keeps
  | .startInterface .., _, _ => execStartInterface_keeps
  | .referenceEdge, _, _ => execReferenceEdge_keeps
  | .pcieConfigurationWrite .., _, _ => execPcieConfigurationWrite_keeps
  | .msixVectorUnmask .., _, _ => execMsixVectorUnmask_keeps
  | .pauseExpiry .., _, _ => execPauseExpiry_keeps
  | .componentWrite .., _, _ => execComponentWrite_keeps

/-! ## The resets -/

/-- The device's part of `shapeHeld`. -/
structure Shaped (d : Dev) : Prop where
  checks : d.checks.length = 16
  units : d.stk.units.length = 12
  ports : d.ports.length = 8
  channels : ∀ p ∈ d.ports, PortShaped p
  time : d.clk.now < 2 ^ 64
  counters : ∀ e ∈ d.ctr, e.2 ≤ satMax

theorem shapeHeld_iff {s : State} : shapeHeld s ↔ Shaped s.dev ∧ s.fuses.slots.length = 4 :=
  ⟨fun ⟨hc, hu, hp, hs, ht, hn, hv⟩ => ⟨⟨hc, hu, hp, hv, ht, hn⟩, hs⟩,
    fun ⟨⟨hc, hu, hp, hv, ht, hn⟩, hs⟩ => ⟨hc, hu, hp, hs, ht, hn, hv⟩⟩

theorem Kept.keepsShape (hk : Kept d e) (h : Shaped d) : Shaped e where
  checks := hk.checks.trans h.checks
  units := hk.units.trans h.units
  ports := hk.ports.trans h.ports
  channels p hp := hk.channels p hp h.channels
  time := hk.time h.time
  counters := hk.counters.within h.counters

/-- The device as it is before any command. -/
theorem shaped_default : Shaped {} where
  checks := rfl
  units := rfl
  ports := rfl
  channels p hp := by
    obtain rfl := List.eq_of_mem_replicate hp
    exact ⟨rfl, rfl, rfl, rfl, rfl, rfl, rfl, rfl⟩
  time := Nat.two_pow_pos 64
  counters _ he := nomatch he

theorem shaped_deviceReset {b} : Shaped (deviceReset d b) :=
  ⟨rfl, rfl, rfl, shaped_default.channels, shaped_default.time, shaped_default.counters⟩

theorem shaped_switchReset : Shaped (switchReset d) := by
  unfold switchReset
  extract_lets _ _ x y
  have hx : Shaped x := ⟨rfl, rfl, rfl, shaped_default.channels, shaped_default.time, shaped_default.counters⟩
  have hy : Kept x y := .ite (.record (d := x) (.refl _)) (newSession_kept (.refl _))
  exact Kept.keepsShape (.ite (post_kept hy) hy) hx

/-- A reset command leaves the device as shaped as it was, and burns no key slot. -/
def KeepsShape (s : State) (o : Host.Outcome State Fault Refusal) : Prop :=
  ∀ t, o = .next t → Shaped s.dev → Shaped t.dev ∧ t.fuses.slots.length = s.fuses.slots.length

theorem Keeps.keepsShape {s : State} {o : Host.Outcome State Fault Refusal} (h : Keeps s o) : KeepsShape s o := by
  intro t ht hs
  obtain ⟨hk, hf⟩ := h t ht
  exact ⟨hk.keepsShape hs, hf⟩

theorem keepsShape_next {s t : State} (hd : Shaped t.dev) (hf : t.fuses.slots.length = s.fuses.slots.length) :
    KeepsShape s (.next t) := by
  rintro _ ⟨⟩ _
  exact ⟨hd, hf⟩

theorem execPowerOnReset_keepsShape {s : State} : KeepsShape s (execPowerOnReset s) := keepsShape_next shaped_deviceReset rfl

theorem execFundamentalReset_keepsShape {s : State} : KeepsShape s (execFundamentalReset s) := keepsShape_next shaped_deviceReset rfl

theorem execSystemReset_keepsShape {ns} {s : State} : KeepsShape s (execSystemReset ns s) := by
  by_cases h : 1000 ≤ ns
  · exact keepsShape_next (by simp [State.setDev, h, shaped_deviceReset]) rfl
  · exact Keeps.keepsShape (keeps_next (by simp [State.setDev, h, Kept.refl]) rfl)

theorem burn_slots (f : Fuses) (b : Boot) (svn : Nat) : (burn f b svn).slots = f.slots := by
  unfold burn
  dsimp only
  split <;> rfl

/-- Reset or not, the device's shape stays. -/
theorem execVaultSectionsLoad_keepsShape {ok} {s : State} : KeepsShape s (execVaultSectionsLoad ok s) := by
  unfold execVaultSectionsLoad
  extract_lets d was got _ d1 d2 d3 fell x
  split
  · exact keeps_self.keepsShape
  · split
    · have h1 : Kept s.dev d1 := .record (.refl _)
      have h2 : Kept s.dev d2 := .getD (fun _ he => mapAll_kept h1 he) h1
      exact Keeps.keepsShape (keeps_next (tellAll_kept (post_kept (post_kept (post_kept h2)))) (congrArg _ (burn_slots ..)))
    · exact keepsShape_next ((imageFails_kept (.record (.refl _))).keepsShape shaped_switchReset) rfl

theorem shaped_switchOver {s : State} {slot} : Shaped (switchOver s slot).dev := by
  unfold switchOver
  extract_lets was lost s1 d1 _ _ d2
  have h2 : Kept d1 d2 := .record (.refl _)
  exact Kept.keepsShape (tellAll_kept (.ite h2 (faultPlain_kept h2))) shaped_switchReset

theorem switchOver_fuses {s : State} {slot} : (switchOver s slot).fuses = s.fuses := writeRec_fuses

theorem execImageSwitchDrainTimeout_keepsShape {s : State} : KeepsShape s (execImageSwitchDrainTimeout s) := by
  unfold execImageSwitchDrainTimeout
  split
  · exact keeps_self.keepsShape
  · split
    · exact keepsShape_next shaped_switchOver (congrArg (List.length ∘ Fuses.slots) switchOver_fuses)
    · exact keeps_self.keepsShape

theorem execActivateFirmware_keepsShape {s : State} : KeepsShape s (execActivateFirmware s) := by
  unfold execActivateFirmware
  extract_lets d slot
  split
  · exact keeps_self.keepsShape
  · split
    · exact (keeps_setDev (pldmFw_kept (.refl _))).keepsShape
    · exact keepsShape_next shaped_switchOver (congrArg (List.length ∘ Fuses.slots) switchOver_fuses)

theorem exec_keepsShape (c : Instr) (s : State) : KeepsShape s (exec c s) := by
  cases h : resetsDevice c with
  | false => exact (exec_keeps c s h).keepsShape
  | true =>
    unfold resetsDevice at h
    split at h
    · exact execPowerOnReset_keepsShape
    · exact execSystemReset_keepsShape
    · exact execFundamentalReset_keepsShape
    · exact execVaultSectionsLoad_keepsShape
    · exact execImageSwitchDrainTimeout_keepsShape
    · exact execActivateFirmware_keepsShape
    · cases h

/-! ## The obligations -/

/-- A step runs the command at the front of the queue, or idles. -/
theorem step_keepsShape (s : State) : KeepsShape s (step s) := by
  unfold step
  split
  · exact (keeps_setDev (idleTick_kept (.refl _))).keepsShape
  next c rest _ => exact exec_keepsShape c { s with pending := rest }

end

/-- Settles O58: each command keeps the lengths of the tables, the clock below 2^64 and the counters within the limit; a reset
makes them anew in that shape. -/
theorem tablesKeepTheirShape : Obligations.TablesKeepTheirShape := by
  unfold Obligations.TablesKeepTheirShape
  intro s t ht hs
  obtain ⟨hd, hl⟩ := shapeHeld_iff.mp hs
  obtain ⟨hd', hl'⟩ := step_keepsShape s t ht hd
  exact shapeHeld_iff.mpr ⟨hd', hl'.trans hl⟩

/-- Settles O60: a command that cannot reset the device writes the counters through `ctrAdd` alone, which adds up to the limit. -/
theorem countersFallOnlyByReset : Obligations.CountersFallOnlyByReset := by
  unfold Obligations.CountersFallOnlyByReset
  refine ⟨fun c s t a ht hc ha => ?_, rfl, fun n hn => if_neg hn.ne, rfl⟩
  obtain ⟨hrise, hle⟩ := (exec_keeps c s hc t ht).1.counters.rises a ha
  exact ⟨hrise, hle, fun h => hle.antisymm (h ▸ hrise)⟩

end Sys2Proof.Machine
end

section
/-! # Where service messages go

A service message goes to this device itself, or on the READY service connection of its receiver (R28, R546). Which connection that
is rests on four fields of each connection; no report changes them, so a fleet number that can be reached stays so (`HomeStep.reaches`)
until the command sends its answer (`goes_sendSvc`). -/

namespace Sys2Proof.Machine

open Sys2Proof

/-- The fields by which a connection is found: its number, whether it is a service connection, its state and its peer. -/
def connKey (c : Conn) : Nat × Bool × ConnState × Nat := (c.num, c.service, c.state, c.peerFleet)

/-- The keys of the connections, in order. -/
def connKeys (d : Dev) : List (Nat × Bool × ConnState × Nat) := d.weft.conns.map connKey

/-- The key of a READY service connection of a fleet number. -/
def serviceKey (f : Nat) (k : Nat × Bool × ConnState × Nat) : Bool := k.2.1 && k.2.2.1 == .ready && k.2.2.2 == f

/-- When two tests find the same key first, they find the same element first, as long as that key passes both. -/
theorem exists_find?_of_find?_map {α β : Type} {g : α → β} {p q : β → Bool} {k : β} {l : List α}
    (hp : (l.map g).find? p = some k) (hq : (l.map g).find? q = some k) :
    ∃ c, l.find? (p ∘ g) = some c ∧ l.find? (q ∘ g) = some c ∧ g c = k := by
  have hpk : p k = true := List.find?_some hp
  have hqk : q k = true := List.find?_some hq
  induction l with
  | nil => cases hp
  | cons x xs ih =>
    by_cases hx : g x = k
    · exact ⟨x, by simp [hx, hpk], by simp [hx, hqk], hx⟩
    · have hpx : p (g x) = false := by
        by_contra h
        exact hx (by simpa [h] using hp)
      have hqx : q (g x) = false := by
        by_contra h
        exact hx (by simpa [h] using hq)
      rw [List.map_cons, List.find?_cons, hpx] at hp
      rw [List.map_cons, List.find?_cons, hqx] at hq
      obtain ⟨c, hc⟩ := ih hp hq
      exact ⟨c, by simpa [hpx, hqx] using hc⟩

/-- Whether a fleet number can be reached rests on the keys of the connections. -/
theorem reaches_iff (d : Dev) (f : Nat) : reaches d f ↔ isOurs d f = true ∨
    ∃ k, (connKeys d).find? (serviceKey f) = some k ∧ (connKeys d).find? (fun x => x.1 == k.1) = some k := by
  refine or_congr_right ⟨?_, ?_⟩
  · rintro ⟨c, hs, hn⟩
    exact ⟨connKey c, by rw [connKeys, List.find?_map]; exact congrArg (Option.map connKey) hs,
      by rw [connKeys, List.find?_map]; exact congrArg (Option.map connKey) hn⟩
  · rintro ⟨k, hs, hn⟩
    obtain ⟨c, hc, hc', rfl⟩ := exists_find?_of_find?_map hs hn
    exact ⟨c, hc, hc'⟩

theorem reaches_congr {d e : Dev} {f : Nat} (hk : connKeys e = connKeys d) (hi : e.img = d.img)
    (ha : e.pair.adopted = d.pair.adopted) (h : reaches d f) : reaches e f := by
  rw [reaches_iff] at *
  rw [hk]
  unfold isOurs fleet img at *
  rwa [hi, ha]

/-! ## Reports leave the keys -/

section
variable (d : Dev)

@[simp] theorem emit_connKeys (o : Out) : connKeys (emit d o) = connKeys d := rfl
@[simp] theorem handOwn_connKeys (m : Svc) (q : U64) : connKeys (handOwn d m q) = connKeys d := rfl
@[simp] theorem setRing_connKeys (r : Ring) : connKeys (setRing d r) = connKeys d := rfl

theorem connKeys_ite {p : Prop} [Decidable p] {a b d : Dev} (ha : connKeys a = connKeys d) (hb : connKeys b = connKeys d) :
    connKeys (if p then a else b) = connKeys d := by
  split <;> assumption

theorem connKeys_of_weft {d e : Dev} (h : e.weft = d.weft) : connKeys e = connKeys d := by rw [connKeys, connKeys, h]

@[simp] theorem ctrAdd_connKeys (a n : Nat) : connKeys (ctrAdd d a n) = connKeys d := connKeys_of_weft (by simp)
@[simp] theorem ctrInc_connKeys (a : Nat) : connKeys (ctrInc d a) = connKeys d := connKeys_of_weft (by simp)
@[simp] theorem mirrorPush_connKeys (rs : List MirrorRec) : connKeys (mirrorPush d rs) = connKeys d :=
  connKeys_of_weft (mirrorPush_frees d rs).weft

@[simp] theorem emitWA_connKeys (o : Out) : connKeys (emitWA d o) = connKeys d := by
  unfold emitWA; split <;> rfl

/-- A fold of steps that leave the keys leaves the keys. -/
theorem foldl_connKeys {α : Type} {f : Dev → α → Dev} (h : ∀ d x, connKeys (f d x) = connKeys d) (l : List α) :
    connKeys (l.foldl f d) = connKeys d := by
  induction l generalizing d with
  | nil => rfl
  | cons x xs ih => exact (ih _).trans (h d x)

@[simp] theorem hostWriteAttr_connKeys (o a : Nat) (bs : Bytes) (ep rx : Bool) :
    connKeys (hostWriteAttr d o a bs ep rx) = connKeys d := by
  unfold hostWriteAttr
  split
  · exact foldl_connKeys _ (fun d p => emitWA_connKeys d _) _
  · exact ctrInc_connKeys d cHostDropped

@[simp] theorem hostWrite_connKeys (o a : Nat) (bs : Bytes) : connKeys (hostWrite d o a bs) = connKeys d :=
  hostWriteAttr_connKeys d o a bs _ _

@[simp] theorem hostRead_connKeys (o a n : Nat) (u : ReadFor) : connKeys (hostRead d o a n u) = connKeys d :=
  foldl_connKeys _ (fun d _ => emit_connKeys d _) _

@[simp] theorem msixRaise_connKeys (o : Nat) : connKeys (msixRaise d o) = connKeys d := by
  unfold msixRaise
  exact connKeys_ite rfl (connKeys_ite (emitWA_connKeys _ _) rfl)

/-- Replacing the first element of a key by one of the same key leaves the keys. -/
theorem map_replaceFirst {α β : Type} {g : α → β} {p : α → Bool} {v : α} {l : List α}
    (h : ∀ x, l.find? p = some x → g v = g x) : (replaceFirst p v l).map g = l.map g := by
  induction l with
  | nil => rfl
  | cons x xs ih =>
    unfold replaceFirst
    by_cases hx : p x = true
    · simp [hx, h x (by simp [hx])]
    · simp only [hx, Bool.false_eq_true, if_false, List.map_cons]
      rw [ih (fun y hy => h y (by simpa [hx] using hy))]

@[simp] theorem postEntry_connKeys (n : Nat) (e : SqEntry) : connKeys (postEntry d n e) = connKeys d := by
  unfold postEntry
  split
  · rfl
  next c hc =>
    extract_lets
    split
    · rfl
    · have hn : c.num = n := by simpa using List.find?_some hc
      refine map_replaceFirst (fun x hx => ?_)
      rw [show x = c from Option.some.inj (hx.symm.trans (by rw [← hc, ← hn]; rfl))]
      rfl

@[simp] theorem sendSvcFor_connKeys (f : Nat) (m : Svc) (c : Cls) (dl po : Option Nat) (u : SqFor) :
    connKeys (sendSvcFor d f m c dl po u).2 = connKeys d := by
  unfold sendSvcFor
  split
  · exact emitWA_connKeys _ _
  · split
    · rfl
    · exact postEntry_connKeys _ _ _

@[simp] theorem sendSvc_connKeys (f : Nat) (m : Svc) : connKeys (sendSvc d f m).2 = connKeys d := sendSvcFor_connKeys ..

@[simp] theorem ringBreak_connKeys (r : Ring) : connKeys (ringBreak d r) = connKeys d := ctrAdd_connKeys _ _ _

@[simp] theorem startHeadRead_connKeys (n : Nat) : connKeys (startHeadRead d n) = connKeys d := by
  unfold startHeadRead
  split
  · rfl
  next r _ =>
    exact connKeys_ite rfl (connKeys_ite (ringBreak_connKeys d r)
      (connKeys_ite (postEntry_connKeys _ _ _) (hostRead_connKeys _ _ _ _ _)))

@[simp] theorem faultWritten_connKeys (r : Ring) (bs : Bytes) : connKeys (faultWritten d r bs) = connKeys d := by
  unfold faultWritten
  exact connKeys_ite (ctrInc_connKeys _ _) ((msixRaise_connKeys _ _).trans (ctrInc_connKeys _ _))

@[simp] theorem ringWriteSlot_connKeys (r : Ring) (b : Bytes) : connKeys (ringWriteSlot d r b) = connKeys d := by
  unfold ringWriteSlot
  extract_lets slot bs a d1 full d2 d3 d4
  have h1 : connKeys d1 = connKeys d := mirrorPush_connKeys d _
  have h3 : connKeys d3 = connKeys d1 := by unfold d3; split <;> simp [d2]
  have h4 : connKeys d4 = connKeys d3 := by unfold d4; split <;> [simp; (split <;> simp)]
  split <;> simp [h4, h3, h1]

@[simp] theorem ringPutRaw_connKeys (n : Nat) (b : Bytes) (keep : Bool) :
    connKeys (ringPutRaw d n b keep).2 = connKeys d := by
  unfold ringPutRaw
  split
  · simp
  · split_ifs <;> simp

@[simp] theorem faultPut_connKeys (o : Nat) (f : FaultRec) : connKeys (faultPut d o f) = connKeys d := by
  unfold faultPut
  split
  · simp
  · split
    · rfl
    · simp

@[simp] theorem unitPut_connKeys (e : CoEntry) : connKeys (unitPut d e) = connKeys d := faultPut_connKeys d e.dest _

@[simp] theorem detectPut_connKeys (o k s c x y : Nat) : connKeys (detectPut d o k s c x y) = connKeys d := by
  unfold detectPut
  have h1 : connKeys (ctrInc d cDetections) = connKeys d := ctrInc_connKeys d _
  exact connKeys_ite ((ctrInc_connKeys (ctrInc d cDetections) cCoalesceFull).trans h1)
    (connKeys_ite ((unitPut_connKeys _ _).trans h1) h1)

@[simp] theorem tellBroken_connKeys (n : Nat) : connKeys (tellBroken n d) = connKeys d := by
  induction n generalizing d with
  | zero => rfl
  | succ n ih =>
    unfold tellBroken
    split
    · rfl
    · rw [ih]
      split <;> simp

@[simp] theorem brokenTold_connKeys : connKeys (brokenTold d) = connKeys d := tellBroken_connKeys d _

@[simp] theorem faultWrite_connKeys (o : Nat) (f : FaultRec) : connKeys (faultWrite d o f) = connKeys d := by
  simp [faultWrite]

@[simp] theorem faultOp_connKeys (r : OpRef) (c st x y : Nat) : connKeys (faultOp d r c st x y) = connKeys d :=
  faultWrite_connKeys d _ _

@[simp] theorem detect_connKeys (k s c x y : Nat) : connKeys (detect d k s c x y) = connKeys d := by
  simp [detect, detectFor]

end

end Sys2Proof.Machine
end

section
/-! # What the home's commands leave alone

Most of what a command of the home does on its way (reporting, mirroring, mapping and freeing frames, reading and moving pages) leaves
requests, time and those it can reach as they were (`HomeStep`), and most of that leaves the tables of skeins, too (`SameSkeins`). Each
operation has one lemma. -/

namespace Sys2Proof.Machine

open Sys2Proof

/-- `e` came from `d` with requests, intake, time, settings, trackers and the routes of service messages as they were. -/
structure HomeStep (d e : Dev) : Prop where
  reqs : e.reqs = d.reqs
  intake : e.intake = d.intake
  clk : e.clk = d.clk
  img : e.img = d.img
  boot : e.boot = d.boot
  trackers : e.weft.trackers = d.weft.trackers
  keys : connKeys e = connKeys d
  adopted : e.pair.adopted = d.pair.adopted

/-- A step that leaves the skeins, their incarnations and the prefix table, too. -/
structure SameSkeins (d e : Dev) : Prop extends HomeStep d e where
  skeins : e.sas.skeins = d.sas.skeins
  inc : e.sas.inc = d.sas.inc
  prefixes : e.sas.prefixTable = d.sas.prefixTable

section
variable {a b c d e : Dev}

theorem HomeStep.refl (d : Dev) : HomeStep d d := by constructor <;> rfl

theorem HomeStep.trans (h : HomeStep a b) (k : HomeStep b c) : HomeStep a c where
  reqs := k.reqs.trans h.reqs
  intake := k.intake.trans h.intake
  clk := k.clk.trans h.clk
  img := k.img.trans h.img
  boot := k.boot.trans h.boot
  trackers := k.trackers.trans h.trackers
  keys := k.keys.trans h.keys
  adopted := k.adopted.trans h.adopted

theorem SameSkeins.refl (d : Dev) : SameSkeins d d := { HomeStep.refl d with skeins := rfl, inc := rfl, prefixes := rfl }

theorem SameSkeins.trans (h : SameSkeins a b) (k : SameSkeins b c) : SameSkeins a c where
  toHomeStep := h.toHomeStep.trans k.toHomeStep
  skeins := k.skeins.trans h.skeins
  inc := k.inc.trans h.inc
  prefixes := k.prefixes.trans h.prefixes

theorem HomeStep.ite {p : Prop} [Decidable p] (ha : HomeStep d a) (hb : HomeStep d b) : HomeStep d (if p then a else b) := by
  split <;> assumption

theorem SameSkeins.ite {p : Prop} [Decidable p] (ha : SameSkeins d a) (hb : SameSkeins d b) :
    SameSkeins d (if p then a else b) := by
  split <;> assumption

theorem HomeStep.foldl {α : Type} {f : Dev → α → Dev} (h : ∀ d x, HomeStep d (f d x)) (l : List α) (d : Dev) :
    HomeStep d (l.foldl f d) := by
  induction l generalizing d with
  | nil => exact .refl d
  | cons x xs ih => exact (h d x).trans (ih _)

theorem SameSkeins.foldl {α : Type} {f : Dev → α → Dev} (h : ∀ d x, SameSkeins d (f d x)) (l : List α) (d : Dev) :
    SameSkeins d (l.foldl f d) := by
  induction l generalizing d with
  | nil => exact .refl d
  | cons x xs ih => exact (h d x).trans (ih _)

/-- The same where a value comes with the device. -/
theorem HomeStep.ite₂ {α : Type} {p : Prop} [Decidable p] {a b : α × Dev} (ha : HomeStep d a.2) (hb : HomeStep d b.2) :
    HomeStep d (if p then a else b).2 := by
  split <;> assumption

theorem SameSkeins.ite₂ {α : Type} {p : Prop} [Decidable p] {a b : α × Dev} (ha : SameSkeins d a.2) (hb : SameSkeins d b.2) :
    SameSkeins d (if p then a else b).2 := by
  split <;> assumption

theorem HomeStep.foldl₂ {α β : Type} {f : β × Dev → α → β × Dev} (h : ∀ x a, HomeStep x.2 (f x a).2) (l : List α)
    (x : β × Dev) : HomeStep x.2 (l.foldl f x).2 := by
  induction l generalizing x with
  | nil => exact .refl _
  | cons a l ih => exact (h x a).trans (ih _)

theorem SameSkeins.foldl₂ {α β : Type} {f : β × Dev → α → β × Dev} (h : ∀ x a, SameSkeins x.2 (f x a).2) (l : List α)
    (x : β × Dev) : SameSkeins x.2 (l.foldl f x).2 := by
  induction l generalizing x with
  | nil => exact .refl _
  | cons a l ih => exact (h x a).trans (ih _)

/-- Who could be reached can still be reached. -/
theorem HomeStep.reaches {f : Nat} (h : HomeStep d e) : reaches d f → reaches e f := reaches_congr h.keys h.img h.adopted

theorem HomeStep.isOurs (h : HomeStep d e) (f : Nat) : isOurs e f = isOurs d f := by
  unfold Machine.isOurs fleet Machine.img
  rw [h.img, h.adopted]

theorem HomeStep.now (h : HomeStep d e) : now e = now d := congrArg Clock.now h.clk

theorem HomeStep.fleet (h : HomeStep d e) : fleet e = fleet d := by unfold Machine.fleet Machine.img; rw [h.img]

theorem HomeStep.hasCache (h : HomeStep d e) : hasCache e = hasCache d := by
  unfold Machine.hasCache roles; rw [h.boot]

theorem SameSkeins.findSkein (h : SameSkeins d e) (i : U64) : findSkein e i = findSkein d i := by
  unfold Machine.findSkein; rw [h.skeins]

theorem SameSkeins.skeinIs {n : Nat} {P : Skein → Prop} (h : SameSkeins d e) (hd : skeinIs d n P) : skeinIs e n P := by
  unfold Machine.skeinIs; rwa [h.skeins]

/-- A report leaves the home's tables, as long as it leaves the keys of the connections. -/
theorem Reports.sameSkeins (h : Reports d e) (hk : connKeys e = connKeys d) : SameSkeins d e where
  reqs := h.reqs
  intake := h.intake
  clk := h.clk
  img := h.img
  boot := h.boot
  trackers := h.trackers
  keys := hk
  adopted := by
    show (pairCore e.pair).adopted = (pairCore d.pair).adopted
    rw [h.pair]
  skeins := by rw [h.sas]
  inc := by rw [h.sas]
  prefixes := by rw [h.sas]

end

section
variable (d : Dev)

/-- A new SAS alone. -/
theorem sas_homeStep (x : Sas) : HomeStep d { d with sas := x } := { HomeStep.refl d with }

/-! ## Reports -/

theorem ctrAdd_sameSkeins (a n : Nat) : SameSkeins d (ctrAdd d a n) := (ctrAdd_reports d a n).sameSkeins (by simp)
theorem ctrInc_sameSkeins (a : Nat) : SameSkeins d (ctrInc d a) := ctrAdd_sameSkeins d a 1
theorem mirrorPush_sameSkeins (rs : List MirrorRec) : SameSkeins d (mirrorPush d rs) :=
  (mirrorPush_reports d rs).sameSkeins (by simp)
theorem faultOp_sameSkeins (r : OpRef) (c st x y : Nat) : SameSkeins d (faultOp d r c st x y) :=
  (faultOp_reports d r c st x y).sameSkeins (by simp)
theorem detect_sameSkeins (k s c x y : Nat) : SameSkeins d (detect d k s c x y) :=
  (detect_reports d k s c x y).sameSkeins (by simp)
theorem postEntry_sameSkeins (n : Nat) (e : SqEntry) : SameSkeins d (postEntry d n e) :=
  (postEntry_reports d n e).sameSkeins (by simp)

/-- A service message to this device itself hands its pages over; that leaves the tables of skeins, too. -/
theorem sendSvc_sameSkeins (f : Nat) (m : Svc) : SameSkeins d (sendSvc d f m).2 := by
  rcases sendSvc_reports d f m with h | h
  · exact h.sameSkeins (by simp)
  · have hown : SameSkeins d (handOwn d m (shipReq m)) := { HomeStep.refl d with skeins := rfl, inc := rfl, prefixes := rfl }
    exact hown.trans (h.sameSkeins (by simp))

theorem freeNext_sameSkeins : SameSkeins d (freeNext d).2 := { HomeStep.refl d with skeins := rfl, inc := rfl, prefixes := rfl }

/-! ## Mirroring -/

theorem sasMirror_reports (o a : Nat) (bs : Bytes) : Reports d (sasMirror d o a bs) :=
  .ite (.foldl _ (fun d _ => mirrorPush_reports d _) _ d) (.refl d)

theorem sasMirror_sameSkeins (o a : Nat) (bs : Bytes) : SameSkeins d (sasMirror d o a bs) :=
  .ite (.foldl (fun d _ => mirrorPush_sameSkeins d _) _ d) (.refl d)

theorem mirrorDirs_reports (was : Option Skein) (k : Skein) : Reports d (mirrorDirs d was k) := by
  unfold mirrorDirs
  refine .ite (.refl d) ((sasMirror_reports _ _ _ _).trans (.foldl _ (fun d l => ?_) _ _))
  have h : Reports d (if was.map (fun x => x.dirBytes l) == some (k.dirBytes l) then d
      else sasMirror d k.tenant (k.dirAddr l) (k.dirBytes l)) := .ite (.refl d) (sasMirror_reports _ _ _ _)
  exact .ite h (h.trans (sasMirror_reports _ _ _ _))

theorem mirrorDirs_sameSkeins (was : Option Skein) (k : Skein) : SameSkeins d (mirrorDirs d was k) := by
  unfold mirrorDirs
  refine .ite (.refl d) ((sasMirror_sameSkeins _ _ _ _).trans (.foldl (fun d l => ?_) _ _))
  have h : SameSkeins d (if was.map (fun x => x.dirBytes l) == some (k.dirBytes l) then d
      else sasMirror d k.tenant (k.dirAddr l) (k.dirBytes l)) := .ite (.refl d) (sasMirror_sameSkeins _ _ _ _)
  exact .ite h (h.trans (sasMirror_sameSkeins _ _ _ _))

theorem mirrorRef_sameSkeins (k : Skein) (r : PageRef) (b : PageBody) : SameSkeins d (mirrorRef d k r b) :=
  (sasMirror_sameSkeins _ _ _ _).trans ((sasMirror_sameSkeins _ _ _ _).trans (.foldl (fun d _ => sasMirror_sameSkeins d _ _ _) _ _))

theorem mirrorPage_sameSkeins (k : Skein) (r : PageRef) (b : PageBody) (gs : List Nat) :
    SameSkeins d (mirrorPage d k r b gs) :=
  .ite (.refl d) (.trans (.foldl (fun d _ => sasMirror_sameSkeins d _ _ _) _ _)
    ((mirrorRef_sameSkeins _ _ _ _).trans (.foldl (fun d _ => sasMirror_sameSkeins d _ _ _) _ _)))

/-! ## Frames -/

theorem dropUnitSlot_sameSkeins (f : Nat) : SameSkeins d (dropUnitSlot d f) := by
  unfold dropUnitSlot
  split
  · exact .refl d
  · split
    · exact .refl d
    · exact { HomeStep.refl d with skeins := rfl, inc := rfl, prefixes := rfl }

/-- New stacks, bobbin units or other parts of the SAS than the tables of skeins. -/
theorem tables_sameSkeins {stk : Stacks} {bob : Bobbin} {sas : Sas} {codec : Option (Nat × Nat)} {fab : Fabric}
    (hk : sas.skeins = d.sas.skeins := by rfl) (hi : sas.inc = d.sas.inc := by rfl)
    (hp : sas.prefixTable = d.sas.prefixTable := by rfl) :
    SameSkeins d { d with stk := stk, bob := bob, sas := sas, codecErr := codec, fab := fab } :=
  { HomeStep.refl d with skeins := hk, inc := hi, prefixes := hp }

end

end Sys2Proof.Machine
end

section
/-! # Frames mapped and freed, lines read, pages moved: what they leave alone -/

namespace Sys2Proof.Machine

open Sys2Proof

section
variable (d : Dev)

theorem mapStack_sameSkeins {f : Nat} {e : Dev} (h : mapStack d f = some e) : SameSkeins d e := by
  unfold mapStack at h
  split at h
  · cases h
  · cases h
    next h s _ =>
      have h0 : SameSkeins d (if h == s then d else ctrInc d (cStack h 0x120)) := .ite (.refl d) (ctrInc_sameSkeins _ _)
      exact h0.trans ((dropUnitSlot_sameSkeins _ _).trans (tables_sameSkeins _))

theorem mapFrame_sameSkeins {f : Nat} {e : Dev} (h : mapFrame d f = some e) : SameSkeins d e := by
  unfold mapFrame at h
  split at h
  · exact mapStack_sameSkeins d h
  · split at h
    · cases h; exact .refl d
    · split at h
      · cases h
      · obtain ⟨x, hx, rfl⟩ := Option.map_eq_some_iff.mp h
        exact (mapStack_sameSkeins d hx).trans ((tables_sameSkeins x).trans (ctrInc_sameSkeins _ _))

end

theorem mapAll_sameSkeins {d : Dev} {fs : List Nat} {e : Dev} (h : mapAll d fs = some e) : SameSkeins d e := by
  induction fs generalizing d with
  | nil => cases h; exact .refl _
  | cons f fs ih =>
    unfold mapAll at h
    split at h
    · cases h
    next x hx => exact (mapFrame_sameSkeins d hx).trans (ih h)

section
variable (d : Dev)

/-- Frames that lie in the stack tier are mapped already. -/
theorem mapAll_of_inStack {fs : List Nat} (h : ∀ f ∈ fs, (tget d.sas.frames f).any (fun e => e.stack.isSome) = true) :
    mapAll d fs = some d := by
  induction fs with
  | nil => rfl
  | cons f fs ih =>
    have hf : mapFrame d f = some d := by
      obtain ⟨e, he, hs⟩ := (Option.any_eq_true _ _).mp (h f List.mem_cons_self)
      simp [mapFrame, he, hs]
    unfold mapAll
    rw [hf]
    exact ih (fun g hg => h g (List.mem_cons_of_mem _ hg))

theorem unmapFrames_sameSkeins (o : Nat) (fs : List Nat) : SameSkeins d (unmapFrames d o fs) :=
  .ite (.refl d) (.trans (.foldl (fun d f => dropUnitSlot_sameSkeins d f) _ d)
    ((tables_sameSkeins _).trans (mirrorPush_sameSkeins _ _)))

theorem collect_sameSkeins : SameSkeins d (collect d) := by
  unfold collect
  refine .trans (tables_sameSkeins _) (.trans (.foldl (fun d b => ?_) _ _) (.foldl (fun d r => ?_) _ _))
  · exact .trans (tables_sameSkeins _) (unmapFrames_sameSkeins _ _ _)
  · exact .ite ((unmapFrames_sameSkeins _ _ _).trans (tables_sameSkeins _)) (unmapFrames_sameSkeins _ _ _)

/-! ## The poison of lines -/

theorem unpoison_sameSkeins (a n : Nat) : SameSkeins d (unpoison d a n) :=
  .foldl (fun _ _ => tables_sameSkeins _) _ d

theorem unpoisonMeta_sameSkeins (k : Skein) (l p : Nat) (gs : List Nat) : SameSkeins d (unpoisonMeta d k l p gs) :=
  .trans (.trans ((unpoison_sameSkeins _ _ _).trans (unpoison_sameSkeins _ _ _)) (.foldl (fun _ _ => unpoison_sameSkeins _ _ _) _ _))
    (.foldl (fun _ _ => unpoison_sameSkeins _ _ _) _ _)

theorem poisonRead_sameSkeins (a n : Nat) : SameSkeins d (poisonRead d a n).2 := by
  unfold poisonRead
  split
  · exact .refl d
  · exact ctrInc_sameSkeins _ _

/-! ## Reads of the stack tier -/

theorem setStack_sameSkeins (n : Nat) (u : StackUnit) : SameSkeins d (setStack d n u) := tables_sameSkeins _

theorem dieCorrected_sameSkeins (n die : Nat) : SameSkeins d (dieCorrected d n die) :=
  (ctrInc_sameSkeins d _).trans (.ite ((setStack_sameSkeins _ _ _).trans (detect_sameSkeins _ _ _ _ _ _)) (.refl _))

theorem lineUncorrectable_sameSkeins (n p l : Nat) (ss : List Nat) : SameSkeins d (lineUncorrectable d n p l ss) :=
  (setStack_sameSkeins _ _ _).trans (ctrInc_sameSkeins _ _)

theorem readLine_sameSkeins (n p l : Nat) (es : SymbolErrors) : SameSkeins d (readLine d n p l es).2 := by
  unfold readLine
  refine .ite₂ (ctrInc_sameSkeins _ _) (.ite₂ (.refl d) (.ite₂ ?_ (.ite₂ (lineUncorrectable_sameSkeins _ _ _ _ _)
    (.ite₂ ((freeNext_sameSkeins d).trans (lineUncorrectable_sameSkeins _ _ _ _ _))
      ((freeNext_sameSkeins d).trans (ctrInc_sameSkeins _ _))))))
  have h := ctrInc_sameSkeins d (cStack n 0x100)
  split
  · exact h.trans (dieCorrected_sameSkeins _ _ _)
  · exact h

/-- A read may write other data into a line (R297), never into requests, time or routes. -/
theorem readSasLine_homeStep (f l : Nat) (es : SymbolErrors) : HomeStep d (readSasLine d f l es).2 := by
  unfold readSasLine
  extract_lets a
  split
  · exact .refl d
  next n p l' _ =>
    extract_lets r
    have h : HomeStep d r.2 := (readLine_sameSkeins d n p l' es).toHomeStep
    split
    · exact { h with }
    · exact h

theorem readLines_homeStep (found : List LineErr) : HomeStep d (readLines found d).2 :=
  HomeStep.foldl₂ (f := fun (r : Bool × Dev) (e : LineErr) =>
      (r.1 || (readSasLine r.2 e.frame e.line e.errs).1 == .bad, (readSasLine r.2 e.frame e.line e.errs).2))
    (fun r e => readSasLine_homeStep r.2 e.frame e.line e.errs) found (false, d)

theorem readRanges_homeStep (found : List LineErr) (rs : List (Nat × Nat)) : HomeStep d (readRanges found rs d).2 := by
  induction rs generalizing d with
  | nil => exact .refl d
  | cons r rs ih =>
    have hp : HomeStep d (poisonRead d r.1 r.2).2 := (poisonRead_sameSkeins d r.1 r.2).toHomeStep
    unfold readRanges
    extract_lets p q
    have hq : HomeStep d q.2 := .ite₂ hp (hp.trans (readLines_homeStep _ _))
    exact .ite₂ hq (hq.trans (ih _))

/-- A read that finds no line in error leaves the tables of skeins, too. -/
theorem readRanges_nil_sameSkeins (rs : List (Nat × Nat)) : SameSkeins d (readRanges [] rs d).2 := by
  induction rs generalizing d with
  | nil => exact .refl d
  | cons r rs ih =>
    have hp : SameSkeins d (poisonRead d r.1 r.2).2 := poisonRead_sameSkeins d r.1 r.2
    unfold readRanges
    extract_lets p q
    have hq : SameSkeins d q.2 := .ite₂ hp hp
    exact .ite₂ hq (hq.trans (ih _))

/-! ## Pages that travel -/

theorem countCoded_sameSkeins (bs : List StoredBlock) : SameSkeins d (countCoded d bs) :=
  .foldl (fun d _ => (ctrAdd_sameSkeins d _ _).trans (.ite (ctrInc_sameSkeins _ _)
    ((ctrInc_sameSkeins _ _).trans (ctrInc_sameSkeins _ _)))) _ d

theorem countExpanded_sameSkeins (bs : List StoredBlock) : SameSkeins d (countExpanded d bs) :=
  .foldl (fun d _ => ctrInc_sameSkeins d _) _ d

theorem decodeError_sameSkeins (r : OpRef) (fc a k : Nat) : SameSkeins d (decodeError d r fc a k) :=
  ((tables_sameSkeins d).trans (faultOp_sameSkeins _ _ _ _ _ _)).trans (ctrInc_sameSkeins _ _)

theorem lookGroup_sameSkeins (a : Nat) : SameSkeins d (lookGroup d a) :=
  .ite (ctrInc_sameSkeins _ _) (.ite ((tables_sameSkeins d).trans (ctrInc_sameSkeins _ _))
    ((freeNext_sameSkeins d).trans ((tables_sameSkeins _).trans (ctrInc_sameSkeins _ _))))

theorem shuttleBytes_sameSkeins (i o : Nat) : SameSkeins d (shuttleBytes d i o) :=
  (ctrAdd_sameSkeins _ _ _).trans (ctrAdd_sameSkeins _ _ _)

theorem shuttleBody_sameSkeins (b : PageBody) (o : Nat) : SameSkeins d (shuttleBody d b o) :=
  .trans (.foldl (fun d a => lookGroup_sameSkeins d a) _ d) (shuttleBytes_sameSkeins _ _ _)

theorem expandBody_sameSkeins (s : Shape) (b : PageBody) : SameSkeins d (expandBody d s b).2 := by
  unfold expandBody
  split
  · have h := countExpanded_sameSkeins d b.blocks
    extract_lets thin n e
    split
    · split
      · exact h.trans (ctrAdd_sameSkeins _ _ _)
      · exact h
    · exact h
  · exact countExpanded_sameSkeins _ _

theorem readBody_sameSkeins (s : Shape) (b : PageBody) : SameSkeins d (readBody d s b).2 :=
  (expandBody_sameSkeins d s b).trans (shuttleBody_sameSkeins _ _ _)

theorem travelPart_sameSkeins (k : Skein) (r : PageRef) : SameSkeins d (travelPart d k r).2 := by
  unfold travelPart
  split
  · exact .refl d
  next b _ =>
    extract_lets p x bs
    split
    · have h : SameSkeins d x.2 := readBody_sameSkeins d k.shape b
      split
      · exact h
      · exact h.trans (countCoded_sameSkeins _ _)
    · split
      · exact .refl d
      · exact shuttleBody_sameSkeins _ _ _

theorem travelParts_sameSkeins (k : Skein) (ref : OpRef) (rs : List PageRef) : SameSkeins d (travelParts d k ref rs).2 := by
  induction rs generalizing d with
  | nil => exact .refl d
  | cons r rs ih =>
    unfold travelParts
    extract_lets x
    have h : SameSkeins d x.2 := travelPart_sameSkeins d k r
    split
    · exact h.trans (ih _)
    · exact (h.trans (decodeError_sameSkeins _ _ _ _ _)).trans (ih _)

/-- A part that travels is of the page that it was made of. -/
theorem travelPart_page {k : Skein} {r : PageRef} {p : PagePart} (h : (travelPart d k r).1 = .inl p) :
    p.layer = r.layer ∧ p.page = r.page := by
  unfold travelPart at h
  split at h
  · cases h
  · extract_lets q x bs at h
    split at h
    · split at h
      · cases h
      · rw [← Sum.inl.inj h]; exact ⟨rfl, rfl⟩
    · split at h
      · cases h
      · rw [← Sum.inl.inj h]; exact ⟨rfl, rfl⟩

theorem travelParts_page {k : Skein} {ref : OpRef} {rs : List PageRef} {p : PagePart}
    (h : p ∈ (travelParts d k ref rs).1) : ∃ r ∈ rs, r.layer = p.layer ∧ r.page = p.page := by
  induction rs generalizing d with
  | nil => cases h
  | cons r rs ih =>
    unfold travelParts at h
    extract_lets x at h
    split at h
    next q hq =>
      rcases List.mem_cons.mp h with rfl | h
      · obtain ⟨hl, hp⟩ := travelPart_page d hq
        exact ⟨r, List.mem_cons_self, hl.symm, hp.symm⟩
      · obtain ⟨s, hs, hsp⟩ := ih _ h
        exact ⟨s, List.mem_cons_of_mem _ hs, hsp⟩
    · obtain ⟨s, hs, hsp⟩ := ih _ h
      exact ⟨s, List.mem_cons_of_mem _ hs, hsp⟩

/-! ## Promotions -/

theorem pumpReads_sameSkeins : SameSkeins d (pumpReads d) :=
  .foldl (fun d _ => .ite (.refl d) (tables_sameSkeins d)) _ d

theorem addRead_sameSkeins (u : Nat) (c : Cls) (dl : Nat) (use : BobUse) : SameSkeins d (addRead d u c dl use) := by
  unfold addRead
  refine .ite (.refl d) ?_
  extract_lets t hit e rs r
  have he : SameSkeins d e := .ite (ctrInc_sameSkeins _ _) (.refl d)
  exact he.trans ((tables_sameSkeins e).trans (pumpReads_sameSkeins _))

theorem promoteFrame_sameSkeins (f : Nat) (op : Option Nat) (w : Option (Nat × Nat)) (c : Cls) (dl : Nat) :
    SameSkeins d (promoteFrame d f op w c dl).2 := by
  unfold promoteFrame
  split
  · exact .refl d
  · split
    · exact .refl d
    · split
      · exact .refl d
      · dsimp only
        refine .trans (.ite (.refl d) (tables_sameSkeins d)) (.ite (.refl _) (addRead_sameSkeins _ _ _ _ _))

theorem promoteAll_sameSkeins (fs : List Nat) (op : Option Nat) (w : Option (Nat × Nat)) (c : Cls) (dl : Nat) :
    SameSkeins d (promoteAll fs op w c dl d).2 := by
  refine .foldl₂ (fun x f => ?_) fs (none, d)
  split
  · exact .refl _
  · exact promoteFrame_sameSkeins _ _ _ _ _ _

end

end Sys2Proof.Machine
end

section
/-! # Skeins stored, found and freed; answers sent -/

namespace Sys2Proof.Machine

open Sys2Proof

/-- The value that replaces an element stands in the list afterwards. -/
theorem mem_replaceFirst {α : Type} {p : α → Bool} {v : α} {l : List α} (h : ∃ x ∈ l, p x = true) : v ∈ replaceFirst p v l := by
  induction l with
  | nil => simp at h
  | cons x xs ih =>
    unfold replaceFirst
    split
    · exact List.mem_cons_self
    next hx =>
      obtain ⟨y, hy, hp⟩ := h
      rcases List.mem_cons.mp hy with rfl | hy
      · exact absurd hp hx
      · exact List.mem_cons_of_mem _ (ih ⟨y, hy, hp⟩)

/-! ## Answers -/

theorem emitWA_goes (d : Dev) (m : Svc) : goes (emitWA d (.local_ m.named)) m := by
  unfold emitWA goes
  split
  · exact .inr (.inl ⟨_, List.mem_append_right _ List.mem_cons_self, rfl⟩)
  · exact .inl List.mem_cons_self

/-- An entry that is posted on a READY connection stands in its queue. -/
theorem postEntry_queued {d : Dev} {c : Conn} {e : SqEntry} (hc : findConn d c.num = some c) (hr : c.state = .ready) :
    ∃ x ∈ (postEntry d c.num e).weft.conns, ∃ y ∈ x.queue, y.data = e.data := by
  unfold postEntry
  rw [hc]
  simp only [hr, bne_self_eq_false, Bool.false_eq_true, if_false]
  exact ⟨_, mem_replaceFirst ⟨c, List.mem_of_find?_eq_some hc, by simp⟩, _, List.mem_append_right _ List.mem_cons_self, rfl⟩

/-- A message to a fleet number that can be reached is on its way. -/
theorem goes_sendSvc {d : Dev} {f : Nat} {m : Svc} (h : reaches d f) : goes (sendSvc d f m).2 m := by
  unfold sendSvc sendSvcFor
  split
  · exact emitWA_goes _ m
  next ho =>
    obtain ho' | ⟨c, hs, hc⟩ := h
    · exact absurd ho' ho
    · rw [hs]
      have hr : c.state = .ready := by
        have := List.find?_some hs
        simp at this
        exact this.1.2
      exact .inr (.inr (postEntry_queued hc hr))

theorem stateReply_sameSkeins (d : Dev) (frm : Nat) (req : U64) (kind st : Nat) : SameSkeins d (stateReply d frm req kind st) :=
  sendSvc_sameSkeins _ _ _

theorem goes_stateReply {d : Dev} {frm : Nat} {req : U64} {kind st : Nat} (h : reaches d frm) :
    goes (stateReply d frm req kind st) (.stateReply req kind st) := goes_sendSvc h

/-! ## The table of skeins -/

section
variable {d : Dev} {k : Skein}

theorem findSkein_id {i : U64} (h : findSkein d i = some k) : k.id = i := by simpa using List.find?_some h

theorem findSkein_is {i : U64} (h : findSkein d i = some k) : skeinIs d k.slot (· = k) :=
  ⟨k, List.mem_of_find?_eq_some h, rfl, rfl⟩

theorem skeinIs.imp {n : Nat} {P Q : Skein → Prop} (h : skeinIs d n P) (hpq : ∀ x, P x → Q x) : skeinIs d n Q := by
  obtain ⟨x, hx, hn, hp⟩ := h
  exact ⟨x, hx, hn, hpq x hp⟩

/-- Storing a skein changes the SAS by that skein alone. -/
theorem setSkein_sas (d : Dev) (k : Skein) :
    (setSkein d k).sas = { d.sas with skeins := replaceFirst (fun x => x.slot == k.slot) k d.sas.skeins } :=
  (mirrorDirs_reports _ _ _).sas

theorem setSkein_homeStep (d : Dev) (k : Skein) : HomeStep d (setSkein d k) :=
  (sas_homeStep d _).trans (mirrorDirs_sameSkeins _ _ _).toHomeStep

/-- A skein that is stored where one stood stands there. -/
theorem skeinIs_setSkein {n : Nat} {P Q : Skein → Prop} (h : skeinIs d n Q) (hn : k.slot = n) (hk : P k) :
    skeinIs (setSkein d k) n P := by
  obtain ⟨x, hx, hs, -⟩ := h
  refine ⟨k, ?_, hn, hk⟩
  rw [setSkein_sas]
  exact mem_replaceFirst ⟨x, hx, by simp [hs, hn]⟩

/-- Storing a skein leaves which slots hold one. -/
theorem setSkein_slots (d : Dev) (k : Skein) : (setSkein d k).sas.skeins.map (·.slot) = d.sas.skeins.map (·.slot) := by
  rw [setSkein_sas]
  refine map_replaceFirst (fun x hx => ?_)
  have := List.find?_some hx
  simp at this
  exact this.symm

theorem skeinIs_of_slots {e : Dev} {n : Nat} {P : Skein → Prop} (h : e.sas.skeins.map (·.slot) = d.sas.skeins.map (·.slot))
    (hd : skeinIs d n P) : skeinIs e n (fun _ => True) := by
  obtain ⟨x, hx, hn, -⟩ := hd
  obtain ⟨y, hy, hs⟩ := List.mem_map.mp (h ▸ List.mem_map_of_mem (f := fun x : Skein => x.slot) hx)
  exact ⟨y, hy, hs.trans hn, trivial⟩

/-! ## The prefix table -/

theorem prefixInsert_homeStep (d : Dev) (k : Skein) (b : Nat) (h : U128) : HomeStep d (prefixInsert d k b h) := by
  unfold prefixInsert
  refine .ite (.refl d) ?_
  split
  · exact (ctrInc_sameSkeins _ _).toHomeStep
  · exact (sas_homeStep d _).trans (sasMirror_sameSkeins _ _ _ _).toHomeStep

theorem prefixInsert_skeins (d : Dev) (k : Skein) (b : Nat) (h : U128) : (prefixInsert d k b h).sas.skeins = d.sas.skeins := by
  unfold prefixInsert
  extract_lets bu here
  split
  · rfl
  · split
    · exact (ctrInc_sameSkeins _ _).skeins
    · exact (sasMirror_sameSkeins _ _ _ _).skeins

theorem prefixRemove_eq (d : Dev) (k : Skein) : SameSkeins
    { d with sas := { d.sas with prefixTable := d.sas.prefixTable.filter (fun e => e.skein != k.id) } } (prefixRemove d k) :=
  .foldl (fun _ _ => sasMirror_sameSkeins _ _ _ _) _ _

theorem prefixRemove_homeStep (d : Dev) (k : Skein) : HomeStep d (prefixRemove d k) :=
  (sas_homeStep d _).trans (prefixRemove_eq d k).toHomeStep

theorem prefixRemove_skeins (d : Dev) (k : Skein) : (prefixRemove d k).sas.skeins = d.sas.skeins := (prefixRemove_eq d k).skeins

theorem prefixRemove_prefixes {d : Dev} {k : Skein} {e : PrefixEntry} (h : e ∈ (prefixRemove d k).sas.prefixTable) :
    e.skein ≠ k.id := by
  rw [(prefixRemove_eq d k).prefixes] at h
  simpa using (List.mem_filter.mp h).2

/-! ## Freeing -/

/-- Freeing a skein takes out its prefix entries and then the skeins at its slot; the rest of it leaves the tables of skeins. -/
theorem freeSkein_eq (d : Dev) (k : Skein) : SameSkeins { prefixRemove d k with sas := { (prefixRemove d k).sas with
    skeins := (prefixRemove d k).sas.skeins.filter (fun x => x.slot != k.slot) } } (freeSkein d k) := by
  exact (sasMirror_sameSkeins _ _ _ _).trans (.trans (.ite ((tables_sameSkeins _).trans (ctrInc_sameSkeins _ _)) (.refl _))
    (collect_sameSkeins _))

theorem freeSkein_homeStep (d : Dev) (k : Skein) : HomeStep d (freeSkein d k) :=
  (prefixRemove_homeStep d k).trans ((sas_homeStep _ _).trans (freeSkein_eq d k).toHomeStep)

theorem freeSkein_slot {d : Dev} {k x : Skein} (h : x ∈ (freeSkein d k).sas.skeins) : x.slot ≠ k.slot := by
  rw [(freeSkein_eq d k).skeins] at h
  simpa using (List.mem_filter.mp h).2

theorem freeSkein_prefixes {d : Dev} {k : Skein} {e : PrefixEntry} (h : e ∈ (freeSkein d k).sas.prefixTable) :
    e.skein ≠ k.id := by
  rw [(freeSkein_eq d k).prefixes] at h
  exact prefixRemove_prefixes h

end

/-! ## The home's window shipment -/

theorem postFlush_sameSkeins (d : Dev) (p : Nat) (u : SqFor) : SameSkeins d (postFlush d p u) := by
  unfold postFlush
  refine .ite (.refl d) ?_
  split
  · exact postEntry_sameSkeins _ _ _
  · exact .refl d

theorem shipReady_sameSkeins (d : Dev) (k : Skein) (rs : List PageRef) : SameSkeins d (shipReady d k rs).2 := by
  unfold shipReady
  extract_lets fs c e
  have he : SameSkeins d e := by
    unfold e
    split
    · exact ctrInc_sameSkeins _ _
    · exact .refl d
  exact .ite₂ (.refl d) (he.trans (promoteAll_sameSkeins _ _ _ _ _ _))

/-- `x` is `k` but for the marks of its shipments. -/
def ShipMarks (k x : Skein) : Prop := ∃ sent due waits, x = { k with windowSent := sent, windowDue := due, shipWaits := waits }

/-- `e` came from `d` by a step of the home that changes no more of the skein `k` than the marks of its shipments. -/
structure ShipStep (k : Skein) (d e : Dev) : Prop extends HomeStep d e where
  skein : skeinIs d k.slot (ShipMarks k) → skeinIs e k.slot (ShipMarks k)

section
variable {a b c d e : Dev} {k x : Skein}

theorem SameSkeins.shipStep (h : SameSkeins d e) : ShipStep k d e := { h.toHomeStep with skein := h.skeinIs }

theorem ShipStep.trans (h : ShipStep k a b) (h' : ShipStep k b c) : ShipStep k a c :=
  { h.toHomeStep.trans h'.toHomeStep with skein := h'.skein ∘ h.skein }

theorem setSkein_shipStep (hx : ShipMarks k x) : ShipStep k d (setSkein d x) :=
  { setSkein_homeStep d x with
    skein := fun h => skeinIs_setSkein h (by obtain ⟨_, _, _, rfl⟩ := hx; rfl) hx }

theorem homeWindowEnd_shipStep (hx : ShipMarks k x) (ok : Bool) : ShipStep k d (homeWindowEnd d x ok) := by
  have hs : ShipStep k d (setSkein d { x with windowSent := false }) :=
    setSkein_shipStep (by obtain ⟨_, due, waits, rfl⟩ := hx; exact ⟨false, due, waits, rfl⟩)
  unfold homeWindowEnd
  split
  · exact (SameSkeins.refl d).shipStep
  · split
    · exact hs
    · exact hs.trans ((faultOp_sameSkeins _ _ _ _ _ _).trans (sendSvc_sameSkeins _ _ _)).shipStep

theorem homeWindow_shipStep (d : Dev) (k : Skein) : ShipStep k d (homeWindow d k) := by
  have hsent : ShipMarks k { k with windowSent := true, windowDue := false, shipWaits := false } := ⟨_, _, _, rfl⟩
  have hend (e : Dev) : ShipStep k e (homeWindowEnd (setSkein e _) _ false) :=
    (setSkein_shipStep hsent).trans (homeWindowEnd_shipStep hsent false)
  unfold homeWindow
  split
  · exact (SameSkeins.refl d).shipStep
  · extract_lets rs sent
    split
    · exact hend d
    · have hr := shipReady_sameSkeins d k rs
      split
      next e he =>
        rw [he] at hr
        exact hr.shipStep.trans (setSkein_shipStep ⟨k.windowSent, true, true, rfl⟩)
      next e he =>
        rw [he] at hr
        refine hr.shipStep.trans ?_
        have hread := readRanges_nil_sameSkeins e (refRanges e rs)
        split
        next bad e he =>
        rw [he] at hread
        refine hread.shipStep.trans ?_
        split
        · exact ((setSkein_shipStep hsent).trans (faultOp_sameSkeins _ _ _ _ _ _).shipStep).trans (homeWindowEnd_shipStep hsent false)
        · have htravel := travelParts_sameSkeins e k k.ref rs
          split
          next ps e he =>
          rw [he] at htravel
          refine htravel.shipStep.trans ?_
          split
          · exact hend e
          · have hsend := ShipStep.trans (setSkein_shipStep (d := e) hsent)
              (sendSvc_sameSkeins _ k.genDevice (.window k.req ps true)).shipStep
            split
            next ok e he =>
            rw [he] at hsend
            refine hsend.trans ?_
            split
            · exact (postFlush_sameSkeins _ _ _).shipStep
            · exact homeWindowEnd_shipStep hsent false

end

end Sys2Proof.Machine
end

section
/-! # Skeins sealed, aborted, released, freed -/

namespace Sys2Proof.Machine

open Sys2Proof

/-- The fields that a seal gives a skein (R44). -/
def Skein.sealedNow (k : Skein) : Skein :=
  { k with sealed := true, state := .bound, splitPage := pagesOf k.tokens - k.windowPages }

/-- A seal enters the hashes of a skein that is to be retained (R44, R216). -/
def sealHashes (d : Dev) (k : Skein) : Dev :=
  if k.retain then (k.chain.take (k.tokens / 64)).zipIdx.foldl (fun d h => prefixInsert d k h.2 h.1) d else d

theorem sealHashes_homeStep (d : Dev) (k : Skein) : HomeStep d (sealHashes d k) :=
  .ite (.foldl (fun d _ => prefixInsert_homeStep d k _ _) _ _) (.refl d)

theorem sealHashes_skeins (d : Dev) (k : Skein) : (sealHashes d k).sas.skeins = d.sas.skeins := by
  unfold sealHashes
  split
  · generalize (k.chain.take (k.tokens / 64)).zipIdx = hs
    induction hs generalizing d with
    | nil => rfl
    | cons h hs ih => exact (ih _).trans (prefixInsert_skeins d k h.2 h.1)
  · rfl

section
variable {s : State} {frm : Nat} {req id : U64} {k : Skein}

/-- The device after the seal of a RECEIVING skein, but for its answer: the skein bound, its hashes entered, its window shipped and its
generation device told (R44, R48, R49). -/
def sealDev (d : Dev) (k : Skein) : Dev :=
  (sendSvc (homeWindow (sealHashes (setSkein d k.sealedNow) k.sealedNow) k.sealedNow) k.genDevice
    (.sealed k.req k.id k.sealedNow.splitPage)).2

theorem sealDev_homeStep (d : Dev) (k : Skein) : HomeStep d (sealDev d k) :=
  (setSkein_homeStep d _).trans ((sealHashes_homeStep _ _).trans
    ((homeWindow_shipStep _ _).toHomeStep.trans (sendSvc_sameSkeins _ _ _).toHomeStep))

theorem sealDev_skein {d : Dev} (h : findSkein d id = some k) : skeinIs (sealDev d k) k.slot (ShipMarks k.sealedNow) := by
  have hset : skeinIs (setSkein d k.sealedNow) k.slot (ShipMarks k.sealedNow) :=
    skeinIs_setSkein (findSkein_is h) rfl ⟨_, _, _, rfl⟩
  have hhash : skeinIs (sealHashes (setSkein d k.sealedNow) k.sealedNow) k.slot (ShipMarks k.sealedNow) := by
    unfold skeinIs; rwa [sealHashes_skeins]
  exact (sendSvc_sameSkeins _ _ _).skeinIs ((homeWindow_shipStep _ k.sealedNow).skein hhash)

theorem execSeal_receiving (h : findSkein s.dev id = some k) (hk : k.state = .receiving) :
    exec (.seal frm req id) s = .next (s.setDev (stateReply (sealDev s.dev k) frm req 0x06 St.ok)) := by
  show execSeal frm req id s = _
  simp only [execSeal, onDev, h, hk, bne_self_eq_false]
  rfl

theorem execAbort_receiving (h : findSkein s.dev id = some k) (hk : k.state = .receiving) :
    exec (.abort frm req id) s =
      .next (s.setDev (stateReply (setSkein s.dev { k with state := .aborted }) frm req 0x07 St.ok)) := by
  show execAbort frm req id s = _
  simp only [execAbort, onDev, h, hk]

theorem execAbort_bound (h : findSkein s.dev id = some k) (hk : k.state = .bound) :
    exec (.abort frm req id) s =
      .next (s.setDev (stateReply (setSkein (prefixRemove s.dev k) { k with state := .aborted }) frm req 0x07 St.ok)) := by
  show execAbort frm req id s = _
  simp only [execAbort, onDev, h, hk]

theorem execRelease_retained (h : findSkein s.dev id = some k) (hk : k.state = .bound) (hr : k.retain = true) :
    exec (.release frm req id) s =
      .next (s.setDev (stateReply (setSkein s.dev { k with state := .prefix_, genDevice := 0 }) frm req 0x08 St.ok)) := by
  show execRelease frm req id s = _
  simp only [execRelease, onDev, h, hk, hr, bne_self_eq_false, Bool.false_eq_true, if_true, if_false]

theorem execRelease_freed (h : findSkein s.dev id = some k) (hk : k.state = .bound) (hr : k.retain = false) :
    exec (.release frm req id) s = .next (s.setDev (stateReply (freeSkein s.dev k) frm req 0x08 St.ok)) := by
  show execRelease frm req id s = _
  simp only [execRelease, onDev, h, hk, hr, bne_self_eq_false, Bool.false_eq_true, if_false]

theorem execSkeinAbortDrained_aborted {n : Nat} (h : skeinAt s.dev n = some k) (hk : k.state = .aborted) :
    exec (.skeinAbortDrained n) s = .next (s.setDev (freeSkein s.dev k)) := by
  show execSkeinAbortDrained n s = _
  simp only [execSkeinAbortDrained, onDev, h, hk, beq_self_eq_true, if_true]

/-- A skein is stored and the answer sent: the skein stands at its slot, the requests are as they were, and the answer goes. -/
theorem stateReply_setSkein {d e : Dev} {n kind : Nat} {Q : Skein → Prop} (x : Skein) (hn : x.slot = n) (he : HomeStep d e)
    (hx : skeinIs e n Q) :
    let r := stateReply (setSkein e x) frm req kind St.ok
    skeinIs r n (· = x) ∧ r.reqs = d.reqs ∧ (reaches d frm → goes r (.stateReply req kind St.ok)) := by
  have hset := he.trans (setSkein_homeStep e x)
  have hreply := stateReply_sameSkeins (setSkein e x) frm req kind St.ok
  exact ⟨hreply.skeinIs (skeinIs_setSkein hx hn rfl), (hset.trans hreply.toHomeStep).reqs, fun hr => goes_stateReply (hset.reaches hr)⟩

end

/-- Settles O42: a seal stores the bound skein before it ships the window, and shipping changes no more of it than its marks; an abort
and a release store the skein or free it, and answer last. -/
theorem skeinEndingCommandsComplete : Obligations.SkeinEndingCommandsComplete := by
  unfold Obligations.SkeinEndingCommandsComplete
  intro s frm req id k h
  have hid := findSkein_id h
  have hat := findSkein_is h
  refine ⟨fun hk => ⟨_, execSeal_receiving h hk, ?_, fun hr => ?_⟩, ?_, fun hk hr => ⟨_, execRelease_retained h hk hr, ?_⟩,
    fun hk hr => ⟨_, execRelease_freed h hk hr, ?_⟩, fun x hx ha => ⟨_, execSkeinAbortDrained_aborted hx ha, ?_⟩⟩
  · refine ((stateReply_sameSkeins _ _ _ _ _).skeinIs (sealDev_skein h)).imp ?_
    rintro x ⟨_, _, _, rfl⟩
    exact ⟨hid, rfl, rfl, rfl, rfl⟩
  · exact goes_stateReply ((sealDev_homeStep s.dev k).reaches hr)
  · rintro (hk | hk)
    · obtain ⟨hs, hq, hg⟩ := stateReply_setSkein (frm := frm) (req := req) (kind := 0x07) { k with state := .aborted } rfl
        (.refl s.dev) hat
      exact ⟨_, execAbort_receiving h hk, hs.imp (by rintro x rfl; exact ⟨hid, rfl⟩), hq, by simp [hk], hg⟩
    · obtain ⟨hs, hq, hg⟩ := stateReply_setSkein (frm := frm) (req := req) (kind := 0x07) { k with state := .aborted } rfl
        (prefixRemove_homeStep s.dev k) (by unfold skeinIs; rw [prefixRemove_skeins]; exact hat)
      refine ⟨_, execAbort_bound h hk, hs.imp (by rintro x rfl; exact ⟨hid, rfl⟩), hq, fun _ e he => ?_, hg⟩
      rw [(stateReply_sameSkeins _ _ _ _ _).prefixes, setSkein_sas] at he
      exact hid ▸ prefixRemove_prefixes he
  · obtain ⟨hs, hq, hg⟩ := stateReply_setSkein (frm := frm) (req := req) (kind := 0x08) { k with state := .prefix_, genDevice := 0 }
      rfl (.refl s.dev) hat
    exact ⟨hs.imp (by rintro x rfl; exact ⟨hid, rfl, rfl, rfl⟩), hq, hg⟩
  · have hreply := stateReply_sameSkeins (freeSkein s.dev k) frm req 0x08 St.ok
    refine ⟨fun x hx => freeSkein_slot (hreply.skeins ▸ hx), fun e he => hid ▸ freeSkein_prefixes (hreply.prefixes ▸ he),
      ((freeSkein_homeStep s.dev k).trans hreply.toHomeStep).reqs, fun hr => goes_stateReply ((freeSkein_homeStep s.dev k).reaches hr)⟩
  · have hslot : x.slot = k.slot := by simpa using List.find?_some hx
    exact ⟨fun y hy => hslot ▸ freeSkein_slot hy, fun e he => freeSkein_prefixes he, (freeSkein_homeStep s.dev x).reqs⟩

end Sys2Proof.Machine
end

section
/-! # Entries stored, and what keeps the request table

A partial's relay is admitted, posted or stopped; none of that changes the request table. -/

namespace Sys2Proof.Machine

open Sys2Proof

variable (d : Dev)

theorem setReq_reqs (r : Req) :
    (setReq d r).reqs = { d.reqs with live := replaceFirst (fun x => x.slot == r.slot) r d.reqs.live } :=
  (mirrorPush_reports _ _).reqs

theorem setReq_sas (r : Req) : (setReq d r).sas = d.sas := (mirrorPush_reports _ _).sas

variable {d} in
/-- An entry that is stored where one stood stands there. -/
theorem entryAt_setReq {r : Req} {n : Nat} {P : Req → Prop} (h : ∃ x ∈ d.reqs.live, x.slot = n) (hn : r.slot = n) (hr : P r) :
    entryAt (setReq d r) n P := by
  obtain ⟨x, hx, hs⟩ := h
  refine ⟨r, ?_, hn, hr⟩
  rw [setReq_reqs]
  exact mem_replaceFirst ⟨x, hx, by simp [hs, hn]⟩

variable {d} in
theorem entryAt_of_reqs {e : Dev} {n : Nat} {P : Req → Prop} (h : e.reqs = d.reqs) (hd : entryAt d n P) : entryAt e n P := by
  unfold entryAt; rwa [h]

/-! ## Barriers (R692) -/

theorem peerCount_reqs (f : Nat) (g : PeerSlot → PeerSlot) : (peerCount d f g).reqs = d.reqs := by
  have h : (peerSlot d f).2.reqs = d.reqs := by
    unfold peerSlot
    extract_lets _ e
    have he : e.reqs = d.reqs := by unfold e; split <;> rfl
    split
    · exact he
    · split
      · exact he
      · split <;> exact he
  exact h

theorem foldl_reqs {α : Type} {f : Dev → α → Dev} (h : ∀ d x, (f d x).reqs = d.reqs) (l : List α) :
    (l.foldl f d).reqs = d.reqs := by
  induction l generalizing d with
  | nil => rfl
  | cons x xs ih => exact (ih _).trans (h d x)

theorem barrierDone_reqs (fs : List Nat) (w : Bool) : (barrierDone d fs w).reqs = d.reqs := by
  refine (foldl_reqs _ (fun d f => peerCount_reqs d f _) _).trans ?_
  split
  · exact peerCount_reqs _ _ _
  · rfl

theorem stepInput_reqs (r : Req) (n f : Nat) : (stepInput d r n f).2.reqs = d.reqs := by
  unfold stepInput
  extract_lets l
  split
  · exact barrierDone_reqs _ _ _
  · rfl

/-- One more input of a barrier changes an entry by the inputs of its steps alone. -/
theorem stepInput_fst (r : Req) (n f : Nat) : ∃ i, (stepInput d r n f).1 = { r with stepIn := i } := by
  unfold stepInput
  extract_lets l
  split <;> exact ⟨_, rfl⟩

/-! ## Admission and the end of operations -/

theorem admitG_reqs (op : Op) (bs : List Nat) (post : Nat) : (admitG d op bs post).2.reqs = d.reqs := by
  unfold admitG
  extract_lets no ta id dl
  have hno (st b : Nat) : (no st b).2.reqs = d.reqs := ctrInc_reqs _ _
  split_ifs
  · exact hno _ _
  · exact hno _ _
  · exact hno _ _
  · exact hno _ _
  · split
    · exact hno _ _
    · exact ctrInc_reqs _ _

theorem acceptB_reqs (op : Op) (bs : List Nat) : (acceptB d op bs).2.reqs = d.reqs := by
  unfold acceptB
  split
  · rfl
  · exact ctrInc_reqs _ _

theorem admissionReply_reqs (ref : OpRef) (st b : Nat) : (admissionReply d ref st b).reqs = d.reqs := by
  unfold admissionReply
  split
  · exact (complete_reports _ _ _ _ _ _).reqs
  · rfl

theorem withdraw_reqs (i : Nat) : (withdraw d i).reqs = d.reqs := by
  unfold withdraw
  split <;> rfl

theorem handOver_reqs (o : Op) : (handOver d o).reqs = d.reqs := by
  unfold handOver
  split
  · split
    · rfl
    · split
      · split <;> rfl
      · rfl
  · rfl

theorem opEnds_reqs (o : Op) (st : Nat) : (opEnds d o st).reqs = d.reqs := by
  unfold opEnds
  split
  · exact (emitWA_reports _ _).reqs.trans (ctrInc_reqs _ _)
  · exact (complete_reports _ _ _ _ _ _).reqs.trans (ctrInc_reqs _ _)
  · exact (complete_reports _ _ _ _ _ _).reqs

theorem stopOp_reqs (o : Op) (c st : Nat) : (stopOp d o c st).reqs = d.reqs := by
  have hdrop : (withdraw (dropOp (handOver d o) o.id) o.id).reqs = d.reqs := (withdraw_reqs _ _).trans (handOver_reqs _ _)
  unfold stopOp
  split
  · unfold failOp
    extract_lets d1 d2 d3
    have h2 : d2.reqs = d.reqs := by
      unfold d2
      split
      · exact (ctrInc_reqs _ _).trans hdrop
      · exact hdrop
    exact (opEnds_reqs _ _ _).trans ((faultOp_reports _ _ _ _ _ _).reqs.trans h2)
  · exact (opEnds_reqs _ _ _).trans hdrop

theorem relayPost_reqs (i : Nat) : (relayPost d i).reqs = d.reqs := by
  unfold relayPost
  split
  · rfl
  · split
    · split
      · rfl
      · split
        · exact stopOp_reqs _ _ _ _
        · exact (postEntry_reports _ _ _).reqs
    · rfl

theorem relayB_reqs (r : Req) (q : QueryOut) (bs : Bytes) (a b st : Nat) : (relayB d r q bs a b st).reqs = d.reqs := by
  unfold relayB
  split
  next op ready _ _ =>
  have h := acceptB_reqs d op ready
  split
  next i e he =>
    rw [he] at h
    have hc : (ctrInc e cPartRelayed).reqs = d.reqs := (ctrInc_reqs _ _).trans h
    rw [relayPost_reqs]
    split
    · split <;> exact hc
    · exact hc
  next e he =>
    rw [he] at h
    exact (admissionReply_reqs _ _ _ _).trans h

end Sys2Proof.Machine
end

section
/-! # Queries, partials and stop sets -/

namespace Sys2Proof.Machine

open Sys2Proof

/-! ## Queries -/

section
variable {d e : Dev} {r : Req} {t : Taken}

theorem findGen_mem {i : U64} (h : findGen d i = some r) : r ∈ d.reqs.live := List.mem_of_find?_eq_some h

theorem lookupReq_of_findGen {i : U64} (h : findGen d i = some r) : lookupReq d i = .gen r := by
  unfold lookupReq; rw [h]

theorem findTaken_lane {l : Nat} {q : U32} (h : findTaken d l q = some t) : t.lane = l := by
  have := List.find?_some h
  simp at this
  exact this.1

/-- What the records of an operation name rests on the image alone. -/
theorem Taken.ref_congr (h : e.img = d.img) (t : Taken) : t.ref e = t.ref d := by
  unfold Taken.ref laneOwner img
  rw [h]

theorem handOwn_of_no_parts {m : Svc} (d : Dev) (q : U64) (h : m.parts = []) : handOwn d m q = d := by
  simp [handOwn, h]

/-- A message without pages that can reach its receiver goes, and sending it is a report. -/
theorem sendSvcFor_of_reaches {f : Nat} {m : Svc} {c : Cls} {dl po : Option Nat} {u : SqFor} (h : reaches d f) (hm : m.parts = []) :
    (sendSvcFor d f m c dl po u).1 = true ∧ Reports d (sendSvcFor d f m c dl po u).2 := by
  refine ⟨?_, ?_⟩
  · unfold sendSvcFor
    split
    · rfl
    next ho =>
      obtain ho' | ⟨x, hs, -⟩ := h
      · exact absurd ho' ho
      · rw [hs]
  · rcases sendSvcFor_reports d f m c dl po u with h | h
    · exact h
    · rwa [handOwn_of_no_parts d _ hm] at h

/-- A query leaves under the next handle, and the entry keeps it. -/
theorem forwardQuery_leaves (bs : Bytes) (hr : r ∈ d.reqs.live) (h : reaches d r.core.home) :
    (forwardQuery d r t bs).reqs.nextHandle = d.reqs.nextHandle + 1 ∧
    entryAt (forwardQuery d r t bs) r.slot (fun x => ∃ o : QueryOut, x.queries = r.queries ++ [o] ∧
      o.handle = u64 d.reqs.nextHandle ∧ o.step = t.step.toNat ∧ o.layer = t.f 0x20 7 0 ∧ o.ref = t.ref d ∧ o.relayed = false) ∧
    (forwardQuery d r t bs).sas = d.sas := by
  unfold forwardQuery
  extract_lets n _ d1 ours spent m msg
  have h1 : reaches d1 r.core.home := h
  obtain ⟨hok, hrep⟩ := sendSvcFor_of_reaches (c := t.cls) (dl := t.deadline) (po := t.deadline) (u := .service msg) (m := msg) h1 rfl
  split
  next ok e he =>
  rw [he] at hok hrep
  subst hok
  have hlive : e.reqs = { d.reqs with nextHandle := n + 1 } := hrep.reqs
  refine ⟨?_, ?_, ?_⟩
  · simp only [Bool.not_true, Bool.false_eq_true, if_false, setReq_reqs]
    exact congrArg Requests.nextHandle hlive
  · simp only [Bool.not_true, Bool.false_eq_true, if_false]
    refine entryAt_setReq ⟨r, ?_, rfl⟩ rfl ⟨_, rfl, rfl, rfl, rfl, ?_, rfl⟩
    · show r ∈ e.reqs.live
      rw [hlive]; exact hr
    · exact Taken.ref_congr hrep.img t
  · simp only [Bool.not_true, Bool.false_eq_true, if_false, setReq_sas]
    exact hrep.sas

/-- The record of a query passes all its checks, up to the read of its data. -/
structure QueryOk (s : State) (l : Nat) (q : U32) (t : Taken) (r : Req) : Prop where
  taken : findTaken s.dev l q = some t
  kind : t.kind = 0x14
  gen : findGen s.dev r.core.requestId = some r
  request : t.request = r.core.requestId
  state : r.state = .decoding
  layer : t.f 0x20 7 0 < r.shape.layers
  conn : t.f 0x30 19 0 = 0xFFFFF ∨ ((findConn s.dev (t.f 0x30 19 0)).isSome ∧
    connForeign s.dev (laneOwner s.dev l) (t.f 0x30 19 0) = false)
  check : recCheck s.dev t (hasGeneration s.dev) (reqForeign s.dev t (.gen r)) none false false true = none

/-- The data of a query is read: from this SAS, or it has come from host memory. -/
def QueryRead (s : State) (l : Nat) (t : Taken) (r : Req) (data : HostData) (found : List LineErr) (e : Dev) : Prop :=
  let n := 2 * r.shape.qHeads * r.shape.headDim
  if t.f 0x28 48 48 = 0 then inStage s.dev (laneOwner s.dev l) (t.f 0x28 47 0) n ∧
    readRanges found [(t.f 0x28 47 0, n)] s.dev = (false, e)
  else e = s.dev ∧ fnUp s.dev (laneOwner s.dev l) ∧ ∃ bs : Bytes, data = some bs ∧ bs.length = n

theorem QueryRead.homeStep {s : State} {l : Nat} {data : HostData} {found : List LineErr} (h : QueryRead s l t r data found e) :
    HomeStep s.dev e := by
  unfold QueryRead at h
  extract_lets n at h
  split at h
  · have hr := readRanges_homeStep s.dev found [(t.f 0x28 47 0, n)]
    rwa [h.2] at hr
  · exact h.1 ▸ .refl s.dev

/-- A query that passes its checks and whose data is read is forwarded (R227). -/
theorem execQuery_forwards {s : State} {l : Nat} {q : U32} {data : HostData} {found : List LineErr} (h : QueryOk s l q t r)
    (hd : QueryRead s l t r data found e) :
    ∃ bs, exec (.query l q (data, found)) s = .next (s.setDev (forwardQuery e r t bs)) := by
  obtain ⟨htaken, hkind, hgen, hreq, hstate, hlayer, hconn, hcheck⟩ := h
  have hf : lookupReq s.dev t.request = .gen r := lookupReq_of_findGen (hreq ▸ hgen)
  have hbad : decide (r.shape.layers ≤ t.f 0x20 7 0) = false := by simpa using hlayer
  have hown : (t.f 0x30 19 0 != 0xFFFFF && connForeign s.dev (laneOwner s.dev l) (t.f 0x30 19 0)) = false := by
    rcases hconn with h | ⟨-, h⟩ <;> simp [h]
  have hmiss : (t.f 0x30 19 0 != 0xFFFFF && (findConn s.dev (t.f 0x30 19 0)).isNone) = false := by
    rcases hconn with h | ⟨h, -⟩
    · simp [h]
    · simp [Option.isNone_eq_false_iff.mpr h]
  show ∃ bs, execQuery l q (data, found) s = _
  simp only [execQuery, onTaken, onDev, htaken, hkind, beq_self_eq_true, if_true, hf, hbad, Bool.and_false, Bool.false_eq_true, if_false,
    hown, Bool.or_false, hcheck, hstate, hmiss]
  unfold QueryRead at hd
  by_cases hsrc : t.f 0x28 48 48 = 0
  · rw [if_pos hsrc] at hd
    obtain ⟨hstage, hread⟩ := hd
    exact ⟨workRead e (t.f 0x28 47 0) (2 * r.shape.qHeads * r.shape.headDim), by simp [hsrc, hstage, hread]⟩
  · rw [if_neg hsrc] at hd
    obtain ⟨rfl, hup, bs, rfl, hlen⟩ := hd
    exact ⟨bs, by simp [hsrc, hostGot, hup, hlen]⟩

end

/-! ## Partials -/

section
variable {d : Dev} {r : Req} {q : QueryOut} {h : U64}

/-- The entry and the query that a handle names stand in the request table. -/
theorem findHandle_mem (hf : findHandle d h = some (r, q)) : r ∈ d.reqs.live ∧ q ∈ r.queries ∧ q.handle = h := by
  obtain ⟨x, hx, hq⟩ := List.exists_of_findSome?_eq_some hf
  split at hq
  · obtain ⟨y, hy, he⟩ := Option.map_eq_some_iff.mp hq
    obtain ⟨rfl, rfl⟩ := Prod.mk.inj he
    exact ⟨hx, List.mem_of_find?_eq_some hy, by simpa using List.find?_some hy⟩
  · cases hq

/-- A query that is settled stands settled among its entry's queries. -/
theorem setQuery_relayed (hq : q ∈ r.queries) :
    ∃ o ∈ (r.setQuery { q with relayed := true }).queries, o.handle = q.handle ∧ o.relayed = true :=
  ⟨_, mem_replaceFirst ⟨q, hq, by simp⟩, rfl, rfl⟩

/-- A partial of its query's length settles the query, whatever becomes of its relay. -/
theorem partialIn_relayed {frm a b : Nat} {c : Cls} {bs : Bytes} (hf : findHandle d h = some (r, q)) (hr : r.state ≠ .ending)
    (hs : ∀ x ∈ r.queries, x.step = q.step → x.layer = q.layer → x.relayed = false)
    (hlen : bs.length = partLen r.shape) :
    entryAt (partialIn d frm h bs a b c) r.slot (fun x => ∃ o ∈ x.queries, o.handle = h ∧ o.relayed) := by
  obtain ⟨hlive, hmem, rfl⟩ := findHandle_mem hf
  have hnew : r.queries.any (fun x => x.step == q.step && x.layer == q.layer && x.relayed) = false := by
    rw [List.any_eq_false]
    intro x hx
    by_cases h1 : x.step = q.step <;> by_cases h2 : x.layer = q.layer <;> simp [h1, h2]
    exact hs x hx h1 h2
  unfold partialIn
  split
  next hn => rw [hf] at hn; cases hn
  next x y hxy =>
  obtain ⟨rfl, rfl⟩ := Prod.mk.inj (Option.some.inj (hf.symm.trans hxy))
  rw [if_neg (by simpa using hr), if_neg (by simp [hnew]), if_neg (by simp [hlen])]
  extract_lets r1 r2
  have h2 : r2.slot = r.slot ∧ r2.queries = r1.queries := by unfold r2; split <;> exact ⟨rfl, rfl⟩
  have hreqs := stepInput_reqs d r2 q.step frm
  obtain ⟨i, hi⟩ := stepInput_fst d r2 q.step frm
  split
  next r3 e he =>
  rw [he] at hreqs hi
  extract_lets f
  have hset : entryAt f r.slot (fun x => ∃ o ∈ x.queries, o.handle = q.handle ∧ o.relayed) :=
    entryAt_setReq ⟨r, hreqs ▸ hlive, rfl⟩ (by rw [show r3 = _ from hi]; exact h2.1)
      (by rw [show r3 = _ from hi]; exact h2.2 ▸ setQuery_relayed hmem)
  split
  · split
    next op ready post _ =>
    have hadm := admitG_reqs f op ready post
    split
    next j e' he' =>
      rw [he'] at hadm
      exact entryAt_of_reqs ((relayPost_reqs _ _).trans ((ctrInc_reqs _ _).trans hadm)) hset
    next e' he' =>
      rw [he'] at hadm
      exact entryAt_of_reqs ((relayB_reqs _ _ _ _ _ _ _).trans hadm) hset
  · exact entryAt_of_reqs (relayB_reqs _ _ _ _ _ _ _) hset

/-- The home's refusal settles the query, too. -/
theorem execPartialReceived_refused {s : State} {frm st b : Nat} (hf : findHandle s.dev h = some (r, q)) (hr : r.state ≠ .ending)
    (hq : q.relayed = false) :
    Completes (.partialReceived frm h (.refused st b)) s
      (fun d => entryAt d r.slot (fun x => ∃ o ∈ x.queries, o.handle = h ∧ o.relayed)) := by
  obtain ⟨hlive, hmem, rfl⟩ := findHandle_mem hf
  refine ⟨_, rfl, ?_⟩
  simp only [hf, beq_iff_eq, hr, hq, Bool.or_false, if_false]
  exact entryAt_of_reqs (complete_reports _ _ _ _ _ _).reqs (entryAt_setReq ⟨r, hlive, rfl⟩ rfl (setQuery_relayed hmem))

end

/-! ## Stop sets -/

section
variable {α : Type} (t : Tbl α) (k j : Nat)

theorem tget_tdel_same : tget (tdel t k) k = none := by
  simp [tget, tdel, List.find?_filter]

theorem tget_tdel_other (h : j ≠ k) : tget (tdel t k) j = tget t j := by
  unfold tget tdel
  rw [List.find?_filter]
  congr 2
  funext e
  by_cases he : e.1 = j
  · simp [he, h]
  · simp [he]

end

section
variable {s : State} {d e : Dev} {l : Nat} {q : U32} {t : Taken}

/-- A record of STOP_SET that passes its checks. -/
structure StopSetOk (s : State) (l : Nat) (q : U32) (t : Taken) : Prop where
  taken : findTaken s.dev l q = some t
  kind : t.kind = 0x15
  check : recCheck s.dev t (hasGeneration s.dev) (stopSetForeign s.dev t) none false true false = none

/-- A record that passes its checks names no set of another owner (R190). -/
theorem recCheck_own {role own : Bool} {extra : Option Nat} {rf b c : Bool} (h : recCheck d t role own extra rf b c = none) :
    own = false := by
  unfold recCheck at h
  by_contra ho
  simp only [Bool.not_eq_false] at ho
  split_ifs at h <;> simp_all

/-- A well-formed buffer defines the set (R187, R189, R191). -/
theorem stopSetFinish_ok {b : Bytes} (hf : stopSetForeign d t = false) (hb : stopBufOk b = true) :
    (stopSetFinish d t (some b)).reqs =
        { d.reqs with stopSets := tset d.reqs.stopSets (t.f 0x20 9 0) { owner := laneOwner d t.lane, buf := b } } ∧
      (stopSetFinish d t (some b)).sas = d.sas := by
  have hx : stopSetFinish d t (some b) = finishOp { dropTaken d t with reqs := { d.reqs with
      stopSets := tset d.reqs.stopSets (t.f 0x20 9 0) { owner := laneOwner d t.lane, buf := b } } } (t.ref d) St.ok 0 0 := by
    simp only [stopSetFinish, hf, hb, Bool.false_eq_true, if_false, if_true]
  rw [hx]
  exact ⟨(finishOp_reports _ _ _ _ _).reqs, (finishOp_reports _ _ _ _ _).sas⟩

theorem execStopSetDefine_host {found : List LineErr} (h : StopSetOk s l q t) (hdef : t.f 0x22 0 0 = 0) (hsrc : t.f 0x28 48 48 = 0)
    (hup : fnUp s.dev (laneOwner s.dev l)) (hnew : ∀ x ∈ s.dev.host.reads, x.use ≠ .stopSet l q) :
    exec (.stopSetDefine l (q, found)) s =
      .next (s.setDev (hostRead s.dev (laneOwner s.dev l) (t.f 0x28 47 0) 640 (.stopSet l q))) := by
  obtain ⟨htaken, hkind, hcheck⟩ := h
  have hn : s.dev.host.reads.any (fun x => x.use == .stopSet l q) = false := by
    simpa [List.any_eq_false] using hnew
  show execStopSetDefine l (q, found) s = _
  simp [execStopSetDefine, onTaken, onDev, htaken, hkind, hdef, hcheck, hsrc, hup, hn]

theorem execStopSetDefine_sas {found : List LineErr} (h : StopSetOk s l q t) (hdef : t.f 0x22 0 0 = 0) (hsrc : t.f 0x28 48 48 = 1)
    (hstage : inStage s.dev (laneOwner s.dev l) (t.f 0x28 47 0) 640)
    (hread : readRanges found [(t.f 0x28 47 0, 640)] s.dev = (false, e)) :
    exec (.stopSetDefine l (q, found)) s =
      .next (s.setDev (stopSetFinish e t (some (workRead e (t.f 0x28 47 0) 640)))) := by
  obtain ⟨htaken, hkind, hcheck⟩ := h
  show execStopSetDefine l (q, found) s = _
  simp [execStopSetDefine, onTaken, onDev, htaken, hkind, hdef, hcheck, hsrc, hstage, hread]

theorem execStopSetDelete_defined (h : StopSetOk s l q t) (hdel : t.f 0x22 0 0 = 1)
    (hset : (tget s.dev.reqs.stopSets (t.f 0x20 9 0)).isSome) :
    exec (.stopSetDelete l q) s = .next (s.setDev (finishOp { dropTaken s.dev t with
      reqs := { s.dev.reqs with stopSets := tdel s.dev.reqs.stopSets (t.f 0x20 9 0) } } (t.ref s.dev) St.ok 0 0)) := by
  obtain ⟨htaken, hkind, hcheck⟩ := h
  show execStopSetDelete l q s = _
  simp [execStopSetDelete, onTaken, onDev, htaken, hkind, hdel, hcheck, Option.isNone_eq_false_iff.mpr hset]

/-- The read that is started waits for its stop set. -/
theorem hostRead_stands (d : Dev) (o a n : Nat) (u : ReadFor) :
    ∃ x ∈ (hostRead d o a n u).host.reads, x.use = u ∧ x.addr = a ∧ x.len = n ∧ x.owner = o := by
  have hreads (d : Dev) : (emitReads d o a n).host = d.host := by
    unfold emitReads
    extract_lets m
    generalize List.range ((n + m - 1) / m) = is
    clear_value m
    induction is generalizing d with
    | nil => rfl
    | cons i is ih => exact ih (emit d _)
  unfold hostRead
  rw [hreads]
  exact ⟨_, List.mem_append_right _ List.mem_cons_self, rfl, rfl, rfl, rfl⟩

end

/-- Settles O39: a query is kept as it is forwarded, and what is done for its relay leaves the request table; a stop set is set or
deleted in its table before the completion is reported. -/
theorem queriesAndStopSetsComplete : Obligations.QueriesAndStopSetsComplete := by
  unfold Obligations.QueriesAndStopSetsComplete
  refine ⟨fun s r => ⟨?_, ?_⟩, ?_⟩
  · intro l q t data found e hgen hstate htaken hkind hreq hlayer hconn hreach hread hcheck
    have hstep := QueryRead.homeStep hread
    obtain ⟨bs, hexec⟩ := execQuery_forwards ⟨htaken, hkind, hgen, hreq, hstate, hlayer, hconn, hcheck⟩ hread
    have hleaves := forwardQuery_leaves (t := t) bs (hstep.reqs ▸ findGen_mem hgen) (hstep.reaches hreach)
    rw [hstep.reqs, Taken.ref_congr hstep.img] at hleaves
    exact ⟨_, hexec, hleaves⟩
  · rintro frm h q a hf hr hq hs (⟨bs, rfl, hlen⟩ | ⟨st, b, rfl⟩)
    · refine ⟨_, rfl, ?_⟩
      simp only [hf]
      exact partialIn_relayed hf hr hs hlen
    · exact execPartialReceived_refused hf hr hq
  · intro s l q t htaken hkind hcheck n others
    have hok : StopSetOk s l q t := ⟨htaken, hkind, hcheck⟩
    refine ⟨fun found hdef hsrc hup hnew => ?_, fun found e hdef hsrc hstage hread hbuf => ?_, fun hdel hset => ?_⟩
    · have hrep := hostRead_reports s.dev (laneOwner s.dev l) (t.f 0x28 47 0) 640 (.stopSet l q)
      exact ⟨_, execStopSetDefine_host hok hdef hsrc hup hnew, ⟨fun k _ => by rw [hrep.reqs], by rw [hrep.reqs], hrep.sas⟩, hrep.reqs,
        hostRead_stands _ _ _ _ _⟩
    · have hstep := readRanges_homeStep s.dev found [(t.f 0x28 47 0, 640)]
      rw [hread] at hstep
      have hown : stopSetForeign e t = false := by
        rw [← recCheck_own hcheck]
        unfold stopSetForeign laneOwner img
        rw [hstep.reqs, hstep.img]
      have hlane : laneOwner e t.lane = laneOwner s.dev l := by
        unfold laneOwner img
        rw [hstep.img, findTaken_lane htaken]
      obtain ⟨hreqs, hsas⟩ := stopSetFinish_ok hown hbuf
      rw [hstep.reqs, hlane] at hreqs
      refine ⟨_, execStopSetDefine_sas hok hdef hsrc hstage hread, ⟨fun k hk => ?_, by rw [hreqs], hsas⟩, ?_⟩
      · rw [hreqs]; exact tget_tset_other _ _ _ _ hk
      · rw [hreqs]; exact tget_tset_same _ _ _
    · have hrep := finishOp_reports { dropTaken s.dev t with
        reqs := { s.dev.reqs with stopSets := tdel s.dev.reqs.stopSets n } } (t.ref s.dev) St.ok 0 0
      refine ⟨_, execStopSetDelete_defined hok hdel hset, ⟨fun k hk => ?_, by rw [hrep.reqs], hrep.sas⟩, ?_⟩
      · rw [hrep.reqs]; exact tget_tdel_other _ _ _ hk
      · rw [hrep.reqs]; exact tget_tdel_same _ _

end Sys2Proof.Machine
end

section
/-! # Skeins opened and looked up -/

namespace Sys2Proof.Machine

open Sys2Proof

/-! ## What waits for the partner's acknowledgement stays (R699) -/

section
variable (d : Dev)

@[simp] theorem sendSelvedge_held (op n : Nat) (er : Bool) (i : U64) (rs : List MirrorRec) :
    (sendSelvedge d op n er i rs).pair.held = d.pair.held := by
  unfold sendSelvedge
  split
  · rfl
  · split <;> rfl

theorem foldl_held {α : Type} {f : Dev → α → Dev} (h : ∀ d x, (f d x).pair.held = d.pair.held) (l : List α) :
    (l.foldl f d).pair.held = d.pair.held := by
  induction l generalizing d with
  | nil => rfl
  | cons x xs ih => exact (ih _).trans (h d x)

@[simp] theorem mirrorPush_held (rs : List MirrorRec) : (mirrorPush d rs).pair.held = d.pair.held := by
  unfold mirrorPush
  split
  · exact foldl_held d (fun d g => by simp) _
  · rfl

@[simp] theorem dropUnitSlot_held (f : Nat) : (dropUnitSlot d f).pair.held = d.pair.held := by
  unfold dropUnitSlot
  split
  · rfl
  · split <;> rfl

@[simp] theorem unmapFrames_held (o : Nat) (fs : List Nat) : (unmapFrames d o fs).pair.held = d.pair.held := by
  unfold unmapFrames
  extract_lets gs
  split
  · rfl
  · exact (mirrorPush_held _ _).trans (foldl_held d dropUnitSlot_held gs)

theorem collect_held : (collect d).pair.held = d.pair.held := by
  unfold collect
  extract_lets _ d1 dead own d2 gone
  have h2 : d2.pair.held = d1.pair.held := by
    refine foldl_held d1 (fun d b => ?_) dead
    exact unmapFrames_held _ _ _
  refine (foldl_held d2 (fun d r => ?_) gone).trans h2
  extract_lets kept keep fs d3
  have h3 : d3.pair.held = d.pair.held := unmapFrames_held d _ _
  split <;> exact h3

end

/-- A message that is on its way stays so while frames are freed. -/
theorem goes_collect {d : Dev} {m : Svc} (h : goes d m) : goes (collect d) m := by
  have hf := collect_frees d
  rcases h with h | h | h
  · exact .inl (hf.out.subset h)
  · exact .inr (.inl (by rwa [collect_held]))
  · exact .inr (.inr (by rwa [hf.weft]))

/-! ## Skein-open (R31 to R34) -/

theorem openSlots_homeStep (d : Dev) (m : SkeinOpenMsg) : HomeStep d (openSlots d m).2 := by
  unfold openSlots
  refine .ite₂ (.refl d) (.ite₂ (.refl d) (.ite₂ (.refl d) (.ite₂ (.refl d) ?_)))
  split
  · exact freeSkein_homeStep _ _
  · exact (ctrInc_sameSkeins _ _).toHomeStep

/-- The skein that a skein-open makes (R24, R31). -/
def openedSkein (d : Dev) (m : SkeinOpenMsg) (slot base : Nat) : Skein where
  slot := slot
  id := mkSkeinId (fleet d) slot (tgetD d.sas.inc slot 0 + 1)
  model := m.model
  shape := m.shape
  thinOk := m.thinOk
  retain := m.retain
  tenant := m.owner
  created := now d
  lastAccess := now d
  base := base
  cap := capOfOpen d m
  maskSets := m.maskSets
  windowPages := (windowOf m.windowPages).getD 0
  genDevice := m.genDevice
  req := m.req
  tokenCount := m.tokenCount

/-- The device with an opened skein in its tables: its incarnation, its reservation and itself. -/
def withOpened (d : Dev) (size : Nat) (k : Skein) (inc : Nat) : Dev :=
  { d with sas := { d.sas with
    inc := tset d.sas.inc k.slot inc
    reservations := d.sas.reservations ++ [{ base := k.base, size := size, slot := k.slot }]
    skeins := d.sas.skeins ++ [k] } }

section
variable {s : State} {frm slot base : Nat} {m : SkeinOpenMsg} {e x : Dev}

theorem execSkeinOpen_opens (hno : openSlots s.dev m = (none, e)) (hslot : slot < 262144) (hfree : skeinAt e slot = none)
    (hret : slot ∉ e.sas.retired) (hbase : resvFree e base (resvSize m.shape (capOfOpen e m) m.maskSets))
    (hex : resvExists e (resvSize m.shape (capOfOpen e m) m.maskSets)) (hmap : mapAll e (framesOf base (64 * m.shape.layers)) = some x) :
    exec (.skeinOpen frm m slot base) s = .next (s.setDev (collect (sendSvc (mirrorDirs
      (withOpened x (resvSize m.shape (capOfOpen e m) m.maskSets) (openedSkein e m slot base) (tgetD e.sas.inc slot 0 + 1)) none
      (openedSkein e m slot base)) frm (.skeinOpenReply m.req St.ok (openedSkein e m slot base).id)).2)) := by
  have hchoice : (decide (262144 ≤ slot) || (skeinAt e slot).isSome || e.sas.retired.contains slot ||
      !resvFree e base (resvSize m.shape (capOfOpen e m) m.maskSets)) = false := by
    simp [hfree, hret, hbase, hslot]
  show execSkeinOpen frm m slot base s = _
  simp only [execSkeinOpen, onDevC, onDev, hno, hex, Bool.not_true, Bool.false_eq_true, if_false, hchoice, hmap]
  rfl

/-- A skein-open that finds a slot, a range and frames makes the skein and answers with its identifier. -/
theorem skeinOpen_completes (hr : reaches s.dev frm) (hno : openSlots s.dev m = (none, e)) (hslot : slot < 262144)
    (hfree : skeinAt e slot = none) (hret : slot ∉ e.sas.retired)
    (hbase : resvFree e base (resvSize m.shape (capOfOpen e m) m.maskSets))
    (hex : resvExists e (resvSize m.shape (capOfOpen e m) m.maskSets)) (hmap : (mapAll e (framesOf base (64 * m.shape.layers))).isSome) :
    Completes (.skeinOpen frm m slot base) s (fun d =>
      skeinIs d slot (fun k => k = openedSkein e m slot base ∧ goes d (.skeinOpenReply m.req St.ok k.id)) ∧
      tget d.sas.inc slot = some (tgetD e.sas.inc slot 0 + 1) ∧ d.reqs = s.dev.reqs) ∧ HomeStep s.dev e := by
  obtain ⟨x, hx⟩ := Option.isSome_iff_exists.mp hmap
  have hse : HomeStep s.dev e := by
    have h := openSlots_homeStep s.dev m
    rwa [hno] at h
  refine ⟨⟨_, execSkeinOpen_opens hno hslot hfree hret hbase hex hx, ?_⟩, hse⟩
  generalize hk : openedSkein e m slot base = k
  generalize hw : withOpened x (resvSize m.shape (capOfOpen e m) m.maskSets) k (tgetD e.sas.inc slot 0 + 1) = w
  have hks : k.slot = slot := hk ▸ rfl
  have hsw : HomeStep s.dev w := (hse.trans (mapAll_sameSkeins hx).toHomeStep).trans (hw ▸ sas_homeStep x _)
  have hdirs := mirrorDirs_sameSkeins w none k
  have hrest := hdirs.trans ((sendSvc_sameSkeins _ frm (.skeinOpenReply m.req St.ok k.id)).trans (collect_sameSkeins _))
  refine ⟨hrest.skeinIs ⟨k, hw ▸ List.mem_append_right _ List.mem_cons_self, hks, rfl, ?_⟩, ?_, (hsw.trans hrest.toHomeStep).reqs⟩
  · exact goes_collect (goes_sendSvc ((hsw.trans hdirs.toHomeStep).reaches hr))
  · rw [hrest.inc, ← hw, ← hks]
    exact tget_tset_same _ _ _

end

/-! ## Lookup (R37, R217) -/

theorem prefixLookup_sameSkeins (d : Dev) (k : Skein) (hs : List U128) (i : Nat) : SameSkeins d (prefixLookup k hs i d).2 := by
  induction hs generalizing i d with
  | nil => exact .refl d
  | cons h hs ih =>
    unfold prefixLookup
    split
    · exact .refl d
    · split
      · exact detect_sameSkeins _ _ _ _ _ _
      · split
        · exact .refl d
        · split
          · exact ctrInc_sameSkeins _ _
          · exact ih d (i + 1)

theorem touchSkein_homeStep (d : Dev) (i : U64) : HomeStep d (touchSkein d i) := by
  unfold touchSkein
  split
  · exact setSkein_homeStep _ _
  · exact .refl d

theorem touchSkein_slots (d : Dev) (i : U64) : (touchSkein d i).sas.skeins.map (·.slot) = d.sas.skeins.map (·.slot) := by
  unfold touchSkein
  split
  · exact setSkein_slots _ _
  · rfl

theorem foldl_touchSkein_slots (d : Dev) (is : List U64) :
    (is.foldl touchSkein d).sas.skeins.map (·.slot) = d.sas.skeins.map (·.slot) := by
  induction is generalizing d with
  | nil => rfl
  | cons i is ih => exact (ih _).trans (touchSkein_slots d i)

/-- A lookup's hits are mirrored, counted and noted at their holders (R62, R217). -/
def lookupHits (d : Dev) (k : Skein) (es : List PrefixEntry) (pages : List PageRef) : Dev :=
  let d := pages.foldl (fun d r => match findBody d r.body with | some b => mirrorRef d k r b | none => d) d
  let d := ctrAdd (ctrInc d cPrefixLookups) cPrefixHitBlocks es.length
  (es.map PrefixEntry.skein).eraseDups.foldl touchSkein d

theorem lookupHits_homeStep (d : Dev) (k : Skein) (es : List PrefixEntry) (ps : List PageRef) :
    HomeStep d (lookupHits d k es ps) ∧ (lookupHits d k es ps).sas.skeins.map (·.slot) = d.sas.skeins.map (·.slot) := by
  unfold lookupHits
  extract_lets d1 d2
  have h1 : SameSkeins d d1 := by
    refine .foldl (fun d r => ?_) ps d
    split
    · exact mirrorRef_sameSkeins _ _ _ _
    · exact .refl d
  have h2 : SameSkeins d d2 := h1.trans ((ctrInc_sameSkeins _ _).trans (ctrAdd_sameSkeins _ _ _))
  exact ⟨h2.toHomeStep.trans (.foldl touchSkein_homeStep _ _), (foldl_touchSkein_slots _ _).trans (by rw [h2.skeins])⟩

/-- The skein with the shared prefix that a lookup found (R37, R246). -/
def Skein.sharing (k : Skein) (d : Dev) (chain : List U128) (es : List PrefixEntry) (pages : List PageRef) : Skein :=
  let k := { k with
    chain := chain
    prefixPages := es.length
    hasShared := es.length != 0
    prefixFrom := (es.head?.map PrefixEntry.skein).filter (fun i => es.all (fun e => e.skein == i))
    pages := pages
    lastAccess := now d }
  let k := (pages.map (·.layer)).eraseDups.foldl (fun (k : Skein) l => k.setLayer l { k.layer l with nr := nonResident d k l }) k
  k.recount.rehash

/-- Storing layers changes no other field of a skein. -/
theorem foldl_setLayer (f : Skein → Nat → LayerDir) (ls : List Nat) (k : Skein) :
    ∃ ys, ls.foldl (fun (k : Skein) l => k.setLayer l (f k l)) k = { k with layers := ys } := by
  induction ls generalizing k with
  | nil => exact ⟨k.layers, rfl⟩
  | cons l ls ih =>
    obtain ⟨ys, hys⟩ := ih (k.setLayer l (f k l))
    exact ⟨ys, hys⟩

theorem Skein.sharing_fields (k : Skein) (d : Dev) (chain : List U128) (es : List PrefixEntry) (ps : List PageRef) :
    let x := k.sharing d chain es ps
    x.slot = k.slot ∧ x.id = k.id ∧ x.chain = chain ∧ x.prefixPages = es.length ∧ x.hasShared = (es.length != 0) ∧
      x.pages = ps := by
  unfold Skein.sharing
  extract_lets k1 k2 x
  obtain ⟨ys, hys⟩ := foldl_setLayer (fun k l => { k.layer l with nr := nonResident d k l }) (ps.map (·.layer)).eraseDups k1
  have hk2 : k2 = { k1 with layers := ys } := hys
  clear_value k2
  subst hk2
  exact ⟨rfl, rfl, rfl, rfl, rfl, rfl⟩

section
variable {s : State} {frm : Nat} {req id : U64} {chain : List U128} {k : Skein} {es : List PrefixEntry} {e e2 : Dev}

theorem execLookup_finds (hc : hasCache s.dev) (hk : findSkein s.dev id = some k) (hs : k.state = .receiving)
    (hl : prefixLookup k chain 0 s.dev = (es, e))
    (hm : mapAll e (((es.zipIdx).flatMap (fun x => sharePages e k x.2 x.1)).flatMap
      (fun r => metaFrames k r.layer r.page [])).eraseDups = some e2) :
    let pages := (es.zipIdx).flatMap (fun x => sharePages e k x.2 x.1)
    let d := lookupHits e2 k es pages
    exec (.lookup frm req id chain) s = .next (s.setDev
      (sendSvc (setSkein d (k.sharing d chain es pages)) frm (.lookupReply req St.ok es.length)).2) := by
  intro pages d
  have hstate : (k.state != .receiving) = false := by simp [hs]
  show execLookup frm req id chain s = _
  simp only [execLookup, onDev, hc, Bool.not_true, Bool.false_eq_true, if_false, hk, hstate, hl, hm]
  rfl

/-- A lookup shares the pages it finds and answers their count. -/
theorem lookup_completes (hr : reaches s.dev frm) (hc : hasCache s.dev) (hk : findSkein s.dev id = some k) (hs : k.state = .receiving)
    (hl : prefixLookup k chain 0 s.dev = (es, e))
    (hm : mapAll e (((es.zipIdx).flatMap (fun x => sharePages e k x.2 x.1)).flatMap
      (fun r => metaFrames k r.layer r.page [])).eraseDups = some e2) :
    Completes (.lookup frm req id chain) s (fun d => skeinIs d k.slot (fun x => x.id = id ∧ x.chain = chain ∧
      x.prefixPages = es.length ∧ x.hasShared = (es.length != 0) ∧ x.pages = (es.zipIdx).flatMap (fun x => sharePages e k x.2 x.1)) ∧
      goes d (.lookupReply req St.ok es.length) ∧ d.reqs = s.dev.reqs) := by
  refine ⟨_, execLookup_finds hc hk hs hl hm, ?_⟩
  generalize (es.zipIdx).flatMap (fun x => sharePages e k x.2 x.1) = pages at hm
  have he := prefixLookup_sameSkeins s.dev k chain 0
  rw [hl] at he
  have he2 : SameSkeins s.dev e2 := he.trans (mapAll_sameSkeins hm)
  obtain ⟨hstep, hslots⟩ := lookupHits_homeStep e2 k es pages
  generalize lookupHits e2 k es pages = d at hstep hslots
  obtain ⟨hslot, hid, hchain, hpre, hshared, hpages⟩ := k.sharing_fields d chain es pages
  generalize k.sharing d chain es pages = x at hslot hid hchain hpre hshared hpages
  have hat : skeinIs d k.slot (fun _ => True) := skeinIs_of_slots hslots (he2.skeinIs (findSkein_is hk))
  have hset := he2.toHomeStep.trans (hstep.trans (setSkein_homeStep d x))
  have hsend := sendSvc_sameSkeins (setSkein d x) frm (.lookupReply req St.ok es.length)
  exact ⟨hsend.skeinIs (skeinIs_setSkein hat hslot ⟨hid.trans (findSkein_id hk), hchain, hpre, hshared, hpages⟩),
    goes_sendSvc (hset.reaches hr), (hset.trans hsend.toHomeStep).reqs⟩

end

end Sys2Proof.Machine
end

section
/-! # Prefix fetches

Which pages a fetch can send, and whether their lines can be read, rests on the frame map, the stored bodies, the bobbin tier and the
poison of the stacks; storing a skein leaves all of them alone. -/

namespace Sys2Proof.Machine

open Sys2Proof

/-! ## What finding a page in the tiers looks at -/

/-- `e` has the frames, bodies and bobbin units of `d`, its stacks and the next free value. -/
structure SameStore (d e : Dev) : Prop where
  frames : e.sas.frames = d.sas.frames
  bodies : e.sas.bodies = d.sas.bodies
  bob : e.bob = d.bob
  zeroized : e.sec.zeroized = d.sec.zeroized
  stk : e.stk = d.stk
  free : e.free = d.free

theorem setSkein_sameStore (d : Dev) (k : Skein) : SameStore d (setSkein d k) := by
  have h := mirrorDirs_reports { d with sas := { d.sas with skeins := replaceFirst (fun x => x.slot == k.slot) k d.sas.skeins } }
    (skeinAt d k.slot) k
  have hz : (secCore (setSkein d k).sec).zeroized = (secCore d.sec).zeroized := congrArg SecUnit.zeroized h.sec
  exact ⟨by rw [setSkein_sas], by rw [setSkein_sas], h.bob, hz, h.stk, h.free⟩

section
variable {d e : Dev} (h : SameStore d e)
include h

theorem SameStore.refFrames (rs : List PageRef) : refFrames e rs = refFrames d rs := by
  unfold Machine.refFrames findBody; rw [h.bodies]

theorem SameStore.refRanges (rs : List PageRef) : refRanges e rs = refRanges d rs := by
  unfold Machine.refRanges findBody; rw [h.bodies]

theorem SameStore.frameDead (f : Nat) : frameDead e f = frameDead d f := by
  unfold Machine.frameDead
  rw [h.frames]
  have hunit : unitDead e = unitDead d := by
    funext u
    unfold unitDead targetAt
    rw [h.bob, h.zeroized]
  rw [hunit, show unitAt e = unitAt d by funext u; unfold unitAt; rw [h.bob]]

theorem SameStore.refDead (r : PageRef) : refDead e r = refDead d r := by
  unfold Machine.refDead
  rw [h.refFrames, show Machine.frameDead e = Machine.frameDead d from funext h.frameDead]

theorem SameStore.resident (fs : List Nat) : resident e fs = resident d fs := by
  unfold Machine.resident; rw [h.frames]

end

/-! ## What decides whether lines can be read (R295 to R299) -/

/-- The poisoned lines of each stack, the frame map, and the next free value. -/
def lineView (d : Dev) : List (List (Nat × Nat)) × Tbl Frame4K × Nat := (d.stk.units.map (·.poison), d.sas.frames, d.free)

section
variable {d e : Dev}

theorem lineView_iff : lineView d = lineView e ↔
    d.stk.units.map (·.poison) = e.stk.units.map (·.poison) ∧ d.sas.frames = e.sas.frames ∧ d.free = e.free := by
  simp [lineView]

theorem SameStore.lineView (h : SameStore d e) : lineView e = lineView d := by
  unfold Machine.lineView; rw [h.stk, h.frames, h.free]

theorem Reports.lineView (h : Reports d e) : lineView e = lineView d := by
  unfold Machine.lineView; rw [h.stk, h.sas, h.free]

theorem poison_stackAt (d : Dev) (n : Nat) : (stackAt d n).poison = (lineView d).1.getD n [] := by
  unfold stackAt Machine.lineView
  rw [List.getD_eq_getElem?_getD, List.getD_eq_getElem?_getD, List.getElem?_map]
  cases d.stk.units[n]? <;> rfl

/-- A stack stored with the poison it had leaves what decides on reads. -/
theorem setStack_lineView {n : Nat} {u : StackUnit} (h : u.poison = (stackAt d n).poison) : lineView (setStack d n u) = lineView d := by
  refine Prod.ext ?_ rfl
  show (d.stk.units.set n u).map (·.poison) = d.stk.units.map (·.poison)
  rw [List.map_set, h]
  refine List.ext_getElem? (fun i => ?_)
  rw [List.getElem?_set]
  split
  next hi =>
    subst hi
    split
    next hlt => simp [stackAt, List.getD_eq_getElem?_getD, List.getElem?_eq_getElem (by simpa using hlt)]
    next hlt => exact (List.getElem?_eq_none (by simpa using hlt)).symm
  · rfl

theorem poisonIn_congr (h : lineView d = lineView e) (a n : Nat) : poisonIn d a n = poisonIn e a n := by
  obtain ⟨hp, hf, -⟩ := lineView_iff.mp h
  have hall : d.stk.units.all (fun u => u.poison.isEmpty) = e.stk.units.all (fun u => u.poison.isEmpty) := by
    have := congrArg (List.all · List.isEmpty) hp
    simpa [List.all_map, Function.comp_def] using this
  have hat (s : Nat) : (d.stk.units.getD s {}).poison = (e.stk.units.getD s {}).poison := by
    have := poison_stackAt d s
    rw [h, ← poison_stackAt e s] at this
    exact this
  unfold poisonIn
  simp only [hall, hf, hat]

theorem poisonRead_congr (h : lineView d = lineView e) (a n : Nat) :
    (poisonRead d a n).1 = (poisonRead e a n).1 ∧ lineView (poisonRead d a n).2 = lineView (poisonRead e a n).2 := by
  unfold poisonRead
  rw [poisonIn_congr h]
  split
  · exact ⟨rfl, h⟩
  · exact ⟨rfl, ((ctrInc_reports d _).lineView.trans h).trans (ctrInc_reports e _).lineView.symm⟩

theorem dieCheck_lineView (d : Dev) (n die : Nat) : lineView (dieCheck d n die) = lineView d := by
  unfold dieCheck
  extract_lets u th
  split
  · generalize hv : ({ u with st := 2, suspect := u.suspect + 2 ^ die } : StackUnit) = v
    have hset : lineView (setStack d n v) = lineView d := setStack_lineView (hv ▸ rfl)
    exact (detect_reports _ _ _ _ _ _).lineView.trans hset
  · rfl

theorem ctrInc_lineView (d : Dev) (a : Nat) : lineView (ctrInc d a) = lineView d := (ctrInc_reports d a).lineView

theorem dieCorrected_lineView (d : Dev) (n die : Nat) : lineView (dieCorrected d n die) = lineView d :=
  (dieCheck_lineView _ n die).trans (ctrInc_lineView d _)

/-- Poison added to a stack's lines. -/
theorem lineUncorrectable_lineView (d : Dev) (n p l : Nat) (ss : List Nat) : lineView (lineUncorrectable d n p l ss) =
    ((lineView d).1.set n ((p, l) :: (lineView d).1.getD n []), (lineView d).2) := by
  unfold lineUncorrectable
  extract_lets u dies
  rw [ctrInc_lineView, ← poison_stackAt]
  exact Prod.ext List.map_set rfl

theorem lineUncorrectable_congr (h : lineView d = lineView e) (n p l : Nat) (ss : List Nat) :
    lineView (lineUncorrectable d n p l ss) = lineView (lineUncorrectable e n p l ss) := by
  rw [lineUncorrectable_lineView, lineUncorrectable_lineView, h]

theorem freeNext_congr (h : lineView d = lineView e) :
    (freeNext d).1 = (freeNext e).1 ∧ lineView (freeNext d).2 = lineView (freeNext e).2 := by
  obtain ⟨hp, hf, hn⟩ := lineView_iff.mp h
  exact ⟨hn, lineView_iff.mpr ⟨hp, hf, congrArg (· + 1) hn⟩⟩

/-- What a read gives is decided by what the lines' poison and the next free value are. -/
theorem readLine_congr (h : lineView d = lineView e) (n p l : Nat) (es : SymbolErrors) :
    (readLine d n p l es).1 = (readLine e n p l es).1 ∧ lineView (readLine d n p l es).2 = lineView (readLine e n p l es).2 := by
  have hp : (stackAt d n).poison = (stackAt e n).poison := by rw [poison_stackAt, poison_stackAt, h]
  have hinc (a : Nat) : lineView (ctrInc d a) = lineView (ctrInc e a) := by rw [ctrInc_lineView, ctrInc_lineView, h]
  obtain ⟨hfree, hnext⟩ := freeNext_congr h
  unfold readLine
  rw [hp]
  extract_lets syms d1 e1
  split
  · exact ⟨rfl, hinc _⟩
  · split
    · exact ⟨rfl, h⟩
    · split
      · split
        · exact ⟨rfl, by rw [dieCorrected_lineView, dieCorrected_lineView]; exact hinc _⟩
        · exact ⟨rfl, hinc _⟩
      · split
        · exact ⟨rfl, lineUncorrectable_congr h n p l _⟩
        · generalize freeNext d = x at hfree hnext
          generalize freeNext e = y at hfree hnext
          obtain ⟨f, d2⟩ := x
          obtain ⟨g, e2⟩ := y
          obtain rfl : f = g := hfree
          dsimp only
          split
          · exact ⟨rfl, lineUncorrectable_congr hnext n p l _⟩
          · exact ⟨rfl, by rw [ctrInc_lineView, ctrInc_lineView]; exact hnext⟩

theorem readSasLine_congr (h : lineView d = lineView e) (f l : Nat) (es : SymbolErrors) :
    (readSasLine d f l es).1 = (readSasLine e f l es).1 ∧ lineView (readSasLine d f l es).2 = lineView (readSasLine e f l es).2 := by
  obtain ⟨-, hf, -⟩ := lineView_iff.mp h
  have hat : lineAt d = lineAt e := by funext a; unfold lineAt; rw [hf]
  unfold readSasLine
  rw [hat]
  extract_lets a
  split
  · exact ⟨rfl, h⟩
  next n p i _ =>
    obtain ⟨hr, hv⟩ := readLine_congr h n p i es
    extract_lets r q
    have hrq : r.1 = q.1 := hr
    rw [hrq]
    split
    · exact ⟨rfl, hv⟩
    · exact ⟨hrq, hv⟩

theorem readLines_congr (h : lineView d = lineView e) (found : List LineErr) :
    (readLines found d).1 = (readLines found e).1 ∧ lineView (readLines found d).2 = lineView (readLines found e).2 := by
  unfold readLines
  generalize hb : false = b
  clear hb
  induction found generalizing b d e with
  | nil => exact ⟨rfl, h⟩
  | cons x xs ih =>
    obtain ⟨hr, hv⟩ := readSasLine_congr h x.frame x.line x.errs
    simp only [List.foldl_cons, hr]
    exact ih hv _

/-- Devices whose lines look the same read the same ranges with the same success. -/
theorem readRanges_congr (h : lineView d = lineView e) (found : List LineErr) (rs : List (Nat × Nat)) :
    (readRanges found rs d).1 = (readRanges found rs e).1 := by
  induction rs generalizing d e with
  | nil => rfl
  | cons r rs ih =>
    obtain ⟨hp, hpv⟩ := poisonRead_congr h r.1 r.2
    obtain ⟨hl, hlv⟩ := readLines_congr hpv
      (found.filter (fun e => r.1 < 4096 * e.frame + 64 * e.line + 64 && 4096 * e.frame + 64 * e.line < r.1 + r.2))
    unfold readRanges
    extract_lets p q p' q'
    have hq : q.1 = q'.1 ∧ lineView q.2 = lineView q'.2 := by
      unfold q q'
      rw [show p.1 = p'.1 from hp]
      split
      · exact ⟨hp, hpv⟩
      · exact ⟨hl, hlv⟩
    rw [hq.1]
    split
    · exact hq.1
    · exact ih hq.2

end

end Sys2Proof.Machine
end

section
/-! # Prefix fetches at the home (R39, R250, R252) -/

namespace Sys2Proof.Machine

open Sys2Proof

/-- The pages of a prefix that a fetch sends: those that can be raised (R39, R395). -/
def fetchRefs (d : Dev) (k : Skein) : List PageRef := (k.refsOf 0 k.prefixPages).filter (fun r => !refDead d r)

theorem SameStore.fetchRefs {d e : Dev} (h : SameStore d e) (k : Skein) : fetchRefs e k = fetchRefs d k := by
  unfold Machine.fetchRefs
  rw [show Machine.refDead e = Machine.refDead d from funext h.refDead]

section
variable {d : Dev} {k : Skein} {frm : Nat} {found : List LineErr}

theorem fetchShip_ready (hres : resident d (refFrames d (fetchRefs d k)) = true)
    (hread : (readRanges found (refRanges d (fetchRefs d k)) d).1 = false) :
    let x := travelParts (readRanges found (refRanges d (fetchRefs d k)) d).2 k k.ref (fetchRefs d k)
    fetchShip d k frm found =
      (sendSvc (setSkein x.2 { k with fetchDue := none, shipWaits := false }) frm (.prefixPages k.req x.1)).2 := by
  have hship : shipReady d k (fetchRefs d k) = (true, d) := by simp [shipReady, hres]
  intro x
  unfold fetchShip
  extract_lets rs ended
  rw [show rs = fetchRefs d k from rfl, hship]
  dsimp only
  rw [hread]
  rfl

/-- A fetch whose pages lie in the stack tier and can be read sends them. -/
theorem fetchShip_sends (hr : reaches d frm) (hres : resident d (refFrames d (fetchRefs d k)) = true)
    (hread : (readRanges found (refRanges d (fetchRefs d k)) d).1 = false) :
    HomeStep d (fetchShip d k frm found) ∧ ∃ ps, goes (fetchShip d k frm found) (.prefixPages k.req ps) ∧
      ∀ p ∈ ps, ∃ r ∈ fetchRefs d k, r.layer = p.layer ∧ r.page = p.page := by
  rw [fetchShip_ready hres hread]
  have h := (readRanges_homeStep d found (refRanges d (fetchRefs d k))).trans
    ((travelParts_sameSkeins _ k k.ref (fetchRefs d k)).toHomeStep.trans
      (setSkein_homeStep _ { k with fetchDue := none, shipWaits := false }))
  exact ⟨h.trans (sendSvc_sameSkeins _ _ _).toHomeStep, _, goes_sendSvc (h.reaches hr), fun p hp => travelParts_page _ hp⟩

/-- A fetch of pages below the stack tier has them promoted and waits. -/
theorem fetchShip_waits (hres : resident d (refFrames d (fetchRefs d k)) = false) :
    ∃ x, SameSkeins d x ∧ fetchShip d k frm found = setSkein x { k with fetchDue := some frm, shipWaits := true } := by
  have hship := shipReady_sameSkeins d k (fetchRefs d k)
  have hno : (shipReady d k (fetchRefs d k)).1 = false := by simp [shipReady, hres]
  refine ⟨(shipReady d k (fetchRefs d k)).2, hship, ?_⟩
  unfold fetchShip
  extract_lets rs ended
  rw [show rs = fetchRefs d k from rfl]
  generalize shipReady d k (fetchRefs d k) = y at hno
  obtain ⟨b, x⟩ := y
  obtain rfl : b = false := hno
  rfl

end

section
variable {s : State} {frm : Nat} {req id : U64} {k : Skein} {found : List LineErr}

theorem execPrefixFetch_asked (hk : findSkein s.dev id = some k) :
    exec (.prefixFetch frm req id (none, found)) s = .next (s.setDev (fetchShip (setSkein s.dev { k with lastAccess := now s.dev })
      { k with lastAccess := now s.dev } frm found)) := by
  show execPrefixFetch frm req id (none, found) s = _
  simp only [execPrefixFetch, onDev, hk]

theorem prefixFetch_sends (hr : reaches s.dev frm) (hk : findSkein s.dev id = some k)
    (hres : resident s.dev (refFrames s.dev (fetchRefs s.dev k)) = true)
    (hread : (readRanges found (refRanges s.dev (fetchRefs s.dev k)) s.dev).1 = false) :
    Completes (.prefixFetch frm req id (none, found)) s (fun d => d.reqs = s.dev.reqs ∧ ∃ ps, goes d (.prefixPages k.req ps) ∧
      ∀ p ∈ ps, ∃ r ∈ fetchRefs s.dev k, r.layer = p.layer ∧ r.page = p.page) := by
  refine ⟨_, execPrefixFetch_asked hk, ?_⟩
  generalize hx : ({ k with lastAccess := now s.dev } : Skein) = x
  have hset := setSkein_homeStep s.dev x
  have hstore := setSkein_sameStore s.dev x
  have hrefs : fetchRefs (setSkein s.dev x) x = fetchRefs s.dev k := by rw [hstore.fetchRefs, ← hx]; rfl
  obtain ⟨hstep, ps, hgoes, hps⟩ := fetchShip_sends (k := x) (found := found) (hset.reaches hr)
    (by rw [hrefs, hstore.refFrames, hstore.resident, hres])
    (by rw [hrefs, hstore.refRanges, readRanges_congr hstore.lineView, hread])
  rw [hrefs] at hps
  rw [← hx] at hgoes
  exact ⟨(hset.trans (hx ▸ hstep)).reqs, ps, hx ▸ hgoes, hps⟩

theorem prefixFetch_waits (hk : findSkein s.dev id = some k)
    (hres : resident s.dev (refFrames s.dev (fetchRefs s.dev k)) = false) :
    Completes (.prefixFetch frm req id (none, found)) s (fun d => d.reqs = s.dev.reqs ∧
      skeinIs d k.slot (fun x => x.id = id ∧ x.fetchDue = some frm ∧ x.pages = k.pages)) := by
  refine ⟨_, execPrefixFetch_asked hk, ?_⟩
  have hid := findSkein_id hk
  generalize hx : ({ k with lastAccess := now s.dev } : Skein) = x
  have hset := setSkein_homeStep s.dev x
  have hstore := setSkein_sameStore s.dev x
  have hrefs : fetchRefs (setSkein s.dev x) x = fetchRefs s.dev k := by rw [hstore.fetchRefs, ← hx]; rfl
  have hat : skeinIs (setSkein s.dev x) k.slot (fun _ => True) := skeinIs_setSkein (findSkein_is hk) (hx ▸ rfl) trivial
  obtain ⟨y, hy, heq⟩ := fetchShip_waits (k := x) (frm := frm) (found := found)
    (by rw [hrefs, hstore.refFrames, hstore.resident, hres])
  rw [heq, ← hx]
  exact ⟨(hset.trans (hy.toHomeStep.trans (setSkein_homeStep _ _))).reqs,
    skeinIs_setSkein (hy.skeinIs hat) rfl ⟨hid, rfl, rfl⟩⟩

end

end Sys2Proof.Machine
end

section
/-! # Prefix pages that arrive at the prompt device (R39, R275) -/

namespace Sys2Proof.Machine

open Sys2Proof

/-! ## Bytes written to WORK and read back -/

theorem memReadN_eq {d : Byte} {m : Mem} {a : Nat} {bs : Bytes} (h : ∀ i (hi : i < bs.length), memRead d m (a + i) = bs[i]) :
    memReadN d m a bs.length = bs := by
  induction bs generalizing a with
  | nil => rfl
  | cons b bs ih =>
    have h0 : memRead d m a = b := h 0 (Nat.succ_pos _)
    refine congrArg₂ List.cons h0 (ih (fun i hi => ?_))
    have := h (i + 1) (Nat.succ_lt_succ hi)
    rwa [show a + (i + 1) = a + 1 + i by omega] at this

/-- Bytes written are read back. -/
theorem memReadN_writeN (d : Byte) (m : Mem) (a : Nat) (bs : Bytes) : memReadN d (memWriteN d m a bs) a bs.length = bs := by
  refine memReadN_eq (fun i hi => ?_)
  rw [memRead_writeN, if_pos (Nat.le_add_right a i), Nat.add_sub_cancel_left, List.getD_eq_getElem _ _ hi]

theorem memRead_writeN_outside {d : Byte} {m : Mem} {a i : Nat} {bs : Bytes} (h : i < a ∨ a + bs.length ≤ i) :
    memRead d (memWriteN d m a bs) i = memRead d m i := by
  rw [memRead_writeN]
  split
  · exact List.getD_eq_default _ _ (by omega)
  · rfl

theorem fit_length (bs : Bytes) (n : Nat) : (fit bs n).length = n := by
  simp [fit, zeroBytes]
  omega

/-! ## A page put into the view -/

theorem unpoison_sas (d : Dev) (a n : Nat) : (unpoison d a n).sas = d.sas :=
  List.foldlRecOn (motive := fun e : Dev => e.sas = d.sas) _ _ rfl (fun _ h _ _ => h)

/-- A write of WORK whose frames lie in the stack tier needs no frame and writes the bytes. -/
theorem workWrite_inStack {d : Dev} {a : Nat} {bs : Bytes} (o : Nat)
    (h : ∀ f ∈ framesOf a bs.length, (tget d.sas.frames f).any (fun y => y.stack.isSome)) :
    ∃ e, workWrite d o a bs = some e ∧ SameSkeins d e ∧ e.sas = { d.sas with work := memWriteN 0 d.sas.work a bs } := by
  unfold workWrite
  rw [mapAll_of_inStack d h]
  have hm := sasMirror_reports { unpoison d a bs.length with sas := { (unpoison d a bs.length).sas with
    work := memWriteN 0 (unpoison d a bs.length).sas.work a bs } } o a bs
  refine ⟨_, rfl, ?_, hm.sas.trans (by rw [unpoison_sas])⟩
  exact (unpoison_sameSkeins d a bs.length).trans ((tables_sameSkeins _).trans (sasMirror_sameSkeins _ _ _ _))

theorem countExpanded_reports (d : Dev) (bs : List StoredBlock) : Reports d (countExpanded d bs) :=
  .foldl _ (fun d _ => ctrInc_reports d _) _ d

/-- Where a page of a prefix hit lies in the view (R275). -/
def viewAddr (r : Req) (base : Nat) (p : PagePart) : Nat := base + (p.layer * r.prefixPages + p.page) * pageBytes r.shape

/-- A page whose blocks all expand is written to its place in the view. -/
theorem viewPage_writes {d : Dev} {r : Req} {base : Nat} {p : PagePart} {bs : Bytes} (hx : expandPart r.shape.fmt p = (bs, none))
    (hf : ∀ f ∈ framesOf (viewAddr r base p) (pageBytes r.shape), (tget d.sas.frames f).any (fun y => y.stack.isSome)) :
    SameSkeins d (viewPage d r base p) ∧ (viewPage d r base p).sas =
      { d.sas with work := memWriteN 0 d.sas.work (viewAddr r base p) (fit bs (pageBytes r.shape)) } := by
  unfold viewPage
  rw [hx]
  extract_lets a x d1 d2 d3
  have hrep : Reports d d3 := (countExpanded_reports _ _).trans ((ctrAdd_reports _ _ _).trans (ctrAdd_reports _ _ _))
  have hsame : SameSkeins d d3 := (countExpanded_sameSkeins _ _).trans (shuttleBytes_sameSkeins _ _ _)
  obtain ⟨e, hw, hs, hsas⟩ := workWrite_inStack (d := d3) (a := a) (bs := fit x.1 (pageBytes r.shape)) r.core.owner
    (by rw [fit_length, hrep.sas]; exact hf)
  rw [hw]
  exact ⟨hsame.trans hs, hsas.trans (by rw [hrep.sas]; rfl)⟩

/-! ## What a shipment brings -/

theorem takeHanded_handed (d : Dev) (kind : Nat) (req : U64) (ps : List PagePart) :
    ∃ hs, (takeHanded d kind req ps).2 = { d with sas := { d.sas with handed := hs } } := by
  induction ps generalizing d with
  | nil => exact ⟨d.sas.handed, rfl⟩
  | cons p ps ih =>
    unfold takeHanded
    extract_lets is
    split
    · exact ih d
    · exact ih _

/-- Taking over the pages of a shipment changes which pages are handed over, and nothing else. -/
theorem shipped_handed {d e : Dev} {frm kind : Nat} {req : U64} {ps qs : List PagePart} (h : shipped d frm kind req ps = (qs, e)) :
    ∃ hs, e = { d with sas := { d.sas with handed := hs } } := by
  unfold shipped at h
  split at h
  · obtain ⟨hs, heq⟩ := takeHanded_handed d kind req ps
    rw [h] at heq
    exact ⟨hs, heq⟩
  · cases h
    exact ⟨d.sas.handed, rfl⟩

section
variable {s : State} {frm b : Nat} {req id : U64} {ps qs : List PagePart} {p : PagePart} {found : List LineErr} {x : Req} {e : Dev}
  {bs : Bytes}

theorem execPrefixFetch_back (hx : findPrompt s.dev req = some x) (hb : x.viewBase = some b) (hs : x.state = .prefill)
    (hh : x.core.home = frm) (hship : shipped s.dev frm 0x10 req ps = (qs, e)) (hp : unpackParts (shapeBpp x.shape) qs = [p]) :
    exec (.prefixFetch frm req id (some ps, found)) s = .next (s.setDev (viewPage e x b p)) := by
  obtain ⟨hs', rfl⟩ := shipped_handed hship
  have hfind : findPrompt { s.dev with sas := { s.dev.sas with handed := hs' } } req = some x := hx
  have hcond : (x.state == .prefill && x.core.home == frm) = true := by simp [hs, hh]
  show execPrefixFetch frm req id (some ps, found) s = _
  simp only [execPrefixFetch, onDev, hship, hfind, hb, hcond, if_true, hp, List.foldl_cons, List.foldl_nil]

theorem prefixFetch_fillsView (hx : findPrompt s.dev req = some x) (hb : x.viewBase = some b) (hs : x.state = .prefill)
    (hh : x.core.home = frm) (hship : shipped s.dev frm 0x10 req ps = (qs, e)) (hp : unpackParts (shapeBpp x.shape) qs = [p])
    (hexp : expandPart x.shape.fmt p = (bs, none)) :
    let a := viewAddr x b p
    (∀ f ∈ framesOf a (pageBytes x.shape), (tget s.dev.sas.frames f).any (fun y => y.stack.isSome)) →
    Completes (.prefixFetch frm req id (some ps, found)) s (fun d => d.reqs = s.dev.reqs ∧ d.sas.skeins = s.dev.sas.skeins ∧
      workRead d a (pageBytes x.shape) = fit bs (pageBytes x.shape) ∧
      ∀ i, (i < a ∨ a + pageBytes x.shape ≤ i) → memRead 0 d.sas.work i = memRead 0 s.dev.sas.work i) := by
  intro a hf
  refine ⟨_, execPrefixFetch_back hx hb hs hh hship hp, ?_⟩
  obtain ⟨hs', rfl⟩ := shipped_handed hship
  obtain ⟨hsame, hsas⟩ := viewPage_writes (d := { s.dev with sas := { s.dev.sas with handed := hs' } }) (r := x) (base := b) hexp hf
  generalize viewPage _ x b p = d at hsame hsas
  have hlen : (fit bs (pageBytes x.shape)).length = pageBytes x.shape := fit_length _ _
  have hwork : d.sas.work = memWriteN 0 s.dev.sas.work a (fit bs (pageBytes x.shape)) := congrArg Sas.work hsas
  refine ⟨hsame.reqs, hsame.skeins, ?_, fun i hi => ?_⟩
  · have hback := memReadN_writeN 0 s.dev.sas.work a (fit bs (pageBytes x.shape))
    rw [← hwork, hlen] at hback
    exact hback
  · rw [hwork]
    exact memRead_writeN_outside (by rwa [hlen])

end

end Sys2Proof.Machine
end

section
/-! # What placing pages changes (R41, R222, R235 to R245)

Placing a page gives a skein of the same slot, identifier and state, and a device with the skeins of before: the new skein is stored
when the whole shipment is in place. -/

namespace Sys2Proof.Machine

open Sys2Proof

/-- What placing pages leaves of a skein: its slot, identifier and state. -/
def Skein.head (k : Skein) : Nat × U64 × SkeinState := (k.slot, k.id, k.state)

/-- A skein and a device that came from `k` and `d` by placing pages. -/
structure PlaceStep (k : Skein) (d : Dev) (r : Skein × Dev) : Prop where
  head : r.1.head = k.head
  same : SameSkeins d r.2

section
variable {k k' x : Skein} {d e : Dev} {r r' : Skein × Dev}

theorem PlaceStep.refl (k : Skein) (d : Dev) : PlaceStep k d (k, d) := ⟨rfl, .refl d⟩

theorem PlaceStep.trans (h : PlaceStep k d r) (h' : PlaceStep r.1 r.2 r') : PlaceStep k d r' :=
  ⟨h'.head.trans h.head, h.same.trans h'.same⟩

/-- A step of the device before, and another skein of the same head. -/
theorem PlaceStep.before (hd : SameSkeins d e) (hk : k'.head = k.head) (h : PlaceStep k' e r) : PlaceStep k d r :=
  ⟨h.head.trans hk, hd.trans h.same⟩

theorem PlaceStep.dev (h : SameSkeins d e) : PlaceStep k d (k, e) := ⟨rfl, h⟩

theorem PlaceStep.ite {c : Prop} [Decidable c] {a b : Nat × Skein × Dev} (ha : PlaceStep k d a.2) (hb : PlaceStep k d b.2) :
    PlaceStep k d (if c then a else b).2 := by
  split <;> assumption

/-! ## Summarize jobs -/

theorem jobCount_sameSkeins (d : Dev) (o k : Nat) : SameSkeins d (jobCount d o k) := ctrInc_sameSkeins _ _

theorem sampleShadow_sameSkeins (d : Dev) (kind slot layer : Nat) (ps ss : List Nat) :
    SameSkeins d (sampleShadow d kind slot layer ps ss) := by
  unfold sampleShadow
  refine .ite (.refl d) ?_
  have hn := freeNext_sameSkeins d
  have hskip (e : Dev) (he : SameSkeins d e) : SameSkeins d (ctrInc e cShadowSkipped) := he.trans (ctrInc_sameSkeins _ _)
  split
  next n e hne =>
  rw [hne] at hn
  refine .ite hn ?_
  extract_lets e2
  have h2 : SameSkeins d e2 := hn.trans (ctrInc_sameSkeins _ _)
  split
  · exact hskip _ h2
  · split
    · exact hskip _ h2
    · split
      · exact hskip _ h2
      · exact .ite (hskip _ h2) (h2.trans (tables_sameSkeins _))

theorem jobDone_sameSkeins (d : Dev) (o kind : Nat) (ps : List Nat) : SameSkeins d (jobDone d o kind ps) :=
  ((jobCount_sameSkeins _ _ _).trans (jobCount_sameSkeins _ _ _)).trans (sampleShadow_sameSkeins _ _ _ _ _ _)

theorem readyPart_sameSkeins (d : Dev) (k : Skein) (p : PagePart) (appended : Bool) : SameSkeins d (readyPart d k p appended).2 :=
  .ite₂ ((countCoded_sameSkeins _ _).trans (jobDone_sameSkeins _ _ _ _)) (.refl d)

/-! ## One page's blocks -/

theorem slotOf_head (d : Dev) (k : Skein) (l g : Nat) : (slotOf d k l g).2.head = k.head := by
  unfold slotOf
  extract_lets y
  split <;> rfl

theorem streamAddrs_head (d : Dev) (l bpp : Nat) (st : List Nat) (n i : Nat) (k : Skein) :
    (streamAddrs d l bpp st n i k).2.head = k.head := by
  induction n generalizing i k with
  | zero => rfl
  | succ n ih => exact (ih (i + 1) (slotOf d k l (i / 64)).2).trans (slotOf_head d k l (i / 64))

theorem storePage_placeStep {p : PagePart} {inStream thin : Bool} (h : storePage d k p inStream thin = .inr r) : PlaceStep k d r := by
  unfold storePage at h
  extract_lets bpp y i0 ents g0 k1 groups at h
  have hk1 : k1.head = k.head := by unfold k1; split <;> rfl
  dsimp only at h
  split at h
  · cases h
  next x hx =>
    cases h
    refine ⟨?_, (mapAll_sameSkeins hx).trans (.trans (.trans (.foldl (fun _ _ => unpoison_sameSkeins _ _ _) _ _)
      (unpoisonMeta_sameSkeins _ _ _ _ _)) ((tables_sameSkeins _).trans (mirrorPage_sameSkeins _ _ _ _ _)))⟩
    refine Eq.trans ?_ hk1
    show Skein.head (Prod.snd _) = _
    split
    · exact streamAddrs_head _ _ _ _ _ _ _
    · exact slotOf_head _ _ _ _

theorem placeEarly_placeStep (l f : Nat) (k : Skein) (d : Dev) : PlaceStep k d (placeEarly l f k d) := by
  induction f generalizing k d with
  | zero => exact .refl k d
  | succ f ih =>
    unfold placeEarly
    extract_lets y
    split
    · exact .refl k d
    · split
      · exact .refl k d
      next k2 e he =>
        extract_lets y2
        exact (storePage_placeStep he).trans (.before (.refl e) (by rfl) (ih _ e))

/-! ## Pages, one by one -/

theorem placeRefused_sameSkeins (d : Dev) : SameSkeins d (placeRefused d).2 := ctrInc_sameSkeins _ _

theorem placePage_placeStep (d : Dev) (k : Skein) (p : PagePart) (summed : Bool) : PlaceStep k d (placePage d k p summed).2 := by
  unfold placePage
  refine .ite (.refl k d) (.ite (.dev (placeRefused_sameSkeins d)) ?_)
  extract_lets _ finish y k1
  have hfinish {o : Nat ⊕ (Skein × Dev)} {cow : Bool} (ho : ∀ r, o = .inr r → PlaceStep k d r) : PlaceStep k d (finish o cow).2 := by
    unfold finish
    split
    · exact .dev (placeRefused_sameSkeins d)
    · exact .dev (faultOp_sameSkeins _ _ _ _ _ _)
    next k2 e =>
      extract_lets e2
      have he2 : PlaceStep k d (k2, e2) := (ho _ rfl).trans (.dev (.ite (ctrInc_sameSkeins _ _) (.refl e)))
      exact he2.trans (placeEarly_placeStep _ _ _ _)
  have hstore {e : Dev} {x : Skein} {q : PagePart} {b : Bool} (he : SameSkeins d e) (hx : x.head = k.head) :
      ∀ r, storePage e x q b false = .inr r → PlaceStep k d r :=
    fun _ hr => .before he hx (storePage_placeStep hr)
  have hk1 : k1.head = k.head := by unfold k1; split <;> rfl
  split
  · exact .ite (hfinish (hstore (.refl d) rfl)) (.ite ⟨rfl, .refl d⟩ (hfinish (hstore (.refl d) rfl)))
  next r _ =>
    extract_lets shared last
    refine .ite (hfinish (hstore (.refl d) hk1)) (.ite ?_ (hfinish (hstore (.refl d) hk1)))
    exact hfinish (hstore (jobDone_sameSkeins _ _ _ _) hk1)

theorem placeAllPages_placeStep (appended : Bool) (ps : List PagePart) (k : Skein) (d : Dev) :
    PlaceStep k d (placeAllPages appended ps k d).2 := by
  induction ps generalizing k d with
  | nil => exact .refl k d
  | cons p ps ih =>
    unfold placeAllPages
    refine .ite (.before (ctrInc_sameSkeins _ _) rfl (ih k _)) (.ite (ih k d) ?_)
    have hready := readyPart_sameSkeins d k p appended
    split
    next q e he =>
    rw [he] at hready
    have hplace := PlaceStep.before hready rfl (placePage_placeStep e k q appended)
    split
    next st k2 e2 he2 =>
    rw [he2] at hplace
    exact .ite (hplace.trans (ih k2 e2)) hplace

theorem placeChecked_placeStep (appended : Bool) (ps : List PagePart) (k : Skein) (d : Dev) :
    PlaceStep k d (placeChecked appended ps k d).2 := by
  unfold placeChecked
  split
  · exact .dev (decodeError_sameSkeins _ _ _ _ _)
  · exact placeAllPages_placeStep _ _ _ _

end

end Sys2Proof.Machine
end

section
/-! # Places at the home (R41, R54, R62, R543) -/

namespace Sys2Proof.Machine

open Sys2Proof

/-! ## The answer to a message

An ACK or a NAK goes over trackers, connections, ports and packet numbers; the request table and the SAS stay. -/

/-- `e` came from `d` with its request table and its SAS as they were. -/
structure AnswerStep (d e : Dev) : Prop where
  reqs : e.reqs = d.reqs
  sas : e.sas = d.sas

section
variable {a b c e : Dev} (d : Dev)

theorem AnswerStep.refl : AnswerStep d d := ⟨rfl, rfl⟩

variable {d}

theorem AnswerStep.trans (h : AnswerStep a b) (h' : AnswerStep b c) : AnswerStep a c := ⟨h'.reqs.trans h.reqs, h'.sas.trans h.sas⟩

theorem AnswerStep.ite {p : Prop} [Decidable p] (ha : AnswerStep d a) (hb : AnswerStep d b) : AnswerStep d (if p then a else b) := by
  split <;> assumption

theorem Reports.answerStep (h : Reports d e) : AnswerStep d e := ⟨h.reqs, h.sas⟩

variable (d)

theorem pnWarning_answerStep (sa : Nat) : AnswerStep d (pnWarning d sa) :=
  have hwarn : AnswerStep d { d with weft := { d.weft with warned := sa :: d.weft.warned } } := ⟨rfl, rfl⟩
  .ite (hwarn.trans (detect_reports _ _ _ _ _ _).answerStep) (.refl d)

variable {d} in
theorem takePn_answerStep {sa : Nat} {r : Nat × Dev} (h : takePn d sa = some r) : AnswerStep d r.2 := by
  unfold takePn at h
  split at h
  · cases h
  · split at h
    · cases h
      exact .trans (b := usePn d _) ⟨rfl, rfl⟩ (pnWarning_answerStep _ _)
    · cases h

theorem sendPacket_answerStep (c : Conn) (path vc : Nat) (h : WeftHdr) (pl : Payload) (n : Nat) (key : Place)
    (dep : Option (Nat × U32)) (t : Option Nat) : AnswerStep d (sendPacket d c path vc h pl n key dep t) := by
  unfold sendPacket
  split
  · exact .refl d
  next pn e he =>
    extract_lets h' e2
    have h2 : AnswerStep d e2 := (takePn_answerStep he).trans ⟨rfl, rfl⟩
    exact h2.trans (ctrInc_reports _ _).answerStep

theorem respond_answerStep (c : Conn) (op : Nat) (m : U32) (t : Nat) (bs : Bytes) : AnswerStep d (respond d c op m t bs) :=
  .trans (.ite (ctrInc_reports _ _).answerStep (.refl d)) (sendPacket_answerStep _ _ _ _ _ _ _ _ _ _)

theorem markDone_answerStep (n : Nat) (m : U32) : AnswerStep d (markDone d n m) := by
  unfold markDone
  split
  · exact .refl d
  · exact ⟨rfl, rfl⟩

theorem wakeFlushes_answerStep (n f : Nat) : AnswerStep d (wakeFlushes n f d) := by
  induction f generalizing d with
  | zero => exact .refl d
  | succ f ih =>
    unfold wakeFlushes
    split
    · exact .refl d
    · split
      · exact .refl d
      next c _ t _ =>
        extract_lets failed d1 d2 d3
        have h2 : AnswerStep d d2 := .trans (b := d1) ⟨rfl, rfl⟩ (markDone_answerStep _ _ _)
        have h3 : AnswerStep d d3 := by
          unfold d3
          split
          · exact h2.trans (respond_answerStep _ _ _ _ _ _)
          · exact h2
        exact h3.trans (ih d3)

theorem answerMsg_answerStep (t : Tracker) (st : Nat) (done bad : Bool) : AnswerStep d (answerMsg d t st done bad) := by
  unfold answerMsg
  extract_lets d1 d2
  have h2 : AnswerStep d d2 := .trans (b := d1) ⟨rfl, rfl⟩ (.ite (markDone_answerStep _ _ _) (.refl _))
  split
  · exact h2
  · extract_lets c d3 d4
    have h4 : AnswerStep d3 d4 := respond_answerStep _ _ _ _ _ _
    exact (h2.trans (.trans (b := d3) ⟨rfl, rfl⟩ h4)).trans (wakeFlushes_answerStep _ _ _)

theorem svcAnswer_answerStep (frm kind st : Nat) : AnswerStep d (svcAnswer d frm kind st) := by
  unfold svcAnswer
  split
  · exact .refl d
  · exact answerMsg_answerStep _ _ _ _ _

end

/-- Without a flush among the trackers, no flush ended. -/
theorem flushesEnded_of_none {was d : Dev} (h : ∀ t ∈ was.weft.trackers, t.op ≠ 0x05) : flushesEnded was d = d := by
  have hnone : was.weft.trackers.filter (fun t => t.op == 0x05) = [] := by
    simpa [List.filter_eq_nil_iff] using h
  rw [flushesEnded, hnone]
  rfl

/-! ## The placement stored and answered -/

/-- The hash of an appended page, kept and entered (R54, R216). -/
def placeHash (ok : Bool) (ps : List PagePart) (k : Skein) (d : Dev) : Skein × Dev :=
  if ok then (match ps.head? with | some p => appendHash d k p | none => (k, d)) else (k, d)

/-- The skein that a placement stores, a refused one aborted (R62). -/
def placedSkein (keep : Bool) (k : Skein) (d : Dev) : Skein :=
  { (if keep then k else { k with state := .aborted }).recount.rehash with lastAccess := now d }

/-- The answer to a PLACE (R28, R543). -/
def placeAnswer (d : Dev) (frm : Nat) (req : U64) (appended : Bool) (st : Nat) : Dev :=
  if isOurs d frm then (if st == St.ok then d else placeNak d req appended st) else flushesEnded d (svcAnswer d frm 0x05 st)

theorem placedSkein_slot (keep : Bool) (k : Skein) (d : Dev) : (placedSkein keep k d).slot = k.slot := by
  unfold placedSkein
  split <;> rfl

/-- A placement that succeeded, or a PLACE of another device, is answered without another change of requests or skeins. -/
theorem placeAnswer_answerStep {d : Dev} {frm st : Nat} {req : U64} {appended : Bool} (h : st = St.ok ∨ isOurs d frm = false)
    (ht : ∀ t ∈ d.weft.trackers, t.op ≠ 0x05) : AnswerStep d (placeAnswer d frm req appended st) := by
  unfold placeAnswer
  rw [flushesEnded_of_none ht]
  split
  next ho =>
    rcases h with rfl | hno
    · exact .refl d
    · simp [hno] at ho
  · exact svcAnswer_answerStep _ _ _ _

/-- A hash kept with an appended page leaves the slot, identifier, state and pages of its skein, and the skeins that are stored. -/
theorem placeHash_keeps (ok : Bool) (ps : List PagePart) (k : Skein) (d : Dev) :
    let x := placeHash ok ps k d
    x.1.head = k.head ∧ x.1.pages = k.pages ∧ HomeStep d x.2 ∧ x.2.sas.skeins = d.sas.skeins := by
  have hself : k.head = k.head ∧ k.pages = k.pages ∧ HomeStep d d ∧ d.sas.skeins = d.sas.skeins := ⟨rfl, rfl, .refl d, rfl⟩
  unfold placeHash
  split
  · split
    next p _ =>
      unfold appendHash
      split
      · exact hself
      · split
        · exact hself
        · refine ⟨rfl, rfl, .ite (prefixInsert_homeStep _ _ _ _) (.refl d), ?_⟩
          dsimp only
          split
          · exact prefixInsert_skeins _ _ _ _
          · rfl
    · exact hself
  · exact hself

section
variable {s : State} {frm : Nat} {req id : U64} {appended : Bool} {ps qs : List PagePart} {k k2 : Skein} {e0 e : Dev} {st : Nat}

theorem execPlace_checks (hc : hasCache s.dev) (hship : shipped s.dev frm 0x05 req ps = (qs, e0)) (hk : findSkein s.dev id = some k)
    (hs : k.state = if appended then .bound else .receiving)
    (hp : placeChecked appended (unpackParts (shapeBpp k.shape) qs) k e0 = (st, k2, e)) :
    let x := placeHash (st == St.ok && appended) qs k2 e
    exec (.place frm req id appended ps) s = .next (s.setDev (collect
      (placeAnswer (setSkein x.2 (placedSkein (st == St.ok || appended) x.1 x.2)) frm req appended st))) := by
  intro x
  obtain ⟨hs', rfl⟩ := shipped_handed hship
  have hcache : hasCache { s.dev with sas := { s.dev.sas with handed := hs' } } = true := hc
  have hfind : findSkein { s.dev with sas := { s.dev.sas with handed := hs' } } id = some k := hk
  have hstate : (k.state != if appended then .bound else .receiving) = false := by simp [hs]
  show execPlace frm req id appended ps s = _
  simp only [execPlace, onDevC, onDev, hship, hcache, Bool.not_true, Bool.false_eq_true, if_false, hfind, hstate, hp]
  rfl

/-- What a PLACE that was checked leaves: the skein that was stored, and the requests. -/
theorem place_stores (hc : hasCache s.dev) (hship : shipped s.dev frm 0x05 req ps = (qs, e0)) (hk : findSkein s.dev id = some k)
    (hs : k.state = if appended then .bound else .receiving)
    (hp : placeChecked appended (unpackParts (shapeBpp k.shape) qs) k e0 = (st, k2, e))
    (ht : ∀ t ∈ s.dev.weft.trackers, t.op ≠ 0x05) (hst : st = St.ok ∨ isOurs s.dev frm = false) :
    Completes (.place frm req id appended ps) s (fun d => d.reqs = s.dev.reqs ∧
      skeinIs d k.slot (fun x => ∃ y : Skein, ∃ e2, y.head = k.head ∧ y.pages = k2.pages ∧ now e2 = now s.dev ∧
        x = placedSkein (st == St.ok || appended) y e2)) := by
  refine ⟨_, execPlace_checks hc hship hk hs hp, ?_⟩
  obtain ⟨hs', rfl⟩ := shipped_handed hship
  obtain ⟨hhead, hpages, hstep, hskeins⟩ := placeHash_keeps (st == St.ok && appended) qs k2 e
  generalize placeHash (st == St.ok && appended) qs k2 e = x at hhead hpages hstep hskeins
  have hplace := placeChecked_placeStep appended (unpackParts (shapeBpp k.shape) qs) k
    { s.dev with sas := { s.dev.sas with handed := hs' } }
  rw [hp] at hplace
  have hx : HomeStep s.dev x.2 := ((sas_homeStep s.dev _).trans hplace.same.toHomeStep).trans hstep
  have hat : skeinIs x.2 k.slot (fun _ => True) := by
    unfold skeinIs
    rw [hskeins, hplace.same.skeins]
    exact (findSkein_is hk).imp (fun _ _ => trivial)
  have hxk : x.1.head = k.head := hhead.trans hplace.head
  generalize hy : placedSkein (st == St.ok || appended) x.1 x.2 = y
  have hslot : y.slot = k.slot := hy ▸ (placedSkein_slot _ x.1 x.2).trans (congrArg Prod.fst hxk)
  have hw : HomeStep s.dev (setSkein x.2 y) := hx.trans (setSkein_homeStep _ _)
  have hans := placeAnswer_answerStep (d := setSkein x.2 y) (req := req) (appended := appended)
    (hst.imp_right ((hw.isOurs frm).trans ·)) (hw.trackers ▸ ht)
  have hcol := collect_sameSkeins (placeAnswer (setSkein x.2 y) frm req appended st)
  refine ⟨hcol.reqs.trans (hans.reqs.trans hw.reqs), hcol.skeinIs ?_⟩
  unfold skeinIs
  rw [hans.sas]
  exact skeinIs_setSkein hat hslot ⟨x.1, x.2, hxk, hpages, hx.now, hy.symm⟩

/-- A placement that succeeds stores the pages placed. -/
theorem place_ok (hc : hasCache s.dev) (hship : shipped s.dev frm 0x05 req ps = (qs, e0)) (hk : findSkein s.dev id = some k)
    (hs : k.state = if appended then .bound else .receiving)
    (hp : placeChecked appended (unpackParts (shapeBpp k.shape) qs) k e0 = (St.ok, k2, e))
    (ht : ∀ t ∈ s.dev.weft.trackers, t.op ≠ 0x05) :
    Completes (.place frm req id appended ps) s (fun d => skeinIs d k.slot (fun x => x.id = id ∧ x.state = k.state ∧
      x.pages = k2.pages ∧ x.lastAccess = now s.dev) ∧ d.reqs = s.dev.reqs) := by
  obtain ⟨d, hd, hreqs, hskein⟩ := place_stores hc hship hk hs hp ht (.inl rfl)
  refine ⟨d, hd, hskein.imp ?_, hreqs⟩
  rintro _ ⟨y, e2, hhead, hpages, hnow, rfl⟩
  obtain ⟨-, hid, hstate⟩ : y.slot = k.slot ∧ y.id = k.id ∧ y.state = k.state := by simpa [Skein.head] using hhead
  exact ⟨hid.trans (findSkein_id hk), hstate, hpages, hnow⟩

/-- A page shipment that is refused aborts its skein. -/
theorem place_refused (hc : hasCache s.dev) (hship : shipped s.dev frm 0x05 req ps = (qs, e0)) (hk : findSkein s.dev id = some k)
    (hs : k.state = .receiving) (hp : placeChecked false (unpackParts (shapeBpp k.shape) qs) k e0 = (st, k2, e))
    (hst : st ≠ St.ok) (ho : isOurs s.dev frm = false) (ht : ∀ t ∈ s.dev.weft.trackers, t.op ≠ 0x05) :
    Completes (.place frm req id false ps) s (fun d => skeinIs d k.slot (fun x => x.id = id ∧ x.state = .aborted) ∧
      d.reqs = s.dev.reqs) := by
  obtain ⟨d, hd, hreqs, hskein⟩ := place_stores (appended := false) hc hship hk hs hp ht (.inr ho)
  refine ⟨d, hd, hskein.imp ?_, hreqs⟩
  rintro _ ⟨y, e2, hhead, -, -, rfl⟩
  have hid : y.id = k.id := congrArg (·.2.1) hhead
  have hno : (st == St.ok || false) = false := by simpa using hst
  rw [hno]
  exact ⟨hid.trans (findSkein_id hk), rfl⟩

end

/-- Settles O41: a clause each by skein-open, lookup, prefix fetch at the home (sent or waiting) and at the prompt device, and place
(done or refused). -/
theorem skeinFillingCommandsComplete : Obligations.SkeinFillingCommandsComplete := by
  unfold Obligations.SkeinFillingCommandsComplete
  intro s frm hr
  refine ⟨?_, ?_, ?_, ?_, ?_⟩
  · intro m slot base e hno hslot hfree hret hbase hex hmap inc
    obtain ⟨⟨d, hd, hskein, hinc, hreqs⟩, he⟩ := skeinOpen_completes hr hno hslot hfree hret hbase hex hmap
    refine ⟨d, hd, hskein.imp ?_, hinc, hreqs⟩
    rintro _ ⟨rfl, hgoes⟩
    exact ⟨rfl, congrArg (mkSkeinId · slot inc) he.fleet, rfl, rfl, rfl, rfl, rfl, rfl, rfl, rfl, rfl, rfl, rfl, he.now, hgoes⟩
  · intro req id chain k es e e2 hc hk hs hl hm
    exact lookup_completes hr hc hk hs hl hm
  · intro req id k found hk rs
    exact ⟨prefixFetch_sends hr hk, prefixFetch_waits hk⟩
  · intro req id ps found x b p bs qs e0 hx hb hs hh hship hp hexp a hf
    exact prefixFetch_fillsView hx hb hs hh hship hp hexp hf
  · intro req id ps k qs e0 st k2 e appended hc hship hk hp ht
    refine ⟨?_, ?_⟩
    · rintro rfl hs
      exact place_ok hc hship hk hs hp ht
    · rintro hst hs rfl ho
      exact place_refused hc hship hk hs hp hst ho ht

end Sys2Proof.Machine
end

section
/-! # Operations in service: ends of stages, the deadline watch, held replies (R100, R109 to R112)

An operation that ends leaves the admission unit by `dropOp`; what follows (records, completions, freed frames) leaves that unit alone. -/

namespace Sys2Proof.Machine

open Sys2Proof

section
variable {d e : Dev} {o x : Op} {i : Nat}

/-- The element stored in place of the first one that a test picks is the first one that it picks afterwards. -/
theorem find?_replaceFirst {α : Type} {p : α → Bool} {v : α} {l : List α} (h : ∃ x ∈ l, p x = true) (hv : p v = true) :
    (replaceFirst p v l).find? p = some v := by
  induction l with
  | nil => simp at h
  | cons x xs ih =>
    unfold replaceFirst
    by_cases hx : p x = true
    · simp [hx, hv]
    · simp only [hx, Bool.false_eq_true, if_false, List.find?_cons]
      exact ih (by simpa [hx] using h)

theorem findOp_of_adm (h : e.adm = d.adm) : findOp e i = findOp d i := by unfold findOp; rw [h]

theorem findOp_setOp (h : findOp d o.id = some x) : findOp (setOp d o) o.id = some o :=
  find?_replaceFirst ⟨x, List.mem_of_find?_eq_some h, List.find?_some (p := fun y : Op => y.id == o.id) h⟩ (beq_self_eq_true _)

/-! ## The end of a stage (R111) -/

/-- A late stage leaves its overrun in the operation and in a counter; another one leaves nothing (R111). -/
theorem noteOverrun_cases (d : Dev) (o : Op) (s : Stage) (extra : Nat) :
    noteOverrun d o s extra = (o, d) ∨ ∃ v c,
      noteOverrun d o s extra = ({ o with overran := v }, ctrInc (setOp d { o with overran := v }) c) := by
  unfold noteOverrun
  split
  · exact .inr ⟨_, _, rfl⟩
  · exact .inl rfl

theorem advance_reqs (s : Stage) : (advance d o s).reqs = d.reqs := by
  unfold advance
  obtain h | ⟨v, c, h⟩ := noteOverrun_cases d o s (if s.mirror then tMir d else 0) <;> rw [h]
  · rfl
  · exact ctrInc_reqs _ c

/-- After the end of a stage the next one is current; besides, an overrun may have been noted. -/
theorem findOp_advance (hf : findOp d o.id = some o) (s : Stage) :
    ∃ v, findOp (advance d o s) o.id = some { o with overran := v, cur := o.cur + 1, waiting := false } := by
  unfold advance
  obtain h | ⟨v, c, h⟩ := noteOverrun_cases d o s (if s.mirror then tMir d else 0) <;> rw [h]
  · exact ⟨o.overran, findOp_setOp (o := { o with cur := o.cur + 1, waiting := false }) hf⟩
  · refine ⟨v, findOp_setOp (x := { o with overran := v }) (o := { o with overran := v, cur := o.cur + 1, waiting := false }) ?_⟩
    exact (findOp_of_adm (ctrInc_adm _ c)).trans (findOp_setOp (o := { o with overran := v }) hf)

/-- Only an operation of class B with a deadline expires at a stage boundary (R85). -/
theorem expireB_eq_self (hf : findOp d i = some o) (h : o.cls = .g ∨ o.deadline = none) : expireB d i = d := by
  unfold expireB
  rw [hf]
  dsimp only
  split
  next t ht =>
    have hg : o.cls = .g := h.resolve_right (by simp [ht])
    simp [hg]
  next => rfl

/-- The stage at which a transfer reads from the stack tier ends once what it reads is there (R108, R252). -/
theorem xferStage_read {st : Stage} {rec : Bytes} {data : HostData} {src : Option Skein} (hm : st.mirror = false)
    (hl : st.ledger = lSTK) (hs : ∀ x ∈ o.stages.take o.cur, x.ledger ≠ lSHT) (hr : xferFramesReady d rec src) :
    xferStage d o st rec data src = expireB (advance d o st) o.id := by
  have hreads : xferReads o st = true := by
    simp only [xferReads, hl, beq_self_eq_true, Bool.true_and, Bool.or_eq_true, Bool.not_eq_true', List.any_eq_false, beq_iff_eq]
    exact .inr hs
  unfold xferStage
  rw [if_neg (by simp [hm]), if_pos hreads]
  exact if_neg (by simp [hr])

/-! ## Operations that end -/

theorem mem_dropOp (d : Dev) (i : Nat) :
    (∀ x ∈ (dropOp d i).adm.ops, x.id ≠ i) ∧ ∀ b ∈ (dropOp d i).adm.bookings, b.op ≠ i := by
  constructor <;> intro x hx <;> simpa using (List.mem_filter.mp hx).2

/-- A relay that has been delivered leaves the admission unit (R115). -/
theorem relayDone_adm (st : Nat) : (relayDone d o st).adm = (dropOp d o.id).adm := by
  refine (finishOp_reports _ o.ref st 0 0).adm.trans ?_
  split
  · unfold dropOp; rw [ctrInc_adm]
  · rfl

theorem relayDone_reqs (st : Nat) : (relayDone d o st).reqs = d.reqs := by
  refine (finishOp_reports _ o.ref st 0 0).reqs.trans ?_
  split
  · exact ctrInc_reqs _ cGDelivered
  · rfl

theorem withdraw_adm : (withdraw d i).adm = d.adm := by
  unfold withdraw
  split <;> rfl

/-- An operation other than a far job ends with reports alone (R175). -/
theorem opEnds_reports (h : ∀ j ret, o.what ≠ .farJob j ret) (st : Nat) : Reports d (opEnds d o st) := by
  unfold opEnds
  split
  next hw => exact absurd hw (h _ _)
  next => exact (ctrInc_reports _ _).trans (complete_reports _ _ _ _ _ _)
  next => exact complete_reports _ _ _ _ _ _

/-- Such an operation of class G that is abandoned leaves the admission unit, and the request table is as it was (R112, R115). -/
theorem failOp_adm_reqs (hg : o.cls = .g) (h : ∀ j ret, o.what ≠ .farJob j ret) (c st : Nat) :
    (failOp d o c st).adm = (dropOp d o.id).adm ∧ (failOp d o c st).reqs = d.reqs := by
  have hh : handOver d o = d := by
    unfold handOver
    split
    next hw => exact absurd hw (h _ _)
    next => rfl
  have hr : Reports (withdraw (dropOp d o.id) o.id) (failOp d o c st) := by
    unfold failOp
    rw [hh, hg]
    exact (ctrInc_reports _ _).trans ((faultOp_reports _ _ _ _ _ _).trans (opEnds_reports h st))
  exact ⟨hr.adm.trans withdraw_adm, hr.reqs.trans (withdraw_reqs _ _)⟩

end

/-! ## The commands -/

section
variable {s : State} {o : Op}

section
variable {st : Stage} {P : Dev → Prop} (hf : findOp s.dev o.id = some o) (hst : o.stages[o.cur]? = some st)
  (ht : stageTurn s.dev o st)
include hf hst ht

/-- A transfer's stage ends in its turn, with no line found in error. -/
theorem stageComplete_transfer {rec : Bytes} {data : HostData} {src : Option Skein} (hw : o.what = .transfer rec data src)
    (hP : P (collect (xferStage s.dev o st rec data src))) : Completes (.stageComplete o.id []) s P :=
  ⟨_, rfl, by simpa [hf, hst, ht, hw, readLines] using hP⟩

/-- The same of a relay's stage. -/
theorem stageComplete_relay {req : U64} {step layer conn addr status : Nat} {bs : Bytes}
    (hw : o.what = .relay req step layer conn addr bs status)
    (hP : P (collect (relayStage s.dev o st conn addr bs status))) : Completes (.stageComplete o.id []) s P :=
  ⟨_, rfl, by simpa [hf, hst, ht, hw, readLines] using hP⟩

end

/-- The read of a transfer ends: the next stage is current. -/
theorem stageComplete_transferRead {st : Stage} {rec : Bytes} {data : HostData} {src : Option Skein}
    (hf : findOp s.dev o.id = some o) (hw : o.what = .transfer rec data src) (hst : o.stages[o.cur]? = some st)
    (hm : st.mirror = false) (hl : st.ledger = lSTK) (hs : ∀ x ∈ o.stages.take o.cur, x.ledger ≠ lSHT)
    (hr : xferFramesReady s.dev rec src) (ht : stageTurn s.dev o st) (hc : o.cls = .g ∨ o.deadline = none) :
    Completes (.stageComplete o.id []) s (fun d => (∃ x ∈ d.adm.ops, x.id = o.id ∧ x.cur = o.cur + 1 ∧ x.stages = o.stages) ∧
      d.reqs = s.dev.reqs) := by
  obtain ⟨v, hv⟩ := findOp_advance hf st
  refine stageComplete_transfer hf hst ht hw ?_
  rw [xferStage_read hm hl hs hr, expireB_eq_self hv hc]
  have hcol := collect_frees (advance s.dev o st)
  have hmem := List.mem_of_find?_eq_some hv
  rw [← hcol.adm] at hmem
  exact ⟨⟨_, hmem, rfl, rfl, rfl⟩, hcol.reqs.trans (advance_reqs st)⟩

/-- The stage of a relay to host memory ends: delivered, it leaves the admission unit. -/
theorem stageComplete_relayToHost {st : Stage} {req : U64} {step layer addr status : Nat} {bs : Bytes}
    (hf : findOp s.dev o.id = some o) (hw : o.what = .relay req step layer 0xFFFFF addr bs status)
    (hst : o.stages[o.cur]? = some st) (ht : stageTurn s.dev o st) :
    Completes (.stageComplete o.id []) s (fun d => (∀ x ∈ d.adm.ops, x.id ≠ o.id) ∧ (∀ b ∈ d.adm.bookings, b.op ≠ o.id) ∧
      d.reqs = s.dev.reqs) := by
  refine stageComplete_relay hf hst ht hw ?_
  have hcol := collect_frees (relayStage s.dev o st 0xFFFFF addr bs status)
  obtain ⟨hops, hbook⟩ := mem_dropOp (hostWrite (advance s.dev o st) o.ref.owner addr bs) o.id
  rw [hcol.adm, hcol.reqs]
  refine ⟨?_, ?_, ?_⟩
  · exact relayDone_adm (d := hostWrite (advance s.dev o st) _ _ _) status ▸ hops
  · exact relayDone_adm (d := hostWrite (advance s.dev o st) _ _ _) status ▸ hbook
  · exact (relayDone_reqs status).trans ((hostWrite_reports _ _ _ _).reqs.trans (advance_reqs st))

/-- An operation of class G other than a far job that runs late is abandoned (R112). -/
theorem deadlineWatch_abandons {t : Nat} (hf : findOp s.dev o.id = some o) (hg : o.cls = .g) (hd : o.deadline = some t)
    (hlate : t ≤ now s.dev + frNs s.dev) (hthere : o.there.any (· ≤ now s.dev) = false) (hj : ∀ j ret, o.what ≠ .farJob j ret) :
    Completes (.deadlineWatch o.id) s (fun d => (∀ x ∈ d.adm.ops, x.id ≠ o.id) ∧ (∀ b ∈ d.adm.bookings, b.op ≠ o.id) ∧
      d.reqs = s.dev.reqs) := by
  refine ⟨collect (failOp s.dev o (watchCause o) St.budgetMissed), ?_, ?_⟩
  · show execDeadlineWatch o.id s = _
    unfold execDeadlineWatch onDevC onDev
    simp only [hf, hg, hd, hthere, if_neg (Nat.not_lt.mpr hlate)]
    cases hw : o.what with
    | farJob j ret => exact absurd hw (hj j ret)
    | _ => rfl
  · obtain ⟨hadm, hreqs⟩ := failOp_adm_reqs (d := s.dev) hg hj (watchCause o) St.budgetMissed
    obtain ⟨hops, hbook⟩ := mem_dropOp s.dev o.id
    have hcol := collect_frees (failOp s.dev o (watchCause o) St.budgetMissed)
    rw [hcol.adm, hcol.reqs, hadm]
    exact ⟨hops, hbook, hreqs⟩

end

/-- Held replies that are given are reports, whether they go to a ring or to a generation device (R95, R100). -/
theorem admissionReplyRelease_reports (s : State) : Completes .admissionReplyRelease s (fun d =>
    Reports { s.dev with adm := { s.dev.adm with held := s.dev.adm.held.filter (fun h => now s.dev < h.time) } } d) := by
  refine ⟨_, rfl, .foldl _ (fun d h => ?_) _ _⟩
  split
  · exact emitWA_reports _ _
  · exact complete_reports _ _ _ _ _ _

/-- Settles O44: a stage that ends advances its operation, delivery and abandonment both take the operation out by `dropOp`, and held
replies that are given are reports. -/
theorem operationEventsComplete : Obligations.OperationEventsComplete := by
  unfold Obligations.OperationEventsComplete
  intro s
  refine ⟨?_, ?_, ?_, ?_⟩
  · intro o st rec data src hf hw hst hm hl hs hr ht hc
    exact stageComplete_transferRead hf hw hst hm hl hs hr ht hc
  · intro o st req step layer addr bs status hf hw hst ht
    exact stageComplete_relayToHost hf hw hst ht
  · intro o t hf hg hd hlate hthere hj
    exact deadlineWatch_abandons hf hg hd hlate hthere hj
  · obtain ⟨d, hd, hr⟩ := admissionReplyRelease_reports s
    exact ⟨d, hd, hr.adm, hr.reqs, hr.sas⟩

end Sys2Proof.Machine
end

section
/-! # What leaves the clock and custody alone

The ends of operations and requests, the reset of a fabric run and a port's work at a reference edge change neither the clock's record nor
whether the device is in custody. Each function has one lemma `f_sameMode`: what was the same before it is the same after it. -/

namespace Sys2Proof.Machine

open Sys2Proof

/-- `e` has the clock and the custody of `d`. -/
structure SameMode (d e : Dev) : Prop where
  clk : e.clk = d.clk
  custody : e.flt.custody = d.flt.custody

section
variable {d₀ d e : Dev}

theorem SameMode.refl (d : Dev) : SameMode d d := ⟨rfl, rfl⟩

theorem SameMode.reports (hk : SameMode d₀ d) (h : Reports d e) : SameMode d₀ e :=
  ⟨h.clk.trans hk.clk, h.custody.trans hk.custody⟩

theorem SameMode.frees (hk : SameMode d₀ d) (h : Frees d e) : SameMode d₀ e :=
  ⟨h.clk.trans hk.clk, (congrArg FaultUnit.custody h.flt).trans hk.custody⟩

/-- An update of other fields than the clock and the fault unit. -/
theorem SameMode.record {out free boot img ready readyAt ctr pair host sec mon intake rings weft adm ports reqs sas stk bob codecErr retr
    fab lines checks} (hk : SameMode d₀ d) :
    SameMode d₀ (Dev.mk out free d.clk boot img ready readyAt ctr d.flt pair host sec mon intake rings weft adm ports reqs sas stk bob
      codecErr retr fab lines checks) :=
  ⟨hk.clk, hk.custody⟩

theorem SameMode.ite {p : Prop} [Decidable p] {a b : Dev} (ha : SameMode d a) (hb : SameMode d b) :
    SameMode d (if p then a else b) := by
  split <;> assumption

theorem SameMode.ite₂ {α : Type} {p : Prop} [Decidable p] {a b : α × Dev} (ha : SameMode d a.2) (hb : SameMode d b.2) :
    SameMode d (if p then a else b).2 := by
  split <;> assumption

theorem SameMode.foldl {α : Type} {f : Dev → α → Dev} {l : List α} (hf : ∀ x a, SameMode d₀ x → SameMode d₀ (f x a))
    (hk : SameMode d₀ d) : SameMode d₀ (l.foldl f d) := by
  induction l generalizing d with
  | nil => exact hk
  | cons a l ih => exact ih (hf d a hk)

/-! ## Operations and far jobs -/

theorem ctrInc_sameMode {a} (hk : SameMode d₀ d) : SameMode d₀ (ctrInc d a) := hk.reports (ctrInc_reports d a)

theorem complete_sameMode {ref st b x y} (hk : SameMode d₀ d) : SameMode d₀ (complete d ref st b x y) :=
  hk.reports (complete_reports ..)

theorem handOver_sameMode {o} (hk : SameMode d₀ d) : SameMode d₀ (handOver d o) := by
  unfold handOver
  split
  · split
    · exact hk
    · split
      · exact .ite hk (.record hk)
      · exact hk
  · exact hk

theorem withdraw_sameMode {i} (hk : SameMode d₀ d) : SameMode d₀ (withdraw d i) := .ite hk (.record hk)

/-- An operation leaves the admission unit and the send queues. -/
theorem dropped_sameMode {o} (hk : SameMode d₀ d) : SameMode d₀ (withdraw (dropOp (handOver d o) o.id) o.id) :=
  withdraw_sameMode (.record (handOver_sameMode hk))

theorem opEnds_sameMode {o st} (hk : SameMode d₀ d) : SameMode d₀ (opEnds d o st) := by
  unfold opEnds
  split
  · exact .record ((ctrInc_sameMode hk).reports (emitWA_reports _ _))
  · exact complete_sameMode (ctrInc_sameMode hk)
  · exact complete_sameMode hk

theorem endOp_sameMode {o st} (hk : SameMode d₀ d) : SameMode d₀ (endOp d o st) := opEnds_sameMode (dropped_sameMode hk)

theorem failOp_sameMode {o c st} (hk : SameMode d₀ d) : SameMode d₀ (failOp d o c st) := by
  unfold failOp
  extract_lets d1 d2 d3
  have h1 : SameMode d₀ d1 := dropped_sameMode hk
  have h2 : SameMode d₀ d2 := .ite (ctrInc_sameMode h1) h1
  exact opEnds_sameMode (h2.reports (faultOp_reports ..))

theorem failAll_sameMode {p c st} (hk : SameMode d₀ d) : SameMode d₀ (failAll d p c st) := .foldl (fun _ _ k => failOp_sameMode k) hk

theorem failJob_sameMode {j c st} (hk : SameMode d₀ d) : SameMode d₀ (failJob d j c st) := by
  unfold failJob
  refine .foldl (fun _ _ k => ?_) hk
  split
  · exact failOp_sameMode k
  · exact k

/-! ## Requests -/

theorem setReq_sameMode {r} (hk : SameMode d₀ d) : SameMode d₀ (setReq d r) :=
  SameMode.reports (.record hk) (mirrorPush_reports _ _)

theorem sendSvc_sameMode {f m} (hk : SameMode d₀ d) : SameMode d₀ (sendSvc d f m).2 := by
  rcases sendSvc_reports d f m with h | h
  · exact hk.reports h
  · exact SameMode.reports (.record hk) h

theorem sendEnd_reports (d : Dev) (r : Req) (bs : Bytes) : Reports d (sendEnd d r bs).2 := by
  have hput : Reports d (putEnd d r bs) := by
    unfold putEnd
    split
    · exact .ite (ringPut_reports _ _ _ _) (ctrInc_reports _ _)
    · exact ctrInc_reports _ _
  unfold sendEnd
  split
  · split
    · exact postEntry_reports _ _ _
    · exact hput
  · exact hput

theorem endReq_sameMode {r st c a} (hk : SameMode d₀ d) : SameMode d₀ (endReq d r st c a).2 := by
  have hend : SameMode d₀ (writeEnd d r st c a).2 := .ite₂ hk (hk.reports (sendEnd_reports _ _ _))
  exact setReq_sameMode (.foldl (fun _ _ k => complete_sameMode k) hend)

theorem sendRelease_sameMode {r} (hk : SameMode d₀ d) : SameMode d₀ (sendRelease d r) := sendSvc_sameMode (setReq_sameMode hk)

theorem shipNext_sameMode {r} (hk : SameMode d₀ d) : SameMode d₀ (shipNext d r) := by
  have hfault : SameMode d₀ (appendFault d r) := hk.reports (faultOp_reports ..)
  unfold shipNext
  refine .ite (setReq_sameMode hk) (.ite (.ite (setReq_sameMode ?_) ?_) (.ite (sendRelease_sameMode hk) (setReq_sameMode hk)))
  · dsimp only
    split
    · exact .ite (sendSvc_sameMode hk) ((sendSvc_sameMode hk).reports (postEntry_reports _ _ _))
    · exact sendSvc_sameMode hk
  · exact .ite (sendRelease_sameMode hfault) (setReq_sameMode hfault)

theorem genEnd_sameMode {r st c a} (hk : SameMode d₀ d) : SameMode d₀ (genEnd d r st c a) :=
  .ite (sendSvc_sameMode (endReq_sameMode hk)) (shipNext_sameMode (endReq_sameMode hk))

theorem freeSpans_frees (d : Dev) (o : Nat) (b : Option Nat) : Frees d (freeSpans d o b) := by
  unfold freeSpans
  split
  · exact .refl d
  · split
    · exact .refl d
    · exact (sas_frees _ _).trans (unmapFrames_frees _ _ _)

theorem promptEnd_sameMode {r st c a} (hk : SameMode d₀ d) : SameMode d₀ (promptEnd d r st c a) := by
  have hend : SameMode d₀ (endReq (dropView d r).2 (dropView d r).1 st c a).2 := endReq_sameMode (hk.frees (freeSpans_frees _ _ _))
  exact .ite (setReq_sameMode hend) (sendSvc_sameMode hend)

theorem endOwned_sameMode {p st} (hk : SameMode d₀ d) : SameMode d₀ (endOwned d p st) := by
  unfold endOwned
  refine .foldl (fun _ _ k => ?_) hk
  split
  · exact k
  · exact .ite k (.ite (genEnd_sameMode k) (promptEnd_sameMode k))

/-! ## Service as a whole -/

theorem stopFabric_sameMode {st} (hk : SameMode d₀ d) : SameMode d₀ (stopFabric d st) := by
  unfold stopFabric
  refine .foldl (fun _ _ k => ?_) (.record (hk.reports (ctrAdd_reports _ _ _)))
  split
  · exact endOp_sameMode k
  · exact k

theorem stopService_sameMode {st} (hk : SameMode d₀ d) : SameMode d₀ (stopService d st) := by
  unfold stopService
  refine endOwned_sameMode (failAll_sameMode (stopFabric_sameMode (.foldl (fun _ _ k => ?_) (.record hk))))
  split
  · exact k.reports (emitWA_reports _ _)
  · exact complete_sameMode k

theorem resetRun_sameMode {r c} (hk : SameMode d₀ d) : SameMode d₀ (resetRun d r c) := by
  refine .record (.foldl (fun d x k => ?_) hk)
  unfold cmdFails
  refine .ite (.ite (ctrInc_sameMode (.record k)) k) ?_
  split
  · exact failJob_sameMode k
  · exact k

/-! ## Ports -/

theorem setPort_sameMode {p x} (hk : SameMode d₀ d) : SameMode d₀ (setPort d p x) := .record hk

theorem emit_sameMode {o} (hk : SameMode d₀ d) : SameMode d₀ (emit d o) := .record hk

theorem takeIngress_sameMode {p} (hk : SameMode d₀ d) : SameMode d₀ (takeIngress d p) := by
  unfold takeIngress
  extract_lets x some_ d1
  have h1 : SameMode d₀ d1 := .record hk
  exact .ite hk (.ite (.ite (.record h1) h1) (.foldl (fun _ _ k => .ite (ctrInc_sameMode (emit_sameMode (setPort_sameMode k))) k) h1))

theorem noteGuard_sameMode {p} (hk : SameMode d₀ d) : SameMode d₀ (noteGuard d p) := by
  unfold noteGuard
  dsimp only
  split
  · exact .ite hk (SameMode.reports (.record hk) (ctrAdd_reports _ _ _))
  · exact .ite (.record hk) hk

theorem portTick_sameMode {p} (hk : SameMode d₀ d) : SameMode d₀ (portTick d p) := by
  have hnack : SameMode d₀ (nackAgain (takeIngress d p) p) := .ite (.record (takeIngress_sameMode hk)) (takeIngress_sameMode hk)
  exact .ite (noteGuard_sameMode (.ite hnack (.record hnack))) hk

end

end Sys2Proof.Machine
end

section
/-! # Readiness bits (R741) -/

namespace Sys2Proof.Machine

open Sys2Proof

/-- Subtracting the value of a set bit clears that bit and no other. -/
theorem testBit_sub_two_pow {n b : Nat} (h : n.testBit b = true) (c : Nat) :
    (n - 2 ^ b).testBit c = (decide (c ≠ b) && n.testBit c) := by
  induction b generalizing n c with
  | zero =>
    have hodd : n % 2 = 1 := by simpa [Nat.testBit_zero] using h
    cases c with
    | zero => simp [Nat.testBit_zero]; omega
    | succ c => simp [Nat.testBit_succ, show (n - 1) / 2 = n / 2 by omega]
  | succ b ih =>
    have hge : 2 ^ (b + 1) ≤ n := Nat.ge_two_pow_of_testBit h
    rw [Nat.pow_succ] at *
    cases c with
    | zero => simp [Nat.testBit_zero, show (n - 2 ^ b * 2) % 2 = n % 2 by omega]
    | succ c =>
      rw [Nat.testBit_succ] at h
      simp [Nat.testBit_succ, show (n - 2 ^ b * 2) / 2 = n / 2 - 2 ^ b by omega, ih h]

theorem bitOf_eq_testBit (n i : Nat) : bitOf n i = n.testBit i := by
  rw [Nat.testBit_eq_decide_div_mod_eq]; rfl

theorem isReady_unpost (d : Dev) (b c : Nat) : isReady (unpost d b) c = (decide (c ≠ b) && isReady d c) := by
  unfold isReady unpost
  simp only [bitOf_eq_testBit]
  split
  next h => exact testBit_sub_two_pow h c
  next h => by_cases hc : c = b <;> simp_all

theorem isReady_post_same (d : Dev) (b : Nat) : isReady (post d b) b = true := by
  unfold isReady post
  simp only [bitOf_eq_testBit]
  split
  next h => exact h
  next h => rw [Nat.add_comm, Nat.testBit_two_pow_add_eq]; simpa using h

/-- Clearing several bits changes READY alone. -/
theorem foldl_unpost_eq (l : List Nat) (d : Dev) : l.foldl unpost d = { d with ready := (l.foldl unpost d).ready } := by
  induction l generalizing d with
  | nil => rfl
  | cons b l ih => exact (ih (unpost d b)).trans rfl

theorem isReady_foldl_unpost (l : List Nat) (d : Dev) (c : Nat) :
    isReady (l.foldl unpost d) c = (decide (c ∉ l) && isReady d c) := by
  induction l generalizing d with
  | nil => simp
  | cons b l ih =>
    rw [List.foldl_cons, ih, isReady_unpost]
    by_cases hb : c = b <;> simp [hb]

end Sys2Proof.Machine
end

section
/-! # Reports of detections that found the coalescing table full (R689)

The count of such detections can only grow again, while their report is written, by the detection that a ring has broken. -/

namespace Sys2Proof.Machine

open Sys2Proof

/-- Some ring is BROKEN. -/
def AnyBroken (d : Dev) : Prop := ∃ r ∈ d.rings, r.broken = true

/-- No detection has found the table full since, or some ring is BROKEN. -/
def LostTold (d : Dev) : Prop := d.flt.fullLost = 0 ∨ AnyBroken d

/-- From `d` to `e` no detection found the table full, and no BROKEN ring was repaired. -/
structure NoneLost (d e : Dev) : Prop where
  lost : e.flt.fullLost = d.flt.fullLost
  broken : AnyBroken d → AnyBroken e

section
variable {d e : Dev} {r : Ring}

theorem NoneLost.refl (d : Dev) : NoneLost d d := ⟨rfl, id⟩

theorem NoneLost.trans {a b c : Dev} (h : NoneLost a b) (k : NoneLost b c) : NoneLost a c :=
  ⟨k.lost.trans h.lost, k.broken ∘ h.broken⟩

theorem NoneLost.of_eq (hr : e.rings = d.rings) (hf : e.flt.fullLost = d.flt.fullLost) : NoneLost d e :=
  ⟨hf, fun h => by unfold AnyBroken; rwa [hr]⟩

theorem NoneLost.ite {p : Prop} [Decidable p] {a b : Dev} (ha : NoneLost d a) (hb : NoneLost d b) :
    NoneLost d (if p then a else b) := by
  split <;> assumption

theorem NoneLost.foldl {α : Type} {f : Dev → α → Dev} (h : ∀ d x, NoneLost d (f d x)) (l : List α) (d : Dev) :
    NoneLost d (l.foldl f d) := by
  induction l generalizing d with
  | nil => exact .refl d
  | cons x xs ih => exact (h d x).trans (ih _)

theorem NoneLost.lostTold (h : NoneLost d e) : LostTold d → LostTold e := Or.imp h.lost.trans h.broken

/-! ## What leaves the rings alone -/

theorem ctrAdd_noneLost (d : Dev) (a n : Nat) : NoneLost d (ctrAdd d a n) := .of_eq (by simp) (by simp)

theorem ctrInc_noneLost (d : Dev) (a : Nat) : NoneLost d (ctrInc d a) := ctrAdd_noneLost d a 1

theorem emit_noneLost (d : Dev) (o : Out) : NoneLost d (emit d o) := .of_eq rfl rfl

theorem emitWA_noneLost (d : Dev) (o : Out) : NoneLost d (emitWA d o) := .ite (.of_eq rfl rfl) (.of_eq rfl rfl)

theorem mirrorPush_noneLost (d : Dev) (recs : List MirrorRec) : NoneLost d (mirrorPush d recs) :=
  .of_eq (mirrorPush_frees d recs).rings (congrArg FaultUnit.fullLost (mirrorPush_frees d recs).flt)

theorem hostWrite_noneLost (d : Dev) (o a : Nat) (bs : Bytes) : NoneLost d (hostWrite d o a bs) :=
  .ite (.foldl (fun d _ => emitWA_noneLost d _) _ _) ((ctrInc_noneLost d cHostDropped).trans (.of_eq rfl rfl))

theorem hostRead_noneLost (d : Dev) (o a n : Nat) (u : ReadFor) : NoneLost d (hostRead d o a n u) := by
  refine .trans ?_ (.foldl (fun d _ => emit_noneLost d _) _ _)
  exact .of_eq rfl rfl

theorem msixRaise_noneLost (d : Dev) (o : Nat) : NoneLost d (msixRaise d o) := by
  refine .ite (.refl d) (.ite (.trans ?_ (emitWA_noneLost _ _)) (.of_eq rfl rfl))
  exact .of_eq rfl rfl

theorem postEntry_noneLost (d : Dev) (n : Nat) (x : SqEntry) : NoneLost d (postEntry d n x) := by
  unfold postEntry
  split
  · exact .refl d
  · exact .ite (.refl d) (.of_eq rfl rfl)

/-! ## Rings -/

theorem findRing_num {n : Nat} (h : findRing d n = some r) : r.num = n := by simpa using List.find?_some h

/-- Replacing the first element that a test picks keeps what is somewhere in the list, as long as the new element has it where the
replaced one had. -/
theorem exists_mem_replaceFirst {α : Type} {p g : α → Bool} {v x : α} {l : List α} (hx : l.find? p = some x)
    (hv : g x = true → g v = true) (h : ∃ y ∈ l, g y = true) : ∃ y ∈ replaceFirst p v l, g y = true := by
  induction l with
  | nil => simp at h
  | cons a l ih =>
    unfold replaceFirst
    by_cases ha : p a = true
    · obtain rfl : a = x := by simpa [ha] using hx
      simp only [ha, if_true, List.mem_cons, exists_eq_or_imp] at h ⊢
      exact h.imp_left hv
    · simp only [ha, Bool.false_eq_true, if_false, List.mem_cons, exists_eq_or_imp] at h ⊢
      exact h.imp_right (ih (by simpa [ha] using hx))

/-- A ring that is stored again is BROKEN where it was. -/
theorem setRing_noneLost {x : Ring} (hx : findRing d r.num = some x) (hb : x.broken = true → r.broken = true) :
    NoneLost d (setRing d r) :=
  ⟨rfl, exists_mem_replaceFirst hx hb⟩

theorem startHeadRead_noneLost (d : Dev) (n : Nat) : NoneLost d (startHeadRead d n) := by
  unfold startHeadRead
  split
  · exact .refl d
  next r hr =>
    obtain rfl := findRing_num hr
    have hbreak : NoneLost d (ringBreak d r) := by
      refine .trans ?_ (ctrAdd_noneLost _ _ _)
      exact setRing_noneLost hr fun _ => rfl
    refine .ite (.refl d) (.ite hbreak (.trans ?_ (.ite (postEntry_noneLost _ _ _) (hostRead_noneLost _ _ _ _ _))))
    exact setRing_noneLost hr id

theorem faultWritten_noneLost (d : Dev) (r : Ring) (bs : Bytes) : NoneLost d (faultWritten d r bs) := by
  unfold faultWritten
  extract_lets f flt d1 d2
  have h2 : NoneLost d d2 := by
    refine .trans ?_ (ctrInc_noneLost _ _)
    exact .of_eq rfl rfl
  exact .ite h2 (h2.trans (msixRaise_noneLost _ _))

theorem ringWriteSlot_noneLost (hr : findRing d r.num = some r) (rec : Bytes) : NoneLost d (ringWriteSlot d r rec) := by
  unfold ringWriteSlot
  extract_lets slot bs a d1 full d2 d3 d4
  have hr1 : findRing d1 r.num = some r := by unfold findRing; rwa [(mirrorPush_frees d _).rings]
  have h1 : NoneLost d d1 := mirrorPush_noneLost _ _
  have h2 : NoneLost d1 d2 := setRing_noneLost hr1 id
  have h3 : NoneLost d2 d3 := .ite (postEntry_noneLost _ _ _) (hostWrite_noneLost _ _ _ _)
  have h4 : NoneLost d3 d4 := .ite (ctrInc_noneLost _ _) (.ite (faultWritten_noneLost _ _ _) (.refl _))
  have h := h1.trans (h2.trans (h3.trans h4))
  exact .ite (h.trans (startHeadRead_noneLost _ _)) h

theorem ringPutRaw_noneLost (d : Dev) (n : Nat) (rec : Bytes) (keep : Bool) : NoneLost d (ringPutRaw d n rec keep).2 := by
  unfold ringPutRaw
  split
  · exact ctrInc_noneLost _ _
  next r hr =>
    obtain rfl := findRing_num hr
    split_ifs
    · exact ctrInc_noneLost _ _
    · exact ringWriteSlot_noneLost hr _
    · refine .trans ?_ (startHeadRead_noneLost _ _)
      exact setRing_noneLost hr id
    · refine (ctrInc_noneLost d cFaultDropped).trans ?_
      exact setRing_noneLost (x := r) (by simpa [findRing] using hr) id
    · exact ctrInc_noneLost _ _

/-! ## Fault records -/

theorem faultPut_noneLost (d : Dev) (o : Nat) (f : FaultRec) : NoneLost d (faultPut d o f) := by
  unfold faultPut
  split
  · exact ringPutRaw_noneLost _ _ _ _
  · exact .ite (.of_eq rfl rfl) (ctrInc_noneLost _ _)

theorem unitPut_noneLost (d : Dev) (e : CoEntry) : NoneLost d (unitPut d e) :=
  (faultPut_noneLost d _ _).trans (.of_eq rfl rfl)

/-- A detection repairs no ring; it may find the table full. -/
theorem detectPut_anyBroken (o k s c x y : Nat) (h : AnyBroken d) : AnyBroken (detectPut d o k s c x y) := by
  have h1 : AnyBroken (ctrInc d cDetections) := (ctrInc_noneLost _ _).broken h
  unfold detectPut
  extract_lets d1 t known
  split
  · exact (ctrInc_noneLost d1 cCoalesceFull).broken h1
  · split
    · exact (unitPut_noneLost _ _).broken h1
    · exact h1

theorem tellBroken_lostTold (n : Nat) (h : LostTold d) : LostTold (tellBroken n d) := by
  induction n generalizing d with
  | zero => exact h
  | succ n ih =>
    unfold tellBroken
    split
    · exact h
    next r hr =>
    have hfound := List.find?_some hr
    have hbroken : AnyBroken (setRing d { r with told := true }) :=
      ⟨_, mem_replaceFirst ⟨r, List.mem_of_find?_eq_some hr, beq_self_eq_true _⟩, by simp_all⟩
    refine ih (.inr ?_)
    split
    · exact detectPut_anyBroken _ _ _ _ _ _ hbroken
    · exact (ctrInc_noneLost _ _).broken ((faultPut_noneLost _ _ _).broken hbroken)

theorem faultWrite_lostTold (o : Nat) (f : FaultRec) (h : LostTold d) : LostTold (faultWrite d o f) :=
  tellBroken_lostTold _ ((faultPut_noneLost d o f).lostTold h)

end

end Sys2Proof.Machine
end

section
/-! # Local time, PLLs, watchdogs, rails, temperatures and coalescing times (R65 to R70, R687 to R689, R744 to R755, R778, R789) -/

namespace Sys2Proof.Machine

open Sys2Proof

/-! ## Local time and the idle step (R65, R69) -/

/-- The ports do what the new time brings; the clock moves by the time alone. -/
theorem advanceTime_clk (d : Dev) (ns : Nat) : (advanceTime d ns).clk = { d.clk with now := (d.clk.now + ns) % 2 ^ 64 } :=
  (SameMode.foldl (fun _ _ k => portTick_sameMode k) (.refl { d with clk := { d.clk with now := (d.clk.now + ns) % 2 ^ 64 } })).clk

theorem step_idle {s : State} (h : s.pending = []) : step s = .next (s.setDev (idleTick s.dev)) := by
  unfold step; rw [h]

/-- Settles O2: an idle step is the tick of the fallback clock, and nothing where that clock does not count. -/
theorem emptyQueueIdles : Obligations.EmptyQueueIdles := by
  unfold Obligations.EmptyQueueIdles
  intro s hp
  rw [step_idle hp]
  refine ⟨fun hno => ?_, fun hout hfall => ⟨_, rfl, hp, rfl, rfl, ?_⟩⟩
  · rw [idleTick, if_neg (by simpa using hno)]
    rfl
  · show (idleTick s.dev).clk = _
    rw [idleTick, if_pos (by simp [hout, hfall])]
    exact advanceTime_clk _ _

section
variable {s : State}

theorem referenceEdge_adds10 (ho : outOfReset s.dev) (hf : s.dev.clk.fallback = false) :
    Completes .referenceEdge s (fun d => d.clk = { s.dev.clk with now := (s.dev.clk.now + 10) % 2 ^ 64, refOk := true }) := by
  refine ⟨_, rfl, ?_⟩
  beta_reduce
  rw [if_neg (by simp [ho]), if_neg (by simp [hf])]
  exact advanceTime_clk _ _

/-! ## Custody (R70, R709, R754) -/

theorem tellSensors_reports (was d : Dev) : Reports d (tellSensors was d) := by
  have hite {p : Prop} [Decidable p] {e : Dev} {a b : Nat} (h : Reports d e) : Reports d (if p then pldmChange e a b else e) :=
    .ite (h.trans (pldmChange_reports _ _ _)) h
  exact hite (hite (hite (.refl d)))

/-- Custody entered and the sensors told of it. -/
theorem tellSensors_custody (was d : Dev) (t n : Nat) :
    let e := tellSensors was { d with flt := { d.flt with custody := .custody, trigger := t, custodyAt := n } }
    e.flt.custody = .custody ∧ e.flt.trigger = t ∧ e.clk = d.clk := by
  intro e
  have h := tellSensors_reports was { d with flt := { d.flt with custody := .custody, trigger := t, custodyAt := n } }
  exact ⟨h.custody, h.trigger, h.clk⟩

/-- A trigger of custody outside it: the device is in custody with that trigger, and the clock's record is as it was. -/
theorem enterCustody_enters {d : Dev} (h : d.flt.custody = .normal) (t : Nat) :
    (enterCustody d t).flt.custody = .custody ∧ (enterCustody d t).flt.trigger = t ∧ (enterCustody d t).clk = d.clk := by
  unfold enterCustody
  extract_lets was d1 go
  have h1 : SameMode d d1 := ctrInc_sameMode (.refl d)
  have hstop : SameMode d (stopService (detectDevice d1 0xA10 t 0) St.custody) :=
    stopService_sameMode (h1.reports (detectDevice_reports _ _ _ _))
  rw [h1.custody.trans h]
  obtain ⟨hcus, htrig, hclk⟩ := tellSensors_custody d (stopService (detectDevice d1 0xA10 t 0) St.custody) t
    (now (stopService (detectDevice d1 0xA10 t 0) St.custody))
  exact ⟨hcus, htrig, hclk.trans hstop.clk⟩

theorem referenceLoss_entersCustody (ho : outOfReset s.dev) (hr : s.dev.clk.refOk) (hc : s.dev.flt.custody = .normal) :
    Completes .referenceLoss s (fun d => d.clk.fallback ∧ d.clk.refOk = false ∧ d.flt.custody = .custody ∧ d.flt.trigger = 0x220) := by
  refine ⟨_, rfl, ?_⟩
  beta_reduce
  rw [if_neg (by simp [ho, hr])]
  extract_lets d1 d2
  have h1 : SameMode s.dev (detectDevice d1 0x220 0 0) :=
    (failAll_sameMode (ctrInc_sameMode (.refl s.dev))).reports (detectDevice_reports _ _ _ _)
  obtain ⟨hcus, htrig, -⟩ := enterCustody_enters (h1.custody.trans hc) 0x220
  have hcol := collect_frees { d2 with clk := { d2.clk with refOk := false, fallback := true } }
  rw [hcol.clk, hcol.flt]
  exact ⟨rfl, rfl, hcus, htrig⟩

theorem Frees.coresInReset {d e : Dev} (h : Frees d e) : e.sec.coresInReset = d.sec.coresInReset := by
  show (secCore e.sec).coresInReset = (secCore d.sec).coresInReset
  rw [h.sec]

@[simp] theorem coreResetStart_flt (d : Dev) : (coreResetStart d).flt = d.flt := ctrInc_flt d cCoreResets
@[simp] theorem coreResetStart_clk (d : Dev) : (coreResetStart d).clk = d.clk := ctrInc_clk d cCoreResets

theorem isReady_coreResetStart (d : Dev) : isReady (coreResetStart d) rbCores = false := by
  rw [coreResetStart, isReady_unpost]; simp

theorem watchdogExpiry_entersCustody {a : Nat} (ha : a < 10) (hp : s.dev.boot.phase = .running) (hw : s.dev.sec.switching = false)
    (hc : s.dev.flt.custody = .normal) :
    Completes (.watchdogExpiry a) s (fun d => d.flt.custody = .custody ∧ d.flt.trigger = 0xA42 ∧ d.clk.wdAgent = a ∧ d.clk.wdValid ∧
      (a < 8 → d.sec.coresInReset ∧ isReady d rbCores = false)) := by
  refine ⟨_, rfl, ?_⟩
  beta_reduce
  rw [if_neg (by simp [hp, hw]; omega)]
  extract_lets clk d1 d2
  have h1 : SameMode { s.dev with clk := { s.dev.clk with wdAgent := a, wdValid := true } } (faultPlain d1 0xA42 a 0) := by
    refine .reports ?_ (faultPlain_reports _ _ _ _)
    exact ctrInc_sameMode (.refl _)
  obtain ⟨hcus, htrig, hclk⟩ := enterCustody_enters (h1.custody.trans hc) 0xA42
  have hcol := collect_frees (if a < 8 then coreResetStart d2 else d2)
  have hflt : (if a < 8 then coreResetStart d2 else d2).flt = d2.flt := by split <;> simp
  have hclk2 : (if a < 8 then coreResetStart d2 else d2).clk = d2.clk := by split <;> simp
  rw [hcol.flt, hcol.clk, hflt, hclk2, hclk, h1.clk]
  refine ⟨hcus, htrig, rfl, rfl, fun ha8 => ?_⟩
  rw [if_pos ha8] at hcol ⊢
  rw [hcol.coresInReset, isReady, hcol.ready]
  exact ⟨rfl, isReady_coreResetStart d2⟩

/-! ## PLLs (R744, R746) -/

theorem pllLockLoss_unposts {p : Nat} (ho : outOfReset s.dev) (hp : p < 17) (hl : bitOf s.dev.clk.lock p) :
    Completes (.pllLockLoss p) s (fun d => d.clk.lock = s.dev.clk.lock - 2 ^ p ∧ d.clk.loss = (s.dev.clk.loss ||| 2 ^ p) ∧
      (∀ b ∈ pllBits p, isReady d b = false) ∧ d.reqs = s.dev.reqs ∧ d.sas = s.dev.sas) := by
  refine ⟨_, rfl, ?_⟩
  beta_reduce
  rw [if_neg (by simp [ho, hl]; omega)]
  extract_lets clk d1 d2
  have hr : Reports d1 d2 := (ctrInc_reports _ _).trans (faultPlain_reports _ _ _ _)
  have heq := foldl_unpost_eq (pllBits p) d2
  refine ⟨?_, ?_, fun b hb => by simp [isReady_foldl_unpost, hb], ?_, ?_⟩
  · rw [heq]; exact congrArg Clock.lock hr.clk
  · rw [heq]; exact congrArg Clock.loss hr.clk
  · rw [heq]; exact hr.reqs
  · rw [heq]; exact hr.sas

theorem domainRestart_sameMode {d₀ d : Dev} {p : Nat} (hk : SameMode d₀ d) : SameMode d₀ (domainRestart d p) := by
  have hpost {e : Dev} {b : Nat} (h : SameMode d₀ e) : SameMode d₀ (post e b) := .record h
  unfold domainRestart
  refine .ite (.foldl (fun _ _ k => resetRun_sameMode k) hk)
    (.ite ?_ (.ite (.ite (.record hk) hk) (.ite ?_ (.ite (.record hk) hk))))
  · extract_lets d1
    have h1 : SameMode d₀ d1 := .ite (hpost hk) hk
    exact .ite (hpost h1) h1
  · have h1 := SameMode.foldl (l := d.bob.chTrained) (fun d c k => hpost (b := rbOnfi c) k) hk
    exact .ite (hpost h1) h1

theorem pllRelocked_locks {p : Nat} (ho : outOfReset s.dev) (hp : p < 17) (hl : bitOf s.dev.clk.lock p = false) :
    Completes (.pllRelocked p) s (fun d => d.clk.lock = s.dev.clk.lock + 2 ^ p ∧ d.clk.loss = s.dev.clk.loss) := by
  refine ⟨_, rfl, ?_⟩
  beta_reduce
  rw [if_neg (by simp [ho, hl]; omega)]
  extract_lets again clk d1
  have h1 : SameMode d1 (if again then domainRestart d1 p else d1) := .ite (domainRestart_sameMode (.refl d1)) (.refl d1)
  rw [(h1.frees (collect_frees _)).clk]
  exact ⟨rfl, rfl⟩

/-! ## Control cores (R755) -/

theorem controlCoreResetDone_posts (hr : s.dev.sec.coresInReset) :
    Completes .controlCoreResetDone s (fun d => d.sec.coresInReset = false ∧ isReady d rbCores ∧ d.reqs = s.dev.reqs ∧
      d.sas = s.dev.sas) := by
  refine ⟨_, rfl, ?_⟩
  beta_reduce
  rw [if_pos hr]
  exact ⟨rfl, isReady_post_same _ _, rfl, rfl⟩

/-! ## Rails and temperatures (R778, R789) -/

theorem railMeasurement_keepsReadings {mv : List Nat} {w : Nat} (ho : outOfReset s.dev) :
    Completes (.railMeasurement mv w) s (fun d => d.mon.powerW = w ∧
      (∀ r, r ∈ d.mon.railOut ↔ r < 15 ∧ (mv.getD r 0 < (railWindows.getD r (0, 0)).1 ∨ (railWindows.getD r (0, 0)).2 < mv.getD r 0)) ∧
      d.reqs = s.dev.reqs ∧ d.sas = s.dev.sas ∧ d.flt.custody = s.dev.flt.custody) := by
  refine ⟨_, rfl, ?_⟩
  beta_reduce
  rw [if_neg (by simp [ho])]
  extract_lets out tell d1
  have h1 : d1.reqs = s.dev.reqs ∧ d1.sas = s.dev.sas ∧ d1.flt.custody = s.dev.flt.custody := by
    refine List.foldlRecOn (motive := fun e : Dev => e.reqs = s.dev.reqs ∧ e.sas = s.dev.sas ∧ e.flt.custody = s.dev.flt.custody)
      tell _ ⟨rfl, rfl, rfl⟩ fun e he r _ => ?_
    obtain ⟨hreqs, hsas, hcus⟩ := he
    have h := faultPlain_reports { e with mon := { e.mon with railTold := tset e.mon.railTold r (now e) } }
      0xA46 (r + mv.getD r 0 % 2 ^ 16 * 2 ^ 16) 0
    exact ⟨h.reqs.trans hreqs, h.sas.trans hsas, h.custody.trans hcus⟩
  exact ⟨rfl, fun r => by simp [out], h1⟩

theorem dieTempSample_keepsReadings {a b c : Int} (ho : outOfReset s.dev) :
    Completes (.dieTempSample a b c) s (fun d => d.mon.dieTemp = [a, b, c] ∧ d.clk = s.dev.clk ∧
      d.flt.custody = s.dev.flt.custody) := by
  refine ⟨_, rfl, ?_⟩
  beta_reduce
  rw [if_neg (by simp [ho])]
  refine List.foldlRecOn (motive := fun e : Dev => e.mon.dieTemp = [a, b, c] ∧ e.clk = s.dev.clk ∧ e.flt.custody = s.dev.flt.custody)
    _ _ ⟨rfl, rfl, rfl⟩ fun e he x _ => ?_
  obtain ⟨hdie, hclk, hcus⟩ := he
  unfold tempRead
  extract_lets was l
  split
  · exact ⟨hdie, hclk, hcus⟩
  · have h := pldmChange_reports { e with mon := { e.mon with
      level := tset e.mon.level (1 + x.2) l
      thermtrip := e.mon.thermtrip || l == 3 } } (1 + x.2) l
    exact ⟨h.dieTemp.trans hdie, h.clk.trans hclk, h.custody.trans hcus⟩

/-! ## Coalescing times (R687 to R689) -/

/-- A next-allowed time that comes when none of a subject's entries has a pending detection frees them, and does no more (R688). -/
theorem allowedAt_idle {d : Dev} {k n o : Nat} (ht : nextAllowed d k n o ≤ now d)
    (hidle : ∀ e ∈ d.flt.entries, e.subjKind = k → e.subject = n → e.dest = o ∧ e.pending = 0) :
    ∀ e ∈ (allowedAt d k n o).flt.entries, ¬(e.subjKind = k ∧ e.subject = n) := by
  have hpend : oldestPending (subjEntries d k n o) = none := by
    have hnil : (subjEntries d k n o).filter (fun e => e.pending != 0) = [] := by
      simp only [List.filter_eq_nil_iff, subjEntries, List.mem_filter, Bool.and_eq_true, beq_iff_eq, bne_iff_ne]
      rintro e ⟨he, ⟨hk, hn⟩, -⟩
      exact not_not.mpr (hidle e he hk hn).2
    rw [oldestPending, hnil, List.foldl_nil]
  unfold allowedAt
  rw [if_neg (Nat.not_lt.mpr ht), hpend]
  rintro e he ⟨hk, hn⟩
  obtain ⟨hmem, hkeep⟩ := List.mem_filter.mp he
  obtain ⟨ho, hp⟩ := hidle e hmem hk hn
  simp [hk, hn, ho, hp] at hkeep

/-- What is left of a list of equal elements once its repetitions are gone. -/
theorem eraseDups_eq_singleton {α : Type} [BEq α] [LawfulBEq α] {a : α} {l : List α} (hne : l ≠ []) (h : ∀ x ∈ l, x = a) :
    l.eraseDups = [a] := by
  cases l with
  | nil => exact absurd rfl hne
  | cons b l =>
    obtain rfl : b = a := h b List.mem_cons_self
    have hnil : l.filter (fun x => !x == b) = [] := by
      simpa [List.filter_eq_nil_iff] using fun x hx => h x (List.mem_cons_of_mem _ hx)
    rw [List.eraseDups_cons, hnil]
    rfl

theorem coalesceNextAllowed_frees {k : Nat} {x : U64} (ht : nextAllowed s.dev k x.toNat 64 ≤ now s.dev)
    (hidle : ∀ e ∈ s.dev.flt.entries, e.subjKind = k → e.subject = x.toNat → e.dest = 64 ∧ e.pending = 0) :
    Completes (.coalesceNextAllowed k x) s (fun d => ∀ e ∈ d.flt.entries, ¬(e.subjKind = k ∧ e.subject = x.toNat)) := by
  refine ⟨_, rfl, ?_⟩
  beta_reduce
  extract_lets dests
  by_cases hnone : s.dev.flt.entries.filter (fun e => e.subjKind == k && e.subject == x.toNat) = []
  · have hd : dests = [] := by simp [dests, hnone]
    rw [hd]
    intro e he hkey
    simpa [hkey] using List.filter_eq_nil_iff.mp hnone e he
  · have hd : dests = [64] := by
      refine eraseDups_eq_singleton (by simpa using hnone) fun o ho => ?_
      obtain ⟨e, he, rfl⟩ := List.mem_map.mp ho
      obtain ⟨hmem, hkey⟩ := List.mem_filter.mp he
      simp only [Bool.and_eq_true, beq_iff_eq] at hkey
      exact (hidle e hmem hkey.1 hkey.2).1
    rw [hd]
    exact allowedAt_idle ht hidle

theorem coalesceFullReport_reports (hn : s.dev.flt.fullLost ≠ 0) (ht : s.dev.flt.fullReportAt + coalesceNs s.dev ≤ now s.dev) :
    Completes .coalesceFullReport s (fun d => (d.flt.fullLost = 0 ∨ ∃ r ∈ d.rings, r.broken) ∧ d.flt.fullReportAt = now s.dev ∧
      d.reqs = s.dev.reqs) := by
  refine ⟨_, rfl, ?_⟩
  beta_reduce
  rw [if_neg (by simp [hn]; omega)]
  extract_lets n flt d1
  have hr := faultWrite_reports d1 64
    { unit := true, cause := 0xA20, subjKind := 0x01, subject := fleet d1, first := now d1, last := now d1, detail0 := n }
  refine ⟨faultWrite_lostTold _ _ (.inl rfl), ?_, hr.reqs⟩
  exact congrArg FaultUnit.fullReportAt hr.flt

end

/-- Settles O12, a lemma for each command: local time moves by `advanceTime` alone, custody is entered by `enterCustody`, READY changes by
`post` and `unpost`; the rest are reports. -/
theorem clockAndMonitoringCommandsComplete : Obligations.ClockAndMonitoringCommandsComplete := by
  unfold Obligations.ClockAndMonitoringCommandsComplete
  refine ⟨fun s ho => ⟨referenceEdge_adds10 ho, referenceLoss_entersCustody ho, fun p => pllLockLoss_unposts ho,
    fun p => pllRelocked_locks ho, fun a => watchdogExpiry_entersCustody, controlCoreResetDone_posts⟩, fun s => ⟨?_, ?_, ?_, ?_, ?_⟩⟩
  · exact fun mv w => railMeasurement_keepsReadings
  · exact fun a b c => dieTempSample_keepsReadings
  · exact fun f a n v => ⟨s.dev, rfl, rfl⟩
  · exact fun k x => coalesceNextAllowed_frees
  · exact coalesceFullReport_reports

end Sys2Proof.Machine
end

section
/-! # The intake engine and BAR2 (R129 to R136, R794) -/

namespace Sys2Proof.Machine

open Sys2Proof

/-! ## Lanes -/

section
variable (d : Dev) (l k : Nat) (x : Lane)

@[simp] theorem laneAt_setLane_same : laneAt (setLane d l x) l = x := by
  simp [laneAt, setLane, tgetD, tget_tset_same]

theorem laneAt_setLane_other (h : k ≠ l) : laneAt (setLane d l x) k = laneAt d k := by
  simp [laneAt, setLane, tgetD, tget_tset_other _ _ _ _ h]

/-- The record that a lane's engine looks at, as it would be taken now (R133). -/
def laneRecord (d : Dev) (l : Nat) : Taken :=
  let x := laneAt d l
  { lane := l
    seq := x.expected
    arrival := now d
    bytes := memReadN 0 d.intake.window (l * 65536 + x.expected.toNat % 512 * 128) 128
    remote := d.intake.remoteSlots.contains (512 * l + x.expected.toNat % 512) }

/-- The slot of the window that a lane's engine looks at. -/
def laneSlot (d : Dev) (l : Nat) : Nat := 512 * l + (laneAt d l).expected.toNat % 512

/-- How far the stamp that stands there is ahead of the one expected. -/
def laneAhead (d : Dev) (l : Nat) : Int :=
  serialDiff (u32 (fld (laneRecord d l).bytes 0x7C 31 0)) (laneAt d l).expected

/-- The device with the next lane of the round behind it (R134). -/
def scanned (d : Dev) (l : Nat) : Dev := { d with intake := { d.intake with scan := l + 1 } }

end

/-- From `d` to `e` the intake has changed by a lane's mirror alone, and neither requests nor the SAS have changed. -/
structure MirrorOnly (l : Nat) (d e : Dev) : Prop where
  scan : e.intake.scan = d.intake.scan
  taken : e.intake.taken = d.intake.taken
  written : e.intake.written = d.intake.written
  expected : (laneAt e l).expected = (laneAt d l).expected
  stalled : (laneAt e l).stalled = (laneAt d l).stalled
  reqs : e.reqs = d.reqs
  sas : e.sas = d.sas

section
variable {a b c d e : Dev} {l : Nat}

theorem MirrorOnly.trans (h : MirrorOnly l a b) (k : MirrorOnly l b c) : MirrorOnly l a c where
  scan := k.scan.trans h.scan
  taken := k.taken.trans h.taken
  written := k.written.trans h.written
  expected := k.expected.trans h.expected
  stalled := k.stalled.trans h.stalled
  reqs := k.reqs.trans h.reqs
  sas := k.sas.trans h.sas

theorem Reports.laneAt (h : Reports d e) (l : Nat) : laneAt e l = laneAt d l := by unfold Machine.laneAt; rw [h.intake]

theorem Reports.mirrorOnly (h : Reports d e) : MirrorOnly l d e := by
  constructor <;> simp only [h.intake, h.laneAt, h.reqs, h.sas]

theorem writeMirror_mirrorOnly (d : Dev) (l : Nat) : MirrorOnly l d (writeMirror d l) := by
  unfold writeMirror
  extract_lets x bs d1
  have h1 : MirrorOnly l d d1 := by
    refine ⟨rfl, rfl, rfl, ?_, ?_, rfl, rfl⟩ <;> simp [d1, x]
  split
  · exact (Reports.refl d).mirrorOnly
  · split
    · exact h1.trans (hostWrite_reports _ _ _ _).mirrorOnly
    · exact h1.trans (postEntry_reports _ _ _).mirrorOnly

end

/-! ## The engine's visits -/

/-- The device with a lane's record taken, but for the lane's mirror: the next stamp is expected, and the slot is empty (R133). -/
def recordTaken (d : Dev) (l : Nat) : Dev :=
  let x := laneAt d l
  let e := setLane (scanned d l) l { x with expected := x.expected + 1, sinceMirror := x.sinceMirror + 1 }
  { e with intake := { e.intake with
    written := e.intake.written.filter (· != laneSlot d l)
    remoteSlots := e.intake.remoteSlots.filter (· != laneSlot d l)
    taken := e.intake.taken ++ [laneRecord d l] } }

/-- The same, counted, and with the mirror written when it is due (R136). -/
def mirrored (d : Dev) (l : Nat) : Dev :=
  let e := ctrInc (recordTaken d l) cReqTaken
  if (laneAt d l).mirrorEvery ≤ (laneAt d l).sinceMirror + 1 then writeMirror e l else e

theorem mirrored_mirrorOnly (d : Dev) (l : Nat) : MirrorOnly l (recordTaken d l) (mirrored d l) := by
  have he : MirrorOnly l (recordTaken d l) (ctrInc (recordTaken d l) cReqTaken) := (ctrInc_reports _ _).mirrorOnly
  unfold mirrored
  split
  · exact he.trans (writeMirror_mirrorOnly _ l)
  · exact he

section
variable {s : State} {l : Nat}

/-- A visit of another lane than the next one changes nothing. -/
theorem execIntakeLaneVisit_elsewhere (h : nextLane s.dev ≠ some l) : exec (.intakeLaneVisit l) s = .next (s.setDev s.dev) :=
  congrArg (fun d => Host.Outcome.next (s.setDev d)) (if_pos (by simpa using h))

/-- A stalled lane takes nothing. -/
theorem execIntakeLaneVisit_stalled (here : nextLane s.dev = some l) (hx : (laneAt s.dev l).stalled = true) :
    exec (.intakeLaneVisit l) s = .next (s.setDev (scanned s.dev l)) := by
  refine congrArg (fun d => Host.Outcome.next (s.setDev d)) ?_
  refine (if_neg (by simp [here])).trans (if_pos ?_)
  show (!laneScanned s.dev l || (laneAt s.dev l).stalled) = true
  rw [hx, Bool.or_true]

/-- What the engine finds at the lane that its round has come to: a lane that is scanned, not stalled, with a written record. -/
structure RecordStands (d : Dev) (l : Nat) : Prop where
  here : nextLane d = some l
  scanned : laneScanned d l = true
  running : (laneAt d l).stalled = false
  written : laneSlot d l ∈ d.intake.written

/-- A record ahead of its turn stalls the lane, and the detection is reported (R133). -/
theorem execIntakeLaneVisit_ahead (h : RecordStands s.dev l) (hd : 0 < laneAhead s.dev l) :
    exec (.intakeLaneVisit l) s = .next (s.setDev (detectFor (setLane (scanned s.dev l) l { laneAt s.dev l with stalled := true })
      (laneOwner s.dev l) 0x03 l 0x101 0 0)) := by
  obtain ⟨here, hscan, hrun, hw⟩ := h
  refine congrArg (fun d => Host.Outcome.next (s.setDev d)) ?_
  refine (if_neg (by simp [here])).trans ((if_neg ?_).trans ((if_neg ?_).trans ((if_neg ?_).trans (if_pos hd))))
  · show ¬(!laneScanned s.dev l || (laneAt s.dev l).stalled) = true
    simp [hscan, hrun]
  · show ¬(!s.dev.intake.written.contains (laneSlot s.dev l)) = true
    simp [hw]
  · exact not_lt.mpr hd.le

/-- The record whose stamp is expected, and which nothing holds back, is taken, and the lane's mirror may be written (R133, R136). -/
theorem execIntakeLaneVisit_takes (h : RecordStands s.dev l) (hd : laneAhead s.dev l = 0)
    (hheld : heldBack s.dev (laneRecord s.dev l) = none) (hk : kindDefined (laneRecord s.dev l).kind = true) :
    exec (.intakeLaneVisit l) s = .next (s.setDev (mirrored s.dev l)) := by
  obtain ⟨here, hscan, hrun, hw⟩ := h
  refine congrArg (fun d => Host.Outcome.next (s.setDev d)) ?_
  refine (if_neg (by simp [here])).trans ((if_neg ?_).trans ((if_neg ?_).trans ((if_neg ?_).trans ((if_neg ?_).trans ?_))))
  · show ¬(!laneScanned s.dev l || (laneAt s.dev l).stalled) = true
    simp [hscan, hrun]
  · show ¬(!s.dev.intake.written.contains (laneSlot s.dev l)) = true
    simp [hw]
  · exact fun hlt => absurd (hd ▸ hlt : (0 : Int) < 0) (lt_irrefl _)
  · exact fun hlt => absurd (hd ▸ hlt : (0 : Int) < 0) (lt_irrefl _)
  · show (match heldBack s.dev (laneRecord s.dev l) with
      | some c => ctrInc (scanned s.dev l) c
      | none => if kindDefined (laneRecord s.dev l).kind then mirrored s.dev l
        else refuseTaken (mirrored s.dev l) (laneRecord s.dev l) St.kindInvalid) = mirrored s.dev l
    rw [hheld]
    exact if_pos hk

/-- A resync that may reach a lane sets the expected stamp and lets the lane go on (R135). -/
theorem execReqLaneResync_sets {fn : Nat} {v : U64} (hl : bits v.toNat 7 1 = l) (ho : fn = 64 ∨ laneOwner s.dev l = fn)
    (hen : laneEnabled s.dev l = true) :
    exec (.reqLaneResync fn v) s = .next (s.setDev
      (setLane s.dev l { laneAt s.dev l with expected := u32 (bits v.toNat 63 32), stalled := false })) := by
  subst hl
  refine congrArg (fun d => Host.Outcome.next (s.setDev d)) ((if_neg ?_).trans (if_neg ?_))
  · rcases ho with rfl | ho
    · simp
    · simp [ho]
  · simp [hen]

end

/-! ## Writes into BAR2 -/

/-- From `d` to `e` a write has changed the window and the marks of its slots alone, and no mark of a written slot was lost. -/
structure WindowStep (d e : Dev) : Prop where
  img : e.img = d.img
  lanes : e.intake.lanes = d.intake.lanes
  taken : e.intake.taken = d.intake.taken
  reqs : e.reqs = d.reqs
  sas : e.sas = d.sas
  written : d.intake.written ⊆ e.intake.written

theorem WindowStep.refl (d : Dev) : WindowStep d d := ⟨rfl, rfl, rfl, rfl, rfl, List.Subset.refl _⟩

theorem WindowStep.trans {a b c : Dev} (h : WindowStep a b) (k : WindowStep b c) : WindowStep a c where
  img := k.img.trans h.img
  lanes := k.lanes.trans h.lanes
  taken := k.taken.trans h.taken
  reqs := k.reqs.trans h.reqs
  sas := k.sas.trans h.sas
  written := List.Subset.trans h.written k.written

section
variable {d : Dev} {a : Nat}

/-- One byte of an enabled lane: it stands in the window, and a byte of a SEQ word marks its slot as written (R794). -/
theorem windowWrite_byte (b : Byte) (remote : Bool) (h : laneEnabled d (a / 65536) = true) :
    WindowStep d (windowWrite d a [b] remote) ∧ (windowWrite d a [b] remote).intake.window = memWrite 0 d.intake.window a b ∧
      (0x7C ≤ a % 128 → a / 128 ∈ (windowWrite d a [b] remote).intake.written) := by
  have hon : (List.range [b].length).filter (fun i => laneEnabled d ((a + i) / 65536)) = [0] := by simp [List.range_succ, h]
  unfold windowWrite
  rw [hon]
  refine ⟨⟨rfl, rfl, rfl, rfl, rfl, fun k hk => ?_⟩, rfl, fun hseq => ?_⟩
  · simp only [List.mem_append, List.mem_filter]
    by_cases hin : k ∈ (([0].filter (fun i => 0x7C ≤ (a + i) % 128)).map (fun i => (a + i) / 128)).eraseDups
    · exact .inr hin
    · exact .inl ⟨hk, by rwa [Bool.not_eq_true', List.contains_eq_mem, decide_eq_false_iff_not]⟩
  · simp [hseq]

/-- One byte as a BAR2 write of a function carries it out (R129). -/
def barByte (fn off : Nat) (d : Dev) (p : Byte × Nat) : Dev :=
  let l := (off + p.2) / 65536
  if l < 128 && laneEnabled d l && laneOwner d l == fn then windowWrite d (off + p.2) [p.1] false else d

/-- The bytes of a write by the owner of its lane, one after the other. -/
theorem foldl_barByte {fn off l : Nat} (bs : Bytes) (n : Nat) (hl : l < 128) (hen : laneEnabled d l = true) (ho : laneOwner d l = fn)
    (hlo : l * 65536 ≤ off) (hhi : off + (n + bs.length) ≤ (l + 1) * 65536) :
    let e := (bs.zipIdx n).foldl (barByte fn off) d
    WindowStep d e ∧ e.intake.window = memWriteN 0 d.intake.window (off + n) bs ∧
      ∀ k, off + n ≤ 128 * k + 0x7C → 128 * k + 0x7C < off + n + bs.length → k ∈ e.intake.written := by
  induction bs generalizing n d with
  | nil => exact ⟨.refl d, rfl, fun k h1 h2 => by simp at h2; omega⟩
  | cons b bs ih =>
    rw [List.length_cons] at hhi
    have hlane : (off + n) / 65536 = l := by omega
    have hbyte : barByte fn off d (b, n) = windowWrite d (off + n) [b] false := by
      unfold barByte
      simp [hlane, hl, hen, ho]
    obtain ⟨hstep, hwin, hmark⟩ := windowWrite_byte (a := off + n) b false (hlane ▸ hen)
    generalize windowWrite d (off + n) [b] false = x at hbyte hstep hwin hmark
    have henx : laneEnabled x l = true := by unfold laneEnabled Machine.img at *; rwa [hstep.img]
    have hox : laneOwner x l = fn := by unfold laneOwner Machine.img at *; rwa [hstep.img]
    obtain ⟨hrest, hwin', hmark'⟩ := ih (d := x) (n + 1) henx hox (by omega)
    rw [List.zipIdx_cons, List.foldl_cons, hbyte]
    refine ⟨hstep.trans hrest, by rw [hwin', hwin]; rfl, fun k h1 h2 => ?_⟩
    rw [List.length_cons] at h2
    by_cases hk : off + n = 128 * k + 0x7C
    · have : (off + n) / 128 = k := by omega
      exact hrest.written (this ▸ hmark (by omega))
    · exact hmark' k (by omega) (by omega)

end

theorem execIntakeWindowWrite_writes {s : State} {fn off : Nat} {bs : Bytes} (hl0 : s.dev.host.l0 = true)
    (hmem : fn ∈ s.dev.host.memSpace) :
    exec (.intakeWindowWrite fn off bs) s = .next (s.setDev (bs.zipIdx.foldl (barByte fn off) s.dev)) := by
  refine congrArg (fun d => Host.Outcome.next (s.setDev d)) (if_neg ?_)
  simp [execIntakeWindowWrite.fnMem, hl0, hmem]

/-- Settles O24: a visit does what it finds at its lane's slot (`RecordStands`), and changes the lane's mirror alone besides; a BAR2
write puts its bytes into the window one by one. -/
theorem intakeEngineAndWindowComplete : Obligations.IntakeEngineAndWindowComplete := by
  unfold Obligations.IntakeEngineAndWindowComplete
  refine ⟨fun s l => ?_, fun s fn off bs l hl0 hmem hl hen ho hlo hhi => ?_⟩
  · intro x slot bs diff t here
    refine ⟨fun hh hscan hrun hw hd hheld hk => ?_, fun hh hscan hrun hw hd => ?_, fun hh hx => ?_, fun hh => ?_,
      fun fn v hl ho hen => ?_⟩
    · have hm := mirrored_mirrorOnly s.dev l
      have hlane : laneAt (recordTaken s.dev l) l = { x with expected := x.expected + 1, sinceMirror := x.sinceMirror + 1 } :=
        laneAt_setLane_same (scanned s.dev l) l _
      refine ⟨_, execIntakeLaneVisit_takes ⟨hh, hscan, hrun, hw⟩ hd hheld hk, hm.scan, hm.taken, ?_, ?_, ?_, hm.reqs, hm.sas⟩
      · rw [hm.written]
        exact fun h => by simpa [laneSlot, slot, x] using (List.mem_filter.mp h).2
      · rw [hm.expected, hlane]
      · rw [hm.stalled, hlane]
        exact hrun
    · have hrep := detectFor_reports (setLane (scanned s.dev l) l { x with stalled := true }) (laneOwner s.dev l) 0x03 l 0x101 0 0
      refine ⟨_, execIntakeLaneVisit_ahead ⟨hh, hscan, hrun, hw⟩ hd, ?_, ?_, by rw [hrep.intake]; rfl, by rw [hrep.intake]; rfl⟩
      · rw [hrep.laneAt, laneAt_setLane_same]
      · rw [hrep.laneAt, laneAt_setLane_same]
    · exact ⟨_, execIntakeLaneVisit_stalled hh hx, rfl⟩
    · exact ⟨_, execIntakeLaneVisit_elsewhere hh, rfl⟩
    · exact ⟨_, execReqLaneResync_sets hl ho hen, by rw [laneAt_setLane_same], by rw [laneAt_setLane_same],
        fun k hk => laneAt_setLane_other _ _ _ _ hk, rfl, rfl⟩
  · obtain ⟨hstep, hwin, hmark⟩ := foldl_barByte (d := s.dev) bs 0 hl hen ho hlo (by omega)
    refine ⟨_, execIntakeWindowWrite_writes hl0 hmem, fun i hi => ?_, fun a ha => ?_, fun k h1 h2 => hmark k h1 h2, hstep.lanes,
      hstep.taken, hstep.reqs, hstep.sas⟩
    · rw [hwin, Nat.add_zero, memRead_writeN, if_pos (Nat.le_add_right off i), Nat.add_sub_cancel_left]
      rw [List.getD_eq_getElem _ _ hi, List.getD_eq_getElem _ _ hi]
    · rw [hwin]
      exact memRead_writeN_outside ha

end Sys2Proof.Machine
end

section
/-! # A new fault ring that breaks while it is set up (R137, R169, R170)

A RING_SETUP ends with a completion, and with a completion every BROKEN ring that has not been told of is reported. The reports go into
the lowest fault ring of the physical function, which can be the ring just defined: 64 of them fill its 64 slots, its head cannot be
read while the host link is down, and the ring breaks, though the bring-up log held nothing. -/

namespace Sys2Proof.Machine

open Sys2Proof

/-- A RING_SETUP with NOTIFY: ring 15, a fault ring of 64 slots, with its completion in ring 1. -/
def faultRingSetup : Taken where
  lane := 0
  seq := 0
  arrival := 0
  bytes := [2, 2, 1, 0] ++ zeroBytes 28 ++ [0x0F, 0x30, 0, 0, 6, 0, 0, 0] ++ zeroBytes 88
  remote := false

/-- A ring of the physical function, with 64 slots. -/
def plainRing (num kind : Nat) : Ring :=
  { num := num, kind := kind, owner := 64, remote := false, log2 := 6, base := 0, headAddr := 0, conn := 0 }

/-- That record waits on lane 0 of the physical function, which has completion ring 1; 64 rings are BROKEN and not told of; the host
link is down. -/
def untoldRings : State where
  dev := {
    img := [(0x51000, 1 + 64 * 2)]
    rings := plainRing 1 1 :: List.replicate 64 { plainRing 2 2 with broken := true }
    intake := { taken := [faultRingSetup] } }

theorem recCheck_faultRingSetup : let d := untoldRings.dev
    recCheck d faultRingSetup true (ringForeign d (laneOwner d 0) (faultRingSetup.f 0x20 11 0) ||
      (faultRingSetup.f 0x20 14 14 == 1 && connForeign d (laneOwner d 0) (faultRingSetup.f 0x38 19 0))) none true true false = none := by
  decide +kernel

/-- Whether a ring is BROKEN after a command. -/
def brokenAfter (c : Instr) (s : State) (n : Nat) : Option Bool := match exec c s with
  | .next e => (findRing e.dev n).map (·.broken)
  | _ => none

theorem brokenAfter_ringSetup : brokenAfter (.ringSetup 0 0) untoldRings 15 = some true := by
  decide +kernel

/-- Refutes O25: in `untoldRings` the bring-up log is empty, and the ring that a RING_SETUP defines is BROKEN after it. -/
theorem not_laneRingAndHeadCommandsComplete : ¬ Obligations.LaneRingAndHeadCommandsComplete := by
  unfold Obligations.LaneRingAndHeadCommandsComplete
  rintro ⟨h, -⟩
  have htaken : findTaken untoldRings.dev 0 0 = some faultRingSetup := by decide +kernel
  obtain ⟨-, hsetup, -⟩ := h untoldRings 0 0 faultRingSetup htaken
  have hremote : faultRingSetup.f 0x20 14 14 ≠ 1 := by decide +kernel
  obtain ⟨d, hd, ⟨r, hr, -, -, -, -, -, -, -, hwhole⟩, -⟩ := hsetup (by decide +kernel) (by decide +kernel) recCheck_faultRingSetup
    (by decide +kernel) (fun hc => absurd hc hremote)
  have hbroken : (findRing d (faultRingSetup.f 0x20 11 0)).map (·.broken) = some true := by
    have hafter := brokenAfter_ringSetup
    unfold brokenAfter at hafter
    rw [hd] at hafter
    exact hafter
  rw [hr, Option.map_some, hwhole rfl] at hbroken
  cases hbroken

end Sys2Proof.Machine
end

section
/-! # The request table: entries found, stored, ended and freed (R141 to R159, R173 to R177)

What each operation does to the entry at its slot, said once; the commands of a request's life use these lemmas. -/

namespace Sys2Proof.Machine

open Sys2Proof

/-- Some entry stands at a slot of the request table. -/
def SlotHeld (d : Dev) (n : Nat) : Prop := ∃ x ∈ d.reqs.live, x.slot = n

section
variable {d e : Dev} {r x : Req} {i : U64} {n : Nat} {P Q : Req → Prop}

/-! ## Finding and storing -/

theorem findPrompt_mem (h : findPrompt d i = some r) : r ∈ d.reqs.live := List.mem_of_find?_eq_some h

theorem findPrompt_gen (h : findPrompt d i = some r) : r.gen = false := by
  have := List.find?_some h
  simp at this
  exact this.1

theorem findPrompt_id (h : findPrompt d i = some r) : r.core.requestId = i := by
  have := List.find?_some h
  simp at this
  exact this.2

theorem findPrompt_held (h : findPrompt d i = some r) : SlotHeld d r.slot := ⟨r, findPrompt_mem h, rfl⟩

theorem findGen_held (h : findGen d i = some r) : SlotHeld d r.slot := ⟨r, findGen_mem h, rfl⟩

theorem findPrompt_congr (h : e.reqs = d.reqs) (i : U64) : findPrompt e i = findPrompt d i := by unfold findPrompt; rw [h]

theorem findGen_congr (h : e.reqs = d.reqs) (i : U64) : findGen e i = findGen d i := by unfold findGen; rw [h]

theorem SlotHeld.of_reqs (h : e.reqs = d.reqs) (hd : SlotHeld d n) : SlotHeld e n := by unfold SlotHeld; rwa [h]

theorem entryAt.imp (h : entryAt d n P) (hpq : ∀ x, P x → Q x) : entryAt d n Q := by
  obtain ⟨x, hx, hn, hp⟩ := h
  exact ⟨x, hx, hn, hpq x hp⟩

theorem entryAt.held (h : entryAt d n P) : SlotHeld d n := by
  obtain ⟨x, hx, hn, -⟩ := h
  exact ⟨x, hx, hn⟩

theorem setReq_held (h : SlotHeld d n) (hr : r.slot = n) : SlotHeld (setReq d r) n :=
  (entryAt_setReq (P := fun _ => True) h hr trivial).held

/-- An element that a test picks first is still picked first, in its new form, when the element it replaces stands no later. -/
theorem find?_replaceFirst_of_find? {α : Type} {p q : α → Bool} {v x : α} {l : List α} (hx : l.find? q = some x) (hp : p x = true)
    (hv : q v = true) : (replaceFirst p v l).find? q = some v := by
  induction l with
  | nil => cases hx
  | cons a l ih =>
    unfold replaceFirst
    split
    · simp [hv]
    next ha =>
    by_cases hq : q a = true
    · obtain rfl : a = x := by simpa [hq] using hx
      exact absurd hp ha
    · simp only [List.find?_cons, hq] at hx ⊢
      exact ih hx

/-- An element that a test does not pick is not picked after it was put in. -/
theorem find?_replaceFirst_none {α : Type} {p q : α → Bool} {v : α} {l : List α} (h : l.find? q = none) (hv : q v = false) :
    (replaceFirst p v l).find? q = none := by
  induction l with
  | nil => rfl
  | cons a l ih =>
    simp only [List.find?_eq_none, List.mem_cons, forall_eq_or_imp] at h
    unfold replaceFirst
    split
    · simpa [hv] using h.2
    · simp only [List.find?_cons, h.1]
      exact ih (by simpa using h.2)

/-- The prompt-side entry that was stored again is the one that is found. -/
theorem findPrompt_setReq (h : findPrompt d i = some r) (hs : x.slot = r.slot) (hg : x.gen = false) (hi : x.core.requestId = i) :
    findPrompt (setReq d x) i = some x := by
  unfold findPrompt
  rw [setReq_reqs]
  exact find?_replaceFirst_of_find? h (by simp [hs]) (by simp [hg, hi])

/-- Storing a prompt-side entry makes none of the generation side. -/
theorem findGen_setReq_none (h : findGen d i = none) (hg : x.gen = false) : findGen (setReq d x) i = none := by
  unfold findGen
  rw [setReq_reqs]
  exact find?_replaceFirst_none h (by simp [hg])

theorem setReq_reaches {f : Nat} (h : reaches d f) : reaches (setReq d r) f :=
  (mirrorPush_sameSkeins _ _).reaches (d := { d with reqs := { d.reqs with live := _ } }) h

/-! ## Messages -/

section
variable {f : Nat} {m : Svc} {c : Cls} {dl po : Option Nat} {u : SqFor}

/-- A fleet number that can be reached has a service connection, or is the device's own. -/
theorem sendSvcFor_sent (h : reaches d f) : (sendSvcFor d f m c dl po u).1 = true := by
  unfold sendSvcFor
  split
  · rfl
  next ho =>
    obtain ho' | ⟨k, hs, -⟩ := h
    · exact absurd ho' ho
    · rw [hs]

theorem goes_sendSvcFor (h : reaches d f) : goes (sendSvcFor d f m c dl po u).2 m := by
  unfold sendSvcFor
  split
  · exact emitWA_goes _ m
  next ho =>
    obtain ho' | ⟨k, hs, hk⟩ := h
    · exact absurd ho' ho
    · rw [hs]
      have hr : k.state = .ready := by
        have := List.find?_some hs
        simp at this
        exact this.1.2
      exact .inr (.inr (postEntry_queued hk hr))

/-- What follows a message that can be sent. -/
theorem sendSvc_sent (h : reaches d f) : sendSvc d f m = (true, (sendSvc d f m).2) := Prod.ext (sendSvcFor_sent h) rfl

theorem sendSvc_reqs (d : Dev) (f : Nat) (m : Svc) : (sendSvc d f m).2.reqs = d.reqs := (sendSvc_sameSkeins d f m).reqs

/-- A message without pages leaves the SAS. -/
theorem sendSvc_sas (hm : m.parts = []) : (sendSvc d f m).2.sas = d.sas := by
  rcases sendSvc_reports d f m with h | h
  · exact h.sas
  · rw [handOwn_of_no_parts d _ hm] at h
    exact h.sas

end

/-! ## Ending -/

/-- Writing the end record changes the entry by that record alone. -/
theorem writeEnd_keeps (d : Dev) (r : Req) (st c a : Nat) :
    Reports d (writeEnd d r st c a).2 ∧ ∃ b f, (writeEnd d r st c a).1 = { r with endRec := b, endFlush := f } := by
  unfold writeEnd
  extract_lets bs
  split
  · exact ⟨.refl d, _, r.endFlush, rfl⟩
  · refine ⟨sendEnd_reports d r bs, ?_⟩
    unfold sendEnd
    split
    · split
      · exact ⟨_, _, rfl⟩
      · exact ⟨_, r.endFlush, rfl⟩
    · exact ⟨_, r.endFlush, rfl⟩

/-- An entry that `endReq` stores in place of `r`. -/
structure EndOf (r x : Req) : Prop where
  slot : x.slot = r.slot
  core : x.core = r.core
  state : x.state = .ending

/-- Ending a request reports, and stores its entry in ENDING. -/
theorem endReq_stores (d : Dev) (r : Req) (st c a : Nat) :
    ∃ e x, endReq d r st c a = (x, setReq e x) ∧ Reports d e ∧ EndOf r x := by
  obtain ⟨hrep, b, f, hr⟩ := writeEnd_keeps d r st c a
  unfold endReq
  split
  next r1 d1 h1 =>
  rw [h1] at hrep hr
  have hset : Reports d1 (settleSteps d1 r1).2 := .foldl _ (fun d _ => complete_reports d _ _ _ _ _) _ _
  subst hr
  exact ⟨_, _, rfl, hrep.trans hset, rfl, rfl, rfl⟩

theorem endReq_ending (h : SlotHeld d r.slot) (st c a : Nat) :
    entryAt (endReq d r st c a).2 r.slot (fun x => x.state = .ending) := by
  obtain ⟨e, x, he, hrep, hx⟩ := endReq_stores d r st c a
  rw [he]
  exact entryAt_setReq (h.of_reqs hrep.reqs) hx.slot hx.state

theorem endAbort_ending (h : SlotHeld d r.slot) (st c a : Nat) :
    entryAt (endAbort d r st c a) r.slot (fun x => x.state = .ending) := by
  have hend := endReq_ending h st c a
  obtain ⟨e, x, he, -, hx⟩ := endReq_stores d r st c a
  unfold endAbort
  rw [he] at hend ⊢
  dsimp only
  split
  · exact entryAt_setReq hend.held hx.slot hx.state
  · exact entryAt_of_reqs (sendSvc_reqs _ _ _) hend

theorem promptEnd_ending (h : SlotHeld d r.slot) (st c a : Nat) :
    entryAt (promptEnd d r st c a) r.slot (fun x => x.state = .ending) :=
  endAbort_ending (r := { r with viewBase := none }) (h.of_reqs (freeSpans_frees d r.core.owner r.viewBase).reqs) st c a

theorem promptEndFault_ending (h : SlotHeld d r.slot) (fc st a : Nat) :
    entryAt (promptEndFault d r fc st a) r.slot (fun x => x.state = .ending) :=
  promptEnd_ending (h.of_reqs (faultOp_reports _ _ _ _ _ _).reqs) _ _ _

/-! ## Freeing -/

/-- Freeing an entry takes the entries at its slot out, and leaves the forwarding notes. -/
theorem freeReqNow_reqs (d : Dev) (r : Req) : (freeReqNow d r).reqs.live = d.reqs.live.filter (fun x => x.slot != r.slot) ∧
    (freeReqNow d r).reqs.note = d.reqs.note := by
  unfold freeReqNow
  extract_lets d1 d2 q d3 w d4 d5
  have h1 : d1.reqs = d.reqs := ((freeSpans_frees d _ _).trans (freeSpans_frees _ _ _)).reqs
  have h2 : d2.reqs = d1.reqs := by
    unfold d2
    split
    · rfl
    · exact (unmapFrames_frees _ _ _).reqs
  have h3 : d3.reqs.live = d.reqs.live.filter (fun x => x.slot != r.slot) ∧ d3.reqs.note = d.reqs.note :=
    ⟨congrArg (fun q => q.live.filter (fun x => x.slot != r.slot)) (h2.trans h1),
      (congrArg Requests.note (h2.trans h1) : d2.reqs.note = d.reqs.note)⟩
  have h4 : d4.reqs = d3.reqs := by unfold d4; split <;> rfl
  have h5 : d5.reqs = d3.reqs := (mirrorPush_reports _ _).reqs.trans h4
  rw [← h5] at h3
  split
  · rw [ctrInc_reqs]
    exact h3
  · exact h3

theorem freeReqNow_slot (d : Dev) (r : Req) : ∀ x ∈ (freeReqNow d r).reqs.live, x.slot ≠ r.slot := by
  intro x hx
  rw [(freeReqNow_reqs d r).1] at hx
  simpa using (List.mem_filter.mp hx).2

/-- An ENDING entry is freed, or waits for its end record alone (R792). -/
theorem freeReq_freed (h : SlotHeld d r.slot) (hr : r.state = .ending) : entryFreed (freeReq d r) r.slot := by
  unfold freeReq
  split
  · exact .inr (entryAt_setReq h rfl ⟨hr, rfl⟩)
  · exact .inl (freeReqNow_slot d r)

theorem endFree_freed (h : SlotHeld d r.slot) (st : Nat) : entryFreed (endFree d r st) r.slot := by
  have hend := endReq_ending h st 0x05 0
  obtain ⟨e, x, he, -, hx⟩ := endReq_stores d r st 0x05 0
  unfold endFree
  rw [he] at hend ⊢
  rw [← hx.slot] at hend ⊢
  exact freeReq_freed (r := { x with acked := true }) hend.held hx.state

/-! ## The generation side -/

/-- Shipping goes on: the entry that is stored keeps its state (R53). -/
theorem shipNext_state (h : SlotHeld d r.slot) : entryAt (shipNext d r) r.slot (fun x => x.state = r.state) := by
  have hset {e : Dev} {x : Req} (he : e.reqs = d.reqs) (hs : x.slot = r.slot) (hst : x.state = r.state) :
      entryAt (setReq e x) r.slot (fun x => x.state = r.state) := entryAt_setReq (h.of_reqs he) hs hst
  have hrel {e : Dev} {x : Req} (he : e.reqs = d.reqs) (hs : x.slot = r.slot) (hst : x.state = r.state) :
      entryAt (sendRelease e x) r.slot (fun x => x.state = r.state) :=
    entryAt_of_reqs (sendSvc_reqs _ _ _) (hset he (x := { x with releaseDue := false, since := now e }) hs hst)
  have hfault : (appendFault d r).reqs = d.reqs := (faultOp_reports _ _ _ _ _ _).reqs
  unfold shipNext
  split
  · exact hset rfl rfl rfl
  · split
    · extract_lets p d2
      have hsend := sendSvc_reqs d r.core.home (.place r.core.requestId r.core.skeinId true (appendParts d r p))
      split
      next ok d1 hd1 =>
      rw [hd1] at hsend
      split
      · refine hset ?_ rfl rfl
        split
        · split
          · exact hsend
          · exact (postEntry_reports _ _ _).reqs.trans hsend
        · exact hsend
      · split
        · exact hrel hfault rfl rfl
        · exact hset hfault rfl rfl
    · split
      · exact hrel rfl rfl rfl
      · exact hset rfl rfl rfl

theorem genEnd_ending (h : SlotHeld d r.slot) (st c a : Nat) :
    entryAt (genEnd d r st c a) r.slot (fun x => x.state = .ending) := by
  have hend := endReq_ending (r := { r with appendFailed := r.appendFailed && r.appendOut.isSome }) h st c a
  obtain ⟨e, x, he, -, hx⟩ := endReq_stores d { r with appendFailed := r.appendFailed && r.appendOut.isSome } st c a
  unfold genEnd
  rw [he] at hend ⊢
  dsimp only
  split
  · exact entryAt_of_reqs (sendSvc_reqs _ _ _) hend
  · have hslot : x.slot = r.slot := hx.slot
    have hheld : SlotHeld (setReq e x) x.slot := hslot.symm ▸ hend.held
    rw [← hslot]
    exact (shipNext_state (r := { x with releaseDue := true }) hheld).imp (fun y hy => hy.trans hx.state)

end

end Sys2Proof.Machine
end

section
/-! # CANCEL (R151, R155 to R158) -/

namespace Sys2Proof.Machine

open Sys2Proof

section
variable {s : State} {d : Dev} {l : Nat} {q : U32} {t : Taken} {r : Req}

/-- A command of a taken record of its kind acts on that record. -/
theorem onTaken_kind {k : Nat} (f : Dev → Taken → Dev) (ht : findTaken s.dev l q = some t) (hk : t.kind = k) :
    onTaken l q (fun t => t.kind == k) f s = .next (s.setDev (f s.dev t)) := by
  simp only [onTaken, onDev, ht, hk, beq_self_eq_true, if_true]

theorem dropTaken_held {n : Nat} (h : SlotHeld d n) : SlotHeld (dropTaken d t) n := h

theorem lookupReq_of_prompt {i : U64} (h : lookupReq d i = .prompt r) : findPrompt d i = some r := by
  unfold lookupReq at h
  split at h
  · cases h
  · split at h
    next hr => cases h; exact hr
    · extract_lets s at h
      split_ifs at h

theorem lookupReq_of_gen {i : U64} (h : lookupReq d i = .gen r) : findGen d i = some r := by
  unfold lookupReq at h
  split at h
  next hr => cases h; exact hr
  · split at h
    · cases h
    · extract_lets s at h
      split_ifs at h

/-- Removing the first element that a test picks adds none. -/
theorem dropFirst_subset {α : Type} (p : α → Bool) (l : List α) : dropFirst p l ⊆ l := by
  induction l with
  | nil => exact List.Subset.refl _
  | cons x xs ih =>
    unfold dropFirst
    split
    · exact List.subset_cons_self _ _
    · exact List.cons_subset_cons _ ih

/-- A CANCEL record that passes its checks, and before which no STEP of its request waits. -/
structure CancelOk (s : State) (l : Nat) (q : U32) (t : Taken) : Prop where
  taken : findTaken s.dev l q = some t
  kind : t.kind = 0x12
  check : recCheck s.dev t (hasPrompt s.dev || hasGeneration s.dev) (reqForeign s.dev t (lookupReq s.dev t.request)) none
    false true false = none
  first : earlierTaken s.dev t [0x13] = false

/-- From OPENING and PREFILL a request ends at once. -/
theorem execCancel_ends (h : CancelOk s l q t) (hf : lookupReq s.dev t.request = .prompt r)
    (hr : r.state = .opening ∨ r.state = .prefill) :
    exec (.cancel l q) s = .next (s.setDev (promptEnd (dropTaken s.dev t) r St.cancelled 0x04 1)) := by
  obtain ⟨ht, hk, hc, he⟩ := h
  rw [hf] at hc
  show execCancel l q s = _
  rw [execCancel, onTaken_kind _ ht hk]
  rcases hr with hr | hr <;> simp only [hf, hc, he, hr, Bool.false_eq_true, if_false]

/-- In HANDING it is remembered. -/
theorem execCancel_remembers (h : CancelOk s l q t) (hf : lookupReq s.dev t.request = .prompt r) (hr : r.state = .handing) :
    exec (.cancel l q) s = .next (s.setDev (setReq (dropTaken s.dev t) { r with cancelPending := true })) := by
  obtain ⟨ht, hk, hc, he⟩ := h
  rw [hf] at hc
  show execCancel l q s = _
  rw [execCancel, onTaken_kind _ ht hk]
  simp only [hf, hc, he, hr, Bool.false_eq_true, if_false]

/-- A request that has been handed over is cancelled at its generation device (R157): its entry, or the note of its entry, names it. -/
def HandedTo (d : Dev) (i : U64) (g : Nat) : Prop :=
  (∃ r, lookupReq d i = .prompt r ∧ r.state = .shipping ∧ g = r.core.genDevice) ∨ ∃ o, lookupReq d i = .note g o

/-- There the CANCEL is forwarded. -/
theorem execCancel_forwards {g : Nat} (h : CancelOk s l q t) (hg : HandedTo s.dev t.request g) (hr : reaches s.dev g)
    (hp : ¬(s.dev.pair.state = .lost ∧ g = partnerFleet s.dev)) :
    exec (.cancel l q) s = .next (s.setDev (sendSvcFor (dropTaken s.dev t) g (.cancel t.request) .b t.deadline t.deadline
      (.service (.cancel t.request))).2) := by
  obtain ⟨ht, hk, hc, he⟩ := h
  have hsent := sendSvcFor_sent (d := dropTaken s.dev t) (m := .cancel t.request) (c := .b) (dl := t.deadline) (po := t.deadline)
    (u := .service (.cancel t.request)) hr
  have hpair : (s.dev.pair.state == .lost && g == partnerFleet s.dev) = false := by simpa using hp
  show execCancel l q s = _
  rw [execCancel, onTaken_kind _ ht hk]
  rcases hg with ⟨r, hf, hst, rfl⟩ | ⟨o, hf⟩
  · rw [hf] at hc
    simp only [hf, hc, he, hst, hpair, hsent, Bool.false_eq_true, if_false, if_true]
  · rw [hf] at hc
    simp only [hf, hc, he, hpair, hsent, Bool.false_eq_true, if_false, if_true]

/-- On the generation side it reaches the entry. -/
theorem execCancel_reaches (h : CancelOk s l q t) (hf : lookupReq s.dev t.request = .gen r)
    (hr : r.state = .waiting ∨ r.state = .decoding) :
    exec (.cancel l q) s = .next (s.setDev (genCancel (dropTaken s.dev t) r)) := by
  obtain ⟨ht, hk, hc, he⟩ := h
  rw [hf] at hc
  show execCancel l q s = _
  rw [execCancel, onTaken_kind _ ht hk]
  rcases hr with hr | hr <;> simp only [hf, hc, he, hr, Bool.false_eq_true, if_false]

/-- A WAITING request ends, and a DECODING one that no STEP waits for, neither to be carried out nor to be committed (R155, R156). -/
theorem genCancel_ends (h : SlotHeld d r.slot) (hr : r.state = .waiting ∨
    (r.state = .decoding ∧ r.await = [] ∧ ∀ x ∈ d.intake.taken, x.kind = 0x13 → x.request ≠ r.core.requestId)) :
    entryAt (genCancel d r) r.slot (fun x => x.state = .ending) := by
  unfold genCancel
  split
  next => exact genEnd_ending h _ _ _
  next hd =>
    extract_lets x
    have hwaits : x.await = [] ∧ ∀ y ∈ d.intake.taken, y.kind = 0x13 → y.request ≠ x.core.requestId := by
      rcases hr with hw | ⟨-, hnone⟩
      · rw [hd] at hw; cases hw
      · exact hnone
    have hnone : stepArrived d x = false := by
      unfold stepArrived
      rw [List.any_eq_false]
      intro y hy
      by_cases hk : y.kind = 0x13
      · simp [hk, hwaits.2 y hy hk]
      · simp [hk]
    rw [if_pos (by simp [hwaits.1, hnone])]
    exact genEnd_ending (r := x) h _ _ _
  next ha => simp [ha] at hr
  next hw hd _ => exact (hr.elim hw (fun h => hd h.1)).elim

theorem execSvcCancel_reaches {i : U64} (h : findGen s.dev i = some r) :
    exec (.svcCancel (reqOrigin i) i) s = .next (s.setDev (genCancel s.dev r)) := by
  show execSvcCancel (reqOrigin i) i s = _
  simp only [execSvcCancel, onDev, h, beq_self_eq_true, Bool.true_or, if_true]

end

/-- Settles O36: where a CANCEL ends a request, its entry is stored in ENDING (`promptEnd_ending`, `genEnd_ending`); a forwarded one is a
message alone. -/
theorem cancelCompletes : Obligations.CancelCompletes := by
  unfold Obligations.CancelCompletes
  intro s l q t ht hk hc he
  have hok : CancelOk s l q t := ⟨ht, hk, hc, he⟩
  refine ⟨fun r hf hr => ?_, fun r hf hr => ?_, fun g hg hreach hp => ?_, fun r hf hr => ?_, fun r i hr hw => ?_⟩
  · have hheld := findPrompt_held (lookupReq_of_prompt hf)
    exact ⟨_, execCancel_ends hok hf hr, promptEnd_ending (dropTaken_held hheld) _ _ _⟩
  · have hheld := findPrompt_held (lookupReq_of_prompt hf)
    exact ⟨_, execCancel_remembers hok hf hr, entryAt_setReq (dropTaken_held hheld) rfl ⟨hr, rfl⟩, setReq_sas _ _⟩
  · have hrep := (sendSvcFor_of_reaches (d := dropTaken s.dev t) (m := .cancel t.request) (c := .b) (dl := t.deadline)
      (po := t.deadline) (u := .service (.cancel t.request)) hreach rfl).2
    exact ⟨_, execCancel_forwards hok hg hreach hp, goes_sendSvcFor hreach, hrep.reqs, hrep.sas⟩
  · have hheld := findGen_held (lookupReq_of_gen hf)
    refine ⟨_, execCancel_reaches hok hf (hr.imp_right And.left), genCancel_ends (dropTaken_held hheld) (hr.imp_right ?_)⟩
    rintro ⟨hst, ha, hs⟩
    exact ⟨hst, ha, fun x hx => hs x (dropFirst_subset _ _ hx)⟩
  · exact ⟨_, execSvcCancel_reaches hr, genCancel_ends (findGen_held hr) (.inl hw)⟩

end Sys2Proof.Machine
end

section
/-! # Handoff and window at the generation device (R46 to R50, R147, R276, R796, R799) -/

namespace Sys2Proof.Machine

open Sys2Proof

/-! ## Entries added -/

section
variable {d : Dev} {r : Req}

theorem addReq_reqs (d : Dev) (r : Req) : (addReq d r).reqs = { d.reqs with live := d.reqs.live ++ [r] } := (mirrorPush_reports _ _).reqs

theorem addReq_sas (d : Dev) (r : Req) : (addReq d r).sas = d.sas := (mirrorPush_reports _ _).sas

theorem addReq_reaches {f : Nat} (h : reaches d f) : reaches (addReq d r) f :=
  (mirrorPush_sameSkeins _ _).reaches (d := { d with reqs := { d.reqs with live := _ } }) h

theorem mem_addReq (d : Dev) (r : Req) : r ∈ (addReq d r).reqs.live := by
  rw [addReq_reqs]
  exact List.mem_append_right _ List.mem_cons_self

end

/-! ## Pages put into the window -/

/-- A step that leaves the spans of WORK, too. -/
structure SameSpans (d e : Dev) : Prop extends HomeStep d e where
  spans : e.sas.spans = d.sas.spans

section
variable {a b c d e : Dev}

theorem SameSpans.trans (h : SameSpans a b) (k : SameSpans b c) : SameSpans a c :=
  { h.toHomeStep.trans k.toHomeStep with spans := k.spans.trans h.spans }

theorem SameSpans.refl (d : Dev) : SameSpans d d := { HomeStep.refl d with spans := rfl }

theorem mapStack_spans {f : Nat} (h : mapStack d f = some e) : e.sas.spans = d.sas.spans := by
  have hdrop (x : Dev) : (dropUnitSlot x f).sas = x.sas := by
    unfold dropUnitSlot
    split
    · rfl
    · split <;> rfl
  unfold mapStack at h
  split at h
  · cases h
  · cases h
    refine (congrArg Sas.spans (hdrop _)).trans ?_
    split
    · rfl
    · rw [ctrInc_sas]

theorem mapFrame_spans {f : Nat} (h : mapFrame d f = some e) : e.sas.spans = d.sas.spans := by
  unfold mapFrame at h
  split at h
  · exact mapStack_spans h
  · split at h
    · cases h; rfl
    · split at h
      · cases h
      · obtain ⟨x, hx, rfl⟩ := Option.map_eq_some_iff.mp h
        rw [ctrInc_sas]
        exact (mapStack_spans hx : x.sas.spans = d.sas.spans)

theorem mapAll_spans {fs : List Nat} (h : mapAll d fs = some e) : e.sas.spans = d.sas.spans := by
  induction fs generalizing d with
  | nil => cases h; rfl
  | cons f fs ih =>
    unfold mapAll at h
    split at h
    · cases h
    next x hx => exact (ih h).trans (mapFrame_spans hx)

/-- A write of WORK that finds its frames. -/
theorem workWrite_sameSkeins {o n : Nat} {bs : Bytes} (h : workWrite d o n bs = some e) : SameSkeins d e := by
  unfold workWrite at h
  split at h
  · cases h
  next x hx =>
    cases h
    exact (mapAll_sameSkeins hx).trans ((unpoison_sameSkeins _ _ _).trans ((tables_sameSkeins _).trans (sasMirror_sameSkeins _ _ _ _)))

theorem workWrite_spans {o n : Nat} {bs : Bytes} (h : workWrite d o n bs = some e) : e.sas.spans = d.sas.spans := by
  unfold workWrite at h
  split at h
  · cases h
  next x hx =>
    cases h
    rw [(sasMirror_reports _ _ _ _).sas, ← mapAll_spans hx]
    exact (congrArg Sas.spans (unpoison_sas x n bs.length) : (unpoison x n bs.length).sas.spans = x.sas.spans)

theorem setPoison_sameSpans (d : Dev) (n : Nat) (on : Bool) : SameSpans d (setPoison d n on) := by
  unfold setPoison
  split
  · exact .refl d
  · exact { HomeStep.refl d with spans := rfl }

theorem windowPage_sameSpans {r : Req} {p : PagePart} (h : windowPage d r p = some e) : SameSpans d e := by
  unfold windowPage at h
  extract_lets n x d1 d2 d3 at h
  obtain ⟨y, hy, rfl⟩ := Option.map_eq_some_iff.mp h
  have hrep : Reports d d2 := (countExpanded_reports d _).trans ((ctrAdd_reports _ _ _).trans (ctrAdd_reports _ _ _))
  have h2 : SameSpans d d2 := { ((countExpanded_sameSkeins _ _).trans (shuttleBytes_sameSkeins _ _ _)).toHomeStep with
    spans := by rw [hrep.sas] }
  have h3 : SameSpans d2 d3 := by
    unfold d3
    split
    · refine { (decodeError_sameSkeins _ _ _ _ _).toHomeStep with spans := ?_ }
      unfold decodeError
      rw [ctrInc_sas, (faultOp_reports _ _ _ _ _ _).sas]
    · exact .refl _
  have hy' : SameSpans d3 y := { (workWrite_sameSkeins hy).toHomeStep with spans := workWrite_spans hy }
  refine (h2.trans (h3.trans hy')).trans ?_
  split
  · exact List.foldlRecOn (motive := fun z => SameSpans y z) _ _ (.refl y) (fun z hz i _ => hz.trans (setPoison_sameSpans _ _ _))
  · exact .refl y

theorem windowPages_sameSpans {r : Req} {ps : List PagePart} (h : windowPages r ps d = some e) : SameSpans d e := by
  induction ps generalizing d with
  | nil => cases h; exact .refl _
  | cons p ps ih =>
    unfold windowPages at h
    split at h
    · cases h
    next x hx => exact (windowPage_sameSpans hx).trans (ih h)

/-- A WINDOW that was taken is answered without another change of requests or SAS. -/
theorem windowAnswer_answerStep {frm : Nat} {i : U64} {ps : List PagePart} (ht : ∀ t ∈ d.weft.trackers, t.op ≠ 0x05) :
    AnswerStep d (windowAnswer d frm i ps St.ok) := by
  unfold windowAnswer
  rw [flushesEnded_of_none ht]
  refine .ite ?_ (svcAnswer_answerStep _ _ _ _)
  rw [if_pos (beq_self_eq_true _)]
  exact .refl d

end

/-! ## Barriers -/

section
variable (d : Dev)

/-- Counting at a sender's slot changes the fault unit alone. -/
theorem peerCount_flt (f : Nat) (g : PeerSlot → PeerSlot) : ∃ x, peerCount d f g = { d with flt := x } := by
  have h : ∃ x, (peerSlot d f).2 = { d with flt := x } := by
    unfold peerSlot
    extract_lets _ e
    have he : ∃ x, e = { d with flt := x } := by unfold e; split <;> exact ⟨_, rfl⟩
    obtain ⟨x, hx⟩ := he
    split
    · exact ⟨x, hx⟩
    · split
      · exact ⟨x, hx⟩
      · split
        · exact ⟨x, hx⟩
        · rw [hx]; exact ⟨_, rfl⟩
  obtain ⟨x, hx⟩ := h
  have hcount : peerCount d f g = { (peerSlot d f).2 with flt := { (peerSlot d f).2.flt with
    peers := (peerSlot d f).2.flt.peers.modify (peerSlot d f).1 g } } := rfl
  rw [hcount, hx]
  exact ⟨_, rfl⟩

theorem peerCount_sas (f : Nat) (g : PeerSlot → PeerSlot) : (peerCount d f g).sas = d.sas := by
  obtain ⟨x, hx⟩ := peerCount_flt d f g
  rw [hx]

theorem barrierDone_sas (fs : List Nat) (w : Bool) : (barrierDone d fs w).sas = d.sas := by
  unfold barrierDone
  refine List.foldlRecOn (motive := fun e : Dev => e.sas = d.sas) _ _ ?_ (fun e he f _ => (peerCount_sas e f _).trans he)
  split
  · exact peerCount_sas _ _ _
  · rfl

variable {d} in
/-- An entry whose window may be complete is stored, as it is or in DECODING (R49). -/
theorem genReady_stores {r : Req} {n : Nat} {P : Req → Prop} (h : SlotHeld d n) (hn : r.slot = n) (hp : P r)
    (hq : P { r with state := .decoding, since := now d }) :
    entryAt (genReady d r) n P ∧ (genReady d r).sas = d.sas := by
  unfold genReady
  split
  · exact ⟨entryAt_of_reqs (barrierDone_reqs _ _ _) (entryAt_setReq h hn hq), (barrierDone_sas _ _ _).trans (setReq_sas _ _)⟩
  · exact ⟨entryAt_setReq h hn hp, setReq_sas _ _⟩

end

/-! ## The commands -/

section
variable {s : State} {frm : Nat} {i : U64} {r : Req} {e : Dev}

/-- The device with the window's spans of a handoff taken, and no identifier kept for its slot (R143, R276). -/
def handoffRoom (d : Dev) (m : HandoffMsg) (slot span : Nat) : Dev := { d with
  sas := { d.sas with spans := (span, windowSpans m.shape m.core.windowPages) :: d.sas.spans }
  reqs := { d.reqs with keptId := tdel d.reqs.keptId slot } }

/-- A HANDOFF that passes the checks: its entry is added, its spans are taken, and it is answered (R147, R796). -/
theorem execHandoff_accepts {m : HandoffMsg} {slot span : Nat} (hno : handoffRefusal s.dev m = none) (hslot : slot < 16384)
    (hfree : slotFree s.dev slot = true) (hspan : spansFree s.dev span (windowSpans m.shape m.core.windowPages) = true)
    (hr : reaches s.dev frm) :
    exec (.handoff frm m slot span) s = .next (s.setDev (sendSvc (addReq (handoffRoom s.dev m slot span)
      (handoffEntry s.dev m slot span)) frm (.handoffReply m.core.requestId St.ok)).2) := by
  have hroom : reaches (handoffRoom s.dev m slot span) frm := hr
  have hsent := sendSvcFor_sent (m := .handoffReply m.core.requestId St.ok) (c := .b) (dl := none) (po := none)
    (u := .service (.handoffReply m.core.requestId St.ok)) (addReq_reaches (r := handoffEntry s.dev m slot span) hroom)
  refine congrArg (fun d => Host.Outcome.next (s.setDev d)) ?_
  simp only [hno]
  refine (if_neg ?_).trans (if_pos hsent)
  simp [hfree, hspan, hslot]

/-- A WINDOW for a request that waits for its window: the pages are put in, and the last one is remembered (R48, R49). -/
theorem execWindow_takes {ps qs : List PagePart} {last : Bool} {x : Dev} (h : findGen s.dev i = some r) (hr : r.state ≠ .ending)
    (hroom : sasRefusing s.dev = false) (hship : shipped s.dev frm 0x0C i ps = (qs, x))
    (hw : windowPages r (unpackParts (shapeBpp r.shape) qs) x = some e) :
    exec (.window frm i ps last) s = .next (s.setDev (windowAnswer
      (if last then setReq e { r with lastFrom := r.lastFrom ++ [frm] } else e) frm i qs St.ok)) := by
  obtain ⟨hs, rfl⟩ := shipped_handed hship
  have hfind : findGen { s.dev with sas := { s.dev.sas with handed := hs } } i = some r := h
  have hroom' : sasRefusing { s.dev with sas := { s.dev.sas with handed := hs } } = false := hroom
  have hstate : (r.state == .ending) = false := by simpa using hr
  show execWindow frm i ps last s = _
  simp only [execWindow, onDev, hship, hfind, hstate, hroom', hw, Bool.false_eq_true, if_false]

theorem execSealed_takes {split : Nat} (h : findGen s.dev i = some r) (hr : r.state = .accepting ∨ r.state = .waiting)
    (hnew : r.sealedSeen = false) :
    exec (.sealed r.core.home i r.core.skeinId split) s = .next (s.setDev (genReady s.dev
      { r with sealedSeen := true, split := split, windowOrder := r.windowOrder ++ [r.core.home] })) := by
  have hwait : (r.state == .accepting || r.state == .waiting) = true := by simpa using hr
  show execSealed r.core.home i r.core.skeinId split s = _
  simp only [execSealed, onDev, h, bne_self_eq_false, hnew, hwait, Bool.or_self, Bool.false_eq_true, if_false, if_true]

theorem execReqAbort_waiting {k : U64} {c : Nat} (h : findGen s.dev i = some r) (hr : r.state = .waiting) (hc : c = 0x141 ∨ c = 0x142) :
    exec (.reqAbort frm i k c) s = .next (s.setDev (genFault s.dev r c St.skeinAborted)) := by
  have hcause : (c != 0x141 && c != 0x142) = false := by rcases hc with rfl | rfl <;> rfl
  show execReqAbort frm i k c s = _
  simp only [execReqAbort, onDev, h, hcause, hr, Bool.false_eq_true, if_false]

theorem execReqAbort_accepting {k : U64} {c : Nat} (h : findGen s.dev i = some r) (hr : r.state = .accepting)
    (hc : c = 0x141 ∨ c = 0x142) :
    exec (.reqAbort frm i k c) s = .next (s.setDev (setReq s.dev { r with abortCause := some (r.abortCause.getD c) })) := by
  have hcause : (c != 0x141 && c != 0x142) = false := by rcases hc with rfl | rfl <;> rfl
  show execReqAbort frm i k c s = _
  simp only [execReqAbort, onDev, h, hcause, hr, Bool.false_eq_true, if_false]

end

/-- Settles O37: a HANDOFF adds its entry and is answered last; a WINDOW's pages change neither entries nor spans (`SameSpans`); SEALED
and an abort store the entry. -/
theorem handoffAndWindowComplete : Obligations.HandoffAndWindowComplete := by
  unfold Obligations.HandoffAndWindowComplete
  refine ⟨fun s frm m slot span hno hslot hfree hspan hr => ?_, fun s i r h hr => ⟨?_, ?_, ?_⟩⟩
  · have hroom : reaches (handoffRoom s.dev m slot span) frm := hr
    refine ⟨_, execHandoff_accepts hno hslot hfree hspan hr, ?_, rfl, rfl, ?_, goes_sendSvc (addReq_reaches hroom)⟩
    · rw [sendSvc_reqs]
      exact mem_addReq _ _
    · rw [sendSvc_sas rfl, addReq_sas]
      rfl
  · intro frm ps last e hroom ht hw
    have hstate : r.state ≠ .ending := by rcases hr with hr | hr <;> simp [hr]
    obtain ⟨⟨qs, x⟩, hship⟩ : ∃ y, shipped s.dev frm 0x0C i ps = y := ⟨_, rfl⟩
    rw [hship] at hw
    obtain ⟨hs, hx⟩ := shipped_handed hship
    have hput : SameSpans s.dev e := by
      have h0 : SameSpans s.dev x := by
        rw [hx]
        exact { sas_homeStep s.dev _ with spans := rfl }
      exact h0.trans (windowPages_sameSpans hw)
    generalize hy : (if last then setReq e { r with lastFrom := r.lastFrom ++ [frm] } else e) = y
    have hsas : y.sas = e.sas := by
      rw [← hy]
      split
      · exact setReq_sas _ _
      · rfl
    have htr : y.weft.trackers = s.dev.weft.trackers := by
      rw [← hy, ← hput.trackers]
      split
      · exact (mirrorPush_reports _ _).trackers
      · rfl
    have hans := windowAnswer_answerStep (d := y) (frm := frm) (i := i) (ps := qs) (htr ▸ ht)
    refine ⟨_, hy ▸ execWindow_takes h hstate hroom hship hw, ?_, ?_, fun hlast => ?_⟩
    · rw [hans.sas, hsas]
    · rw [hans.sas, hsas, hput.spans]
    · refine entryAt_of_reqs hans.reqs ?_
      rw [← hy, if_pos hlast]
      exact entryAt_setReq ((findGen_held h).of_reqs hput.reqs) rfl rfl
  · intro split hnew
    obtain ⟨hat, hsas⟩ := genReady_stores (r := { r with
        sealedSeen := true, split := split, windowOrder := r.windowOrder ++ [r.core.home] })
      (P := fun x => x.sealedSeen ∧ x.split = split ∧ x.lastFrom = r.lastFrom) (findGen_held h) rfl ⟨rfl, rfl, rfl⟩ ⟨rfl, rfl, rfl⟩
    exact ⟨_, execSealed_takes h hr hnew, hat, by rw [hsas], by rw [hsas]⟩
  · intro frm k c hc
    rcases hr with hr | hr
    · refine ⟨_, execReqAbort_accepting h hr hc, entryAt_setReq (findGen_held h) rfl ?_⟩
      rw [if_neg (by simp [hr])]
    · refine ⟨_, execReqAbort_waiting h hr hc, ?_⟩
      simp only [hr, if_true]
      exact genEnd_ending ((findGen_held h).of_reqs (faultOp_reports _ _ _ _ _ _).reqs) _ _ _

end Sys2Proof.Machine
end

section
/-! # OPEN and OPENING (R30, R34 to R40, R141 to R151, R208, R209, R275) -/

namespace Sys2Proof.Machine

open Sys2Proof

/-! ## OPEN -/

/-- The device that has taken an OPEN, but for its entry: the record is taken out, the slot's incarnation moves on, nothing is kept of
the slot's last request, and its first whole block waits for a hash engine (R143, R209). -/
def openRoom (d : Dev) (t : Taken) (slot inc : Nat) : Dev :=
  let r := openEntry d t slot inc
  { dropTaken d t with reqs := { d.reqs with
    inc := tset d.reqs.inc slot inc
    keptId := tdel d.reqs.keptId slot
    note := tdel d.reqs.note slot
    hashQ := if 64 ≤ r.tokenCount then d.reqs.hashQ ++ [r.core.requestId] else d.reqs.hashQ } }

section
variable {s : State} {l slot : Nat} {q : U32} {t : Taken}

/-- An OPEN that passes its checks: its entry is added, and the home is asked for a skein (R30, R141). -/
theorem execOpenReq_opens (ht : findTaken s.dev l q = some t) (hk : t.kind = 0x10)
    (hc : recCheck s.dev t (hasPrompt s.dev) (ringForeign s.dev (laneOwner s.dev l) (t.f 0x52 11 0)) none false true true = none)
    (hno : openRefusal s.dev t = none) (hex : reqSlotExists s.dev = true) (hslot : slot < 16384) (hfree : slotFree s.dev slot = true)
    (hret : slot ∉ s.dev.reqs.retired) (hr : reaches s.dev (t.f 0x30 23 0)) :
    let inc := tgetD s.dev.reqs.inc slot 0 + 1
    let r := openEntry s.dev t slot inc
    exec (.openReq l q slot) s = .next (s.setDev (sendSvc (addReq (openRoom s.dev t slot inc) r) r.core.home r.openMsg).2) := by
  intro inc r
  have hroom : reaches (openRoom s.dev t slot inc) r.core.home := hr
  have hsent := sendSvcFor_sent (m := r.openMsg) (c := .b) (dl := none) (po := none) (u := .service r.openMsg)
    (addReq_reaches (r := r) hroom)
  show execOpenReq l q slot s = _
  rw [execOpenReq, onTaken_kind _ ht hk]
  refine congrArg (fun d => Host.Outcome.next (s.setDev d)) ?_
  simp only [hc, hno]
  refine (if_neg ?_).trans ((if_neg ?_).trans (if_pos hsent))
  · simp [hex]
  · simp [hfree, hret, hslot]

end

/-! ## Skein-open reply, hashing and lookup -/

section
variable {d : Dev} {r : Req} {i : U64}

/-- Sending the chain, or waiting with it, stores the entry; only that the chain was sent is new in it (R36). -/
theorem trySendLookup_stores {n : Nat} {P : Req → Prop} (h : SlotHeld d n) (hn : r.slot = n)
    (hr : r.chain.length ≠ r.tokenCount / 64 ∨ reaches d r.core.home) (hp : P r) (hq : P { r with lookupSent := true }) :
    entryAt (trySendLookup d r) n P ∧ (trySendLookup d r).sas = d.sas := by
  unfold trySendLookup
  split
  next hc =>
    have hreach : reaches d r.core.home := hr.resolve_left (by simp at hc; simp [hc.2])
    rw [sendSvc_sent (setReq_reaches hreach)]
    exact ⟨entryAt_of_reqs (sendSvc_reqs _ _ _) (entryAt_setReq h hn hq), (sendSvc_sas rfl).trans (setReq_sas _ _)⟩
  · exact ⟨entryAt_setReq h hn hp, setReq_sas _ _⟩

theorem mem_hashEngines (h : i ∈ hashEngines d) (hf : findPrompt d i = some r) : r.hashing = true := by
  have := (List.mem_filter.mp (List.mem_of_mem_take h)).2
  rwa [hf] at this

theorem memReadN_length (b : Byte) (m : Mem) (a n : Nat) : (memReadN b m a n).length = n := by
  induction n generalizing a with
  | zero => rfl
  | succ n ih => exact congrArg (· + 1) (ih (a + 1))

/-- The device with the answer to a lookup in its entry: PREFILL, and the lookup's completion (R40, R151). -/
def prefillBegun (d : Dev) (r : Req) (pages : Nat) : Dev :=
  complete (setReq d { r with state := .prefill, prefixPages := pages }) r.ref St.ok 0 r.core.skeinId.toNat (64 * pages)

theorem prefillBegun_stores (h : SlotHeld d r.slot) (pages : Nat) :
    entryAt (prefillBegun d r pages) r.slot (· = { r with state := .prefill, prefixPages := pages }) ∧
      (prefillBegun d r pages).sas = d.sas := by
  have hrep := complete_reports (setReq d { r with state := .prefill, prefixPages := pages }) r.ref St.ok 0 r.core.skeinId.toNat (64 * pages)
  exact ⟨entryAt_of_reqs hrep.reqs (entryAt_setReq h rfl rfl), hrep.sas.trans (setReq_sas _ _)⟩

end

section
variable {s : State} {i : U64} {r : Req} {e : Dev}

theorem execSkeinOpenReply_opens {frm : Nat} {k : U64} (h : findPrompt s.dev i = some r) (hr : r.state = .opening)
    (hk : r.core.skeinId = 0) :
    exec (.skeinOpenReply frm i St.ok k) s =
      .next (s.setDev (trySendLookup s.dev { r with core := { r.core with skeinId := k } })) := by
  show execSkeinOpenReply frm i St.ok k s = _
  simp [execSkeinOpenReply, onDev, h, hk, hr]

theorem execSkeinOpenTimeout_ends (h : findPrompt s.dev i = some r) (hr : r.state = .opening) (hk : r.core.skeinId = 0)
    (hdue : r.core.opened + skeinOpenNs s.dev ≤ now s.dev) :
    exec (.skeinOpenTimeout i) s = .next (s.setDev
      (endFree (faultOp s.dev r.faultRef 0x140 St.homeUnreachable 0 0) r St.homeUnreachable)) := by
  show execSkeinOpenTimeout i s = _
  simp [execSkeinOpenTimeout, onDev, h, hk, hr, Nat.not_lt.mpr hdue]

/-- The tokens of a chain's next block are read: from this SAS, or they have come from host memory. -/
def BlockRead (d : Dev) (r : Req) (data : HostData) (found : List LineErr) (bs : Bytes) (e : Dev) : Prop :=
  let a := r.tokenBuf + 256 * r.chain.length
  if r.tokenSas then readRanges found [(a, 256)] d = (false, e) ∧ bs = workRead e a 256
    else e = d ∧ fnUp d r.core.owner ∧ data = some bs ∧ bs.length = 256

theorem BlockRead.homeStep {d : Dev} {data : HostData} {found : List LineErr} {bs : Bytes} (h : BlockRead d r data found bs e) :
    HomeStep d e := by
  unfold BlockRead at h
  extract_lets a at h
  split at h
  · have hread := readRanges_homeStep d found [(a, 256)]
    rwa [h.1] at hread
  · exact h.1 ▸ .refl d

/-- A block that is hashed joins its request's chain (R36, R208). -/
theorem execHashBlockDone_chains {data : HostData} {found : List LineErr} {bs : Bytes} (h : findPrompt s.dev i = some r)
    (hi : i ∈ hashEngines s.dev) (hd : BlockRead s.dev r data found bs e) :
    exec (.hashBlockDone i (data, found)) s = .next (s.setDev (trySendLookup (hashAgain e i)
      { r with chain := r.chain ++ [blockHash (r.chain.getLast?.getD 0) r.model bs] })) := by
  have hrun : r.hashing = true := mem_hashEngines hi h
  show execHashBlockDone i (data, found) s = _
  unfold BlockRead at hd
  extract_lets a at hd
  by_cases hsas : r.tokenSas = true
  · rw [if_pos hsas] at hd
    obtain ⟨hread, rfl⟩ := hd
    have hlen : (workRead e a 256).length = 256 := memReadN_length _ _ _ _
    simp [execHashBlockDone, onDev, h, hrun, hi, hsas, a, hread, hlen]
  · rw [if_neg hsas] at hd
    obtain ⟨rfl, hup, rfl, hlen⟩ := hd
    simp [execHashBlockDone, onDev, h, hrun, hi, hsas, hostGot, hup, hlen]

theorem execLookupReply_empty {span : Nat} (h : findPrompt s.dev i = some r) (hr : r.state = .opening) (hsent : r.lookupSent = true) :
    exec (.lookupReply r.core.home i St.ok 0 span) s = .next (s.setDev (prefillBegun s.dev r 0)) := by
  show execLookupReply r.core.home i St.ok 0 span s = _
  simp [execLookupReply, onDev, h, hr, hsent, prefillBegun]

/-- An answer with pages: the view of the shared pages takes its spans, and the pages are fetched (R39, R275). -/
theorem execLookupReply_pages {pages span : Nat} (h : findPrompt s.dev i = some r) (hr : r.state = .opening)
    (hsent : r.lookupSent = true) (hp : pages ≠ 0) (hroom : sasRefusing s.dev = false)
    (hex : spansExist s.dev (viewSpans r.shape pages) = true) (hspan : spansFree s.dev span (viewSpans r.shape pages) = true) :
    exec (.lookupReply r.core.home i St.ok pages span) s = .next (s.setDev (sendSvc (prefillBegun
      { s.dev with sas := { s.dev.sas with spans := (span, viewSpans r.shape pages) :: s.dev.sas.spans } }
      { r with viewBase := some span } pages) r.core.home (.prefixFetch i r.core.skeinId)).2) := by
  show execLookupReply r.core.home i St.ok pages span s = _
  simp only [execLookupReply, onDev, h, hr, hsent, bne_self_eq_false, Bool.not_true, Bool.or_self, Bool.false_eq_true, if_false,
    beq_iff_eq, hp, hroom, hex, hspan]
  rfl

end

/-- Settles O33: an OPEN adds its entry and asks the home last; in OPENING each event stores the entry with what it brought, and without a
reply the entry is ended and freed. -/
theorem openAndOpeningComplete : Obligations.OpenAndOpeningComplete := by
  unfold Obligations.OpenAndOpeningComplete
  refine ⟨?_, fun s i r h hr => ⟨?_, ?_, ?_, ?_⟩⟩
  · intro s l q slot t ht hk hc hno hex hslot hfree hret hreach inc
    have hroom : reaches (openRoom s.dev t slot inc) (t.f 0x30 23 0) := hreach
    refine ⟨_, execOpenReq_opens ht hk hc hno hex hslot hfree hret hreach, ?_, rfl, rfl, ?_, goes_sendSvc (addReq_reaches hroom), ?_, ?_⟩
    · rw [sendSvc_reqs]
      exact mem_addReq _ _
    · rw [sendSvc_reqs, addReq_reqs]
      exact tget_tset_same _ _ _
    · intro x hx
      rw [sendSvc_reqs, addReq_reqs]
      exact List.mem_append_left _ hx
    · rw [sendSvc_sas rfl, addReq_sas]
      rfl
  · intro frm k hk hreach
    exact ⟨_, execSkeinOpenReply_opens h hr hk,
      trySendLookup_stores (P := fun x => x.state = .opening ∧ x.core.skeinId = k ∧ x.chain = r.chain) (findPrompt_held h) rfl hreach
        ⟨hr, rfl, rfl⟩ ⟨hr, rfl, rfl⟩⟩
  · intro hk hdue
    exact ⟨_, execSkeinOpenTimeout_ends h hr hk hdue, endFree_freed ((findPrompt_held h).of_reqs (faultOp_reports _ _ _ _ _ _).reqs) _⟩
  · intro bs data found e hi hreach a hd
    have hread : BlockRead s.dev r data found bs e := hd
    have hstep := hread.homeStep
    have hagain : reaches (hashAgain e i) r.core.home := hstep.reaches hreach
    exact ⟨_, execHashBlockDone_chains h hi hread,
      trySendLookup_stores (d := hashAgain e i)
        (P := fun x => x.state = .opening ∧ x.chain = r.chain ++ [blockHash (r.chain.getLast?.getD 0) r.model bs])
        ((findPrompt_held h).of_reqs hstep.reqs : SlotHeld e r.slot) rfl (.inr hagain) ⟨hr, rfl⟩ ⟨hr, rfl⟩⟩
  · intro pages span hsent hp
    by_cases h0 : pages = 0
    · subst h0
      obtain ⟨hat, -⟩ := prefillBegun_stores (findPrompt_held h) 0
      refine ⟨_, execLookupReply_empty h hr hsent, hat.imp ?_, fun hne => absurd rfl hne⟩
      rintro _ rfl
      exact ⟨rfl, rfl, fun hne => absurd rfl hne⟩
    · obtain ⟨hroom, hex, hspan⟩ := hp.resolve_left h0
      have hheld : SlotHeld { s.dev with sas := { s.dev.sas with spans := (span, viewSpans r.shape pages) :: s.dev.sas.spans } } r.slot :=
        findPrompt_held h
      obtain ⟨hat, hsas⟩ := prefillBegun_stores (r := { r with viewBase := some span }) hheld pages
      refine ⟨_, execLookupReply_pages h hr hsent h0 hroom hex hspan, entryAt_of_reqs (sendSvc_reqs _ _ _) (hat.imp ?_), fun _ => ?_⟩
      · rintro _ rfl
        exact ⟨rfl, rfl, fun _ => rfl⟩
      · rw [sendSvc_sas rfl, hsas]
        exact List.mem_cons_self

end Sys2Proof.Machine
end

section
/-! # Landing pages and PREFILL_DONE (R41 to R43, R46, R272, R791) -/

namespace Sys2Proof.Machine

open Sys2Proof

/-! ## Landing pages -/

section
variable {d : Dev} {r : Req}

/-- A write of WORK, where it finds its frames. -/
theorem workWrite_getD_homeStep (d : Dev) (o a : Nat) (bs : Bytes) : HomeStep d ((workWrite d o a bs).getD d) := by
  cases hw : workWrite d o a bs with
  | none => exact .refl d
  | some x => exact (workWrite_sameSkeins hw).toHomeStep

/-- A page whose lines can be read is counted in its entry, and goes to the home with its tokens (R41, R272). -/
theorem takePage_places {l p : Nat} {found : List LineErr} (tokens : Nat) (h : SlotHeld d r.slot)
    (hread : (readRanges found [(Req.landAddr d r l p, pageBytes r.shape)] d).1 = false) (hr : reaches d r.core.home) :
    entryAt (takePage d r l p tokens found) r.slot (fun x => x.state = r.state ∧
      tgetD x.takenPages l 0 = tgetD r.takenPages l 0 + 1) ∧
    ∃ part : PagePart, part.layer = l ∧ part.page = p ∧ part.tokens = tokens ∧
      goes (takePage d r l p tokens found) (.place r.core.requestId r.core.skeinId false [part]) := by
  have hstep := readRanges_homeStep d found [(Req.landAddr d r l p, pageBytes r.shape)]
  unfold takePage
  extract_lets a
  split
  next bad e he =>
  rw [he] at hread hstep
  rw [if_neg (by simpa using hread)]
  extract_lets raw masks bs part d1 d2 r1 r2
  have h1 : HomeStep e d1 :=
    ((countCoded_sameSkeins _ _).trans ((jobDone_sameSkeins _ _ _ _).trans (unmapFrames_sameSkeins _ _ _))).toHomeStep
  have h2 : HomeStep d1 d2 := workWrite_getD_homeStep _ _ _ _
  have hd2 : HomeStep d d2 := hstep.trans (h1.trans h2)
  have hreach : reaches (setReq d2 r2) r2.core.home := setReq_reaches (hd2.reaches hr)
  rw [sendSvc_sent hreach]
  refine ⟨entryAt_of_reqs (sendSvc_reqs _ _ _) (entryAt_setReq (h.of_reqs hd2.reqs) rfl ⟨rfl, ?_⟩), part, rfl, rfl, rfl, goes_sendSvc hreach⟩
  exact congrArg (·.getD 0) (tget_tset_same r.takenPages l (tgetD r.takenPages l 0 + 1))

end

/-! ## PREFILL_DONE -/

/-- Ownership is offered to the generation device: the entry is in HANDING without its view of the shared pages, its shipments' flush is
posted, and the handoff is sent (R43, R46, R275). -/
def handoffBegun (d : Dev) (r : Req) (i : U64) : Dev :=
  let x := dropView d { r with state := .handing, since := now d, flushOut := true }
  let e := postFlush (setReq x.2 x.1) r.core.home (.shipFlush i false)
  (sendSvc e r.core.genDevice (.handoff (Req.handoffMsg e x.1))).2

section
variable {d : Dev} {r : Req} {i : U64}

/-- The steps up to the handoff's message keep who can be reached. -/
theorem freeSpans_reaches {f o : Nat} {b : Option Nat} (h : reaches d f) : reaches (freeSpans d o b) f := by
  have hf := freeSpans_frees d o b
  have hp : (pairCore (freeSpans d o b).pair).adopted = (pairCore d.pair).adopted := by rw [hf.pair]
  exact reaches_congr (connKeys_of_weft hf.weft) hf.img hp h

theorem handoffBegun_stores (h : SlotHeld d r.slot) (hr : reaches d r.core.genDevice) :
    entryAt (handoffBegun d r i) r.slot (fun x => x = { r with state := .handing, since := now d, flushOut := true, viewBase := none }) ∧
      ∃ m, goes (handoffBegun d r i) (.handoff m) ∧ m.core.requestId = r.core.requestId := by
  unfold handoffBegun
  extract_lets x e
  have hx : x.2.reqs = d.reqs := (freeSpans_frees _ _ _).reqs
  have he : e.reqs = (setReq x.2 x.1).reqs := (postFlush_sameSkeins _ _ _).reqs
  have hreach : reaches e r.core.genDevice := (postFlush_sameSkeins _ _ _).reaches (setReq_reaches (freeSpans_reaches hr))
  exact ⟨entryAt_of_reqs ((sendSvc_reqs _ _ _).trans he) (entryAt_setReq (h.of_reqs hx) rfl rfl), _, goes_sendSvc hreach, rfl⟩

/-- Where no page stands in the landing area any more, nothing is taken. -/
theorem takeRest_nothing (h : findPrompt d i = some r) (hk : r.tokenCount % 64 = 0) (hready : r.ready = []) (found : List LineErr) :
    takeRest d i found = d := by
  simp [takeRest, h, hk, hready]

theorem finishOp_connKeys (d : Dev) (ref : OpRef) (st a b : Nat) : connKeys (finishOp d ref st a b) = connKeys d := by
  have hput (e : Dev) (n : Nat) (bs : Bytes) (keep : Bool) : connKeys (ringPut e n bs keep) = connKeys e := by
    have hraw := ringPutRaw_connKeys e n bs keep
    unfold ringPut
    split
    next x hx => rw [hx] at hraw; exact (brokenTold_connKeys x).trans hraw
    next x hx =>
      rw [hx] at hraw
      split
      · exact (detect_connKeys _ _ _ _ _ _).trans hraw
      · exact hraw
  unfold finishOp complete putCompletion
  split
  · rfl
  · split
    · exact connKeys_ite (connKeys_ite rfl (hput _ _ _ _)) (ctrInc_connKeys _ _)
    · exact ctrInc_connKeys _ _

theorem finishOp_homeStep (d : Dev) (ref : OpRef) (st a b : Nat) : HomeStep d (finishOp d ref st a b) :=
  ((finishOp_reports _ _ _ _ _).sameSkeins (finishOp_connKeys _ _ _ _ _)).toHomeStep

end

section
variable {s : State} {l : Nat} {q : U32} {t : Taken} {r : Req}

/-- The entry that PREFILL_DONE gives the first token, with no tail (R42). -/
def Req.withFirst (r : Req) (t : Taken) : Req := { r with firstToken := u32 (t.f 0x20 31 0), tail := [] }

/-- The device that has taken a PREFILL_DONE, with the first token in the entry. -/
def firstKept (d : Dev) (t : Taken) (r : Req) : Dev := setReq (finishOp (dropTaken d t) (t.ref d) St.ok 0 0) (r.withFirst t)

/-- A PREFILL_DONE with all pages taken and no tail hands the request over (R42, R43, R46). -/
theorem execPrefillDone_hands {tail : HostData} {found : List LineErr} (ht : findTaken s.dev l q = some t) (hk : t.kind = 0x11)
    (h : findPrompt s.dev t.request = some r) (hr : r.state = .prefill)
    (hc : recCheck s.dev t (hasPrompt s.dev) (r.core.owner != laneOwner s.dev l) none false true false = none)
    (hn : r.tokenCount % 64 = 0) (hready : r.ready = []) (hreach : reaches s.dev r.core.genDevice) :
    exec (.prefillDone l q (tail, found)) s =
      .next (s.setDev (handoffBegun (firstKept s.dev t r) (r.withFirst t) t.request)) := by
  have hfin := finishOp_homeStep (dropTaken s.dev t) (t.ref s.dev) St.ok 0 0
  have hfind : findPrompt (firstKept s.dev t r) t.request = some (r.withFirst t) :=
    findPrompt_setReq ((findPrompt_congr hfin.reqs _).trans h) rfl (findPrompt_gen (r := r) h) (findPrompt_id (r := r) h)
  have hrest : takeRest (firstKept s.dev t r) t.request found = firstKept s.dev t r := takeRest_nothing hfind hn hready found
  have hsent {x : Req} {m : Svc} : (sendSvc (postFlush (setReq (freeSpans (firstKept s.dev t r) r.core.owner r.viewBase) x) r.core.home
      (.shipFlush t.request false)) r.core.genDevice m).1 = true :=
    sendSvcFor_sent ((postFlush_sameSkeins _ _ _).reaches (setReq_reaches (freeSpans_reaches (setReq_reaches (hfin.reaches hreach)))))
  show execPrefillDone l q (tail, found) s = _
  rw [execPrefillDone, onTaken_kind _ ht hk]
  refine congrArg (fun d => Host.Outcome.next (s.setDev d)) ?_
  have hstate : (r.state != .prefill) = false := by simp [hr]
  have htail (bs : Bytes) : (chunks 4 0 bs).map (fun b => u32 (unLe b)) = [] := by cases bs <;> rfl
  simp only [h, hc, hstate, hn, Bool.false_eq_true, if_false, bne_self_eq_false, Bool.and_false, beq_self_eq_true, if_true, htail]
  have hread : (if r.tokenSas = true then some (workRead s.dev (r.tokenBuf + 256 * (r.tokenCount / 64)) (4 * 0)) else some []) =
      some [] := by split <;> rfl
  unfold firstKept Req.withFirst at hfind hrest hsent
  simp only [hread, hrest, hfind, hstate, List.length_nil, Nat.mul_zero, bne_self_eq_false, Bool.false_eq_true, if_false]
  exact if_pos hsent

theorem execLandingPageTaken_takes {i : U64} {n p : Nat} {found : List LineErr} (h : findPrompt s.dev i = some r)
    (hr : r.state = .prefill) (hp : r.ready.head? = some (n, p)) :
    exec (.landingPageTaken i n (p, found)) s = .next (s.setDev (takePage s.dev r n p (r.pageTokens p) found)) := by
  show execLandingPageTaken i n (p, found) s = _
  simp [execLandingPageTaken, onDev, h, hr, hp]

end

/-- Settles O34: taking a page stores the entry and sends the page last; PREFILL_DONE, with nothing left to take, stores the entry in HANDING
and sends the handoff last. -/
theorem prefillCommandsComplete : Obligations.PrefillCommandsComplete := by
  unfold Obligations.PrefillCommandsComplete
  intro s i r h hr hreach
  have hid := findPrompt_id h
  refine ⟨fun l p found hp hread => ?_, fun l q t tail found ht hk hreq hc hn hready hgen => ?_⟩
  · obtain ⟨hat, part, hl, hpage, htok, hgoes⟩ := takePage_places (r.pageTokens p) (findPrompt_held h) hread hreach
    exact ⟨_, execLandingPageTaken_takes h hr hp, hat.imp (fun x hx => ⟨hx.1.trans hr, hx.2⟩), part, hl, hpage, htok, hid ▸ hgoes⟩
  · have hfin := finishOp_homeStep (dropTaken s.dev t) (t.ref s.dev) St.ok 0 0
    have hheld : SlotHeld (firstKept s.dev t r) r.slot :=
      setReq_held (r := r.withFirst t) ((dropTaken_held (findPrompt_held h)).of_reqs hfin.reqs) rfl
    obtain ⟨hat, m, hgoes, hm⟩ := handoffBegun_stores (r := r.withFirst t) (i := t.request) hheld
      (setReq_reaches (hfin.reaches hgen))
    refine ⟨_, execPrefillDone_hands ht hk (hreq ▸ h) hr hc hn hready hgen, hat.imp ?_⟩
    rintro _ rfl
    exact ⟨rfl, rfl, rfl, rfl, rfl, m, hgoes, hm⟩

end Sys2Proof.Machine
end

section
/-! # Messages that are on their way stay so

What is done after a message was sent adds to what leaves the device, to what waits for the partner's acknowledgement and to the send
queues; it takes nothing out. Each operation has one lemma `f_keepsMail`. -/

namespace Sys2Proof.Machine

open Sys2Proof

/-- Whatever was on its way in `d` is on its way in `e`. -/
structure KeepsMail (d e : Dev) : Prop where
  out : d.out ⊆ e.out
  held : d.pair.held ⊆ e.pair.held
  queued : ∀ c ∈ d.weft.conns, ∀ x ∈ c.queue, ∃ c' ∈ e.weft.conns, ∃ y ∈ c'.queue, y.data = x.data

section
variable {a b c d e : Dev}

theorem KeepsMail.goes {m : Svc} (h : KeepsMail d e) : goes d m → goes e m := by
  rintro (hm | ⟨x, hx, hm⟩ | ⟨c, hc, x, hx, hm⟩)
  · exact .inl (h.out hm)
  · exact .inr (.inl ⟨x, h.held hx, hm⟩)
  · obtain ⟨c', hc', y, hy, hd⟩ := h.queued c hc x hx
    exact .inr (.inr ⟨c', hc', y, hy, hd.trans hm⟩)

/-- Outputs, held effects and connections of before. -/
theorem KeepsMail.of_eq (ho : e.out = d.out := by rfl) (hh : e.pair.held = d.pair.held := by rfl)
    (hc : e.weft.conns = d.weft.conns := by rfl) : KeepsMail d e where
  out := by rw [ho]; exact List.Subset.refl _
  held := by rw [hh]; exact List.Subset.refl _
  queued c h x hx := ⟨c, hc ▸ h, x, hx, rfl⟩

theorem KeepsMail.refl (d : Dev) : KeepsMail d d := .of_eq

theorem KeepsMail.trans (h : KeepsMail a b) (k : KeepsMail b c) : KeepsMail a c where
  out := List.Subset.trans h.out k.out
  held := List.Subset.trans h.held k.held
  queued x hx y hy := by
    obtain ⟨x', hx', y', hy', hd⟩ := h.queued x hx y hy
    obtain ⟨x'', hx'', y'', hy'', hd'⟩ := k.queued x' hx' y' hy'
    exact ⟨x'', hx'', y'', hy'', hd'.trans hd⟩

theorem KeepsMail.ite {p : Prop} [Decidable p] (ha : KeepsMail d a) (hb : KeepsMail d b) : KeepsMail d (if p then a else b) := by
  split <;> assumption

theorem KeepsMail.foldl {α : Type} {f : Dev → α → Dev} (h : ∀ d x, KeepsMail d (f d x)) (l : List α) (d : Dev) :
    KeepsMail d (l.foldl f d) := by
  induction l generalizing d with
  | nil => exact .refl d
  | cons x xs ih => exact (h d x).trans (ih _)

end

section
variable (d : Dev)

theorem ctrAdd_keepsMail (a n : Nat) : KeepsMail d (ctrAdd d a n) := .of_eq (by simp) (by simp) (by simp)
theorem ctrInc_keepsMail (a : Nat) : KeepsMail d (ctrInc d a) := ctrAdd_keepsMail d a 1

theorem emit_keepsMail (o : Out) : KeepsMail d (emit d o) where
  out := List.subset_cons_self _ _
  held := List.Subset.refl _
  queued c hc x hx := ⟨c, hc, x, hx, rfl⟩

theorem emitWA_keepsMail (o : Out) : KeepsMail d (emitWA d o) := by
  refine .ite ?_ (emit_keepsMail d o)
  exact { KeepsMail.refl d with held := List.subset_append_left _ _ }

/-- A change of an association is no message. -/
theorem usePn_keepsMail (a : Assoc) : KeepsMail d (usePn d a) := .of_eq

theorem mirrorPush_keepsMail (rs : List MirrorRec) : KeepsMail d (mirrorPush d rs) where
  out := (mirrorPush_reports d rs).out.subset
  held := by rw [mirrorPush_held]; exact List.Subset.refl _
  queued c hc x hx := ⟨c, by rwa [(mirrorPush_frees d rs).weft], x, hx, rfl⟩

theorem hostWrite_keepsMail (o a : Nat) (bs : Bytes) : KeepsMail d (hostWrite d o a bs) :=
  .ite (.foldl (fun d _ => emitWA_keepsMail d _) _ d) ((ctrInc_keepsMail d cHostDropped).trans .of_eq)

theorem hostRead_keepsMail (o a n : Nat) (u : ReadFor) : KeepsMail d (hostRead d o a n u) := by
  refine .trans ?_ (.foldl (fun d _ => emit_keepsMail d _) _ _)
  exact .of_eq

theorem msixRaise_keepsMail (o : Nat) : KeepsMail d (msixRaise d o) := by
  refine .ite (.refl d) (.ite (.trans ?_ (emitWA_keepsMail _ _)) .of_eq)
  exact .of_eq

variable {d} in
/-- A connection that is stored again with all that its queue held. -/
theorem setConn_keepsMail {n : Nat} {c c' : Conn} (hc : findConn d n = some c) (hn : c'.num = c.num) (hq : c.queue ⊆ c'.queue) :
    KeepsMail d (setConn d c') where
  out := List.Subset.refl _
  held := List.Subset.refl _
  queued := by
    have hnum : c.num = n := by simpa using List.find?_some hc
    have hfind : d.weft.conns.find? (fun x => x.num == c'.num) = some c := by rw [hn, hnum]; exact hc
    intro y hy x hx
    simp only [setConn]
    generalize d.weft.conns = cs at hfind hy
    induction cs with
    | nil => cases hy
    | cons z zs ih =>
      unfold replaceFirst
      by_cases hz : (z.num == c'.num) = true
      · obtain rfl : z = c := by simpa [hz] using hfind
        rw [if_pos hz]
        rcases List.mem_cons.mp hy with rfl | hy
        · exact ⟨c', List.mem_cons_self, x, hq hx, rfl⟩
        · exact ⟨y, List.mem_cons_of_mem _ hy, x, hx, rfl⟩
      · rw [if_neg hz]
        rcases List.mem_cons.mp hy with rfl | hy
        · exact ⟨y, List.mem_cons_self, x, hx, rfl⟩
        · obtain ⟨w, hw, h⟩ := ih (by simpa [hz] using hfind) hy
          exact ⟨w, List.mem_cons_of_mem _ hw, h⟩

theorem postEntry_keepsMail (n : Nat) (e : SqEntry) : KeepsMail d (postEntry d n e) := by
  unfold postEntry
  split
  · exact .refl d
  next c hc =>
    extract_lets e'
    exact .ite (.refl d) (setConn_keepsMail hc rfl (List.subset_append_left _ _))

theorem sendSvcFor_keepsMail (f : Nat) (m : Svc) (c : Cls) (dl po : Option Nat) (u : SqFor) :
    KeepsMail d (sendSvcFor d f m c dl po u).2 := by
  unfold sendSvcFor
  split
  · refine .trans ?_ (emitWA_keepsMail _ _)
    exact .of_eq
  · split
    · exact .refl d
    · exact postEntry_keepsMail _ _ _

theorem sendSvc_keepsMail (f : Nat) (m : Svc) : KeepsMail d (sendSvc d f m).2 := sendSvcFor_keepsMail d f m _ _ _ _

theorem postFlush_keepsMail (p : Nat) (u : SqFor) : KeepsMail d (postFlush d p u) := by
  unfold postFlush
  refine .ite (.refl d) ?_
  split
  · exact postEntry_keepsMail _ _ _
  · exact .refl d

/-! ## Records and reports -/

theorem setRing_keepsMail (r : Ring) : KeepsMail d (setRing d r) := .of_eq

theorem ringBreak_keepsMail (r : Ring) : KeepsMail d (ringBreak d r) := (setRing_keepsMail d _).trans (ctrAdd_keepsMail _ _ _)

theorem startHeadRead_keepsMail (n : Nat) : KeepsMail d (startHeadRead d n) := by
  unfold startHeadRead
  split
  · exact .refl d
  · exact .ite (.refl d) (.ite (ringBreak_keepsMail d _) ((setRing_keepsMail d _).trans
      (.ite (postEntry_keepsMail _ _ _) (hostRead_keepsMail _ _ _ _ _))))

theorem faultWritten_keepsMail (r : Ring) (bs : Bytes) : KeepsMail d (faultWritten d r bs) := by
  unfold faultWritten
  extract_lets f flt d1 d2
  have h2 : KeepsMail d d2 := KeepsMail.trans (b := d1) .of_eq (ctrInc_keepsMail _ _)
  exact .ite h2 (h2.trans (msixRaise_keepsMail _ _))

theorem ringWriteSlot_keepsMail (r : Ring) (b : Bytes) : KeepsMail d (ringWriteSlot d r b) := by
  unfold ringWriteSlot
  extract_lets slot bs a d1 full d2 d3 d4
  have h2 : KeepsMail d d2 := (mirrorPush_keepsMail d _).trans (setRing_keepsMail _ _)
  have h3 : KeepsMail d2 d3 := .ite (postEntry_keepsMail _ _ _) (hostWrite_keepsMail _ _ _ _)
  have h4 : KeepsMail d3 d4 := .ite (ctrInc_keepsMail _ _) (.ite (faultWritten_keepsMail _ _ _) (.refl _))
  have h := h2.trans (h3.trans h4)
  exact .ite (h.trans (startHeadRead_keepsMail _ _)) h

theorem ringPutRaw_keepsMail (n : Nat) (b : Bytes) (keep : Bool) : KeepsMail d (ringPutRaw d n b keep).2 := by
  unfold ringPutRaw
  split
  · exact ctrInc_keepsMail _ _
  · split_ifs
    · exact ctrInc_keepsMail _ _
    · exact ringWriteSlot_keepsMail _ _ _
    · exact (setRing_keepsMail d _).trans (startHeadRead_keepsMail _ _)
    · exact (ctrInc_keepsMail d _).trans (setRing_keepsMail _ _)
    · exact ctrInc_keepsMail _ _

theorem faultPut_keepsMail (o : Nat) (f : FaultRec) : KeepsMail d (faultPut d o f) := by
  unfold faultPut
  split
  · exact ringPutRaw_keepsMail _ _ _ _
  · exact .ite .of_eq (ctrInc_keepsMail _ _)

theorem unitPut_keepsMail (e : CoEntry) : KeepsMail d (unitPut d e) := (faultPut_keepsMail d _ _).trans .of_eq

theorem detectPut_keepsMail (o k s c x y : Nat) : KeepsMail d (detectPut d o k s c x y) := by
  unfold detectPut
  extract_lets d1 t known
  have h1 : KeepsMail d d1 := ctrInc_keepsMail _ _
  refine h1.trans (.ite ((ctrInc_keepsMail d1 cCoalesceFull).trans .of_eq) (.ite (.trans ?_ (unitPut_keepsMail _ _)) .of_eq))
  exact .of_eq

theorem tellBroken_keepsMail (n : Nat) : KeepsMail d (tellBroken n d) := by
  induction n generalizing d with
  | zero => exact .refl d
  | succ n ih =>
    unfold tellBroken
    split
    · exact .refl d
    · refine .trans ?_ (ih _)
      exact (setRing_keepsMail d _).trans (.ite (detectPut_keepsMail _ _ _ _ _ _ _)
        ((faultPut_keepsMail _ _ _).trans (ctrInc_keepsMail _ _)))

theorem detect_keepsMail (k s c x y : Nat) : KeepsMail d (detect d k s c x y) :=
  (detectPut_keepsMail d _ _ _ _ _ _).trans (tellBroken_keepsMail _ _)

/-! ## The answer to a message -/

variable {d} in
theorem takePn_keepsMail {sa : Nat} {r : Nat × Dev} (h : takePn d sa = some r) : KeepsMail d r.2 := by
  unfold takePn at h
  split at h
  · cases h
  · split at h
    · cases h
      refine (usePn_keepsMail d _).trans (.ite ?_ (.refl _))
      exact KeepsMail.trans (b := { usePn d _ with weft := _ }) .of_eq (detect_keepsMail _ _ _ _ _ _)
    · cases h

theorem sendPacket_keepsMail (c : Conn) (path vc : Nat) (h : WeftHdr) (pl : Payload) (n : Nat) (key : Place)
    (dep : Option (Nat × U32)) (t : Option Nat) : KeepsMail d (sendPacket d c path vc h pl n key dep t) := by
  unfold sendPacket
  split
  · exact .refl d
  next pn e he =>
    extract_lets h' e2
    have h2 : KeepsMail e e2 := .of_eq
    exact (takePn_keepsMail he).trans (h2.trans (ctrInc_keepsMail _ _))

theorem respond_keepsMail (c : Conn) (op : Nat) (m : U32) (t : Nat) (bs : Bytes) : KeepsMail d (respond d c op m t bs) :=
  .trans (.ite (ctrInc_keepsMail _ _) (.refl d)) (sendPacket_keepsMail _ _ _ _ _ _ _ _ _ _)

theorem dropTracker_keepsMail (t : Tracker) : KeepsMail d (dropTracker d t) := .of_eq

/-- Moving the base on changes neither the number nor the queue of a connection. -/
theorem advanceBase_queue (n : Nat) (c : Conn) : (advanceBase n c).num = c.num ∧ (advanceBase n c).queue = c.queue := by
  induction n generalizing c with
  | zero => exact ⟨rfl, rfl⟩
  | succ n ih =>
    unfold advanceBase
    split
    · exact ih _
    · exact ⟨rfl, rfl⟩

theorem markDone_keepsMail (n : Nat) (m : U32) : KeepsMail d (markDone d n m) := by
  unfold markDone
  split
  · exact .refl d
  next c hc =>
    obtain ⟨hn, hq⟩ := advanceBase_queue 65 { c with rxDone := m :: c.rxDone }
    exact setConn_keepsMail hc hn (by rw [hq]; exact List.Subset.refl _)

theorem wakeFlushes_keepsMail (n f : Nat) : KeepsMail d (wakeFlushes n f d) := by
  induction f generalizing d with
  | zero => exact .refl d
  | succ f ih =>
    unfold wakeFlushes
    split
    · exact .refl d
    next c hc =>
    split
    · exact .refl d
    next t _ =>
    extract_lets failed d1 d2 d3
    have h1 : KeepsMail d d1 := by
      have hc' : findConn (dropTracker d t) n = some c := hc
      exact (dropTracker_keepsMail d t).trans (setConn_keepsMail hc' rfl (List.Subset.refl _))
    have h2 : KeepsMail d1 d2 := markDone_keepsMail _ _ _
    have h3 : KeepsMail d2 d3 := by
      unfold d3
      split
      · exact respond_keepsMail _ _ _ _ _ _
      · exact .refl _
    exact h1.trans (h2.trans (h3.trans (ih _)))

theorem answerMsg_keepsMail (t : Tracker) (st : Nat) (done bad : Bool) : KeepsMail d (answerMsg d t st done bad) := by
  unfold answerMsg
  extract_lets d1 d2
  have h2 : KeepsMail d d2 := (dropTracker_keepsMail d t).trans (.ite (markDone_keepsMail _ _ _) (.refl _))
  split
  · exact h2
  next c hc =>
    extract_lets c' d3 d4
    have hc' : c'.num = c.num ∧ c'.queue = c.queue := by unfold c'; split <;> exact ⟨rfl, rfl⟩
    have h3 : KeepsMail d2 d3 := setConn_keepsMail hc hc'.1 (by rw [hc'.2]; exact List.Subset.refl _)
    exact h2.trans (h3.trans ((respond_keepsMail _ _ _ _ _ _).trans (wakeFlushes_keepsMail _ _ _)))

theorem svcAnswer_keepsMail (frm kind st : Nat) : KeepsMail d (svcAnswer d frm kind st) := by
  unfold svcAnswer
  split
  · exact .refl d
  · exact answerMsg_keepsMail _ _ _ _ _

end

end Sys2Proof.Machine
end

section
/-! # HANDING, SHIPPING and ENDING at the prompt device (R43 to R50, R151, R152) -/

namespace Sys2Proof.Machine

open Sys2Proof

/-! ## The window's shipment -/

/-- The device after a handoff's reply: the entry in SHIPPING with no page kept, the window's pages sent, and their flush posted (R48). -/
def windowShipped (d : Dev) (r : Req) : Dev :=
  let i := r.core.requestId
  let e := setReq d { r with state := .shipping, cancelPending := false, since := now d, kept := [] }
  postFlush (sendSvc e r.core.genDevice (.window i (r.kept.filter (fun p => r.firstWindow ≤ p.page)) true)).2 r.core.genDevice
    (.shipFlush i true)

section
variable {d : Dev} {r : Req}

theorem setReq_isOurs (f : Nat) : isOurs (setReq d r) f = isOurs d f :=
  (mirrorPush_sameSkeins { d with reqs := { d.reqs with live := _ } } _).toHomeStep.isOurs f

/-- A message, with pages or without, leaves the bytes of WORK. -/
theorem sendSvc_work (d : Dev) (f : Nat) (m : Svc) : (sendSvc d f m).2.sas.work = d.sas.work := by
  rcases sendSvc_reports d f m with h | h <;> rw [h.sas]
  rfl

theorem postFlush_sas (d : Dev) (p : Nat) (u : SqFor) : (postFlush d p u).sas = d.sas := by
  unfold postFlush
  split
  · rfl
  · split
    · exact (postEntry_reports _ _ _).sas
    · rfl

theorem handoffTaken_ships (hr : reaches d r.core.genDevice) : handoffTaken d r = windowShipped d r := by
  have hsent {x : Req} {m : Svc} : (sendSvc (setReq d x) r.core.genDevice m).1 = true := sendSvcFor_sent (setReq_reaches hr)
  exact if_pos hsent

/-- The window's shipment leaves its entry in SHIPPING, sends the pages, and leaves skeins and WORK. -/
structure WindowOut (d : Dev) (r : Req) (e : Dev) : Prop where
  entry : entryAt e r.slot (fun x => x.state = .shipping ∧ x.kept = [])
  sent : goes e (.window r.core.requestId (r.kept.filter (fun p => r.firstWindow ≤ p.page)) true)
  skeins : e.sas.skeins = d.sas.skeins
  work : e.sas.work = d.sas.work

theorem windowShipped_out (h : SlotHeld d r.slot) (hr : reaches d r.core.genDevice) : WindowOut d r (windowShipped d r) := by
  unfold windowShipped
  extract_lets i e
  have hsend := sendSvc_sameSkeins e r.core.genDevice (.window i (r.kept.filter (fun p => r.firstWindow ≤ p.page)) true)
  have hflush := postFlush_sameSkeins (sendSvc e r.core.genDevice (.window i (r.kept.filter (fun p => r.firstWindow ≤ p.page)) true)).2
    r.core.genDevice (.shipFlush i true)
  refine ⟨entryAt_of_reqs (hsend.trans hflush).reqs (entryAt_setReq h rfl ⟨rfl, rfl⟩), (postFlush_keepsMail _ _ _).goes
    (goes_sendSvc (setReq_reaches hr)), (hsend.trans hflush).skeins.trans ?_, ?_⟩
  · rw [setReq_sas]
  · rw [postFlush_sas, sendSvc_work, setReq_sas]

theorem WindowOut.trans {e x : Dev} (h : WindowOut d r e) (hm : KeepsMail e x) (hr : x.reqs = e.reqs) (hs : x.sas = e.sas) :
    WindowOut d r x :=
  ⟨entryAt_of_reqs hr h.entry, hm.goes h.sent, by rw [hs, h.skeins], by rw [hs, h.work]⟩

end

/-! ## The commands of HANDING and SHIPPING -/

section
variable {s : State} {i : U64} {r : Req}

/-- An accepting reply of another device: the window is shipped, the reply answered, and a remembered CANCEL forwarded (R152). -/
theorem execHandoffReply_ships {frm : Nat} (h : findPrompt s.dev i = some r) (hr : r.state = .handing)
    (ho : isOurs s.dev frm = false) (hreach : reaches s.dev r.core.genDevice) :
    let e := svcAnswer (windowShipped s.dev r) frm 0x0B St.ok
    exec (.handoffReply frm i St.ok) s = .next (s.setDev
      (if r.cancelPending then (sendSvc e r.core.genDevice (.cancel i)).2 else e)) := by
  intro e
  have hour : isOurs (windowShipped s.dev r) frm = false := by
    unfold windowShipped
    rw [(postFlush_sameSkeins _ _ _).toHomeStep.isOurs, (sendSvc_sameSkeins _ _ _).toHomeStep.isOurs, setReq_isOurs]
    exact ho
  have hnew : (St.ok == St.duplicate) = false := rfl
  show execHandoffReply frm i St.ok s = _
  simp only [execHandoffReply, onDev, h, hr, bne_self_eq_false, hnew, beq_self_eq_true, Bool.false_eq_true, if_false, if_true,
    handoffTaken_ships hreach, hour]
  rfl

theorem execHandoffTimeout_ends (h : findPrompt s.dev i = some r) (hr : r.state = .handing)
    (hdue : r.since + handoffNs s.dev ≤ now s.dev) :
    exec (.handoffTimeout i) s = .next (s.setDev
      (promptEndFault s.dev r 0x112 St.genUnreachable (bit1 r.cancelPending))) := by
  show execHandoffTimeout i s = _
  simp [execHandoffTimeout, onDev, handoffFail, h, hr, hdue]

/-- An entry that is not settled is stored (R151). -/
theorem shippingSettle_waits (d : Dev) {x : Req} (h : x.state ≠ .shipping ∨ (x.sealAcked = false ∧ x.shipFailed = false)) :
    shippingSettle d x = setReq d x := by
  refine if_neg ?_
  rcases h with h | ⟨ha, hf⟩
  · simp [h]
  · simp [ha, hf]

/-- The device after the home's side of a window's shipment ends well, where this device is that home (R48, R50). -/
def homeWindowOver (d : Dev) (i : U64) : Dev :=
  match d.sas.skeins.find? (fun k => k.req == i && k.windowSent && isOurs d k.genDevice) with
  | some k => homeWindowEnd d k true
  | none => d

theorem homeWindowOver_homeStep (d : Dev) (i : U64) : HomeStep d (homeWindowOver d i) := by
  unfold homeWindowOver
  split
  next k _ => exact (homeWindowEnd_shipStep (k := k) ⟨_, _, _, rfl⟩ true).toHomeStep
  · exact .refl d

theorem shipmentDone_window (h : findPrompt s.dev i = some r) (hr : r.state = .shipping) (hw : r.windowDone = false)
    (ha : r.sealAcked = false) (hf : r.shipFailed = false) :
    shipmentDone s.dev i true true = setReq s.dev { r with windowDone := true } := by
  simp only [shipmentDone, h, hr, hw, bne_self_eq_false, Bool.or_self, Bool.false_eq_true, if_false, if_true]
  exact shippingSettle_waits _ (.inr ⟨ha, hf⟩)

/-- The end of the window's flush stores the entry; the home's side of it may end too (R48, R50). -/
theorem execShipmentFlushDone_window (h : findPrompt s.dev i = some r) (hr : r.state = .shipping)
    (hq : flushPosted s.dev (.shipFlush i true) = false) (hw : r.windowDone = false) (ha : r.sealAcked = false)
    (hf : r.shipFailed = false) (hg : findGen s.dev i = none) :
    exec (.shipmentFlushDone i true true) s = .next (s.setDev (homeWindowOver (setReq s.dev { r with windowDone := true }) i)) := by
  have hgen : findGen (homeWindowOver (setReq s.dev { r with windowDone := true }) i) i = none :=
    (findGen_congr (homeWindowOver_homeStep _ _).reqs i).trans (findGen_setReq_none hg (findPrompt_gen (r := r) h))
  have hdone := shipmentDone_window h hr hw ha hf
  show execShipmentFlushDone i true true s = _
  generalize setReq s.dev { r with windowDone := true } = e at hdone hgen
  unfold execShipmentFlushDone onDev
  simp only [hq, hdone, Bool.not_true, Bool.false_eq_true, if_false, if_true]
  change Host.Outcome.next (s.setDev (match findGen (homeWindowOver e i) i with
    | some g => genFlushed (homeWindowOver e i) g (fleet (homeWindowOver e i))
    | none => homeWindowOver e i)) = _
  rw [hgen]

/-- The end of the flush of the skein's shipment sends SEAL (R43, R44). -/
theorem execShipmentFlushDone_seals (h : findPrompt s.dev i = some r) (hr : r.state = .handing ∨ r.state = .shipping)
    (hq : flushPosted s.dev (.shipFlush i false) = false) (ho : r.flushOut = true) (hreach : reaches s.dev r.core.home) :
    exec (.shipmentFlushDone i false true) s = .next (s.setDev
      (sendSvc (setReq s.dev { r with flushOut := false, sealSent := true }) r.core.home (.seal i r.core.skeinId)).2) := by
  have hst : (r.state == .handing || r.state == .shipping) = true := by simpa using hr
  have hsent := sendSvc_sent (m := .seal i r.core.skeinId)
    (setReq_reaches (r := { r with flushOut := false, sealSent := true }) hreach)
  show execShipmentFlushDone i false true s = _
  simp only [execShipmentFlushDone, onDev, hq, shipmentDone, h, ho, hst, Bool.not_true, Bool.not_false, Bool.or_self, Bool.false_eq_true,
    if_false, if_true]
  rw [hsent]
  rfl

/-- The home's answer to SEAL settles the entry, or is kept in it (R45). -/
theorem execStateReply_seal (h : findPrompt s.dev i = some r) (hr : r.state = .shipping ∨ r.state = .handing) (hs : r.sealSent = true)
    (ha : r.sealAcked = false) :
    exec (.stateReply r.core.home i 0x06 St.ok) s = .next (s.setDev (shippingSettle s.dev { r with sealAcked := true })) := by
  have hst : (r.state == .shipping || r.state == .handing) = true := by simpa using hr
  show execStateReply r.core.home i 0x06 St.ok s = _
  simp only [execStateReply, onDev, h, hs, ha, hst, beq_self_eq_true, bne_self_eq_false, Bool.not_true, Bool.or_self, Bool.false_eq_true,
    if_false, if_true]

theorem shippingSettle_frees (d : Dev) {x : Req} (hs : x.state = .shipping) (hw : x.windowDone = true) (ha : x.sealAcked = true) :
    shippingSettle d x =
      freeReqNow { d with reqs := { d.reqs with note := tset d.reqs.note x.slot (x.core.genDevice, x.core.owner) } } x :=
  if_pos (by simp [hs, hw, ha])

/-! ## ENDING -/

theorem execStateReply_ending {frm k st : Nat} (hk : k ≠ 0x06)
    (h : s.dev.reqs.live.find? (fun x => x.state == .ending && x.core.requestId == i && x.core.home == frm) = some r) :
    exec (.stateReply frm i k st) s = .next (s.setDev (freeReq s.dev r)) := by
  show execStateReply frm i k st s = _
  simp only [execStateReply, onDev, beq_iff_eq, hk, if_false, h]

theorem execEndingTimeout_frees
    (h : s.dev.reqs.live.find? (fun x => x.state == .ending && x.core.requestId == i && !x.releaseDue && !x.cancelled) = some r)
    (hdue : r.since + skeinOpenNs s.dev ≤ now s.dev) (ha : r.acked = false) :
    exec (.endingTimeout i) s = .next (s.setDev (freeReq (faultOp s.dev r.faultRef 0x111 0 0 0) r)) := by
  show execEndingTimeout i s = _
  simp [execEndingTimeout, onDev, h, hdue, ha]

end

/-- Settles O35: in HANDING and SHIPPING each event stores the entry, and what it sends stays on its way (`KeepsMail`); a settled entry is
freed with its note, and an ENDING one by `freeReq`. -/
theorem handingAndEndingComplete : Obligations.HandingAndEndingComplete := by
  unfold Obligations.HandingAndEndingComplete
  refine ⟨fun s i r h => ⟨?_, ?_, ?_, ?_, ?_, ?_⟩, fun s i r => ⟨?_, ?_⟩⟩
  · intro frm hr ho hreach
    have hans := svcAnswer_answerStep (windowShipped s.dev r) frm 0x0B St.ok
    have hout := (windowShipped_out (findPrompt_held h) hreach).trans (svcAnswer_keepsMail _ frm 0x0B St.ok) hans.reqs hans.sas
    have hall : WindowOut s.dev r (if r.cancelPending then
        (sendSvc (svcAnswer (windowShipped s.dev r) frm 0x0B St.ok) r.core.genDevice (.cancel i)).2
        else svcAnswer (windowShipped s.dev r) frm 0x0B St.ok) := by
      split
      · exact hout.trans (sendSvc_keepsMail _ _ _) (sendSvc_reqs _ _ _) (sendSvc_sas rfl)
      · exact hout
    exact ⟨_, execHandoffReply_ships h hr ho hreach, hall.entry, findPrompt_id h ▸ hall.sent, hall.skeins, hall.work⟩
  · intro hr hdue
    exact ⟨_, execHandoffTimeout_ends h hr hdue, promptEndFault_ending (findPrompt_held h) _ _ _⟩
  · intro hr hq hw ha hf hg
    exact ⟨_, execShipmentFlushDone_window h hr hq hw ha hf hg,
      entryAt_of_reqs (homeWindowOver_homeStep _ _).reqs (entryAt_setReq (findPrompt_held h) rfl ⟨hr, rfl⟩)⟩
  · intro hr hq ho hreach
    exact ⟨_, execShipmentFlushDone_seals h hr hq ho hreach,
      entryAt_of_reqs (sendSvc_reqs _ _ _) (entryAt_setReq (findPrompt_held h) rfl ⟨rfl, rfl⟩), goes_sendSvc (setReq_reaches hreach)⟩
  · intro hr hs ha
    refine ⟨_, execStateReply_seal h (.inr hr) hs ha, ?_⟩
    rw [shippingSettle_waits _ (.inl (by simp [hr]))]
    exact entryAt_setReq (findPrompt_held h) rfl ⟨rfl, hr⟩
  · intro hr hs ha hw
    refine ⟨_, execStateReply_seal h (.inl hr) hs ha, ?_⟩
    rw [shippingSettle_frees _ (by exact hr) (by exact hw) rfl]
    refine ⟨freeReqNow_slot _ _, ?_⟩
    rw [(freeReqNow_reqs _ _).2]
    exact tget_tset_same _ _ _
  · intro k st hk hfind
    have hst : r.state = .ending := by
      have hp := List.find?_some hfind
      simp only [Bool.and_eq_true, beq_iff_eq] at hp
      obtain ⟨⟨hst, -⟩, -⟩ := hp
      exact hst
    exact ⟨_, execStateReply_ending hk hfind, freeReq_freed ⟨r, List.mem_of_find?_eq_some hfind, rfl⟩ hst⟩
  · intro hfind hdue ha
    have hst : r.state = .ending := by
      have hp := List.find?_some hfind
      simp only [Bool.and_eq_true, beq_iff_eq] at hp
      obtain ⟨⟨⟨hst, -⟩, -⟩, -⟩ := hp
      exact hst
    have hheld : SlotHeld s.dev r.slot := ⟨r, List.mem_of_find?_eq_some hfind, rfl⟩
    exact ⟨_, execEndingTimeout_frees hfind hdue ha, freeReq_freed (hheld.of_reqs (faultOp_reports _ _ _ _ _ _).reqs) hst⟩

end Sys2Proof.Machine
end

section
/-! # Steps and appends at the generation device (R53, R55 to R57, R155, R181, R182) -/

namespace Sys2Proof.Machine

open Sys2Proof

/-! ## Appends -/

/-- An entry that the shipping of appended pages stores in place of `r`. -/
structure ShipOf (r x : Req) : Prop where
  core : x.core = r.core
  state : x.state = r.state
  appendNext : x.appendNext = r.appendNext
  windowFirst : x.windowFirst = r.windowFirst
  failed : r.appendFailed → x.appendFailed

section
variable {d : Dev} {r : Req}

theorem ShipOf.refl (r : Req) : ShipOf r r := ⟨rfl, rfl, rfl, rfl, id⟩

/-- Where nothing is left to ship, the release that waits is sent, and the entry is stored in either case (R57). -/
theorem releaseOrSet_stores (h : SlotHeld d r.slot) :
    entryAt (if r.releaseDue then sendRelease d r else setReq d r) r.slot (ShipOf r) := by
  split
  · exact entryAt_of_reqs (sendSvc_reqs _ _ _) (entryAt_setReq h rfl ⟨rfl, rfl, rfl, rfl, id⟩)
  · exact entryAt_setReq h rfl (.refl r)

/-- Shipping goes on, and moves neither the window nor the next page to ship (R53). -/
theorem shipNext_stores (h : SlotHeld d r.slot) : entryAt (shipNext d r) r.slot (ShipOf r) := by
  unfold shipNext
  split
  · exact entryAt_setReq h rfl (.refl r)
  · split
    · extract_lets p d2
      have hsend := sendSvc_reqs d r.core.home (.place r.core.requestId r.core.skeinId true (appendParts d r p))
      split
      next ok d1 hd1 =>
      rw [hd1] at hsend
      split
      · extract_lets d3
        have hpost : d3.reqs = d1.reqs := by
          unfold d3
          split
          · split
            · rfl
            · exact (postEntry_reports _ _ _).reqs
          · rfl
        exact entryAt_setReq (h.of_reqs (hpost.trans hsend)) rfl ⟨rfl, rfl, rfl, rfl, id⟩
      · have hheld : SlotHeld d2 r.slot := h.of_reqs (faultOp_reports _ _ _ _ _ _).reqs
        refine (releaseOrSet_stores (r := { r with appendFailed := true }) hheld).imp fun x hx => ?_
        exact ⟨hx.core, hx.state, hx.appendNext, hx.windowFirst, fun _ => hx.failed rfl⟩
    · exact releaseOrSet_stores h

/-- A page whose flush has ended well leaves the window, and shipping goes on with the next (R55). -/
theorem appendDone_moves {p : Nat} (h : SlotHeld d r.slot) (hp : r.appendOut = some p) (hf : r.appendFailed = false)
    (he : r.state = .ending → r.releaseDue) :
    entryAt (appendDone d r true) r.slot (fun x => x.appendNext = p + 1 ∧ x.windowFirst = r.windowFirst + 1) := by
  have hgo : (true && !r.appendFailed && !(r.state == .ending && !r.releaseDue)) = true := by simpa [hf, or_iff_not_imp_left] using he
  simp only [appendDone, hp, hgo, if_true, dropOldest]
  refine (shipNext_stores ?_).imp fun x hx => ⟨hx.appendNext, hx.windowFirst⟩
  exact h.of_reqs (unmapFrames_frees _ _ _).reqs

/-- After a flush that failed the window stays, and the entry says so (R56). -/
theorem appendDone_fails {p : Nat} (h : SlotHeld d r.slot) (hp : r.appendOut = some p) (he : r.state = .ending → r.releaseDue) :
    entryAt (appendDone d r false) r.slot (fun x => x.appendNext = r.appendNext ∧ x.windowFirst = r.windowFirst ∧ x.appendFailed) := by
  have hend : (r.state == .ending && !r.releaseDue) = false := by simpa using he
  simp only [appendDone, hp, hend, Bool.false_and, Bool.false_eq_true, if_false]
  have hheld : SlotHeld (if r.noShip then d else appendFault d r) r.slot := by
    split
    · exact h
    · exact h.of_reqs (faultOp_reports _ _ _ _ _ _).reqs
  refine (shipNext_stores (r := { r with appendOut := none, appendFailed := true }) hheld).imp fun x hx => ?_
  exact ⟨hx.appendNext, hx.windowFirst, hx.failed rfl⟩

/-! ## Commits -/

/-- An end at the generation device stores the entry in ENDING (R57). -/
theorem genEnd_stores (h : SlotHeld d r.slot) (st c a : Nat) : entryAt (genEnd d r st c a) r.slot (EndOf r) := by
  obtain ⟨e, x, he, hrep, hx⟩ := endReq_stores d { r with appendFailed := r.appendFailed && r.appendOut.isSome } st c a
  have hslot : x.slot = r.slot := hx.slot
  have hset : entryAt (setReq e x) r.slot (EndOf r) := entryAt_setReq (h.of_reqs hrep.reqs) hslot ⟨hx.slot, hx.core, hx.state⟩
  unfold genEnd
  rw [he]
  dsimp only
  split
  · exact entryAt_of_reqs (sendSvc_reqs _ _ _) hset
  · have hship := shipNext_stores (r := { x with releaseDue := true }) (hslot.symm ▸ hset.held)
    obtain ⟨y, hy, hn, hxy⟩ := hship
    have hn' : y.slot = r.slot := hn.trans hslot
    exact ⟨y, hy, hn', hn', hxy.core.trans hx.core, hxy.state.trans hx.state⟩

/-- An entry after the commit of a token under a step's stamp: it decodes on, or ends. -/
structure CommitOf (r : Req) (stamp : U32) (x : Req) : Prop where
  generated : x.core.generated = r.core.generated + 1
  lastStep : x.core.lastStep = stamp
  state : x.state = .decoding ∨ x.state = .ending

section
variable {x y : Req} {stamp : U32}

theorem CommitOf.of_end (h : CommitOf r stamp x) (hy : EndOf x y) : CommitOf r stamp y :=
  ⟨hy.core ▸ h.generated, hy.core ▸ h.lastStep, .inr hy.state⟩

theorem CommitOf.of_kept (h : CommitOf r stamp x) (hc : y.core = x.core) (hs : y.state = x.state) : CommitOf r stamp y :=
  ⟨hc ▸ h.generated, hc ▸ h.lastStep, hs ▸ h.state⟩

end

/-- Appending to the block buffer leaves the slot, the core and the state of an entry. -/
theorem pushBlock_keeps (r : Req) (tok : U32) :
    (r.pushBlock tok).slot = r.slot ∧ (r.pushBlock tok).core = r.core ∧ (r.pushBlock tok).state = r.state := by
  unfold Req.pushBlock
  extract_lets buf h
  split <;> exact ⟨rfl, rfl, rfl⟩

/-- The commit of a token stores the entry that has counted it; what the commit brings on, an end or a shipment, stores it again. -/
theorem commitToken_stores (h : SlotHeld d r.slot) (hr : r.state = .decoding) (tok stamp : U32) (first : Bool) :
    entryAt (commitToken d r tok stamp first) r.slot (CommitOf r stamp) := by
  obtain ⟨hslot, hcore, hstate⟩ := pushBlock_keeps r tok
  unfold commitToken
  extract_lets _ _ r1 _ _ _ _ _ met _ _ _ _ _ x d1 d2 _ d3 d4
  have hx : CommitOf r stamp x := ⟨congrArg (fun c => c.generated + 1) hcore, rfl, .inl (hstate.trans hr)⟩
  have hn : x.slot = r.slot := hslot
  have h3 : d3.reqs = d.reqs := by
    unfold d3 d2 d1
    rw [ctrInc_reqs]
    split_ifs <;> simp only [ctrInc_reqs]
  have h4 : SlotHeld d4 x.slot := setReq_held (hn.symm ▸ h.of_reqs h3) rfl
  rw [← hn]
  clear_value met x
  split
  extract_lets rec_ d5
  have h5 : SlotHeld d5 x.slot := by
    refine h4.of_reqs ?_
    unfold d5
    split
    · split
      · exact (ringPut_reports _ _ _ _).reqs
      · exact ctrInc_reqs _ _
    · exact ctrInc_reqs _ _
  have hend {e : Dev} (he : e.reqs = d5.reqs) (st c a : Nat) : entryAt (genEnd e x st c a) x.slot (CommitOf r stamp) :=
    (genEnd_stores (h5.of_reqs he) st c a).imp fun _ => hx.of_end
  split
  · refine hend ?_ _ _ _
    split
    · rfl
    · exact ctrInc_reqs _ _
  · split_ifs
    · exact hend rfl _ _ _
    · exact hend (faultOp_reports _ _ _ _ _ _).reqs _ _ _
    · have hship := shipNext_stores (r := { x with appendFailed := x.appendFailed && x.appendOut.isSome }) h5
      exact hship.imp fun _ hy => hx.of_kept hy.core hy.state
    · exact entryAt_setReq h5 rfl hx

/-! ## STEP -/

/-- What a STEP record puts among the steps that await commit (R181). -/
def awaitStep (d : Dev) (t : Taken) : AwaitStep :=
  { ref := t.ref d, deadline := t.deadline, stamp := t.step, token := u32 (t.f 0x20 31 0) }

/-- The entry with one more step that awaits commit. -/
def Req.awaiting (r : Req) (w : AwaitStep) : Req := { r with await := r.await ++ [w] }

/-- The stamp that the next STEP of a request follows: that of the last one accepted. -/
def Req.stampBefore (r : Req) : U32 := match r.await.getLast? with
  | some x => x.stamp
  | none => r.core.lastStep

/-- The next stamp is 1 later in serial order. -/
theorem serialDiff_succ (a : U32) : serialDiff (a + 1) a = 1 := by
  unfold serialDiff
  rw [add_sub_cancel_left]
  rfl

/-- The input of a step's barrier is stored with the entry, and changes neither its state nor its steps (R692). -/
theorem stepInput_stores (h : SlotHeld d r.slot) (n f : Nat) :
    let y := stepInput d r n f
    entryAt (setReq y.2 y.1) r.slot (fun x => x.state = r.state ∧ x.await = r.await ∧ x.core = r.core) := by
  intro y
  obtain ⟨i, hi⟩ : ∃ i, y.1 = { r with stepIn := i } := stepInput_fst d r n f
  rw [hi]
  exact entryAt_setReq (h.of_reqs (stepInput_reqs d r n f)) rfl ⟨rfl, rfl, rfl⟩

theorem stepInput_sas (d : Dev) (r : Req) (n f : Nat) : (stepInput d r n f).2.sas = d.sas := by
  unfold stepInput
  extract_lets l
  split
  · exact barrierDone_sas _ _ _
  · rfl

end

/-! ## The commands -/

section
variable {s : State} {r : Req}

/-- A STEP record that passes its checks, and before which no STEP or CANCEL of its request waits. -/
structure StepOk (s : State) (l : Nat) (q : U32) (t : Taken) (r : Req) : Prop where
  taken : findTaken s.dev l q = some t
  kind : t.kind = 0x13
  request : t.request = r.core.requestId
  check : recCheck s.dev t (hasGeneration s.dev) (reqForeign s.dev t (.gen r)) none false true true = none
  first : earlierTaken s.dev t [0x12, 0x13] = false

/-- A STEP of the next stamp joins those that await commit, and is an input of its step's barrier (R181, R692). -/
theorem execStep_joins {l : Nat} {q : U32} {t : Taken} (h : StepOk s l q t r) (hf : findGen s.dev r.core.requestId = some r)
    (hr : r.state = .decoding) (hcancel : r.cancelPending = false) (hstamp : t.step = r.stampBefore + 1) :
    exec (.step l q) s = .next (s.setDev
      (let y := stepInput (dropTaken s.dev t) (r.awaiting (awaitStep s.dev t)) t.step.toNat 0xFFFFFF
       setReq y.2 y.1)) := by
  obtain ⟨ht, hk, hi, hc, he⟩ := h
  have hdiff : serialDiff t.step r.stampBefore = 1 := hstamp ▸ serialDiff_succ _
  show execStep l q s = _
  rw [execStep, onTaken_kind _ ht hk]
  simp only [hi, lookupReq_of_findGen hf, hc, hr, he, hcancel, Bool.false_and, Bool.false_eq_true, if_false]
  refine congrArg (fun d => Host.Outcome.next (s.setDev d)) ((if_neg ?_).trans ((if_neg ?_).trans ?_))
  · change ¬serialDiff t.step r.stampBefore ≤ 0
    simp [hdiff]
  · change ¬(serialDiff t.step r.stampBefore != 1) = true
    simp [hdiff]
  · simp only [Req.awaiting, awaitStep, hr, hcancel]

theorem execStepCommit_commits {a : AwaitStep} {rest : List AwaitStep} (h : findGen s.dev r.core.requestId = some r)
    (hr : r.state = .decoding) (ha : r.await = a :: rest) :
    exec (.stepCommit r.core.requestId) s = .next (s.setDev
      (finishOp (commitToken s.dev { r with await := rest } a.token a.stamp false) a.ref St.ok 0 0)) := by
  show execStepCommit r.core.requestId s = _
  simp only [execStepCommit, onDev, h, hr, ha]

theorem execAppendFlushDone_ends {ok : Bool} (h : findGen s.dev r.core.requestId = some r)
    (hp : flushPosted s.dev (.appendFlush r.core.requestId) = false) :
    exec (.appendFlushDone r.core.requestId ok) s = .next (s.setDev (appendDone s.dev r ok)) := by
  show execAppendFlushDone r.core.requestId ok s = _
  simp only [execAppendFlushDone, onDev, h, hp, Bool.false_eq_true, if_false]

end

/-- Settles O38: a STEP stores the entry with its own at the end of those that await; a commit stores the entry that has counted the token,
and what it brings on keeps the count; the end of a flush moves the window or leaves it, and shipping goes on from there. -/
theorem stepCommandsComplete : Obligations.StepCommandsComplete := by
  unfold Obligations.StepCommandsComplete
  intro s r h
  have hheld := findGen_held h
  refine ⟨?_, fun a rest hr ha => ?_, fun p hpost hp hf he => ?_, fun p hpost hp he => ?_⟩
  · intro l q t ht hk hi hr hcancel hc he hstamp
    have hok : StepOk s l q t r := ⟨ht, hk, hi, hc, he⟩
    refine ⟨_, execStep_joins hok h hr hcancel hstamp, ?_, ?_⟩
    · refine (stepInput_stores (r := r.awaiting (awaitStep s.dev t)) (dropTaken_held hheld) _ _).imp ?_
      exact fun x ⟨hst, ha, hcore⟩ => ⟨hst.trans hr, ha, hcore⟩
    · exact (setReq_sas _ _).trans (stepInput_sas _ _ _ _)
  · refine ⟨_, execStepCommit_commits h hr ha, entryAt_of_reqs (finishOp_reports _ _ _ _ _).reqs ?_⟩
    refine (commitToken_stores (r := { r with await := rest }) hheld hr a.token a.stamp false).imp fun x hx => ?_
    exact ⟨hx.generated, hx.lastStep, hx.state⟩
  · exact ⟨_, execAppendFlushDone_ends h hpost, appendDone_moves hheld hp hf he⟩
  · exact ⟨_, execAppendFlushDone_ends h hpost, appendDone_fails hheld hp he⟩

end Sys2Proof.Machine
end

section
/-! # Promotions (R250, R357)

A promotion marks its frame as moving and asks for the read of its unit. Whether a frame's unit can be read rests on which unit holds the
frame, and on the units and targets themselves; a promotion leaves all of these, so one frame's promotion stops no other's. -/

namespace Sys2Proof.Machine

open Sys2Proof

/-- `e` differs from `d` at most in counters and in the bobbin tier's reads. -/
structure ReadsOnly (d e : Dev) : Prop where
  sas : e.sas = d.sas
  adm : e.adm = d.adm
  sec : e.sec = d.sec
  units : e.bob.units = d.bob.units
  targets : e.bob.targets = d.bob.targets

/-- `e` came from `d` with the operations in service, and with every frame's unit as dead or as alive as it was. -/
structure UnitsKept (d e : Dev) : Prop where
  adm : e.adm = d.adm
  dead : ∀ f, frameDead e f = frameDead d f

section
variable {a b c d e : Dev}

theorem ReadsOnly.refl (d : Dev) : ReadsOnly d d := ⟨rfl, rfl, rfl, rfl, rfl⟩

theorem ReadsOnly.trans (h : ReadsOnly a b) (k : ReadsOnly b c) : ReadsOnly a c :=
  ⟨k.sas.trans h.sas, k.adm.trans h.adm, k.sec.trans h.sec, k.units.trans h.units, k.targets.trans h.targets⟩

theorem UnitsKept.refl (d : Dev) : UnitsKept d d := ⟨rfl, fun _ => rfl⟩

theorem UnitsKept.trans (h : UnitsKept a b) (k : UnitsKept b c) : UnitsKept a c :=
  ⟨k.adm.trans h.adm, fun f => (k.dead f).trans (h.dead f)⟩

theorem UnitsKept.ite {p : Prop} [Decidable p] (ha : UnitsKept d a) (hb : UnitsKept d b) : UnitsKept d (if p then a else b) := by
  split <;> assumption

theorem ctrInc_readsOnly (d : Dev) (n : Nat) : ReadsOnly d (ctrInc d n) := by constructor <;> simp

theorem pumpReads_readsOnly (d : Dev) : ReadsOnly d (pumpReads d) := by
  refine List.foldlRecOn (motive := ReadsOnly d) _ _ (.refl d) (fun x h r _ => ?_)
  split
  · exact h
  · exact h.trans ⟨rfl, rfl, rfl, rfl, rfl⟩

theorem addRead_readsOnly (d : Dev) (u : Nat) (cls : Cls) (dl : Nat) (use : BobUse) : ReadsOnly d (addRead d u cls dl use) := by
  unfold addRead
  split
  · exact .refl d
  · extract_lets t hit x rs r
    have hx : ReadsOnly d x := by
      unfold x
      split
      · exact ctrInc_readsOnly d _
      · exact .refl d
    refine hx.trans (.trans ?_ (pumpReads_readsOnly _))
    exact ⟨rfl, rfl, rfl, rfl, rfl⟩

/-- The unit that holds a frame in the bobbin tier. -/
def frameUnit (t : Tbl Frame4K) (f : Nat) : Option Nat := (tget t f).bind Frame4K.unit

theorem frameDead_eq (d : Dev) (f : Nat) : frameDead d f = ((frameUnit d.sas.frames f).bind (unitAt d)).bind (unitDead d) := by
  unfold frameDead frameUnit
  cases tget d.sas.frames f <;> rfl

theorem frameDead_congr (hf : ∀ f, frameUnit e.sas.frames f = frameUnit d.sas.frames f) (hu : e.bob.units = d.bob.units)
    (ht : e.bob.targets = d.bob.targets) (hz : e.sec.zeroized = d.sec.zeroized) (f : Nat) : frameDead e f = frameDead d f := by
  have hunit : unitAt e = unitAt d := by funext u; unfold unitAt; rw [hu]
  have hdead : unitDead e = unitDead d := by funext u; unfold unitDead targetAt; rw [ht, hz]
  rw [frameDead_eq, frameDead_eq, hf, hunit, hdead]

theorem ReadsOnly.unitsKept (h : ReadsOnly d e) : UnitsKept d e :=
  ⟨h.adm, frameDead_congr (fun f => by rw [h.sas]) h.units h.targets (by rw [h.sec])⟩

/-- A frame that starts to move stays in its unit. -/
theorem frameUnit_moving {t : Tbl Frame4K} {f : Nat} {y : Frame4K} (h : tget t f = some y) (g : Nat) :
    frameUnit (tset t f { y with moving := true }) g = frameUnit t g := by
  unfold frameUnit
  by_cases hg : g = f
  · subst hg; rw [tget_tset_same, h]; rfl
  · rw [tget_tset_other _ _ _ _ hg]

/-- A promotion stops at exactly the cause for which its frame cannot leave the bobbin tier. -/
theorem promoteFrame_cause (d : Dev) (f : Nat) (op : Option Nat) (w : Option (Nat × Nat)) (c : Cls) (dl : Nat) :
    (promoteFrame d f op w c dl).1 = frameDead d f := by
  unfold promoteFrame frameDead
  split
  next h => simp [h]
  next y h =>
    simp only [h]
    split
    next hu => simp [hu]
    next u hu =>
      simp only [hu, Option.bind_some]
      split
      next hd => exact hd.symm
      next hd => exact hd.symm

theorem promoteFrame_unitsKept (d : Dev) (f : Nat) (op : Option Nat) (w : Option (Nat × Nat)) (c : Cls) (dl : Nat) :
    UnitsKept d (promoteFrame d f op w c dl).2 := by
  unfold promoteFrame
  split
  · exact .refl d
  next y hy =>
    split
    · exact .refl d
    next u hu =>
      split
      · exact .refl d
      · dsimp only
        refine .trans (.ite (.refl d) ?_) (.ite (.refl _) (addRead_readsOnly _ _ _ _ _).unitsKept)
        exact ⟨rfl, frameDead_congr (frameUnit_moving hy) rfl rfl rfl⟩

/-- Frames whose units can all be read are all promoted. -/
theorem promoteAll_starts {fs : List Nat} (op : Option Nat) (w : Option (Nat × Nat)) (c : Cls) (dl : Nat)
    (h : ∀ f ∈ fs, frameDead d f = none) :
    (promoteAll fs op w c dl d).1 = none ∧ UnitsKept d (promoteAll fs op w c dl d).2 := by
  induction fs generalizing d with
  | nil => exact ⟨rfl, .refl d⟩
  | cons f fs ih =>
    have hkept := promoteFrame_unitsKept d f op w c dl
    have hstart : promoteFrame d f op w c dl = (none, (promoteFrame d f op w c dl).2) :=
      Prod.ext ((promoteFrame_cause d f op w c dl).trans (h f List.mem_cons_self)) rfl
    have hcons : promoteAll (f :: fs) op w c dl d = promoteAll fs op w c dl (promoteFrame d f op w c dl).2 :=
      congrArg (fun x => fs.foldl _ x) hstart
    rw [hcons]
    obtain ⟨hnone, hrest⟩ := ih (d := (promoteFrame d f op w c dl).2)
      (fun g hg => (hkept.dead g).trans (h g (List.mem_cons_of_mem _ hg)))
    exact ⟨hnone, hkept.trans hrest⟩

end

end Sys2Proof.Machine
end

section
/-! # Transfers accepted (R81, R279 to R284)

A class B transfer that passes its checks and finds its stages ready is put in service at its first stage; its source is touched, and the
promotions it needs start. -/

namespace Sys2Proof.Machine

open Sys2Proof

section
variable {s : State} {d : Dev} {l : Nat} {q : U32} {t : Taken} {k : Skein}

/-- A command of a taken record acts on that record when the record has its form. -/
theorem onTaken_form {form : Taken → Bool} (f : Dev → Taken → Dev) (ht : findTaken s.dev l q = some t) (hf : form t = true) :
    onTaken l q form f s = .next (s.setDev (f s.dev t)) := by
  simp only [onTaken, onDev, ht, hf, if_true]

/-- A transfer that is its lane's next to be decided is decided. -/
theorem onXfer_form {form : Taken → Bool} (f : Dev → Taken → Dev) (ht : findTaken s.dev l q = some t) (hf : form t = true)
    (hturn : takenTurn s.dev t = true) : onXfer l q form f s = .next (s.setDev (f s.dev t)) := by
  rw [onXfer, onTaken_form _ ht hf, if_pos hturn]

theorem Taken.cls_b (h : t.classG = false) : t.cls = .b := by simp [Taken.cls, h]

theorem setSkein_unitsKept (d : Dev) (k : Skein) : UnitsKept d (setSkein d k) :=
  ⟨(mirrorDirs_reports { d with sas := { d.sas with skeins := replaceFirst (fun x => x.slot == k.slot) k d.sas.skeins } } _ _).adm,
    (setSkein_sameStore d k).frameDead⟩

theorem touchSource_unitsKept (d : Dev) (k : Skein) (ls : List Nat) : UnitsKept d (touchSource d k ls) := setSkein_unitsKept _ _

theorem touchSource_homeStep (d : Dev) (k : Skein) (ls : List Nat) : HomeStep d (touchSource d k ls) := setSkein_homeStep _ _

/-! ## The operation in service -/

/-- The operation of a class B transfer as it is put in service (R81, R99). -/
def xferOp (d : Dev) (t : Taken) (stages : List Stage) (data : HostData) (src : Option Skein) (count port : Nat) : Op where
  id := d.adm.nextOp
  ref := t.ref d
  cls := .b
  budget := t.budget
  deadline := if t.budget = 0 then none else some (t.arrival + t.budget)
  stages := stages
  port := port
  pins := match src with | some k => k.pages.map (·.body) | none => []
  count := count
  what := .transfer t.bytes data src

/-- The device that has taken a record and put an operation in service for it. -/
def xferTaken (d : Dev) (t : Taken) (o : Op) : Dev :=
  ctrInc { dropTaken d t with adm := { d.adm with ops := d.adm.ops ++ [o], nextOp := d.adm.nextOp + 1 } } cBAccepted

theorem acceptB_ready {op : Op} {ready : List Nat} (h : ∀ b ∈ ready, isReady d b = true) :
    acceptB d op ready = (.ok d.adm.nextOp, ctrInc { d with adm := { d.adm with
      ops := d.adm.ops ++ [{ op with
        id := d.adm.nextOp
        deadline := if op.budget = 0 then none else some (op.ref.arrival + op.budget) }]
      nextOp := d.adm.nextOp + 1 } } cBAccepted) := by
  have hall : ready.all (isReady d) = true := List.all_eq_true.mpr h
  simp only [acceptB, hall, Bool.not_true, Bool.false_eq_true, if_false]

/-- The time by which an operation's promotions have to end (R353). -/
def promoteDue (d : Dev) (id : Nat) : Nat := match findOp d id with
  | some o => ((o.stages.find? (fun s => s.ledger == lBOB)).map Stage.deadline).getD 0
  | none => 0

/-- A class B transfer whose stages are ready and whose frames can all be read is in service, and its promotions have started. -/
theorem startXfer_accepts {stages : List Stage} {ready low : List Nat} {data : HostData} {src : Option Skein} {count port : Nat}
    {touch : Dev → Dev} (hb : t.classG = false) (hready : ∀ b ∈ ready, isReady d b = true) :
    let x := touch (xferTaken d t (xferOp d t stages data src count port))
    (∀ f ∈ low, frameDead x f = none) → startXfer d t stages ready data src low count port touch =
      (promoteAll low (some d.adm.nextOp) none .b (promoteDue x d.adm.nextOp) x).2 := by
  intro x hlow
  unfold startXfer
  rw [Taken.cls_b hb]
  dsimp only
  rw [acceptB_ready (d := dropTaken d t) hready]
  dsimp only
  rw [if_neg (by simp [hb])]
  split
  next => rfl
  next c hc => cases (promoteAll_starts _ _ _ _ hlow).1.symm.trans hc

/-- `e` came from `d` by putting a transfer of class B in service, in its first stage, for a taken record. -/
def XferInService (d e : Dev) (t : Taken) (data : HostData) (src : Option Skein) : Prop :=
  e.adm.nextOp = d.adm.nextOp + 1 ∧ ∃ p ∈ e.adm.ops, p.id = d.adm.nextOp ∧ p.ref = t.ref d ∧ p.cls = .b ∧ p.cur = 0 ∧
    p.what = .transfer t.bytes data src

theorem xferTaken_inService {e : Dev} {stages : List Stage} {data : HostData} {src : Option Skein} {count port : Nat}
    (h : UnitsKept (xferTaken d t (xferOp d t stages data src count port)) e) : XferInService d e t data src := by
  have hadm : e.adm = { d.adm with
      ops := d.adm.ops ++ [xferOp d t stages data src count port]
      nextOp := d.adm.nextOp + 1 } := h.adm.trans (ctrInc_adm _ _)
  unfold XferInService
  rw [hadm]
  exact ⟨rfl, _, List.mem_append_right _ List.mem_cons_self, rfl, rfl, rfl, rfl, rfl⟩

/-- A class B transfer with nothing to promote is in service, and nothing else of the device is more than counted. -/
theorem startXfer_copies {stages : List Stage} {ready : List Nat} {data : HostData} {port : Nat} (hb : t.classG = false)
    (hready : ∀ b ∈ ready, isReady d b = true) :
    let e := startXfer d t stages ready data none [] 0 port id
    XferInService d e t data none ∧ e.reqs = d.reqs ∧ e.sas = d.sas := by
  intro e
  have he : e = xferTaken d t (xferOp d t stages data none 0 port) := startXfer_accepts (touch := id) hb hready (by simp)
  rw [he]
  exact ⟨xferTaken_inService (.refl _), ctrInc_reqs _ _, ctrInc_sas _ _⟩

/-- A class B transfer of a skein's pages is in service, and its source is touched. -/
theorem startXfer_moves {stages : List Stage} {ready low ls : List Nat} {src : Skein} {count port : Nat} (hb : t.classG = false)
    (hready : ∀ b ∈ ready, isReady d b = true) (hlow : ∀ f ∈ low, frameDead d f = none) :
    let e := startXfer d t stages ready none (some src) low count port (fun d => touchSource d k ls)
    XferInService d e t none (some src) ∧ e.reqs = d.reqs := by
  intro e
  have hdead (f : Nat) : frameDead (xferTaken d t (xferOp d t stages none (some src) count port)) f = frameDead d f :=
    (ctrInc_readsOnly _ cBAccepted).unitsKept.dead f
  have hreqs : (xferTaken d t (xferOp d t stages none (some src) count port)).reqs = d.reqs := ctrInc_reqs _ _
  have htouch := touchSource_unitsKept (xferTaken d t (xferOp d t stages none (some src) count port)) k ls
  have halive (f : Nat) (hf : f ∈ low) := (htouch.dead f).trans ((hdead f).trans (hlow f hf))
  have he : e = _ := startXfer_accepts hb hready halive
  rw [he]
  exact ⟨xferTaken_inService (htouch.trans (promoteAll_starts _ _ _ _ halive).2),
    (promoteAll_sameSkeins _ _ _ _ _ _).reqs.trans ((touchSource_homeStep _ _ _).reqs.trans hreqs)⟩

end

end Sys2Proof.Machine
end

section
/-! # TRANSFER records of class B (R279 to R286) -/

namespace Sys2Proof.Machine

open Sys2Proof

section
variable {s : State} {d e : Dev} {l : Nat} {q : U32} {t : Taken} {k : Skein}

theorem mirrorCheck_classB (h : t.classG = false) (dst : Nat) : mirrorCheck d t dst = none := by
  simp [mirrorCheck, h]

/-! ## COPY_RANGE, COPY_PAGES, PROMOTE -/

theorem execCopyRange_accepts {data : HostData} (ht : findTaken s.dev l q = some t) (hk : t.kind = 0x20) (hop : t.xop = 0)
    (hb : t.classG = false) (hturn : takenTurn s.dev t = true)
    (hc : recCheck s.dev t true (xForeign s.dev t none) none false (xSrcHost t.bytes) false = none)
    (hsrc : xSrcHost t.bytes = false → inStage s.dev (laneOwner s.dev l) (xSrc t.bytes) (xLen t.bytes) = true)
    (hdst : dstCheck s.dev (laneOwner s.dev l) t.bytes (xLen t.bytes) = none)
    (hroom : xDst t.bytes = 0 → sasRefusing s.dev = false) :
    exec (.copyRange l q data) s = .next (s.setDev (startXfer s.dev t
      (xferStages s.dev (xLen t.bytes) (xLen t.bytes) false false t.remote (xDst t.bytes) (xPort s.dev (xConn t.bytes)) (xAddr t.bytes))
      (xferReady s.dev false (xDst t.bytes) (xPort s.dev (xConn t.bytes))
        (if xSrcHost t.bytes then [] else framesOf (xSrc t.bytes) (xLen t.bytes)) ++ (if xSrcHost t.bytes then [rbPcie] else []))
      data none [] 0 (xPort s.dev (xConn t.bytes)) id)) := by
  have hstage : (!xSrcHost t.bytes && !inStage s.dev (laneOwner s.dev l) (xSrc t.bytes) (xLen t.bytes)) = false := by
    cases hx : xSrcHost t.bytes <;> simp [hx, hsrc]
  have hfull : (xDst t.bytes == 0 && sasRefusing s.dev) = false := by
    by_cases hx : xDst t.bytes = 0 <;> simp [hx, hroom]
  show execCopyRange l q data s = _
  rw [execCopyRange, onXfer_form _ ht (by simp [hk, hop]) hturn]
  simp only [hc, hstage, hdst, mirrorCheck_classB hb, hfull, Bool.false_eq_true, if_false]

/-- The size of a destination matters in staging alone (R227). -/
theorem dstCheck_size {o m n : Nat} {r : Bytes} (h : dstCheck d o r n = none) (hm : xDst r = 0 → m = n) : dstCheck d o r m = none := by
  by_cases h0 : xDst r = 0
  · rw [hm h0, h]
  · simpa [dstCheck, h0] using h

/-- Bytes that COPY_PAGES moves out: expanded pages, what the delivery gives, or the blocks as they are stored. -/
def copySize (d : Dev) (k : Skein) (r : Bytes) : Nat :=
  if xExpand r == 1 then (xAllRefs k r).length * pageBytes k.shape
  else if xDst r == 0 then (copyPagesOut d k r).1.bytes.length + (if (copyPagesOut d k r).1.err.isSome then 4096 else 0)
  else copyStoredSize d k r

theorem execCopyPages_accepts {port n : Nat} {low : List Nat} (ht : findTaken s.dev l q = some t) (hk : t.kind = 0x20)
    (hop : t.xop = 1) (hb : t.classG = false) (hturn : takenTurn s.dev t = true) (hx : findSkein s.dev (xSkein t.bytes) = some k)
    (hst : k.state ≠ .aborted) (hc : recCheck s.dev t (hasCache s.dev) (xForeign s.dev t (some k)) none false false false = none)
    (hskein : dstSkein s.dev k t.bytes = none) (hrange : xRange k t.bytes = true)
    (hdst : dstCheck s.dev (laneOwner s.dev l) t.bytes n = none) (hn : xDst t.bytes = 0 → copySize s.dev k t.bytes = n)
    (hroom : xDst t.bytes = 0 ∨ xDst t.bytes = 3 → sasRefusing s.dev = false) (hport : port = xPort s.dev (xConn t.bytes))
    (hlow : low = lowFrames s.dev (copyFrames s.dev k t.bytes)) :
    exec (.copyPages l q) s = .next (s.setDev (startXfer s.dev t
      (xferStages s.dev (copyStoredSize s.dev k t.bytes) (copySize s.dev k t.bytes) (xExpand t.bytes == 1) (!low.isEmpty) t.remote
        (xDst t.bytes) port (xAddr t.bytes))
      (xferReady s.dev (!low.isEmpty) (xDst t.bytes) port (copyFrames s.dev k t.bytes)) none (some (xView k t.bytes)) low 0 port
      (fun d => touchSource d k (xLayers t.bytes)))) := by
  subst hport hlow
  have hstate : (k.state == .aborted) = false := by simpa using hst
  have hfull : ((xDst t.bytes == 0 || xDst t.bytes == 3) && sasRefusing s.dev) = false := by
    by_cases h : xDst t.bytes = 0 ∨ xDst t.bytes = 3
    · simp [hroom h]
    · simpa using fun h' => absurd h' h
  have hsize := dstCheck_size hdst hn
  unfold copySize at hsize ⊢
  show execCopyPages l q s = _
  rw [execCopyPages, onXfer_form _ ht (by simp [hk, hop]) hturn]
  simp only [hx, hc, hstate, hskein, hrange, hsize, mirrorCheck_classB hb, hfull, hb, Bool.false_eq_true, if_false, Bool.not_true,
    Bool.false_and]

theorem execPromote_accepts {low : List Nat} (ht : findTaken s.dev l q = some t) (hk : t.kind = 0x20) (hop : t.xop = 2)
    (hb : t.classG = false) (hturn : takenTurn s.dev t = true) (hx : findSkein s.dev (xSkein t.bytes) = some k) (hst : k.state ≠ .aborted)
    (hc : recCheck s.dev t (hasCache s.dev) (xForeign s.dev t (some k)) none false false false = none) (hrange : xRange k t.bytes = true)
    (hlow : low = lowFrames s.dev (promoteFrames s.dev k t.bytes)) :
    exec (.promote l q) s = .next (s.setDev (startXfer s.dev t
      (xferStages s.dev (4096 * low.length) (4096 * low.length) false (!low.isEmpty) t.remote 3 0 0)
      (xferReady s.dev (!low.isEmpty) 3 0 (promoteFrames s.dev k t.bytes)) none (some (xView k t.bytes)) low low.length 0
      (fun d => touchSource d k (xLayers t.bytes)))) := by
  subst hlow
  have hstate : (k.state == .aborted) = false := by simpa using hst
  show execPromote l q s = _
  rw [execPromote, onXfer_form _ ht (by simp [hk, hop]) hturn]
  simp only [hx, hc, hstate, hrange, mirrorCheck_classB hb, Bool.false_eq_true, if_false, Bool.not_true]

/-! ## HEADER -/

/-- The device that has taken a HEADER's record and touched its skein (R62). -/
def headerTaken (d : Dev) (t : Taken) (k : Skein) : Dev := ctrInc (touchSource (dropTaken d t) k []) cBAccepted

theorem headerTaken_homeStep (d : Dev) (t : Taken) (k : Skein) : HomeStep (dropTaken d t) (headerTaken d t k) :=
  (touchSource_homeStep _ _ _).trans (ctrInc_sameSkeins _ _).toHomeStep

theorem headerTaken_sas (d : Dev) (t : Taken) (k : Skein) : (headerTaken d t k).sas =
    { d.sas with skeins := replaceFirst (fun x => x.slot == k.slot) { k with lastAccess := now d } d.sas.skeins } :=
  (ctrInc_sas _ _).trans (setSkein_sas _ _)

theorem header_length (k : Skein) : k.header.length = 256 := fit_length _ 256

/-- What an accepted HEADER does with the header, by its destination. -/
def headerOut (d : Dev) (t : Taken) (ref : OpRef) (k : Skein) : Dev :=
  if xDst t.bytes == 2 then xferPost d (xConn t.bytes) (xAddr t.bytes) k.header .b t.deadline none (.header ref)
  else if xDst t.bytes == 1 then
    finishOp (hostWriteAttr d ref.owner (xAddr t.bytes) k.header false (d.host.relaxed.contains ref.owner)) ref St.ok 0 0
  else match (if sasRefusing d then none else workWrite d ref.owner (xAddr t.bytes) k.header) with
    | some d => finishOp d ref St.ok 0 0
    | none => finishOp (ctrInc d cPlaceRefused) ref St.sasFull 0 0

theorem execHeader_accepts (ht : findTaken s.dev l q = some t) (hk : t.kind = 0x20) (hop : t.xop = 3)
    (hx : findSkein s.dev (xSkein t.bytes) = some k) (hst : k.state ≠ .aborted) (hrange : xRange k t.bytes = true)
    (hlate : t.late s.dev = false)
    (hc : recCheck s.dev t (hasCache s.dev) (xForeign s.dev t (some k)) none false true false = none)
    (hdst : dstCheck s.dev (laneOwner s.dev l) t.bytes 256 = none)
    (hready : ∀ b ∈ xferReady s.dev false (xDst t.bytes) (xPort s.dev (xConn t.bytes)) [], isReady s.dev b = true) :
    exec (.header l q) s = .next (s.setDev (headerOut (headerTaken s.dev t k) t (t.ref s.dev) k)) := by
  have hstate : (k.state == .aborted) = false := by simpa using hst
  have hall := List.all_eq_true.mpr hready
  show execHeader l q s = _
  rw [execHeader, onTaken_form _ ht (by simp [hk, hop])]
  simp only [hx, hc, hstate, hdst, hrange, hall, hlate, Bool.false_eq_true, if_false, Bool.not_true]
  rfl

/-- Whether a connection is READY rests on the keys of the connections. -/
theorem connReady_congr (h : connKeys e = connKeys d) (c : Nat) : connReady e c = connReady d c := by
  have hkey (x : Dev) : connReady x c = (((connKeys x).find? (fun y => y.1 == c)).map (·.2.2.1 == .ready)).getD false := by
    unfold connReady findConn connKeys
    rw [List.find?_map]
    show _ = ((Option.map connKey (x.weft.conns.find? (fun y => y.num == c))).map _).getD false
    cases x.weft.conns.find? (fun y => y.num == c) <;> rfl
  rw [hkey, hkey, h]

/-- A connection stored where one stood is found. -/
theorem findConn_setConn {c c' : Conn} (h : findConn d c.num = some c) (hn : c'.num = c.num) :
    findConn (setConn d c') c.num = some c' := by
  unfold findConn setConn
  rw [hn]
  exact find?_replaceFirst ⟨c, List.mem_of_find?_eq_some h, by simp⟩ (by simp [hn])

/-- An entry posted on a READY connection stands in its queue. -/
theorem postEntry_ready {n : Nat} {x : SqEntry} (h : connReady d n = true) :
    ∃ c y, findConn (postEntry d n x) n = some c ∧ y ∈ c.queue ∧ y.op = x.op ∧ y.data = x.data ∧ y.raddr = x.raddr ∧ y.use = x.use := by
  unfold connReady at h
  split at h
  next c hc =>
    obtain rfl : c.num = n := by simpa using List.find?_some hc
    have hready : (c.state != .ready) = false := by simpa using h
    unfold postEntry
    simp only [hc, hready, Bool.false_eq_true, if_false]
    refine ⟨_, _, findConn_setConn hc rfl, List.mem_append_right _ List.mem_cons_self, ?_⟩
    exact ⟨rfl, rfl, rfl, rfl⟩
  · cases h

theorem dstCheck_connReady {o n : Nat} {r : Bytes} (h : dstCheck d o r n = none) (hdst : xDst r = 2) : connReady d (xConn r) = true := by
  by_contra hc
  simp [dstCheck, hdst, hc] at h

/-- A header for host memory leaves requests and work memory. -/
theorem headerOut_host {ref : OpRef} (h : xDst t.bytes = 1) :
    (headerOut d t ref k).reqs = d.reqs ∧ (headerOut d t ref k).sas = d.sas := by
  have hr : Reports d (headerOut d t ref k) := by
    unfold headerOut
    rw [h]
    exact (hostWriteAttr_reports _ _ _ _ _ _).trans (finishOp_reports _ _ _ _ _)
  exact ⟨hr.reqs, hr.sas⟩

/-- A header for a READY connection is posted on it. -/
theorem headerOut_posts {ref : OpRef} (h : xDst t.bytes = 2) (hc : connReady d (xConn t.bytes) = true) :
    (headerOut d t ref k).reqs = d.reqs ∧ ∃ c y, findConn (headerOut d t ref k) (xConn t.bytes) = some c ∧ y ∈ c.queue ∧ y.op = 0x01 ∧
      y.data = .bytes k.header ∧ y.raddr = xAddr t.bytes ∧ y.use = .header ref := by
  unfold headerOut
  rw [h]
  exact ⟨(postEntry_reports _ _ _).reqs, postEntry_ready hc⟩

/-- A header for work memory whose frames lie in the stack tier is written there, and no other byte of work memory changes. -/
theorem headerOut_writes {ref : OpRef} (h : xDst t.bytes = 0) (hroom : sasRefusing d = false)
    (hf : ∀ f ∈ framesOf (xAddr t.bytes) 256, (tget d.sas.frames f).any (fun y => y.stack.isSome) = true) :
    (headerOut d t ref k).reqs = d.reqs ∧ workRead (headerOut d t ref k) (xAddr t.bytes) 256 = k.header ∧
      ∀ a, (a < xAddr t.bytes ∨ xAddr t.bytes + 256 ≤ a) →
        memRead 0 (headerOut d t ref k).sas.work a = memRead 0 d.sas.work a := by
  obtain ⟨e, hw, hs, hsas⟩ := workWrite_inStack (d := d) (a := xAddr t.bytes) (bs := k.header) ref.owner (by rwa [header_length])
  have hout : headerOut d t ref k = finishOp e ref St.ok 0 0 := by
    unfold headerOut
    rw [h, hroom]
    simp only [Bool.false_eq_true, if_false, hw]
    rfl
  have hfin := finishOp_reports e ref St.ok 0 0
  have hwork : (headerOut d t ref k).sas.work = memWriteN 0 d.sas.work (xAddr t.bytes) k.header := by rw [hout, hfin.sas, hsas]
  refine ⟨by rw [hout, hfin.reqs, hs.reqs], ?_, fun a ha => ?_⟩
  · rw [workRead, hwork, ← header_length k, memReadN_writeN]
  · rw [hwork]
    exact memRead_writeN_outside (by rwa [header_length])

/-! ## LOCATE -/

section
variable {x : Req}
variable (ht : findTaken s.dev l q = some t) (hk : t.kind = 0x20) (hop : t.xop = 4)
  (hc : recCheck s.dev t (hasPrompt s.dev || hasGeneration s.dev) (reqForeign s.dev t (lookupReq s.dev t.request)) none false true false =
    none)
include ht hk hop hc

theorem execLocate_landing (hr : lookupReq s.dev t.request = .prompt x) (hst : x.state = .prefill) (hf : t.f 0x21 5 4 = 0) :
    exec (.locate l q) s = .next (s.setDev (finishOp (dropTaken s.dev t) (t.ref s.dev) St.ok (landingBase x.slot) (Req.landPages s.dev x))) := by
  rw [hr] at hc
  show execLocate l q s = _
  rw [execLocate, onTaken_form _ ht (by simp [hk, hop])]
  simp only [hr, hc, hf, hst, beq_self_eq_true, if_true]

theorem execLocate_view (hr : lookupReq s.dev t.request = .prompt x) (hst : x.state = .prefill) (hf : t.f 0x21 5 4 = 1) :
    exec (.locate l q) s = .next (s.setDev (finishOp (dropTaken s.dev t) (t.ref s.dev) St.ok (x.viewBase.getD 0) x.prefixPages)) := by
  rw [hr] at hc
  show execLocate l q s = _
  rw [execLocate, onTaken_form _ ht (by simp [hk, hop])]
  simp only [hr, hc, hf, hst, beq_self_eq_true, if_true]

theorem execLocate_window (hr : lookupReq s.dev t.request = .gen x) (hst : x.state = .waiting ∨ x.state = .decoding)
    (hf : t.f 0x21 5 4 = 2) :
    exec (.locate l q) s = .next (s.setDev (finishOp (dropTaken s.dev t) (t.ref s.dev) St.ok (x.windowBase.getD 0) x.wslots)) := by
  have hstate : (x.state == .waiting || x.state == .decoding) = true := by simpa using hst
  rw [hr] at hc
  show execLocate l q s = _
  rw [execLocate, onTaken_form _ ht (by simp [hk, hop])]
  simp only [hr, hc, hf, hstate, if_true]

end

end

/-- Settles O40: an accepted copy or promotion of class B is put in service with its source touched and its promotions started; a HEADER is
written, posted or sent to host memory after its skein is touched; a LOCATE answers at once. That a class B operation is accepted on the
readiness of its stages alone, and that a HEADER takes effect at once, is the model's choice (log entries 80, 48). -/
theorem transferCommandsComplete : Obligations.TransferCommandsComplete := by
  unfold Obligations.TransferCommandsComplete
  intro s l q t ht hk r o k port inService
  refine ⟨?_, ?_, ?_, ?_, ?_⟩
  · intro data hop hb hturn hc hsrc hdst hroom hpcie hready
    refine ⟨_, execCopyRange_accepts ht hk hop hb hturn hc hsrc hdst hroom, startXfer_copies hb (fun b hm => ?_)⟩
    rcases List.mem_append.mp hm with hm | hm
    · exact hready b hm
    · cases hx : xSrcHost r <;> simp only [show xSrcHost t.bytes = _ from hx] at hm
      · simp at hm
      · obtain rfl : b = rbPcie := by simpa using hm
        exact hpcie hx
  · intro x hx hop hb hturn hst low n hc hskein hrange hdst hroom hlow hready
    have hc' : recCheck s.dev t (hasCache s.dev) (xForeign s.dev t (some x)) none false false false = none := hx ▸ hc
    refine ⟨_, execCopyPages_accepts ht hk hop hb hturn hx hst hc' hskein hrange hdst (fun h0 => ?_) hroom rfl rfl,
      startXfer_moves hb hready hlow⟩
    simp [copySize, h0, n, r]
  · intro x hx hop hb hturn hst low hc hrange hlow hready
    have hc' : recCheck s.dev t (hasCache s.dev) (xForeign s.dev t (some x)) none false false false = none := hx ▸ hc
    exact ⟨_, execPromote_accepts ht hk hop hb hturn hx hst hc' hrange rfl, startXfer_moves hb hready hlow⟩
  · intro x hx hop hst hrange hlate hc hdst hready
    have hc' : recCheck s.dev t (hasCache s.dev) (xForeign s.dev t (some x)) none false true false = none := hx ▸ hc
    have hexec := execHeader_accepts ht hk hop hx hst hrange hlate hc' hdst hready
    have hstep := headerTaken_homeStep s.dev t x
    have hsas := headerTaken_sas s.dev t x
    refine ⟨fun hd => ⟨_, hexec, ?_⟩, fun hd => ⟨_, hexec, ?_⟩, fun hd hroom hf => ⟨_, hexec, ?_⟩⟩
    · obtain ⟨hreqs, hout⟩ := headerOut_host (d := headerTaken s.dev t x) (ref := t.ref s.dev) (k := x) hd
      exact ⟨hreqs.trans hstep.reqs, by rw [hout, hsas]⟩
    · obtain ⟨hreqs, hposted⟩ := headerOut_posts (d := headerTaken s.dev t x) (ref := t.ref s.dev) (k := x) hd
        ((connReady_congr hstep.keys _).trans (dstCheck_connReady hdst hd))
      exact ⟨hreqs.trans hstep.reqs, hposted⟩
    · obtain ⟨hreqs, hread, hrest⟩ := headerOut_writes (d := headerTaken s.dev t x) (ref := t.ref s.dev) (k := x) hd
        (by unfold sasRefusing at hroom ⊢; rwa [hsas]) (by rwa [hsas])
      exact ⟨hreqs.trans hstep.reqs, hread, fun a ha => (hrest a ha).trans (by rw [hsas])⟩
  · intro x hop hc ok
    exact ⟨fun hr hst hf => ⟨_, execLocate_landing ht hk hop hc hr hst hf, rfl⟩,
      fun hr hst hf => ⟨_, execLocate_view ht hk hop hc hr hst hf, rfl⟩,
      fun hr hst hf => ⟨_, execLocate_window ht hk hop hc hr hst hf, rfl⟩⟩

end Sys2Proof.Machine
end

section
/-! # What leaves the movement between the tiers alone

Promotions and demotions under way and the reclaim decisions are changed by the commands of the tiers only: freeing frames takes no more
than frames away (`FreesFrames`), and what a shipment does on its way promotes no frame that lies in the stack tier (`KeepsRaised`). -/

namespace Sys2Proof.Machine

open Sys2Proof

/-- `e` has the promotions and demotions of `d` under way, and its reclaim decisions. -/
structure SameMoves (d e : Dev) : Prop where
  promotions : e.sas.promotions = d.sas.promotions
  demotions : e.sas.demotions = d.sas.demotions
  reclaim : e.sas.reclaim = d.sas.reclaim
  bobReclaim : e.sas.bobReclaim = d.sas.bobReclaim

/-! ## Freeing frames -/

/-- `e` came from `d` by freeing frames: each frame is as it was or not there, and what moves between the tiers is as it was. -/
structure FreesFrames (d e : Dev) : Prop extends SameMoves d e where
  frames : ∀ f, tget e.sas.frames f = tget d.sas.frames f ∨ tget e.sas.frames f = none

theorem tget_filter {α : Type} (t : Tbl α) (p : Nat → Bool) (f : Nat) :
    tget (t.filter (fun e => p e.1)) f = if p f then tget t f else none := by
  have htest : (fun e : Nat × α => decide (p e.1 = true ∧ (e.1 == f) = true)) = fun e => p f && e.1 == f := by
    funext e
    by_cases h : e.1 = f
    · subst h; simp
    · simp [h]
  unfold tget
  rw [List.find?_filter, htest]
  cases p f <;> simp

section
variable {a b c d e : Dev}

theorem SameMoves.trans (h : SameMoves a b) (k : SameMoves b c) : SameMoves a c :=
  ⟨k.promotions.trans h.promotions, k.demotions.trans h.demotions, k.reclaim.trans h.reclaim, k.bobReclaim.trans h.bobReclaim⟩

theorem SameMoves.of_sas (h : e.sas = d.sas) : SameMoves d e := by constructor <;> rw [h]

theorem FreesFrames.of_sas (h : e.sas = d.sas) : FreesFrames d e := { SameMoves.of_sas h with frames := fun _ => .inl (by rw [h]) }

theorem FreesFrames.refl (d : Dev) : FreesFrames d d := .of_sas rfl

theorem FreesFrames.trans (h : FreesFrames a b) (k : FreesFrames b c) : FreesFrames a c where
  toSameMoves := h.toSameMoves.trans k.toSameMoves
  frames f := by
    rcases k.frames f with hk | hk
    · rw [hk]; exact h.frames f
    · exact .inr hk

theorem FreesFrames.foldl {α : Type} {f : Dev → α → Dev} (h : ∀ d x, FreesFrames d (f d x)) (l : List α) (d : Dev) :
    FreesFrames d (l.foldl f d) := by
  induction l generalizing d with
  | nil => exact .refl d
  | cons x xs ih => exact (h d x).trans (ih _)

theorem FreesFrames.ite {p : Prop} [Decidable p] (ha : FreesFrames d a) (hb : FreesFrames d b) :
    FreesFrames d (if p then a else b) := by
  split <;> assumption

theorem Reports.freesFrames (h : Reports d e) : FreesFrames d e := .of_sas h.sas

end

/-- Parts of the SAS that say nothing of frames or of their movement may change as they like. -/
theorem sas_freesFrames (d : Dev) {x : Sas} (hf : x.frames = d.sas.frames := by rfl)
    (hm : SameMoves d { d with sas := x } := by exact ⟨rfl, rfl, rfl, rfl⟩) : FreesFrames d { d with sas := x } :=
  { hm with frames := fun _ => .inl (congrArg (tget · _) hf) }

theorem dropUnitSlot_sas (d : Dev) (f : Nat) : (dropUnitSlot d f).sas = d.sas := by
  unfold dropUnitSlot
  split
  · rfl
  · split <;> rfl

theorem unmapFrames_freesFrames (d : Dev) (o : Nat) (fs : List Nat) : FreesFrames d (unmapFrames d o fs) := by
  unfold unmapFrames
  extract_lets gs
  refine .ite (.refl d) ((FreesFrames.foldl (fun d f => .of_sas (dropUnitSlot_sas d f)) gs d).trans ?_)
  refine .trans ?_ (mirrorPush_reports _ _).freesFrames
  refine ⟨⟨rfl, rfl, rfl, rfl⟩, fun f => ?_⟩
  have h := tget_filter (gs.foldl dropUnitSlot d).sas.frames (fun n => !gs.contains n) f
  rw [h]
  split
  · exact .inl rfl
  · exact .inr rfl

theorem collect_freesFrames (d : Dev) : FreesFrames d (collect d) := by
  unfold collect
  refine .trans (sas_freesFrames d) (.trans (.foldl (fun d b => ?_) _ _) (.foldl (fun d r => ?_) _ _))
  · exact .trans (sas_freesFrames d) (unmapFrames_freesFrames _ _ _)
  · exact .ite ((unmapFrames_freesFrames _ _ _).trans (sas_freesFrames _)) (unmapFrames_freesFrames _ _ _)

theorem freeSkein_freesFrames (d : Dev) (k : Skein) : FreesFrames d (freeSkein d k) := by
  have hprefix : FreesFrames d (prefixRemove d k) :=
    .trans (sas_freesFrames d) (.foldl (fun d e => (sasMirror_reports d _ _ _).freesFrames) _ _)
  unfold freeSkein
  refine hprefix.trans (.trans (sas_freesFrames _) ((sasMirror_reports _ _ _ _).freesFrames.trans (.trans (.ite ?_ (.refl _))
    (collect_freesFrames _))))
  exact (sas_freesFrames _).trans (ctrInc_reports _ _).freesFrames

theorem evict_freesFrames (d : Dev) (k : Skein) : FreesFrames d (evict d k) :=
  (ctrInc_reports _ _).freesFrames.trans (freeSkein_freesFrames _ k)

theorem evict_homeStep (d : Dev) (k : Skein) : HomeStep d (evict d k) :=
  (ctrInc_sameSkeins _ _).toHomeStep.trans (freeSkein_homeStep _ k)

/-! ## The bobbin tier's own steps -/

theorem pumpBob_sas (d : Dev) : (pumpBob d).sas = d.sas := by
  unfold pumpBob
  refine (pumpReads_readsOnly _).sas.trans ?_
  dsimp only
  split <;> rfl

theorem pumpBob_reqs (d : Dev) : (pumpBob d).reqs = d.reqs := by
  unfold pumpBob
  refine (pumpReads_sameSkeins _).reqs.trans ?_
  dsimp only
  split <;> rfl

/-- `e` differs from `d` in the bobbin tier and in what was sent alone. -/
def BobOut (d e : Dev) : Prop := ∃ b o, e = { d with bob := b, out := o }

theorem BobOut.trans {a b c : Dev} (h : BobOut a b) (k : BobOut b c) : BobOut a c := by
  obtain ⟨_, _, rfl⟩ := h
  obtain ⟨_, _, rfl⟩ := k
  exact ⟨_, _, rfl⟩

theorem nextPageOf_bobOut {d e : Dev} {t l b p : Nat} (h : nextPageOf d t = some (l, b, p, e)) : BobOut d e := by
  unfold nextPageOf at h
  extract_lets x take at h
  split_ifs at h
  split at h
  · cases h
    exact ⟨_, _, rfl⟩
  · obtain ⟨y, -, hy⟩ := Option.map_eq_some_iff.mp h
    cases hy
    exact ⟨_, _, rfl⟩

theorem nextPlace_bobOut {d e : Dev} {n t l b p : Nat} (h : nextPlace d n = some (t, l, b, p, e)) : BobOut d e := by
  induction n generalizing d with
  | zero => cases h
  | succ n ih =>
    have hrot (r : Nat) : BobOut d { d with bob := { d.bob with rot := r } } := ⟨_, _, rfl⟩
    unfold nextPlace at h
    dsimp only at h
    split at h
    next hx =>
      cases h
      exact (hrot _).trans (nextPageOf_bobOut hx)
    · exact (hrot _).trans (ih h)

theorem programUnit_bobOut {d e : Dev} {key i : Nat} {slots : List (Option Nat)} {src : Option Nat}
    (h : programUnit d key slots src = some (i, e)) : BobOut d e := by
  unfold programUnit at h
  split at h
  · cases h
  next hx =>
    cases h
    exact (nextPlace_bobOut hx).trans ⟨_, _, rfl⟩

/-- Programs that start change the bobbin tier and send commands to its targets. -/
theorem programUnits_bobOut {d e : Dev} {key : Nat} {ss : List (List (Option Nat))} {us : List Nat}
    (h : programUnits key ss d = some (us, e)) : BobOut d e := by
  induction ss generalizing d us with
  | nil => cases h; exact ⟨_, _, rfl⟩
  | cons x xs ih =>
    unfold programUnits at h
    split at h
    · cases h
    next hx =>
      obtain ⟨⟨vs, y⟩, hy, hv⟩ := Option.map_eq_some_iff.mp h
      cases hv
      exact (programUnit_bobOut hx).trans (ih hy)

/-! ## Shipments that go on -/

/-- Frame `f` is mapped as `y` says, and nothing promotes it. -/
structure Raised (f : Nat) (y : Frame4K) (d : Dev) : Prop where
  frame : tget d.sas.frames f = some y
  promotions : ∀ p ∈ d.sas.promotions, p.frame ≠ f

/-- `e` came from `d` with the requests as they were, and with a frame `f` that was raised still raised. -/
structure KeepsRaised (f : Nat) (y : Frame4K) (d e : Dev) : Prop where
  reqs : e.reqs = d.reqs
  raised : Raised f y d → Raised f y e

section
variable {f : Nat} {y : Frame4K} {a b c d e : Dev}

theorem KeepsRaised.refl (d : Dev) : KeepsRaised f y d d := ⟨rfl, id⟩

theorem KeepsRaised.trans (h : KeepsRaised f y a b) (k : KeepsRaised f y b c) : KeepsRaised f y a c :=
  ⟨k.reqs.trans h.reqs, k.raised ∘ h.raised⟩

theorem KeepsRaised.of_tables (hr : e.reqs = d.reqs) (hf : e.sas.frames = d.sas.frames)
    (hp : e.sas.promotions = d.sas.promotions) : KeepsRaised f y d e :=
  ⟨hr, fun h => ⟨hf ▸ h.frame, hp ▸ h.promotions⟩⟩

theorem KeepsRaised.foldl {α : Type} {g : Dev → α → Dev} (h : ∀ d x, KeepsRaised f y d (g d x)) (l : List α) (d : Dev) :
    KeepsRaised f y d (l.foldl g d) := by
  induction l generalizing d with
  | nil => exact .refl d
  | cons x xs ih => exact (h d x).trans (ih _)

theorem KeepsRaised.ite {p : Prop} [Decidable p] (ha : KeepsRaised f y d a) (hb : KeepsRaised f y d b) :
    KeepsRaised f y d (if p then a else b) := by
  split <;> assumption

theorem Reports.keepsRaised (h : Reports d e) : KeepsRaised f y d e := .of_tables h.reqs (by rw [h.sas]) (by rw [h.sas])

theorem setSkein_keepsRaised (d : Dev) (k : Skein) : KeepsRaised f y d (setSkein d k) :=
  .of_tables (setSkein_homeStep d k).reqs (by rw [setSkein_sas]) (by rw [setSkein_sas])

theorem sendSvc_keepsRaised (d : Dev) (n : Nat) (m : Svc) : KeepsRaised f y d (sendSvc d n m).2 := by
  rcases sendSvc_reports d n m with h | h
  · exact h.keepsRaised
  · refine .trans ?_ h.keepsRaised
    exact .of_tables rfl rfl rfl

theorem postFlush_keepsRaised (d : Dev) (n : Nat) (u : SqFor) : KeepsRaised f y d (postFlush d n u) := by
  unfold postFlush
  refine .ite (.refl d) ?_
  split
  · exact (postEntry_reports _ _ _).keepsRaised
  · exact .refl d

/-- A frame that lies in the stack tier is not promoted. -/
theorem promoteFrame_keepsRaised (hy : y.unit = none) (d : Dev) (g : Nat) (op : Option Nat) (w : Option (Nat × Nat)) (c : Cls)
    (dl : Nat) : KeepsRaised f y d (promoteFrame d g op w c dl).2 := by
  refine ⟨(promoteFrame_sameSkeins d g op w c dl).reqs, fun h => ?_⟩
  unfold promoteFrame
  split
  · exact h
  next z hz =>
    split
    · exact h
    next u hu =>
      have hg : g ≠ f := by
        rintro rfl
        obtain rfl : z = y := Option.some.inj (hz.symm.trans h.frame)
        simp [hy] at hu
      split
      · exact h
      · have hread (e : Dev) (hr : Raised f y e) (n : Nat) : Raised f y (addRead e n c dl .promote) := by
          have := (addRead_readsOnly e n c dl .promote).sas
          exact ⟨this ▸ hr.frame, this ▸ hr.promotions⟩
        have hadd (p : Promotion) (hp : p.frame = g) : Raised f y { d with sas := { d.sas with
            promotions := d.sas.promotions ++ [p]
            frames := tset d.sas.frames g { z with moving := true } } } := by
          refine ⟨(tget_tset_other _ _ _ _ hg.symm).trans h.frame, fun x hx => ?_⟩
          rcases List.mem_append.mp hx with hx | hx
          · exact h.promotions x hx
          · rw [List.mem_singleton.mp hx, hp]; exact hg
        dsimp only
        split_ifs
        · exact h
        · exact hadd _ rfl
        · exact hread _ h _
        · exact hread _ (hadd _ rfl) _

theorem promoteAll_keepsRaised (hy : y.unit = none) (fs : List Nat) (op : Option Nat) (w : Option (Nat × Nat)) (c : Cls) (dl : Nat)
    (d : Dev) : KeepsRaised f y d (promoteAll fs op w c dl d).2 := by
  unfold promoteAll
  refine List.foldlRecOn (motive := fun x : Option Nat × Dev => KeepsRaised f y d x.2) _ _ (.refl d) (fun x h g _ => ?_)
  split
  · exact h
  · exact h.trans (promoteFrame_keepsRaised hy _ _ _ _ _ _)

theorem shipReady_keepsRaised (hy : y.unit = none) (d : Dev) (k : Skein) (rs : List PageRef) :
    KeepsRaised f y d (shipReady d k rs).2 := by
  unfold shipReady
  extract_lets fs c e
  have he : KeepsRaised f y d e := by
    unfold e
    split
    · exact (ctrInc_reports _ _).keepsRaised
    · exact .refl d
  split
  · exact .refl d
  · exact he.trans (promoteAll_keepsRaised hy _ _ _ _ _ _)

/-- A read that finds no line in error counts poisoned lines alone. -/
theorem readRanges_nil_reports (d : Dev) (rs : List (Nat × Nat)) : Reports d (readRanges [] rs d).2 := by
  induction rs generalizing d with
  | nil => exact .refl d
  | cons r rs ih =>
    have hp : Reports d (poisonRead d r.1 r.2).2 := by
      unfold poisonRead
      split
      · exact .refl d
      · exact ctrInc_reports _ _
    unfold readRanges
    extract_lets p q
    have hq : Reports d q.2 := by unfold q; split <;> exact hp
    split
    · exact hq
    · exact hq.trans (ih _)

theorem countCoded_reports (d : Dev) (bs : List StoredBlock) : Reports d (countCoded d bs) :=
  .foldl _ (fun d _ => (ctrAdd_reports d _ _).trans (.ite (ctrInc_reports _ _) ((ctrInc_reports _ _).trans (ctrInc_reports _ _)))) _ d

theorem decodeError_keepsRaised (d : Dev) (ref : OpRef) (fc n k : Nat) : KeepsRaised f y d (decodeError d ref fc n k) := by
  refine .trans ?_ ((faultOp_reports _ _ _ _ _ _).trans (ctrInc_reports _ _)).keepsRaised
  exact .of_tables rfl rfl rfl

theorem lookGroup_keepsRaised (d : Dev) (n : Nat) : KeepsRaised f y d (lookGroup d n) := by
  have hcache (e : Dev) (x : List Nat) (he : KeepsRaised f y d e) :
      KeepsRaised f y d (ctrInc { e with sas := { e.sas with indexCache := x } } cIdxMisses) := by
    refine he.trans (.trans ?_ (ctrInc_reports _ _).keepsRaised)
    exact .of_tables rfl rfl rfl
  exact .ite (ctrInc_reports _ _).keepsRaised (.ite (hcache d _ (.refl d)) (hcache _ _ (.of_tables rfl rfl rfl)))

theorem shuttleBody_keepsRaised (d : Dev) (x : PageBody) (n : Nat) : KeepsRaised f y d (shuttleBody d x n) :=
  (KeepsRaised.foldl lookGroup_keepsRaised _ d).trans ((ctrAdd_reports _ _ _).trans (ctrAdd_reports _ _ _)).keepsRaised

theorem expandBody_reports (d : Dev) (s : Shape) (x : PageBody) : Reports d (expandBody d s x).2 := by
  unfold expandBody
  split
  · have h := countExpanded_reports d x.blocks
    extract_lets thin n e
    split
    · split
      · exact h.trans (ctrAdd_reports _ _ _)
      · exact h
    · exact h
  · exact countExpanded_reports _ _

theorem travelPart_keepsRaised (d : Dev) (k : Skein) (r : PageRef) : KeepsRaised f y d (travelPart d k r).2 := by
  unfold travelPart
  split
  · exact .refl d
  next x _ =>
    extract_lets p z bs
    split
    · have h : KeepsRaised f y d z.2 := (expandBody_reports d k.shape x).keepsRaised.trans (shuttleBody_keepsRaised _ _ _)
      split
      · exact h
      · exact h.trans (countCoded_reports _ _).keepsRaised
    · split
      · exact .refl d
      · exact shuttleBody_keepsRaised _ _ _

theorem travelParts_keepsRaised (d : Dev) (k : Skein) (ref : OpRef) (rs : List PageRef) :
    KeepsRaised f y d (travelParts d k ref rs).2 := by
  induction rs generalizing d with
  | nil => exact .refl d
  | cons r rs ih =>
    have h : KeepsRaised f y d (travelPart d k r).2 := travelPart_keepsRaised d k r
    unfold travelParts
    dsimp only
    split
    · exact h.trans (ih _)
    · exact (h.trans (decodeError_keepsRaised _ _ _ _ _)).trans (ih _)

theorem homeWindowEnd_keepsRaised (d : Dev) (k : Skein) (ok : Bool) : KeepsRaised f y d (homeWindowEnd d k ok) :=
  .ite (.refl d) (.ite (setSkein_keepsRaised _ _) ((setSkein_keepsRaised _ _).trans
    ((faultOp_reports _ _ _ _ _ _).keepsRaised.trans (sendSvc_keepsRaised _ _ _))))

theorem fetchShip_keepsRaised (hy : y.unit = none) (d : Dev) (k : Skein) (frm : Nat) : KeepsRaised f y d (fetchShip d k frm []) := by
  unfold fetchShip
  extract_lets rs ended
  have hship := shipReady_keepsRaised (f := f) hy d k rs
  split
  next e he =>
    rw [he] at hship
    exact hship.trans (setSkein_keepsRaised _ _)
  next e he =>
    rw [he] at hship
    have hread := (readRanges_nil_reports e (refRanges e rs)).keepsRaised (f := f) (y := y)
    refine hship.trans ?_
    split
    next bad x hx =>
    rw [hx] at hread
    refine hread.trans (.ite ((setSkein_keepsRaised _ _).trans (faultOp_reports _ _ _ _ _ _).keepsRaised) ?_)
    have htravel := travelParts_keepsRaised (f := f) (y := y) x k k.ref rs
    exact htravel.trans ((setSkein_keepsRaised _ _).trans (sendSvc_keepsRaised _ _ _))

theorem homeWindow_keepsRaised (hy : y.unit = none) (d : Dev) (k : Skein) : KeepsRaised f y d (homeWindow d k) := by
  have hend (e : Dev) (x : Skein) : KeepsRaised f y e (homeWindowEnd (setSkein e x) x false) :=
    (setSkein_keepsRaised e x).trans (homeWindowEnd_keepsRaised _ x false)
  unfold homeWindow
  refine .ite (.refl d) ?_
  extract_lets rs sent
  refine .ite (hend d sent) ?_
  have hship := shipReady_keepsRaised (f := f) hy d k rs
  split
  next e he =>
    rw [he] at hship
    exact hship.trans (setSkein_keepsRaised _ _)
  next e he =>
    rw [he] at hship
    have hread := (readRanges_nil_reports e (refRanges e rs)).keepsRaised (f := f) (y := y)
    refine hship.trans ?_
    split
    next bad x hx =>
    rw [hx] at hread
    refine hread.trans (.ite ?_ ?_)
    · exact (setSkein_keepsRaised _ _).trans ((faultOp_reports _ _ _ _ _ _).keepsRaised.trans (homeWindowEnd_keepsRaised _ _ _))
    · have htravel := travelParts_keepsRaised (f := f) (y := y) x k k.ref rs
      refine htravel.trans (.ite (hend _ sent) ?_)
      exact (setSkein_keepsRaised _ sent).trans ((sendSvc_keepsRaised _ _ _).trans
        (.ite (postFlush_keepsRaised _ _ _) (homeWindowEnd_keepsRaised _ _ _)))

/-- Shipments that go on leave the requests, and leave a raised frame raised. -/
theorem pumpShips_keepsRaised (hy : y.unit = none) (d : Dev) : KeepsRaised f y d (pumpShips d) := by
  refine .foldl (fun d k => ?_) _ d
  extract_lets e
  have hfetch : KeepsRaised f y d e := by
    unfold e
    split
    · exact fetchShip_keepsRaised hy _ _ _
    · exact .refl d
  refine hfetch.trans ?_
  split
  · exact .ite (homeWindow_keepsRaised hy _ _) (.refl _)
  · exact .refl _

/-- Where no shipment waits, none goes on. -/
theorem pumpShips_nothing (h : ∀ k ∈ d.sas.skeins, k.fetchDue = none ∧ k.windowDue = false) : pumpShips d = d := by
  have hnone : d.sas.skeins.filter (fun k => (k.windowDue || k.fetchDue.isSome) && k.state != .aborted) = [] := by
    rw [List.filter_eq_nil_iff]
    intro k hk
    obtain ⟨hf, hw⟩ := h k hk
    simp [hf, hw]
  unfold pumpShips
  rw [hnone]
  rfl

end

end Sys2Proof.Machine
end

section
/-! # Movement between the tiers (R250 to R263, R345) -/

namespace Sys2Proof.Machine

open Sys2Proof

section
variable {s : State} {d : Dev} {k : Skein}

/-! ## Promotions and walks -/

/-- A promoted frame has been written to a stack frame, before what waited for it goes on (R250). -/
def framePromoted (d : Dev) (f ph h n : Nat) : Dev :=
  let d := if h == n then d else ctrInc d (cStack h 0x120)
  let d := ctrInc (clearPoison (dropUnitSlot d f) n ph) cPromoted
  { d with sas := { d.sas with
    frames := tset d.sas.frames f { stack := some n, phys := ph }
    bobFullTold := false
    promotions := d.sas.promotions.filter (fun p => p.frame != f) } }

theorem framePromoted_raised (d : Dev) (f ph h n : Nat) : Raised f { stack := some n, phys := ph } (framePromoted d f ph h n) :=
  ⟨tget_tset_same _ _ _, fun p hp => by simpa using (List.mem_filter.mp hp).2⟩

theorem framePromoted_reqs (d : Dev) (f ph h n : Nat) : (framePromoted d f ph h n).reqs = d.reqs := by
  have hcount : (if h == n then d else ctrInc d (cStack h 0x120)).reqs = d.reqs := by split <;> simp
  unfold framePromoted
  dsimp only
  rw [ctrInc_reqs]
  exact (dropUnitSlot_sameSkeins _ f).reqs.trans hcount

theorem execFramePromotionDone_maps {f ph h n : Nat} (hp : ∃ p ∈ s.dev.sas.promotions, p.frame = f ∧ p.read)
    (hpick : pickStack s.dev f = some (h, n)) (hph : ph < stackPhys) (hpin : pinnedOn s.dev n ≤ ph) (hfree : ph ∉ physOn s.dev n) :
    exec (.framePromotionDone f ph) s = .next (s.setDev (collect (pumpShips (pumpBob (framePromoted s.dev f ph h n))))) := by
  have hany : s.dev.sas.promotions.any (fun p => p.frame == f && p.read) = true := by
    obtain ⟨p, hp, rfl, hr⟩ := hp
    exact List.any_eq_true.mpr ⟨p, hp, by simp [hr]⟩
  have hfits : (decide (stackPhys ≤ ph) || decide (ph < pinnedOn s.dev n) || (physOn s.dev n).contains ph) = false := by
    simp only [Bool.or_eq_false_iff, decide_eq_false_iff_not, not_le, not_lt]
    exact ⟨⟨hph, hpin⟩, by simpa using hfree⟩
  show execFramePromotionDone f ph s = _
  simp only [execFramePromotionDone, onTier, onDevC, onDev, hany, hpick, hfits, Bool.not_true, Bool.false_eq_true, if_false]
  rfl

theorem execLayerWalkDone_ends {id : U64} {l : Nat} (hk : findSkein s.dev id = some k) (hw : (k.layer l).walking = true)
    (hp : ∀ p ∈ s.dev.sas.promotions, p.walk ≠ some (k.slot, l)) :
    exec (.layerWalkDone id l) s = .next (s.setDev (setSkein s.dev
      (k.setLayer l { k.layer l with walking := false, nr := nonResident s.dev k l }))) := by
  have hnone : s.dev.sas.promotions.any (fun p => p.walk == some (k.slot, l)) = false := by
    rw [List.any_eq_false]
    exact fun p hm => by simpa using hp p hm
  show execLayerWalkDone id l s = _
  simp only [execLayerWalkDone, onDev, hk, hw, hnone, Bool.not_true, Bool.or_false, Bool.false_eq_true, if_false]

@[simp] theorem layer_setLayer (k : Skein) (l : Nat) (x : LayerDir) : (k.setLayer l x).layer l = x := by
  simp [Skein.layer, Skein.setLayer, tgetD, tget_tset_same]

/-! ## Demotions -/

/-- Frames that switch to their units leave the tables of skeins, and what moves. -/
theorem switchDown_tables (d : Dev) (us fs : List Nat) (n : Nat) (ok : Nat → Bool) :
    SameSkeins d (switchDown d us fs n ok) ∧ SameMoves d (switchDown d us fs n ok) := by
  unfold switchDown
  extract_lets go late e frames
  have he : ∃ stk, e = { d with stk := stk } := by
    refine List.foldlRecOn (motive := fun x : Dev => ∃ stk, x = { d with stk := stk }) _ _ ⟨_, rfl⟩ (fun x hx f _ => ?_)
    obtain ⟨stk, rfl⟩ := hx
    split
    · split
      · exact ⟨_, rfl⟩
      · exact ⟨_, rfl⟩
    · exact ⟨_, rfl⟩
  clear_value e
  obtain ⟨stk, rfl⟩ := he
  exact ⟨tables_sameSkeins d, rfl, rfl, rfl, rfl⟩

/-- A demotion is no longer under way. -/
def dropDemotion (d : Dev) (x : Demotion) : Dev :=
  { d with sas := { d.sas with demotions := dropFirst (fun y => y == x) d.sas.demotions } }

/-- A layer that has one more page below the stack tier (R254). -/
def Skein.pageBelow (k : Skein) (l : Nat) : Skein := k.setLayer l { k.layer l with nr := (k.layer l).nr + 1 }

/-- A demotion's page has moved down: its frames have switched, and its layer has one more page below (R251, R254). -/
def pageDemoted (d : Dev) (k : Skein) (x : Demotion) : Dev :=
  let e := dropDemotion d x
  setSkein (ctrAdd (switchDown e x.units x.frames x.body (stillUp e)) cDemoted (x.frames.filter (stillUp e)).length)
    (k.pageBelow x.layer)

theorem execPageDemotionDone_switches {id : U64} {x : Demotion} {r : PageRef} (hk : findSkein s.dev id = some k)
    (hx : s.dev.sas.demotions.find? (fun y => y.skein == k.slot && y.layer == x.layer && y.page == x.page) = some x)
    (hthin : x.thinned = none) (hu : ∀ i ∈ x.units, ∀ u, unitAt s.dev i = some u → u.written = true)
    (hr : k.page? x.layer x.page = some r) (hbody : r.body = x.body) (hown : r.foreign = false) (hrefs : bodyRefs s.dev x.body = 1) :
    exec (.pageDemotionDone id x.layer x.page) s = .next (s.setDev (collect (pumpShips (pumpBob (pageDemoted s.dev k x))))) := by
  have hpage (e : Dev) (he : bodyRefs e x.body = 1) :
      (some r).filter (fun r => r.body == x.body && !r.foreign && bodyRefs e x.body == 1) = some r := by
    simp [Option.filter, hbody, hown, he]
  show execPageDemotionDone id x.layer x.page s = _
  simp only [execPageDemotionDone, onTier, onDevC, onDev, hk, hx]
  rw [if_neg]
  · rw [hr, hpage, hthin]
    · rfl
    · exact hrefs
  · simp only [Bool.not_eq_true', Bool.not_eq_false, List.all_eq_true]
    intro i hi
    split
    next u hat => exact hu i hi u hat
    next => rfl

theorem mem_replaceFirst_cases {α : Type} {p : α → Bool} {v x : α} {l : List α} (h : x ∈ replaceFirst p v l) : x = v ∨ x ∈ l := by
  induction l with
  | nil => cases h
  | cons a l ih =>
    unfold replaceFirst at h
    split at h
    · exact (List.mem_cons.mp h).imp id (List.mem_cons_of_mem _)
    · rcases List.mem_cons.mp h with rfl | h
      · exact .inr List.mem_cons_self
      · exact (ih h).imp id (List.mem_cons_of_mem _)

section
variable (d : Dev) (k : Skein) (x : Demotion)

theorem pageDemoted_demotions : (pageDemoted d k x).sas.demotions = dropFirst (fun y => y == x) d.sas.demotions := by
  obtain ⟨-, hmoves⟩ := switchDown_tables (dropDemotion d x) x.units x.frames x.body (stillUp (dropDemotion d x))
  unfold pageDemoted
  rw [setSkein_sas, ctrAdd_sas]
  exact hmoves.demotions

theorem pageDemoted_skeins : (pageDemoted d k x).sas.skeins =
    replaceFirst (fun y => y.slot == k.slot) (k.pageBelow x.layer) d.sas.skeins := by
  obtain ⟨hsame, -⟩ := switchDown_tables (dropDemotion d x) x.units x.frames x.body (stillUp (dropDemotion d x))
  unfold pageDemoted
  rw [setSkein_sas, ctrAdd_sas]
  exact congrArg (replaceFirst _ _) hsame.skeins

theorem pageDemoted_homeStep : HomeStep d (pageDemoted d k x) := by
  obtain ⟨hsame, -⟩ := switchDown_tables (dropDemotion d x) x.units x.frames x.body (stillUp (dropDemotion d x))
  exact (sas_homeStep d _).trans (hsame.toHomeStep.trans ((ctrAdd_sameSkeins _ _ _).toHomeStep.trans (setSkein_homeStep _ _)))

end

/-! ## Reclaim -/

theorem execStackReclaim_evicts (hlow : 256 * stackComing s.dev < img s.dev 0x80000 15 8 * stackTotal s.dev)
    (hcust : s.dev.flt.custody = .normal) {e : Dev} (he : e = { s.dev with sas := { s.dev.sas with reclaim := true } })
    (hno : bobTakes e = false ∨ oldestLayer e = none)
    (hk : oldestPrefix e (fun k => !(upFrames e (skeinFrames e k)).isEmpty) = some k) :
    exec .stackReclaim s = .next (s.setDev (collect (evict e k))) := by
  show execStackReclaim s = _
  unfold execStackReclaim onDevC onDev
  simp only [hlow, decide_true, Bool.true_or, hcust, Bool.not_true, bne_self_eq_false, Bool.or_self, Bool.false_eq_true, if_false]
  rw [← he]
  rcases hno with hno | hno
  · simp only [hno, hk, Bool.not_false, if_true]
  · cases bobTakes e <;> simp only [hno, hk, Bool.not_false, Bool.not_true, Bool.false_eq_true, if_true, if_false]

theorem execStackReclaim_demotes (hlow : 256 * stackComing s.dev < img s.dev 0x80000 15 8 * stackTotal s.dev)
    (hcust : s.dev.flt.custody = .normal) {e : Dev} (he : e = { s.dev with sas := { s.dev.sas with reclaim := true } })
    {l : Nat} {r : PageRef} {b : PageBody} (ht : bobTakes e = true) (ho : oldestLayer e = some (k, l)) (hl : layerPages e k l = [r])
    (hat : skeinAt e k.slot = some k) (hthin : k.thinOk = false) (hb : findBody e r.body = some b) :
    exec .stackReclaim s = .next (s.setDev (collect (demoteWhole e k r b))) := by
  have hpage : demotePage e k r = demoteWhole e k r b := by simp [demotePage, hb, hthin]
  show execStackReclaim s = _
  unfold execStackReclaim onDevC onDev
  simp only [hlow, decide_true, Bool.true_or, hcust, Bool.not_true, bne_self_eq_false, Bool.or_self, Bool.false_eq_true, if_false]
  rw [← he]
  simp only [ht, ho, hl, List.foldl_cons, List.foldl_nil, hat, Option.getD_some, hpage, Bool.not_true, Bool.false_eq_true, if_false]

/-- A page whose units find room to be programmed is being demoted, and nothing else moves. -/
theorem demoteWhole_starts {r : PageRef} {b : PageBody}
    (hp : (programUnits k.tenant (packUnits (upFrames d b.frames)) d).isSome = true) :
    (demoteWhole d k r b).reqs = d.reqs ∧ (demoteWhole d k r b).sas.reclaim = d.sas.reclaim ∧
      ∃ x ∈ (demoteWhole d k r b).sas.demotions, x.skein = k.slot ∧ x.layer = r.layer ∧ x.page = r.page ∧ x.body = b.id := by
  obtain ⟨⟨us, e⟩, hus⟩ := Option.isSome_iff_exists.mp hp
  obtain ⟨_, _, rfl⟩ := programUnits_bobOut hus
  unfold demoteWhole demoteFrames
  dsimp only
  rw [hus]
  exact ⟨rfl, rfl, _, List.mem_append_right _ List.mem_cons_self, rfl, rfl, rfl, rfl⟩

theorem execBobbinReclaim_evicts (hready : tierReady s.dev = true)
    (hlow : 256 * bobRoom s.dev < img s.dev 0x80000 31 24 * s.dev.bob.totalFrames) (hcust : s.dev.flt.custody = .normal)
    {e : Dev} (he : e = { s.dev with sas := { s.dev.sas with bobReclaim := true } })
    (hk : oldestPrefix e (fun k => !(lowFrames e (skeinFrames e k)).isEmpty) = some k) :
    exec .bobbinReclaim s = .next (s.setDev (collect (evict e k))) := by
  show execBobbinReclaim s = _
  unfold execBobbinReclaim onDevC onDev
  simp only [hready, hlow, decide_true, Bool.true_or, Bool.and_self, hcust, Bool.not_true, bne_self_eq_false, Bool.or_self,
    Bool.false_eq_true, if_false]
  rw [← he]
  simp only [hk]

/-- An evicted skein is gone, and the reclaim that evicted it goes on. -/
theorem collect_evict (d : Dev) (k : Skein) :
    FreesFrames d (collect (evict d k)) ∧ (∀ x ∈ (collect (evict d k)).sas.skeins, x.slot ≠ k.slot) ∧
      (collect (evict d k)).reqs = d.reqs := by
  have hc := collect_sameSkeins (evict d k)
  exact ⟨(evict_freesFrames d k).trans (collect_freesFrames _), fun x hx => freeSkein_slot (hc.skeins ▸ hx),
    hc.reqs.trans (evict_homeStep d k).reqs⟩

end

/-- A promotion's end maps its frame; neither the shipments that go on nor what is freed then touches more of the frame than to free
it. -/
theorem framePromotionDone_completes {s : State} {f ph h n : Nat} (hp : ∃ p ∈ s.dev.sas.promotions, p.frame = f ∧ p.read)
    (hpick : pickStack s.dev f = some (h, n)) (hph : ph < stackPhys) (hpin : pinnedOn s.dev n ≤ ph) (hfree : ph ∉ physOn s.dev n) :
    Completes (.framePromotionDone f ph) s (fun d => (∀ p ∈ d.sas.promotions, p.frame ≠ f) ∧
      (tget d.sas.frames f = some { stack := some n, phys := ph } ∨ tget d.sas.frames f = none) ∧ d.reqs = s.dev.reqs) := by
  refine ⟨_, execFramePromotionDone_maps hp hpick hph hpin hfree, ?_⟩
  generalize he : framePromoted s.dev f ph h n = e
  have hreqs : e.reqs = s.dev.reqs := he ▸ framePromoted_reqs _ _ _ _ _
  have hpump : KeepsRaised f { stack := some n, phys := ph } e (pumpShips (pumpBob e)) :=
    .trans (.of_tables (pumpBob_reqs _) (by rw [pumpBob_sas]) (by rw [pumpBob_sas])) (pumpShips_keepsRaised rfl _)
  have hraised := hpump.raised (he ▸ framePromoted_raised _ _ _ _ _)
  have hfreed := collect_freesFrames (pumpShips (pumpBob e))
  refine ⟨by rw [hfreed.promotions]; exact hraised.promotions, ?_, (collect_sameSkeins _).reqs.trans (hpump.reqs.trans hreqs)⟩
  rw [← hraised.frame]
  exact hfreed.frames f

/-- A demotion's end takes it off the list, and its page's layer counts one more page below. -/
theorem pageDemotionDone_completes {s : State} {k : Skein} {id : U64} {x : Demotion} {r : PageRef} (hk : findSkein s.dev id = some k)
    (hx : s.dev.sas.demotions.find? (fun y => y.skein == k.slot && y.layer == x.layer && y.page == x.page) = some x)
    (hthin : x.thinned = none) (hu : ∀ i ∈ x.units, ∀ u, unitAt s.dev i = some u → u.written = true)
    (hr : k.page? x.layer x.page = some r) (hbody : r.body = x.body) (hown : r.foreign = false) (hrefs : bodyRefs s.dev x.body = 1)
    (hdue : ∀ y ∈ s.dev.sas.skeins, y.fetchDue = none ∧ y.windowDue = false) :
    Completes (.pageDemotionDone id x.layer x.page) s (fun d => d.sas.demotions = dropFirst (fun y => y == x) s.dev.sas.demotions ∧
      skeinIs d k.slot (fun y => y.id = id ∧ (y.layer x.layer).nr = (k.layer x.layer).nr + 1) ∧ d.reqs = s.dev.reqs) := by
  have hid : k.id = id := findSkein_id hk
  have hmem := List.mem_of_find?_eq_some hk
  refine ⟨_, execPageDemotionDone_switches hk hx hthin hu hr hbody hown hrefs, ?_⟩
  have hdemotions := pageDemoted_demotions s.dev k x
  have hskeins := pageDemoted_skeins s.dev k x
  have hreqs := (pageDemoted_homeStep s.dev k x).reqs
  generalize pageDemoted s.dev k x = e at hdemotions hskeins hreqs ⊢
  have hship : pumpShips (pumpBob e) = pumpBob e := by
    refine pumpShips_nothing (fun y hy => ?_)
    rw [pumpBob_sas, hskeins] at hy
    rcases mem_replaceFirst_cases hy with rfl | hy
    · exact hdue k hmem
    · exact hdue y hy
  rw [hship]
  have hfreed := collect_freesFrames (pumpBob e)
  have hsame := collect_sameSkeins (pumpBob e)
  refine ⟨by rw [hfreed.demotions, pumpBob_sas, hdemotions], hsame.skeinIs ?_, hsame.reqs.trans ((pumpBob_reqs _).trans hreqs)⟩
  unfold skeinIs
  rw [pumpBob_sas, hskeins]
  exact ⟨_, mem_replaceFirst ⟨k, hmem, by simp⟩, rfl, hid, by simp [Skein.pageBelow]⟩

/-- Settles O46: a promotion's end maps the frame, a walk's end and a demotion's end store their layer, and reclaim takes the first of its
choices; what is freed on the way leaves all of this and reclaim's decisions alone. When reclaim runs, and which pages it may demote,
is the model's choice (log entry 51). -/
theorem tierCommandsComplete : Obligations.TierCommandsComplete := by
  unfold Obligations.TierCommandsComplete
  intro s
  refine ⟨fun f ph h n hp hpick hph hpin hfree => framePromotionDone_completes hp hpick hph hpin hfree, ?_,
    fun id k x r hk hx hthin hu hr hbody hown hrefs hdue => pageDemotionDone_completes hk hx hthin hu hr hbody hown hrefs hdue, ?_, ?_⟩
  · intro id k l hk hw hp
    have hid : k.id = id := findSkein_id hk
    exact ⟨_, execLayerWalkDone_ends hk hw hp, skeinIs_setSkein (findSkein_is hk) rfl ⟨hid, by simp, by simp, rfl⟩,
      (setSkein_homeStep _ _).reqs⟩
  · intro e hlow hcust
    refine ⟨fun k hno hk => ⟨_, execStackReclaim_evicts (e := e) hlow hcust rfl hno hk, ?_⟩,
      fun k l r b ht ho hl hat hthin hb hp => ⟨_, execStackReclaim_demotes (e := e) hlow hcust rfl ht ho hl hat hthin hb, ?_⟩⟩
    · obtain ⟨hfreed, hgone, hreqs⟩ := collect_evict e k
      exact ⟨hfreed.reclaim, hgone, hreqs⟩
    · obtain ⟨hreqs, hrec, hstarted⟩ := demoteWhole_starts (r := r) hp
      have hfreed := collect_freesFrames (demoteWhole e k r b)
      exact ⟨hfreed.reclaim.trans hrec, (collect_sameSkeins _).reqs.trans hreqs, by rwa [hfreed.demotions]⟩
  · intro e hready hlow hcust k hk
    obtain ⟨hfreed, hgone, hreqs⟩ := collect_evict e k
    refine ⟨_, execBobbinReclaim_evicts (e := e) hready hlow hcust rfl hk, ?_⟩
    exact ⟨hfreed.bobReclaim, hgone, hreqs⟩

end Sys2Proof.Machine
end

section
/-! # What ends service leaves of the memory stacks (R120, R710)

Step after step of custody entry: operations, requests and fabric runs end, and no stack's record changes. -/

namespace Sys2Proof.Machine

open Sys2Proof

section
variable (d : Dev)

theorem foldl_stk {α : Type} {f : Dev → α → Dev} (h : ∀ d x, (f d x).stk = d.stk) (l : List α) : (l.foldl f d).stk = d.stk := by
  induction l generalizing d with
  | nil => rfl
  | cons x l ih => exact (ih _).trans (h d x)

theorem ite_stk {p : Prop} [Decidable p] {a b : Dev} (ha : a.stk = d.stk) (hb : b.stk = d.stk) :
    (if p then a else b).stk = d.stk := by
  split <;> assumption

/-! ## Operations -/

@[simp] theorem complete_stk (ref : OpRef) (st b x y : Nat) : (complete d ref st b x y).stk = d.stk := (complete_reports _ _ _ _ _ _).stk

@[simp] theorem farEnd_stk (fl : Nat) (ret : U64) (st b : Nat) : (farEnd d fl ret st b).stk = d.stk := (emitWA_reports _ _).stk

@[simp] theorem withdraw_stk (i : Nat) : (withdraw d i).stk = d.stk := ite_stk d rfl rfl

@[simp] theorem handOver_stk (o : Op) : (handOver d o).stk = d.stk := by
  unfold handOver
  split
  · split
    · rfl
    · split
      · exact ite_stk d rfl rfl
      · rfl
  · rfl

/-- An operation leaves the admission unit and the send queues. -/
theorem dropped_stk (o : Op) : (withdraw (dropOp (handOver d o) o.id) o.id).stk = d.stk :=
  (withdraw_stk _ _).trans (handOver_stk d o)

@[simp] theorem opEnds_stk (o : Op) (st : Nat) : (opEnds d o st).stk = d.stk := by
  unfold opEnds
  split
  · exact (farEnd_stk _ _ _ _ _).trans (ctrInc_stk d _)
  · exact (complete_stk _ _ _ _ _ _).trans (ctrInc_stk d _)
  · exact complete_stk d _ _ _ _ _

@[simp] theorem endOp_stk (o : Op) (st : Nat) : (endOp d o st).stk = d.stk := (opEnds_stk _ _ _).trans (dropped_stk d o)

@[simp] theorem failOp_stk (o : Op) (c st : Nat) : (failOp d o c st).stk = d.stk := by
  unfold failOp
  extract_lets d1 d2 d3
  have h2 : d2.stk = d.stk := ite_stk d ((ctrInc_stk _ _).trans (dropped_stk d o)) (dropped_stk d o)
  exact (opEnds_stk _ _ _).trans ((faultOp_reports _ _ _ _ _ _).stk.trans h2)

theorem failAll_stk (p : Op → Bool) (c st : Nat) : (failAll d p c st).stk = d.stk := foldl_stk d (fun d o => failOp_stk d o c st) _

/-! ## Requests -/

@[simp] theorem setReq_stk (r : Req) : (setReq d r).stk = d.stk := (mirrorPush_reports _ _).stk

@[simp] theorem sendSvc_stk (n : Nat) (m : Svc) : (sendSvc d n m).2.stk = d.stk := by
  rcases sendSvc_reports d n m with h | h <;> exact h.stk

@[simp] theorem endReq_stk (r : Req) (st c a : Nat) : (endReq d r st c a).2.stk = d.stk := by
  have hend : (writeEnd d r st c a).2.stk = d.stk := by
    unfold writeEnd
    extract_lets bs
    split
    · rfl
    · exact (sendEnd_reports _ _ _).stk
  exact (setReq_stk _ _).trans ((foldl_stk _ (fun d a => complete_stk d _ _ _ _ _) _).trans hend)

@[simp] theorem sendRelease_stk (r : Req) : (sendRelease d r).stk = d.stk := (sendSvc_stk _ _ _).trans (setReq_stk d _)

@[simp] theorem shipNext_stk (r : Req) : (shipNext d r).stk = d.stk := by
  have hfault : (appendFault d r).stk = d.stk := (faultOp_reports _ _ _ _ _ _).stk
  unfold shipNext
  refine ite_stk d (setReq_stk d _) (ite_stk d (ite_stk d ((setReq_stk _ _).trans ?_) ?_)
    (ite_stk d (sendRelease_stk d _) (setReq_stk d _)))
  · dsimp only
    split
    · exact ite_stk d (sendSvc_stk d _ _) ((postEntry_reports _ _ _).stk.trans (sendSvc_stk d _ _))
    · exact sendSvc_stk d _ _
  · exact ite_stk d ((sendRelease_stk _ _).trans hfault) ((setReq_stk _ _).trans hfault)

@[simp] theorem genEnd_stk (r : Req) (st c a : Nat) : (genEnd d r st c a).stk = d.stk :=
  ite_stk d ((sendSvc_stk _ _ _).trans (endReq_stk d _ _ _ _)) ((shipNext_stk _ _).trans (endReq_stk d _ _ _ _))

@[simp] theorem promptEnd_stk (r : Req) (st c a : Nat) : (promptEnd d r st c a).stk = d.stk := by
  have hend : (endReq (dropView d r).2 (dropView d r).1 st c a).2.stk = d.stk :=
    (endReq_stk _ _ _ _ _).trans (freeSpans_frees _ _ _).stk
  exact ite_stk d ((setReq_stk _ _).trans hend) ((sendSvc_stk _ _ _).trans hend)

theorem endOwned_stk (p : Req → Bool) (st : Nat) : (endOwned d p st).stk = d.stk := by
  unfold endOwned
  refine foldl_stk d (fun d n => ?_) _
  split
  · rfl
  · exact ite_stk d rfl (ite_stk d (genEnd_stk d _ _ _ _) (promptEnd_stk d _ _ _ _))

/-! ## Service as a whole -/

theorem stopFabric_stk (st : Nat) : (stopFabric d st).stk = d.stk := by
  unfold stopFabric
  refine (foldl_stk _ (fun d o => ?_) _).trans (ctrAdd_stk d _ _)
  split
  · exact endOp_stk d _ _
  · rfl

@[simp] theorem stopService_stk (st : Nat) : (stopService d st).stk = d.stk := by
  unfold stopService
  refine (endOwned_stk _ _ _).trans ((failAll_stk _ _ _ _).trans ((stopFabric_stk _ _).trans (foldl_stk _ (fun d x => ?_) _)))
  split
  · exact farEnd_stk d _ _ _ _
  · exact complete_stk d _ _ _ _ _

/-- The device is in custody after a trigger, whatever its custody was. -/
theorem enterCustody_custody (t : Nat) : (enterCustody d t).flt.custody = .custody := by
  unfold enterCustody
  extract_lets was d1 go
  have hgo (e : Dev) : (go e).flt.custody = .custody := (tellSensors_custody was e t (now e)).1
  split
  next h => exact h
  · exact hgo _
  · exact hgo _

@[simp] theorem enterCustody_stk (t : Nat) : (enterCustody d t).stk = d.stk := by
  unfold enterCustody
  extract_lets was d1 go
  have h1 : (detectDevice d1 0xA10 t 0).stk = d.stk := (detectDevice_reports _ _ _ _).stk.trans (ctrInc_stk d _)
  have hgo (e : Dev) : (go e).stk = e.stk := (tellSensors_reports _ _).stk
  split
  · exact ctrInc_stk d _
  · exact (hgo _).trans h1
  · exact (hgo _).trans ((stopService_stk _ _).trans h1)

end

end Sys2Proof.Machine
end

section
/-! # The commands of the memory stacks (R292 to R301, R316) -/

namespace Sys2Proof.Machine

open Sys2Proof

/-! ## A stack's record -/

section
variable {d e : Dev} {n k : Nat} {u : StackUnit}

theorem stackAt_congr (h : e.stk = d.stk) (n : Nat) : stackAt e n = stackAt d n := by
  unfold stackAt; rw [h]

theorem stackAt_setStack_same (h : n < d.stk.units.length) : stackAt (setStack d n u) n = u := by
  simp [stackAt, setStack, List.getD_eq_getElem?_getD, h]

theorem stackAt_setStack_other (h : k ≠ n) : stackAt (setStack d n u) k = stackAt d k := by
  simp [stackAt, setStack, List.getD_eq_getElem?_getD, h.symm]

theorem setStack_units_length : (setStack d n u).stk.units.length = d.stk.units.length := List.length_set

theorem stackAt_mem (h : n < d.stk.units.length) : stackAt d n ∈ d.stk.units := by
  simp [stackAt, List.getD_eq_getElem?_getD, h]

theorem stkLoss_reports (d : Dev) (n : Nat) : Reports d (stkLoss d n) := .ite (.refl d) (detect_reports _ _ _ _ _ _)

/-- A reading of a sensor changes monitoring alone; its crossings are reported. -/
theorem tempRead_reports (d : Dev) (i : Nat) (th : List (Option Int)) (t : Int) :
    ∃ m, Reports { d with mon := m } (tempRead d i th t) := by
  unfold tempRead
  extract_lets was l
  split
  · exact ⟨d.mon, .refl d⟩
  · exact ⟨_, pldmChange_reports _ _ _⟩

end

section
variable {s : State} {n : Nat}

/-! ## Training (R316) -/

/-- A stack's record once its training has ended. -/
def StackUnit.afterTraining (u : StackUnit) (pass : Bool) : StackUnit :=
  { u with trained := true, st := if !pass then 0 else if u.st = 0 then 1 else u.st }

/-- Once a stack's record is stored, the end of its training posts its bit when it passed; the rest is reports. -/
theorem trained_keeps (d : Dev) (n : Nat) (pass : Bool) (u : StackUnit) (was : Bool) :
    let a := if !pass then detect (setStack d n u) 0x06 n 0x415 0 0 else post (setStack d n u) (rbStack n)
    let b := if was && !pass then stkLoss a n else a
    b.stk = (setStack d n u).stk ∧ b.reqs = d.reqs ∧ (pass → isReady b (rbStack n)) := by
  cases pass
  case true => simpa using ⟨rfl, rfl, isReady_post_same _ _⟩
  case false =>
    intro a b
    have ha : Reports (setStack d n u) a := detect_reports _ _ _ _ _ _
    have hb : Reports a b := .ite (stkLoss_reports a n) (.refl a)
    exact ⟨(ha.trans hb).stk, (ha.trans hb).reqs, nofun⟩

theorem stackTrainingDone_completes {pass : Bool} (hn : n < 12) (hlen : s.dev.stk.units.length = 12)
    (hu : (stackAt s.dev n).trained = false)
    (hmore : s.dev.stk.bringUp.isSome ∨ ∃ m, m < 12 ∧ m ≠ n ∧ (stackAt s.dev m).trained = false)
    (hp : s.dev.boot.phase = .running) :
    Completes (.stackTrainingDone n pass) s (fun d => stackAt d n = (stackAt s.dev n).afterTraining pass ∧
      (pass → isReady d (rbStack n)) ∧ (∀ k, k ≠ n → stackAt d k = stackAt s.dev k) ∧ d.reqs = s.dev.reqs) := by
  refine ⟨_, rfl, ?_⟩
  beta_reduce
  extract_lets u was d1 d2 d3 d4
  rw [if_neg (by simp [u, hu, hp, hn])]
  obtain ⟨hstk, hreqs, hready⟩ : d3.stk = d1.stk ∧ d3.reqs = s.dev.reqs ∧ (pass → isReady d3 (rbStack n)) := by
    have h2 : d2 = if !pass then detect d1 0x06 n 0x415 0 0 else post d1 (rbStack n) := by
      unfold d2
      rw [if_neg (c := (d1.boot.phase == .noImage) = true) (by simp [d1, setStack, hp])]
    unfold d3
    rw [h2]
    exact trained_keeps s.dev n pass _ was
  have hrest : (d3.stk.bringUp.isSome || !d3.stk.units.all (·.trained)) = true := by
    rw [hstk]
    rcases hmore with h | ⟨m, hm, hne, hmt⟩
    · simp [d1, setStack, h]
    · have hmem : stackAt d1 m ∈ d1.stk.units := stackAt_mem (by rw [setStack_units_length]; omega)
      have hat : stackAt d1 m = stackAt s.dev m := stackAt_setStack_other hne
      simp only [Bool.or_eq_true, Bool.not_eq_true', List.all_eq_false]
      exact .inr ⟨_, hmem, by simp [hat, hmt]⟩
  rw [if_pos hrest]
  have hc := collect_frees d3
  have hat := stackAt_congr (hc.stk.trans hstk)
  refine ⟨(hat n).trans (stackAt_setStack_same (by omega)), fun h => ?_, fun k hk => (hat k).trans (stackAt_setStack_other hk),
    hc.reqs.trans hreqs⟩
  rw [isReady, hc.ready]
  exact hready h

/-! ## Temperatures (R292, R293) -/

/-- Readings below 95 °C are kept and told to their sensor; neither threshold is met. -/
theorem stackTemp_below {ts : List Nat} (h : hottest ts < 380) (d : Dev) :
    stackTemp d n ts = tempRead (setStack d n { stackAt d n with temps := ts }) (4 + n) [some 380, some 420, some 460] (hottest ts) := by
  have h380 : ¬380 ≤ hottest ts := by omega
  have h420 : ¬420 ≤ hottest ts := by omega
  simp [stackTemp, h380, h420]

theorem stackTemp_cool {ts : List Nat} (h : hottest ts < 380) (d : Dev) :
    (stackTemp d n ts).stk = (setStack d n { stackAt d n with temps := ts }).stk ∧ (stackTemp d n ts).reqs = d.reqs ∧
      (stackTemp d n ts).flt.custody = d.flt.custody := by
  rw [stackTemp_below h]
  obtain ⟨m, hr⟩ := tempRead_reports (setStack d n { stackAt d n with temps := ts }) (4 + n) [some 380, some 420, some 460] (hottest ts)
  exact ⟨hr.stk, hr.reqs, hr.custody⟩

/-- A sample of stacks `i` on, all cool: each has its readings, and the others keep their records. -/
theorem foldl_stackTemp_cool {l : List (List Nat)} (hcool : ∀ t ∈ l, hottest t < 380) (i : Nat) (d : Dev) {k : Nat}
    (hk : k < d.stk.units.length) :
    let e := (l.zipIdx i).foldl (fun d x => stackTemp d x.2 x.1) d
    stackAt e k = (if i ≤ k ∧ k < i + l.length then { stackAt d k with temps := l.getD (k - i) [] } else stackAt d k) ∧
      e.reqs = d.reqs ∧ e.flt.custody = d.flt.custody := by
  induction l generalizing i d with
  | nil => exact ⟨(if_neg (by simp)).symm, rfl, rfl⟩
  | cons t l ih =>
    obtain ⟨hstk, hreqs, hcus⟩ := stackTemp_cool (n := i) (hcool t List.mem_cons_self) d
    obtain ⟨hat, hr, hc⟩ := ih (fun t h => hcool t (List.mem_cons_of_mem _ h)) (i + 1) (stackTemp d i t)
      (by rw [hstk, setStack_units_length]; exact hk)
    refine ⟨hat.trans ?_, hr.trans hreqs, hc.trans hcus⟩
    rw [stackAt_congr hstk]
    rcases Nat.lt_trichotomy k i with h | rfl | h
    · rw [if_neg (by omega), if_neg (by omega), stackAt_setStack_other (by omega)]
    · rw [if_neg (by omega), if_pos (by simp), stackAt_setStack_same hk]
      simp
    · obtain ⟨j, rfl⟩ : ∃ j, k = i + 1 + j := ⟨k - (i + 1), by omega⟩
      rw [stackAt_setStack_other (by omega), show i + 1 + j - i = j + 1 by omega, show i + 1 + j - (i + 1) = j by omega]
      simp only [List.getD_cons_succ, List.length_cons]
      congr 1
      exact propext (by omega)

theorem stackTempSample_completes {ts : List (List Nat)} (hn : n < 12) (hlen : s.dev.stk.units.length = 12) (hts : ts.length = 12)
    (hcool : ∀ t ∈ ts, hottest t < 380) :
    Completes (.stackTempSample ts) s (fun d => stackAt d n = { stackAt s.dev n with temps := ts.getD n [] } ∧
      d.reqs = s.dev.reqs ∧ d.flt.custody = s.dev.flt.custody) := by
  refine ⟨_, rfl, ?_⟩
  beta_reduce
  extract_lets d1 cool
  obtain ⟨hat, hreqs, hcus⟩ := foldl_stackTemp_cool hcool 0 s.dev (k := n) (by omega)
  rw [if_pos (by omega)] at hat
  have hd1 : d1 = (ts.zipIdx 0).foldl (fun d x => stackTemp d x.2 x.1) s.dev := by
    unfold d1; rw [List.take_of_length_le (by omega)]
  rw [← hd1] at hat hreqs hcus
  have hc := collect_frees { d1 with stk := { d1.stk with
    coolSince := if cool then some (d1.stk.coolSince.getD (now d1)) else none } }
  exact ⟨(stackAt_congr hc.stk n).trans hat, hc.reqs.trans hreqs, (congrArg FaultUnit.custody hc.flt).trans hcus⟩

theorem stackHotClear_completes {t : Nat} (ht : s.dev.stk.coolSince = some t) (hdue : t + 100000000 ≤ now s.dev)
    (hhot : s.dev.stk.hotScale) :
    Completes .stackHotClear s (fun d => d.stk.hotScale = false ∧ (∀ x ∈ d.stk.units, x.hot = false) ∧
      d.adm.stkCap = { start := nextBucket s.dev, num := 1, den := 1 } :: s.dev.adm.stkCap ∧ d.reqs = s.dev.reqs ∧
      d.sas = s.dev.sas) := by
  refine ⟨_, rfl, ?_⟩
  beta_reduce
  rw [ht]
  dsimp only
  rw [if_neg (by simp [hhot]; omega)]
  refine ⟨rfl, fun x hx => ?_, rfl, rfl, rfl⟩
  obtain ⟨u, -, rfl⟩ := List.mem_map.mp hx
  rfl

/-! ## Patrol reads (R301) -/

section
variable {f l : Nat} {errs : SymbolErrors}

theorem readLine_clean {d : Dev} (hp : (f, l) ∉ (stackAt d n).poison) (he : badSyms errs = []) : readLine d n f l errs = (.good, d) := by
  unfold readLine
  rw [if_neg (by simpa using hp), he]
  rfl

theorem readLine_uncorrectable {d : Dev} (hp : (f, l) ∉ (stackAt d n).poison) (h6 : 6 ≤ (badSyms errs).length)
    (h11 : (badSyms errs).length ≤ 11) : readLine d n f l errs = (.bad, lineUncorrectable d n f l (badSyms errs)) := by
  unfold readLine
  extract_lets syms d1
  have hlen : 6 ≤ syms.length := h6
  have hne : syms ≠ [] := List.ne_nil_of_length_pos (by omega)
  rw [if_neg (by simpa using hp), if_neg (by simpa using hne), if_neg (by omega), if_pos h11]

/-- An uncorrectable line is poison from then on. -/
theorem lineUncorrectable_poisons {d : Dev} (hn : n < d.stk.units.length) (ss : List Nat) :
    (f, l) ∈ (stackAt (lineUncorrectable d n f l ss) n).poison := by
  unfold lineUncorrectable
  extract_lets u dies
  rw [stackAt_congr (ctrInc_stk _ _), stackAt_setStack_same hn]
  exact List.mem_cons_self

theorem lineUncorrectable_sas (d : Dev) (ss : List Nat) : (lineUncorrectable d n f l ss).sas = d.sas := ctrInc_sas _ _

/-- A patrol read of a line that holds no poison (R301), other than a wrong correction: what the read does, and the pass's count at
its end. -/
theorem execScrubRead_reads (h1 : 1 ≤ (stackAt s.dev n).st) (h3 : (stackAt s.dev n).st ≤ 3) (hf : f < stackPhys) (hl : l < 64)
    (hp : (f, l) ∉ (stackAt s.dev n).poison) (hr : (readLine s.dev n f l errs).1 ≠ .other) :
    exec (.scrubRead n f l errs) s = .next (s.setDev (if f + 1 = stackPhys ∧ l = 63 then
      ctrInc (readLine s.dev n f l errs).2 (cStack n 0x118) else (readLine s.dev n f l errs).2)) := by
  show execScrubRead n f l errs s = _
  unfold execScrubRead
  rw [onDev_next]
  extract_lets u r d1
  have hd : d1 = r.2 := by
    unfold d1
    rw [if_neg (by simpa using hp)]
    split
    next h _ => exact absurd h hr
    · rfl
  rw [if_neg (by simp [u]; omega), hd]
  simp only [Bool.and_eq_true, beq_iff_eq, r]

theorem scrubRead_clean (h1 : 1 ≤ (stackAt s.dev n).st) (h3 : (stackAt s.dev n).st ≤ 3) (hf : f < stackPhys) (hl : l < 64)
    (hp : (f, l) ∉ (stackAt s.dev n).poison) (he : badSyms errs = []) (hend : f + 1 ≠ stackPhys ∨ l ≠ 63) :
    Completes (.scrubRead n f l errs) s (fun d => d = s.dev) := by
  have hread := readLine_clean hp he
  refine ⟨_, execScrubRead_reads h1 h3 hf hl hp (by simp [hread]), ?_⟩
  rw [hread, if_neg (by tauto)]

theorem scrubRead_poisons (hn : n < s.dev.stk.units.length) (h1 : 1 ≤ (stackAt s.dev n).st) (h3 : (stackAt s.dev n).st ≤ 3)
    (hf : f < stackPhys) (hl : l < 64) (hp : (f, l) ∉ (stackAt s.dev n).poison) (h6 : 6 ≤ (badSyms errs).length)
    (h11 : (badSyms errs).length ≤ 11) :
    Completes (.scrubRead n f l errs) s (fun d => (f, l) ∈ (stackAt d n).poison ∧ d.sas = s.dev.sas ∧ d.reqs = s.dev.reqs) := by
  have hread := readLine_uncorrectable hp h6 h11
  refine ⟨_, execScrubRead_reads h1 h3 hf hl hp (by simp [hread]), ?_⟩
  rw [hread]
  have hrep : Reports (lineUncorrectable s.dev n f l (badSyms errs)) (if f + 1 = stackPhys ∧ l = 63 then
      ctrInc (lineUncorrectable s.dev n f l (badSyms errs)) (cStack n 0x118) else lineUncorrectable s.dev n f l (badSyms errs)) :=
    .ite (ctrInc_reports _ _) (.refl _)
  refine ⟨?_, hrep.sas.trans (lineUncorrectable_sas _ _), hrep.reqs.trans (lineUncorrectable_sameSkeins _ _ _ _ _).reqs⟩
  rw [stackAt_congr hrep.stk]
  exact lineUncorrectable_poisons hn _

end

/-! ## Loss and retirement (R290, R316) -/

theorem stackCommandTimeout_completes (hn : n < s.dev.stk.units.length) (h1 : 1 ≤ (stackAt s.dev n).st)
    (h3 : (stackAt s.dev n).st ≤ 3) :
    Completes (.stackCommandTimeout n) s (fun d => d.flt.custody = .custody ∧ (stackAt d n).st = 5) := by
  refine ⟨_, rfl, ?_⟩
  beta_reduce
  extract_lets u d1 d2
  rw [if_neg (by simp [u]; omega)]
  have h2 : Reports d1 d2 := .ite (stkLoss_reports d1 n) (.refl d1)
  have hc := collect_frees (enterCustody (detect d2 0x06 n 0x414 0 0) 0x414)
  have hstk := hc.stk.trans ((enterCustody_stk _ _).trans ((detect_reports _ _ _ _ _ _).stk.trans h2.stk))
  refine ⟨(congrArg FaultUnit.custody hc.flt).trans (enterCustody_custody _ _), ?_⟩
  have hat : stackAt d1 n = { u with st := 5 } := stackAt_setStack_same hn
  rw [stackAt_congr hstk, hat]

/-- A stack that its retirement has emptied. -/
def stackRetired (d : Dev) (n : Nat) : Dev := unpost (setStack d n { stackAt d n with st := 4 }) (rbStack n)

theorem execStackRetireComplete_empty (h3 : (stackAt s.dev n).st = 3) (hnone : ∀ f ∈ s.dev.sas.frames, f.2.stack ≠ some n) :
    exec (.stackRetireComplete n) s = .next (s.setDev (detect (stackRetired s.dev n) 0x06 n 0x417 0 0)) := by
  have hnil : s.dev.sas.frames.filter (fun f => f.2.stack == some n) = [] := by
    simpa [List.filter_eq_nil_iff] using hnone
  show execStackRetireComplete n s = _
  unfold execStackRetireComplete
  rw [onDev_next]
  dsimp only
  rw [if_neg (by simp [h3]), hnil]
  rfl

theorem stackRetireComplete_completes (hn : n < s.dev.stk.units.length) (h3 : (stackAt s.dev n).st = 3)
    (hnone : ∀ f ∈ s.dev.sas.frames, f.2.stack ≠ some n) :
    Completes (.stackRetireComplete n) s (fun d => (stackAt d n).st = 4 ∧ isReady d (rbStack n) = false ∧ d.sas = s.dev.sas ∧
      d.reqs = s.dev.reqs) := by
  have hr := detect_reports (stackRetired s.dev n) 0x06 n 0x417 0 0
  refine ⟨_, execStackRetireComplete_empty h3 hnone, ?_, ?_, hr.sas, hr.reqs⟩
  · have hat : stackAt (stackRetired s.dev n) n = { stackAt s.dev n with st := 4 } := stackAt_setStack_same hn
    rw [stackAt_congr hr.stk, hat]
  · rw [isReady, hr.ready]
    exact (isReady_unpost _ _ _).trans (by simp)

end

/-- Settles O47: a training stores its stack's record and posts its bit, cool readings are kept and no more, and what custody entry ends
leaves the record of the stack that was lost. A start-up of a stack that had left ABSENT is the model's choice (log entry 86). -/
theorem stackCommandsComplete : Obligations.StackCommandsComplete := by
  unfold Obligations.StackCommandsComplete
  intro s n hn hlen u
  have hn' : n < s.dev.stk.units.length := by omega
  refine ⟨fun pass hu hmore hp => ?_, fun ts hts hcool => ?_, fun t => stackHotClear_completes,
    fun f l errs h1 h3 hf hl hp => ⟨scrubRead_clean h1 h3 hf hl hp, scrubRead_poisons hn' h1 h3 hf hl hp⟩,
    stackCommandTimeout_completes hn', stackRetireComplete_completes hn'⟩
  · obtain ⟨d, hd, hat, hready, hothers, hreqs⟩ := stackTrainingDone_completes (pass := pass) hn hlen hu hmore hp
    refine ⟨d, hd, by rw [hat]; rfl, ?_, hready, hothers, hreqs⟩
    rw [hat]
    cases pass <;> rfl
  · obtain ⟨d, hd, hat, hreqs, hcus⟩ := stackTempSample_completes hn hlen hts hcool
    exact ⟨d, hd, by rw [hat], by rw [hat], hreqs, hcus⟩

end Sys2Proof.Machine
end

section
/-! # What the bobbin tier's own steps leave alone (R334 to R345)

Every step of the tier leaves requests, raw capacity, the state of each target and the decision of collection (`SameService`); reads,
relocations and erases leave the SAS and the units that hold something besides (`TierStep`). What they do to blocks is said place by
place (`blocksAt`). -/

namespace Sys2Proof.Machine

open Sys2Proof

/-- `e` has the requests, the raw capacity and the decision of collection of `d`, and each target in its state. -/
structure SameService (d e : Dev) : Prop where
  reqs : e.reqs = d.reqs
  raw : e.bob.rawBytes = d.bob.rawBytes
  gc : e.bob.gc = d.bob.gc
  st : ∀ t, (targetAt e t).st = (targetAt d t).st

/-- A step that leaves the SAS, too, and every unit with a valid slot. -/
structure TierStep (d e : Dev) : Prop extends SameService d e where
  sas : e.sas = d.sas
  units : ∀ u ∈ d.bob.units, u.slots.any Option.isSome → u ∈ e.bob.units

section
variable {a b c d e : Dev}

theorem targetAt_congr (h : e.bob = d.bob) (t : Nat) : targetAt e t = targetAt d t := by unfold targetAt; rw [h]

theorem SameService.of_bob (hr : e.reqs = d.reqs) (hb : e.bob = d.bob) : SameService d e :=
  ⟨hr, by rw [hb], by rw [hb], fun t => by rw [targetAt_congr hb]⟩

theorem SameService.refl (d : Dev) : SameService d d := .of_bob rfl rfl

theorem SameService.trans (h : SameService a b) (k : SameService b c) : SameService a c :=
  ⟨k.reqs.trans h.reqs, k.raw.trans h.raw, k.gc.trans h.gc, fun t => (k.st t).trans (h.st t)⟩

theorem SameService.ite {p : Prop} [Decidable p] (ha : SameService d a) (hb : SameService d b) :
    SameService d (if p then a else b) := by
  split <;> assumption

theorem SameService.foldl {α : Type} {f : Dev → α → Dev} (h : ∀ d x, SameService d (f d x)) (l : List α) (d : Dev) :
    SameService d (l.foldl f d) :=
  List.foldlRecOn (motive := SameService d) _ _ (.refl d) (fun x hx y _ => hx.trans (h x y))

theorem Reports.sameService (h : Reports d e) : SameService d e := .of_bob h.reqs h.bob

theorem TierStep.refl (d : Dev) : TierStep d d := { SameService.refl d with sas := rfl, units := fun _ h _ => h }

theorem TierStep.trans (h : TierStep a b) (k : TierStep b c) : TierStep a c :=
  { h.toSameService.trans k.toSameService with
    sas := k.sas.trans h.sas
    units := fun u hu hs => k.units u (h.units u hu hs) hs }

theorem TierStep.ite {p : Prop} [Decidable p] (ha : TierStep d a) (hb : TierStep d b) : TierStep d (if p then a else b) := by
  split <;> assumption

theorem TierStep.foldl {α : Type} {f : Dev → α → Dev} (h : ∀ d x, TierStep d (f d x)) (l : List α) (d : Dev) :
    TierStep d (l.foldl f d) :=
  List.foldlRecOn (motive := TierStep d) _ _ (.refl d) (fun x hx y _ => hx.trans (h x y))

theorem Reports.tierStep (h : Reports d e) : TierStep d e :=
  { h.sameService with sas := h.sas, units := fun _ hu _ => by rwa [h.bob] }

end

/-! ## Targets and blocks -/

section
variable {d : Dev} {t t' lun lun' blk blk' : Nat} {f : BobBlock → BobBlock}

theorem targetAt_setTarget_same (d : Dev) (t : Nat) (x : BobTarget) : targetAt (setTarget d t x) t = x := by
  simp [targetAt, setTarget, tgetD, tget_tset_same]

theorem targetAt_setTarget_other (d : Dev) (x : BobTarget) (h : t' ≠ t) : targetAt (setTarget d t x) t' = targetAt d t' := by
  simp [targetAt, setTarget, tgetD, tget_tset_other _ _ _ _ h]

/-- The blocks that a target's table lists at a place. -/
def blocksAt (d : Dev) (t lun blk : Nat) : List BobBlock :=
  (targetAt d t).table.filter (fun b => b.lun == lun && b.blk == blk)

theorem block_eq_head? (d : Dev) (t lun blk : Nat) : (targetAt d t).block lun blk = (blocksAt d t lun blk).head? :=
  List.head?_filter.symm

theorem blocksAt_congr {e : Dev} (h : e.bob = d.bob) : blocksAt e t lun blk = blocksAt d t lun blk := by
  unfold blocksAt; rw [targetAt_congr h]

/-- A change of blocks that keeps each at its place. -/
def StaysPut (f : BobBlock → BobBlock) : Prop := ∀ b, (f b).lun = b.lun ∧ (f b).blk = b.blk

theorem filter_place_map (h : StaysPut f) (l : List BobBlock) :
    (l.map f).filter (fun b => b.lun == lun && b.blk == blk) = (l.filter (fun b => b.lun == lun && b.blk == blk)).map f := by
  rw [List.filter_map]
  congr 2
  funext b
  simp [(h b).1, (h b).2]

/-- A change of the blocks at a place, in a table. -/
theorem blocksAt_modBlock_target (h : StaysPut f) : blocksAt (modBlock d t lun blk f) t lun' blk' =
    (blocksAt d t lun' blk').map (fun b => if b.lun == lun && b.blk == blk then f b else b) := by
  unfold blocksAt modBlock
  rw [targetAt_setTarget_same]
  refine filter_place_map (fun b => ?_) _
  split
  · exact h b
  · exact ⟨rfl, rfl⟩

theorem blocksAt_modBlock_same (h : StaysPut f) :
    blocksAt (modBlock d t lun blk f) t lun blk = (blocksAt d t lun blk).map f :=
  (blocksAt_modBlock_target h).trans (List.map_congr_left fun _ hb => if_pos (List.mem_filter.mp hb).2)

theorem blocksAt_modBlock_other (h : StaysPut f) (hne : ¬(t' = t ∧ lun' = lun ∧ blk' = blk)) :
    blocksAt (modBlock d t lun blk f) t' lun' blk' = blocksAt d t' lun' blk' := by
  by_cases ht : t' = t
  · subst ht
    refine (blocksAt_modBlock_target h).trans ((List.map_congr_left fun b hb => ?_).trans (List.map_id _))
    have hplace : b.lun = lun' ∧ b.blk = blk' := by simpa using (List.mem_filter.mp hb).2
    obtain ⟨rfl, rfl⟩ := hplace
    exact if_neg (by simpa using hne)
  · unfold blocksAt modBlock
    rw [targetAt_setTarget_other _ _ ht]

theorem block_place {b : BobBlock} (h : (targetAt d t).block lun blk = some b) : b.lun = lun ∧ b.blk = blk := by
  simpa using List.find?_some h

theorem block_modBlock_same {b : BobBlock} (h : StaysPut f) (hb : (targetAt d t).block lun blk = some b) :
    (targetAt (modBlock d t lun blk f) t).block lun blk = some (f b) := by
  rw [block_eq_head?] at hb ⊢
  rw [blocksAt_modBlock_same h, List.head?_map, hb, Option.map_some]

theorem modBlock_tierStep (d : Dev) (t lun blk : Nat) (f : BobBlock → BobBlock) : TierStep d (modBlock d t lun blk f) where
  reqs := rfl
  raw := rfl
  gc := rfl
  sas := rfl
  units _ h _ := h
  st k := by
    by_cases hk : k = t
    · subst hk; unfold modBlock; rw [targetAt_setTarget_same]
    · unfold modBlock; rw [targetAt_setTarget_other _ _ hk]

/-! ## Erases that start, and reads that begin (R338, R346) -/

/-- Of a block, the start of erases changes at most that a FULL one is being erased. -/
def StartsErase (f : BobBlock → BobBlock) : Prop := ∀ b, f b = b ∨ (b.st = .full ∧ f b = { b with erasing := true })

theorem StartsErase.staysPut (h : StartsErase f) : StaysPut f := by
  intro b
  rcases h b with hb | ⟨-, hb⟩ <;> rw [hb] <;> exact ⟨rfl, rfl⟩

theorem StartsErase.st (h : StartsErase f) (b : BobBlock) : (f b).st = b.st := by
  rcases h b with hb | ⟨-, hb⟩ <;> rw [hb]

theorem StartsErase.eq_self {b : BobBlock} (h : StartsErase f) (hst : b.st ≠ .full) : f b = b :=
  (h b).resolve_right fun hb => hst hb.1

/-- An entry of a table whose entries change under their own numbers. -/
theorem tget_map {α : Type} {g : Nat × α → Nat × α} (h : ∀ x, (g x).1 = x.1) (l : Tbl α) (k : Nat) :
    tget (l.map g) k = (tget l k).map (fun v => (g (k, v)).2) := by
  have htest : ((fun e : Nat × α => e.1 == k) ∘ g) = fun e => e.1 == k := by funext x; simp [h]
  unfold tget
  rw [List.find?_map, htest]
  cases hx : l.find? (fun e => e.1 == k) with
  | none => rfl
  | some x =>
    obtain rfl : x.1 = k := by simpa using List.find?_some hx
    rfl

theorem targetAt_startErases (d : Dev) (t : Nat) : ∃ g, StartsErase g ∧
    targetAt (startErases d) t = { targetAt d t with table := (targetAt d t).table.map g } := by
  have hget : tget (startErases d).bob.targets t = _ := tget_map (by intro x; dsimp only; split <;> rfl) _ _
  unfold targetAt tgetD
  rw [hget]
  cases tget d.bob.targets t with
  | none => exact ⟨id, fun _ => .inl rfl, rfl⟩
  | some x =>
    by_cases hst : (x.st != 1) = true
    · exact ⟨id, fun _ => .inl rfl, by simp only [Option.map_some, Option.getD_some, hst, if_true, List.map_id]⟩
    · simp only [Option.map_some, Option.getD_some, hst, Bool.false_eq_true, if_false]
      refine ⟨_, fun b => ?_, rfl⟩
      split
      next h =>
        simp only [Bool.and_eq_true, beq_iff_eq] at h
        exact .inr ⟨h.1.2, rfl⟩
      next => exact .inl rfl

theorem pumpReads_tierStep (d : Dev) : TierStep d (pumpReads d) := by
  refine .foldl (fun d r => ?_) _ d
  split
  · exact .refl d
  · exact ⟨⟨rfl, rfl, rfl, fun _ => rfl⟩, rfl, fun _ h _ => h⟩

theorem targetAt_pumpBob (d : Dev) (t : Nat) : ∃ g, StartsErase g ∧
    targetAt (pumpBob d) t = { targetAt d t with table := (targetAt d t).table.map g } := by
  obtain ⟨g, hg, h⟩ := targetAt_startErases (dropEmptyUnits d) t
  refine ⟨g, hg, Eq.trans ?_ h⟩
  unfold pumpBob targetAt
  rw [(pumpReads_readsOnly _).targets]
  dsimp only
  split <;> rfl

/-- What follows an event of the tier starts erases of FULL blocks, and moves none. -/
theorem blocksAt_pumpBob (d : Dev) (t lun blk : Nat) :
    ∃ g, StartsErase g ∧ blocksAt (pumpBob d) t lun blk = (blocksAt d t lun blk).map g := by
  obtain ⟨g, hg, h⟩ := targetAt_pumpBob d t
  refine ⟨g, hg, ?_⟩
  unfold blocksAt
  rw [h]
  exact filter_place_map hg.staysPut _

theorem pumpBob_keeps_notFull {x : BobBlock} (hx : (targetAt d t).block lun blk = some x) (hst : x.st ≠ .full) :
    (targetAt (pumpBob d) t).block lun blk = some x := by
  obtain ⟨g, hg, h⟩ := blocksAt_pumpBob d t lun blk
  rw [block_eq_head?] at hx ⊢
  rw [h, List.head?_map, hx, Option.map_some, hg.eq_self hst]

theorem dropEmptyUnits_tierStep (d : Dev) : TierStep d (dropEmptyUnits d) where
  reqs := rfl
  raw := rfl
  gc := rfl
  st _ := rfl
  sas := rfl
  units _ hu hs := List.mem_filter.mpr ⟨hu, by simp [hs]⟩

theorem startErases_tierStep (d : Dev) : TierStep d (startErases d) where
  reqs := rfl
  raw := rfl
  gc := rfl
  sas := rfl
  units _ hu _ := hu
  st t := by
    obtain ⟨g, -, h⟩ := targetAt_startErases d t
    rw [h]

theorem pumpBob_tierStep (d : Dev) : TierStep d (pumpBob d) := by
  refine ((dropEmptyUnits_tierStep d).trans (startErases_tierStep _)).trans (.trans (.ite ?_ (.refl _)) (pumpReads_tierStep _))
  exact ⟨⟨rfl, rfl, rfl, fun _ => rfl⟩, rfl, fun _ h _ => h⟩

/-- A read in progress keeps its attempts and its good codewords when others begin. -/
theorem pumpBob_reads {r : BobRead} (h : r ∈ d.bob.reads) :
    ∃ x ∈ (pumpBob d).bob.reads, x.id = r.id ∧ x.attempts = r.attempts ∧ x.good = r.good := by
  unfold pumpBob
  dsimp only
  generalize he : (if (startErases (dropEmptyUnits d)).bob.full && _ then _ else startErases (dropEmptyUnits d)) = e
  have h2 : ∃ x ∈ e.bob.reads, x.id = r.id ∧ x.attempts = r.attempts ∧ x.good = r.good := by
    refine ⟨r, ?_, rfl, rfl, rfl⟩
    rw [← he]
    split <;> exact h
  refine List.foldlRecOn (motive := fun e : Dev => ∃ x ∈ e.bob.reads, x.id = r.id ∧ x.attempts = r.attempts ∧ x.good = r.good)
    _ _ h2 (fun e he q _ => ?_)
  obtain ⟨x, hx, hid, hat, hgood⟩ := he
  split
  · exact ⟨x, hx, hid, hat, hgood⟩
  · refine ⟨_, List.mem_map_of_mem hx, ?_⟩
    split <;> exact ⟨hid, hat, hgood⟩

/-! ## Relocation (R338, R341) -/

theorem addRead_tierStep (d : Dev) (u : Nat) (c : Cls) (dl : Nat) (use : BobUse) : TierStep d (addRead d u c dl use) := by
  unfold addRead
  refine .ite (.refl d) ?_
  extract_lets t hit e rs r
  have he : TierStep d e := .ite (ctrInc_reports _ _).tierStep (.refl d)
  refine he.trans (.trans ?_ (pumpReads_tierStep _))
  exact ⟨⟨rfl, rfl, rfl, fun _ => rfl⟩, rfl, fun _ h _ => h⟩

theorem doomBlock_tierStep (d : Dev) (t lun blk : Nat) (byGc : Bool) : TierStep d (doomBlock d t lun blk byGc) :=
  (modBlock_tierStep d t lun blk _).trans (.trans (.foldl (fun d _ => addRead_tierStep d _ _ _ _) _ _) (pumpBob_tierStep _))

theorem relocBlock_tierStep (d : Dev) (t lun blk ctr : Nat) : TierStep d (relocBlock d t lun blk ctr) := by
  unfold relocBlock
  split
  · exact .ite ((ctrInc_reports _ _).tierStep.trans (doomBlock_tierStep _ _ _ _ _)) (.refl d)
  · exact .refl d

theorem disturbCheck_tierStep (d : Dev) (t lun blk : Nat) : TierStep d (disturbCheck d t lun blk) := by
  unfold disturbCheck
  split
  · exact .ite (relocBlock_tierStep _ _ _ _ _) (.refl d)
  · exact .refl d

theorem wearCheck_tierStep (d : Dev) (t : Nat) : TierStep d (wearCheck d t) := by
  unfold wearCheck
  extract_lets good
  split
  · exact .refl d
  · refine .ite ?_ (.refl d)
    split
    · exact relocBlock_tierStep _ _ _ _ _
    · exact .refl d

theorem blocksAt_foldl_addRead (us : List BobUnit) (d : Dev) (t lun blk : Nat) :
    blocksAt (us.foldl (fun d u => addRead d u.id .b 0 .relocate) d) t lun blk = blocksAt d t lun blk := by
  induction us generalizing d with
  | nil => rfl
  | cons u us ih =>
    refine (ih _).trans ?_
    unfold blocksAt targetAt
    rw [(addRead_readsOnly _ _ _ _ _).targets]

/-- A doomed block is to be erased, and some erases start. -/
theorem blocksAt_doomBlock_same (d : Dev) (t lun blk : Nat) (byGc : Bool) : ∃ g, StartsErase g ∧
    blocksAt (doomBlock d t lun blk byGc) t lun blk =
      ((blocksAt d t lun blk).map (fun b => { b with doomed := true, byGc := byGc })).map g := by
  obtain ⟨g, hg, h⟩ := blocksAt_pumpBob _ t lun blk
  refine ⟨g, hg, h.trans (congrArg (List.map g) ((blocksAt_foldl_addRead _ _ _ _ _).trans ?_))⟩
  exact blocksAt_modBlock_same fun _ => ⟨rfl, rfl⟩

theorem blocksAt_doomBlock_other (byGc : Bool) (hne : ¬(t' = t ∧ lun' = lun ∧ blk' = blk)) : ∃ g, StartsErase g ∧
    blocksAt (doomBlock d t lun blk byGc) t' lun' blk' = (blocksAt d t' lun' blk').map g := by
  obtain ⟨g, hg, h⟩ := blocksAt_pumpBob _ t' lun' blk'
  refine ⟨g, hg, h.trans (congrArg (List.map g) ((blocksAt_foldl_addRead _ _ _ _ _).trans ?_))⟩
  exact blocksAt_modBlock_other (fun _ => ⟨rfl, rfl⟩) hne

/-- A block that is not FULL is not relocated: the one found at its place stays as it is. -/
theorem relocBlock_keeps_notFull {x : BobBlock} {ctr : Nat} (hx : (targetAt d t').block lun' blk' = some x) (hst : x.st ≠ .full) :
    (targetAt (relocBlock d t lun blk ctr) t').block lun' blk' = some x := by
  unfold relocBlock
  split
  next b hb =>
    split
    next h =>
      have hfull : b.st = .full := by simpa using (Bool.and_eq_true_iff.mp h).1
      have hne : ¬(t' = t ∧ lun' = lun ∧ blk' = blk) := by
        rintro ⟨rfl, rfl, rfl⟩
        rw [hx] at hb
        cases hb
        exact hst hfull
      obtain ⟨g, hg, hblocks⟩ := blocksAt_doomBlock_other (d := ctrInc d ctr) false hne
      rw [block_eq_head?] at hx ⊢
      rw [hblocks, blocksAt_congr (ctrInc_bob d ctr), List.head?_map, hx, Option.map_some, hg.eq_self hst]
    · exact hx
  · exact hx

theorem wearCheck_keeps_notFull {x : BobBlock} (hx : (targetAt d t').block lun' blk' = some x) (hst : x.st ≠ .full) :
    (targetAt (wearCheck d t) t').block lun' blk' = some x := by
  unfold wearCheck
  extract_lets good
  split
  · exact hx
  · split
    · split
      · exact relocBlock_keeps_notFull hx hst
      · exact hx
    · exact hx

/-- A doomed block is found doomed. -/
theorem doomBlock_dooms {b : BobBlock} (byGc : Bool) (hb : (targetAt d t).block lun blk = some b) :
    ∃ x, (targetAt (doomBlock d t lun blk byGc) t).block lun blk = some x ∧ x.doomed ∧ x.byGc = byGc := by
  obtain ⟨g, hg, h⟩ := blocksAt_doomBlock_same d t lun blk byGc
  rw [block_eq_head?] at hb ⊢
  rw [h, List.head?_map, List.head?_map, hb]
  refine ⟨_, rfl, ?_⟩
  rcases hg { b with doomed := true, byGc := byGc } with hx | ⟨-, hx⟩ <;> rw [hx] <;> exact ⟨rfl, rfl⟩

theorem relocBlock_dooms {b : BobBlock} {ctr : Nat} (hb : (targetAt d t).block lun blk = some b) (hfull : b.st = .full)
    (hd : b.doomed = false) : ∃ x, (targetAt (relocBlock d t lun blk ctr) t).block lun blk = some x ∧ x.doomed := by
  have hreloc : relocBlock d t lun blk ctr = doomBlock (ctrInc d ctr) t lun blk false := by simp [relocBlock, hb, hfull, hd]
  rw [hreloc]
  obtain ⟨x, hx, hdoomed, -⟩ := doomBlock_dooms (d := ctrInc d ctr) false (by rwa [targetAt_congr (ctrInc_bob d ctr)])
  exact ⟨x, hx, hdoomed⟩

/-! ## Programs (R334 to R336, R343) -/

/-- Every block that a target's table lists at a place is BAD. -/
def AllBad (d : Dev) (t lun blk : Nat) : Prop := ∀ b ∈ blocksAt d t lun blk, b.st = .bad

/-- A step that keeps BAD blocks BAD. -/
structure ProgramStep (d e : Dev) : Prop extends SameService d e where
  bad : ∀ t lun blk, AllBad d t lun blk → AllBad e t lun blk

theorem ProgramStep.trans {a b c : Dev} (h : ProgramStep a b) (k : ProgramStep b c) : ProgramStep a c :=
  { h.toSameService.trans k.toSameService with bad := fun t l b hb => k.bad t l b (h.bad t l b hb) }

theorem ProgramStep.of_bob {e : Dev} (hr : e.reqs = d.reqs) (hb : e.bob = d.bob) : ProgramStep d e :=
  { SameService.of_bob hr hb with bad := fun _ _ _ h => by unfold AllBad; rwa [blocksAt_congr hb] }

theorem AllBad.pumpBob (h : AllBad d t lun blk) : AllBad (pumpBob d) t lun blk := by
  obtain ⟨g, hg, hblocks⟩ := blocksAt_pumpBob d t lun blk
  unfold AllBad
  rw [hblocks]
  intro b hb
  obtain ⟨c, hc, rfl⟩ := List.mem_map.mp hb
  rw [hg.st, h c hc]

theorem allBad_modBlock (d : Dev) (t lun blk : Nat) (h : StaysPut f) (hbad : ∀ b, (f b).st = .bad) :
    AllBad (modBlock d t lun blk f) t lun blk := by
  unfold AllBad
  rw [blocksAt_modBlock_same h]
  intro b hb
  obtain ⟨c, -, rfl⟩ := List.mem_map.mp hb
  exact hbad c

/-- A change of blocks that leaves BAD ones BAD. -/
theorem modBlock_programStep (d : Dev) (t lun blk : Nat) (h : StaysPut f) (hbad : ∀ b, b.st = .bad → (f b).st = .bad) :
    ProgramStep d (modBlock d t lun blk f) := by
  refine { (modBlock_tierStep d t lun blk f).toSameService with bad := fun t' lun' blk' hall => ?_ }
  unfold AllBad
  by_cases hp : t' = t ∧ lun' = lun ∧ blk' = blk
  · obtain ⟨rfl, rfl, rfl⟩ := hp
    rw [blocksAt_modBlock_same h]
    intro b hb
    obtain ⟨c, hc, rfl⟩ := List.mem_map.mp hb
    exact hbad c (hall c hc)
  · rw [blocksAt_modBlock_other h hp]
    exact hall

theorem pickBlock_free {x : BobTarget} {b : BobBlock} (h : pickBlock x = some b) : b ∈ x.table ∧ b.st = .free := by
  have hmem : ∀ c, pickBlock x = some c → c ∈ x.table.filter (fun b => b.st == .free && !b.erasing && !b.retired) := by
    unfold pickBlock
    refine List.foldlRecOn (motive := fun best => ∀ c, best = some c →
      c ∈ x.table.filter (fun b => b.st == .free && !b.erasing && !b.retired)) _ _ ?_ (fun best hbest y hy c hc => ?_)
    · exact nofun
    · split at hc
      · cases hc; exact hy
      · split at hc
        · cases hc; exact hy
        · exact hbest c hc
  obtain ⟨hb, hfree⟩ := List.mem_filter.mp (hmem b h)
  exact ⟨hb, by simpa using (Bool.and_eq_true_iff.mp (Bool.and_eq_true_iff.mp hfree).1).1⟩

/-- The next page of a target is a page of a block of its table that is not BAD; taking it changes that block alone, and its header may
be sent. -/
theorem nextPageOf_takes {e : Dev} {l b p : Nat} (h : nextPageOf d t = some (l, b, p, e)) :
    ∃ y ∈ (targetAt d t).table, y.st ≠ .bad ∧ ∃ o g, e = modBlock { d with out := o } t y.lun y.blk g ∧ StaysPut g := by
  unfold nextPageOf at h
  extract_lets x take at h
  split_ifs at h
  split at h
  next y hy =>
    cases h
    have hopen : y.st = .open_ := by simpa using List.find?_some hy
    exact ⟨y, List.mem_of_find?_eq_some hy, by simp [hopen], d.out, _, rfl, fun _ => ⟨rfl, rfl⟩⟩
  · obtain ⟨y, hy, hz⟩ := Option.map_eq_some_iff.mp h
    cases hz
    obtain ⟨hmem, hfree⟩ := pickBlock_free hy
    exact ⟨y, hmem, by simp [hfree], (emitHeader d t y).out, _, rfl, fun _ => ⟨rfl, rfl⟩⟩

theorem nextPageOf_programStep {e : Dev} {l b p : Nat} (h : nextPageOf d t = some (l, b, p, e)) : ProgramStep d e := by
  obtain ⟨y, hy, hst, o, g, rfl, hg⟩ := nextPageOf_takes h
  have hout : ProgramStep d { d with out := o } := .of_bob rfl rfl
  refine { hout.toSameService.trans (modBlock_tierStep _ t y.lun y.blk g).toSameService with bad := fun t' lun' blk' hall => ?_ }
  have hne : ¬(t' = t ∧ lun' = y.lun ∧ blk' = y.blk) := by
    rintro ⟨rfl, rfl, rfl⟩
    exact hst (hall y (List.mem_filter.mpr ⟨hy, by simp⟩))
  unfold AllBad
  rw [blocksAt_modBlock_other hg hne]
  exact hout.bad _ _ _ hall

theorem nextPlace_programStep {e : Dev} {n l b p : Nat} (h : nextPlace d n = some (t, l, b, p, e)) : ProgramStep d e := by
  induction n generalizing d with
  | zero => cases h
  | succ n ih =>
    have hrot (r : Nat) : ProgramStep d { d with bob := { d.bob with rot := r } } :=
      ⟨⟨rfl, rfl, rfl, fun _ => rfl⟩, fun _ _ _ h => h⟩
    unfold nextPlace at h
    dsimp only at h
    split at h
    next hx =>
      cases h
      exact (hrot _).trans (nextPageOf_programStep hx)
    · exact (hrot _).trans (ih h)

theorem dropUnit_programStep (d : Dev) (u : BobUnit) : ProgramStep d (dropUnit d u) := by
  unfold dropUnit
  extract_lets dead us fs e
  have he : ProgramStep d e := by
    unfold e
    split
    · exact modBlock_programStep _ _ _ _ (fun _ => ⟨rfl, rfl⟩) (fun _ => id)
    · exact .of_bob rfl rfl
  exact he.trans ⟨⟨rfl, rfl, rfl, fun _ => rfl⟩, fun _ _ _ h => h⟩

theorem reprogram_programStep (d : Dev) (u : BobUnit) : ProgramStep d (reprogram d u) := by
  unfold reprogram
  split
  next h => exact (nextPlace_programStep h).trans ⟨⟨rfl, rfl, rfl, fun _ => rfl⟩, fun _ _ _ h => h⟩
  · exact dropUnit_programStep d u

/-! ## Operations that needed what a unit cannot give (R269, R352, R357) -/

theorem withdraw_sameService (d : Dev) (i : Nat) : SameService d (withdraw d i) := .ite (.refl d) (.of_bob rfl rfl)

theorem handOver_sameService (d : Dev) (o : Op) : SameService d (handOver d o) := by
  unfold handOver
  split
  · split
    · exact .refl d
    · split
      · exact .ite (.refl d) (.of_bob rfl rfl)
      · exact .refl d
  · exact .refl d

theorem opEnds_sameService (d : Dev) (o : Op) (st : Nat) : SameService d (opEnds d o st) := by
  unfold opEnds
  split
  · exact ((ctrInc_reports _ _).trans (emitWA_reports _ _)).sameService.trans (.of_bob rfl rfl)
  · exact ((ctrInc_reports _ _).trans (complete_reports _ _ _ _ _ _)).sameService
  · exact (complete_reports _ _ _ _ _ _).sameService

theorem failOp_sameService (d : Dev) (o : Op) (c st : Nat) : SameService d (failOp d o c st) := by
  unfold failOp
  extract_lets d1 d2 d3
  have hdropped : SameService (handOver d o) d1 := by
    refine .trans ?_ (withdraw_sameService _ o.id)
    exact .of_bob rfl rfl
  have hcount : Reports d1 d2 := .ite (ctrInc_reports _ _) (.refl d1)
  exact (handOver_sameService d o).trans (hdropped.trans
    ((hcount.trans (faultOp_reports _ _ _ _ _ _)).sameService.trans (opEnds_sameService d3 o st)))

theorem endNeeding_sameService (d : Dev) (i c : Nat) : SameService d (endNeeding d i c) := by
  unfold endNeeding
  split
  · exact .refl d
  · split
    · split
      · refine .foldl (fun d x => ?_) _ _
        split
        · exact failOp_sameService _ _ _ _
        · exact .refl d
      · exact failOp_sameService _ _ _ _
    · exact failOp_sameService _ _ _ _

theorem failPromotions_sameService (d : Dev) (p : Promotion → Bool) (c : Nat) : SameService d (failPromotions d p c) := by
  unfold failPromotions
  refine .trans ?_ (.foldl (fun d i => endNeeding_sameService d i c) _ _)
  exact .of_bob rfl rfl

/-! ## Frames that are freed -/

/-- `e` differs in the bobbin tier from `d` by slots that are no longer valid, at most (R337). -/
structure SlotsDropped (d e : Dev) : Prop where
  bob : e.bob = { d.bob with units := e.bob.units }
  units : ∀ u ∈ d.bob.units, ∃ x ∈ e.bob.units, x.id = u.id ∧ x.written = u.written

theorem SlotsDropped.of_bob {e : Dev} (h : e.bob = d.bob) : SlotsDropped d e :=
  ⟨by rw [h], fun u hu => ⟨u, by rwa [h], rfl, rfl⟩⟩

theorem SlotsDropped.trans {a b c : Dev} (h : SlotsDropped a b) (k : SlotsDropped b c) : SlotsDropped a c := by
  refine ⟨by rw [k.bob, h.bob], fun u hu => ?_⟩
  obtain ⟨x, hx, hid, hw⟩ := h.units u hu
  obtain ⟨y, hy, hid', hw'⟩ := k.units x hx
  exact ⟨y, hy, hid'.trans hid, hw'.trans hw⟩

theorem SlotsDropped.foldl {α : Type} {f : Dev → α → Dev} (h : ∀ d x, SlotsDropped d (f d x)) (l : List α) (d : Dev) :
    SlotsDropped d (l.foldl f d) :=
  List.foldlRecOn (motive := SlotsDropped d) _ _ (.of_bob rfl) (fun x hx y _ => hx.trans (h x y))

theorem dropUnitSlot_slotsDropped (d : Dev) (f : Nat) : SlotsDropped d (dropUnitSlot d f) := by
  unfold dropUnitSlot
  split
  · exact .of_bob rfl
  · split
    · exact .of_bob rfl
    · refine ⟨rfl, fun u hu => ⟨_, List.mem_map_of_mem hu, ?_⟩⟩
      split <;> exact ⟨rfl, rfl⟩

theorem unmapFrames_slotsDropped (d : Dev) (o : Nat) (fs : List Nat) : SlotsDropped d (unmapFrames d o fs) := by
  unfold unmapFrames
  extract_lets gs
  split
  · exact .of_bob rfl
  · exact (SlotsDropped.foldl dropUnitSlot_slotsDropped gs d).trans (.of_bob (mirrorPush_reports _ _).bob)

theorem collect_slotsDropped (d : Dev) : SlotsDropped d (collect d) := by
  unfold collect
  refine .trans (.trans ?_ (.foldl (fun d b => ?_) _ _)) (.foldl (fun d r => ?_) _ _)
  · exact .of_bob rfl
  · refine .trans ?_ (unmapFrames_slotsDropped _ _ _)
    exact .of_bob rfl
  · dsimp only
    split
    · exact (unmapFrames_slotsDropped _ _ _).trans (.of_bob rfl)
    · exact unmapFrames_slotsDropped _ _ _

theorem targetAt_collect (d : Dev) (t : Nat) : targetAt (collect d) t = targetAt d t := by
  unfold targetAt
  rw [(collect_slotsDropped d).bob]

theorem collect_sameService (d : Dev) : SameService d (collect d) where
  reqs := (collect_sameSkeins d).reqs
  raw := by rw [(collect_slotsDropped d).bob]
  gc := by rw [(collect_slotsDropped d).bob]
  st t := by rw [targetAt_collect]

end

end Sys2Proof.Machine
end

section
/-! # The commands of the bobbin tier (R324 to R359) -/

namespace Sys2Proof.Machine

open Sys2Proof

/-! ## Scans (R324, R326, R354, R355) -/

/-- A step of bring-up that leaves requests, scans that have ended, boot and image, and READY targets READY. -/
structure ScanStep (d e : Dev) : Prop where
  reqs : e.reqs = d.reqs
  ended : e.bob.chEnded = d.bob.chEnded
  boot : e.boot = d.boot
  img : e.img = d.img
  ready : ∀ t, (targetAt d t).st = 1 → (targetAt e t).st = 1

theorem ScanStep.refl (d : Dev) : ScanStep d d := ⟨rfl, rfl, rfl, rfl, fun _ => id⟩

theorem ScanStep.trans {a b c : Dev} (h : ScanStep a b) (k : ScanStep b c) : ScanStep a c :=
  ⟨k.reqs.trans h.reqs, k.ended.trans h.ended, k.boot.trans h.boot, k.img.trans h.img, fun t ht => k.ready t (h.ready t ht)⟩

theorem ScanStep.mem_ended {d e : Dev} {ch : Nat} (h : ScanStep d e) (hc : ch ∈ d.bob.chEnded) : ch ∈ e.bob.chEnded := by
  rwa [h.ended]

theorem Reports.scanStep {d e : Dev} (h : Reports d e) : ScanStep d e :=
  ⟨h.reqs, by rw [h.bob], h.boot, h.img, fun t ht => by rwa [targetAt_congr h.bob]⟩

theorem targetOk_congr {d e : Dev} (hb : e.boot = d.boot) (hi : e.img = d.img) (t : Nat) (p : TargetPage) :
    targetOk e t p = targetOk d t p := by
  unfold targetOk flashDesc readBoundOk img
  rw [hb, hi]

/-- A scanned target: its parameter page is good and it is READY, or nothing but a report comes of the scan. -/
theorem scanTarget_cases (d : Dev) (t : Nat) (y : Option TargetScan) :
    (∃ x : BobTarget, x.st = 1 ∧ ∃ n, scanTarget d t y = setRaw (setTarget d t x) n) ∨
      ((∀ x, y = some x → targetOk d t x.page = false) ∧ Reports d (scanTarget d t y)) := by
  unfold scanTarget
  split
  next x =>
    split
    next => exact .inl ⟨_, rfl, _, rfl⟩
    next h => exact .inr ⟨fun z hz => by cases hz; simpa using h, detect_reports _ _ _ _ _ _⟩
  next => exact .inr ⟨nofun, detect_reports _ _ _ _ _ _⟩

theorem scanTarget_scanStep (d : Dev) (t : Nat) (y : Option TargetScan) : ScanStep d (scanTarget d t y) := by
  rcases scanTarget_cases d t y with ⟨x, hx, n, h⟩ | ⟨-, h⟩
  · rw [h]
    refine ⟨rfl, rfl, rfl, rfl, fun k hk => ?_⟩
    show (targetAt (setTarget d t x) k).st = 1
    by_cases hkt : k = t
    · subst hkt; rwa [targetAt_setTarget_same]
    · rwa [targetAt_setTarget_other _ _ hkt]
  · exact h.scanStep

theorem scanTarget_ready {d : Dev} {t : Nat} {x : TargetScan} (h : targetOk d t x.page = true) :
    (targetAt (scanTarget d t (some x)) t).st = 1 := by
  rcases scanTarget_cases d t (some x) with ⟨y, hy, n, hs⟩ | ⟨hbad, -⟩
  · rw [hs]
    exact (congrArg BobTarget.st (targetAt_setTarget_same d t y)).trans hy
  · exact absurd h (by simp [hbad x rfl])

/-- The targets of a channel that a scan passes over are READY afterwards when their pages are good. -/
theorem foldl_scanTarget (ch : Nat) (scans : List TargetScan) (ts : List Nat) (d : Dev) :
    let e := ts.foldl (fun d t => scanTarget d (tgtOf ch t) (scans.find? (fun x => x.target == t))) d
    ScanStep d e ∧ ∀ t ∈ ts, ∀ x, scans.find? (fun y => y.target == t) = some x → targetOk d (tgtOf ch t) x.page →
      (targetAt e (tgtOf ch t)).st = 1 := by
  induction ts generalizing d with
  | nil => exact ⟨.refl d, nofun⟩
  | cons k ts ih =>
    have hk := scanTarget_scanStep d (tgtOf ch k) (scans.find? (fun x => x.target == k))
    obtain ⟨hstep, hready⟩ := ih (scanTarget d (tgtOf ch k) (scans.find? (fun x => x.target == k)))
    refine ⟨hk.trans hstep, fun t ht x hx hok => ?_⟩
    rcases List.mem_cons.mp ht with rfl | ht
    · refine hstep.ready _ ?_
      rw [hx]
      exact scanTarget_ready hok
    · exact hready t ht x hx (by rwa [targetOk_congr hk.boot hk.img])

theorem tierCheck_scanStep (d : Dev) : ScanStep d (tierCheck d) := by
  unfold tierCheck
  extract_lets chs done
  split
  · exact ⟨rfl, rfl, rfl, rfl, fun _ => id⟩
  · exact .refl d

/-- A channel's scan has ended. -/
def scanEnded (d : Dev) (ch : Nat) : Dev := { d with bob := { d.bob with chEnded := ch :: d.bob.chEnded } }

/-- The declared targets of a trained channel, each scanned. -/
def scanChannel (d : Dev) (ch : Nat) (scans : List TargetScan) : Dev :=
  ((List.range 8).filter (fun t => declared d (tgtOf ch t))).foldl
    (fun d t => scanTarget d (tgtOf ch t) (scans.find? (fun x => x.target == t))) d

/-- A trained channel posts when each of its READY targets has the blocks for it (R355). -/
def postChannel (d : Dev) (ch : Nat) : Dev :=
  if (channelReady d ch).all (fun t => 16 ≤ ((targetAt d t).table.filter (fun b => b.st == .free)).length) then
    post { d with bob := { d.bob with chTrained := ch :: d.bob.chTrained } } (rbOnfi ch)
  else d

theorem postChannel_scanStep (d : Dev) (ch : Nat) : ScanStep d (postChannel d ch) := by
  unfold postChannel
  split
  · exact ⟨rfl, rfl, rfl, rfl, fun _ => id⟩
  · exact .refl d

section
variable {s : State} {ch : Nat} (hch : ch < 16) (hnew : ch ∉ s.dev.bob.chEnded) (hflash : s.dev.boot.flash ≠ [])
  (hcrypto : isReady s.dev rbCrypto)
include hch hnew hflash hcrypto

theorem execChannelScanDone_first (trained : Bool) (scans : List TargetScan) : exec (.channelScanDone ch trained scans) s =
    .next (s.setDev (tierCheck (if trained then postChannel (scanChannel (scanEnded s.dev ch) ch scans) ch
      else detect (scanEnded s.dev ch) 0x07 ch 0x428 0 0))) := by
  show execChannelScanDone ch trained scans s = _
  unfold execChannelScanDone
  rw [onDev_next, if_neg]
  · rfl
  · simp [hnew, hflash, hcrypto, hch]

theorem channelScanDone_completes {trained : Bool} {scans : List TargetScan} :
    Completes (.channelScanDone ch trained scans) s (fun d => ch ∈ d.bob.chEnded ∧ d.reqs = s.dev.reqs ∧
      (trained → ∀ t x, t < 8 → declared s.dev (tgtOf ch t) → scans.find? (fun y => y.target == t) = some x →
        targetOk s.dev (tgtOf ch t) x.page → (targetAt d (tgtOf ch t)).st = 1)) := by
  refine ⟨_, execChannelScanDone_first hch hnew hflash hcrypto trained scans, ?_⟩
  obtain ⟨hscan, hready⟩ := foldl_scanTarget ch scans ((List.range 8).filter (fun t => declared (scanEnded s.dev ch) (tgtOf ch t)))
    (scanEnded s.dev ch)
  cases trained with
  | false =>
    have h := (detect_reports (scanEnded s.dev ch) 0x07 ch 0x428 0 0).scanStep.trans (tierCheck_scanStep _)
    exact ⟨h.mem_ended List.mem_cons_self, h.reqs, nofun⟩
  | true =>
    have hrest := (postChannel_scanStep (scanChannel (scanEnded s.dev ch) ch scans) ch).trans (tierCheck_scanStep _)
    have h := hscan.trans hrest
    refine ⟨h.mem_ended List.mem_cons_self, h.reqs, fun _ t x ht hdecl hx hok => hrest.ready _ (hready t ?_ x hx hok)⟩
    exact List.mem_filter.mpr ⟨List.mem_range.mpr ht, hdecl⟩

end

/-! ## Unit reads (R341, R350) -/

section
variable {s : State} {r : BobRead} {u : BobUnit} {good : List Nat} {tagOk : Bool}

/-- The codewords of a unit that are good after an attempt. -/
def goodNow (r : BobRead) (good : List Nat) : List Nat := (List.range 4).filter (fun i => r.good.contains i || good.contains i)

/-- A read of a unit counts for its block (R341). -/
def readCounted (d : Dev) (u : BobUnit) : Dev := modBlock d u.tgt u.lun u.blk (fun b => { b with reads := b.reads + 1 })

/-- A read after an attempt that left codewords to be read again (R350). -/
def tryAgain (d : Dev) (r : BobRead) (good : List Nat) : Dev :=
  { d with bob := { d.bob with
    reads := replaceFirst (fun x => x.id == r.id) { r with attempts := r.attempts + 1, good := good, begun := now d } d.bob.reads } }

/-- What follows an attempt whose unit's read has come to `d`. -/
def attemptPumped (d : Dev) (u : BobUnit) : Dev := collect (pumpShips (pumpBob (disturbCheck d u.tgt u.lun u.blk)))

section
variable (hr : s.dev.bob.reads.find? (fun x => x.id == r.id && x.started) = some r) (hu : unitAt s.dev r.unit = some u)
  (hheld : channelHeld s.dev r = false)
include hr hu hheld

theorem execBobbinReadAttempt_partly (hgood : (goodNow r good).length < 4) (hn : r.attempts + 1 < 7) :
    exec (.bobbinReadAttempt r.id good tagOk) s =
      .next (s.setDev (attemptPumped (tryAgain (readCounted s.dev u) r (goodNow r good)) u)) := by
  have h4 : ((goodNow r good).length == 4) = false := by simp; omega
  have h7 : (r.attempts + 1 == 7) = false := by simp; omega
  unfold goodNow at h4
  show execBobbinReadAttempt r.id good tagOk s = _
  simp only [execBobbinReadAttempt, onTier, onDevC, onDev, hr, hu, hheld, h4, h7, Bool.false_eq_true, if_false]
  rfl

theorem execBobbinReadAttempt_whole (hgood : (goodNow r good).length = 4) (htag : tagOk = true)
    (hz : s.dev.sec.zeroized = false) : exec (.bobbinReadAttempt r.id good tagOk) s =
      .next (s.setDev (attemptPumped (unitRead (readCounted s.dev u) u r (r.attempts + 1)) u)) := by
  have hz' : (readCounted s.dev u).sec.zeroized = false := hz
  unfold goodNow at hgood
  unfold readCounted at hz'
  show execBobbinReadAttempt r.id good tagOk s = _
  simp only [execBobbinReadAttempt, onTier, onDevC, onDev, hr, hu, hheld, hgood, htag, hz', Bool.not_false, Bool.and_self,
    beq_self_eq_true, Bool.false_eq_true, if_false, if_true]
  rfl

end

/-- Where no shipment waits, an event of the tier is followed by its own steps alone. -/
theorem attemptPumped_settled {d : Dev} (hdue : ∀ y ∈ d.sas.skeins, y.fetchDue = none ∧ y.windowDue = false) (u : BobUnit) :
    attemptPumped d u = collect (pumpBob (disturbCheck d u.tgt u.lun u.blk)) := by
  have h := (disturbCheck_tierStep d u.tgt u.lun u.blk).trans (pumpBob_tierStep _)
  unfold attemptPumped
  rw [pumpShips_nothing (by rwa [h.sas])]

theorem disturbCheck_off {d : Dev} (h : readDisturb d = 0) (t lun blk : Nat) : disturbCheck d t lun blk = d := by
  unfold disturbCheck
  rw [h]
  split <;> rfl

/-- A unit's read has ended and is counted (R359). -/
def readEnded (d : Dev) (r : BobRead) (n : Nat) : Dev :=
  ctrInc (ctrInc { d with bob := { d.bob with reads := dropFirst (fun x => x.id == r.id) d.bob.reads } } cBobReads)
    (cBobAttempts + 8 * (n - 1))

/-- The promotions of a unit's frames go on (R250). -/
def promotionsGoOn (d : Dev) (u : BobUnit) : Dev :=
  { d with sas := { d.sas with
    promotions := d.sas.promotions.map (fun p => if p.unit == u.id then { p with read := true } else p) } }

theorem promotionsGoOn_read (d : Dev) (u : BobUnit) : ∀ p ∈ (promotionsGoOn d u).sas.promotions, p.unit = u.id → p.read := by
  intro p hp hid
  obtain ⟨q, -, rfl⟩ := List.mem_map.mp hp
  by_cases hq : (q.unit == u.id) = true
  · rw [if_pos hq]
  · rw [if_neg hq] at hid
    exact absurd hid (by simpa using hq)

/-- A whole authentic unit lets its frames be promoted (R250); a relocation for its retries comes after that (R341). -/
theorem unitRead_promotes (d : Dev) (u : BobUnit) {r : BobRead} (n : Nat) (huse : r.use = .promote) :
    (readEnded d r n).reqs = d.reqs ∧ (readEnded d r n).sas = d.sas ∧
      TierStep (promotionsGoOn (readEnded d r n) u) (unitRead d u r n) := by
  have h : Reports { d with bob := { d.bob with reads := dropFirst (fun x => x.id == r.id) d.bob.reads } } (readEnded d r n) :=
    (ctrInc_reports _ _).trans (ctrInc_reports _ _)
  refine ⟨h.reqs, h.sas, ?_⟩
  unfold unitRead
  rw [huse]
  exact .ite (relocBlock_tierStep _ _ _ _ _) (.refl _)

section
variable (hr : s.dev.bob.reads.find? (fun x => x.id == r.id && x.started) = some r) (hu : unitAt s.dev r.unit = some u)
  (hheld : channelHeld s.dev r = false) (hdue : ∀ y ∈ s.dev.sas.skeins, y.fetchDue = none ∧ y.windowDue = false)
include hr hu hheld hdue

/-- An attempt that leaves codewords to be read again keeps those that were good (R350). -/
theorem bobbinReadAttempt_partly (hoff : readDisturb s.dev = 0) (hgood : (goodNow r good).length < 4) (hn : r.attempts + 1 < 7) :
    Completes (.bobbinReadAttempt r.id good tagOk) s (fun d => (∃ x ∈ d.bob.reads, x.id = r.id ∧ x.attempts = r.attempts + 1 ∧
      x.good = goodNow r good) ∧ d.reqs = s.dev.reqs) := by
  refine ⟨_, execBobbinReadAttempt_partly hr hu hheld hgood hn, ?_⟩
  generalize he : tryAgain (readCounted s.dev u) r (goodNow r good) = e
  rw [attemptPumped_settled (d := e) (he ▸ hdue), disturbCheck_off (he ▸ hoff)]
  have hmem : { r with attempts := r.attempts + 1, good := goodNow r good, begun := now (readCounted s.dev u) } ∈ e.bob.reads := by
    rw [← he]
    exact mem_replaceFirst ⟨r, List.mem_of_find?_eq_some hr, beq_self_eq_true _⟩
  obtain ⟨x, hx, hid, hat, hg⟩ := pumpBob_reads hmem
  refine ⟨⟨x, ?_, hid, hat, hg⟩, (collect_sameService _).reqs.trans ((pumpBob_tierStep e).reqs.trans (he ▸ rfl))⟩
  rwa [(collect_slotsDropped _).bob]

/-- A whole authentic unit lets its frames be promoted (R250). -/
theorem bobbinReadAttempt_whole (hgood : (goodNow r good).length = 4) (htag : tagOk = true) (hz : s.dev.sec.zeroized = false)
    (huse : r.use = .promote) : Completes (.bobbinReadAttempt r.id good tagOk) s (fun d =>
      (∀ p ∈ d.sas.promotions, p.unit = u.id → p.read) ∧ d.reqs = s.dev.reqs) := by
  refine ⟨_, execBobbinReadAttempt_whole hr hu hheld hgood htag hz, ?_⟩
  obtain ⟨hreqs, hsas, hstep⟩ := unitRead_promotes (readCounted s.dev u) u (r.attempts + 1) huse
  generalize unitRead (readCounted s.dev u) u r (r.attempts + 1) = e at hstep ⊢
  rw [attemptPumped_settled (d := e) (by rw [hstep.sas]; show ∀ y ∈ (readEnded _ _ _).sas.skeins, _; rw [hsas]; exact hdue)]
  have h := hstep.trans ((disturbCheck_tierStep e u.tgt u.lun u.blk).trans (pumpBob_tierStep _))
  refine ⟨?_, (collect_sameService _).reqs.trans (h.reqs.trans hreqs)⟩
  rw [(collect_freesFrames _).promotions, h.sas]
  exact promotionsGoOn_read _ u

end

end

/-! ## Programs and erases (R343) -/

/-- A unit whose program has ended is written. -/
def unitWritten (d : Dev) (u : BobUnit) : Dev := setUnit (ctrInc d cBobPrograms) { u with written := true }

/-- A block of which a program has failed. -/
def programFailed (d : Dev) (t lun blk : Nat) : Dev := modBlock (ctrInc d cBobProgFail) t lun blk (fun b => { b with st := .bad })

/-- A block that has been erased. -/
def blockErased (d : Dev) (t lun blk : Nat) : Dev := modBlock (ctrInc d cBobErases) t lun blk (fun b =>
  { lun := b.lun, blk := b.blk, erases := b.erases + 1, session := b.session + 1 })

/-- A block of which an erase has failed. -/
def eraseFailed (d : Dev) (t lun blk : Nat) : Dev := modBlock (ctrInc d cBobEraseFail) t lun blk (fun b =>
  { b with st := .bad, erasing := false, doomed := false })

section
variable {d : Dev} {t lun blk : Nat} {b : BobBlock}

theorem unitWritten_reqs (d : Dev) (u : BobUnit) : (unitWritten d u).reqs = d.reqs := ctrInc_reqs d cBobPrograms

theorem programFailed_reqs (d : Dev) (t lun blk : Nat) : (programFailed d t lun blk).reqs = d.reqs := ctrInc_reqs d cBobProgFail

theorem programFailed_bad (d : Dev) (t lun blk : Nat) : AllBad (programFailed d t lun blk) t lun blk :=
  allBad_modBlock _ _ _ _ (fun _ => ⟨rfl, rfl⟩) (fun _ => rfl)

theorem blockErased_reqs (d : Dev) (t lun blk : Nat) : (blockErased d t lun blk).reqs = d.reqs := ctrInc_reqs d cBobErases

theorem block_blockErased (hb : (targetAt d t).block lun blk = some b) : (targetAt (blockErased d t lun blk) t).block lun blk =
    some { lun := b.lun, blk := b.blk, erases := b.erases + 1, session := b.session + 1 } :=
  block_modBlock_same (fun _ => ⟨rfl, rfl⟩) (by rwa [targetAt_congr (ctrInc_bob d cBobErases)])

theorem eraseFailed_reqs (d : Dev) (t lun blk : Nat) : (eraseFailed d t lun blk).reqs = d.reqs := ctrInc_reqs d cBobEraseFail

theorem block_eraseFailed (hb : (targetAt d t).block lun blk = some b) : (targetAt (eraseFailed d t lun blk) t).block lun blk =
    some { b with st := .bad, erasing := false, doomed := false } :=
  block_modBlock_same (fun _ => ⟨rfl, rfl⟩) (by rwa [targetAt_congr (ctrInc_bob d cBobEraseFail)])

end

section
variable {s : State} {loc : BlockLoc}

section
variable (hst : (targetAt s.dev (tgtOf loc.ch loc.tgt)).st = 1) (hsus : suspended s.dev (tgtOf loc.ch loc.tgt) = false)
include hst hsus

section
variable {page : Nat} {u : BobUnit} (hu : s.dev.bob.units.find? (fun x => x.inBlock (tgtOf loc.ch loc.tgt) loc.lun loc.blk &&
  x.page == page && !x.written) = some u)
include hu

/-- A unit that relocates nothing and holds something is written once its program has ended. -/
theorem bobbinProgramDone_writes (hsource : u.source = none) (hslots : u.slots.any Option.isSome = true) :
    Completes (.bobbinProgramDone loc page true) s (fun d => (∃ x ∈ d.bob.units, x.id = u.id ∧ x.written) ∧ d.reqs = s.dev.reqs) := by
  generalize ht : tgtOf loc.ch loc.tgt = t at hst hsus hu
  have hexec : exec (.bobbinProgramDone loc page true) s = .next (s.setDev (collect (pumpBob (wearCheck
      (disturbCheck (unitWritten s.dev u) t loc.lun loc.blk) t)))) := by
    show execBobbinProgramDone loc page true s = _
    simp [execBobbinProgramDone, onDevC, onDev, ht, hu, hst, hsus, hsource, unitWritten]
  have hwritten : { u with written := true } ∈ (unitWritten s.dev u).bob.units :=
    mem_replaceFirst ⟨u, by rw [ctrInc_bob]; exact List.mem_of_find?_eq_some hu, beq_self_eq_true _⟩
  have h := (disturbCheck_tierStep (unitWritten s.dev u) t loc.lun loc.blk).trans
    ((wearCheck_tierStep _ t).trans (pumpBob_tierStep _))
  obtain ⟨x, hx, hid, hw⟩ := (collect_slotsDropped _).units _ (h.units _ hwritten hslots)
  exact ⟨_, hexec, ⟨x, hx, hid, hw⟩, (collect_sameService _).reqs.trans (h.reqs.trans (unitWritten_reqs _ _))⟩

/-- A program that fails makes its block BAD; its unit goes elsewhere. -/
theorem bobbinProgramDone_fails : Completes (.bobbinProgramDone loc page false) s (fun d => d.reqs = s.dev.reqs ∧
    ∀ b ∈ (targetAt d (tgtOf loc.ch loc.tgt)).table, b.lun = loc.lun → b.blk = loc.blk → b.st = .bad) := by
  generalize ht : tgtOf loc.ch loc.tgt = t at hst hsus hu ⊢
  have hexec : exec (.bobbinProgramDone loc page false) s = .next (s.setDev (collect (pumpBob (reprogram (detect
      (programFailed s.dev t loc.lun loc.blk) 0x07 (locCode t loc.lun loc.blk page) 0x424 0 0) u)))) := by
    show execBobbinProgramDone loc page false s = _
    simp [execBobbinProgramDone, onDevC, onDev, ht, hu, hst, hsus, programFailed]
  have hd := detect_reports (programFailed s.dev t loc.lun loc.blk) 0x07 (locCode t loc.lun loc.blk page) 0x424 0 0
  have h := (ProgramStep.of_bob hd.reqs hd.bob).trans (reprogram_programStep _ u)
  refine ⟨_, hexec, (collect_sameService _).reqs.trans ((pumpBob_tierStep _).reqs.trans (h.reqs.trans (programFailed_reqs _ _ _ _))),
    fun b hb hl hk => ?_⟩
  rw [targetAt_collect] at hb
  exact (h.bad _ _ _ (programFailed_bad _ _ _ _)).pumpBob b (List.mem_filter.mpr ⟨hb, by simp [hl, hk]⟩)

end

section
variable {b : BobBlock} (hb : (targetAt s.dev (tgtOf loc.ch loc.tgt)).block loc.lun loc.blk = some b) (her : b.erasing)
include hb her

/-- An erased block is FREE, under its next session. -/
theorem bobbinEraseDone_frees : Completes (.bobbinEraseDone loc true) s (fun d => d.reqs = s.dev.reqs ∧
    ∃ x, (targetAt d (tgtOf loc.ch loc.tgt)).block loc.lun loc.blk = some x ∧
      x.erases = b.erases + 1 ∧ x.st = .free ∧ x.session = b.session + 1) := by
  generalize ht : tgtOf loc.ch loc.tgt = t at hst hsus hb ⊢
  obtain ⟨hl, hk⟩ := block_place hb
  have hexec : exec (.bobbinEraseDone loc true) s =
      .next (s.setDev (pumpBob (wearCheck (blockErased s.dev t loc.lun loc.blk) t))) := by
    show execBobbinEraseDone loc true s = _
    simp [execBobbinEraseDone, onDev, ht, hb, hst, hsus, her, hl, hk, blockErased]
  have h := (wearCheck_tierStep (blockErased s.dev t loc.lun loc.blk) t).trans (pumpBob_tierStep _)
  exact ⟨_, hexec, h.reqs.trans (blockErased_reqs _ _ _ _), _,
    pumpBob_keeps_notFull (wearCheck_keeps_notFull (block_blockErased hb) nofun) nofun, rfl, rfl, rfl⟩

/-- A block whose erase fails is BAD. -/
theorem bobbinEraseDone_fails : Completes (.bobbinEraseDone loc false) s (fun d => d.reqs = s.dev.reqs ∧
    ∃ x, (targetAt d (tgtOf loc.ch loc.tgt)).block loc.lun loc.blk = some x ∧ x.st = .bad ∧ x.erasing = false) := by
  generalize ht : tgtOf loc.ch loc.tgt = t at hst hsus hb ⊢
  obtain ⟨hl, hk⟩ := block_place hb
  have hexec : exec (.bobbinEraseDone loc false) s = .next (s.setDev (pumpBob (detect (eraseFailed s.dev t loc.lun loc.blk)
      0x07 (locCode t loc.lun loc.blk 0) 0x424 0 0))) := by
    show execBobbinEraseDone loc false s = _
    simp [execBobbinEraseDone, onDev, ht, hb, hst, hsus, her, hl, hk, eraseFailed]
  have hblock := block_eraseFailed hb
  have hd := detect_reports (eraseFailed s.dev t loc.lun loc.blk) 0x07 (locCode t loc.lun loc.blk 0) 0x424 0 0
  rw [← targetAt_congr hd.bob] at hblock
  exact ⟨_, hexec, (pumpBob_tierStep _).reqs.trans (hd.reqs.trans (eraseFailed_reqs _ _ _ _)), _,
    pumpBob_keeps_notFull hblock nofun, rfl, rfl⟩

end

end

/-! ## Garbage collection, retention, failed targets (R339, R341, R356) -/

theorem bobbinGc_stops {ch t : Nat} (h : gcRuns s.dev = false) :
    Completes (.bobbinGc ch t) s (fun d => d = { s.dev with bob := { s.dev.bob with gc := false } }) := by
  refine ⟨_, ?_, rfl⟩
  show execBobbinGc ch t s = _
  simp [execBobbinGc, onDev, h]
  rfl

/-- A collection that runs dooms its victim. -/
theorem bobbinGc_dooms {ch t : Nat} {b : BobBlock} (hrun : gcRuns s.dev)
    (hv : gcVictim { s.dev with bob := { s.dev.bob with gc := true } } = some (tgtOf ch t, b)) (hgain : gcGains s.dev (tgtOf ch t) b)
    (hb : (targetAt s.dev (tgtOf ch t)).block b.lun b.blk = some b) :
    Completes (.bobbinGc ch t) s (fun d => d.bob.gc ∧ d.reqs = s.dev.reqs ∧ ∃ x, (targetAt d (tgtOf ch t)).block b.lun b.blk = some x ∧
      x.doomed ∧ x.byGc) := by
  generalize he : ({ s.dev with bob := { s.dev.bob with gc := true } } : Dev) = e at hv
  have hgain' : gcGains e (tgtOf ch t) b = true := he ▸ hgain
  have hfilter : (some (tgtOf ch t, b)).filter (fun x => gcGains e x.1 x.2) = some (tgtOf ch t, b) := by simp [Option.filter, hgain']
  have hexec : exec (.bobbinGc ch t) s = .next (s.setDev (doomBlock e (tgtOf ch t) b.lun b.blk true)) := by
    show execBobbinGc ch t s = _
    simp [execBobbinGc, onDev, hrun, he, hv, hfilter]
  obtain ⟨x, hx, hdoomed, hgc⟩ := doomBlock_dooms (d := e) true (by rw [← he]; exact hb)
  have h := doomBlock_tierStep e (tgtOf ch t) b.lun b.blk true
  exact ⟨_, hexec, by rw [h.gc, ← he], by rw [h.reqs, ← he], x, hx, hdoomed, hgc⟩

/-- A FULL block past its retention is doomed. -/
theorem blockRetentionExpiry_dooms {b : BobBlock} {f : Nat}
    (hb : (targetAt s.dev (tgtOf loc.ch loc.tgt)).block loc.lun loc.blk = some b) (hfirst : b.first = some f)
    (hdue : f + retentionNs s.dev < now s.dev) (hfull : b.st = .full) (hd : b.doomed = false) :
    Completes (.blockRetentionExpiry loc) s (fun d => d.reqs = s.dev.reqs ∧ ∃ x,
      (targetAt d (tgtOf loc.ch loc.tgt)).block loc.lun loc.blk = some x ∧ x.doomed) := by
  obtain ⟨hl, hk⟩ := block_place hb
  have hexec : exec (.blockRetentionExpiry loc) s =
      .next (s.setDev (relocBlock s.dev (tgtOf loc.ch loc.tgt) loc.lun loc.blk cBobRetentionReloc)) := by
    show execBlockRetentionExpiry loc s = _
    simp [execBlockRetentionExpiry, onDev, hb, hfirst, hdue, hl, hk]
  exact ⟨_, hexec, (relocBlock_tierStep _ _ _ _ _).reqs, relocBlock_dooms hb hfull hd⟩

/-- A target out of service, with its raw capacity (R356, R357). -/
def targetLost (d : Dev) (t : Nat) : Dev :=
  setRaw (setTarget d t { targetAt d t with st := 2 }) (d.bob.rawBytes - (targetAt d t).raw)

/-- What follows the loss of a target leaves its state and the raw capacity. -/
theorem execTargetTimeout_loses {ch t : Nat} (hst : (targetAt s.dev (tgtOf ch t)).st = 1) :
    ∃ d, exec (.targetTimeout ch t) s = .next (s.setDev d) ∧ SameService (targetLost s.dev (tgtOf ch t)) d := by
  refine ⟨_, rfl, ?_⟩
  beta_reduce
  extract_lets t' x d1 here d2 d3 reads d4 d5 d6
  rw [if_neg (by simp [x, t', hst])]
  have h2 : SameService d1 d2 := (Reports.ite (.refl _) (detect_reports _ _ _ _ _ _)).sameService
  have h3 : SameService d2 d3 := .foldl (fun d u => (reprogram_programStep d u).toSameService) _ _
  have h4 : SameService d3 d4 := ⟨rfl, rfl, rfl, fun _ => rfl⟩
  have h5 : SameService d4 d5 := failPromotions_sameService _ _ _
  have h6 : SameService d5 d6 := .ite (.of_bob rfl rfl) (.refl _)
  exact h2.trans (h3.trans (h4.trans (h5.trans (h6.trans ((pumpBob_tierStep d6).toSameService.trans (collect_sameService _))))))

theorem targetTimeout_completes {ch t : Nat} (hst : (targetAt s.dev (tgtOf ch t)).st = 1) :
    Completes (.targetTimeout ch t) s (fun d => (targetAt d (tgtOf ch t)).st = 2 ∧ d.reqs = s.dev.reqs ∧
      d.bob.rawBytes = s.dev.bob.rawBytes - (targetAt s.dev (tgtOf ch t)).raw) := by
  obtain ⟨d, hexec, h⟩ := execTargetTimeout_loses hst
  refine ⟨d, hexec, (h.st _).trans ?_, h.reqs, h.raw⟩
  exact congrArg BobTarget.st (targetAt_setTarget_same _ _ _)

end

/-- Settles O48: a scan leaves READY targets READY; reads, programs and erases change their unit or their block, and what follows every
event of the tier touches FULL blocks, empty units and reads alone; a lost target keeps its state through what ends with it. How
garbage collection, retention and a lost target go on is the model's choice (log entry 55). -/
theorem bobbinCommandsComplete : Obligations.BobbinCommandsComplete := by
  unfold Obligations.BobbinCommandsComplete
  refine ⟨fun s => ⟨?_, ?_, ?_, ?_⟩, fun s => ⟨?_, ?_, ?_, ?_⟩⟩
  · exact fun ch trained scans hch hnew hflash hcrypto => channelScanDone_completes hch hnew hflash hcrypto
  · exact fun r u good tagOk hr hu hoff hheld hdue => ⟨bobbinReadAttempt_partly hr hu hheld hdue hoff,
      bobbinReadAttempt_whole hr hu hheld hdue⟩
  · exact fun loc page u hu hst hsus => ⟨bobbinProgramDone_writes hst hsus hu, bobbinProgramDone_fails hst hsus hu⟩
  · exact fun loc b hb her hst hsus => ⟨bobbinEraseDone_frees hst hsus hb her, bobbinEraseDone_fails hst hsus hb her⟩
  · exact fun ch t => bobbinGc_stops
  · exact fun ch t b => bobbinGc_dooms
  · exact fun loc b f => blockRetentionExpiry_dooms
  · exact fun ch t => targetTimeout_completes

end Sys2Proof.Machine
end

section
/-! # What far jobs' commands leave alone

What the heddles and the shuttles do for a far job (reading lines, counting, mapping hint lists, storing skeins, starting walks) leaves
requests, settings, operations and far jobs as they were (`KeepsJobs`); and all of it but the walks leaves a device whose frames all rest
in the stack tier so (`RoundStep`). -/

namespace Sys2Proof.Machine

open Sys2Proof

/-- `e` came from `d` with requests, settings, operations and far jobs as they were. -/
structure KeepsJobs (d e : Dev) : Prop where
  reqs : e.reqs = d.reqs
  img : e.img = d.img
  adm : e.adm = d.adm
  retr : e.retr = d.retr

/-- Every mapped frame lies in the stack tier and is not moving. -/
def AllInStack (d : Dev) : Prop := ∀ e ∈ d.sas.frames, e.2.stack.isSome ∧ e.2.moving = false

/-- A step that takes no frame out of the stack tier, too. -/
structure RoundStep (d e : Dev) : Prop extends KeepsJobs d e where
  inStack : AllInStack d → AllInStack e

section
variable {a b c d e : Dev}

theorem KeepsJobs.refl (d : Dev) : KeepsJobs d d := ⟨rfl, rfl, rfl, rfl⟩

theorem KeepsJobs.trans (h : KeepsJobs a b) (k : KeepsJobs b c) : KeepsJobs a c :=
  ⟨k.reqs.trans h.reqs, k.img.trans h.img, k.adm.trans h.adm, k.retr.trans h.retr⟩

theorem KeepsJobs.ite {p : Prop} [Decidable p] (ha : KeepsJobs d a) (hb : KeepsJobs d b) : KeepsJobs d (if p then a else b) := by
  split <;> assumption

theorem KeepsJobs.foldl {α : Type} {f : Dev → α → Dev} (h : ∀ d x, KeepsJobs d (f d x)) (l : List α) (d : Dev) :
    KeepsJobs d (l.foldl f d) := by
  induction l generalizing d with
  | nil => exact .refl d
  | cons x xs ih => exact (h d x).trans (ih _)

theorem Reports.keepsJobs (h : Reports d e) : KeepsJobs d e := ⟨h.reqs, h.img, h.adm, h.retr⟩

theorem Frees.keepsJobs (h : Frees d e) : KeepsJobs d e := ⟨h.reqs, h.img, h.adm, h.retr⟩

theorem RoundStep.refl (d : Dev) : RoundStep d d := ⟨.refl d, id⟩

theorem RoundStep.trans (h : RoundStep a b) (k : RoundStep b c) : RoundStep a c :=
  ⟨h.toKeepsJobs.trans k.toKeepsJobs, k.inStack ∘ h.inStack⟩

theorem RoundStep.ite {p : Prop} [Decidable p] (ha : RoundStep d a) (hb : RoundStep d b) : RoundStep d (if p then a else b) := by
  split <;> assumption

theorem RoundStep.foldl {α : Type} {f : Dev → α → Dev} (h : ∀ d x, RoundStep d (f d x)) (l : List α) (d : Dev) :
    RoundStep d (l.foldl f d) := by
  induction l generalizing d with
  | nil => exact .refl d
  | cons x xs ih => exact (h d x).trans (ih _)

/-- The same where a value comes with the device. -/
theorem RoundStep.ite₂ {α : Type} {p : Prop} [Decidable p] {a b : α × Dev} (ha : RoundStep d a.2) (hb : RoundStep d b.2) :
    RoundStep d (if p then a else b).2 := by
  split <;> assumption

theorem RoundStep.foldl₂ {α β : Type} {f : β × Dev → α → β × Dev} (h : ∀ x a, RoundStep x.2 (f x a).2) (l : List α)
    (x : β × Dev) : RoundStep x.2 (l.foldl f x).2 := by
  induction l generalizing x with
  | nil => exact .refl _
  | cons a l ih => exact (h x a).trans (ih _)

/-- A step that leaves the frame map alone. -/
theorem KeepsJobs.roundStep (h : KeepsJobs d e) (hf : e.sas.frames = d.sas.frames) : RoundStep d e :=
  ⟨h, fun hd => by unfold AllInStack; rwa [hf]⟩

theorem Reports.roundStep (h : Reports d e) : RoundStep d e := h.keepsJobs.roundStep (by rw [h.sas])

theorem KeepsJobs.findJob (h : KeepsJobs d e) (i : Nat) : findJob e i = findJob d i := by unfold Machine.findJob; rw [h.retr]

theorem KeepsJobs.leadOp (h : KeepsJobs d e) (j : FarJob) : leadOp e j = leadOp d j := by
  unfold Machine.leadOp findOp; rw [h.adm]

theorem KeepsJobs.imgAt (h : KeepsJobs d e) (x hi lo : Nat) : Machine.img e x hi lo = Machine.img d x hi lo := by
  unfold Machine.img; rw [h.img]

/-! ## Frames that lie in the stack tier -/

theorem AllInStack.of_tget {f : Nat} {y : Frame4K} (h : AllInStack d) (hf : tget d.sas.frames f = some y) :
    y.stack.isSome ∧ y.moving = false := by
  obtain ⟨e, he, rfl⟩ := Option.map_eq_some_iff.mp hf
  exact h e (List.mem_of_find?_eq_some he)

theorem AllInStack.resident (h : AllInStack d) (fs : List Nat) : resident d fs = true := by
  refine List.all_eq_true.mpr fun f _ => ?_
  split
  next y hy =>
    obtain ⟨hs, hm⟩ := h.of_tget hy
    simp [hs, hm]
  · rfl

theorem AllInStack.lowFrames (h : AllInStack d) (fs : List Nat) : lowFrames d fs = [] := by
  refine List.filter_eq_nil_iff.mpr fun f _ => ?_
  split
  next y hy => simp [Option.isSome_iff_ne_none.mp (h.of_tget hy).1]
  · simp

end

section
variable (d : Dev)

/-- New stacks, frames, bobbin units or counts of free values. -/
theorem tiers_keepsJobs {free : Nat} {stk : Stacks} {bob : Bobbin} {sas : Sas} {codec : Option (Nat × Nat)} :
    KeepsJobs d { d with free := free, stk := stk, bob := bob, sas := sas, codecErr := codec } := ⟨rfl, rfl, rfl, rfl⟩

/-- New stacks, bobbin units or other parts of the SAS than its frame map. -/
theorem tiers_roundStep {free : Nat} {stk : Stacks} {bob : Bobbin} {sas : Sas} (hf : sas.frames = d.sas.frames := by rfl) :
    RoundStep d { d with free := free, stk := stk, bob := bob, sas := sas } := (tiers_keepsJobs d).roundStep hf

theorem setStack_roundStep (n : Nat) (u : StackUnit) : RoundStep d (setStack d n u) := tiers_roundStep d

theorem freeNext_roundStep : RoundStep d (freeNext d).2 := tiers_roundStep d

theorem setSkein_roundStep (k : Skein) : RoundStep d (setSkein d k) :=
  (tiers_roundStep d).trans (mirrorDirs_reports _ _ _).roundStep

/-! ## Lines read -/

theorem poisonRead_roundStep (a n : Nat) : RoundStep d (poisonRead d a n).2 := by
  unfold poisonRead
  split
  · exact .refl d
  · exact (ctrInc_reports _ _).roundStep

theorem dieCorrected_roundStep (n die : Nat) : RoundStep d (dieCorrected d n die) :=
  (ctrInc_reports d _).roundStep.trans (.ite ((setStack_roundStep _ _ _).trans (detect_reports _ _ _ _ _ _).roundStep) (.refl _))

theorem lineUncorrectable_roundStep (n p l : Nat) (ss : List Nat) : RoundStep d (lineUncorrectable d n p l ss) :=
  (setStack_roundStep _ _ _).trans (ctrInc_reports _ _).roundStep

theorem readLine_roundStep (n p l : Nat) (es : SymbolErrors) : RoundStep d (readLine d n p l es).2 := by
  have hcount := (ctrInc_reports d (cStack n 0x100)).roundStep
  unfold readLine
  refine .ite₂ (ctrInc_reports _ _).roundStep (.ite₂ (.refl d) (.ite₂ ?_ (.ite₂ (lineUncorrectable_roundStep _ _ _ _ _)
    (.ite₂ ((freeNext_roundStep d).trans (lineUncorrectable_roundStep _ _ _ _ _))
      ((freeNext_roundStep d).trans (ctrInc_reports _ _).roundStep)))))
  split
  · exact hcount.trans (dieCorrected_roundStep _ _ _)
  · exact hcount

/-- A wrong correction that is written back (R297) changes data that frames hold, and moves no frame. -/
theorem readSasLine_roundStep (f l : Nat) (es : SymbolErrors) : RoundStep d (readSasLine d f l es).2 := by
  unfold readSasLine
  extract_lets a
  split
  · exact .refl d
  next n p l' _ =>
    extract_lets r
    have hline : RoundStep d r.2 := readLine_roundStep d n p l' es
    split
    · exact hline.trans (tiers_roundStep _)
    · exact hline

theorem readLines_roundStep (found : List LineErr) : RoundStep d (readLines found d).2 :=
  RoundStep.foldl₂ (f := fun (r : Bool × Dev) (e : LineErr) =>
      (r.1 || (readSasLine r.2 e.frame e.line e.errs).1 == .bad, (readSasLine r.2 e.frame e.line e.errs).2))
    (fun r e => readSasLine_roundStep r.2 e.frame e.line e.errs) found (false, d)

theorem readRanges_roundStep (found : List LineErr) (rs : List (Nat × Nat)) : RoundStep d (readRanges found rs d).2 := by
  induction rs generalizing d with
  | nil => exact .refl d
  | cons r rs ih =>
    have hp : RoundStep d (poisonRead d r.1 r.2).2 := poisonRead_roundStep d r.1 r.2
    unfold readRanges
    extract_lets p q
    have hq : RoundStep d q.2 := .ite₂ hp (hp.trans (readLines_roundStep _ _))
    exact .ite₂ hq (hq.trans (ih _))

theorem roundStep_of_readRanges {found : List LineErr} {rs : List (Nat × Nat)} {lost : Bool} {d e : Dev}
    (h : readRanges found rs d = (lost, e)) : RoundStep d e := by
  have hread := readRanges_roundStep d found rs
  rwa [h] at hread

/-! ## Hint lists mapped and set -/

theorem mapStack_roundStep {f : Nat} {e : Dev} (h : mapStack d f = some e) : RoundStep d e := by
  unfold mapStack at h
  split at h
  · cases h
  next home s _ =>
    cases h
    have hcount : RoundStep d (if home == s then d else ctrInc d (cStack home 0x120)) :=
      .ite (.refl d) (ctrInc_reports _ _).roundStep
    have hdrop (x : Dev) : RoundStep x (dropUnitSlot x f) :=
      (dropUnitSlot_frees x f).keepsJobs.roundStep (by rw [dropUnitSlot_sas])
    refine hcount.trans ((hdrop _).trans ⟨tiers_keepsJobs _, fun hx y hy => ?_⟩)
    rcases mem_tset hy with rfl | hy
    · exact ⟨rfl, rfl⟩
    · exact hx y hy

theorem mapFrame_roundStep {f : Nat} {e : Dev} (h : mapFrame d f = some e) : RoundStep d e := by
  unfold mapFrame at h
  split at h
  · exact mapStack_roundStep d h
  · split at h
    · cases h; exact .refl d
    · split at h
      · cases h
      · obtain ⟨x, hx, rfl⟩ := Option.map_eq_some_iff.mp h
        exact (mapStack_roundStep d hx).trans ((tiers_roundStep x).trans (ctrInc_reports _ _).roundStep)

end

theorem mapAll_roundStep {d : Dev} {fs : List Nat} {e : Dev} (h : mapAll d fs = some e) : RoundStep d e := by
  induction fs generalizing d with
  | nil => cases h; exact .refl _
  | cons f fs ih =>
    unfold mapAll at h
    split at h
    · cases h
    next x hx => exact (mapFrame_roundStep d hx).trans (ih h)

section
variable (d : Dev)

theorem setHints_roundStep (j : FarJob) (ps : List Nat) : RoundStep d (setHints d j ps) := by
  refine .foldl (fun d x => ?_) _ d
  split
  · exact .refl d
  · split
    · exact .refl d
    next hx => exact (mapAll_roundStep hx).trans (setSkein_roundStep _ _)

/-! ## Pages expanded -/

theorem lookGroup_keepsJobs (a : Nat) : KeepsJobs d (lookGroup d a) :=
  .ite (ctrInc_reports _ _).keepsJobs (.ite ((tiers_keepsJobs d).trans (ctrInc_reports _ _).keepsJobs)
    ((freeNext_roundStep d).toKeepsJobs.trans ((tiers_keepsJobs _).trans (ctrInc_reports _ _).keepsJobs)))

theorem readBody_keepsJobs (s : Shape) (b : PageBody) : KeepsJobs d (readBody d s b).2 :=
  (expandBody_reports d s b).keepsJobs.trans ((KeepsJobs.foldl lookGroup_keepsJobs _ _).trans
    ((ctrAdd_reports _ _ _).trans (ctrAdd_reports _ _ _)).keepsJobs)

theorem expandPages_keepsJobs (k : Skein) (ps : List JobPage) : KeepsJobs d (expandPages k ps d).2 := by
  induction ps generalizing d with
  | nil => exact .refl d
  | cons p ps ih =>
    unfold expandPages
    split
    · exact ih d
    next b _ =>
      extract_lets r
      have hread : KeepsJobs d r.2 := readBody_keepsJobs d k.shape b
      split
      · exact hread
      · have hrest := ih r.2
        split
        next hx => rw [hx] at hrest; exact hread.trans hrest
        · exact hread.trans hrest

/-! ## Walks started -/

theorem pumpReads_keepsJobs : KeepsJobs d (pumpReads d) := .foldl (fun d _ => .ite (.refl d) (tiers_keepsJobs d)) _ d

theorem addRead_keepsJobs (u : Nat) (c : Cls) (dl : Nat) (use : BobUse) : KeepsJobs d (addRead d u c dl use) := by
  unfold addRead
  refine .ite (.refl d) ?_
  extract_lets t hit e rs r
  have he : KeepsJobs d e := .ite (ctrInc_reports _ _).keepsJobs (.refl d)
  exact he.trans ((tiers_keepsJobs e).trans (pumpReads_keepsJobs _))

theorem promoteFrame_keepsJobs (f : Nat) (op : Option Nat) (w : Option (Nat × Nat)) (c : Cls) (dl : Nat) :
    KeepsJobs d (promoteFrame d f op w c dl).2 := by
  unfold promoteFrame
  split
  · exact .refl d
  · split
    · exact .refl d
    · split
      · exact .refl d
      · dsimp only
        exact .trans (.ite (.refl d) (tiers_keepsJobs d)) (.ite (.refl _) (addRead_keepsJobs _ _ _ _ _))

theorem startWalk_keepsJobs (slot l : Nat) : KeepsJobs d (startWalk d slot l) := by
  unfold startWalk
  split
  · exact .refl d
  · exact .ite (.refl d) (((setSkein_roundStep _ _).toKeepsJobs.trans (ctrInc_reports _ _).keepsJobs).trans
      (.foldl (fun d f => promoteFrame_keepsJobs d f _ _ _ _) _ _))

theorem jobWalks_keepsJobs (k : Skein) (l : Nat) : KeepsJobs d (jobWalks d k l) := by
  have hnext := KeepsJobs.foldl (f := fun d i => startWalk d k.slot ((l + 1 + i) % max 1 k.shape.layers))
    (fun d i => startWalk_keepsJobs d _ _) (List.range (img d 0x80000 2 0)) d
  exact .ite hnext (hnext.trans (startWalk_keepsJobs _ _ _))

end

end Sys2Proof.Machine
end

section
/-! # The rounds of a far job: scan, walk, attend (R312 to R314, R421 to R436) -/

namespace Sys2Proof.Machine

open Sys2Proof

section
variable {s : State} {d e : Dev} {i : Nat} {j x : FarJob} {k : Skein} {o : Op} {found : List LineErr}

/-! ## The table of far jobs -/

theorem findJob_id (h : findJob d i = some j) : j.id = i := by simpa using List.find?_some h

theorem findJob_setJob_same (h : findJob d i = some x) (hi : j.id = i) : findJob (setJob d j) i = some j := by
  subst hi
  exact find?_replaceFirst ⟨x, List.mem_of_find?_eq_some h, by simp [findJob_id h]⟩ (by simp)

@[simp] theorem setJob_reqs (d : Dev) (j : FarJob) : (setJob d j).reqs = d.reqs := rfl

/-- A far job that a step leaves in the table stands in it, with what is said of it. -/
theorem KeepsJobs.mem_jobs {P : FarJob → Prop} (h : KeepsJobs d e) (hj : Machine.findJob d i = some j) (hp : P j) :
    ∃ x ∈ e.retr.jobs, x.id = i ∧ P x :=
  ⟨j, h.retr ▸ List.mem_of_find?_eq_some hj, findJob_id hj, hp⟩

/-! ## The scan (R312, R402, R417 to R427) -/

/-- The bounds of the eligible pages of a far job by rising page, each with whether its summary leaves a row unbounded (R312, R417). -/
def scannedBounds (d : Dev) (k : Skein) (j : FarJob) (ms : List FarMember) : List (PageBound × Bool) :=
  let bs := (j.pages.filter (fun p => p.elig != 0)).map (boundPage d k ms)
  (ascending (bs.map (fun x => x.1.page))).filterMap (fun p => bs.find? (fun x => x.1.page == p))

/-- The members of a far job by their places. -/
def placedMembers (j : FarJob) : List FarMember := (j.members.zipIdx).map (fun x => { x.1 with pos := x.2 })

/-- A far job with the bounds that its scan found. -/
def boundedJob (d : Dev) (k : Skein) (j : FarJob) : FarJob :=
  { j with
    members := placedMembers j
    bounds := (scannedBounds d k j (placedMembers j)).map (·.1)
    batch := (placedMembers j).length }

theorem leadOp_boundedJob (d a : Dev) (k : Skein) (j : FarJob) : leadOp d (boundedJob a k j) = leadOp d j := by
  unfold leadOp boundedJob placedMembers
  cases j.members <;> rfl

/-- The bounds of a scanned job are those of its eligible pages. -/
theorem boundedJob_eligible {b : PageBound} (h : b ∈ (boundedJob d k j).bounds) : ∃ p ∈ j.pages, p.page = b.page ∧ p.elig ≠ 0 := by
  obtain ⟨y, hy, rfl⟩ := List.mem_map.mp h
  obtain ⟨n, -, hfind⟩ := List.mem_filterMap.mp hy
  obtain ⟨p, hp, rfl⟩ := List.mem_map.mp (List.mem_of_find?_eq_some hfind)
  obtain ⟨hmem, helig⟩ := List.mem_filter.mp hp
  exact ⟨p, hmem, rfl, by simpa using helig⟩

/-- A far job with the pages selected by its bounds, in rounds (R421 to R427). -/
def selectedJob (d : Dev) (j : FarJob) (k : Skein) : FarJob :=
  let sel := select j.bounds j.far (img d 0x120000 5 0) (img d 0x120000 13 8) (if j.kPages != 0 then j.kPages else j.kCap)
  let ends := if sel.isEmpty then [] else rounds j.kPages j.kCap (img d 0x120000 28 16) sel.length
  { j with
    scanned := true
    waiting := false
    sel := sel
    ends := ends
    sums := (List.range (j.members.length * k.shape.qHeads)).map (rowBound j.bounds sel ends)
    ended := sel.isEmpty }

/-- With every frame in the stack tier, the selected pages need no promotion. -/
theorem selectPages_of_inStack (h : AllInStack d) (j : FarJob) (k : Skein) (o : Op) :
    selectPages d j k o = setHints (setJob d (selectedJob d j k)) (selectedJob d j k) (selectedJob d j k).sel := by
  have hup : AllInStack (setHints (setJob d (selectedJob d j k)) (selectedJob d j k) (selectedJob d j k).sel) :=
    (setHints_roundStep _ _ _).inStack h
  have hlow := hup.lowFrames (jobFrames (setHints (setJob d (selectedJob d j k)) (selectedJob d j k) (selectedJob d j k).sel)
    (selectedJob d j k) (selectedJob d j k).sel)
  exact if_pos (List.isEmpty_iff.mpr hlow)

theorem selectPages_keepsJobs (h : AllInStack d) (j : FarJob) (k : Skein) (o : Op) :
    KeepsJobs (setJob d (selectedJob d j k)) (selectPages d j k o) := by
  rw [selectPages_of_inStack h]
  exact (setHints_roundStep _ _ _).toKeepsJobs

/-- What the heddles count of a scan: the bytes read from each stack (R312). -/
def bytesCounted (d : Dev) (k : Skein) (j : FarJob) : Dev :=
  let bytes := j.pages.flatMap (scanBytes d k j.layer)
  (List.range 12).foldl (fun d n =>
    let b := ((bytes.filter (fun x => x.1 == n)).map (·.2)).sum
    if b == 0 then d else ctrInc (ctrAdd d (cStack n 0x200) b) (cStack n 0x208)) d

theorem bytesCounted_reports (d : Dev) (k : Skein) (j : FarJob) : Reports d (bytesCounted d k j) :=
  .foldl _ (fun d _ => .ite (.refl d) ((ctrAdd_reports _ _ _).trans (ctrInc_reports _ _))) _ d

/-- What a scan counts in all: those bytes, and the pages whose summary leaves a row unbounded (R418). -/
def scanCounted (d : Dev) (k : Skein) (j : FarJob) : Dev :=
  ctrAdd (bytesCounted d k j) cRetrUnbounded
    ((scannedBounds (bytesCounted d k j) k j (placedMembers j)).filter (·.2)).length

theorem scanCounted_reports (d : Dev) (k : Skein) (j : FarJob) : Reports d (scanCounted d k j) :=
  (bytesCounted_reports d k j).trans (ctrAdd_reports _ _ _)

/-- A scan whose lines can be read and whose queries are finite selects pages by the bounds that it found. -/
theorem execHeddleScan_selects (hj : findJob s.dev i = some j) (hlead : leadOp s.dev j = some o) (hup : AllInStack s.dev)
    (hscan : j.scanned = false) (hfin : ∀ x ∈ j.members, queryBad x.msg = false)
    (hread : readRanges found (j.pages.flatMap (scanRanges (jobSkein s.dev j) j.layer)) s.dev = (false, e)) :
    let k := jobSkein e j
    let scanned := boundedJob (bytesCounted e k j) k j
    exec (.heddleScan i (none, found)) s = .next (s.setDev (collect
      (selectPages (setJob (scanCounted e k j) scanned) scanned k o))) := by
  intro k scanned
  have he : KeepsJobs s.dev e := (roundStep_of_readRanges hread).toKeepsJobs
  have hgood : j.members.filter (fun x => queryBad x.msg) = [] := List.filter_eq_nil_iff.mpr (fun x hx => by simp [hfin x hx])
  have hjob : findJob e i = some j := (he.findJob i).trans hj
  have hlead' : leadOp (scanCounted e k j) scanned = some o := by
    rw [leadOp_boundedJob, (he.trans (scanCounted_reports e k j).keepsJobs).leadOp, hlead]
  show execHeddleScan i (none, found) s = _
  simp only [execHeddleScan, onDevC, onDev, hj]
  rw [if_neg (by simp [hscan])]
  simp only [hlead, hup.resident, hread, hgood, List.foldl_nil, hjob, if_false, Bool.false_eq_true, Bool.not_true]
  split
  next o' ho' =>
    obtain rfl : o = o' := Option.some.inj (hlead'.symm.trans ho')
    rfl
  next hnone => cases hlead'.symm.trans hnone

/-- A far job whose scan ends has selected its pages by the bounds of its eligible ones. -/
theorem heddleScan_completes (hj : findJob s.dev i = some j) (hlead : leadOp s.dev j = some o) (hup : AllInStack s.dev)
    (hscan : j.scanned = false) (hfin : ∀ x ∈ j.members, queryBad x.msg = false)
    (hread : (readRanges found (j.pages.flatMap (scanRanges (jobSkein s.dev j) j.layer)) s.dev).1 = false) :
    Completes (.heddleScan i (none, found)) s (fun d => (∃ x ∈ d.retr.jobs, x.id = i ∧ x.scanned ∧ x.batch = j.members.length ∧
      x.sel = select x.bounds j.far (img s.dev 0x120000 5 0) (img s.dev 0x120000 13 8) (if j.kPages ≠ 0 then j.kPages else j.kCap) ∧
      (∀ b ∈ x.bounds, ∃ p ∈ j.pages, p.page = b.page ∧ p.elig ≠ 0)) ∧ d.reqs = s.dev.reqs) := by
  obtain ⟨e, he⟩ : ∃ e, readRanges found (j.pages.flatMap (scanRanges (jobSkein s.dev j) j.layer)) s.dev = (false, e) :=
    ⟨_, Prod.ext hread rfl⟩
  let k := jobSkein e j
  let b := boundedJob (bytesCounted e k j) k j
  let y := setJob (scanCounted e k j) b
  have hcount : RoundStep s.dev (scanCounted e k j) := (roundStep_of_readRanges he).trans (scanCounted_reports e k j).roundStep
  have hlast : KeepsJobs (setJob y (selectedJob y b k)) (collect (selectPages y b k o)) :=
    (selectPages_keepsJobs (d := y) (hcount.inStack hup) b k o).trans (collect_frees _).keepsJobs
  have hid : j.id = i := findJob_id hj
  have hbounded : findJob y i = some b := findJob_setJob_same ((hcount.findJob i).trans hj) (show b.id = i from hid)
  have hselected : findJob (setJob y (selectedJob y b k)) i = some (selectedJob y b k) :=
    findJob_setJob_same hbounded (show b.id = i from hid)
  refine ⟨_, execHeddleScan_selects hj hlead hup hscan hfin he, hlast.mem_jobs hselected ⟨rfl, ?_, ?_, ?_⟩,
    by rw [hlast.reqs, setJob_reqs, setJob_reqs, hcount.reqs]⟩
  · simp [selectedJob, b, boundedJob, placedMembers]
  · have himg : img y = img s.dev := by funext x h l; exact hcount.imgAt x h l
    simp [selectedJob, himg, b, boundedJob]
  · exact fun x hx => boundedJob_eligible hx

/-! ## The walk (R313, R314, R423) -/

section
variable (hj : findJob s.dev i = some j) (hup : AllInStack s.dev) (hscan : j.scanned = true)
  (hended : j.ended = false) (hleft : j.walked < j.ends.length)
  (hpages : ∀ p ∈ roundPages j.sel j.ends j.walked, ∃ x ∈ j.pages, x.page = p ∧ x.tokens ≠ 0)
  (hread : readRanges found ((roundPages j.sel j.ends j.walked).flatMap
    (walkRanges s.dev (jobSkein s.dev j) j.layer j.pages)) s.dev = (false, e))
  (hcow : underCow e (jobSkein s.dev j) j.layer (jobFrames e j (roundPages j.sel j.ends j.walked)) = false)
include hj hup hscan hended hleft hpages hread hcow

/-- A walk whose lines can be read, and whose round's pages are in the page table and in the stack tier, passes its round on. -/
theorem execHeddleWalk_passes : ∃ d, exec (.heddleWalk i (none, found)) s = .next (s.setDev d) ∧
      KeepsJobs (setJob e { j with walked := j.walked + 1, waiting := false }) d := by
  have he : RoundStep s.dev e := roundStep_of_readRanges hread
  have hgoes : (!j.scanned || j.ended || decide (j.ends.length ≤ j.walked)) = false := by simp [hscan, hended, hleft]
  have hhole : (roundPages j.sel j.ends j.walked).find? (fun p => !j.pages.any (fun x => x.page == p && x.tokens != 0)) = none := by
    refine List.find?_eq_none.mpr fun p hp => ?_
    obtain ⟨x, hx, hpage, htokens⟩ := hpages p hp
    have hany : j.pages.any (fun x => x.page == p && x.tokens != 0) = true :=
      List.any_eq_true.mpr ⟨x, hx, by simp [hpage, htokens]⟩
    simp [hany]
  have hready : framesReady e (jobSkein s.dev j) j.layer (jobFrames e j (roundPages j.sel j.ends j.walked)) = true := by
    simp [framesReady, (he.inStack hup).resident, hcow]
  refine ⟨_, rfl, ?_⟩
  simp only [hj, hgoes, hread, hhole, hready, if_false, Bool.false_eq_true, Bool.not_true]
  exact (ctrInc_reports _ _).keepsJobs.trans (collect_frees _).keepsJobs

theorem heddleWalk_completes :
    Completes (.heddleWalk i (none, found)) s (fun d =>
      (∃ x ∈ d.retr.jobs, x.id = i ∧ x = { j with walked := j.walked + 1, waiting := false }) ∧ d.reqs = s.dev.reqs) := by
  obtain ⟨d, hexec, hlast⟩ := execHeddleWalk_passes hj hup hscan hended hleft hpages hread hcow
  have he : KeepsJobs s.dev e := (roundStep_of_readRanges hread).toKeepsJobs
  have hid : j.id = i := findJob_id hj
  exact ⟨d, hexec, hlast.mem_jobs (findJob_setJob_same ((he.findJob i).trans hj) hid) rfl, hlast.reqs.trans he.reqs⟩

end

/-! ## The round check (R433 to R436, R446 to R457) -/

/-- `y` is `j` with one round more attended: its running partials, and whether a page of it was thinned. -/
def AttendedOnce (j y : FarJob) : Prop := ∃ parts thinned, y = { j with parts := parts, round := j.round + 1, thinned := thinned }

/-- An attended round changes the job alone, besides what it reads and counts. -/
theorem attendRound_attends (h : (attendRound d j k).1 = true) :
    ∃ e y, KeepsJobs d e ∧ AttendedOnce j y ∧ attendRound d j k = (true, setJob e y) := by
  unfold attendRound at h ⊢
  dsimp only at h ⊢
  split at h
  · cases h
  next raws e he =>
    have hkeeps : KeepsJobs d e := by
      have := expandPages_keepsJobs d k ((roundPages j.sel j.ends j.round).filterMap (fun p => j.pages.find? (fun x => x.page == p)))
      rwa [he] at this
    exact ⟨_, _, .ite hkeeps (hkeeps.trans (ctrInc_reports _ _).keepsJobs), ⟨_, _, rfl⟩, rfl⟩

/-- No further round follows for an adaptive job: it has attended its last one, or no row stands above its bound (R434, R435). -/
def roundsOver (k : Skein) (j : FarJob) : Bool := decide (j.ends.length ≤ j.round) || !j.members.any (memberAbove k j)

section
variable (hj : findJob s.dev i = some j) (hscan : j.scanned = true) (hended : j.ended = false)
  (hk : j.kPages = 0) (hround : j.round < j.walked) (hrun : s.dev.fab.stopped = false)
  (hattend : (attendRound s.dev j (jobSkein s.dev j)).1 = true)
include hj hscan hended hk hround hrun hattend

/-- A round check of an adaptive far job attends its round, and ends the job when no further round follows. -/
theorem execRoundCheck_attends :
    ∃ d y, exec (.roundCheck i) s = .next (s.setDev d) ∧ AttendedOnce j y ∧ d.reqs = s.dev.reqs ∧
      findJob d i = some { y with ended := roundsOver (jobSkein s.dev j) y } := by
  obtain ⟨e, y, hkeeps, hy, hattended⟩ := attendRound_attends hattend
  have hid : y.id = j.id := by
    obtain ⟨parts, thinned, rfl⟩ := hy
    rfl
  have hopen : y.ended = false := by
    obtain ⟨parts, thinned, rfl⟩ := hy
    exact hended
  have hfound : findJob (setJob e y) i = some y := findJob_setJob_same ((hkeeps.findJob i).trans hj) (hid.trans (findJob_id hj))
  have hgoes : (j.kPages != 0 || j.ended || !j.scanned || decide (j.walked ≤ j.round) || s.dev.fab.stopped) = false := by
    simp [hk, hended, hscan, hround, hrun]
  refine ⟨_, y, rfl, hy, ?_⟩
  simp only [hj, hgoes, hattended, hfound, if_false, Bool.false_eq_true]
  rw [(collect_frees _).keepsJobs.findJob, (collect_frees _).reqs]
  split
  next hover =>
    have hover' : roundsOver (jobSkein s.dev j) y = true := hover
    rw [(ctrAdd_reports _ _ _).keepsJobs.findJob, (ctrAdd_reports _ _ _).reqs, hover']
    exact ⟨hkeeps.reqs, findJob_setJob_same hfound (hid.trans (findJob_id hj))⟩
  next hmore =>
    have hmore' : roundsOver (jobSkein s.dev j) y = false := Bool.eq_false_iff.mpr hmore
    rw [hmore', ← hopen]
    exact ⟨hkeeps.reqs, hfound⟩

theorem roundCheck_completes :
    Completes (.roundCheck i) s (fun d => (∃ x ∈ d.retr.jobs, x.id = i ∧ x.round = j.round + 1 ∧ x.sel = j.sel ∧
      (x.ended = true ↔ j.ends.length ≤ x.round ∨ x.members.any (memberAbove (jobSkein s.dev j) x) = false)) ∧
      d.reqs = s.dev.reqs) := by
  obtain ⟨d, y, hexec, ⟨parts, thinned, rfl⟩, hreqs, hfound⟩ := execRoundCheck_attends hj hscan hended hk hround hrun hattend
  refine ⟨d, hexec, (KeepsJobs.refl d).mem_jobs hfound ⟨rfl, rfl, ?_⟩, hreqs⟩
  simp only [roundsOver, Bool.or_eq_true, decide_eq_true_eq, Bool.not_eq_true']
  rfl

end

end

end Sys2Proof.Machine
end

section
/-! # Far jobs that arrive (R62, R262, R400, R800)

What the checks, the batches and the readiness of a far job look at is not in the transport, from which the arrival takes its stamp; so
they decide as they did before it. -/

namespace Sys2Proof.Machine

open Sys2Proof

section
variable {s : State} {d : Dev} {frm conn budget : Nat} {m : FarJobMsg} {cls : Cls} {k : Skein}

/-- Another transport makes no difference to the skeins that a skein shares its pages with. -/
theorem anchorOf_weft (d : Dev) (w : Weft) (n : Nat) (k : Skein) (p : Nat) :
    anchorOf { d with weft := w } n k p = anchorOf d n k p := by
  induction n generalizing k with
  | zero => rfl
  | succ n ih =>
    unfold anchorOf
    simp only [ih]
    rfl

/-- Nor to the status with which a far job is refused. -/
theorem farCheck_weft (d : Dev) (w : Weft) (k : Option Skein) (m : FarJobMsg) (cls : Cls) :
    (farCheck { d with weft := w } k m cls).map (·.1) = (farCheck d k m cls).map (·.1) := by
  unfold farCheck
  cases k <;> simp only [apply_ite (Option.map Prod.fst), Option.map_some, Option.map_none] <;> rfl

theorem farCheck_weft_none (w : Weft) {k : Option Skein} (h : farCheck d k m cls = none) :
    farCheck { d with weft := w } k m cls = none := by
  have hmap := farCheck_weft d w k m cls
  rw [h] at hmap
  exact Option.map_eq_none_iff.mp hmap

/-- Counting a far job, touching its skein and starting its walks leave operations and far jobs. -/
theorem farTaken_keepsJobs (d : Dev) (k : Skein) (l : Nat) : KeepsJobs d (farTaken d k l) := by
  unfold farTaken
  extract_lets y x e
  have he : KeepsJobs d e := (setSkein_roundStep _ _).toKeepsJobs.trans (ctrInc_reports _ _).keepsJobs
  split
  · exact he.trans (jobWalks_keepsJobs _ _ _)
  · exact he

/-- The port by which a far job's partials go back; none when they go to this device itself (R28). -/
def farPort (d : Dev) (frm conn : Nat) : Option Nat :=
  if isOurs d frm then none else (findConn d conn).map (fun c => c.port (c.pathList.headD 0))

/-- The first member of a far job (R400). -/
def farMember (d : Dev) (frm conn : Nat) (m : FarJobMsg) (k : Skein) : FarMember where
  msg := m
  op := d.adm.nextOp
  owner := k.tenant
  cfleet := frm
  conn := conn
  arrival := (farStamp d frm conn).2
  tc := k.tokenCount

/-- The operation of a far job of class B as it is put in service (R81, R99). -/
def farAccepted (d : Dev) (frm conn : Nat) (m : FarJobMsg) (budget : Nat) (k : Skein) : Op :=
  let ta := (farStamp d frm conn).2
  let port := farPort d frm conn
  { farOp m frm k.tenant ta budget (port.getD 0) .b (farStages d k m 1 port).1 d.retr.nextJob with
    id := d.adm.nextOp
    deadline := if budget = 0 then none else some (ta + budget) }

/-- The device without the stamp of a far job's arrival. -/
def farArrived (d : Dev) (frm conn : Nat) : Dev :=
  { d with weft := { d.weft with farIn := dropFirst (fun f => f.1 == conn && !isOurs d frm) d.weft.farIn } }

/-- That device with the job's operation in service. -/
def farAdmitted (d : Dev) (frm conn : Nat) (m : FarJobMsg) (budget : Nat) (k : Skein) : Dev :=
  ctrInc { farArrived d frm conn with
    adm := { d.adm with ops := d.adm.ops ++ [farAccepted d frm conn m budget k], nextOp := d.adm.nextOp + 1 } } cBAccepted

section
variable (hcheck : farCheck s.dev (some k) m .b = none)
  (hturn : isOurs s.dev frm = false → farTurn s.dev conn (farStamp s.dev frm conn).1 (farStamp s.dev frm conn).2)
  (hk : findSkein s.dev m.skein = some k)
  (hjoin : s.dev.retr.jobs.find? (canJoin s.dev k m .b (anchorOf s.dev (s.dev.sas.skeins.length + 1) k m.splitPage)) = none)
  (hready : ∀ b ∈ (farStages s.dev k m 1 (farPort s.dev frm conn)).2.1, isReady s.dev b)
include hcheck hturn hk hjoin hready

/-- A class B far job that passes its checks, joins no batch and finds its stages ready is in service as a new job. -/
theorem execFarJob_accepts :
    exec (.farJob frm conn m .b budget) s = .next (s.setDev (farTaken
      (newJob (farAdmitted s.dev frm conn m budget k) k m .b
        (anchorOf s.dev (s.dev.sas.skeins.length + 1) k m.splitPage) (farMember s.dev frm conn m k)) k m.layer)) := by
  show execFarJob frm conn m .b budget s = _
  have hgoes : (!isOurs s.dev frm && !farTurn s.dev conn (farStamp s.dev frm conn).1 (farStamp s.dev frm conn).2) = false := by
    cases h : isOurs s.dev frm
    · simp [hturn h]
    · rfl
  simp only [execFarJob, onDev, hgoes, if_false, Bool.false_eq_true]
  have hcheck' : farCheck (farArrived s.dev frm conn) (some k) m .b = none := farCheck_weft_none _ hcheck
  have hk' : findSkein (farArrived s.dev frm conn) m.skein = some k := hk
  have hanchor (n p : Nat) : anchorOf (farArrived s.dev frm conn) n k p = anchorOf s.dev n k p := anchorOf_weft _ _ _ _ _
  have hjoin' : s.dev.retr.jobs.find? (canJoin (farArrived s.dev frm conn) k m .b
      (anchorOf s.dev (s.dev.sas.skeins.length + 1) k m.splitPage)) = none := hjoin
  unfold farArrived at hcheck' hk' hjoin' hanchor
  have hb : (Cls.b == Cls.g) = false := rfl
  simp only [hk', hcheck', hanchor, hjoin', hb, Bool.false_and, if_false, Bool.false_eq_true]
  rw [acceptB_ready]
  · rfl
  · exact hready

theorem farJob_completes :
    Completes (.farJob frm conn m .b budget) s (fun d => d.retr.nextJob = s.dev.retr.nextJob + 1 ∧
      (∃ j ∈ d.retr.jobs, j.id = s.dev.retr.nextJob ∧ j.layer = m.layer ∧ j.far = m.splitPage ∧ j.kPages = m.kPages ∧
        j.pages = jobPages k m.layer m.splitPage ∧ ∃ x, j.members = [x] ∧ x.msg = m ∧ x.cfleet = frm ∧ x.op = s.dev.adm.nextOp ∧
          x.arrival = (farStamp s.dev frm conn).2) ∧
      (∃ o ∈ d.adm.ops, o.id = s.dev.adm.nextOp ∧ o.what = .farJob s.dev.retr.nextJob m.ret) ∧ d.reqs = s.dev.reqs) := by
  refine ⟨_, execFarJob_accepts hcheck hturn hk hjoin hready, ?_⟩
  generalize anchorOf s.dev (s.dev.sas.skeins.length + 1) k m.splitPage = anchor
  have hlast := farTaken_keepsJobs (newJob (farAdmitted s.dev frm conn m budget k) k m .b anchor (farMember s.dev frm conn m k)) k
    m.layer
  have hretr : (farAdmitted s.dev frm conn m budget k).retr = s.dev.retr := ctrInc_retr _ _
  have hops : farAccepted s.dev frm conn m budget k ∈ (farAdmitted s.dev frm conn m budget k).adm.ops := by
    unfold farAdmitted
    rw [ctrInc_adm]
    exact List.mem_append_right _ List.mem_cons_self
  have hreqs : (farAdmitted s.dev frm conn m budget k).reqs = s.dev.reqs := ctrInc_reqs _ _
  rw [hlast.retr, hlast.adm, hlast.reqs]
  unfold newJob
  rw [hretr]
  exact ⟨rfl, ⟨_, List.mem_append_right _ List.mem_cons_self, rfl, rfl, rfl, rfl, rfl, _, rfl, rfl, rfl, rfl, rfl⟩,
    ⟨_, hops, rfl, rfl⟩, hreqs⟩

end

end

/-- Settles O43: the arrival checks a far job as it stands and puts it in service as a job of its own; with every frame in the stack
tier a scan, a walk and a round check wait for no promotion, and each changes of the far jobs its own alone. Where the spec leaves a point
open, it is the model's choice: log entry 47, and log entry 80 for acceptance on readiness alone. -/
theorem farJobCommandsComplete : Obligations.FarJobCommandsComplete := by
  unfold Obligations.FarJobCommandsComplete
  refine ⟨fun s frm conn m budget k => farJob_completes, fun s i j o found hj hlead hup => ⟨?_, ?_, ?_⟩⟩
  · exact fun hscan hfin hread => heddleScan_completes hj hlead hup hscan hfin hread
  · exact fun hscan hended hleft hpages e hread hcow => heddleWalk_completes hj hup hscan hended hleft hpages hread hcow
  · exact fun hscan hended hk hround hrun hattend => roundCheck_completes hj hscan hended hk hround hrun hattend

end Sys2Proof.Machine
end

section
/-! # What the fabric's commands leave alone (R487 to R510)

Runs that start a command or rest leave requests, the SAS, the fences and the place in the sequence of signed messages (`RunStep`); jobs
that end on a fault leave the table of runs and the requests (`SameRuns`). What is said of one run of the table is said with `runAt`. -/

namespace Sys2Proof.Machine

open Sys2Proof

/-- `e` has the requests, the SAS, the fences and the last sequence number of a signed message of `d`. -/
structure RunStep (d e : Dev) : Prop where
  reqs : e.reqs = d.reqs
  sas : e.sas = d.sas
  fenced : e.fab.fenced = d.fab.fenced
  msgSeq : e.sec.msgSeq = d.sec.msgSeq

/-- `e` has the runs and the requests of `d`. -/
structure SameRuns (d e : Dev) : Prop where
  runs : e.fab.runs = d.fab.runs
  reqs : e.reqs = d.reqs

/-- The table of runs holds a run at a number as `P` says. -/
def runAt (d : Dev) (n : Nat) (P : Run → Prop) : Prop := ∃ x ∈ d.fab.runs, x.num = n ∧ P x

section
variable {a b c d e : Dev} {r x : Run} {n : Nat} {P : Run → Prop}

theorem RunStep.refl (d : Dev) : RunStep d d := ⟨rfl, rfl, rfl, rfl⟩

theorem RunStep.trans (h : RunStep a b) (k : RunStep b c) : RunStep a c :=
  ⟨k.reqs.trans h.reqs, k.sas.trans h.sas, k.fenced.trans h.fenced, k.msgSeq.trans h.msgSeq⟩

theorem RunStep.ite {p : Prop} [Decidable p] (ha : RunStep d a) (hb : RunStep d b) : RunStep d (if p then a else b) := by
  split <;> assumption

theorem RunStep.foldl {α : Type} {f : Dev → α → Dev} (h : ∀ d x, RunStep d (f d x)) (l : List α) (d : Dev) :
    RunStep d (l.foldl f d) :=
  List.foldlRecOn (motive := RunStep d) _ _ (.refl d) (fun x hx y _ => hx.trans (h x y))

theorem Reports.msgSeq (h : Reports d e) : e.sec.msgSeq = d.sec.msgSeq := by
  show (secCore e.sec).msgSeq = (secCore d.sec).msgSeq
  rw [h.sec]

theorem Frees.msgSeq (h : Frees d e) : e.sec.msgSeq = d.sec.msgSeq := by
  show (secCore e.sec).msgSeq = (secCore d.sec).msgSeq
  rw [h.sec]

theorem Reports.runStep (h : Reports d e) : RunStep d e := ⟨h.reqs, h.sas, by rw [h.fab], h.msgSeq⟩

theorem SameRuns.refl (d : Dev) : SameRuns d d := ⟨rfl, rfl⟩

theorem SameRuns.trans (h : SameRuns a b) (k : SameRuns b c) : SameRuns a c := ⟨k.runs.trans h.runs, k.reqs.trans h.reqs⟩

theorem SameRuns.ite {p : Prop} [Decidable p] (ha : SameRuns d a) (hb : SameRuns d b) : SameRuns d (if p then a else b) := by
  split <;> assumption

theorem SameRuns.foldl {α : Type} {f : Dev → α → Dev} (h : ∀ d x, SameRuns d (f d x)) (l : List α) (d : Dev) :
    SameRuns d (l.foldl f d) :=
  List.foldlRecOn (motive := SameRuns d) _ _ (.refl d) (fun x hx y _ => hx.trans (h x y))

theorem Reports.sameRuns (h : Reports d e) : SameRuns d e := ⟨by rw [h.fab], h.reqs⟩

theorem Frees.sameRuns (h : Frees d e) : SameRuns d e := ⟨by rw [h.fab], h.reqs⟩

theorem SameRuns.findRun (h : SameRuns d e) (n : Nat) : findRun e n = findRun d n := by unfold Machine.findRun; rw [h.runs]

theorem SameRuns.runAt (h : SameRuns d e) (hd : runAt d n P) : runAt e n P := by unfold Machine.runAt; rwa [h.runs]

/-! ## One run of the table -/

theorem findRun_num (hr : findRun d n = some r) : r.num = n := by simpa using List.find?_some hr

theorem runAt_setRun (hr : findRun d n = some r) (hx : x.num = n) (hp : P x) : runAt (setRun d x) n P :=
  ⟨x, mem_replaceFirst ⟨r, List.mem_of_find?_eq_some hr, by simp [findRun_num hr, hx]⟩, hx, hp⟩

theorem setRun_runStep (d : Dev) (r : Run) : RunStep d (setRun d r) := ⟨rfl, rfl, rfl, rfl⟩

/-- The run once it has started a command. -/
def Run.started (r : Run) (c : RunCmd) (t : Nat) : Run := { r with cur := some c, st := if r.st == 3 then 3 else 1, busySince := t }

/-- A run that starts a command is stored so; the command's job alone changes besides. -/
theorem startCmd_runs (d : Dev) (r : Run) (c : RunCmd) :
    SameRuns (setRun d (r.started c (now d))) (startCmd d r c) ∧ RunStep d (startCmd d r c) := by
  unfold startCmd
  dsimp only
  split <;> exact ⟨⟨rfl, rfl⟩, ⟨rfl, rfl, rfl, rfl⟩⟩

theorem startCmd_runStep (d : Dev) (r : Run) (c : RunCmd) : RunStep d (startCmd d r c) := (startCmd_runs d r c).2

theorem runAt_startCmd {c : RunCmd} (hr : findRun d n = some r) (hx : x.num = n) (hp : P (x.started c (now d))) :
    runAt (startCmd d x c) n P :=
  (startCmd_runs d x c).1.runAt (runAt_setRun hr hx hp)

/-! ## A run that has no current command (R488, R491, R507) -/

/-- Such a run is stored at rest or fenced, or starts a command of its own, with nothing done before but a count. -/
theorem nextCmd_cases (d : Dev) (r : Run) :
    (∃ st, nextCmd d r = setRun d { r with cur := none, st := st } ∧ (st = 0 ∨ st = 4)) ∨
    ∃ e x c, Reports d e ∧ nextCmd d r = startCmd e x c ∧ x.num = r.num ∧ x.st = r.st := by
  unfold nextCmd
  extract_lets r1
  split
  · exact .inr ⟨d, _, _, .refl d, rfl, rfl, rfl⟩
  · refine .inl ⟨_, rfl, ?_⟩
    split <;> simp
  next c rest _ =>
    have hrestore : ∃ e x c', Reports d e ∧
        startCmd (ctrAdd d (cFabStall + 32) (moveCycles c)) { r1 with spilled := rest } c = startCmd e x c' ∧
        x.num = r.num ∧ x.st = r.st := ⟨_, _, _, ctrAdd_reports _ _ _, rfl, rfl, rfl⟩
    right
    split
    · split
      · exact ⟨d, _, _, .refl d, rfl, rfl, rfl⟩
      · exact hrestore
    · exact hrestore

theorem nextCmd_runStep (d : Dev) (r : Run) : RunStep d (nextCmd d r) := by
  obtain ⟨st, h, -⟩ | ⟨e, x, c, he, h, -, -⟩ := nextCmd_cases d r
  · rw [h]; exact setRun_runStep d _
  · rw [h]; exact he.runStep.trans (startCmd_runStep e x c)

/-- A run with nothing spilled that drains, or has an empty queue, takes nothing. -/
theorem nextCmd_rests (hq : r.st = 3 ∨ r.queue = []) (hs : r.spilled = []) :
    nextCmd d r = setRun d { r with
      cur := none
      st := if r.st == 3 || r.tiles.any (fun t => d.fab.fenced.contains t) then 4 else 0 } := by
  have hnone : (if r.st == 3 then none else firstCmd r.queue) = none := by
    rcases hq with h | h <;> simp [h, firstCmd]
  unfold nextCmd
  simp only [hnone, hs]

/-- A run with nothing spilled that does not drain takes the only command of its queue. -/
theorem nextCmd_takes {c : RunCmd} (h3 : r.st ≠ 3) (hq : r.queue = [c]) (hs : r.spilled = []) :
    nextCmd d r = startCmd d { r with cur := none, queue := [] } c := by
  simp [nextCmd, h3, hq, hs, firstCmd, dropFirst]

/-! ## Jobs that end on a fault, and the reset of a run (R504 to R506) -/

theorem withdraw_sameRuns (d : Dev) (i : Nat) : SameRuns d (withdraw d i) := .ite (.refl d) ⟨rfl, rfl⟩

theorem handOver_sameRuns (d : Dev) (o : Op) : SameRuns d (handOver d o) := by
  unfold handOver
  split
  · split
    · exact .refl d
    · split
      · exact .ite (.refl d) ⟨rfl, rfl⟩
      · exact .refl d
  · exact .refl d

theorem opEnds_sameRuns (d : Dev) (o : Op) (st : Nat) : SameRuns d (opEnds d o st) := by
  unfold opEnds
  split
  · exact ((ctrInc_reports _ _).trans (emitWA_reports _ _)).sameRuns.trans ⟨rfl, rfl⟩
  · exact ((ctrInc_reports _ _).trans (complete_reports _ _ _ _ _ _)).sameRuns
  · exact (complete_reports _ _ _ _ _ _).sameRuns

theorem failOp_sameRuns (d : Dev) (o : Op) (c st : Nat) : SameRuns d (failOp d o c st) := by
  unfold failOp
  extract_lets d1 d2 d3
  have hdrop : SameRuns (handOver d o) (dropOp (handOver d o) o.id) := ⟨rfl, rfl⟩
  have h1 : SameRuns d d1 := (handOver_sameRuns d o).trans (hdrop.trans (withdraw_sameRuns _ _))
  have h3 : Reports d1 d3 := Reports.trans (.ite (ctrInc_reports _ _) (.refl d1)) (faultOp_reports _ _ _ _ _ _)
  exact h1.trans (h3.sameRuns.trans (opEnds_sameRuns d3 o st))

theorem failJob_sameRuns (d : Dev) (j : FarJob) (c st : Nat) : SameRuns d (failJob d j c st) := by
  unfold failJob
  refine .foldl (fun d x => ?_) _ _
  split
  · exact failOp_sameRuns _ _ _ _
  · exact .refl d

/-- The device without a shadow check. -/
def shadowTaken (d : Dev) (i : Nat) : Dev := { d with fab := { d.fab with shadows := d.fab.shadows.filter (fun y => y.id != i) } }

theorem cmdFails_sameRuns (d : Dev) (c : RunCmd) (cause : Nat) : SameRuns d (cmdFails d c cause) := by
  unfold cmdFails
  have htaken : SameRuns d (shadowTaken d c.id) := ⟨rfl, rfl⟩
  refine .ite (.ite (htaken.trans (ctrInc_reports _ _).sameRuns) (.refl d)) ?_
  split
  · exact failJob_sameRuns _ _ _ _
  · exact .refl d

/-- A run that is reset holds no command's state. -/
theorem resetRun_resets (hr : findRun d n = some r) (cause : Nat) :
    runAt (resetRun d r cause) n (fun x => x.cur = none ∧ x.spilled = [] ∧ x.st = 2) ∧ (resetRun d r cause).reqs = d.reqs := by
  have hn := findRun_num hr
  have hfails : SameRuns d ((r.cur.toList ++ r.spilled).foldl (fun d c => cmdFails d c cause) d) :=
    .foldl (fun d c => cmdFails_sameRuns d c cause) _ _
  exact ⟨runAt_setRun ((hfails.findRun n).trans hr) hn ⟨rfl, rfl, rfl⟩, hfails.reqs⟩

end

end Sys2Proof.Machine
end

section
/-! # The commands of fabric runs and shuttles (R371 to R394, R487 to R506) -/

namespace Sys2Proof.Machine

open Sys2Proof

section
variable {s : State} {r : Run} {m : RunCmdMsg}

/-! ## A command arrives (R488 to R490) -/

/-- The far job that an arriving command serves. -/
def cmdJob (d : Dev) (m : RunCmdMsg) : Option FarJob :=
  if m.kind == 2 || m.kind == 3 || m.kind == 4 then findJob d m.id else none

/-- An arriving command as its run keeps it. -/
def arrivingCmd (d : Dev) (m : RunCmdMsg) : RunCmd where
  id := m.id
  kind := m.kind
  cls := ((cmdJob d m).map (·.cls)).getD m.cls
  place := cmdPlace d m (cmdJob d m)
  job := (cmdJob d m).map (·.id)
  live := min m.live 262144

/-- The run takes commands, and its draft serves this one. -/
structure TakesCmd (d : Dev) (r : Run) (m : RunCmdMsg) : Prop where
  found : findRun d r.num = some r
  running : d.fab.stopped = false
  open_ : r.st < 3
  inService : runIn d r
  draft : cmdDraft m.kind = img d (0x100100 + 8 * r.draft) 2 0
  kind : m.kind ≤ 5

/-- The device in which a run's current command has been spilled for one that displaces it. -/
def spillCounted (d : Dev) (x : RunCmd) : Dev := ctrAdd (ctrInc d cSwitches) (cFabStall + 24) (moveCycles x)

theorem spillCounted_reports (d : Dev) (x : RunCmd) : Reports d (spillCounted d x) := (ctrInc_reports _ _).trans (ctrAdd_reports _ _ _)

/-- What a run does with a command that it takes. -/
def giveCmd (d : Dev) (r : Run) (c : RunCmd) : Dev := match r.cur with
  | none => if r.st == 0 then startCmd d r c else setRun d { r with queue := r.queue ++ [c] }
  | some x =>
    if c.displaces x && r.spilled.length < 2 then startCmd (spillCounted d x) { r with spilled := x :: r.spilled } c
    else setRun d { r with queue := r.queue ++ [c] }

theorem giveCmd_runStep (d : Dev) (r : Run) (c : RunCmd) : RunStep d (giveCmd d r c) := by
  unfold giveCmd
  split
  · exact .ite (startCmd_runStep _ _ _) (setRun_runStep _ _)
  · exact .ite ((spillCounted_reports _ _).runStep.trans (startCmd_runStep _ _ _)) (setRun_runStep _ _)

theorem execRunCommandArrival_takes (h : TakesCmd s.dev r m) :
    exec (.runCommandArrival r.num m) s = .next (s.setDev (giveCmd s.dev r (arrivingCmd s.dev m))) := by
  obtain ⟨hr, hrun, hopen, hin, hdraft, hkind⟩ := h
  have hgo : (s.dev.fab.stopped || decide (3 ≤ r.st) || !runIn s.dev r || cmdDraft m.kind != img s.dev (0x100100 + 8 * r.draft) 2 0 ||
      decide (5 < m.kind)) = false := by
    simp [hrun, hin, hdraft]; omega
  show execRunCommandArrival r.num m s = _
  unfold execRunCommandArrival
  rw [onDev_next]
  simp only [hr, hgo, Bool.false_eq_true, if_false]
  rfl

/-- An arriving command leaves requests and the SAS; its run is as `P` says when the run that took it is. -/
theorem runCommandArrival_completes {P : Run → Prop} (h : TakesCmd s.dev r m)
    (hp : runAt (giveCmd s.dev r (arrivingCmd s.dev m)) r.num P) :
    Completes (.runCommandArrival r.num m) s (fun d => runAt d r.num P ∧ d.reqs = s.dev.reqs ∧ d.sas = s.dev.sas) :=
  have hstep := giveCmd_runStep s.dev r (arrivingCmd s.dev m)
  ⟨_, execRunCommandArrival_takes h, hp, hstep.reqs, hstep.sas⟩

section
variable {d : Dev} {c x : RunCmd}

/-- An idle run starts the command. -/
theorem giveCmd_starts (hr : findRun d r.num = some r) (hcur : r.cur = none) (h0 : r.st = 0) :
    runAt (giveCmd d r c) r.num (fun x => x.cur = some c ∧ x.st = 1 ∧ x.queue = r.queue) := by
  have hgive : giveCmd d r c = startCmd d r c := by simp [giveCmd, hcur, h0]
  rw [hgive]
  exact runAt_startCmd hr rfl ⟨rfl, by simp [Run.started, h0], rfl⟩

/-- A run that has no command and does not rest queues it. -/
theorem giveCmd_queues_none (hr : findRun d r.num = some r) (hcur : r.cur = none) (h0 : r.st ≠ 0) :
    runAt (giveCmd d r c) r.num (fun y => y.cur = none ∧ y.queue = r.queue ++ [c] ∧ y.st = r.st) := by
  have hgive : giveCmd d r c = setRun d { r with queue := r.queue ++ [c] } := by simp [giveCmd, hcur, h0]
  rw [hgive]
  exact runAt_setRun hr rfl ⟨hcur, rfl, rfl⟩

/-- A busy run queues a command that cannot displace its own. -/
theorem giveCmd_queues_some (hr : findRun d r.num = some r) (hcur : r.cur = some x)
    (h : c.displaces x = false ∨ 2 ≤ r.spilled.length) :
    runAt (giveCmd d r c) r.num (fun y => y.cur = some x ∧ y.queue = r.queue ++ [c]) := by
  have hno : (c.displaces x && decide (r.spilled.length < 2)) = false := by
    rcases h with h | h
    · simp [h]
    · simp [Nat.not_lt.mpr h]
  have hgive : giveCmd d r c = setRun d { r with queue := r.queue ++ [c] } := by
    simp only [giveCmd, hcur, hno, Bool.false_eq_true, if_false]
  rw [hgive]
  exact runAt_setRun hr rfl ⟨hcur, rfl⟩

/-- A command that displaces a busy run's own starts, and the other is spilled. -/
theorem giveCmd_displaces (hr : findRun d r.num = some r) (hcur : r.cur = some x) (h : c.displaces x) (hroom : r.spilled.length < 2) :
    runAt (giveCmd d r c) r.num (fun y => y.cur = some c ∧ y.spilled = x :: r.spilled) := by
  have hgive : giveCmd d r c = startCmd (spillCounted d x) { r with spilled := x :: r.spilled } c := by
    simp [giveCmd, hcur, h, hroom]
  rw [hgive]
  exact runAt_startCmd (((spillCounted_reports d x).sameRuns.findRun _).trans hr) rfl ⟨rfl, rfl⟩

end

/-! ## A command ends, stalls or is reset (R491, R493, R503 to R507) -/

/-- The device in which the corrected errors and the stalls of a command that ends are counted. -/
def endCounted (d : Dev) (corrected : Nat) (stalls : List Nat) : Dev :=
  ctrAdd (ctrAdd (ctrAdd (ctrAdd (ctrAdd d cFabCe corrected) cFabStall (stalls.getD 0 0)) (cFabStall + 8) (stalls.getD 1 0))
    (cFabStall + 16) (stalls.getD 2 0)) (cFabStall + 40) (stalls.getD 3 0)

theorem endCounted_reports (d : Dev) (n : Nat) (st : List Nat) : Reports d (endCounted d n st) :=
  (ctrAdd_reports _ _ _).trans ((ctrAdd_reports _ _ _).trans ((ctrAdd_reports _ _ _).trans ((ctrAdd_reports _ _ _).trans
    (ctrAdd_reports _ _ _))))

variable {n : Nat} {st : List Nat} {x : RunCmd} {P : Run → Prop}

theorem execRunCommandEnd_next (hr : findRun s.dev r.num = some r) (hcur : r.cur = some x) :
    exec (.runCommandEnd r.num n none st) s = .next (s.setDev (collect (nextCmd (endCounted s.dev n st) r))) := by
  show execRunCommandEnd r.num n none st s = _
  unfold execRunCommandEnd onDevC
  rw [onDev_next]
  simp only [hr, hcur]
  rfl

/-- A command that ends without a fault leaves the requests; its run is as `P` says when what it does next leaves it so. -/
theorem runCommandEnd_completes (hr : findRun s.dev r.num = some r) (hcur : r.cur = some x)
    (hp : ∀ d, findRun d r.num = some r → runAt (nextCmd d r) r.num P) :
    Completes (.runCommandEnd r.num n none st) s (fun d => runAt d r.num P ∧ d.reqs = s.dev.reqs) := by
  have hcount := endCounted_reports s.dev n st
  have hcollect := (collect_frees (nextCmd (endCounted s.dev n st) r)).sameRuns
  exact ⟨_, execRunCommandEnd_next hr hcur, hcollect.runAt (hp _ ((hcount.sameRuns.findRun _).trans hr)),
    hcollect.reqs.trans ((nextCmd_runStep _ _).reqs.trans hcount.reqs)⟩

theorem runCommandEnd_rests (hr : findRun s.dev r.num = some r) (hcur : r.cur = some x) (hq : r.st = 3 ∨ r.queue = [])
    (hs : r.spilled = []) :
    Completes (.runCommandEnd r.num n none st) s (fun d => runAt d r.num (fun y => y.cur = none ∧ (y.st = 0 ∨ y.st = 4) ∧
      (r.st = 3 → y.st = 4) ∧ y.queue = r.queue) ∧ d.reqs = s.dev.reqs) := by
  refine runCommandEnd_completes hr hcur fun d hd => ?_
  rw [nextCmd_rests hq hs]
  refine runAt_setRun hd rfl ⟨rfl, ?_, fun h3 => by simp [h3], rfl⟩
  dsimp only
  split <;> simp

theorem runCommandEnd_takes {c : RunCmd} (hr : findRun s.dev r.num = some r) (hcur : r.cur = some x) (h3 : r.st ≠ 3)
    (hq : r.queue = [c]) (hs : r.spilled = []) :
    Completes (.runCommandEnd r.num n none st) s (fun d => runAt d r.num (fun y => y.cur = some c ∧ y.queue = []) ∧
      d.reqs = s.dev.reqs) := by
  refine runCommandEnd_completes hr hcur fun d hd => ?_
  rw [nextCmd_takes h3 hq hs]
  exact runAt_startCmd hd rfl ⟨rfl, rfl⟩

/-- A fault that is counted, the reset of its run, its report, and the freeing of what the ended jobs alone read leave the requests, and
the run reset. -/
theorem resetReported {d e : Dev} (hr : findRun d n = some r) (h : Reports d e) (cause k i a b : Nat) :
    let t := collect (detect (resetRun e r cause) k i cause a b)
    runAt t n (fun y => y.cur = none ∧ y.spilled = [] ∧ y.st = 2) ∧ t.reqs = d.reqs := by
  obtain ⟨hreset, hreqs⟩ := resetRun_resets ((h.sameRuns.findRun n).trans hr) cause
  have hafter := (detect_reports (resetRun e r cause) k i cause a b).sameRuns.trans (collect_frees _).sameRuns
  exact ⟨hafter.runAt hreset, hafter.reqs.trans (hreqs.trans h.reqs)⟩

theorem runCommandEnd_faults {t : Nat} {u : Bool} (hr : findRun s.dev r.num = some r) (hcur : r.cur = some x) (ht : t ∈ r.tiles) :
    Completes (.runCommandEnd r.num n (some (t, u)) st) s (fun d =>
      runAt d r.num (fun y => y.cur = none ∧ y.spilled = [] ∧ y.st = 2) ∧ d.reqs = s.dev.reqs) := by
  have hexec : exec (.runCommandEnd r.num n (some (t, u)) st) s =
      .next (s.setDev (collect (detect (resetRun (tileFault (endCounted s.dev n st) t) r 0x612) 0x08 t 0x612 0 0))) := by
    show execRunCommandEnd r.num n (some (t, u)) st s = _
    unfold execRunCommandEnd onDevC
    rw [onDev_next]
    simp only [hr, hcur, List.contains_iff_mem.mpr ht, Bool.not_true, Bool.false_eq_true, if_false]
    rfl
  exact ⟨_, hexec, resetReported hr ((endCounted_reports _ _ _).trans (ctrInc_reports _ _)) _ _ _ _ _⟩

theorem runStallTimeout_completes (hr : findRun s.dev r.num = some r) (hcur : r.cur = some x)
    (hlate : r.busySince + 20000 ≤ now s.dev) :
    Completes (.runStallTimeout r.num) s (fun d => runAt d r.num (fun y => y.cur = none ∧ y.spilled = [] ∧ y.st = 2) ∧
      d.reqs = s.dev.reqs) := by
  have hdue : (r.cur.isNone || decide (now s.dev < r.busySince + 20000)) = false := by simp [hcur]; omega
  have hexec : exec (.runStallTimeout r.num) s =
      .next (s.setDev (collect (detect (resetRun (r.tiles.foldl tileFault s.dev) r 0x613) 0x08 r.tile 0x613 0 0))) := by
    show execRunStallTimeout r.num s = _
    unfold execRunStallTimeout onDevC
    rw [onDev_next]
    simp only [hr, hdue, Bool.false_eq_true, if_false]
  exact ⟨_, hexec, resetReported hr (.foldl _ (fun d t => ctrInc_reports d _) _ _) _ _ _ _ _⟩

theorem runResetDone_completes (hr : findRun s.dev r.num = some r) (h2 : r.st = 2) (hrun : s.dev.fab.stopped = false) :
    Completes (.runResetDone r.num) s (fun d => runAt d r.num (fun y => y.st = 0 ∨ y.st = 1 ∨ y.st = 4) ∧ d.reqs = s.dev.reqs ∧
      d.sas = s.dev.sas) := by
  have hexec : exec (.runResetDone r.num) s = .next (s.setDev (nextCmd s.dev { r with st := 0 })) := by
    show execRunResetDone r.num s = _
    unfold execRunResetDone
    rw [onDev_next]
    simp [hr, h2, hrun]
  have hstep := nextCmd_runStep s.dev { r with st := 0 }
  refine ⟨_, hexec, ?_, hstep.reqs, hstep.sas⟩
  obtain ⟨st, hnext, hst⟩ | ⟨e, y, c, he, hnext, hnum, hst⟩ := nextCmd_cases s.dev { r with st := 0 }
  · rw [hnext]
    exact runAt_setRun hr rfl (by rcases hst with h | h <;> simp [h])
  · rw [hnext]
    exact runAt_startCmd ((he.sameRuns.findRun _).trans hr) hnum (.inr (.inl (by simp [Run.started, hst])))

/-! ## A shadow check ends (R499 to R502) -/

/-- The tiles of a run, by its number. -/
def runTiles (d : Dev) (n : Nat) : List Nat := match findRun d n with
  | some r => r.tiles
  | none => []

/-- The device in which a mismatch is counted, of the tiles of both runs too. -/
def mismatchCounted (d : Dev) (x : Shadow) : Dev :=
  (runTiles d x.run ++ runTiles d x.shadowRun).foldl (fun d t => ctrInc d (cTileMismatch + 8 * t)) (ctrInc d cShadowMismatch)

theorem mismatchCounted_reports (d : Dev) (x : Shadow) : Reports d (mismatchCounted d x) :=
  (ctrInc_reports _ _).trans (.foldl _ (fun d _ => ctrInc_reports d _) _ _)

/-- The end of a check that ran is counted, or its mismatch is remembered and reported. -/
theorem execShadowCheckDone_cases {x : Shadow} {eq : Bool} {bad : Option Nat} {l0 l1 : Nat}
    (hx : s.dev.fab.shadows.find? (fun y => y.id == x.id) = some x) :
    ∃ e, exec (.shadowCheckDone x.id eq false bad l0 l1) s = .next (s.setDev (collect e)) ∧
      if eq && bad.isNone then Reports (shadowTaken s.dev x.id) e
      else ∃ d last, Reports (shadowTaken s.dev x.id) d ∧ Reports { d with fab := { d.fab with lastMismatch := some last } } e := by
  refine ⟨_, rfl, ?_⟩
  beta_reduce
  simp only [hx, Bool.false_eq_true, if_false]
  split
  · exact ctrInc_reports _ _
  · exact ⟨_, _, mismatchCounted_reports _ x, .ite (detect_reports _ _ _ _ _ _) (detect_reports _ _ _ _ _ _)⟩

theorem shadowCheckDone_completes {x : Shadow} {eq : Bool} {bad : Option Nat} {l0 l1 : Nat}
    (hx : s.dev.fab.shadows.find? (fun y => y.id == x.id) = some x) :
    Completes (.shadowCheckDone x.id eq false bad l0 l1) s (fun d =>
      d.fab.shadows = s.dev.fab.shadows.filter (fun y => y.id != x.id) ∧ d.reqs = s.dev.reqs ∧
      (eq → bad = none → d.fab.lastMismatch = s.dev.fab.lastMismatch) ∧
      (eq = false ∨ bad.isSome → d.fab.lastMismatch.isSome)) := by
  obtain ⟨e, hexec, he⟩ := execShadowCheckDone_cases (eq := eq) (bad := bad) (l0 := l0) (l1 := l1) hx
  have hc := collect_frees e
  refine ⟨_, hexec, ?_⟩
  beta_reduce
  rw [hc.fab, hc.reqs]
  by_cases hpass : (eq && bad.isNone) = true
  · rw [if_pos hpass] at he
    rw [he.fab, he.reqs]
    obtain ⟨heq, hbad⟩ : eq = true ∧ bad = none := by simpa using hpass
    exact ⟨rfl, rfl, fun _ _ => rfl, fun h => by simp [heq, hbad] at h⟩
  · rw [if_neg hpass] at he
    obtain ⟨d, last, hd, he⟩ := he
    rw [he.fab, he.reqs]
    exact ⟨congrArg Fabric.shadows hd.fab, hd.reqs, fun h1 h2 => absurd (by simp [h1, h2]) hpass, fun _ => rfl⟩

/-! ## Shuttles (R371, R376, R381, R390, R394) -/

theorem countCoded_out (d : Dev) (bs : List StoredBlock) : (countCoded d bs).out = d.out :=
  List.foldlRecOn (motive := fun e : Dev => e.out = d.out) _ _ rfl fun e he b _ => by
    dsimp only
    split <;> simpa using he

theorem countExpanded_out (d : Dev) (bs : List StoredBlock) : (countExpanded d bs).out = d.out :=
  List.foldlRecOn (motive := fun e : Dev => e.out = d.out) _ _ rfl fun e he _ _ => (ctrInc_out e _).trans he

theorem blockCompress_completes {fmt : Nat} {bs : Bytes} {bypass : Bool} (hlen : bs.length = 4096) (h1 : 1 ≤ fmt) (h4 : fmt ≤ 4) :
    Completes (.blockCompress fmt bs bypass) s (fun d => d.sas = s.dev.sas ∧ d.reqs = s.dev.reqs ∧
      d.out = .stored (if bypass then { entry := 0x80, data := bs } else compressBlock fmt bs) :: s.dev.out) := by
  have hgo : (bs.length != 4096 || fmt == 0 || decide (4 < fmt)) = false := by simp [hlen]; omega
  refine ⟨_, rfl, ?_⟩
  beta_reduce
  simp only [hgo, Bool.false_eq_true, if_false]
  have hcount := countCoded_reports s.dev [if bypass then { entry := 0x80, data := bs } else compressBlock fmt bs]
  exact ⟨hcount.sas, hcount.reqs, congrArg (_ :: ·) (countCoded_out _ _)⟩

/-- The device in which the cycles that a shuttle's queues stood full and empty are counted. -/
def queuesCounted (d : Dev) (waited empty : Nat) : Dev := ctrAdd (ctrAdd d cQFullCycles waited) cQEmptyCycles empty

theorem queuesCounted_reports (d : Dev) (w e : Nat) : Reports d (queuesCounted d w e) :=
  (ctrAdd_reports _ _ _).trans (ctrAdd_reports _ _ _)

theorem queuesCounted_out (d : Dev) (w e : Nat) : (queuesCounted d w e).out = d.out := by simp [queuesCounted]

variable {addr fmt w e : Nat} {b : StoredBlock} {out : Bytes}

theorem blockExpand_expands (ha : addr % 32 = 0) (hout : expandBlock fmt b = .ok out) :
    Completes (.blockExpand addr fmt false b w e) s (fun d => d.sas = s.dev.sas ∧ d.reqs = s.dev.reqs ∧
      d.out = .expanded out :: s.dev.out) := by
  have hexec : exec (.blockExpand addr fmt false b w e) s =
      .next (s.setDev (emit (countExpanded (queuesCounted s.dev w e) [b]) (.expanded out))) := by
    show execBlockExpand addr fmt false b w e s = _
    unfold execBlockExpand
    rw [onDev_next]
    simp [ha, hout, queuesCounted]
  have hcount := (queuesCounted_reports s.dev w e).trans (countExpanded_reports _ [b])
  exact ⟨_, hexec, hcount.sas, hcount.reqs, congrArg (_ :: ·) ((countExpanded_out _ _).trans (queuesCounted_out _ _ _))⟩

theorem blockExpand_restores {sat : Nat} (ha : addr % 32 = 0) (hgood : thinBad 1 b.data = none)
    (hout : restorePage { fmt := fmt } b.data (32 * elemBytes fmt) = some (out, sat)) :
    Completes (.blockExpand addr fmt true b w e) s (fun d => d.sas = s.dev.sas ∧ d.reqs = s.dev.reqs ∧
      d.out = .expanded out :: s.dev.out) := by
  have hexec : exec (.blockExpand addr fmt true b w e) s =
      .next (s.setDev (emit (ctrAdd (queuesCounted s.dev w e) cThinSat sat) (.expanded out))) := by
    show execBlockExpand addr fmt true b w e s = _
    unfold execBlockExpand
    rw [onDev_next]
    simp [ha, hgood, hout, queuesCounted]
  have hcount := (queuesCounted_reports s.dev w e).trans (ctrAdd_reports _ cThinSat sat)
  exact ⟨_, hexec, hcount.sas, hcount.reqs, congrArg (_ :: ·) ((ctrAdd_out _ _ _).trans (queuesCounted_out _ _ _))⟩

/-- A decode error is reported, and CODEC_LAST_ERR holds it (R381). -/
theorem decodeError_reports (d : Dev) (ref : OpRef) (fc addr kind : Nat) :
    Reports { d with codecErr := some (addr % 2 ^ 48, kind) } (decodeError d ref fc addr kind) :=
  (faultOp_reports _ _ _ _ _ _).trans (ctrInc_reports _ _)

theorem blockExpand_fails {k : Nat} (ha : addr % 32 = 0) (herr : expandBlock fmt b = .err k) :
    Completes (.blockExpand addr fmt false b w e) s (fun d => d.codecErr.isSome ∧ d.sas = s.dev.sas ∧ d.reqs = s.dev.reqs) := by
  have hexec : exec (.blockExpand addr fmt false b w e) s =
      .next (s.setDev (decodeError (queuesCounted s.dev w e) { intake := false } 0x501 addr k)) := by
    show execBlockExpand addr fmt false b w e s = _
    unfold execBlockExpand
    rw [onDev_next]
    simp [ha, herr, queuesCounted]
  have hcount := queuesCounted_reports s.dev w e
  have hfault := decodeError_reports (queuesCounted s.dev w e) { intake := false } 0x501 addr k
  exact ⟨_, hexec, by rw [hfault.codecErr]; rfl, hfault.sas.trans hcount.sas, hfault.reqs.trans hcount.reqs⟩

end

/-- Settles O45: what a run does with a command that it takes, and does next when one ends, stores that run alone; the reset of a run
leaves the table of runs to it; shuttles count and answer. That a draining run keeps its queue is the model's choice (log entry 104). -/
theorem runAndShuttleCommandsComplete : Obligations.RunAndShuttleCommandsComplete := by
  unfold Obligations.RunAndShuttleCommandsComplete
  refine ⟨fun s r hr => ?_, fun s => ⟨fun fmt bs bypass => blockCompress_completes, fun a fmt b w e out => blockExpand_expands,
    fun a fmt b w e out sat => blockExpand_restores, fun a fmt b w e k => blockExpand_fails⟩⟩
  intro runIs
  refine ⟨fun m hrun hopen hin hdraft hkind => ?_, fun x n st hcur => ?_, runResetDone_completes hr,
    fun x eq bad l0 l1 => shadowCheckDone_completes⟩
  · have ht : TakesCmd s.dev r m := ⟨hr, hrun, hopen, hin, hdraft, hkind⟩
    exact ⟨fun hcur h0 => runCommandArrival_completes ht (giveCmd_starts hr hcur h0),
      fun hcur h0 => runCommandArrival_completes ht (giveCmd_queues_none hr hcur h0),
      fun x hcur h => runCommandArrival_completes ht (giveCmd_queues_some hr hcur h),
      fun x hcur h hroom => runCommandArrival_completes ht (giveCmd_displaces hr hcur h hroom)⟩
  · refine ⟨fun hq hs => ?_, fun h3 hs => ?_, fun c h3 hq hs => runCommandEnd_takes hr hcur h3 hq hs,
      fun t b ht => runCommandEnd_faults hr hcur ht, runStallTimeout_completes hr hcur⟩
    · obtain ⟨d, hd, ⟨y, hy, hn, hnone, hst, -, -⟩, hreqs⟩ := runCommandEnd_rests (n := n) (st := st) hr hcur (.inr hq) hs
      exact ⟨d, hd, ⟨y, hy, hn, hnone, hst⟩, hreqs⟩
    · obtain ⟨d, hd, ⟨y, hy, hn, hnone, -, h4, hkept⟩, hreqs⟩ := runCommandEnd_rests (n := n) (st := st) hr hcur (.inl h3) hs
      exact ⟨d, hd, ⟨y, hy, hn, hnone, h4 h3, hkept⟩, hreqs⟩

end Sys2Proof.Machine
end

section
/-! # Signed commands on tiles, stacks and gates (R316, R507, R607, R650 to R652) -/

namespace Sys2Proof.Machine

open Sys2Proof

/-- The device that has taken a signed message, before the message's effect. -/
def msgAccepted (d : Dev) (h : SigHdr) : Dev := ctrInc { d with sec := { d.sec with msgSeq := h.seq } } cMsgAccepted

theorem msgAccepted_reports (d : Dev) (h : SigHdr) :
    Reports { d with sec := { d.sec with msgSeq := h.seq } } (msgAccepted d h) := ctrInc_reports _ _

@[simp] theorem msgAccepted_msgSeq (d : Dev) (h : SigHdr) : (msgAccepted d h).sec.msgSeq = h.seq := (msgAccepted_reports d h).msgSeq
@[simp] theorem msgAccepted_fab (d : Dev) (h : SigHdr) : (msgAccepted d h).fab = d.fab := (msgAccepted_reports d h).fab
@[simp] theorem msgAccepted_stk (d : Dev) (h : SigHdr) : (msgAccepted d h).stk = d.stk := (msgAccepted_reports d h).stk
@[simp] theorem msgAccepted_ports (d : Dev) (h : SigHdr) : (msgAccepted d h).ports = d.ports := (msgAccepted_reports d h).ports

section
variable {s : State} {h : SigHdr}

/-- A message that passes every check and is not refused by its own chapter has its effect on the device that took it (R651). -/
theorem signedDo_accepted {d : Dev} {lo own : Nat} {f : Dev → Dev} (hcheck : signedCheck d h lo = St.ok)
    (hsw : d.sec.switching = false) (hown : own = St.ok) : signedDo d h lo false own f = (St.ok, f (msgAccepted d h)) := by
  simp [signedDo, hcheck, hsw, hown, msgAccepted]

/-- An accepted message's answer, and what its effect alone still read, change neither the effect's fabric, stacks and ports nor the
place in the sequence. -/
theorem onSigned_accepted {g : Dev → Nat × Dev} {e : Dev} (hrot : rotRuns s.dev) (hg : g s.dev = (St.ok, e)) :
    ∃ t, onSigned g s = .next (s.setDev t) ∧ t.fab = e.fab ∧ t.stk = e.stk ∧ t.ports = e.ports ∧
      t.sec.msgSeq = e.sec.msgSeq := by
  have hnext : onSigned g s = .next (s.setDev (collect (emit e (.signedStatus St.ok)))) := by
    unfold onSigned onDevC
    rw [onDev_next]
    simp only [hrot, if_true, hg]
  have hc := collect_frees (emit e (.signedStatus St.ok))
  exact ⟨_, hnext, hc.fab, hc.stk, hc.ports, hc.msgSeq⟩

/-! ## Fences (R507, R508) -/

theorem fabLosses_reports (was d : Dev) : Reports d (fabLosses was d) :=
  .foldl _ (fun d _ => .ite (.ite (.refl d) (detect_reports _ _ _ _ _ _)) (.refl d)) _ _

/-- Fencing moves commands between runs; of the fences and the sequence it changes that the tiles are fenced. -/
theorem fenceTiles_runStep (d : Dev) (ts : List Nat) :
    RunStep { d with fab := { d.fab with fenced := (d.fab.fenced ++ ts).eraseDups } } (fenceTiles d ts) := by
  unfold fenceTiles
  refine .trans (.foldl (fun d r => ?_) _ _) (fabLosses_reports _ _).runStep
  dsimp only
  split
  · exact .ite ((setRun_runStep _ _).trans (nextCmd_runStep _ _)) ((setRun_runStep _ _).trans (setRun_runStep _ _))
  · exact setRun_runStep _ _

/-- Unfencing sets runs going; of the fences and the sequence it changes that the tiles are not fenced. -/
theorem unfenceTiles_runStep (d : Dev) (ts : List Nat) :
    RunStep { d with fab := { d.fab with fenced := d.fab.fenced.filter (fun t => !ts.contains t) } } (unfenceTiles d ts) := by
  unfold unfenceTiles
  exact .foldl (fun d r => .ite (nextCmd_runStep _ _) (.ite (setRun_runStep _ _) (.refl d))) _ _

theorem tilesNamed_ok {ts : List Nat} (hts : ∀ t ∈ ts, t < 640) :
    (if ts.all (· < 640) then St.ok else St.recordInvalid) = St.ok := by
  simpa using hts

theorem fence_completes {ts : List Nat} (hrot : rotRuns s.dev) (hsw : s.dev.sec.switching = false)
    (hcheck : signedCheck s.dev h qFence = St.ok) (hts : ∀ t ∈ ts, t < 640) :
    Completes (.fence h ts) s (fun d => d.fab.fenced = (s.dev.fab.fenced ++ ts).eraseDups ∧ d.sec.msgSeq = h.seq) := by
  obtain ⟨t, ht, hfab, -, -, hseq⟩ := onSigned_accepted (g := fun d => signedFence d h ts) hrot
    (signedDo_accepted hcheck hsw (tilesNamed_ok hts))
  have hstep := fenceTiles_runStep (msgAccepted s.dev h) ts
  refine ⟨t, ht, ?_, ?_⟩
  · rw [hfab, hstep.fenced]; simp
  · rw [hseq, hstep.msgSeq]; simp

theorem unfence_completes {ts : List Nat} (hrot : rotRuns s.dev) (hsw : s.dev.sec.switching = false)
    (hcheck : signedCheck s.dev h qFence = St.ok) (hts : ∀ t ∈ ts, t < 640) :
    Completes (.unfence h ts) s (fun d => d.fab.fenced = s.dev.fab.fenced.filter (fun t => !ts.contains t) ∧
      d.sec.msgSeq = h.seq) := by
  obtain ⟨t, ht, hfab, -, -, hseq⟩ := onSigned_accepted (g := fun d => signedUnfence d h ts) hrot
    (signedDo_accepted hcheck hsw (tilesNamed_ok hts))
  have hstep := unfenceTiles_runStep (msgAccepted s.dev h) ts
  refine ⟨t, ht, ?_, ?_⟩
  · rw [hfab, hstep.fenced]; simp
  · rw [hseq, hstep.msgSeq]; simp

/-! ## Stacks (R316, R317) -/

theorem stackRetire_completes {n : Nat} (hrot : rotRuns s.dev) (hsw : s.dev.sec.switching = false)
    (hcheck : signedCheck s.dev h qStack = St.ok) (hlen : n < s.dev.stk.units.length) (hn : n < 12) (hu : (stackAt s.dev n).usable) :
    Completes (.stackRetire h n) s (fun d => stackAt d n = { stackAt s.dev n with st := 3 } ∧
      (∀ m, m ≠ n → stackAt d m = stackAt s.dev m) ∧ d.sec.msgSeq = h.seq) := by
  obtain ⟨t, ht, -, hstk, -, hseq⟩ := onSigned_accepted (g := fun d => signedStackRetire d h n) hrot
    (signedDo_accepted hcheck hsw (if_neg (by omega)))
  have hat (k : Nat) : stackAt (msgAccepted s.dev h) k = stackAt s.dev k := stackAt_congr (msgAccepted_stk _ _) k
  simp only [hat, hu, Bool.not_true, Bool.false_eq_true, if_false] at hstk hseq
  have hloss := stkLoss_reports (moveHeld (setStack (msgAccepted s.dev h) n { stackAt s.dev n with st := 3 }) n true) n
  have hat' := stackAt_congr (d := setStack (msgAccepted s.dev h) n { stackAt s.dev n with st := 3 }) (hstk.trans hloss.stk)
  refine ⟨t, ht, (hat' n).trans (stackAt_setStack_same (by simpa using hlen)),
    fun m hm => (hat' m).trans ((stackAt_setStack_other hm).trans (hat m)), ?_⟩
  exact hseq.trans (hloss.msgSeq.trans (msgAccepted_msgSeq _ _))

/-! ## Gates (R607) -/

theorem portAt_congr {d e : Dev} (h : e.ports = d.ports) (p : Nat) : portAt e p = portAt d p := by unfold portAt; rw [h]

theorem portAt_setPort_same {d : Dev} {p : Nat} {x : Port} (h : p < d.ports.length) : portAt (setPort d p x) p = x := by
  simp [portAt, setPort, List.getD_eq_getElem?_getD, h]

theorem portAt_setPort_other {d : Dev} {p m : Nat} {x : Port} (h : m ≠ p) : portAt (setPort d p x) m = portAt d m := by
  simp [portAt, setPort, List.getD_eq_getElem?_getD, h.symm]

theorem gateSwitch_completes {p l at_ : Nat} (hrot : rotRuns s.dev) (hsw : s.dev.sec.switching = false)
    (hcheck : signedCheck s.dev h qGate = St.ok) (hp : p < 8) (hlen : p < s.dev.ports.length)
    (hgate : gateRefused s.dev p l at_ = St.ok) :
    Completes (.gateSwitch h p l at_) s (fun d => portAt d p = { portAt s.dev p with pending := some (l, at_) } ∧
      (∀ m, m ≠ p → portAt d m = portAt s.dev m) ∧ d.sec.msgSeq = h.seq) := by
  obtain ⟨t, ht, -, -, hports, hseq⟩ := onSigned_accepted (g := fun d => signedGateSwitch d h p l at_) hrot
    (signedDo_accepted hcheck hsw ((if_neg (by omega)).trans hgate))
  have hat (k : Nat) : portAt (msgAccepted s.dev h) k = portAt s.dev k := portAt_congr (msgAccepted_ports _ _) k
  simp only [hat] at hports hseq
  have hover (d : Dev) : Reports d (reportOver d (lPRT p) at_ 0x09 p 0x230 false) := .ite (.refl d) (detect_reports _ _ _ _ _ _)
  have hat' := portAt_congr (hports.trans (hover _).ports)
  refine ⟨t, ht, (hat' p).trans (portAt_setPort_same (by simpa using hlen)),
    fun m hm => (hat' m).trans ((portAt_setPort_other hm).trans (hat m)), ?_⟩
  exact hseq.trans ((hover _).msgSeq.trans (msgAccepted_msgSeq _ _))

end

/-- Settles O17: an accepted message has its effect on the device that took its number. Fencing and unfencing move commands between runs
(`RunStep`), a retirement and a switch of gates store one record and report what is booked above the new capacity. -/
theorem signedServiceCommandsComplete : Obligations.SignedServiceCommandsComplete := by
  unfold Obligations.SignedServiceCommandsComplete
  intro s hrot hsw
  refine ⟨fun h ts hcheck hts => ?_, fun h ts hcheck hts => unfence_completes hrot hsw hcheck hts,
    fun h n hcheck hlen hn hu => ?_, fun h p l at_ hcheck hp hlen hgate => ?_⟩
  · obtain ⟨d, hd, hfenced, hseq⟩ := fence_completes hrot hsw hcheck hts
    exact ⟨d, hd, fun t ht => by simp [hfenced, ht], fun t ht => by simp [hfenced, ht], hseq⟩
  · obtain ⟨d, hd, hat, hothers, hseq⟩ := stackRetire_completes hrot hsw hcheck hlen hn hu
    exact ⟨d, hd, by rw [hat], hothers, hseq⟩
  · obtain ⟨d, hd, hat, hothers, hseq⟩ := gateSwitch_completes hrot hsw hcheck hp hlen hgate
    exact ⟨d, hd, by rw [hat], hothers, hseq⟩

end Sys2Proof.Machine
end

section
/-! # The connection and region commands of WEFT_CMD (R523, R524, R549, R550, R552)

A command that passes its checks is one change of the transport; what the block drops afterwards (`collect`) is no part of it. -/

namespace Sys2Proof.Machine

open Sys2Proof

section
variable {s : State} {d e : Dev} {c : Conn} {n i : Nat} {b : Bytes}

/-- A command whose block was read runs, while no other is in progress (R14, R552). -/
theorem onCmd_runs (f : Dev → Bytes → Dev) (hb : b.length = 256) (ht : cmdTarget b = n) (hbusy : s.dev.weft.cmdBusy = false) :
    onCmd 64 n (some b) f s = .next (s.setDev (collect (f s.dev b))) := by
  have hfit : fit b 256 = b := by simp [fit, zeroBytes, hb]
  simp [onCmd, onDevC, onDev, hbusy, ht, hfit]

/-- What a command leaves in the transport is there when the block has dropped what nothing reads any more. -/
theorem completes_of_weft {i : Instr} {P : Dev → Prop} (h : exec i s = .next (s.setDev (collect d)))
    (hP : ∀ e, e.weft = d.weft → P e) : Completes i s P :=
  ⟨_, h, hP _ (collect_frees d).weft⟩

theorem findConn_num (h : findConn d n = some c) : c.num = n := by simpa using List.find?_some h

theorem findConn_congr (h : e.weft = d.weft) (n : Nat) : findConn e n = findConn d n := by unfold findConn; rw [h]

/-- A context stored where one of its number stood is found. -/
theorem findConn_setConn_num {k : Conn} (h : findConn d n = some c) (hk : k.num = n) : findConn (setConn d k) n = some k := by
  obtain rfl := findConn_num h
  exact findConn_setConn h hk

/-- Removing one number leaves the contexts of the others (R524). -/
theorem findConn_filter_other {cs : List Conn} {m : Nat} (h : m ≠ n) :
    (cs.filter (fun x => x.num != n)).find? (fun x => x.num == m) = cs.find? (fun x => x.num == m) := by
  rw [List.find?_filter]
  congr 1
  funext x
  by_cases hx : x.num = m <;> simp [hx, h]

theorem findConn_filter_same {cs : List Conn} : (cs.filter (fun x => x.num != n)).find? (fun x => x.num == n) = none := by
  simp

/-! ## Entries flushed with nobody waiting for them (R524, R525) -/

theorem entryDone_go_numbers (f : Nat) (c : Conn) (x : U32) (y : List U32) :
    { Conn.entryDone.go f c with completed := x, doneAhead := y } = { c with completed := x, doneAhead := y } := by
  induction f generalizing c with
  | zero => rfl
  | succ f ih =>
    unfold Conn.entryDone.go
    split
    · exact ih _
    · rfl

/-- The end of an entry moves COMPLETED and what is complete ahead of it, and nothing else of the context (R526). -/
theorem entryDone_numbers (c : Conn) (o x : U32) (y : List U32) :
    { c.entryDone o with completed := x, doneAhead := y } = { c with completed := x, doneAhead := y } :=
  entryDone_go_numbers _ _ x y

/-- The context of a number is in a state with nothing queued or sent, its epochs as given. -/
def connEmptied (d : Dev) (n : Nat) (st : ConnState) (ep : List (BitVec 8)) : Prop :=
  ∃ k, findConn d n = some k ∧ k.state = st ∧ k.queue = [] ∧ k.msgs = [] ∧ k.txEpoch = ep

variable {st : ConnState} {ep : List (BitVec 8)}

theorem connEmptied.of_weft (h : connEmptied d n st ep) (hw : e.weft = d.weft) : connEmptied e n st ep := by
  unfold connEmptied
  rwa [findConn_congr hw]

/-- An entry that nobody waits for ends in its context alone. -/
theorem completeEntry_nobody (h : connEmptied d n st ep) (op : Nat) (o : U32) (status : Nat) (cause : Nat) :
    connEmptied (completeEntry d n .nobody op o status [] cause) n st ep := by
  obtain ⟨k, hk, hst, hq, hm, hep⟩ := h
  have hnum := entryDone_numbers k o k.completed k.doneAhead
  have hdone : connEmptied (setConn d (k.entryDone o)) n st ep :=
    ⟨k.entryDone o, findConn_setConn_num hk ((congrArg Conn.num hnum).trans (findConn_num hk)),
      (congrArg Conn.state hnum).trans hst, (congrArg Conn.queue hnum).trans hq, (congrArg Conn.msgs hnum).trans hm,
      (congrArg Conn.txEpoch hnum).trans hep⟩
  unfold completeEntry entryEnds
  simp only [hk]
  split
  · exact hdone.of_weft (ctrInc_weft _ _)
  · exact hdone

theorem completeEntries_nobody {es : List (SqFor × Nat × U32)} (hes : ∀ e ∈ es, e.1 = .nobody) (f : U32 → Nat) (cause : Nat)
    (h : connEmptied d n st ep) :
    connEmptied (es.foldl (fun d e => completeEntry d n e.1 e.2.1 e.2.2 (f e.2.2) [] cause) d) n st ep := by
  induction es generalizing d with
  | nil => exact h
  | cons e es ih =>
    refine ih (fun x hx => hes x (List.mem_cons_of_mem _ hx)) ?_
    dsimp only
    rw [hes e List.mem_cons_self]
    exact completeEntry_nobody h _ _ _ _

/-- A connection whose entries and messages nobody waits for. -/
theorem quietConn_iff : quietConn c = true ↔ (∀ e ∈ c.queue, e.use = .nobody) ∧ ∀ m ∈ c.msgs, m.use = .nobody := by
  simp [quietConn]

theorem openEntries_quiet (h : quietConn c = true) : ∀ e ∈ openEntries c, e.1 = .nobody := by
  obtain ⟨hq, hm⟩ := quietConn_iff.mp h
  intro e he
  rcases List.mem_append.mp he with he | he
  · obtain ⟨m, hmem, rfl⟩ := List.mem_map.mp he
    exact hm m (List.mem_of_mem_filter hmem)
  · obtain ⟨x, hmem, rfl⟩ := List.mem_map.mp he
    exact hq x hmem

/-- With nobody waiting, a flush of the entries empties the context and puts it into the state given. -/
theorem flushEntries_quiet (hc : findConn d n = some c) (hq : quietConn c = true) (st : ConnState) (bad : Option (U32 × Nat))
    (cause : Nat) : connEmptied (flushEntries d n st bad cause) n st c.txEpoch := by
  obtain ⟨-, hm⟩ := quietConn_iff.mp hq
  unfold flushEntries
  split
  next hnone => cases hnone.symm.trans hc
  next k hk =>
  obtain rfl : c = k := Option.some.inj (hc.symm.trans hk)
  extract_lets es lost gone status d1 d2 d3
  have hnum : c.num = n := findConn_num hc
  have hlost : lost = [] := List.filterMap_eq_nil_iff.mpr fun m h => by simp [hm m h]
  have hgone : gone = [] := List.filterMap_eq_nil_iff.mpr fun m h => by simp [hm m h]
  have h1 : connEmptied d1 n st c.txEpoch :=
    ⟨_, findConn_setConn_num (d := unqueue d n) hc hnum, rfl, rfl, rfl, rfl⟩
  have h2 : connEmptied d2 n st c.txEpoch := completeEntries_nobody (openEntries_quiet hq) status cause h1
  have h3 : d3 = d2 := by
    show gone.foldl _ d2 = d2
    rw [hgone]
    rfl
  rw [hlost, h3]
  exact h2

/-! ## The commands -/

/-- The result that a command leaves: ST_OK, its value, and no command in progress (R552). -/
theorem cmdEnd_ok (h : e.weft = (cmdEnd d St.ok n).weft) : e.weft.cmdStatus = St.ok ∧ e.weft.cmdValue = n ∧ e.weft.cmdBusy = false := by
  rw [h]
  exact ⟨rfl, rfl, rfl⟩

/-- A new context after those that stand. -/
def addConn (d : Dev) (c : Conn) : Dev := { d with weft := { d.weft with conns := d.weft.conns ++ [c] } }

theorem connCreate_completes (hb : b.length = 256) (ht : cmdTarget b = n) (hbusy : s.dev.weft.cmdBusy = false)
    (hnone : findConn s.dev n = none) (hn : n < 1048576) (hok : fieldsRefused s.dev (Conn.setFields s.dev { num := n } b) = none) :
    Completes (.connCreate 64 n (some b)) s (fun d => (d.weft.cmdStatus = St.ok ∧ d.weft.cmdValue = n ∧ d.weft.cmdBusy = false) ∧
      d.weft.conns = s.dev.weft.conns ++ [{ Conn.setFields s.dev { num := n } b with
        cwnd := img s.dev 0x180008 47 36 * 1024
        srtt := img s.dev 0x180000 25 16 * 1000 }]) := by
  refine completes_of_weft (d := cmdEnd (addConn s.dev _) St.ok n) ?_ fun e he => ⟨cmdEnd_ok he, congrArg Weft.conns he⟩
  show execConnCreate 64 n (some b) s = _
  rw [execConnCreate, onCmd_runs _ hb ht hbusy]
  simp only [hnone, hok, Option.isSome_none, Nat.not_le.mpr hn, decide_false, Bool.or_self, Bool.false_eq_true, if_false]
  rfl

/-- The changed context `k` of `c`, under new epochs where a path's source port or egress port changed (R524). -/
def movedConn (c k : Conn) : Conn :=
  { k with txEpoch := (c.txEpoch.zipIdx).map fun x => if c.sportBase != k.sportBase || c.port x.2 != k.port x.2 then x.1 + 1 else x.1 }

theorem movedConn_epoch {k : Conn} {p : Nat} (hp : p < c.txEpoch.length) : (movedConn c k).txEpoch.getD p 0 =
    c.txEpoch.getD p 0 + (if c.sportBase ≠ k.sportBase ∨ c.port p ≠ k.port p then 1 else 0) := by
  by_cases h : c.sportBase ≠ k.sportBase ∨ c.port p ≠ k.port p <;> simp [movedConn, List.getD_eq_getElem?_getD, hp, h]

theorem connModify_completes (hb : b.length = 256) (ht : cmdTarget b = n) (hbusy : s.dev.weft.cmdBusy = false)
    (hc : findConn s.dev n = some c) (hready : c.state = .ready) (hok : fieldsRefused s.dev (Conn.setFields s.dev c b) = none)
    (hlen : c.txEpoch.length = 8) :
    Completes (.connModify 64 n (some b)) s (fun d => (d.weft.cmdStatus = St.ok ∧ d.weft.cmdValue = n ∧ d.weft.cmdBusy = false) ∧
      ∃ k, findConn d n = some k ∧ { k with txEpoch := c.txEpoch } = Conn.setFields s.dev c b ∧
        ∀ p, p < 8 → k.txEpoch.getD p 0 = c.txEpoch.getD p 0 + (if c.sportBase ≠ k.sportBase ∨ c.port p ≠ k.port p then 1 else 0)) := by
  have hexec : exec (.connModify 64 n (some b)) s = .next (s.setDev (collect (cmdEnd (setConn s.dev
      (movedConn c (Conn.setFields s.dev c b))) St.ok n))) := by
    show execConnModify 64 n (some b) s = _
    rw [execConnModify, onCmd_runs _ hb ht hbusy]
    simp only [hc, hready, hok, bne_self_eq_false, Bool.false_eq_true, if_false]
    rfl
  have hnum : c.num = n := findConn_num hc
  refine completes_of_weft hexec fun e he => ⟨cmdEnd_ok he, movedConn c (Conn.setFields s.dev c b),
    (findConn_congr he n).trans (findConn_setConn_num hc hnum), rfl, fun p hp => movedConn_epoch (hlen.symm ▸ hp)⟩

/-- The context that CONN_RESET leaves of `k`: the message numbers of its block, nothing received, new epochs (R524). -/
def resetConn (b : Bytes) (k : Conn) : Conn := { k with
  state := .ready
  sendMsn := u32 (fld b 0x40 31 0)
  unacked := u32 (fld b 0x40 31 0)
  rxBase := u32 (fld b 0x50 31 0)
  posted := 0
  completed := 0
  doneAhead := []
  rxDone := []
  rxBad := []
  said := []
  txEpoch := k.txEpoch.map (· + 1) }

/-- The trackers of a connection and its far jobs' arrivals are forgotten. -/
def dropArrivals (d : Dev) (n : Nat) : Dev := { d with weft := { d.weft with
  trackers := d.weft.trackers.filter (fun t => t.conn != n)
  farIn := d.weft.farIn.filter (fun f => f.1 != n) } }

theorem dropArrivals_trackers : ∀ t ∈ (dropArrivals d n).weft.trackers, t.conn ≠ n := fun t ht => by
  simpa using (List.mem_filter.mp ht).2

/-- A connection's entries end and its context starts over. -/
def connRestarted (d : Dev) (n : Nat) (b : Bytes) : Dev :=
  match findConn (flushEntries d n .error none 0x701) n with
  | none => flushEntries d n .error none 0x701
  | some k => setConn (flushEntries d n .error none 0x701) (resetConn b k)

theorem connReset_completes (hb : b.length = 256) (ht : cmdTarget b = n) (hbusy : s.dev.weft.cmdBusy = false)
    (hc : findConn s.dev n = some c) (hst : c.state = .ready ∨ c.state = .error) :
    Completes (.connReset 64 n (some b)) s (fun d => (d.weft.cmdStatus = St.ok ∧ d.weft.cmdValue = n ∧ d.weft.cmdBusy = false) ∧
      (∀ t ∈ d.weft.trackers, t.conn ≠ n) ∧
      (quietConn c → ∃ k, findConn d n = some k ∧ k.state = .ready ∧ k.queue = [] ∧ k.msgs = [] ∧ k.rxDone = [] ∧
        k.sendMsn = u32 (fld b 0x40 31 0) ∧ k.unacked = k.sendMsn ∧ k.rxBase = u32 (fld b 0x50 31 0) ∧
        k.posted = 0 ∧ k.completed = 0 ∧ k.txEpoch = c.txEpoch.map (· + 1))) := by
  have hexec : exec (.connReset 64 n (some b)) s =
      .next (s.setDev (collect (cmdEnd (dropArrivals (connRestarted s.dev n b) n) St.ok n))) := by
    show execConnReset 64 n (some b) s = _
    rw [execConnReset, onCmd_runs _ hb ht hbusy]
    simp only [hc]
    rw [if_neg (by rcases hst with h | h <;> simp [h])]
    rfl
  refine completes_of_weft hexec fun e he => ⟨cmdEnd_ok he, ?_, fun hq => ?_⟩
  · rw [congrArg Weft.trackers he]
    exact dropArrivals_trackers
  · obtain ⟨k, hk, -, hqueue, hmsgs, hep⟩ := flushEntries_quiet hc hq .error none 0x701
    have hnum : k.num = n := findConn_num hk
    have hrestarted : findConn (connRestarted s.dev n b) n = some (resetConn b k) := by
      unfold connRestarted
      rw [hk]
      exact findConn_setConn_num hk hnum
    exact ⟨resetConn b k, (findConn_congr he n).trans hrestarted, rfl, hqueue, hmsgs, rfl, rfl, rfl, rfl, rfl, rfl, by rw [← hep]; rfl⟩

theorem connDestroy_completes (hb : b.length = 256) (ht : cmdTarget b = n) (hbusy : s.dev.weft.cmdBusy = false)
    (hc : findConn s.dev n = some c) (hst : c.state = .ready ∨ c.state = .error) :
    Completes (.connDestroy 64 (n, some b)) s (fun d => (d.weft.cmdStatus = St.ok ∧ d.weft.cmdValue = n ∧ d.weft.cmdBusy = false) ∧
      (quietConn c → ∃ k, findConn d n = some k ∧ k.state = .destroying ∧ k.queue = [] ∧ k.msgs = [])) := by
  have hexec : exec (.connDestroy 64 (n, some b)) s =
      .next (s.setDev (collect (cmdEnd (flushEntries s.dev n .destroying none 0x701) St.ok n))) := by
    show execConnDestroy 64 (n, some b) s = _
    rw [execConnDestroy, onCmd_runs _ hb ht hbusy]
    simp only [hc]
    rw [if_neg (by rcases hst with h | h <;> simp [h])]
  refine completes_of_weft hexec fun e he => ⟨cmdEnd_ok he, fun hq => ?_⟩
  obtain ⟨k, hk, hstate, hqueue, hmsgs, -⟩ := flushEntries_quiet hc hq .destroying none 0x701
  exact ⟨k, (findConn_congr he n).trans hk, hstate, hqueue, hmsgs⟩

/-- A context is FREE again: it is listed no more. -/
def freeConn (d : Dev) (n : Nat) : Dev := dropArrivals { d with weft := { d.weft with conns := d.weft.conns.filter (fun x => x.num != n) } } n

theorem connDestroyDrained_completes (hc : findConn s.dev n = some c) (hst : c.state = .destroying) :
    Completes (.connDestroyDrained n) s (fun d => findConn d n = none ∧ (∀ t ∈ d.weft.trackers, t.conn ≠ n) ∧
      (∀ m, m ≠ n → findConn d m = findConn s.dev m) ∧ d.reqs = s.dev.reqs ∧ d.sas = s.dev.sas) := by
  have hexec : exec (.connDestroyDrained n) s = .next (s.setDev (freeConn s.dev n)) := by
    show execConnDestroyDrained n s = _
    simp only [execConnDestroyDrained, onDev, hc, hst, bne_self_eq_false, Bool.false_eq_true, if_false]
    rfl
  exact ⟨_, hexec, findConn_filter_same, dropArrivals_trackers, fun m hm => findConn_filter_other hm, rfl, rfl⟩

/-- The region that REGION_CREATE defines: VALID under the generation of its index, with the fields of its block (R549). -/
def blockRegion (d : Dev) (i : Nat) (b : Bytes) : Region := {
  gen := (tgetD d.weft.regions i {}).gen
  state := .valid
  rd := fld b 4 2 2 == 1
  wr := fld b 4 3 3 == 1
  intakeTarget := fld b 4 4 4 == 1
  owner := fld b 4 11 5
  base := fld b 8 47 0
  length := fld b 0x10 39 0
  conn := fld b 0x18 19 0 }

/-- Store a region table entry. -/
def setRegion (d : Dev) (i : Nat) (r : Region) : Dev := { d with weft := { d.weft with regions := tset d.weft.regions i r } }

/-- An entry stored is the one at its index; every other index keeps its own. -/
theorem setRegion_at {r : Region} (h : e.weft.regions = (setRegion d i r).weft.regions) :
    tget e.weft.regions i = some r ∧ ∀ j, j ≠ i → tget e.weft.regions j = tget d.weft.regions j := by
  rw [h]
  exact ⟨tget_tset_same _ _ _, fun j hj => tget_tset_other _ _ _ _ hj⟩

theorem regionCreate_completes (hb : b.length = 256) (ht : cmdTarget b = i) (hbusy : s.dev.weft.cmdBusy = false) (hi : i < 16384)
    (hfree : (tgetD s.dev.weft.regions i {}).state = .free)
    (hrange : if (blockRegion s.dev i b).intakeTarget then lanesOwned s.dev (blockRegion s.dev i b)
      else inStage s.dev (blockRegion s.dev i b).owner (blockRegion s.dev i b).base (blockRegion s.dev i b).length) :
    Completes (.regionCreate 64 i (some b)) s (fun d => d.weft.cmdStatus = St.ok ∧
      d.weft.cmdValue = i + (blockRegion s.dev i b).gen.toNat * 2 ^ 14 ∧ tget d.weft.regions i = some (blockRegion s.dev i b) ∧
      ∀ j, j ≠ i → tget d.weft.regions j = tget s.dev.weft.regions j) := by
  have hexec : exec (.regionCreate 64 i (some b)) s = .next (s.setDev (collect (cmdEnd (setRegion s.dev i (blockRegion s.dev i b)) St.ok
      (i + (blockRegion s.dev i b).gen.toNat * 2 ^ 14)))) := by
    show execRegionCreate 64 i (some b) s = _
    rw [execRegionCreate, onCmd_runs _ hb ht hbusy]
    dsimp only
    rw [hfree, if_neg (by simp [hi])]
    exact congrArg (fun d => Host.Outcome.next (s.setDev (collect d))) (if_neg (by simpa [blockRegion] using hrange))
  refine completes_of_weft hexec fun e he => ?_
  obtain ⟨hstatus, hvalue, -⟩ := cmdEnd_ok he
  exact ⟨hstatus, hvalue, setRegion_at (congrArg Weft.regions he : e.weft.regions = _)⟩

theorem regionRevoke_completes {r : Region} (hb : b.length = 256) (ht : cmdTarget b = i) (hbusy : s.dev.weft.cmdBusy = false)
    (hr : tget s.dev.weft.regions (i % 2 ^ 14) = some r) (hvalid : r.state = .valid) (hgen : r.gen = BitVec.ofNat 18 (i / 2 ^ 14)) :
    Completes (.regionRevoke 64 (i, some b)) s (fun d => d.weft.cmdBusy ∧
      tget d.weft.regions (i % 2 ^ 14) = some { r with state := .revoking } ∧
      ∀ j, j ≠ i % 2 ^ 14 → tget d.weft.regions j = tget s.dev.weft.regions j) := by
  have hexec : exec (.regionRevoke 64 (i, some b)) s = .next (s.setDev (collect { s.dev with weft := { s.dev.weft with
      regions := tset s.dev.weft.regions (i % 2 ^ 14) { r with state := .revoking }, cmdBusy := true } })) := by
    show execRegionRevoke 64 (i, some b) s = _
    rw [execRegionRevoke, onCmd_runs _ hb ht hbusy]
    simp only [hr, hvalid, hgen, bne_self_eq_false, Bool.or_self, Bool.false_eq_true, if_false]
  refine completes_of_weft hexec fun e he => ⟨congrArg Weft.cmdBusy he, setRegion_at (congrArg Weft.regions he : e.weft.regions = _)⟩

theorem regionRevokeDrained_completes {r : Region} (hr : tget s.dev.weft.regions i = some r) (hrev : r.state = .revoking)
    (h0 : r.inflight = 0) :
    Completes (.regionRevokeDrained i) s (fun d => d.weft.cmdBusy = false ∧ d.weft.cmdStatus = St.ok ∧
      tget d.weft.regions i = some { gen := r.gen + 1 } ∧ ∀ j, j ≠ i → tget d.weft.regions j = tget s.dev.weft.regions j) := by
  refine ⟨_, rfl, ?_⟩
  simp only [hr, hrev, h0, bne_self_eq_false, Bool.or_self, Bool.false_eq_true, if_false]
  refine ⟨rfl, rfl, setRegion_at (d := s.dev) ?_⟩
  show (ctrInc (setRegion s.dev i { gen := r.gen + 1 }) cRevokes).weft.regions = _
  rw [ctrInc_weft]

end

/-- Settles O27: each command stores its context or its region table entry and ends the command. Where nobody waits for the entries of a
connection that is reset or destroyed, their end empties its context (`flushEntries_quiet`). The model's choices here are log entries 58
(UNACKED is SEND_MSN; CONN_DESTROY is answered at DESTROYING) and 106 (COMPLETED starts over). -/
theorem connectionAndRegionCommandsComplete : Obligations.ConnectionAndRegionCommandsComplete := by
  unfold Obligations.ConnectionAndRegionCommandsComplete
  refine ⟨fun s n b hb ht hbusy => ⟨connCreate_completes hb ht hbusy, fun _ => connModify_completes hb ht hbusy,
      fun _ => connReset_completes hb ht hbusy, fun _ => connDestroy_completes hb ht hbusy, fun _ => connDestroyDrained_completes⟩,
    fun s i b hb ht hbusy => ⟨regionCreate_completes hb ht hbusy, fun _ => regionRevoke_completes hb ht hbusy,
      fun _ => regionRevokeDrained_completes⟩⟩

end Sys2Proof.Machine
end

section
/-! # What a receiver goes by, while the device reports and answers (R520, R521, R531)

Reports post entries and use packet numbers. They leave of each connection what its receiver goes by, and an association that can send
after them could send before. Each operation has one lemma `f_sameRx`. -/

namespace Sys2Proof.Machine

open Sys2Proof

/-- What the receiver of a connection goes by: its number, its base, and what is complete or was answered. -/
def rxState (c : Conn) : Nat × U32 × List U32 × List (U32 × Nat) := (c.num, c.rxBase, c.rxDone, c.said)

/-- `e` came from `d` with what its receivers go by as it was, and with no association fresher than it was. -/
structure SameRx (d e : Dev) : Prop where
  conns : e.weft.conns.map rxState = d.weft.conns.map rxState
  usable : ∀ sa, saUsable e sa = true → saUsable d sa = true

section
variable {a b c d e : Dev}

theorem SameRx.of_eq (hc : e.weft.conns = d.weft.conns := by rfl) (hs : e.sec = d.sec := by rfl) : SameRx d e where
  conns := by rw [hc]
  usable sa h := by
    unfold saUsable findAssoc at *
    rwa [hs] at h

theorem SameRx.refl (d : Dev) : SameRx d d := .of_eq

theorem SameRx.trans (h : SameRx a b) (k : SameRx b c) : SameRx a c := ⟨k.conns.trans h.conns, fun sa hs => h.usable sa (k.usable sa hs)⟩

theorem SameRx.ite {p : Prop} [Decidable p] (ha : SameRx d a) (hb : SameRx d b) : SameRx d (if p then a else b) := by
  split <;> assumption

theorem SameRx.foldl {α : Type} {f : Dev → α → Dev} (h : ∀ d x, SameRx d (f d x)) (l : List α) (d : Dev) : SameRx d (l.foldl f d) := by
  induction l generalizing d with
  | nil => exact .refl d
  | cons x xs ih => exact (h d x).trans (ih _)

/-- A connection that is found is found again, with what its receiver goes by. -/
theorem SameRx.findConn {n : Nat} {k : Conn} (h : SameRx d e) (hk : findConn d n = some k) :
    ∃ k', Machine.findConn e n = some k' ∧ rxState k' = rxState k := by
  have hmap (x : Dev) : (Machine.findConn x n).map rxState = (x.weft.conns.map rxState).find? (fun y => y.1 == n) := by
    rw [List.find?_map]
    rfl
  exact Option.map_eq_some_iff.mp (by rw [hmap, h.conns, ← hmap, hk]; rfl)

end

section
variable (d : Dev)

theorem ctrAdd_sameRx (a n : Nat) : SameRx d (ctrAdd d a n) := .of_eq (by simp) (by simp)
theorem ctrInc_sameRx (a : Nat) : SameRx d (ctrInc d a) := ctrAdd_sameRx d a 1

theorem emitWA_sameRx (o : Out) : SameRx d (emitWA d o) := by
  unfold emitWA
  exact .ite .of_eq .of_eq

/-- What another test picks first stays, where neither the element replaced nor the new one passes that test. -/
theorem find?_replaceFirst_other {α : Type} {p q : α → Bool} {v : α} {l : List α} (hv : q v = false)
    (hp : ∀ x, p x = true → q x = false) : (replaceFirst p v l).find? q = l.find? q := by
  induction l with
  | nil => rfl
  | cons x xs ih =>
    unfold replaceFirst
    by_cases hx : p x = true
    · simp [hx, hv, hp x hx]
    · simp only [hx, Bool.false_eq_true, if_false, List.find?_cons, ih]

variable {d} in
/-- A packet number that was used is gone: nothing becomes fresher (R520, R522). -/
theorem usePn_sameRx {a : Assoc} {i : Nat} (h : findAssoc d i = some a) : SameRx d (usePn d a) where
  conns := rfl
  usable sa hs := by
    have ha : a.index = i ∧ a.established = true := by simpa using List.find?_some h
    by_cases hsa : sa = a.index
    · have hfind : findAssoc (usePn d a) sa = some { a with pn := a.pn + 1 } := by
        subst hsa
        exact find?_replaceFirst ⟨a, List.mem_of_find?_eq_some h, by simp [ha.2]⟩ (by simp [ha.2])
      have hpn : a.pn + 1 + 2 < 2 ^ 48 := by simpa [saUsable, hfind] using hs
      have hfound : findAssoc d sa = some a := by rw [hsa, ha.1, h]
      simp only [saUsable, hfound, decide_eq_true_eq]
      omega
    · have hfind : findAssoc (usePn d a) sa = findAssoc d sa :=
        find?_replaceFirst_other (by simp [Ne.symm hsa]) (fun x hx => by
          have hx' : x.index = a.index := by simp only [Bool.and_eq_true, beq_iff_eq] at hx; exact hx.1
          simp [hx', Ne.symm hsa])
      simpa [saUsable, hfind] using hs

theorem sendSelvedge_sameRx (op mseq : Nat) (error : Bool) (session : U64) (recs : List MirrorRec) :
    SameRx d (sendSelvedge d op mseq error session recs) := by
  unfold sendSelvedge
  split
  · exact .refl d
  next a ha => exact .ite ((usePn_sameRx ha).trans .of_eq) (.refl d)

theorem mirrorPush_sameRx (rs : List MirrorRec) : SameRx d (mirrorPush d rs) := by
  unfold mirrorPush
  refine .ite (.foldl (fun d g => ?_) _ d) (.refl d)
  refine .trans (.trans ?_ (sendSelvedge_sameRx _ _ _ _ _ _)) ((ctrInc_sameRx _ _).trans (ctrAdd_sameRx _ _ _))
  exact .of_eq

theorem hostWrite_sameRx (o a : Nat) (bs : Bytes) : SameRx d (hostWrite d o a bs) :=
  .ite (.foldl (fun d _ => emitWA_sameRx d _) _ d) ((ctrInc_sameRx d cHostDropped).trans .of_eq)

theorem hostRead_sameRx (o a n : Nat) (u : ReadFor) : SameRx d (hostRead d o a n u) := by
  refine .trans ?_ (.foldl (fun d _ => .of_eq) _ _)
  exact .of_eq

theorem msixRaise_sameRx (o : Nat) : SameRx d (msixRaise d o) := by
  refine .ite (.refl d) (.ite (.trans ?_ (emitWA_sameRx _ _)) .of_eq)
  exact .of_eq

variable {d} in
/-- A connection stored again with what its receiver goes by. -/
theorem setConn_sameRx {n : Nat} {c c' : Conn} (hc : findConn d n = some c) (h : rxState c' = rxState c) : SameRx d (setConn d c') where
  conns := by
    have hnum : c'.num = c.num := congrArg Prod.fst h
    have hn : c.num = n := by simpa using List.find?_some hc
    refine map_replaceFirst (fun x hx => ?_)
    rw [hnum, hn] at hx
    rw [Option.some.inj (hx.symm.trans hc)]
    exact h
  usable _ h := h

theorem postEntry_sameRx (n : Nat) (e : SqEntry) : SameRx d (postEntry d n e) := by
  unfold postEntry
  split
  · exact .refl d
  next c hc =>
    extract_lets e'
    exact .ite (.refl d) (setConn_sameRx hc rfl)

theorem ringBreak_sameRx (r : Ring) : SameRx d (ringBreak d r) := by
  refine .trans ?_ (ctrAdd_sameRx _ _ _)
  exact .of_eq

theorem startHeadRead_sameRx (n : Nat) : SameRx d (startHeadRead d n) := by
  unfold startHeadRead
  split
  · exact .refl d
  next r _ =>
    refine .ite (.refl d) (.ite (ringBreak_sameRx d _) (SameRx.trans (b := setRing d { r with reading := true }) .of_eq ?_))
    exact .ite (postEntry_sameRx _ _ _) (hostRead_sameRx _ _ _ _ _)

theorem faultWritten_sameRx (r : Ring) (bs : Bytes) : SameRx d (faultWritten d r bs) := by
  unfold faultWritten
  extract_lets f flt d1 d2
  have h2 : SameRx d d2 := SameRx.trans (b := d1) .of_eq (ctrInc_sameRx _ _)
  exact .ite h2 (h2.trans (msixRaise_sameRx _ _))

theorem ringWriteSlot_sameRx (r : Ring) (b : Bytes) : SameRx d (ringWriteSlot d r b) := by
  unfold ringWriteSlot
  extract_lets slot bs a d1 full d2 d3 d4
  have h2 : SameRx d d2 := (mirrorPush_sameRx d _).trans .of_eq
  have h3 : SameRx d2 d3 := .ite (postEntry_sameRx _ _ _) (hostWrite_sameRx _ _ _ _)
  have h4 : SameRx d3 d4 := .ite (ctrInc_sameRx _ _) (.ite (faultWritten_sameRx _ _ _) (.refl _))
  have h := h2.trans (h3.trans h4)
  exact .ite (h.trans (startHeadRead_sameRx _ _)) h

theorem ringPutRaw_sameRx (n : Nat) (b : Bytes) (keep : Bool) : SameRx d (ringPutRaw d n b keep).2 := by
  unfold ringPutRaw
  split
  · exact ctrInc_sameRx _ _
  next r _ =>
    split_ifs
    · exact ctrInc_sameRx _ _
    · exact ringWriteSlot_sameRx _ _ _
    · exact SameRx.trans (b := setRing d { r with queue := r.queue ++ [b] }) .of_eq (startHeadRead_sameRx _ _)
    · exact (ctrInc_sameRx d cFaultDropped).trans .of_eq
    · exact ctrInc_sameRx _ _

theorem faultPut_sameRx (o : Nat) (f : FaultRec) : SameRx d (faultPut d o f) := by
  unfold faultPut
  split
  · exact ringPutRaw_sameRx _ _ _ _
  · exact .ite .of_eq (ctrInc_sameRx _ _)

theorem unitPut_sameRx (e : CoEntry) : SameRx d (unitPut d e) := (faultPut_sameRx d _ _).trans .of_eq

theorem detectPut_sameRx (o k s c x y : Nat) : SameRx d (detectPut d o k s c x y) := by
  unfold detectPut
  extract_lets d1 t known
  have h1 : SameRx d d1 := ctrInc_sameRx _ _
  refine h1.trans (.ite ((ctrInc_sameRx d1 cCoalesceFull).trans .of_eq) (.ite (.trans ?_ (unitPut_sameRx _ _)) .of_eq))
  exact .of_eq

theorem tellBroken_sameRx (n : Nat) : SameRx d (tellBroken n d) := by
  induction n generalizing d with
  | zero => exact .refl d
  | succ n ih =>
    unfold tellBroken
    split
    · exact .refl d
    next r _ =>
      refine SameRx.trans (b := setRing d { r with told := true }) .of_eq (.trans ?_ (ih _))
      exact .ite (detectPut_sameRx _ _ _ _ _ _ _) ((faultPut_sameRx _ _ _).trans (ctrInc_sameRx _ _))

theorem detect_sameRx (k s c x y : Nat) : SameRx d (detect d k s c x y) :=
  (detectPut_sameRx d _ _ _ _ _ _).trans (tellBroken_sameRx _ _)

theorem faultOp_sameRx (r : OpRef) (c st x y : Nat) : SameRx d (faultOp d r c st x y) :=
  (faultPut_sameRx d _ _).trans (tellBroken_sameRx _ _)

theorem dropUnitSlot_sameRx (f : Nat) : SameRx d (dropUnitSlot d f) := by
  unfold dropUnitSlot
  split
  · exact .refl d
  · split <;> exact .of_eq

theorem unmapFrames_sameRx (o : Nat) (fs : List Nat) : SameRx d (unmapFrames d o fs) := by
  unfold unmapFrames
  extract_lets gs
  refine .ite (.refl d) ((SameRx.foldl dropUnitSlot_sameRx gs d).trans (.trans ?_ (mirrorPush_sameRx _ _)))
  exact .of_eq

theorem collect_sameRx : SameRx d (collect d) := by
  unfold collect
  refine .trans ?_ (.trans (.foldl (fun d b => .trans ?_ (unmapFrames_sameRx _ _ _)) _ _) (.foldl (fun d r => ?_) _ _))
  · exact .of_eq
  · exact .of_eq
  · exact .ite ((unmapFrames_sameRx d _ _).trans .of_eq) (unmapFrames_sameRx _ _ _)

end

end Sys2Proof.Machine
end

section
/-! # Packets sent, lines read and work memory written, at the receiver (R520, R526, R532, R541)

What a receiver does with a message leaves trackers, requests, the intake and what its receivers go by, and takes no frame out of a
port's queue (`RxStep`). Each operation has one lemma `f_rxStep`. -/

namespace Sys2Proof.Machine

open Sys2Proof

/-- `e` came from `d` with trackers, requests, intake and what its receivers go by as they were, and every queued frame still queued. -/
structure RxStep (d e : Dev) : Prop extends SameRx d e where
  trackers : e.weft.trackers = d.weft.trackers
  reqs : e.reqs = d.reqs
  intake : e.intake = d.intake
  ports : e.ports.length = d.ports.length
  queues : ∀ p, (portAt d p).queue ⊆ (portAt e p).queue

section
variable {a b c d e : Dev}

/-- Steps that leave the ports. -/
theorem RxStep.of_ports (h : SameRx d e) (ht : e.weft.trackers = d.weft.trackers := by rfl) (hr : e.reqs = d.reqs := by rfl)
    (hi : e.intake = d.intake := by rfl) (hp : e.ports = d.ports := by rfl) : RxStep d e :=
  { h with
    trackers := ht
    reqs := hr
    intake := hi
    ports := by rw [hp]
    queues := fun p => by rw [portAt_congr hp]; exact List.Subset.refl _ }

theorem RxStep.refl (d : Dev) : RxStep d d := .of_ports (.refl d)

theorem RxStep.trans (h : RxStep a b) (k : RxStep b c) : RxStep a c where
  toSameRx := h.toSameRx.trans k.toSameRx
  trackers := k.trackers.trans h.trackers
  reqs := k.reqs.trans h.reqs
  intake := k.intake.trans h.intake
  ports := k.ports.trans h.ports
  queues p := List.Subset.trans (h.queues p) (k.queues p)

theorem RxStep.ite {p : Prop} [Decidable p] (ha : RxStep d a) (hb : RxStep d b) : RxStep d (if p then a else b) := by
  split <;> assumption

/-- The same where a value comes with the device. -/
theorem RxStep.ite₂ {α : Type} {p : Prop} [Decidable p] {a b : α × Dev} (ha : RxStep d a.2) (hb : RxStep d b.2) :
    RxStep d (if p then a else b).2 := by
  split <;> assumption

theorem RxStep.foldl {α : Type} {f : Dev → α → Dev} (h : ∀ d x, RxStep d (f d x)) (l : List α) (d : Dev) : RxStep d (l.foldl f d) := by
  induction l generalizing d with
  | nil => exact .refl d
  | cons x xs ih => exact (h d x).trans (ih _)

theorem RxStep.foldl₂ {α β : Type} {f : β × Dev → α → β × Dev} (h : ∀ x a, RxStep x.2 (f x a).2) (l : List α) (x : β × Dev) :
    RxStep x.2 (l.foldl f x).2 := by
  induction l generalizing x with
  | nil => exact .refl _
  | cons a l ih => exact (h x a).trans (ih _)

/-- Each step of a fold is taken from a device that came from the first one, and the last one came from what it gave. -/
theorem RxStep.foldl_at {α : Type} {f : Dev → α → Dev} (h : ∀ d x, RxStep d (f d x)) {l : List α} {x : α} (hx : x ∈ l) (d : Dev) :
    ∃ d1, RxStep d d1 ∧ RxStep (f d1 x) (l.foldl f d) := by
  obtain ⟨l1, l2, rfl⟩ := List.append_of_mem hx
  refine ⟨l1.foldl f d, .foldl h l1 d, ?_⟩
  rw [List.foldl_append, List.foldl_cons]
  exact .foldl h l2 _

theorem Reports.rxStep (h : Reports d e) (hs : SameRx d e) : RxStep d e := .of_ports hs h.trackers h.reqs h.intake h.ports

end

section
variable (d : Dev)

theorem ctrInc_rxStep (a : Nat) : RxStep d (ctrInc d a) := (ctrInc_reports d a).rxStep (ctrInc_sameRx d a)

theorem detect_rxStep (k s c x y : Nat) : RxStep d (detect d k s c x y) := (detect_reports d _ _ _ _ _).rxStep (detect_sameRx d _ _ _ _ _)

theorem faultOp_rxStep (r : OpRef) (c st x y : Nat) : RxStep d (faultOp d r c st x y) :=
  (faultOp_reports d _ _ _ _ _).rxStep (faultOp_sameRx d _ _ _ _ _)

theorem mirrorPush_rxStep (rs : List MirrorRec) : RxStep d (mirrorPush d rs) := (mirrorPush_reports d rs).rxStep (mirrorPush_sameRx d rs)

theorem collect_rxStep : RxStep d (collect d) :=
  have h := collect_frees d
  .of_ports (collect_sameRx d) (by rw [h.weft]) h.reqs h.intake h.ports

/-! ## Packets sent -/

variable {d} in
theorem takePn_rxStep {sa : Nat} {r : Nat × Dev} (h : takePn d sa = some r) : RxStep d r.2 := by
  unfold takePn at h
  split at h
  · cases h
  next a ha =>
    split at h
    · cases h
      refine (RxStep.of_ports (usePn_sameRx ha)).trans (.ite ?_ (.refl _))
      exact RxStep.trans (b := { usePn d a with weft := { (usePn d a).weft with warned := sa :: (usePn d a).weft.warned } })
        (.of_ports .of_eq) (detect_rxStep _ _ _ _ _ _)
    · cases h

theorem takePn_of_usable {sa : Nat} (h : saUsable d sa = true) : ∃ r, takePn d sa = some r := by
  unfold takePn
  unfold saUsable at h
  split at h
  next a ha => simpa [saUsable, ha] using h
  · cases h

theorem queueFrame_rxStep (p : Nat) (f : PortFrame) : RxStep d (queueFrame d p f) :=
  { RxStep.refl d with
    toSameRx := .of_eq
    ports := by simp [queueFrame, setPort]
    queues := fun q => by
      by_cases hq : q = p
      · subst hq
        by_cases hlen : q < d.ports.length
        · rw [show portAt (queueFrame d q f) q = _ from portAt_setPort_same hlen]
          exact List.subset_append_left _ _
        · have hout : d.ports.set q { portAt d q with queue := (portAt d q).queue ++ [f] } = d.ports :=
            List.set_eq_of_length_le (Nat.le_of_not_lt hlen)
          rw [show portAt (queueFrame d q f) q = portAt d q from portAt_congr hout q]
          exact List.Subset.refl _
      · rw [show portAt (queueFrame d p f) q = _ from portAt_setPort_other hq]
        exact List.Subset.refl _ }

theorem mem_queueFrame {p : Nat} (f : PortFrame) (hp : p < d.ports.length) : f ∈ (portAt (queueFrame d p f) p).queue := by
  rw [show portAt (queueFrame d p f) p = _ from portAt_setPort_same hp]
  exact List.mem_append_right _ List.mem_cons_self

theorem sendPacket_rxStep (c : Conn) (path vc : Nat) (h : WeftHdr) (pl : Payload) (n : Nat) (key : Place)
    (dep : Option (Nat × U32)) (t : Option Nat) : RxStep d (sendPacket d c path vc h pl n key dep t) := by
  unfold sendPacket
  split
  · exact .refl d
  next pn e he =>
    extract_lets h' e2
    exact (takePn_rxStep he).trans ((queueFrame_rxStep e _ _).trans (ctrInc_rxStep e2 cTxPackets))

/-- A packet waits at the egress port of a path, its header as `P` says. -/
def packetAt (d : Dev) (c : Conn) (path : Nat) (P : WeftHdr → Prop) : Prop :=
  ∃ f ∈ (portAt d (c.port path)).queue, ∃ fh h pl, f.what = .packet fh h pl ∧ P h

variable {d} in
theorem packetAt.rxStep {e : Dev} {c : Conn} {path : Nat} {P : WeftHdr → Prop} (h : packetAt d c path P) (hs : RxStep d e) :
    packetAt e c path P := by
  obtain ⟨f, hf, hp⟩ := h
  exact ⟨f, hs.queues _ hf, hp⟩

theorem port_lt (c : Conn) (path : Nat) : c.port path < 8 := by
  unfold Conn.port bits
  rw [show 3 * path + 2 + 1 - 3 * path = 3 by omega]
  exact Nat.mod_lt _ (by norm_num)

/-- A packet sent under an association that can send waits at its port, its header completed (R512, R520). -/
theorem sendPacket_packetAt {P : WeftHdr → Prop} {c : Conn} {path vc : Nat} {h : WeftHdr} {pl : Payload} {n : Nat} {key : Place}
    {dep : Option (Nat × U32)} {t : Option Nat} (hsa : saUsable d c.saTx = true) (hports : d.ports.length = 8)
    (hP : ∀ sa pn conn path epoch, P { h with sa := sa, pn := pn, conn := conn, path := path, epoch := epoch }) :
    packetAt (sendPacket d c path vc h pl n key dep t) c path P := by
  obtain ⟨⟨pn, e⟩, he⟩ := takePn_of_usable d hsa
  have hlen : c.port path < e.ports.length := by
    rw [(takePn_rxStep he).ports, hports]
    exact port_lt c path
  unfold sendPacket
  rw [he]
  dsimp only
  refine packetAt.rxStep ?_ (ctrInc_rxStep _ cTxPackets)
  exact ⟨_, mem_queueFrame e _ hlen, _, _, _, rfl, hP _ _ _ _ _⟩

theorem respond_rxStep (c : Conn) (op : Nat) (m : U32) (t : Nat) (bs : Bytes) : RxStep d (respond d c op m t bs) :=
  .trans (.ite (ctrInc_rxStep _ _) (.refl d)) (sendPacket_rxStep _ _ _ _ _ _ _ _ _ _)

/-! ## Lines read -/

theorem setStack_rxStep (n : Nat) (u : StackUnit) : RxStep d (setStack d n u) := .of_ports .of_eq

theorem poisonRead_rxStep (a n : Nat) : RxStep d (poisonRead d a n).2 := by
  unfold poisonRead
  split
  · exact .refl d
  · exact ctrInc_rxStep _ _

theorem dieCorrected_rxStep (n die : Nat) : RxStep d (dieCorrected d n die) :=
  (ctrInc_rxStep d _).trans (.ite ((setStack_rxStep _ _ _).trans (detect_rxStep _ _ _ _ _ _)) (.refl _))

theorem lineUncorrectable_rxStep (n p l : Nat) (ss : List Nat) : RxStep d (lineUncorrectable d n p l ss) :=
  (setStack_rxStep _ _ _).trans (ctrInc_rxStep _ _)

theorem readLine_rxStep (n p l : Nat) (es : SymbolErrors) : RxStep d (readLine d n p l es).2 := by
  have hcount : RxStep d (ctrInc d (cStack n 0x100)) := ctrInc_rxStep _ _
  have hfree : RxStep d (freeNext d).2 := .of_ports .of_eq
  unfold readLine
  refine .ite₂ (ctrInc_rxStep _ _) (.ite₂ (.refl d) (.ite₂ ?_ (.ite₂ (lineUncorrectable_rxStep _ _ _ _ _)
    (.ite₂ (hfree.trans (lineUncorrectable_rxStep _ _ _ _ _)) (hfree.trans (ctrInc_rxStep _ _))))))
  split
  · exact hcount.trans (dieCorrected_rxStep _ _ _)
  · exact hcount

theorem readSasLine_rxStep (f l : Nat) (es : SymbolErrors) : RxStep d (readSasLine d f l es).2 := by
  unfold readSasLine
  extract_lets a
  split
  · exact .refl d
  next n p l' _ =>
    extract_lets r
    have hline : RxStep d r.2 := readLine_rxStep d n p l' es
    split
    · exact hline.trans (.of_ports .of_eq)
    · exact hline

theorem readLines_rxStep (found : List LineErr) : RxStep d (readLines found d).2 :=
  RxStep.foldl₂ (f := fun (r : Bool × Dev) (e : LineErr) =>
      (r.1 || (readSasLine r.2 e.frame e.line e.errs).1 == .bad, (readSasLine r.2 e.frame e.line e.errs).2))
    (fun r e => readSasLine_rxStep r.2 e.frame e.line e.errs) found (false, d)

theorem readRanges_rxStep (found : List LineErr) (rs : List (Nat × Nat)) : RxStep d (readRanges found rs d).2 := by
  induction rs generalizing d with
  | nil => exact .refl d
  | cons r rs ih =>
    have hp : RxStep d (poisonRead d r.1 r.2).2 := poisonRead_rxStep d r.1 r.2
    unfold readRanges
    extract_lets p q
    have hq : RxStep d q.2 := .ite₂ hp (hp.trans (readLines_rxStep _ _))
    exact .ite₂ hq (hq.trans (ih _))

/-! ## The data of a read (R526) -/

/-- Part `i` of what a READ_REQ asks for, read: whether it could not be, and the device after the read (R298, R299). -/
def replyRead (p : Pkt) (r : Region) (found : List LineErr) (d : Dev) (i : Nat) : Bool × Dev :=
  let x := if r.intakeTarget then (false, d)
    else readRanges found [(r.base + p.hdr.raddr + 4096 * i, min 4096 (p.hdr.mlen - 4096 * i))] d
  if x.1 then (true, faultOp x.2 { owner := r.owner, intake := false, remote := true } 0x410 St.stackUncorrectable 0 0) else x

/-- Part `i` read and sent. -/
def replyPart (c : Conn) (p : Pkt) (r : Region) (found : List LineErr) (d : Dev) (i : Nat) : Dev :=
  let a := r.base + p.hdr.raddr + 4096 * i
  let k := min 4096 (p.hdr.mlen - 4096 * i)
  let x := replyRead p r found d i
  sendPacket x.2 c (c.pathOf p.hdr.msn.toNat i) 2
    { op := 0x04, poison := x.1, msn := p.hdr.msn, mlen := p.hdr.mlen, offset := 4096 * i }
    (if x.1 then .poisoned k else .bytes (if r.intakeTarget then windowRead d a k else workRead x.2 a k)) k { arrival := now d } none none

theorem readReply_eq (c : Conn) (p : Pkt) (r : Region) (found : List LineErr) :
    readReply d c p r found = (List.range ((p.hdr.mlen + 4095) / 4096)).foldl (replyPart c p r found) d := rfl

theorem replyRead_rxStep (p : Pkt) (r : Region) (found : List LineErr) (i : Nat) : RxStep d (replyRead p r found d i).2 := by
  unfold replyRead
  extract_lets x
  have hx : RxStep d x.2 := .ite₂ (.refl d) (readRanges_rxStep _ _ _)
  exact .ite₂ (hx.trans (faultOp_rxStep _ _ _ _ _ _)) hx

theorem replyPart_rxStep (c : Conn) (p : Pkt) (r : Region) (found : List LineErr) (d : Dev) (i : Nat) :
    RxStep d (replyPart c p r found d i) :=
  (replyRead_rxStep d p r found i).trans (sendPacket_rxStep _ _ _ _ _ _ _ _ _ _)

theorem readReply_rxStep (c : Conn) (p : Pkt) (r : Region) (found : List LineErr) : RxStep d (readReply d c p r found) :=
  .foldl (replyPart_rxStep c p r found) _ d

/-- Where the association can still send afterwards, every part of a read was sent on its path (R526, R538). -/
theorem readReply_packetAt {c : Conn} {p : Pkt} {r : Region} {found : List LineErr} {i : Nat} (hports : d.ports.length = 8)
    (hsa : saUsable (readReply d c p r found) c.saTx = true) (hi : 4096 * i < p.hdr.mlen) :
    packetAt (readReply d c p r found) c (c.pathOf p.hdr.msn.toNat i)
      (fun h => h.op = 0x04 ∧ h.msn = p.hdr.msn ∧ h.offset = 4096 * i) := by
  rw [readReply_eq] at *
  have hmem : i ∈ List.range ((p.hdr.mlen + 4095) / 4096) := List.mem_range.mpr (by omega)
  obtain ⟨d1, hbefore, hafter⟩ := RxStep.foldl_at (replyPart_rxStep c p r found) hmem d
  have hread := replyRead_rxStep d1 p r found i
  have husable : saUsable (replyRead p r found d1 i).2 c.saTx = true :=
    (sendPacket_rxStep _ _ _ _ _ _ _ _ _ _).usable _ (hafter.usable _ hsa)
  refine packetAt.rxStep ?_ hafter
  unfold replyPart
  exact sendPacket_packetAt _ husable (hread.ports.trans (hbefore.ports.trans hports)) (fun _ _ _ _ _ => ⟨rfl, rfl, rfl⟩)

end

end Sys2Proof.Machine
end

section
/-! # Work memory written and frames freed (R225, R228) -/

namespace Sys2Proof.Machine

open Sys2Proof

/-- `e` came from `d` by mapping frames: the receivers' side and the bytes of WORK stay. -/
structure MapsFrames (d e : Dev) : Prop extends RxStep d e where
  work : e.sas.work = d.sas.work

/-- What is mapped in `e` was mapped in `d`, and reads as it read there. -/
def KeepsMapped (d e : Dev) : Prop :=
  ∀ x, (tget e.sas.frames (x / 4096)).isSome → (tget d.sas.frames (x / 4096)).isSome ∧ memRead 0 e.sas.work x = memRead 0 d.sas.work x

section
variable {a b c d e : Dev}

theorem MapsFrames.refl (d : Dev) : MapsFrames d d := ⟨.refl d, rfl⟩

theorem MapsFrames.trans (h : MapsFrames a b) (k : MapsFrames b c) : MapsFrames a c := ⟨h.toRxStep.trans k.toRxStep, k.work.trans h.work⟩

theorem MapsFrames.ite {p : Prop} [Decidable p] (ha : MapsFrames d a) (hb : MapsFrames d b) : MapsFrames d (if p then a else b) := by
  split <;> assumption

theorem ctrInc_mapsFrames (d : Dev) (n : Nat) : MapsFrames d (ctrInc d n) := ⟨ctrInc_rxStep d n, by simp⟩

theorem dropUnitSlot_rxStep (d : Dev) (f : Nat) : RxStep d (dropUnitSlot d f) :=
  have h := dropUnitSlot_frees d f
  .of_ports (dropUnitSlot_sameRx d f) (by rw [h.weft]) h.reqs h.intake h.ports

theorem mapStack_mapsFrames {f : Nat} (h : mapStack d f = some e) : MapsFrames d e := by
  unfold mapStack at h
  split at h
  · cases h
  next home s _ =>
    cases h
    have hcount : MapsFrames d (if home == s then d else ctrInc d (cStack home 0x120)) := .ite (.refl d) (ctrInc_mapsFrames _ _)
    have hdrop (x : Dev) : MapsFrames x (dropUnitSlot x f) := ⟨dropUnitSlot_rxStep x f, by rw [dropUnitSlot_sas]⟩
    exact hcount.trans ((hdrop _).trans ⟨.of_ports .of_eq, rfl⟩)

theorem mapFrame_mapsFrames {f : Nat} (h : mapFrame d f = some e) : MapsFrames d e := by
  unfold mapFrame at h
  split at h
  · exact mapStack_mapsFrames h
  · split at h
    · cases h; exact .refl _
    · split at h
      · cases h
      · obtain ⟨x, hx, rfl⟩ := Option.map_eq_some_iff.mp h
        exact (mapStack_mapsFrames hx).trans (MapsFrames.trans (b := { x with sas := { x.sas with bobFullTold := false } })
          ⟨.of_ports .of_eq, rfl⟩ (ctrInc_mapsFrames _ _))

theorem mapAll_mapsFrames {fs : List Nat} (h : mapAll d fs = some e) : MapsFrames d e := by
  induction fs generalizing d with
  | nil => cases h; exact .refl _
  | cons f fs ih =>
    unfold mapAll at h
    split at h
    · cases h
    next x hx => exact (mapFrame_mapsFrames hx).trans (ih h)

theorem unpoison_mapsFrames (d : Dev) (a n : Nat) : MapsFrames d (unpoison d a n) :=
  ⟨.foldl (fun _ _ => .of_ports .of_eq) _ d, congrArg Sas.work (unpoison_sas d a n)⟩

theorem sasMirror_rxStep (d : Dev) (o a : Nat) (bs : Bytes) : RxStep d (sasMirror d o a bs) :=
  .ite (.foldl (fun d _ => mirrorPush_rxStep d _) _ d) (.refl d)

/-- A write of WORK leaves the receivers' side, and of WORK every byte but its own (R225). -/
theorem workWrite_writes {o n : Nat} {bs : Bytes} (h : workWrite d o n bs = some e) :
    RxStep d e ∧ e.sas.work = memWriteN 0 d.sas.work n bs := by
  unfold workWrite at h
  split at h
  · cases h
  next x hx =>
    cases h
    have hmap : MapsFrames d (unpoison x n bs.length) := (mapAll_mapsFrames hx).trans (unpoison_mapsFrames _ _ _)
    refine ⟨hmap.toRxStep.trans (.trans ?_ (sasMirror_rxStep _ _ _ _)), ?_⟩
    · exact .of_ports .of_eq
    · rw [(sasMirror_reports _ _ _ _).sas, ← hmap.work]

theorem KeepsMapped.refl (d : Dev) : KeepsMapped d d := fun _ h => ⟨h, rfl⟩

theorem KeepsMapped.trans (h : KeepsMapped a b) (k : KeepsMapped b c) : KeepsMapped a c := fun x hx => by
  obtain ⟨hb, hxb⟩ := k x hx
  obtain ⟨ha, hxa⟩ := h x hb
  exact ⟨ha, hxb.trans hxa⟩

theorem KeepsMapped.of_sas (h : e.sas = d.sas) : KeepsMapped d e := fun x hx => by rw [h] at *; exact ⟨hx, rfl⟩

theorem KeepsMapped.ite {p : Prop} [Decidable p] (ha : KeepsMapped d a) (hb : KeepsMapped d b) : KeepsMapped d (if p then a else b) := by
  split <;> assumption

theorem KeepsMapped.foldl {α : Type} {f : Dev → α → Dev} (h : ∀ d x, KeepsMapped d (f d x)) (l : List α) (d : Dev) :
    KeepsMapped d (l.foldl f d) := by
  induction l generalizing d with
  | nil => exact .refl d
  | cons x xs ih => exact (h d x).trans (ih _)

/-- Freeing frames clears the bytes of the frames freed, and of no other (R228). -/
theorem unmapFrames_keepsMapped (d : Dev) (o : Nat) (fs : List Nat) : KeepsMapped d (unmapFrames d o fs) := by
  unfold unmapFrames
  extract_lets gs
  refine .ite (.refl d) ((KeepsMapped.foldl (fun d f => .of_sas (dropUnitSlot_sas d f)) gs d).trans
    (.trans ?_ (.of_sas (mirrorPush_reports _ _).sas)))
  intro x hx
  have hframe := tget_filter (gs.foldl dropUnitSlot d).sas.frames (fun n => !gs.contains n) (x / 4096)
  have hbyte := memRead_filter 0 (gs.foldl dropUnitSlot d).sas.work (fun n => !gs.contains (n / 4096)) x
  rw [hframe] at hx
  split at hx
  next hfree => exact ⟨hx, hbyte.trans (if_pos hfree)⟩
  · cases hx

theorem collect_keepsMapped (d : Dev) : KeepsMapped d (collect d) := by
  unfold collect
  refine .trans ?_ (.trans (.foldl (fun d b => .trans ?_ (unmapFrames_keepsMapped _ _ _)) _ _) (.foldl (fun d r => ?_) _ _))
  · exact fun _ h => ⟨h, rfl⟩
  · exact fun _ h => ⟨h, rfl⟩
  · exact .ite ((unmapFrames_keepsMapped d _ _).trans fun _ h => ⟨h, rfl⟩) (unmapFrames_keepsMapped _ _ _)

end

end Sys2Proof.Machine
end

section
/-! # Requests at the receiver (R531 to R536, R541, R544) -/

namespace Sys2Proof.Machine

open Sys2Proof

section
variable {s : State} {d e : Dev} {c : Conn} {p : Pkt} {t : Tracker} {m : U32} {n : Nat}

/-! ## Messages done at the receiver -/

/-- A message of a connection is complete at the receiver (R531). -/
def isDone (d : Dev) (n : Nat) (m : U32) : Prop := ∃ k, findConn d n = some k ∧ windowOfMsn k m = .done

theorem isDone.sameRx (h : isDone d n m) (hs : SameRx d e) : isDone e n m := by
  obtain ⟨k, hk, hdone⟩ := h
  obtain ⟨k', hk', hstate⟩ := hs.findConn hk
  obtain ⟨-, hbase, hrx, hsaid⟩ : k'.num = k.num ∧ k'.rxBase = k.rxBase ∧ k'.rxDone = k.rxDone ∧ k'.said = k.said := by
    simpa [rxState] using hstate
  refine ⟨k', hk', ?_⟩
  unfold windowOfMsn at *
  rwa [hbase, hrx, hsaid]

/-- Past a number that a base has passed, the next base is farther still. -/
theorem serialDiff_base_succ {b : U32} (h : -2 ^ 31 < serialDiff m b) : serialDiff m (b + 1) = serialDiff m b - 1 := by
  have hsub : m - (b + 1) = (m - b) - 1 := by bv_omega
  unfold serialDiff at *
  rw [hsub]
  generalize m - b = x at h
  rw [BitVec.toInt_eq_toNat_cond] at *
  rw [BitVec.toInt_eq_toNat_cond] at *
  have hx := x.isLt
  rw [BitVec.toNat_sub]
  rw [show (1 : U32).toNat = 1 from rfl]
  split_ifs at * <;> omega

/-- A message that is marked complete, or that the base has passed, stays so as the base moves on. -/
theorem advanceBase_done {f : Nat} {c : Conn} (hf : f < 2 ^ 31)
    (h : m ∈ c.rxDone ∨ (-2 ^ 31 + (f : Int) ≤ serialDiff m c.rxBase ∧ serialDiff m c.rxBase < 0)) :
    m ∈ (advanceBase f c).rxDone ∨ serialDiff m (advanceBase f c).rxBase < 0 := by
  induction f generalizing c with
  | zero => exact h.imp_right And.right
  | succ f ih =>
    unfold advanceBase
    split
    · refine ih (by omega) ?_
      dsimp only
      by_cases hm : m = c.rxBase
      · have hzero : serialDiff m c.rxBase = 0 := by rw [hm]; simp [serialDiff]
        rw [serialDiff_base_succ (by omega)]
        omega
      · rcases h with h | ⟨hlow, hneg⟩
        · exact .inl (List.mem_filter.mpr ⟨h, by simpa using hm⟩)
        · rw [serialDiff_base_succ (by omega)]
          omega
    · exact h.imp_right And.right

theorem windowOfMsn_done (h : m ∈ c.rxDone ∨ serialDiff m c.rxBase < 0) : windowOfMsn c m = .done := by
  unfold windowOfMsn
  rcases h with h | h <;> simp [h]

/-- A message marked complete is done (R532). -/
theorem markDone_isDone (hc : findConn d n = some c) (m : U32) : isDone (markDone d n m) n m := by
  have hnum : (advanceBase 65 { c with rxDone := m :: c.rxDone }).num = n :=
    (advanceBase_queue 65 { c with rxDone := m :: c.rxDone }).1.trans (show c.num = n from findConn_num hc)
  refine ⟨advanceBase 65 { c with rxDone := m :: c.rxDone }, ?_,
    windowOfMsn_done (advanceBase_done (by norm_num) (.inl List.mem_cons_self))⟩
  unfold markDone
  rw [hc]
  exact findConn_setConn_num hc hnum

/-! ## Trackers without a flush -/

/-- No tracker waits with a flush. -/
def noFlush (d : Dev) : Prop := ∀ t ∈ d.weft.trackers, t.op ≠ 0x05

theorem noFlush.setTracker (h : noFlush d) (ht : t.op ≠ 0x05) : noFlush (setTracker d t) := fun x hx => by
  rcases mem_replaceFirst_cases hx with rfl | hx
  · exact ht
  · exact h x hx

theorem noFlush.dropTracker (h : noFlush d) (t : Tracker) : noFlush (dropTracker d t) := fun x hx => h x (dropFirst_subset _ _ hx)

theorem noFlush.of_trackers (h : noFlush d) (he : e.weft.trackers = d.weft.trackers) : noFlush e := by unfold noFlush; rwa [he]

/-- Without a flush that waits, none is woken (R544). -/
theorem wakeFlushes_of_none (h : noFlush d) (n f : Nat) : wakeFlushes n f d = d := by
  cases f with
  | zero => rfl
  | succ f =>
    unfold wakeFlushes
    split
    · rfl
    next k _ =>
      have hnone : d.weft.trackers.find? (fun t => t.conn == n && t.op == 0x05 && t.msn == k.rxBase) = none :=
        List.find?_eq_none.mpr fun t ht => by simp [h t ht]
      rw [hnone]

/-- Where no generation entry waits, the end of a flush tells nobody (R49). -/
theorem flushesEnded_of_noGen {was : Dev} (h : ∀ r ∈ d.reqs.live, r.gen = false) : flushesEnded was d = d := by
  have hpeer (f : Nat) : peerFlushed d f = d := by
    have hnone : d.reqs.live.filter (fun r => r.gen) = [] := List.filter_eq_nil_iff.mpr fun r hr => by simp [h r hr]
    rw [peerFlushed, hnone]
    rfl
  unfold flushesEnded
  refine List.foldlRecOn (motive := fun x => x = d) _ _ rfl ?_
  rintro _ rfl t _
  split
  · split
    · rfl
    · exact hpeer _
  · rfl

/-! ## The answer to a complete message -/

/-- `e` came from `d` with a message complete, and with requests, intake and work memory as they were. -/
structure Completed (d : Dev) (n : Nat) (m : U32) (e : Dev) : Prop where
  done : isDone e n m
  reqs : e.reqs = d.reqs
  intake : e.intake = d.intake
  sas : e.sas = d.sas

/-- Marking a message changes the contexts alone. -/
theorem markDone_conns (d : Dev) (n : Nat) (m : U32) : ∃ cs, markDone d n m = { d with weft := { d.weft with conns := cs } } := by
  unfold markDone
  split <;> exact ⟨_, rfl⟩

/-- A message answered ST_OK is complete (R532). -/
theorem answerMsg_completed (hc : findConn d t.conn = some c) (hno : noFlush d) :
    Completed d t.conn t.msn (answerMsg d t St.ok true false) := by
  obtain ⟨k, hk, hdone⟩ : isDone (markDone (dropTracker d t) t.conn t.msn) t.conn t.msn := markDone_isDone (d := dropTracker d t) hc t.msn
  obtain ⟨cs, hcs⟩ := markDone_conns (dropTracker d t) t.conn t.msn
  generalize hd1 : markDone (dropTracker d t) t.conn t.msn = d1 at hk hcs
  have hanswer : RxStep d1 (respond (setConn d1 k) k 0x08 t.msn t.lastAt (ackBytes t.ts St.ok t.bytes)) :=
    RxStep.trans (b := setConn d1 k) (.of_ports (setConn_sameRx hk rfl)) (respond_rxStep _ _ _ _ _ _)
  have hno1 : noFlush d1 := (hno.dropTracker t).of_trackers (by rw [hcs])
  have hstep : RxStep d1 (answerMsg d t St.ok true false) := by
    unfold answerMsg
    simp only [if_true, hd1, hk, beq_self_eq_true]
    rwa [wakeFlushes_of_none (hno1.of_trackers hanswer.trackers)]
  have hsas := (answerMsg_answerStep d t St.ok true false).sas
  exact ⟨isDone.sameRx ⟨k, hk, hdone⟩ hstep.toSameRx, hstep.reqs.trans (by rw [hcs]; rfl), hstep.intake.trans (by rw [hcs]; rfl), hsas⟩

/-! ## A packet placed (R532, R533) -/

/-- The tracker after a packet was placed. -/
def placedTracker (d : Dev) (p : Pkt) (t : Tracker) (held : Bool) : Tracker := { t with
  placed := p.hdr.offset / 4096 :: t.placed
  bytes := t.bytes + (if p.hdr.op == 0x02 then min 4096 (t.mlen - p.hdr.offset) else p.payload.length)
  imm := if t.placed.isEmpty && p.hdr.immValid then some p.hdr.imm else t.imm
  poisoned := t.poisoned || p.hdr.poison
  ts := p.hdr.ts
  lastAt := now d
  path := p.hdr.path
  held := if held then (p.hdr.offset, p.payload) :: t.held else t.held }

/-- A far job's arrival is noted, with where it came in (R400). -/
def farNoted (d : Dev) (c : Conn) (p : Pkt) (t : Tracker) : Dev :=
  if p.hdr.op == 0x02 && t.svc == 0x0D then
    { d with weft := { d.weft with farIn := d.weft.farIn ++ [(c.num, t.port, t.arrival)] } }
  else d

/-- A packet placed leaves its message open, waiting for its service, or complete. -/
theorem notePlaced_eq (d : Dev) (c : Conn) (p : Pkt) (t : Tracker) (held : Bool) :
    notePlaced d c p t held =
      if (placedTracker d p t held).bytes < t.mlen then setTracker d (placedTracker d p t held)
      else if p.hdr.op == 0x02 && [0x05, 0x0B, 0x0C].contains t.svc then
        setTracker (setTracker d (placedTracker d p t held)) { placedTracker d p t held with awaiting := true }
      else answerMsg (deliverImm (farNoted (setTracker d (placedTracker d p t held)) c p (placedTracker d p t held)) c
        (placedTracker d p t held)) (placedTracker d p t held) St.ok true false := rfl

/-- The last packet of a SEND that its service answers leaves its tracker waiting (R543). -/
theorem notePlaced_awaits {held : Bool} (hfull : t.mlen ≤ (placedTracker d p t held).bytes) (hop : p.hdr.op = 0x02)
    (hsvc : [0x05, 0x0B, 0x0C].contains t.svc = true) :
    notePlaced d c p t held = setTracker (setTracker d (placedTracker d p t held)) { placedTracker d p t held with awaiting := true } := by
  rw [notePlaced_eq, if_neg (Nat.not_lt.mpr hfull), if_pos (by rw [hop]; exact hsvc)]

/-- The last packet of a message that no service answers, without immediate data, completes it (R532). -/
theorem notePlaced_completed {k : Conn} {held : Bool} (hfull : t.mlen ≤ (placedTracker d p t held).bytes) (himm : t.imm = none)
    (hp : p.hdr.immValid = false) (hsvc : (p.hdr.op == 0x02 && [0x05, 0x0B, 0x0C].contains t.svc) = false)
    (hc : findConn d t.conn = some k) (hno : noFlush d) (ht : t.op ≠ 0x05) :
    Completed d t.conn t.msn (notePlaced d c p t held) := by
  rw [notePlaced_eq, if_neg (Nat.not_lt.mpr hfull), hsvc, if_neg Bool.false_ne_true]
  generalize hx : placedTracker d p t held = x
  obtain ⟨hconn, hmsn, hop, hnone⟩ : x.conn = t.conn ∧ x.msn = t.msn ∧ x.op = t.op ∧ x.imm = none := by
    rw [← hx]
    exact ⟨rfl, rfl, rfl, by simp [placedTracker, hp, himm]⟩
  have hfar : (farNoted (setTracker d x) c p x).weft.conns = d.weft.conns ∧
      (farNoted (setTracker d x) c p x).weft.trackers = (setTracker d x).weft.trackers ∧ AnswerStep d (farNoted (setTracker d x) c p x) ∧
      (farNoted (setTracker d x) c p x).intake = d.intake := by
    unfold farNoted
    split <;> exact ⟨rfl, rfl, ⟨rfl, rfl⟩, rfl⟩
  obtain ⟨hconns, htrackers, hstep, hintake⟩ := hfar
  have hdeliver : deliverImm (farNoted (setTracker d x) c p x) c x = farNoted (setTracker d x) c p x := by
    unfold deliverImm
    rw [hnone]
  have hfound : findConn (farNoted (setTracker d x) c p x) x.conn = some k := by
    unfold findConn
    rw [hconns, hconn]
    exact hc
  have h := answerMsg_completed hfound ((hno.setTracker (hop ▸ ht)).of_trackers htrackers)
  rw [hdeliver]
  exact ⟨hconn ▸ hmsn ▸ h.done, h.reqs.trans hstep.reqs, h.intake.trans hintake, h.sas.trans hstep.sas⟩

/-! ## A packet that passes its checks within the window -/

/-- A packet of an operation that passes its checks is given to its meaning (R531). -/
theorem onPkt_runs {op : Nat} (f : Dev → Conn → Pkt → Dev) (hop : p.hdr.op = op) (hrx : rxCheck s.dev p = (some c, e)) :
    onPkt op f p s = .next (s.setDev (collect (f e c p))) := by
  simp only [onPkt, onDevC, onDev, hop, bne_self_eq_false, Bool.false_eq_true, if_false, hrx]

/-- The checks change associations, connections and counters, and no request, intake or work memory (R521, R531). -/
theorem rxCheck_counts (d : Dev) (p : Pkt) :
    ∃ x n, (rxCheck d p).2 = ctrInc x n ∧ x.reqs = d.reqs ∧ x.intake = d.intake ∧ x.sas = d.sas := by
  unfold rxCheck
  extract_lets h
  split
  · exact ⟨d, _, rfl, rfl, rfl, rfl⟩
  split
  · exact ⟨d, _, rfl, rfl, rfl, rfl⟩
  split
  · exact ⟨d, _, rfl, rfl, rfl, rfl⟩
  split
  · exact ⟨d, _, rfl, rfl, rfl, rfl⟩
  extract_lets x
  split
  · exact ⟨x, _, rfl, rfl, rfl, rfl⟩
  extract_lets k
  split
  · exact ⟨x, _, rfl, rfl, rfl, rfl⟩
  split
  · exact ⟨x, _, rfl, rfl, rfl, rfl⟩
  · exact ⟨setConn x k, _, rfl, rfl, rfl, rfl⟩

theorem rxCheck_leaves {o : Option Conn} (h : rxCheck d p = (o, e)) : e.reqs = d.reqs ∧ e.intake = d.intake ∧ e.sas = d.sas := by
  obtain ⟨x, n, hx, hreqs, hintake, hsas⟩ := rxCheck_counts d p
  obtain rfl : e = ctrInc x n := by rw [← hx, h]
  exact ⟨(ctrInc_reqs x n).trans hreqs, (ctrInc_intake x n).trans hintake, (ctrInc_sas x n).trans hsas⟩

/-- The tracker that a message's first packet takes (R534). -/
def newTracker (d : Dev) (c : Conn) (p : Pkt) : Tracker where
  conn := c.num
  msn := p.hdr.msn
  op := p.hdr.op
  mlen := p.hdr.mlen
  arrival := now d
  lastAt := now d
  cls := p.hdr.cls
  budget := p.hdr.budget
  raddr := p.hdr.raddr
  rkey := p.hdr.rkey
  svc := p.hdr.svc
  ts := p.hdr.ts
  path := p.hdr.path
  port := p.port

/-- A tracker after those that are taken. -/
def addTracker (d : Dev) (t : Tracker) : Dev := { d with weft := { d.weft with trackers := d.weft.trackers ++ [t] } }

theorem takeTracker_new (hnew : findTracker d c.num p.hdr.msn = none) (hroom : d.weft.trackers.length < 16384) :
    takeTracker d c p = (some (newTracker d c p), addTracker d (newTracker d c p)) := by
  unfold takeTracker
  rw [hnew]
  dsimp only
  rw [if_neg (by omega)]
  rfl

/-- The first packet of a message within the window is given to its operation with a new tracker (R531, R534). -/
theorem inWindow_new {f : Dev → Conn → Pkt → Tracker → Dev} (hwin : windowOfMsn c p.hdr.msn = .inside)
    (hnew : findTracker d c.num p.hdr.msn = none) (hroom : d.weft.trackers.length < 16384) :
    inWindow f d c p = f (addTracker d (newTracker d c p)) c p (newTracker d c p) := by
  unfold inWindow
  rw [hwin, takeTracker_new hnew hroom]
  rfl

theorem noFlush.addTracker (h : noFlush d) (ht : t.op ≠ 0x05) : noFlush (addTracker d t) := fun x hx => by
  rcases List.mem_append.mp hx with hx | hx
  · exact h x hx
  · rw [List.mem_singleton.mp hx]
    exact ht

/-! ## WRITE, SEND and READ_REQ -/

/-- A packet of one message of its connection, past its checks and within the window, the message's first one. -/
structure FirstPacket (s : State) (p : Pkt) (c : Conn) (e : Dev) : Prop where
  checked : rxCheck s.dev p = (some c, e)
  inside : windowOfMsn c p.hdr.msn = .inside
  quiet : noFlush e
  unknown : findTracker e c.num p.hdr.msn = none
  room : e.weft.trackers.length < 16384
  conn : findConn e c.num = some c

theorem FirstPacket.noFlush_add (h : FirstPacket s p c e) (hop : p.hdr.op ≠ 0x05) : noFlush (addTracker e (newTracker e c p)) :=
  h.quiet.addTracker hop

/-- What a completed message leaves, once the block has dropped what nothing reads any more. -/
theorem Completed.collected {x : Dev} (h : Completed x n m d) (hreqs : x.reqs = s.dev.reqs) (hintake : x.intake = s.dev.intake) :
    isDone (collect d) n m ∧ (collect d).reqs = s.dev.reqs ∧ (collect d).intake = s.dev.intake :=
  ⟨h.done.sameRx (collect_sameRx d), (collect_frees d).reqs.trans (h.reqs.trans hreqs),
    (collect_frees d).intake.trans (h.intake.trans hintake)⟩

/-- A WRITE of one packet is placed where its key says. -/
theorem execWrite_places {r : Region} {e2 : Dev} (h : FirstPacket s p c e) (hop : p.hdr.op = 0x01) (hoff : p.hdr.offset = 0)
    (hpoison : p.hdr.poison = false) (himm : p.hdr.immValid = false)
    (hkey : keyCheck e c p.hdr.rkey p.hdr.raddr p.payload.length true = .inl r) (hwork : r.intakeTarget = false)
    (hput : workWrite (addTracker e (newTracker e c p)) r.owner (r.base + p.hdr.raddr) p.payload = some e2) :
    exec (.write p) s = .next (s.setDev (collect (notePlaced e2 c p (newTracker e c p) false))) := by
  have hkey' : keyCheck (addTracker e (newTracker e c p)) c p.hdr.rkey p.hdr.raddr p.payload.length true = .inl r := hkey
  show execWrite p s = _
  unfold execWrite
  rw [onPkt_runs _ hop h.checked]
  dsimp only
  rw [flushesEnded_of_none h.quiet, inWindow_new h.inside h.unknown h.room]
  simp only [himm, hoff, Nat.add_zero, hkey', regionPut, hwork, hput, hpoison, Bool.and_false, Bool.false_eq_true, if_false,
    Bool.not_false, if_true]
  rfl

/-- A SEND that the connection's service takes is noted with all its bytes. -/
theorem execSend_takes (h : FirstPacket s p c e) (hop : p.hdr.op = 0x02) (hservice : c.service = true) (hlow : 1 ≤ p.hdr.svc)
    (hhigh : p.hdr.svc ≤ 0x11) :
    exec (.send p) s = .next (s.setDev (collect (notePlaced (addTracker e (newTracker e c p)) c
      { p with hdr := { p.hdr with offset := 0 } }
      { newTracker e c p with bytes := p.hdr.mlen - min 4096 p.hdr.mlen } false))) := by
  show execSend p s = _
  unfold execSend
  rw [onPkt_runs _ hop h.checked]
  dsimp only
  have hsvc : (!c.service || (newTracker e c p).svc == 0 || decide (0x11 < (newTracker e c p).svc)) = false := by
    show (!c.service || p.hdr.svc == 0 || decide (0x11 < p.hdr.svc)) = false
    have hzero : p.hdr.svc ≠ 0 := by omega
    simp [hservice, hzero, hhigh]
  rw [flushesEnded_of_none h.quiet, inWindow_new h.inside h.unknown h.room, if_neg (by simp [newTracker]), hsvc]
  rfl

/-- A READ_REQ is served, and its message marked complete. -/
theorem execReadReq_serves {r : Region} {found : List LineErr} (h : FirstPacket s p c e) (hop : p.hdr.op = 0x03)
    (hlen : p.hdr.mlen ≤ 65536) (hkey : keyCheck e c p.hdr.rkey p.hdr.raddr p.hdr.mlen false = .inl r) :
    exec (.readReq (p, found)) s = .next (s.setDev (collect (markDone
      (dropTracker (readReply (addTracker e (newTracker e c p)) c p r found) (newTracker e c p)) c.num p.hdr.msn))) := by
  have hkey' : keyCheck (addTracker e (newTracker e c p)) c p.hdr.rkey p.hdr.raddr p.hdr.mlen false = .inl r := hkey
  have hreply := readReply_rxStep (addTracker e (newTracker e c p)) c p r found
  obtain ⟨cs, hcs⟩ := markDone_conns (dropTracker (readReply (addTracker e (newTracker e c p)) c p r found) (newTracker e c p)) c.num p.hdr.msn
  have hno : noFlush (markDone (dropTracker (readReply (addTracker e (newTracker e c p)) c p r found) (newTracker e c p)) c.num
      p.hdr.msn) :=
    (((h.noFlush_add (by rw [hop]; decide)).of_trackers hreply.trackers).dropTracker _).of_trackers (by rw [hcs])
  show execReadReq (p, found) s = _
  unfold execReadReq
  rw [onPkt_runs _ hop h.checked]
  dsimp only
  rw [if_neg (by rw [h.inside]; simp), flushesEnded_of_none h.quiet, inWindow_new h.inside h.unknown h.room]
  rw [if_neg (by omega), hkey']
  dsimp only
  rw [wakeFlushes_of_none hno]

/-- A byte of a range written reads as written. -/
theorem memRead_writeN_inside {b : Byte} {mem : Mem} {a i : Nat} {bs : Bytes} (hi : i < bs.length) :
    memRead b (memWriteN b mem a bs) (a + i) = bs.getD i 0 := by
  rw [memRead_writeN, if_pos (by omega), Nat.add_sub_cancel_left]
  simp [hi]

theorem write_completes {r : Region} {e2 : Dev} (h : FirstPacket s p c e) (hop : p.hdr.op = 0x01) (hlen : p.hdr.mlen = p.payload.length)
    (hoff : p.hdr.offset = 0) (hpoison : p.hdr.poison = false) (himm : p.hdr.immValid = false)
    (hkey : keyCheck e c p.hdr.rkey p.hdr.raddr p.payload.length true = .inl r) (hwork : r.intakeTarget = false)
    (hput : workWrite (takeTracker e c p).2 r.owner (r.base + p.hdr.raddr) p.payload = some e2) :
    Completes (.write p) s (fun d => isDone d c.num p.hdr.msn ∧
      (∀ i, i < p.payload.length → (tget d.sas.frames ((r.base + p.hdr.raddr + i) / 4096)).isSome →
        memRead 0 d.sas.work (r.base + p.hdr.raddr + i) = p.payload.getD i 0) ∧
      (∀ x, (x < r.base + p.hdr.raddr ∨ r.base + p.hdr.raddr + p.payload.length ≤ x) → (tget d.sas.frames (x / 4096)).isSome →
        memRead 0 d.sas.work x = memRead 0 s.dev.sas.work x) ∧ d.reqs = s.dev.reqs ∧ d.intake = s.dev.intake) := by
  rw [takeTracker_new h.unknown h.room] at hput
  have hop5 : p.hdr.op ≠ 0x05 := by rw [hop]; decide
  obtain ⟨hreqs, hintake, hsas⟩ := rxCheck_leaves h.checked
  obtain ⟨hstep, hbytes⟩ := workWrite_writes hput
  obtain ⟨k, hk, -⟩ := hstep.findConn (show findConn (addTracker e (newTracker e c p)) c.num = some c from h.conn)
  have hplaced : Completed e2 c.num p.hdr.msn (notePlaced e2 c p (newTracker e c p) false) :=
    notePlaced_completed (t := newTracker e c p) (by simp [placedTracker, newTracker, hop, hlen]) rfl himm (by simp [hop]) hk
      ((h.noFlush_add hop5).of_trackers hstep.trackers) hop5
  obtain ⟨hdone, hreqs', hintake'⟩ := hplaced.collected (hstep.reqs.trans hreqs) (hstep.intake.trans hintake)
  have hkept (x : Nat) (hx : (tget (collect (notePlaced e2 c p (newTracker e c p) false)).sas.frames (x / 4096)).isSome) :
      memRead 0 (collect (notePlaced e2 c p (newTracker e c p) false)).sas.work x =
        memRead 0 (memWriteN 0 s.dev.sas.work (r.base + p.hdr.raddr) p.payload) x := by
    have hwritten : e2.sas.work = memWriteN 0 s.dev.sas.work (r.base + p.hdr.raddr) p.payload := by rw [hbytes, ← hsas]; rfl
    rw [(collect_keepsMapped _ x hx).2, hplaced.sas, hwritten]
  refine ⟨_, execWrite_places h hop hoff hpoison himm hkey hwork hput, hdone, fun i hi hx => ?_, fun x hout hx => ?_, hreqs', hintake'⟩
  · exact (hkept _ hx).trans (memRead_writeN_inside hi)
  · exact (hkept x hx).trans (memRead_writeN_outside hout)

/-- A tracker stored where one of its message stood is there. -/
theorem mem_setTracker (h : ∃ x ∈ d.weft.trackers, x.conn = t.conn ∧ x.msn = t.msn) : t ∈ (setTracker d t).weft.trackers := by
  obtain ⟨x, hx, hconn, hmsn⟩ := h
  exact List.mem_of_find?_eq_some (find?_replaceFirst (p := fun y => y.conn == t.conn && y.msn == t.msn)
    ⟨x, hx, by simp [hconn, hmsn]⟩ (by simp))

theorem send_completes (h : FirstPacket s p c e) (hop : p.hdr.op = 0x02) (hservice : c.service = true) (himm : p.hdr.immValid = false)
    (hlow : 1 ≤ p.hdr.svc) (hhigh : p.hdr.svc ≤ 0x11) :
    Completes (.send p) s (fun d => d.reqs = s.dev.reqs ∧
      if p.hdr.svc ∈ [0x05, 0x0B, 0x0C] then ∃ t ∈ d.weft.trackers, t.conn = c.num ∧ t.msn = p.hdr.msn ∧ t.awaiting
      else isDone d c.num p.hdr.msn) := by
  have hop5 : p.hdr.op ≠ 0x05 := by rw [hop]; decide
  obtain ⟨hreqs, hintake, -⟩ := rxCheck_leaves h.checked
  refine ⟨_, execSend_takes h hop hservice hlow hhigh, ?_⟩
  generalize hp' : ({ p with hdr := { p.hdr with offset := 0 } } : Pkt) = p'
  generalize ht' : ({ newTracker e c p with bytes := p.hdr.mlen - min 4096 p.hdr.mlen } : Tracker) = t'
  have hop' : p'.hdr.op = 0x02 := by rw [← hp']; exact hop
  have hfull : t'.mlen ≤ (placedTracker (addTracker e (newTracker e c p)) p' t' false).bytes := by
    rw [← hp', ← ht']
    simp only [placedTracker, newTracker, hop, beq_self_eq_true, if_true]
    omega
  obtain ⟨hconn, hmsn, hsvc⟩ : t'.conn = c.num ∧ t'.msn = p.hdr.msn ∧ t'.svc = p.hdr.svc := by
    rw [← ht']
    exact ⟨rfl, rfl, rfl⟩
  split
  next hwaits =>
    rw [notePlaced_awaits hfull hop' (by rw [hsvc]; simpa using hwaits)]
    refine ⟨(collect_frees _).reqs.trans hreqs, { placedTracker (addTracker e (newTracker e c p)) p' t' false with awaiting := true },
      ?_, hconn, hmsn, rfl⟩
    rw [(collect_frees _).weft]
    refine mem_setTracker ⟨placedTracker (addTracker e (newTracker e c p)) p' t' false, mem_setTracker ?_, rfl, rfl⟩
    exact ⟨newTracker e c p, List.mem_append_right _ List.mem_cons_self, hconn.symm, hmsn.symm⟩
  next hends =>
    have hplaced : Completed (addTracker e (newTracker e c p)) t'.conn t'.msn
        (notePlaced (addTracker e (newTracker e c p)) c p' t' false) :=
      notePlaced_completed hfull (by rw [← ht']; rfl) (by rw [← hp']; exact himm)
        (by rw [hop', hsvc]; simpa using hends) (k := c) (by rw [hconn]; exact h.conn) (h.noFlush_add hop5) (by rw [← ht']; exact hop5)
    obtain ⟨hdone, hreqs', -⟩ := hplaced.collected hreqs hintake
    rw [hconn, hmsn] at hdone
    exact ⟨hreqs', hdone⟩

theorem readReq_completes {r : Region} {found : List LineErr} (h : FirstPacket s p c e) (hop : p.hdr.op = 0x03)
    (hlen : p.hdr.mlen ≤ 65536) (hkey : keyCheck e c p.hdr.rkey p.hdr.raddr p.hdr.mlen false = .inl r) :
    Completes (.readReq (p, found)) s (fun d => isDone d c.num p.hdr.msn ∧ d.reqs = s.dev.reqs ∧
      (e.ports.length = 8 → saUsable d c.saTx → ∀ i, 4096 * i < p.hdr.mlen →
        packetAt d c (c.pathOf p.hdr.msn.toNat i) (fun h => h.op = 0x04 ∧ h.msn = p.hdr.msn ∧ h.offset = 4096 * i))) := by
  refine ⟨_, execReadReq_serves h hop hlen hkey, ?_⟩
  obtain ⟨hreqs, -, -⟩ := rxCheck_leaves h.checked
  have hreply := readReply_rxStep (addTracker e (newTracker e c p)) c p r found
  obtain ⟨k, hk, -⟩ := hreply.findConn (show findConn (addTracker e (newTracker e c p)) c.num = some c from h.conn)
  have hpackets := fun hports hsa i => readReply_packetAt (addTracker e (newTracker e c p)) (c := c) (p := p) (r := r) (found := found)
    (i := i) hports hsa
  generalize readReply (addTracker e (newTracker e c p)) c p r found = x at *
  have hdone := markDone_isDone (d := dropTracker x (newTracker e c p)) hk p.hdr.msn
  obtain ⟨cs, hcs⟩ := markDone_conns (dropTracker x (newTracker e c p)) c.num p.hdr.msn
  rw [hcs] at hdone ⊢
  have hcollect := collect_rxStep { dropTracker x (newTracker e c p) with
    weft := { (dropTracker x (newTracker e c p)).weft with conns := cs } }
  refine ⟨hdone.sameRx hcollect.toSameRx, hcollect.reqs.trans (hreply.reqs.trans hreqs), fun hports hsa i hi => ?_⟩
  refine packetAt.rxStep ?_ hcollect
  exact hpackets hports (hcollect.usable _ hsa) i hi

/-! ## FLUSH and PROBE (R535, R544) -/

/-- What was put at the end of a list without its like is what a test drops first. -/
theorem dropFirst_append_new {α : Type} {q : α → Bool} {l : List α} {x : α} (h : ∀ y ∈ l, q y = false) (hx : q x = true) :
    dropFirst q (l ++ [x]) = l := by
  induction l with
  | nil => simp [dropFirst, hx]
  | cons y ys ih =>
    simp only [List.cons_append, dropFirst, h y List.mem_cons_self, Bool.false_eq_true, if_false]
    rw [ih (fun z hz => h z (List.mem_cons_of_mem _ hz))]

/-- The tracker of a new message is dropped again and leaves the others. -/
theorem dropTracker_addTracker (h : findTracker e t.conn t.msn = none) :
    (dropTracker (addTracker e t) t).weft.trackers = e.weft.trackers :=
  dropFirst_append_new (fun y hy => by simpa using List.find?_eq_none.mp h y hy) (by simp)

/-- A flush of the lowest number that is not complete is answered at once, and its message is complete (R544). -/
theorem wakeFlushes_completes {f : Nat} (hc : findConn d n = some c) (ht : d.weft.trackers.find?
      (fun t => t.conn == n && t.op == 0x05 && t.msn == c.rxBase) = some t) (hno : noFlush (dropTracker d t)) :
    isDone (wakeFlushes n (f + 1) d) n c.rxBase ∧ (wakeFlushes n (f + 1) d).reqs = d.reqs := by
  have hmsn : t.msn = c.rxBase := by
    have hpick := List.find?_some ht
    simp only [Bool.and_eq_true, beq_iff_eq] at hpick
    exact hpick.2
  refine ⟨?_, (wakeFlushes_answerStep d n (f + 1)).reqs⟩
  unfold wakeFlushes
  rw [hc]
  dsimp only
  rw [ht]
  dsimp only
  generalize hk : ({ c with
    rxBad := c.rxBad.filter (fun x => 0 < serialDiff x t.msn)
    said := if c.rxBad.any (fun x => serialDiff x t.msn < 0) then keepSaid c (t.msn, St.weftFailed) else c.said } : Conn) = k
  have hfound : c.num = n := findConn_num hc
  have hnum : k.num = n := by rw [← hk]; exact hfound
  have hstored : findConn (setConn (dropTracker d t) k) n = some k := findConn_setConn_num (d := dropTracker d t) hc hnum
  obtain ⟨k', hk', hdone⟩ := markDone_isDone hstored t.msn
  obtain ⟨cs, hcs⟩ := markDone_conns (setConn (dropTracker d t) k) n t.msn
  have hno' : noFlush (markDone (setConn (dropTracker d t) k) n t.msn) := hno.of_trackers (by rw [hcs]; rfl)
  rw [hk']
  dsimp only
  have hanswer := respond_rxStep (markDone (setConn (dropTracker d t) k) n t.msn) k' 0x08 t.msn t.lastAt
    (ackBytes t.ts (if c.rxBad.any (fun x => serialDiff x t.msn < 0) then St.weftFailed else St.ok) 0)
  rw [wakeFlushes_of_none (hno'.of_trackers hanswer.trackers), ← hmsn]
  exact isDone.sameRx ⟨k', hk', hdone⟩ hanswer.toSameRx

theorem flushPacket_completes (h : FirstPacket s p c e) (hop : p.hdr.op = 0x05) (hmsn : p.hdr.msn = c.rxBase)
    (hgen : ∀ r ∈ e.reqs.live, r.gen = false) :
    Completes (.flushPacket p) s (fun d => isDone d c.num p.hdr.msn ∧ d.reqs = s.dev.reqs) := by
  obtain ⟨hreqs, -, -⟩ := rxCheck_leaves h.checked
  have hfind : (addTracker e (newTracker e c p)).weft.trackers.find? (fun t => t.conn == c.num && t.op == 0x05 && t.msn == c.rxBase) =
      some (newTracker e c p) := by
    have hnone : e.weft.trackers.find? (fun t => t.conn == c.num && t.op == 0x05 && t.msn == c.rxBase) = none :=
      List.find?_eq_none.mpr fun t ht => by simp [h.quiet t ht]
    show (e.weft.trackers ++ [newTracker e c p]).find? _ = _
    rw [List.find?_append, hnone]
    simp [newTracker, hop, hmsn]
  obtain ⟨hdone, hreqs'⟩ := wakeFlushes_completes (f := (addTracker e (newTracker e c p)).weft.trackers.length)
    (show findConn (addTracker e (newTracker e c p)) c.num = some c from h.conn) hfind
    (h.quiet.of_trackers (dropTracker_addTracker h.unknown))
  have hexec : exec (.flushPacket p) s = .next (s.setDev (collect (wakeFlushes c.num
      ((addTracker e (newTracker e c p)).weft.trackers.length + 1) (addTracker e (newTracker e c p))))) := by
    show execFlushPacket p s = _
    unfold execFlushPacket
    rw [onPkt_runs _ hop h.checked]
    rw [h.inside, takeTracker_new h.unknown h.room]
    dsimp only
    rw [flushesEnded_of_noGen (by rw [hreqs']; exact hgen)]
  refine ⟨_, hexec, ?_, (collect_frees _).reqs.trans (hreqs'.trans hreqs)⟩
  rw [hmsn]
  exact hdone.sameRx (collect_sameRx _)

/-- A response other than a NAK waits at the egress port of its message's first path (R541). -/
theorem respond_packetAt {op : Nat} {at_ : Nat} {bs : Bytes} (hop : (op == 0x0A) = false) (hsa : saUsable d c.saTx = true)
    (hports : d.ports.length = 8) :
    packetAt (respond d c op m at_ bs) c (c.pathOf m.toNat 0) (fun h => h.op = op ∧ h.msn = m) := by
  unfold respond
  rw [hop]
  exact sendPacket_packetAt d hsa hports (fun _ _ _ _ _ => ⟨rfl, rfl⟩)

theorem probe_completes (h : FirstPacket s p c e) (hop : p.hdr.op = 0x0B) (hsa : saUsable e c.saTx = true) (hports : e.ports.length = 8) :
    Completes (.probe p) s (fun d => packetAt d c (c.pathOf p.hdr.msn.toNat 0) (fun h => h.op = 0x09 ∧ h.msn = p.hdr.msn)) := by
  have hexec : exec (.probe p) s =
      .next (s.setDev (collect (respond e c 0x09 p.hdr.msn (now e) (sackBytes p.hdr.ts 0 [])))) := by
    show execProbe p s = _
    unfold execProbe
    rw [onPkt_runs _ hop h.checked]
    rw [h.inside, h.unknown]
  exact ⟨_, hexec, (respond_packetAt rfl hsa hports).rxStep (collect_rxStep _)⟩

end

/-- Settles O29: each packet of the statement is its message's first one within the window (`FirstPacket`). A message answered or served is
marked complete (`markDone_isDone`), and what follows leaves what its receiver goes by (`RxStep`); a response waits at its port. Which SENDs wait for their service is the model's
choice: log entry 18. -/
theorem receiverCommandsComplete : Obligations.ReceiverCommandsComplete := by
  unfold Obligations.ReceiverCommandsComplete
  intro s p c e hchecked hinside hquiet hunknown hroom hconn
  have h : FirstPacket s p c e := ⟨hchecked, hinside, hquiet, hunknown, hroom, hconn⟩
  exact ⟨fun _ _ => write_completes h, send_completes h, fun _ _ => readReq_completes h, flushPacket_completes h, probe_completes h⟩

end Sys2Proof.Machine
end

section
/-! # Steps, the reset state and the resets of the device (R718) -/

namespace Sys2Proof.Machine

open Sys2Proof

/-- Settles O1: `step` looks at the front of the queue alone. -/
theorem stepRunsTheFrontCommand : Obligations.StepRunsTheFrontCommand := by
  unfold Obligations.StepRunsTheFrontCommand
  intro c rest s h
  rw [step, h]

/-- Settles O3: the reset state is every table empty and every register at its reset value. -/
theorem resetMeetsTheInvariants : Obligations.ResetMeetsTheInvariants := by
  unfold Obligations.ResetMeetsTheInvariants
  exact ⟨rfl, rfl, rfl, rfl, shapeHeld_iff.mpr ⟨shaped_default, rfl⟩, rfl, rfl, rfl, rfl, rfl, rfl, rfl, rfl⟩

/-! ## Check values (R573, R575) -/

/-- Bytes through the register one part after the other are the bytes of both (R575). -/
theorem crcRun_append {k : CrcKind} {r : Nat} {x y : Bytes} : crcRun k (crcRun k r x) y = crcRun k r (x ++ y) :=
  List.foldl_append.symm

/-- Settles O4: the check values are computed; a register run over two parts is run over both. -/
theorem checksGiveTheirCrcs : Obligations.ChecksGiveTheirCrcs := by
  unfold Obligations.ChecksGiveTheirCrcs
  extract_lets nine row
  have h0 : row 0 32 0x1EDC6F41 0xFFFFFFFF true 0xFFFFFFFF 0xE3069283 := ⟨rfl, rfl, rfl, rfl, rfl, by decide +kernel⟩
  have h1 : row 1 32 0x04C11DB7 0xFFFFFFFF true 0xFFFFFFFF 0xCBF43926 := ⟨rfl, rfl, rfl, rfl, rfl, by decide +kernel⟩
  have h2 : row 2 64 0x42F0E1EBA9EA3693 0 false 0 0x6C40DF5F0B497347 := ⟨rfl, rfl, rfl, rfl, rfl, by decide +kernel⟩
  have h3 : row 3 16 0x8BB7 0 false 0 0xD0DB := ⟨rfl, rfl, rfl, rfl, rfl, by decide +kernel⟩
  exact ⟨h0, h1, h2, h3, fun k x y => congrArg (crcFinal k) crcRun_append⟩

/-! ## The three sources of a reset (R716) -/

/-- A reset of the device keeps what was sent, the draws and, but for PWR_GOOD, THERMTRIP_N. -/
theorem deviceReset_eq {d : Dev} {trip : Bool} :
    deviceReset d trip = { out := d.out, free := d.free, mon := { thermtrip := d.mon.thermtrip && trip } } := rfl

/-- A SYSTEM_RESET counts from 1 µs on (R716). -/
theorem execSystemReset_eq {s : State} {ns : Nat} :
    execSystemReset ns s = .next (s.setDev (if 1000 ≤ ns then deviceReset s.dev true else s.dev)) := rfl

/-- Settles O8: `deviceReset` keeps what was sent, the draws and, but for PWR_GOOD, THERMTRIP_N; a short SYSTEM_RESET is none. -/
theorem deviceResetsReturnTheResetState : Obligations.DeviceResetsReturnTheResetState := by
  unfold Obligations.DeviceResetsReturnTheResetState
  intro s after
  have hreset (trip : Bool) : deviceReset s.dev trip = after (s.dev.mon.thermtrip && trip) := rfl
  have htrip : deviceReset s.dev true = after s.dev.mon.thermtrip := by rw [hreset, Bool.and_true]
  refine ⟨⟨_, rfl, (hreset false).trans (by rw [Bool.and_false])⟩, fun ns hns => ⟨_, execSystemReset_eq, ?_⟩,
    fun ns hns => ⟨_, execSystemReset_eq, if_neg (Nat.not_le.mpr hns)⟩, ⟨_, rfl, htrip⟩⟩
  rw [if_pos hns, htrip]

end Sys2Proof.Machine
end

section
/-! # The management plane (R729, R764 to R769) -/

namespace Sys2Proof.Machine

open Sys2Proof

section
variable {s : State}

/-- While the firmware runs, a command of the management plane does what its meaning says. -/
theorem onRot_next {f : State → Dev} (h : rotRuns s.dev = true) : onRot f s = .next (s.setDev (f s)) := by
  rw [onRot, if_pos h]

/-! ## Register reads (R760, R765) -/

/-- A register of a file that answers is read live. -/
theorem readOne_live {a : Nat} (h : fileAnswers s.dev = true) : readOne s a = (u64 (pfReg s a), true) := by
  rw [readOne, if_pos (by rw [h, Bool.or_true])]

/-- A register read sends one message at most. -/
theorem regRead_emits {inst off n : Nat} :
    ∃ o : List Out, exec (.regRead inst off n) s = .next { s with dev := { s.dev with out := o ++ s.dev.out } } := by
  unfold exec execRegRead onRot
  dsimp only
  split
  · split
    · exact ⟨[_], rfl⟩
    · exact ⟨[_], rfl⟩
  · exact ⟨[], rfl⟩

/-- Settles O5: a read answers by `emit` alone, and the registers of a file that answers are all live. -/
theorem registerReadsChangeNothing : Obligations.RegisterReadsChangeNothing := by
  unfold Obligations.RegisterReadsChangeNothing
  refine fun s inst off n => ⟨regRead_emits, fun hrot hfile hoff h1 h32 hend => ?_⟩
  have hfine : (off % 8 != 0 || n == 0 || decide (32 < n) || decide (0x7FFFF8 < off + 8 * (n - 1))) = false := by
    simp; omega
  have hlive : (fun i => readOne s (off + 8 * i)) = fun i => (u64 (pfReg s (off + 8 * i)), true) :=
    funext fun i => readOne_live hfile
  apply Exists.intro
  refine ⟨_, (show execRegRead inst off n s = _ from onRot_next hrot), ?_⟩
  dsimp only
  rw [hfine, if_neg Bool.false_ne_true, hlive, if_pos (by simp), List.map_map]
  rfl

/-! ## Key slots (R729) -/

theorem slotProgram_eq {i k : Nat} {dg : Bytes} (hrot : rotRuns s.dev = true) : exec (.slotProgram i k dg) s =
    .next (let t := s.setDev (emit s.dev (.mctp 0x83 i (slotStatus s.fuses k) 0 0 []))
      if slotStatus s.fuses k == St.ok then { t with fuses := { t.fuses with slots := t.fuses.slots.set k (some (fit dg 32)) } } else t) := by
  show execSlotProgram i k dg s = _
  rw [execSlotProgram, if_pos hrot]

theorem slotStatus_empty {f : Fuses} {k : Nat} (hk : k < 4) (hd : f.deployed = false) (he : f.slots[k]? = some none) :
    slotStatus f k = St.ok := by
  rw [slotStatus, if_neg (by omega), if_neg (by simp [hd, List.getD_eq_getElem?_getD, he])]

theorem slotStatus_taken {f : Fuses} {k : Nat} (hk : k < 4) (h : f.deployed = true ∨ ∃ x, f.slots[k]? = some (some x)) :
    slotStatus f k = St.access := by
  rw [slotStatus, if_neg (by omega), if_pos]
  rcases h with h | ⟨x, h⟩
  · simp [h]
  · simp [List.getD_eq_getElem?_getD, h]

/-! ## Sensors (R768) -/

theorem stateReading_completes {i v : Nat} (hrot : rotRuns s.dev = true) (hv : stateReading s.dev i = some v) :
    Completes (.getStateSensorReadings i) s (fun d => d = { s.dev with out := .pldm 0x221 [0, 1, v] :: s.dev.out }) := by
  refine ⟨_, rfl, ?_⟩
  obtain ⟨hin, hfw⟩ := (Bool.and_eq_true ..).mp hrot
  have hserved : (s.dev.boot.phase == .inReset || (s.dev.boot.phase == .firmwareFailed && i != 103)) = false := by
    simp_all [bne]
  beta_reduce
  rw [hserved, if_neg Bool.false_ne_true, hv]
  rfl

/-! ## Events (R769) -/

theorem eventAcknowledged_completes (hrot : rotRuns s.dev = true) (hout : s.dev.mon.outstanding.isSome = true)
    (hw : s.dev.mon.waiting = []) :
    Completes .platformEventAcknowledged s (fun d => d.mon.outstanding = none ∧ d.out = s.dev.out) := by
  refine ⟨_, (show execPlatformEventAcknowledged s = _ from onRot_next hrot), ?_⟩
  dsimp only
  rw [if_neg (by simp [Option.isSome_iff_ne_none.mp hout])]
  rw [hw]
  exact ⟨rfl, rfl⟩

theorem eventResend_completes {k v : Nat} (hrot : rotRuns s.dev = true) (hout : s.dev.mon.outstanding = some (k, v))
    (hdue : s.dev.mon.sentAt + 1000000000 ≤ now s.dev) :
    Completes .platformEventResend s (fun d => d.out = .pldmEvent k v :: s.dev.out ∧ d.mon.outstanding = some (k, v) ∧
      d.mon.sentAt = now s.dev) := by
  refine ⟨_, (show execPlatformEventResend s = _ from onRot_next hrot), ?_⟩
  beta_reduce
  rw [hout]
  dsimp only
  rw [if_pos hdue]
  exact ⟨rfl, rfl, rfl⟩

end

/-- Settles O20: a key slot's status decides whether it is written; every other command of the plane answers by `emit`. -/
theorem managementCommandsComplete : Obligations.ManagementCommandsComplete := by
  unfold Obligations.ManagementCommandsComplete
  intro s hrot
  refine ⟨fun i k dg hk hd he => ⟨_, slotProgram_eq hrot, ?_⟩, fun i k dg hk h => ⟨_, slotProgram_eq hrot, ?_⟩,
    fun hfile => ⟨_, (show execRegisterSnapshotRefresh s = _ from onRot_next hrot), ?_⟩, ⟨_, (show execGetTid s = _ from onRot_next hrot), rfl⟩, fun h hh => ⟨_, (show execGetPdr h s = _ from onRot_next hrot), ?_⟩,
    ⟨_, (show execGetPdrRepositoryInfo s = _ from onRot_next hrot), rfl⟩, fun i v hv => ⟨_, (show execGetSensorReading i s = _ from onRot_next hrot), ?_⟩, fun i v hv => stateReading_completes hrot hv,
    fun e => ⟨_, (show execSetEventReceiver (some e) s = _ from onRot_next hrot), rfl⟩, ⟨_, (show execSetEventReceiver none s = _ from onRot_next hrot), rfl, rfl, rfl⟩,
    fun hout hw => eventAcknowledged_completes hrot hout hw, fun k v hout hdue => eventResend_completes hrot hout hdue⟩
  · rw [slotStatus_empty hk hd he]
    exact ⟨rfl, rfl, rfl, rfl⟩
  · rw [slotStatus_taken hk h]
    exact ⟨rfl, rfl⟩
  · beta_reduce
    rw [hfile, if_neg (by decide)]
    refine ⟨rfl, fun a ha h0 => ?_, rfl⟩
    exact List.mem_filterMap.mpr ⟨a, ha, if_neg (by simpa using h0)⟩
  · beta_reduce
    rw [if_neg (by split <;> omega)]
    exact ⟨_, rfl⟩
  · beta_reduce
    rw [hv]
    rfl

end Sys2Proof.Machine
end

section
/-! # Fault records (R680)

A record is its fields one after the other, each little-endian; a field of it is read by leaving out those before it. -/

namespace Sys2Proof.Machine

open Sys2Proof

section
variable {n k off hi lo : Nat} {bs : Bytes}

/-! ## Fields of byte strings -/

theorem unLe_le_append : unLe (le n k ++ bs) = n % 256 ^ k + 256 ^ k * unLe bs := by
  induction k generalizing n with
  | zero => simp [le, Nat.mod_one]
  | succ k ih =>
    simp only [le, List.cons_append, unLe, ih, BitVec.toNat_ofNat]
    rw [show 256 ^ (k + 1) = 256 * 256 ^ k from Nat.pow_succ', Nat.mod_mul]
    ring

/-- The first `k` bytes are the number modulo `256 ^ k`. -/
theorem unLe_take : unLe (bs.take k) = unLe bs % 256 ^ k := by
  induction bs generalizing k with
  | nil => simp [unLe]
  | cons b bs ih =>
    cases k with
    | zero => simp [unLe, Nat.mod_one]
    | succ k =>
      have hb : b.toNat < 256 := b.isLt
      rw [List.take_succ_cons, unLe, unLe, ih, Nat.pow_succ', Nat.mod_mul, Nat.add_mul_mod_self_left, Nat.mod_eq_of_lt hb,
        Nat.add_mul_div_left _ _ (by decide), Nat.div_eq_of_lt hb, Nat.zero_add]

/-- Bits below `m` do not see what stands from bit `m` on. -/
theorem bits_add_mul {m a c : Nat} (h : hi < m) (hlo : lo ≤ hi + 1) : bits (a % 2 ^ m + 2 ^ m * c) hi lo = bits a hi lo := by
  have hm : 2 ^ m = 2 ^ (hi + 1) * 2 ^ (m - (hi + 1)) := by rw [← Nat.pow_add]; congr 1; omega
  have hd : 2 ^ (hi + 1) = 2 ^ lo * 2 ^ (hi + 1 - lo) := by rw [← Nat.pow_add]; congr 1; omega
  have key (x : Nat) : x / 2 ^ lo % 2 ^ (hi + 1 - lo) = x % 2 ^ (hi + 1) / 2 ^ lo := by
    rw [hd, Nat.mod_mul_right_div_self]
  have hmod : (a % 2 ^ m + 2 ^ m * c) % 2 ^ (hi + 1) = a % 2 ^ (hi + 1) := by
    rw [hm, Nat.mul_assoc, Nat.add_mul_mod_self_left, Nat.mod_mul_right_mod]
  rw [bits, bits, key, key, hmod]

theorem bits_mod {m a : Nat} (h : hi < m) (hlo : lo ≤ hi + 1) : bits (a % 2 ^ m) hi lo = bits a hi lo := by
  simpa using bits_add_mul (a := a) (c := 0) h hlo

/-- A field of the first number of a byte string. -/
theorem fld_le_append (hk : hi < 8 * k) (h64 : hi < 64) (hlo : lo ≤ hi + 1) : fld (le n k ++ bs) 0 hi lo = bits n hi lo := by
  have h256 (j : Nat) : 256 ^ j = 2 ^ (8 * j) := by rw [Nat.pow_mul]
  rw [fld, sub, List.drop_zero, unLe_take, h256 8, bits_mod h64 hlo, unLe_le_append, h256 k, bits_add_mul hk hlo]

/-- A field that stands behind the first number. -/
theorem fld_skip (h : k ≤ off) : fld (le n k ++ bs) off hi lo = fld bs (off - k) hi lo := by
  rw [fld, sub, List.drop_append, length_le, List.drop_of_length_le (by rw [length_le]; exact h), List.nil_append]
  rfl

/-- A number within its width is its field from bit 0 on. -/
theorem bits_zero {a : Nat} (h : a < 2 ^ (hi + 1)) : bits a hi 0 = a := by
  rw [bits, Nat.pow_zero, Nat.div_one, Nat.sub_zero, Nat.mod_eq_of_lt h]

/-- Bits above a number's width read zero. -/
theorem bits_above {a : Nat} (h : a < 2 ^ lo) : bits a hi lo = 0 := by
  rw [bits, Nat.div_eq_of_lt h, Nat.zero_mod]

end

/-! ## The record -/

/-- A fault record with PHASE set, number by number. -/
theorem withPhase_faultBytes (f : FaultRec) (ph : Bool) : withPhase (faultBytes f) ph =
    le 0x05 1 ++ (le (bit1 f.unit + 2 * bit1 (f.witness == 0xFFFFFFFF)) 1 ++ (le f.cause 2 ++ (le f.status 2 ++
    (le f.subjKind 1 ++ (le 0 1 ++ (le f.subject 8 ++ (le f.first 8 ++ (le f.last 8 ++ (le f.witness 4 ++ (le f.tag.toNat 4 ++
    (le f.detail0 8 ++ (le f.detail1 8 ++ (le f.seq.toNat 4 ++ (le (f.lane + 128 * bit1 f.remote) 1 ++ (le 0 2 ++
    (le (128 * bit1 ph) 1 ++ [])))))))))))))))) := by
  have hlast : le 0 3 = le 0 2 ++ [0] := rfl
  have hph : ((0 : Byte) &&& 0x7F) ||| (if ph then 0x80 else 0) = BitVec.ofNat 8 (128 * bit1 ph) := by cases ph <;> rfl
  rw [withPhase, faultBytes, hlast, ← List.append_assoc, List.dropLast_concat, List.getLast?_concat, Option.getD_some, hph]
  simp only [List.append_assoc, List.append_nil]
  rfl

theorem bit1_lt {b : Bool} : bit1 b < 2 := by cases b <;> decide

/-- Settles O7: the fields stand one after the other (`withPhase_faultBytes`), each within its width. -/
theorem faultRecordsCarryTheirFields : Obligations.FaultRecordsCarryTheirFields := by
  unfold Obligations.FaultRecordsCarryTheirFields
  intro f ph hcause hstatus hkind hsubj hfirst hlast hwit hd0 hd1 hlane b
  have hunit : bit1 f.unit < 2 := bit1_lt
  have hsat : bit1 (f.witness == 0xFFFFFFFF) < 2 := bit1_lt
  have hremote : bit1 f.remote < 2 := bit1_lt
  have hphase : bit1 ph < 2 := bit1_lt
  have hb : b = _ := withPhase_faultBytes f ph
  have htag := f.tag.isLt
  have hseq := f.seq.isLt
  have hflags : bits (bit1 f.unit + 2 * bit1 (f.witness == 0xFFFFFFFF)) 0 0 = bit1 f.unit ∧
      bits (bit1 f.unit + 2 * bit1 (f.witness == 0xFFFFFFFF)) 1 1 = bit1 (f.witness == 0xFFFFFFFF) ∧
      bits (bit1 f.unit + 2 * bit1 (f.witness == 0xFFFFFFFF)) 7 2 = 0 := by
    simp only [bits]; omega
  have hfrom : bits (f.lane + 128 * bit1 f.remote) 6 0 = f.lane ∧ bits (f.lane + 128 * bit1 f.remote) 7 7 = bit1 f.remote := by
    simp only [bits]; omega
  have hlastBits : bits (128 * bit1 ph) 6 0 = 0 ∧ bits (128 * bit1 ph) 7 7 = bit1 ph := by
    simp only [bits]; omega
  obtain ⟨hf0, hf1, hf2⟩ := hflags
  obtain ⟨hl0, hl1⟩ := hfrom
  obtain ⟨hp0, hp1⟩ := hlastBits
  rw [hb]
  refine ⟨by simp [length_le], ?_⟩
  simp only [fld_skip, fld_le_append, Nat.reduceSub, Nat.reduceLeDiff, Nat.reduceLT, Nat.reduceMul, Nat.reduceAdd, Nat.zero_le]
  exact ⟨rfl, hf0, hf1, hf2, bits_zero hcause, bits_above hcause, bits_zero hstatus, bits_zero hkind, rfl, bits_zero hsubj,
    bits_zero hfirst, bits_zero hlast, bits_zero hwit, bits_zero htag, bits_zero hd0, bits_zero hd1, bits_zero hseq, hl0, hl1, rfl,
    hp0, hp1⟩

end Sys2Proof.Machine
end

section
/-! # What commands change beside the device: the NOR and the fuses (R718, R729, R733, R747, R750) -/

namespace Sys2Proof.Machine

open Sys2Proof

/-- The outcome is the state with another device, the queue, the NOR and the fuses as they were. -/
def OnDevice (s : State) (o : Host.Outcome State Fault Refusal) : Prop := ∃ d, o = .next (s.setDev d)

/-- `t` has the queue, the NOR's size and the fuses of `s`, and a NOR that is as canonical. -/
structure Flashed (s t : State) : Prop where
  pending : t.pending = s.pending
  norBytes : t.norBytes = s.norBytes
  fuses : t.fuses = s.fuses
  norWf : memWf 0xFF s.nor = true → memWf 0xFF t.nor = true

/-- The commands that can change the NOR or the fuses. -/
def flashes (c : Instr) : Bool := match c with
  | .slotProgram .. | .vaultSectionsLoad .. | .componentWrite .. | .verifyComplete .. | .applyComplete | .activateFirmware
  | .imageSwitchDrainTimeout => true
  | _ => false

section
variable {s t u : State} {d : Dev}

/-! ## The device alone -/

theorem onDevice_setDev : OnDevice s (.next (s.setDev d)) := ⟨d, rfl⟩

theorem onDevice_self : OnDevice s (.next s) := ⟨s.dev, rfl⟩

theorem OnDevice.ite {p : Prop} [Decidable p] {a b : Host.Outcome State Fault Refusal} (ha : OnDevice s a) (hb : OnDevice s b) :
    OnDevice s (if p then a else b) := by
  split <;> assumption

theorem onRot_onDevice {f : State → Dev} : OnDevice s (onRot f s) := by
  unfold onRot
  split
  · exact onDevice_setDev
  · exact onDevice_self

theorem execEndOfReset_onDevice {a b c e t} : OnDevice s (execEndOfReset a b c e t s) :=
  .ite onDevice_self (.ite onDevice_setDev onDevice_setDev)

theorem execImageLoad_onDevice {a b} : OnDevice s (execImageLoad a b s) := .ite onDevice_self onDevice_setDev

/-- Every other command changes the device alone. -/
theorem exec_onDevice (c : Instr) (h : flashes c = false) : OnDevice s (exec c s) := by
  cases c with
  | slotProgram | vaultSectionsLoad | componentWrite | verifyComplete | applyComplete | activateFirmware | imageSwitchDrainTimeout =>
    cases h
  | endOfReset => exact execEndOfReset_onDevice
  | imageLoad => exact execImageLoad_onDevice
  | registerWrite => exact onDevice_self
  | regRead | registerSnapshotRefresh | getTid | getPdr | getPdrRepositoryInfo | getSensorReading | setEventReceiver
  | platformEventAcknowledged | platformEventResend =>
    unfold exec
    exact onRot_onDevice
  | _ => exact ⟨_, rfl⟩

/-! ## The NOR -/

theorem Flashed.refl (s : State) : Flashed s s := ⟨rfl, rfl, rfl, id⟩

theorem Flashed.trans (h : Flashed s t) (k : Flashed t u) : Flashed s u :=
  ⟨k.pending.trans h.pending, k.norBytes.trans h.norBytes, k.fuses.trans h.fuses, k.norWf ∘ h.norWf⟩

theorem Flashed.setDev (h : Flashed s t) : Flashed s (t.setDev d) := ⟨h.pending, h.norBytes, h.fuses, h.norWf⟩

theorem norWrite_flashed {a : Nat} {bs : Bytes} : Flashed s (norWrite s a bs) := ⟨rfl, rfl, rfl, memWf_writeN _ bs _ a⟩

theorem writeRec_flashed {i r : Nat} : Flashed s (writeRec s i r) := by
  unfold writeRec
  split
  · exact norWrite_flashed
  · exact .refl s

theorem readyRec_flashed : Flashed s (readyRec s) := by
  unfold readyRec
  dsimp only
  split
  · exact .refl s
  · exact ⟨rfl, rfl, rfl, memWf_clear _ _ _ _⟩

theorem switchOver_flashed {n : Nat} : Flashed s (switchOver s n) := writeRec_flashed.setDev

/-- Every next state that the outcome answers is `Flashed`. -/
def Flashes (s : State) (o : Host.Outcome State Fault Refusal) : Prop := ∀ t, o = .next t → Flashed s t

theorem flashes_next (h : Flashed s t) : Flashes s (.next t) := by
  rintro _ ⟨⟩
  exact h

theorem OnDevice.flashes {o : Host.Outcome State Fault Refusal} (h : OnDevice s o) : Flashes s o := by
  obtain ⟨d, rfl⟩ := h
  exact flashes_next (.setDev (.refl s))

theorem execComponentWrite_flashes {a b c} : Flashes s (execComponentWrite a b c s) := by
  unfold execComponentWrite
  dsimp only
  split
  · exact flashes_next norWrite_flashed
  · exact flashes_next (.refl s)

theorem execVerifyComplete_flashes {a b} : Flashes s (execVerifyComplete a b s) := by
  unfold execVerifyComplete
  dsimp only
  split
  · exact flashes_next (.refl s)
  · split
    · exact flashes_next readyRec_flashed.setDev
    · exact flashes_next (.setDev (.refl s))
  · split <;> exact flashes_next (.setDev (.refl s))

theorem execApplyComplete_flashes : Flashes s (execApplyComplete s) := by
  unfold execApplyComplete
  dsimp only
  split
  · exact flashes_next (.refl s)
  · split
    · exact flashes_next (.setDev (.refl s))
    · exact flashes_next (.refl s)
  · split
    · exact flashes_next writeRec_flashed.setDev
    · exact flashes_next (.refl s)

theorem execActivateFirmware_flashes : Flashes s (execActivateFirmware s) := by
  unfold execActivateFirmware
  dsimp only
  split
  · exact flashes_next (.refl s)
  · split
    · exact flashes_next (.setDev (.refl s))
    · exact flashes_next (.trans (.setDev (.refl s)) switchOver_flashed)

theorem execImageSwitchDrainTimeout_flashes : Flashes s (execImageSwitchDrainTimeout s) := by
  unfold execImageSwitchDrainTimeout
  split
  · exact flashes_next (.refl s)
  · split
    · exact flashes_next switchOver_flashed
    · exact flashes_next (.refl s)

/-! ## The fuses (R729, R731, R733) -/

/-- `g` is `f` or further: MIN_SVN no lower, every revocation, the lifecycle and every programmed slot in place. -/
structure FusesForward (f g : Fuses) : Prop where
  minSvn : f.minSvn ≤ g.minSvn
  revoked : ∀ i, f.revoked.testBit i → g.revoked.testBit i
  deployed : f.deployed → g.deployed
  length : g.slots.length = f.slots.length
  slots : ∀ (i : Nat) (x : Bytes), f.slots[i]? = some (some x) → g.slots[i]? = some (some x)

theorem FusesForward.refl (f : Fuses) : FusesForward f f := ⟨le_rfl, fun _ => id, id, rfl, fun _ _ => id⟩

theorem burn_forward {f : Fuses} {b : Boot} {n : Nat} : FusesForward f (burn f b n) := by
  unfold burn
  dsimp only
  split
  · exact ⟨Nat.le_max_left .., fun i h => by rw [Nat.testBit_or, h, Bool.true_or], fun _ => rfl, rfl, fun _ _ => id⟩
  · exact ⟨le_rfl, fun _ => id, fun _ => rfl, rfl, fun _ _ => id⟩

/-- A slot that may be programmed holds no digest. -/
theorem slotStatus_ok_empty {f : Fuses} {k : Nat} (h : slotStatus f k = St.ok) : (f.slots.getD k none).isSome = false := by
  unfold slotStatus at h
  split at h
  · cases h
  · split at h
    · cases h
    next hn => exact (Bool.or_eq_false_iff.mp (Bool.eq_false_iff.mpr hn)).2

theorem programSlot_forward {f : Fuses} {k : Nat} {x : Bytes} (h : slotStatus f k = St.ok) :
    FusesForward f { f with slots := f.slots.set k (some x) } where
  minSvn := le_rfl
  revoked _ := id
  deployed := id
  length := List.length_set
  slots i y hy := by
    have hne : k ≠ i := by
      rintro rfl
      simpa [List.getD_eq_getElem?_getD, hy] using slotStatus_ok_empty h
    exact (List.getElem?_set_ne hne).trans hy

/-- What a command that may burn fuses changes beside the device: nothing but the fuses, forward. -/
structure Burnt (s t : State) : Prop where
  pending : t.pending = s.pending
  norBytes : t.norBytes = s.norBytes
  nor : t.nor = s.nor
  fuses : FusesForward s.fuses t.fuses

theorem execSlotProgram_burns {a b c} (h : execSlotProgram a b c s = .next t) : Burnt s t := by
  unfold execSlotProgram at h
  dsimp only at h
  split at h <;> cases h
  · split
    next hok => exact ⟨rfl, rfl, rfl, programSlot_forward (by simpa using hok)⟩
    · exact ⟨rfl, rfl, rfl, .refl _⟩
  · exact ⟨rfl, rfl, rfl, .refl _⟩

theorem execVaultSectionsLoad_burns {a} (h : execVaultSectionsLoad a s = .next t) : Burnt s t := by
  unfold execVaultSectionsLoad at h
  dsimp only at h
  split at h
  · cases h
    exact ⟨rfl, rfl, rfl, .refl _⟩
  · split at h <;> cases h
    · exact ⟨rfl, rfl, rfl, burn_forward⟩
    · exact ⟨rfl, rfl, rfl, .refl _⟩

/-! ## Every command and every step -/

/-- A command that burns no fuse. -/
theorem exec_flashes (c : Instr) (hs : ∀ a b d, c ≠ .slotProgram a b d) (hv : ∀ a, c ≠ .vaultSectionsLoad a) : Flashes s (exec c s) := by
  cases c with
  | slotProgram a b d => exact absurd rfl (hs a b d)
  | vaultSectionsLoad a => exact absurd rfl (hv a)
  | componentWrite => exact execComponentWrite_flashes
  | verifyComplete => exact execVerifyComplete_flashes
  | applyComplete => exact execApplyComplete_flashes
  | activateFirmware => exact execActivateFirmware_flashes
  | imageSwitchDrainTimeout => exact execImageSwitchDrainTimeout_flashes
  | _ => exact (exec_onDevice _ rfl).flashes

theorem exec_fusesForward {c : Instr} (h : exec c s = .next t) : FusesForward s.fuses t.fuses := by
  have hother (hs : ∀ a b d, c ≠ .slotProgram a b d) (hv : ∀ a, c ≠ .vaultSectionsLoad a) : FusesForward s.fuses t.fuses :=
    (exec_flashes c hs hv t h).fuses ▸ .refl _
  cases c with
  | slotProgram => exact (execSlotProgram_burns h).fuses
  | vaultSectionsLoad => exact (execVaultSectionsLoad_burns h).fuses
  | _ => exact hother (fun _ _ _ => nofun) (fun _ => nofun)

end

/-- Settles O51: but for nine commands, a command answers its state with another device; the others write the NOR through boot records
and the update's data, or burn fuses. -/
theorem flashFusesAndQueueFrame : Obligations.FlashFusesAndQueueFrame := by
  unfold Obligations.FlashFusesAndQueueFrame
  intro c s t h
  have hdev (hc : flashes c = false) : t.pending = s.pending ∧ t.norBytes = s.norBytes ∧ t.fuses = s.fuses ∧ t.nor = s.nor := by
    obtain ⟨d, hd⟩ := exec_onDevice (s := s) c hc
    obtain rfl : s.setDev d = t := Host.Outcome.next.inj (hd.symm.trans h)
    exact ⟨rfl, rfl, rfl, rfl⟩
  have hflash (hs : ∀ a b d, c ≠ .slotProgram a b d) (hv : ∀ a, c ≠ .vaultSectionsLoad a) :
      t.pending = s.pending ∧ t.norBytes = s.norBytes ∧ t.fuses = s.fuses ∧ True := by
    obtain ⟨hp, hn, hf, -⟩ := exec_flashes c hs hv t h
    exact ⟨hp, hn, hf, trivial⟩
  cases c with
  | slotProgram =>
    obtain ⟨hp, hn, hnor, -⟩ := execSlotProgram_burns h
    exact ⟨hp, hn, trivial, hnor⟩
  | vaultSectionsLoad =>
    obtain ⟨hp, hn, hnor, -⟩ := execVaultSectionsLoad_burns h
    exact ⟨hp, hn, trivial, hnor⟩
  | componentWrite | verifyComplete | applyComplete | activateFirmware | imageSwitchDrainTimeout =>
    exact hflash (fun _ _ _ => nofun) (fun _ => nofun)
  | _ => exact hdev rfl

/-- Settles O59: a slot is programmed only when it is empty, and the vault load burns by maximum and union. -/
theorem fusesOnlyMoveForward : Obligations.FusesOnlyMoveForward := by
  unfold Obligations.FusesOnlyMoveForward
  intro s t h
  have hforward : FusesForward s.fuses t.fuses := by
    unfold step at h
    split at h
    · cases h
      exact .refl _
    next c rest _ => exact exec_fusesForward (s := { s with pending := rest }) h
  obtain ⟨hm, hr, hd, hl, hx⟩ := hforward
  exact ⟨hm, hr, hd, hl, hx⟩

end Sys2Proof.Machine
end

section
/-! # Signed messages are judged in order (R651, R652) -/

namespace Sys2Proof.Machine

open Sys2Proof

section
variable {d : Dev} {h : SigHdr} {lo : Nat}

/-! ## The five checks (R651) -/

/-- The message is well formed. -/
def SigFormed (h : SigHdr) : Prop := h.formOk = true ∧ h.sigs ≠ [] ∧ h.sigs.length ≤ 16

/-- It is of this session and newer than the last one accepted. -/
def SigFresh (d : Dev) (h : SigHdr) : Prop := h.session = d.sec.session ∧ d.sec.msgSeq < h.seq

/-- Every signature verifies under a key of the image. -/
def SigValid (d : Dev) (h : SigHdr) : Prop := ∀ x ∈ h.sigs, x.2 = true ∧ x.1 < mgrKeyCount d

/-- Enough keys have signed it. -/
def SigQuorum (d : Dev) (h : SigHdr) (lo : Nat) : Prop := img d 0x500010 (lo + 3) lo < (h.sigs.map (·.1)).eraseDups.length

theorem formed_iff : (!h.formOk || h.sigs.isEmpty || decide (16 < h.sigs.length)) = true ↔ ¬SigFormed h := by
  simp only [SigFormed, Bool.or_eq_true, Bool.not_eq_true', List.isEmpty_iff, decide_eq_true_eq, not_and_or, not_not,
    Bool.not_eq_true, not_le, or_assoc]

theorem fresh_iff : (h.session != d.sec.session || decide (h.seq ≤ d.sec.msgSeq)) = true ↔ ¬SigFresh d h := by
  simp only [SigFresh, Bool.or_eq_true, bne_iff_ne, decide_eq_true_eq, not_and_or, not_lt, ne_eq]

theorem valid_iff : h.sigs.any (fun x => !x.2 || decide (mgrKeyCount d ≤ x.1)) = true ↔ ¬SigValid d h := by
  simp only [SigValid, List.any_eq_true, Bool.or_eq_true, Bool.not_eq_true', decide_eq_true_eq, not_forall, not_and_or,
    Bool.not_eq_true, not_lt, exists_prop]

theorem quorum_iff : (h.sigs.map (·.1)).eraseDups.length < img d 0x500010 (lo + 3) lo + 1 ↔ ¬SigQuorum d h lo := by
  rw [SigQuorum, not_lt, Nat.lt_succ_iff]

/-- The first check that fails gives the status. -/
theorem signedCheck_eq [Decidable (SigFormed h)] [Decidable (SigFresh d h)] [Decidable (SigValid d h)] [Decidable (SigQuorum d h lo)] :
    signedCheck d h lo = if ¬SigFormed h then St.recordInvalid else if h.target ≠ idDigest then St.sigTarget
      else if ¬SigFresh d h then St.sigStale else if ¬SigValid d h then St.sigInvalid else if ¬SigQuorum d h lo then St.sigQuorum else St.ok := by
  rw [signedCheck]
  refine ite_congr (propext formed_iff) (fun _ => rfl) fun _ => ?_
  refine ite_congr (propext bne_iff_ne) (fun _ => rfl) fun _ => ?_
  refine ite_congr (propext fresh_iff) (fun _ => rfl) fun _ => ?_
  refine ite_congr (propext valid_iff) (fun _ => rfl) fun _ => ?_
  exact ite_congr (propext quorum_iff) (fun _ => rfl) fun _ => rfl

/-! ## The answer -/

/-- A message that fails a check is refused with the check's status, and counted. -/
theorem signedDo_refused {any : Bool} {own : Nat} {f : Dev → Dev} (hc : signedCheck d h lo ≠ St.ok) :
    signedDo d h lo any own f = (signedCheck d h lo, ctrInc d cMsgRefused) := by
  simp [signedDo, hc]

/-- A message that is accepted has passed the checks. -/
theorem signedDo_ok {any : Bool} {own : Nat} {f : Dev → Dev} (hr : (signedDo d h lo any own f).1 = St.ok) :
    signedCheck d h lo = St.ok := by
  by_contra hc
  rw [signedDo_refused hc] at hr
  exact hc hr

/-- A message that is not accepted changes the count of refusals alone. -/
theorem signedDo_counted {any : Bool} {own : Nat} {f : Dev → Dev} (hr : (signedDo d h lo any own f).1 ≠ St.ok) :
    (signedDo d h lo any own f).2 = ctrInc d cMsgRefused := by
  unfold signedDo at hr ⊢
  dsimp only at hr ⊢
  generalize (if (signedCheck d h lo != St.ok) = true then signedCheck d h lo else
    if (d.sec.switching && !any) = true then St.imageState else own) = st at hr ⊢
  by_cases hst : st = St.ok
  · exact absurd (by simp [hst]) hr
  · rw [if_neg (by simpa using hst)]

/-- What the table says of one kind, whose quorum stands at bit `lo`. -/
def JudgedInOrder (d : Dev) (h : SigHdr) (lo : Nat) (r : Nat × Dev) : Prop :=
  (¬SigFormed h → r.1 = St.recordInvalid) ∧
  (SigFormed h → h.target ≠ idDigest → r.1 = St.sigTarget) ∧
  (SigFormed h → h.target = idDigest → ¬SigFresh d h → r.1 = St.sigStale) ∧
  (SigFormed h → h.target = idDigest → SigFresh d h → ¬SigValid d h → r.1 = St.sigInvalid) ∧
  (SigFormed h → h.target = idDigest → SigFresh d h → SigValid d h → ¬SigQuorum d h lo → r.1 = St.sigQuorum) ∧
  (r.1 = St.ok → SigFormed h ∧ h.target = idDigest ∧ SigFresh d h ∧ SigValid d h ∧ SigQuorum d h lo) ∧
  (r.1 ≠ St.ok → r.2 = ctrInc d cMsgRefused)

open Classical in
theorem signedDo_judgedInOrder {any : Bool} {own : Nat} {f : Dev → Dev} : JudgedInOrder d h lo (signedDo d h lo any own f) := by
  have status {st : Nat} (hne : st ≠ St.ok) (hc : signedCheck d h lo = st) : (signedDo d h lo any own f).1 = st := by
    rw [signedDo_refused (hc ▸ hne), hc]
  refine ⟨fun h1 => status (by decide) ?_, fun h1 h2 => status (by decide) ?_, fun h1 h2 h3 => status (by decide) ?_,
    fun h1 h2 h3 h4 => status (by decide) ?_, fun h1 h2 h3 h4 h5 => status (by decide) ?_, fun hr => ?_, signedDo_counted⟩
  · rw [signedCheck_eq, if_pos h1]
  · rw [signedCheck_eq, if_neg (not_not.mpr h1), if_pos h2]
  · rw [signedCheck_eq, if_neg (not_not.mpr h1), if_neg (not_not.mpr h2), if_pos h3]
  · rw [signedCheck_eq, if_neg (not_not.mpr h1), if_neg (not_not.mpr h2), if_neg (not_not.mpr h3), if_pos h4]
  · rw [signedCheck_eq, if_neg (not_not.mpr h1), if_neg (not_not.mpr h2), if_neg (not_not.mpr h3), if_neg (not_not.mpr h4),
      if_pos h5]
  · have hc := signedDo_ok hr
    rw [signedCheck_eq] at hc
    split_ifs at hc with h1 h2 h3 h4 h5
    exact ⟨h1, not_not.mp h2, h3, h4, h5⟩

end

/-- Settles O13: every kind's message is taken by `signedDo`, with the kind's place in SEC_QUORUM. -/
theorem signedMessagesAreJudgedInOrder : Obligations.SignedMessagesAreJudgedInOrder := by
  unfold Obligations.SignedMessagesAreJudgedInOrder
  intro d h b
  cases b with
  | _ => exact signedDo_judgedInOrder

end Sys2Proof.Machine
end

section
/-! # What every function leaves unchanged

The frame of commands goes part by part. An `Area` is a part of the device that the frame statements speak of (`Part`, Safety.lean), or
the rest of a record that some part belongs to. `Stays W d e` says that `e` has every area of `d` that is not among `W`, has sent all
that `d` had sent, and has memories as canonical. Each function of the model has one lemma `f_stays`, whose list of areas is the
function's footprint: where `W` holds them, what stayed before it stays after it. Its proof follows the branches of `f` and cites the
lemmas of the functions that `f` calls, whose footprints are found in that of `f`. -/

namespace Sys2Proof.Machine

open Sys2Proof

set_option Elab.async false -- each lemma rests on the ones before it: elaborated in order, none of them waits in a thread of its own

/-- The areas of the device. -/
inductive Area where
  | image
  | firmware
  | phase
  | update
  | bootRest
  | time
  | plls
  | clkRest
  | ready
  | custody
  | fltRest
  | pair
  | pairRest
  | link
  | config
  | tdisp
  | doe
  | hostRest
  | keys
  | session
  | msgSeq
  | spdm
  | assocs
  | secRest
  | sensors
  | monRest
  | window
  | lanes
  | taken
  | intakeRest
  | regions
  | trackers
  | weftCmd
  | operations
  | admRest
  | ports
  | requests
  | requestNumbers
  | handles
  | stopSets
  | reqsRest
  | sas
  | stk
  | bob
  | retrieval
  | fabric
  | fences
  | lines
  | checks
deriving DecidableEq

/-- The set `W` holds every area of the list. -/
structure Allows (W : Area → Bool) (l : List Area) : Prop where
  holds : l.all W = true

/-- `e` differs from `d` only in areas of `W`, in what reports change, and in what has been sent since; its memories are as canonical. -/
structure Stays (W : Area → Bool) (d e : Dev) : Prop where
  image : W .image = false → e.img = d.img ∧ e.boot.sections = d.boot.sections ∧ e.boot.mgrKeys = d.boot.mgrKeys ∧
      e.boot.peers = d.boot.peers ∧ e.boot.measureImg = d.boot.measureImg ∧ e.boot.roles = d.boot.roles ∧
      e.boot.commit = d.boot.commit ∧ e.boot.revoke = d.boot.revoke ∧ e.boot.flash = d.boot.flash
  firmware : W .firmware = false → e.boot.measureFw = d.boot.measureFw ∧ e.boot.fwSlot = d.boot.fwSlot ∧ e.boot.tapEn = d.boot.tapEn
  phase : W .phase = false → e.boot.phase = d.boot.phase ∧ e.boot.slot = d.boot.slot
  update : W .update = false → e.boot.updating = d.boot.updating ∧ e.boot.staged = d.boot.staged ∧ e.sec.updateStaged = d.sec.updateStaged
  bootRest : W .bootRest = false → e.boot.fallback = d.boot.fallback ∧ e.boot.vault = d.boot.vault ∧
      e.boot.measureCores = d.boot.measureCores ∧ e.boot.aliasFormed = d.boot.aliasFormed ∧ e.boot.fwVerified = d.boot.fwVerified ∧
      e.boot.switchTo = d.boot.switchTo ∧ e.boot.switchStart = d.boot.switchStart ∧ e.boot.switchPast = d.boot.switchPast ∧
      e.boot.switchLoad = d.boot.switchLoad
  time : W .time = false → e.clk.now = d.clk.now
  plls : W .plls = false → e.clk.lock = d.clk.lock ∧ e.clk.loss = d.clk.loss
  clkRest : W .clkRest = false → e.clk.refOk = d.clk.refOk ∧ e.clk.fallback = d.clk.fallback ∧ e.clk.wdAgent = d.clk.wdAgent ∧
      e.clk.wdValid = d.clk.wdValid
  ready : W .ready = false → e.ready = d.ready
  custody : W .custody = false → e.flt.custody = d.flt.custody ∧ e.flt.trigger = d.flt.trigger ∧ e.flt.custodyAt = d.flt.custodyAt
  fltRest : W .fltRest = false → e.flt.readmit = d.flt.readmit ∧ e.flt.stepLast = d.flt.stepLast ∧ e.flt.peers = d.flt.peers
  pair : W .pair = false → e.pair.state = d.pair.state ∧ e.pair.acked = d.pair.acked ∧ e.pair.applied = d.pair.applied ∧
      e.pair.mirrorMem = d.pair.mirrorMem ∧ e.pair.mirrorReqs = d.pair.mirrorReqs ∧ e.pair.mirrorRecs = d.pair.mirrorRecs ∧
      e.pair.mirrorRings = d.pair.mirrorRings ∧ e.pair.adopted = d.pair.adopted
  pairRest : W .pairRest = false → e.pair.ownResync = d.pair.ownResync ∧ e.pair.peerResync = d.pair.peerResync ∧
      e.pair.resyncSent = d.pair.resyncSent ∧ e.pair.lostAt = d.pair.lostAt ∧ e.pair.session = d.pair.session ∧
      e.pair.foreignTold = d.pair.foreignTold ∧ e.pair.lastFrame = d.pair.lastFrame ∧ e.pair.lastHeartbeat = d.pair.lastHeartbeat
  link : W .link = false → e.host.l0 = d.host.l0 ∧ e.host.rate = d.host.rate ∧ e.host.width = d.host.width
  config : W .config = false → e.host.mps256 = d.host.mps256 ∧ e.host.vfs = d.host.vfs ∧ e.host.busMaster = d.host.busMaster ∧
      e.host.memSpace = d.host.memSpace ∧ e.host.relaxed = d.host.relaxed ∧ e.host.readRequest = d.host.readRequest ∧
      e.host.timeoutUs = d.host.timeoutUs
  tdisp : W .tdisp = false → e.host.tdisp = d.host.tdisp
  doe : W .doe = false → e.host.doeBusy = d.host.doeBusy ∧ e.host.doeReady = d.host.doeReady ∧ e.host.doeError = d.host.doeError
  hostRest : W .hostRest = false → e.host.retrainDue = d.host.retrainDue
  keys : W .keys = false → e.sec.keys = d.sec.keys ∧ e.sec.cryptoReady = d.sec.cryptoReady ∧ e.sec.error = d.sec.error ∧
      e.sec.zeroized = d.sec.zeroized
  session : W .session = false → e.sec.session = d.sec.session
  msgSeq : W .msgSeq = false → e.sec.msgSeq = d.sec.msgSeq
  spdm : W .spdm = false → e.sec.sessions = d.sec.sessions ∧ e.sec.nextSession = d.sec.nextSession ∧ e.sec.ide = d.sec.ide
  assocs : W .assocs = false → e.sec.assocs.map assocCore = d.sec.assocs.map assocCore
  secRest : W .secRest = false → e.sec.switching = d.sec.switching ∧ e.sec.coresInReset = d.sec.coresInReset ∧
      e.sec.negotiated = d.sec.negotiated
  sensors : W .sensors = false → e.mon.dieTemp = d.mon.dieTemp ∧ e.mon.level = d.mon.level ∧ e.mon.powerW = d.mon.powerW ∧
      e.mon.railOut = d.mon.railOut ∧ e.mon.receiver = d.mon.receiver ∧ e.mon.snapshot = d.mon.snapshot
  monRest : W .monRest = false → e.mon.thermtrip = d.mon.thermtrip ∧ e.mon.railTold = d.mon.railTold ∧ e.mon.snapshotAt = d.mon.snapshotAt
  window : W .window = false → e.intake.window = d.intake.window
  lanes : W .lanes = false → e.intake.lanes = d.intake.lanes
  taken : W .taken = false → e.intake.taken = d.intake.taken
  intakeRest : W .intakeRest = false → e.intake.written = d.intake.written ∧ e.intake.remoteSlots = d.intake.remoteSlots ∧
      e.intake.scan = d.intake.scan
  regions : W .regions = false → e.weft.regions = d.weft.regions
  trackers : W .trackers = false → e.weft.trackers = d.weft.trackers
  weftCmd : W .weftCmd = false → e.weft.cmdBusy = d.weft.cmdBusy ∧ e.weft.cmdStatus = d.weft.cmdStatus ∧ e.weft.cmdValue = d.weft.cmdValue
  operations : W .operations = false → e.adm.ops = d.adm.ops ∧ e.adm.bookings = d.adm.bookings
  admRest : W .admRest = false → e.adm.held = d.adm.held ∧ e.adm.nextOp = d.adm.nextOp ∧ e.adm.stkCap = d.adm.stkCap
  ports : W .ports = false → e.ports = d.ports
  requests : W .requests = false → e.reqs.live = d.reqs.live ∧ e.reqs.retired = d.reqs.retired
  requestNumbers : W .requestNumbers = false → e.reqs.inc = d.reqs.inc
  handles : W .handles = false → e.reqs.nextHandle = d.reqs.nextHandle
  stopSets : W .stopSets = false → e.reqs.stopSets = d.reqs.stopSets
  reqsRest : W .reqsRest = false → e.reqs.keptId = d.reqs.keptId ∧ e.reqs.note = d.reqs.note ∧ e.reqs.hashQ = d.reqs.hashQ
  sas : W .sas = false → e.sas = d.sas
  stk : W .stk = false → e.stk = d.stk
  bob : W .bob = false → e.bob = d.bob
  retrieval : W .retrieval = false → e.retr = d.retr
  fabric : W .fabric = false → e.fab = d.fab
  fences : W .fences = false → e.fab.fenced = d.fab.fenced
  lines : W .lines = false → e.lines = d.lines
  checks : W .checks = false → e.checks = d.checks
  out : d.out <:+ e.out
  workWf : memWf 0 d.sas.work = true → memWf 0 e.sas.work = true
  windowWf : memWf 0 d.intake.window = true → memWf 0 e.intake.window = true
  mirrorWf : memWf 0 d.pair.mirrorMem = true → memWf 0 e.pair.mirrorMem = true

/-- Every next state that the outcome answers has the areas outside `W`. -/
def Leaves (W : Area → Bool) (s : State) (o : Host.Outcome State Fault Refusal) : Prop := ∀ t, o = .next t → Stays W s.dev t.dev

section
variable {W : Area → Bool} {d₀ d e : Dev}

/-! ## Footprints -/

theorem Allows.mono {l m : List Area} (h : Allows W l) (hm : m.all l.contains = true) : Allows W m :=
  ⟨List.all_eq_true.mpr fun a ha => List.all_eq_true.mp h.holds a (by simpa using List.all_eq_true.mp hm a ha)⟩

/-- An area of a footprint is not outside `W`. -/
theorem Allows.not_outside {l : List Area} {a : Area} (h : Allows W l) (ha : W a = false) (hm : l.contains a = true) : False :=
  Bool.false_ne_true (ha.symm.trans (List.all_eq_true.mp h.holds a (by simpa using hm)))

/-- What stays outside `W` says nothing of an area of the footprint. -/
theorem Allows.may {l : List Area} {a : Area} {p : Prop} (h : Allows W l) (hm : l.contains a = true) (ha : W a = false) : p :=
  (h.not_outside ha hm).elim

/-! ## What `Stays` is closed under -/

theorem Stays.refl (d : Dev) : Stays W d d := by
  constructor <;> simp

theorem Stays.trans {a b c : Dev} (h : Stays W a b) (k : Stays W b c) : Stays W a c where
  image hw := by simp only [k.image hw, h.image hw, and_self]
  firmware hw := by simp only [k.firmware hw, h.firmware hw, and_self]
  phase hw := by simp only [k.phase hw, h.phase hw, and_self]
  update hw := by simp only [k.update hw, h.update hw, and_self]
  bootRest hw := by simp only [k.bootRest hw, h.bootRest hw, and_self]
  time hw := (k.time hw).trans (h.time hw)
  plls hw := by simp only [k.plls hw, h.plls hw, and_self]
  clkRest hw := by simp only [k.clkRest hw, h.clkRest hw, and_self]
  ready hw := (k.ready hw).trans (h.ready hw)
  custody hw := by simp only [k.custody hw, h.custody hw, and_self]
  fltRest hw := by simp only [k.fltRest hw, h.fltRest hw, and_self]
  pair hw := by simp only [k.pair hw, h.pair hw, and_self]
  pairRest hw := by simp only [k.pairRest hw, h.pairRest hw, and_self]
  link hw := by simp only [k.link hw, h.link hw, and_self]
  config hw := by simp only [k.config hw, h.config hw, and_self]
  tdisp hw := (k.tdisp hw).trans (h.tdisp hw)
  doe hw := by simp only [k.doe hw, h.doe hw, and_self]
  hostRest hw := (k.hostRest hw).trans (h.hostRest hw)
  keys hw := by simp only [k.keys hw, h.keys hw, and_self]
  session hw := (k.session hw).trans (h.session hw)
  msgSeq hw := (k.msgSeq hw).trans (h.msgSeq hw)
  spdm hw := by simp only [k.spdm hw, h.spdm hw, and_self]
  assocs hw := (k.assocs hw).trans (h.assocs hw)
  secRest hw := by simp only [k.secRest hw, h.secRest hw, and_self]
  sensors hw := by simp only [k.sensors hw, h.sensors hw, and_self]
  monRest hw := by simp only [k.monRest hw, h.monRest hw, and_self]
  window hw := (k.window hw).trans (h.window hw)
  lanes hw := (k.lanes hw).trans (h.lanes hw)
  taken hw := (k.taken hw).trans (h.taken hw)
  intakeRest hw := by simp only [k.intakeRest hw, h.intakeRest hw, and_self]
  regions hw := (k.regions hw).trans (h.regions hw)
  trackers hw := (k.trackers hw).trans (h.trackers hw)
  weftCmd hw := by simp only [k.weftCmd hw, h.weftCmd hw, and_self]
  operations hw := by simp only [k.operations hw, h.operations hw, and_self]
  admRest hw := by simp only [k.admRest hw, h.admRest hw, and_self]
  ports hw := (k.ports hw).trans (h.ports hw)
  requests hw := by simp only [k.requests hw, h.requests hw, and_self]
  requestNumbers hw := (k.requestNumbers hw).trans (h.requestNumbers hw)
  handles hw := (k.handles hw).trans (h.handles hw)
  stopSets hw := (k.stopSets hw).trans (h.stopSets hw)
  reqsRest hw := by simp only [k.reqsRest hw, h.reqsRest hw, and_self]
  sas hw := (k.sas hw).trans (h.sas hw)
  stk hw := (k.stk hw).trans (h.stk hw)
  bob hw := (k.bob hw).trans (h.bob hw)
  retrieval hw := (k.retrieval hw).trans (h.retrieval hw)
  fabric hw := (k.fabric hw).trans (h.fabric hw)
  fences hw := (k.fences hw).trans (h.fences hw)
  lines hw := (k.lines hw).trans (h.lines hw)
  checks hw := (k.checks hw).trans (h.checks hw)
  out := h.out.trans k.out
  workWf := k.workWf ∘ h.workWf
  windowWf := k.windowWf ∘ h.windowWf
  mirrorWf := k.mirrorWf ∘ h.mirrorWf


theorem Stays.ite {p : Prop} [Decidable p] {a b : Dev} (ha : Stays W d a) (hb : Stays W d b) : Stays W d (if p then a else b) := by
  split <;> assumption

theorem Stays.ite₂ {α : Type} {p : Prop} [Decidable p] {a b : α × Dev} (ha : Stays W d a.2) (hb : Stays W d b.2) :
    Stays W d (if p then a else b).2 := by
  split <;> assumption

theorem Stays.ite₃ {α β : Type} {p : Prop} [Decidable p] {a b : α × β × Dev} (ha : Stays W d a.2.2) (hb : Stays W d b.2.2) :
    Stays W d (if p then a else b).2.2 := by
  split <;> assumption

theorem Stays.iteSome {α : Type} {p : Prop} [Decidable p] {a b : Option (α × Dev)} (ha : ∀ r, a = some r → Stays W d r.2)
    (hb : ∀ r, b = some r → Stays W d r.2) : ∀ r, (if p then a else b) = some r → Stays W d r.2 := by
  split <;> assumption

theorem Stays.foldl {α : Type} {f : Dev → α → Dev} {l : List α} (hf : ∀ x a, Stays W d₀ x → Stays W d₀ (f x a)) (hk : Stays W d₀ d) :
    Stays W d₀ (l.foldl f d) := by
  induction l generalizing d with
  | nil => exact hk
  | cons a l ih => exact ih (hf d a hk)

/-- A fold that carries a value beside the device. -/
theorem Stays.foldl₂ {α β : Type} {f : β × Dev → α → β × Dev} {l : List α} {r : β × Dev}
    (hf : ∀ x a, Stays W d₀ x.2 → Stays W d₀ (f x a).2) (hk : Stays W d₀ r.2) : Stays W d₀ (l.foldl f r).2 := by
  induction l generalizing r with
  | nil => exact hk
  | cons a l ih => exact ih (hf r a hk)

/-- The device of a pair that has been taken apart. -/
theorem Stays.snd {α : Type} {r : α × Dev} {a : α} (hk : Stays W d₀ r.2) (he : r = (a, e)) : Stays W d₀ e := by
  subst he; exact hk

/-- The device of an answer, where there is one. -/
theorem Stays.getD {o : Option Dev} (ho : ∀ x, o = some x → Stays W d₀ x) (hk : Stays W d₀ d) : Stays W d₀ (o.getD d) := by
  cases o with
  | none => exact hk
  | some x => exact ho x rfl

/-! ## What a command answers -/

theorem leaves_self {s : State} : Leaves W s (.next s) := by
  rintro _ ⟨⟩
  exact .refl _

theorem leaves_next {s t : State} (hk : Stays W s.dev t.dev) : Leaves W s (.next t) := by
  rintro _ ⟨⟩
  exact hk

theorem leaves_setDev {s : State} (hk : Stays W s.dev d) : Leaves W s (.next (s.setDev d)) := leaves_next hk

end

end Sys2Proof.Machine
end

section
/-! # Footprints of the shared operations -/

namespace Sys2Proof.Machine

open Sys2Proof

set_option Elab.async false -- each lemma rests on the ones before it: elaborated in order, none of them waits in a thread of its own

section
variable {W : Area → Bool} {d₀ d e : Dev}

/-! ## Machine/Regs.lean -/

theorem ctrAdd_stays {a n} (hk : Stays W d₀ d) : Stays W d₀ (ctrAdd d a n) := by
  unfold ctrAdd
  split
  · exact hk
  · exact { hk with }

theorem ctrInc_stays {a} (hk : Stays W d₀ d) : Stays W d₀ (ctrInc d a) := ctrAdd_stays hk

theorem freeNext_stays (hk : Stays W d₀ d) : Stays W d₀ (freeNext d).2 := { hk with }

theorem post_stays {b} (hk : Stays W d₀ d) (hw : Allows W [.ready] := by exact .mono ‹Allows _ _› rfl) : Stays W d₀ (post d b) :=
    { hk with ready := hw.may rfl }

theorem unpost_stays {b} (hk : Stays W d₀ d) (hw : Allows W [.ready] := by exact .mono ‹Allows _ _› rfl) : Stays W d₀ (unpost d b) :=
    { hk with ready := hw.may rfl }

/-! ## Machine/Ops.lean -/

theorem onDev_leaves {f : Dev → Dev} {s : State} (hf : ∀ {d₀ d}, Stays W d₀ d → Stays W d₀ (f d)) : Leaves W s (onDev f s) := by
  rintro t ⟨⟩
  exact hf (.refl _)

theorem emit_stays {o} (hk : Stays W d₀ d) : Stays W d₀ (emit d o) := { hk with out := hk.out.trans (List.suffix_cons ..) }

theorem usePn_stays {a sa} (hk : Stays W d₀ d) (ha : findAssoc d sa = some a) : Stays W d₀ (usePn d a) :=
  { hk with assocs := fun hw => (congrArg SecUnit.assocs (usePn_reports d a sa ha).sec).trans (hk.assocs hw) }

theorem sendSelvedge_stays {op mseq error session recs} (hk : Stays W d₀ d) : Stays W d₀ (sendSelvedge d op mseq error session recs) := by
  unfold sendSelvedge
  split
  · exact hk
  next ha => exact .ite (emit_stays (usePn_stays hk ha)) hk

theorem mirrorPush_stays {recs} (hk : Stays W d₀ d) : Stays W d₀ (mirrorPush d recs) :=
  .ite (.foldl (fun _ _ k => ctrAdd_stays (ctrInc_stays (sendSelvedge_stays { k with }))) hk) hk

theorem emitWA_stays {o} (hk : Stays W d₀ d) : Stays W d₀ (emitWA d o) := .ite { hk with } (emit_stays hk)

theorem releaseHeld_stays {upTo} (hk : Stays W d₀ d) : Stays W d₀ (releaseHeld d upTo) := .foldl (fun _ _ k => emit_stays k) { hk with }

theorem hostWriteAttr_stays {o a bs ep relaxed} (hk : Stays W d₀ d) : Stays W d₀ (hostWriteAttr d o a bs ep relaxed) :=
  .ite (.foldl (fun _ _ k => emitWA_stays k) hk) { ctrInc_stays hk with }

theorem hostWrite_stays {o a bs} (hk : Stays W d₀ d) : Stays W d₀ (hostWrite d o a bs) := hostWriteAttr_stays hk

theorem emitReads_stays {o a len} (hk : Stays W d₀ d) : Stays W d₀ (emitReads d o a len) := .foldl (fun _ _ k => emit_stays k) hk

theorem hostRead_stays {o a len use} (hk : Stays W d₀ d) : Stays W d₀ (hostRead d o a len use) := emitReads_stays { hk with }

theorem msixRaise_stays {o} (hk : Stays W d₀ d) : Stays W d₀ (msixRaise d o) := .ite hk (.ite (emitWA_stays { hk with }) { hk with })

theorem setConn_stays {c} (hk : Stays W d₀ d) : Stays W d₀ (setConn d c) := { hk with }

theorem postEntry_stays {cn e} (hk : Stays W d₀ d) : Stays W d₀ (postEntry d cn e) := by
  unfold postEntry
  split
  · exact hk
  · exact .ite hk (setConn_stays hk)

theorem handOwn_stays {m req} (hk : Stays W d₀ d) (hw : Allows W [.sas] := by exact .mono ‹Allows _ _› rfl) : Stays W d₀
    (handOwn d m req) := { hk with sas := hw.may rfl }

theorem takeHanded_stays {kind req ps} (hk : Stays W d₀ d) (hw : Allows W [.sas] := by exact .mono ‹Allows _ _› rfl)
    : Stays W d₀ (takeHanded d kind req ps).2 := by
  induction ps generalizing d with
  | nil => exact hk
  | cons p ps ih =>
    rw [takeHanded]
    split
    · exact ih hk
    · exact ih { hk with sas := hw.may rfl }

theorem shipped_stays {frm kind req pages} (hk : Stays W d₀ d) (hw : Allows W [.sas] := by exact .mono ‹Allows _ _› rfl)
    : Stays W d₀ (shipped d frm kind req pages).2 := .ite₂ (takeHanded_stays hk) hk

theorem sendSvcFor_stays {f m cls deadline passOn use} (hk : Stays W d₀ d) (hw : Allows W [.sas] := by exact .mono ‹Allows _ _› rfl)
    : Stays W d₀ (sendSvcFor d f m cls deadline passOn use).2 := by
  unfold sendSvcFor
  refine .ite₂ (emitWA_stays (handOwn_stays hk)) ?_
  split
  · exact hk
  · exact postEntry_stays hk

theorem sendSvc_stays {f m} (hk : Stays W d₀ d) (hw : Allows W [.sas] := by exact .mono ‹Allows _ _› rfl)
    : Stays W d₀ (sendSvc d f m).2 := sendSvcFor_stays hk

theorem pldmChange_stays {sensor state} (hk : Stays W d₀ d) : Stays W d₀ (pldmChange d sensor state) := by
  unfold pldmChange
  split
  · exact hk
  · exact .ite (emit_stays { hk with }) { hk with }

theorem setRing_stays {r} (hk : Stays W d₀ d) : Stays W d₀ (setRing d r) := { hk with }

theorem ringBreak_stays {r} (hk : Stays W d₀ d) : Stays W d₀ (ringBreak d r) := ctrAdd_stays (setRing_stays hk)

theorem startHeadRead_stays {n} (hk : Stays W d₀ d) : Stays W d₀ (startHeadRead d n) := by
  unfold startHeadRead
  split
  · exact hk
  · exact .ite hk (.ite (ringBreak_stays hk) (.ite (postEntry_stays (setRing_stays hk)) (hostRead_stays (setRing_stays hk))))

theorem faultWritten_stays {r bs} (hk : Stays W d₀ d) : Stays W d₀ (faultWritten d r bs) :=
  .ite (ctrInc_stays { hk with }) (msixRaise_stays (ctrInc_stays { hk with }))

theorem ringWriteSlot_stays {r rec} (hk : Stays W d₀ d) : Stays W d₀ (ringWriteSlot d r rec) := by
  unfold ringWriteSlot
  extract_lets _ _ _ d1 _ d2 d3 d4
  have h1 : Stays W d₀ d1 := mirrorPush_stays hk
  have h2 : Stays W d₀ d2 := setRing_stays h1
  have h3 : Stays W d₀ d3 := .ite (postEntry_stays h2) (hostWrite_stays h2)
  have h4 : Stays W d₀ d4 := .ite (ctrInc_stays h3) (.ite (faultWritten_stays h3) h3)
  exact .ite (startHeadRead_stays h4) h4

theorem ringPutRaw_stays {n rec keep} (hk : Stays W d₀ d) : Stays W d₀ (ringPutRaw d n rec keep).2 := by
  unfold ringPutRaw
  split
  · exact ctrInc_stays hk
  · exact .ite₂ (ctrInc_stays hk) (.ite₂ (ringWriteSlot_stays hk)
      (.ite₂ (startHeadRead_stays (setRing_stays hk)) (.ite₂ (setRing_stays (ctrInc_stays hk)) (ctrInc_stays hk))))

theorem faultPut_stays {o f} (hk : Stays W d₀ d) : Stays W d₀ (faultPut d o f) := by
  unfold faultPut
  split
  · exact ringPutRaw_stays hk
  · exact .ite { hk with } (ctrInc_stays hk)

theorem setAllowed_stays {k s o t} (hk : Stays W d₀ d) : Stays W d₀ (setAllowed d k s o t) := { hk with }

theorem unitPut_stays {e} (hk : Stays W d₀ d) : Stays W d₀ (unitPut d e) := setAllowed_stays { faultPut_stays hk with }

theorem detectPut_stays {o k s c d0 d1} (hk : Stays W d₀ d) : Stays W d₀ (detectPut d o k s c d0 d1) := by
  unfold detectPut
  extract_lets d1
  have h1 : Stays W d₀ d1 := ctrInc_stays hk
  exact .ite { ctrInc_stays h1 with } (.ite (unitPut_stays { h1 with }) { h1 with })

theorem tellBroken_stays {n} (hk : Stays W d₀ d) : Stays W d₀ (tellBroken n d) := by
  induction n generalizing d with
  | zero => exact hk
  | succ n ih =>
    rw [tellBroken]
    split
    · exact hk
    · exact ih (.ite (detectPut_stays (setRing_stays hk)) (ctrInc_stays (faultPut_stays (setRing_stays hk))))

theorem brokenTold_stays (hk : Stays W d₀ d) : Stays W d₀ (brokenTold d) := tellBroken_stays hk

theorem faultWrite_stays {o f} (hk : Stays W d₀ d) : Stays W d₀ (faultWrite d o f) := brokenTold_stays (faultPut_stays hk)

theorem faultOp_stays {ref cause status d0 d1} (hk : Stays W d₀ d) : Stays W d₀ (faultOp d ref cause status d0 d1) := faultWrite_stays hk

theorem faultPlain_stays {cause d0 d1} (hk : Stays W d₀ d) : Stays W d₀ (faultPlain d cause d0 d1) := faultWrite_stays hk

theorem writeUnit_stays {e} (hk : Stays W d₀ d) : Stays W d₀ (writeUnit d e) := brokenTold_stays (unitPut_stays hk)

theorem detectFor_stays {o k s c d0 d1} (hk : Stays W d₀ d) : Stays W d₀ (detectFor d o k s c d0 d1) :=
    brokenTold_stays (detectPut_stays hk)

theorem detect_stays {k s c d0 d1} (hk : Stays W d₀ d) : Stays W d₀ (detect d k s c d0 d1) := detectFor_stays hk

theorem detectDevice_stays {c d0 d1} (hk : Stays W d₀ d) : Stays W d₀ (detectDevice d c d0 d1) := detect_stays hk

theorem ringPut_stays {n rec keep} (hk : Stays W d₀ d) : Stays W d₀ (ringPut d n rec keep) := by
  unfold ringPut
  split
  next he => exact brokenTold_stays (.snd (ringPutRaw_stays hk) he)
  next he =>
    split
    · exact detect_stays (.snd (ringPutRaw_stays hk) he)
    · exact .snd (ringPutRaw_stays hk) he

theorem ringDrain_stays {n fuel} (hk : Stays W d₀ d) : Stays W d₀ (ringDrain n fuel d) := by
  induction fuel generalizing d with
  | zero => exact hk
  | succ fuel ih =>
    rw [ringDrain]
    split
    · exact hk
    · split
      · exact .ite (detectFor_stays (setRing_stays hk)) hk
      · exact .ite hk (ih (ringWriteSlot_stays hk))

theorem putCompletion_stays {ref rec keep} (hk : Stays W d₀ d) : Stays W d₀ (putCompletion d ref rec keep) :=
  .ite { hk with } (ringPut_stays hk)

theorem releaseBehind_stays (hk : Stays W d₀ d) : Stays W d₀ (releaseBehind d) := .foldl (fun _ _ k => ringPut_stays k) { hk with }

theorem complete_stays {ref status bound r0 r1} (hk : Stays W d₀ d) : Stays W d₀ (complete d ref status bound r0 r1) := by
  unfold complete
  split
  · exact .ite (putCompletion_stays hk) (ctrInc_stays hk)
  · exact ctrInc_stays hk

theorem finishOp_stays {ref status r0 r1} (hk : Stays W d₀ d) : Stays W d₀ (finishOp d ref status r0 r1) := .ite hk (complete_stays hk)

theorem refuse_stays {ref status} (hk : Stays W d₀ d) : Stays W d₀ (refuse d ref status) := complete_stays hk

/-! ## Machine/Admit.lean -/

theorem admitG_stays {op ready post} (hk : Stays W d₀ d) (hw : Allows W [.operations, .admRest] := by exact .mono ‹Allows _ _› rfl)
    : Stays W d₀ (admitG d op ready post).2 := by
  unfold admitG
  refine .ite₂ (ctrInc_stays hk) (.ite₂ (ctrInc_stays hk) (.ite₂ (ctrInc_stays hk) (.ite₂ (ctrInc_stays hk) ?_)))
  dsimp only
  split
  · exact ctrInc_stays hk
  · exact ctrInc_stays { hk with operations := hw.may rfl, admRest := hw.may rfl }

theorem acceptB_stays {op ready} (hk : Stays W d₀ d) (hw : Allows W [.operations, .admRest] := by exact .mono ‹Allows _ _› rfl)
    : Stays W d₀ (acceptB d op ready).2 := .ite₂ hk (ctrInc_stays { hk with operations := hw.may rfl, admRest := hw.may rfl })

/-- Admission or acceptance, by the class of the operation. -/
theorem admitted_stays {cls : Cls} {op : Op} {ready : List Nat} {post : Nat} {a : Admitted} (hk : Stays W d₀ d)
    (he : (match cls with | .g => admitG d op ready post | .b => acceptB d op ready) = (a, e))
    (hw : Allows W [.operations, .admRest] := by exact .mono ‹Allows _ _› rfl) : Stays W d₀ e := by
  cases cls
  · exact .snd (acceptB_stays hk) he
  · exact .snd (admitG_stays hk) he

theorem farEnd_stays {fl ret status bound} (hk : Stays W d₀ d) : Stays W d₀ (farEnd d fl ret status bound) := emitWA_stays hk

theorem admissionReply_stays {ref status bound} (hk : Stays W d₀ d) (hw : Allows W [.admRest] := by exact .mono ‹Allows _ _› rfl)
    : Stays W d₀ (admissionReply d ref status bound) :=
  .ite (complete_stays hk) { hk with admRest := hw.may rfl }

theorem farReply_stays {ref fl ret status bound} (hk : Stays W d₀ d) (hw : Allows W [.admRest] := by exact .mono ‹Allows _ _› rfl)
    : Stays W d₀ (farReply d ref fl ret status bound) :=
  .ite (farEnd_stays hk) { hk with admRest := hw.may rfl }

theorem setOp_stays {o} (hk : Stays W d₀ d) (hw : Allows W [.operations] := by exact .mono ‹Allows _ _› rfl) : Stays W d₀ (setOp d o) :=
    { hk with operations := hw.may rfl }

theorem withdraw_stays {id} (hk : Stays W d₀ d) (hw : Allows W [.ports] := by exact .mono ‹Allows _ _› rfl)
    : Stays W d₀ (withdraw d id) :=
  .ite hk { hk with ports := hw.may rfl }

theorem dropOp_stays {id} (hk : Stays W d₀ d) (hw : Allows W [.operations] := by exact .mono ‹Allows _ _› rfl)
    : Stays W d₀ (dropOp d id) := { hk with operations := hw.may rfl }

theorem jobCount_stays {o k} (hk : Stays W d₀ d) : Stays W d₀ (jobCount d o k) := ctrInc_stays hk

theorem dropMember_stays {job op} (hk : Stays W d₀ d) (hw : Allows W [.retrieval] := by exact .mono ‹Allows _ _› rfl)
    : Stays W d₀ (dropMember d job op) := { hk with retrieval := hw.may rfl }

theorem handOver_stays {o} (hk : Stays W d₀ d) (hw : Allows W [.operations] := by exact .mono ‹Allows _ _› rfl) : Stays W d₀
    (handOver d o) := by
  unfold handOver
  split
  · split
    · exact hk
    · split
      · exact .ite hk { hk with operations := hw.may rfl }
      · exact hk
  · exact hk

theorem opEnds_stays {o status} (hk : Stays W d₀ d) (hw : Allows W [.retrieval] := by exact .mono ‹Allows _ _› rfl)
    : Stays W d₀ (opEnds d o status) := by
  unfold opEnds
  split
  · exact dropMember_stays (farEnd_stays (jobCount_stays hk))
  · exact complete_stays (ctrInc_stays hk)
  · exact complete_stays hk

theorem failOp_stays {o cause status} (hk : Stays W d₀ d) (hw : Allows W [.operations, .ports,
    .retrieval] := by exact .mono ‹Allows _ _› rfl) : Stays W d₀ (failOp d o cause status) := by
  unfold failOp
  extract_lets d1 d2 d3
  have h1 : Stays W d₀ d1 := withdraw_stays (dropOp_stays (handOver_stays hk))
  have h2 : Stays W d₀ d2 := .ite (ctrInc_stays h1) h1
  have h3 : Stays W d₀ d3 := faultOp_stays h2
  exact opEnds_stays h3

theorem endOp_stays {o status} (hk : Stays W d₀ d) (hw : Allows W [.operations, .ports, .retrieval] := by exact .mono ‹Allows _ _› rfl)
    : Stays W d₀ (endOp d o status) :=
  opEnds_stays (withdraw_stays (dropOp_stays (handOver_stays hk)))

theorem stopOp_stays {o cause status} (hk : Stays W d₀ d) (hw : Allows W [.operations, .ports,
    .retrieval] := by exact .mono ‹Allows _ _› rfl) : Stays W d₀ (stopOp d o cause status) := .ite (failOp_stays hk) (endOp_stays hk)

theorem noteOverrun_stays {o s extra} (hk : Stays W d₀ d) (hw : Allows W [.operations] := by exact .mono ‹Allows _ _› rfl)
    : Stays W d₀ (noteOverrun d o s extra).2 := .ite₂ (ctrInc_stays (setOp_stays hk)) hk

theorem failAll_stays {p cause status} (hk : Stays W d₀ d) (hw : Allows W [.operations, .ports,
    .retrieval] := by exact .mono ‹Allows _ _› rfl) : Stays W d₀ (failAll d p cause status) := .foldl (fun _ _ k => failOp_stays k) hk

/-! ## Machine/Operands.lean -/

theorem dropTaken_stays {t} (hk : Stays W d₀ d) (hw : Allows W [.taken] := by exact .mono ‹Allows _ _› rfl)
    : Stays W d₀ (dropTaken d t) := { hk with taken := hw.may rfl }

theorem refuseTaken_stays {t st} (hk : Stays W d₀ d) (hw : Allows W [.taken, .admRest] := by exact .mono ‹Allows _ _› rfl)
    : Stays W d₀ (refuseTaken d t st) := by
  unfold refuseTaken
  extract_lets d1 d2
  have h1 : Stays W d₀ d1 := .ite (ctrInc_stays (dropTaken_stays hk)) (dropTaken_stays hk)
  have h2 : Stays W d₀ d2 := .ite (ctrInc_stays h1) h1
  exact .ite (admissionReply_stays h2) (refuse_stays h2)

theorem expire_stays {ref} (hk : Stays W d₀ d) : Stays W d₀ (expire d ref) := complete_stays (ctrInc_stays hk)

theorem onTaken_leaves {l q form s} {f : Dev → Taken → Dev} (hf : ∀ {d₀ d t}, Stays W d₀ d → Stays W d₀ (f d t)) :
    Leaves W s (onTaken l q form f s) :=
  onDev_leaves fun hk => by
    split
    · exact .ite (hf hk) hk
    · exact hk

/-! ## Machine/FabOps.lean -/

theorem setRun_stays {r} (hk : Stays W d₀ d) (hw : Allows W [.fabric] := by exact .mono ‹Allows _ _› rfl) : Stays W d₀ (setRun d r) :=
    { hk with fabric := hw.may rfl }

theorem sampleShadow_stays {kind slot layer pins served} (hk : Stays W d₀ d) (hw : Allows W [.fabric] := by exact .mono ‹Allows _ _› rfl)
    : Stays W d₀ (sampleShadow d kind slot layer pins served) := by
  unfold sampleShadow
  refine .ite hk (.ite (freeNext_stays hk) ?_)
  dsimp only
  split
  · exact ctrInc_stays (ctrInc_stays (freeNext_stays hk))
  · split
    · exact ctrInc_stays (ctrInc_stays (freeNext_stays hk))
    · split
      · exact ctrInc_stays (ctrInc_stays (freeNext_stays hk))
      · exact .ite (ctrInc_stays (ctrInc_stays (freeNext_stays hk))) { ctrInc_stays (freeNext_stays hk) with fabric := hw.may rfl }

theorem jobDone_stays {o kind pins} (hk : Stays W d₀ d) (hw : Allows W [.fabric] := by exact .mono ‹Allows _ _› rfl)
    : Stays W d₀ (jobDone d o kind pins) :=
  sampleShadow_stays (jobCount_stays (jobCount_stays hk))

/-! ## Machine/SasOps.lean -/

theorem clearPoison_stays {n ph} (hk : Stays W d₀ d) (hw : Allows W [.stk] := by exact .mono ‹Allows _ _› rfl)
    : Stays W d₀ (clearPoison d n ph) := { hk with stk := hw.may rfl }

theorem dropUnitSlot_stays {f} (hk : Stays W d₀ d) (hw : Allows W [.bob] := by exact .mono ‹Allows _ _› rfl)
    : Stays W d₀ (dropUnitSlot d f) := by
  unfold dropUnitSlot
  split
  · exact hk
  · split
    · exact hk
    · exact { hk with bob := hw.may rfl }

theorem mapStack_stays {f} (hk : Stays W d₀ d) (he : mapStack d f = some e) (hw : Allows W [.sas, .stk,
    .bob] := by exact .mono ‹Allows _ _› rfl) : Stays W d₀ e := by
  unfold mapStack at he
  split at he
  · cases he
  · cases he
    exact { clearPoison_stays (dropUnitSlot_stays (.ite hk (ctrInc_stays hk))) with sas := hw.may rfl }

theorem mapFrame_stays {f} (hk : Stays W d₀ d) (he : mapFrame d f = some e) (hw : Allows W [.sas, .stk,
    .bob] := by exact .mono ‹Allows _ _› rfl) : Stays W d₀ e := by
  unfold mapFrame at he
  split at he
  · exact mapStack_stays hk he
  · split at he
    · cases he; exact hk
    · split at he
      · cases he
      · obtain ⟨x, hx, rfl⟩ := Option.map_eq_some_iff.mp he
        exact ctrInc_stays { mapStack_stays hk hx with sas := hw.may rfl }

theorem mapAll_stays {fs} (hk : Stays W d₀ d) (he : mapAll d fs = some e) (hw : Allows W [.sas, .stk,
    .bob] := by exact .mono ‹Allows _ _› rfl) : Stays W d₀ e := by
  induction fs generalizing d with
  | nil => cases he; exact hk
  | cons f fs ih =>
    rw [mapAll] at he
    split at he
    · cases he
    · next hx => exact ih (mapFrame_stays hk hx) he

theorem unmapFrames_stays {owner fs} (hk : Stays W d₀ d) (hw : Allows W [.sas, .bob] := by exact .mono ‹Allows _ _› rfl)
    : Stays W d₀ (unmapFrames d owner fs) :=
  have h : Stays W d₀ ((fs.filter _).foldl dropUnitSlot d) := .foldl (fun _ _ k => dropUnitSlot_stays k) hk
  .ite hk (mirrorPush_stays { h with sas := hw.may rfl, workWf := fun hm => memWf_filter _ _ _ (h.workWf hm) })

theorem sasMirror_stays {owner a bs} (hk : Stays W d₀ d) : Stays W d₀ (sasMirror d owner a bs) :=
  .ite (.foldl (fun _ _ k => mirrorPush_stays k) hk) hk

theorem unpoison_stays {a n} (hk : Stays W d₀ d) (hw : Allows W [.stk] := by exact .mono ‹Allows _ _› rfl)
    : Stays W d₀ (unpoison d a n) := .foldl (fun _ _ k => { k with stk := hw.may rfl }) hk

theorem workWrite_stays {o a bs} (hk : Stays W d₀ d) (he : workWrite d o a bs = some e) (hw : Allows W [.sas, .stk,
    .bob] := by exact .mono ‹Allows _ _› rfl) : Stays W d₀ e := by
  unfold workWrite at he
  split at he
  · cases he
  · next hx =>
    cases he
    have h := unpoison_stays (a := a) (n := bs.length) (mapAll_stays hk hx)
    exact sasMirror_stays { h with sas := hw.may rfl, workWf := fun hm => memWf_writeN _ _ _ _ (h.workWf hm) }

theorem workFree_stays {owner a n} (hk : Stays W d₀ d) (hw : Allows W [.sas, .bob] := by exact .mono ‹Allows _ _› rfl)
    : Stays W d₀ (workFree d owner a n) := unmapFrames_stays hk

theorem setPoison_stays {a on} (hk : Stays W d₀ d) (hw : Allows W [.stk] := by exact .mono ‹Allows _ _› rfl)
    : Stays W d₀ (setPoison d a on) := by
  unfold setPoison
  split
  · exact hk
  · exact { hk with stk := hw.may rfl }

theorem mirrorDirs_stays {was k} (hk : Stays W d₀ d) : Stays W d₀ (mirrorDirs d was k) := by
  unfold mirrorDirs
  refine .ite hk ?_
  extract_lets d1
  have h1 : Stays W d₀ d1 := sasMirror_stays hk
  exact .foldl (fun _ _ k => .ite (.ite k (sasMirror_stays k)) (sasMirror_stays (.ite k (sasMirror_stays k)))) h1

theorem setSkein_stays {k} (hk : Stays W d₀ d) (hw : Allows W [.sas] := by exact .mono ‹Allows _ _› rfl) : Stays W d₀ (setSkein d k) :=
    mirrorDirs_stays { hk with sas := hw.may rfl }

theorem unpoisonMeta_stays {k l p groups} (hk : Stays W d₀ d) (hw : Allows W [.stk] := by exact .mono ‹Allows _ _› rfl)
    : Stays W d₀ (unpoisonMeta d k l p groups) := by
  unfold unpoisonMeta
  extract_lets d1 d2
  have h1 : Stays W d₀ d1 := unpoison_stays (unpoison_stays hk)
  have h2 : Stays W d₀ d2 := .foldl (fun _ _ k => unpoison_stays k) h1
  exact .foldl (fun _ _ k => unpoison_stays k) h2

theorem mirrorRef_stays {k r b} (hk : Stays W d₀ d) : Stays W d₀ (mirrorRef d k r b) :=
  .foldl (fun _ _ k => sasMirror_stays k) (sasMirror_stays (sasMirror_stays hk))

theorem mirrorPage_stays {k r b groups} (hk : Stays W d₀ d) : Stays W d₀ (mirrorPage d k r b groups) :=
  .ite hk (.foldl (fun _ _ k => sasMirror_stays k) (mirrorRef_stays (.foldl (fun _ _ k => sasMirror_stays k) hk)))

theorem collect_stays (hk : Stays W d₀ d) (hw : Allows W [.sas, .bob] := by exact .mono ‹Allows _ _› rfl) : Stays W d₀ (collect d) := by
  unfold collect
  extract_lets _ d1 _ _ d2
  have h1 : Stays W d₀ d1 := { hk with sas := hw.may rfl }
  have h2 : Stays W d₀ d2 := .foldl (fun _ _ k => unmapFrames_stays { k with sas := hw.may rfl }) h1
  exact .foldl (fun _ _ k => .ite { unmapFrames_stays k with sas := hw.may rfl } (unmapFrames_stays k)) h2

theorem placeRefused_stays (hk : Stays W d₀ d) : Stays W d₀ (placeRefused d).2 := ctrInc_stays hk

theorem storePage_stays {k p inStream thin r} (hk : Stays W d₀ d) (he : storePage d k p inStream thin = .inr r) (hw : Allows W [.sas,
    .stk, .bob] := by exact .mono ‹Allows _ _› rfl) : Stays W d₀ r.2 := by
  unfold storePage at he
  extract_lets at he
  dsimp only at he
  split at he
  · cases he
  · next hx =>
    cases he
    exact mirrorPage_stays { unpoisonMeta_stays (.foldl (fun _ _ k => unpoison_stays k) (mapAll_stays hk hx)) with sas := hw.may rfl }

theorem placeEarly_stays {l fuel k} (hk : Stays W d₀ d) (hw : Allows W [.sas, .stk, .bob] := by exact .mono ‹Allows _ _› rfl)
    : Stays W d₀ (placeEarly l fuel k d).2 := by
  induction fuel generalizing k d with
  | zero => exact hk
  | succ fuel ih =>
    rw [placeEarly]
    split
    · exact hk
    · split
      · exact hk
      · next he => exact ih (storePage_stays hk he)

theorem resummarize_stays {k p} (hk : Stays W d₀ d) (hw : Allows W [.fabric] := by exact .mono ‹Allows _ _› rfl)
    : Stays W d₀ (resummarize d k p).2 := jobDone_stays hk

theorem placePage_stays {k p summed} (hk : Stays W d₀ d) (hw : Allows W [.sas, .stk, .bob, .fabric] := by exact .mono ‹Allows _ _› rfl)
    : Stays W d₀ (placePage d k p summed).2.2 := by
  unfold placePage
  refine .ite₃ hk (.ite₃ (placeRefused_stays hk) ?_)
  extract_lets _ finish _ k1
  have h_finish : ∀ {o cow}, (∀ r, o = .inr r → Stays W d₀ (Prod.snd r)) → Stays W d₀ (finish o cow).2.2 := by
    intro o cow ho
    unfold finish
    split
    · exact placeRefused_stays hk
    · exact faultOp_stays hk
    · exact placeEarly_stays (.ite (ctrInc_stays (ho _ rfl)) (ho _ rfl))
  have h_store {d k p b} (hk : Stays W d₀ d) : ∀ r, storePage d k p b false = .inr r → Stays W d₀ r.2 := fun _ he => storePage_stays hk he
  split
  · exact .ite₃ (h_finish (h_store hk)) (.ite₃ hk (h_finish (h_store hk)))
  · refine .ite₃ (h_finish (h_store hk)) (.ite₃ ?_ (h_finish (h_store hk)))
    split
    next he => exact h_finish (h_store (.snd (resummarize_stays hk) he))

theorem prefixInsert_stays {k block h} (hk : Stays W d₀ d) (hw : Allows W [.sas] := by exact .mono ‹Allows _ _› rfl)
    : Stays W d₀ (prefixInsert d k block h) := by
  unfold prefixInsert
  refine .ite hk ?_
  dsimp only
  split
  · exact ctrInc_stays hk
  · exact sasMirror_stays { hk with sas := hw.may rfl }

theorem prefixRemove_stays {k} (hk : Stays W d₀ d) (hw : Allows W [.sas] := by exact .mono ‹Allows _ _› rfl)
    : Stays W d₀ (prefixRemove d k) := .foldl (fun _ _ k => sasMirror_stays k) { hk with sas := hw.may rfl }

theorem prefixLookup_stays {k hs i} (hk : Stays W d₀ d) : Stays W d₀ (prefixLookup k hs i d).2 := by
  induction hs generalizing i with
  | nil => exact hk
  | cons h hs ih =>
    rw [prefixLookup]
    split
    · exact hk
    · split
      · exact detect_stays hk
      · split
        · exact hk
        · split
          · exact ctrInc_stays hk
          · exact ih

theorem freeSkein_stays {k} (hk : Stays W d₀ d) (hw : Allows W [.sas, .bob] := by exact .mono ‹Allows _ _› rfl)
    : Stays W d₀ (freeSkein d k) := by
  unfold freeSkein
  extract_lets d1 _ d2 d3 _ d4
  have h1 : Stays W d₀ d1 := prefixRemove_stays hk
  have h2 : Stays W d₀ d2 := { h1 with sas := hw.may rfl }
  have h3 : Stays W d₀ d3 := sasMirror_stays h2
  have h4 : Stays W d₀ d4 := .ite (ctrInc_stays { h3 with sas := hw.may rfl }) h3
  exact collect_stays h4

theorem onDevC_leaves {f : Dev → Dev} {s} (hf : ∀ {d₀ d}, Stays W d₀ d → Stays W d₀ (f d)) (hw : Allows W [.sas,
    .bob] := by exact .mono ‹Allows _ _› rfl) : Leaves W s (onDevC f s) :=
  onDev_leaves fun hk => collect_stays (hf hk)

/-! ## Machine/WeftOps.lean -/

theorem pnWarning_stays {sa} (hk : Stays W d₀ d) : Stays W d₀ (pnWarning d sa) := .ite (detect_stays { hk with }) hk

theorem takePn_stays {sa r} (hk : Stays W d₀ d) (he : takePn d sa = some r) : Stays W d₀ r.2 := by
  unfold takePn at he
  split at he
  · cases he
  · split at he
    · cases he; exact pnWarning_stays (usePn_stays hk ‹_›)
    · cases he

theorem setPort_stays {p x} (hk : Stays W d₀ d) (hw : Allows W [.ports] := by exact .mono ‹Allows _ _› rfl)
    : Stays W d₀ (setPort d p x) := { hk with ports := hw.may rfl }

theorem queueFrame_stays {p f} (hk : Stays W d₀ d) (hw : Allows W [.ports] := by exact .mono ‹Allows _ _› rfl)
    : Stays W d₀ (queueFrame d p f) := setPort_stays hk

theorem sendPacket_stays {c path vc h pl size key dep ackAt} (hk : Stays W d₀ d)
    (hw : Allows W [.ports] := by exact .mono ‹Allows _ _› rfl) :
    Stays W d₀ (sendPacket d c path vc h pl size key dep ackAt) := by
  unfold sendPacket
  split
  · exact hk
  next he => exact ctrInc_stays (queueFrame_stays (takePn_stays hk he))

theorem respond_stays {c op msn arrival payload} (hk : Stays W d₀ d) (hw : Allows W [.ports] := by exact .mono ‹Allows _ _› rfl)
    : Stays W d₀ (respond d c op msn arrival payload) :=
  sendPacket_stays (.ite (ctrInc_stays hk) hk)

theorem setTracker_stays {t} (hk : Stays W d₀ d) (hw : Allows W [.trackers] := by exact .mono ‹Allows _ _› rfl)
    : Stays W d₀ (setTracker d t) := { hk with trackers := hw.may rfl }

theorem dropTracker_stays {t} (hk : Stays W d₀ d) (hw : Allows W [.trackers] := by exact .mono ‹Allows _ _› rfl)
    : Stays W d₀ (dropTracker d t) := { hk with trackers := hw.may rfl }

theorem markDone_stays {cn m} (hk : Stays W d₀ d) : Stays W d₀ (markDone d cn m) := by
  unfold markDone
  split
  · exact hk
  · exact setConn_stays hk

theorem wakeFlushes_stays {cn fuel} (hk : Stays W d₀ d) (hw : Allows W [.trackers, .ports] := by exact .mono ‹Allows _ _› rfl)
    : Stays W d₀ (wakeFlushes cn fuel d) := by
  induction fuel generalizing d with
  | zero => exact hk
  | succ fuel ih =>
    rw [wakeFlushes]
    split
    · exact hk
    · split
      · exact hk
      · extract_lets _ d1 d2 d3
        have h2 : Stays W d₀ d2 := markDone_stays (setConn_stays (dropTracker_stays hk))
        refine ih ?_
        unfold d3
        split
        · exact respond_stays h2
        · exact h2

theorem answerMsg_stays {t status done bad} (hk : Stays W d₀ d) (hw : Allows W [.trackers, .ports] := by exact .mono ‹Allows _ _› rfl)
    : Stays W d₀ (answerMsg d t status done bad) := by
  unfold answerMsg
  extract_lets d1 d2
  have h1 : Stays W d₀ d1 := dropTracker_stays hk
  have h2 : Stays W d₀ d2 := .ite (markDone_stays h1) h1
  split
  · exact h2
  · exact wakeFlushes_stays (respond_stays (setConn_stays h2))

theorem svcAnswer_stays {frm kind status} (hk : Stays W d₀ d) (hw : Allows W [.trackers, .ports] := by exact .mono ‹Allows _ _› rfl)
    : Stays W d₀ (svcAnswer d frm kind status) := by
  unfold svcAnswer
  split
  · exact hk
  · exact answerMsg_stays hk

/-! ## Machine/ReqOps.lean -/

theorem setReq_stays {r} (hk : Stays W d₀ d) (hw : Allows W [.requests] := by exact .mono ‹Allows _ _› rfl) : Stays W d₀ (setReq d r) :=
    mirrorPush_stays { hk with requests := hw.may rfl }

theorem addReq_stays {r} (hk : Stays W d₀ d) (hw : Allows W [.requests] := by exact .mono ‹Allows _ _› rfl) : Stays W d₀ (addReq d r) :=
    mirrorPush_stays { hk with requests := hw.may rfl }

theorem freeSpans_stays {owner b} (hk : Stays W d₀ d) (hw : Allows W [.sas, .bob] := by exact .mono ‹Allows _ _› rfl)
    : Stays W d₀ (freeSpans d owner b) := by
  unfold freeSpans
  split
  · exact hk
  · split
    · exact hk
    · exact workFree_stays { hk with sas := hw.may rfl }

theorem freeReqNow_stays {r} (hk : Stays W d₀ d) (hw : Allows W [.requests, .reqsRest, .sas, .bob] := by exact .mono ‹Allows _ _› rfl)
    : Stays W d₀ (freeReqNow d r) := by
  unfold freeReqNow
  extract_lets d1 d2 _ d3 _ d4 d5
  have h1 : Stays W d₀ d1 := freeSpans_stays (freeSpans_stays hk)
  have h2 : Stays W d₀ d2 := .ite h1 (workFree_stays h1)
  have h3 : Stays W d₀ d3 := { h2 with requests := hw.may rfl, reqsRest := hw.may rfl, sas := hw.may rfl }
  have h4 : Stays W d₀ d4 := .ite h3 { h3 with requests := hw.may rfl, reqsRest := hw.may rfl, sas := hw.may rfl }
  have h5 : Stays W d₀ d5 := mirrorPush_stays h4
  exact .ite (ctrInc_stays { h5 with requests := hw.may rfl, reqsRest := hw.may rfl, sas := hw.may rfl }) h5

theorem freeReq_stays {r} (hk : Stays W d₀ d) (hw : Allows W [.requests, .reqsRest, .sas, .bob] := by exact .mono ‹Allows _ _› rfl)
    : Stays W d₀ (freeReq d r) := .ite (setReq_stays hk) (freeReqNow_stays hk)

theorem putEnd_stays {r bs} (hk : Stays W d₀ d) : Stays W d₀ (putEnd d r bs) := by
  unfold putEnd
  split
  · exact .ite (ringPut_stays hk) (ctrInc_stays hk)
  · exact ctrInc_stays hk

theorem sendEnd_stays {r bs} (hk : Stays W d₀ d) : Stays W d₀ (sendEnd d r bs).2 := by
  unfold sendEnd
  split
  · exact .ite₂ (postEntry_stays hk) (putEnd_stays hk)
  · exact putEnd_stays hk

theorem writeEnd_stays {r status cause cancelAck} (hk : Stays W d₀ d) : Stays W d₀ (writeEnd d r status cause cancelAck).2 :=
  .ite₂ hk (sendEnd_stays hk)

theorem sendEnds_stays (hk : Stays W d₀ d) (hw : Allows W [.requests] := by exact .mono ‹Allows _ _› rfl) : Stays W d₀ (sendEnds d) :=
    .foldl (fun _ _ k => .ite k (setReq_stays (sendEnd_stays k))) hk

theorem freeWritten_stays (hk : Stays W d₀ d) (hw : Allows W [.requests, .reqsRest, .sas, .bob] := by exact .mono ‹Allows _ _› rfl)
    : Stays W d₀ (freeWritten d) := .foldl (fun _ _ k => .ite k (freeReqNow_stays k)) hk

theorem ringsMoved_stays (hk : Stays W d₀ d) (hw : Allows W [.requests, .reqsRest, .sas, .bob] := by exact .mono ‹Allows _ _› rfl)
    : Stays W d₀ (ringsMoved d) := freeWritten_stays (sendEnds_stays (releaseBehind_stays hk))

theorem settleSteps_stays {r} (hk : Stays W d₀ d) : Stays W d₀ (settleSteps d r).2 := .foldl (fun _ _ k => complete_stays k) hk

theorem sendAbort_stays {r} (hk : Stays W d₀ d) (hw : Allows W [.sas] := by exact .mono ‹Allows _ _› rfl) : Stays W d₀ (sendAbort d r) :=
    sendSvc_stays hk

theorem endReq_stays {r status cause cancelAck} (hk : Stays W d₀ d) (hw : Allows W [.requests] := by exact .mono ‹Allows _ _› rfl)
    : Stays W d₀ (endReq d r status cause cancelAck).2 :=
  setReq_stays (settleSteps_stays (writeEnd_stays hk))

theorem endAbort_stays {r status cause cancelAck} (hk : Stays W d₀ d) (hw : Allows W [.requests, .sas] := by exact .mono ‹Allows _ _› rfl)
    : Stays W d₀ (endAbort d r status cause cancelAck) :=
  .ite (setReq_stays (endReq_stays hk)) (sendAbort_stays (endReq_stays hk))

theorem endFree_stays {r status} (hk : Stays W d₀ d) (hw : Allows W [.requests, .reqsRest, .sas, .bob] := by exact .mono ‹Allows _ _› rfl)
    : Stays W d₀ (endFree d r status) := freeReq_stays (endReq_stays hk)

/-! ## Machine/BobOps.lean -/

theorem setTarget_stays {t x} (hk : Stays W d₀ d) (hw : Allows W [.bob] := by exact .mono ‹Allows _ _› rfl)
    : Stays W d₀ (setTarget d t x) := { hk with bob := hw.may rfl }

theorem modBlock_stays {t lun blk f} (hk : Stays W d₀ d) (hw : Allows W [.bob] := by exact .mono ‹Allows _ _› rfl)
    : Stays W d₀ (modBlock d t lun blk f) := setTarget_stays hk

theorem setUnit_stays {u} (hk : Stays W d₀ d) (hw : Allows W [.bob] := by exact .mono ‹Allows _ _› rfl) : Stays W d₀ (setUnit d u) :=
    { hk with bob := hw.may rfl }

theorem pumpReads_stays (hk : Stays W d₀ d) (hw : Allows W [.bob] := by exact .mono ‹Allows _ _› rfl) : Stays W d₀ (pumpReads d) :=
    .foldl (fun _ _ k => .ite k { k with bob := hw.may rfl }) hk

theorem addRead_stays {unit cls deadline use} (hk : Stays W d₀ d) (hw : Allows W [.bob] := by exact .mono ‹Allows _ _› rfl)
    : Stays W d₀ (addRead d unit cls deadline use) :=
  have h : Stays W d₀ (if d.bob.reads.any _ then ctrInc d cBobPreempt else d) := .ite (ctrInc_stays hk) hk
  .ite hk (pumpReads_stays { h with bob := hw.may rfl })

theorem emitHeader_stays {t b} (hk : Stays W d₀ d) : Stays W d₀ (emitHeader d t b) := emit_stays hk

theorem nextPageOf_stays {t r} (hk : Stays W d₀ d) (he : nextPageOf d t = some r)
    (hw : Allows W [.bob] := by exact .mono ‹Allows _ _› rfl) : Stays W d₀ r.2.2.2 := by
  unfold nextPageOf at he
  extract_lets at he
  split at he
  · cases he
  · split at he
    · cases he; exact modBlock_stays hk
    · obtain ⟨b, _, rfl⟩ := Option.map_eq_some_iff.mp he
      exact modBlock_stays (emitHeader_stays hk)

theorem nextPlace_stays {fuel r} (hk : Stays W d₀ d) (he : nextPlace d fuel = some r)
    (hw : Allows W [.bob] := by exact .mono ‹Allows _ _› rfl) : Stays W d₀ r.2.2.2.2 := by
  induction fuel generalizing d with
  | zero => cases he
  | succ fuel ih =>
    rw [nextPlace] at he
    have h1 : Stays W d₀ { d with bob := { d.bob with rot := (d.bob.rot + 1) % 128 } } := { hk with bob := hw.may rfl }
    split at he
    · next hx => cases he; exact nextPageOf_stays h1 hx
    · exact ih h1 he

theorem emitUnit_stays {u} (hk : Stays W d₀ d) : Stays W d₀ (emitUnit d u) := emit_stays hk

theorem programUnit_stays {key slots source r} (hk : Stays W d₀ d) (he : programUnit d key slots source = some r)
    (hw : Allows W [.bob] := by exact .mono ‹Allows _ _› rfl) : Stays W d₀ r.2 := by
  unfold programUnit at he
  split at he
  · cases he
  · next hx =>
    cases he
    exact emitUnit_stays { nextPlace_stays hk hx with bob := hw.may rfl }

theorem programUnits_stays {key ss r} (hk : Stays W d₀ d) (he : programUnits key ss d = some r)
    (hw : Allows W [.bob] := by exact .mono ‹Allows _ _› rfl) : Stays W d₀ r.2 := by
  induction ss generalizing d r with
  | nil => cases he; exact hk
  | cons s ss ih =>
    rw [programUnits] at he
    split at he
    · cases he
    · next hx =>
      obtain ⟨x, hy, rfl⟩ := Option.map_eq_some_iff.mp he
      exact ih (r := x) (programUnit_stays hk hx) hy

theorem dropEmptyUnits_stays (hk : Stays W d₀ d) (hw : Allows W [.bob] := by exact .mono ‹Allows _ _› rfl)
    : Stays W d₀ (dropEmptyUnits d) := { hk with bob := hw.may rfl }

theorem startErases_stays (hk : Stays W d₀ d) (hw : Allows W [.bob] := by exact .mono ‹Allows _ _› rfl) : Stays W d₀ (startErases d) :=
    { hk with bob := hw.may rfl }

theorem pumpBob_stays (hk : Stays W d₀ d) (hw : Allows W [.bob] := by exact .mono ‹Allows _ _› rfl) : Stays W d₀ (pumpBob d) := by
  unfold pumpBob
  extract_lets d1 _ d2
  have h1 : Stays W d₀ d1 := startErases_stays (dropEmptyUnits_stays hk)
  have h2 : Stays W d₀ d2 := .ite { h1 with bob := hw.may rfl } h1
  exact pumpReads_stays h2

theorem doomBlock_stays {t lun blk byGc} (hk : Stays W d₀ d) (hw : Allows W [.bob] := by exact .mono ‹Allows _ _› rfl)
    : Stays W d₀ (doomBlock d t lun blk byGc) :=
  pumpBob_stays (.foldl (fun _ _ k => addRead_stays k) (modBlock_stays hk))

theorem relocBlock_stays {t lun blk ctr} (hk : Stays W d₀ d) (hw : Allows W [.bob] := by exact .mono ‹Allows _ _› rfl)
    : Stays W d₀ (relocBlock d t lun blk ctr) := by
  unfold relocBlock
  split
  · exact .ite (doomBlock_stays (ctrInc_stays hk)) hk
  · exact hk

theorem promoteFrame_stays {f op walk cls deadline} (hk : Stays W d₀ d) (hw : Allows W [.sas, .bob] := by exact .mono ‹Allows _ _› rfl)
    : Stays W d₀ (promoteFrame d f op walk cls deadline).2 := by
  unfold promoteFrame
  split
  · exact hk
  · split
    · exact hk
    · split
      · exact hk
      · exact .ite (.ite hk { hk with sas := hw.may rfl }) (addRead_stays (.ite hk { hk with sas := hw.may rfl }))

theorem promoteAll_stays {fs op walk cls dl} (hk : Stays W d₀ d) (hw : Allows W [.sas, .bob] := by exact .mono ‹Allows _ _› rfl)
    : Stays W d₀ (promoteAll fs op walk cls dl d).2 :=
  .foldl₂ (fun r _ k => by
    split
    · exact k
    · exact promoteFrame_stays k) hk

theorem startWalk_stays {slot l} (hk : Stays W d₀ d) (hw : Allows W [.sas, .bob] := by exact .mono ‹Allows _ _› rfl)
    : Stays W d₀ (startWalk d slot l) := by
  unfold startWalk
  split
  · exact hk
  · exact .ite hk (.foldl (fun _ _ k => promoteFrame_stays k) (ctrInc_stays (setSkein_stays hk)))

theorem jobWalks_stays {k l} (hk : Stays W d₀ d) (hw : Allows W [.sas, .bob] := by exact .mono ‹Allows _ _› rfl)
    : Stays W d₀ (jobWalks d k l) := by
  unfold jobWalks
  extract_lets _ d1
  have h1 : Stays W d₀ d1 := .foldl (fun _ _ k => startWalk_stays k) hk
  exact .ite h1 (startWalk_stays h1)

theorem countWait_stays {c} (hk : Stays W d₀ d) : Stays W d₀ (countWait d c) := ctrInc_stays hk

/-! ## Machine/GenOps.lean -/

theorem peerSlot_stays {f} (hk : Stays W d₀ d) (hw : Allows W [.fltRest] := by exact .mono ‹Allows _ _› rfl)
    : Stays W d₀ (peerSlot d f).2 := by
  unfold peerSlot
  extract_lets _ d1
  have h : Stays W d₀ d1 := .ite { hk with fltRest := hw.may rfl } hk
  refine .ite₂ h ?_
  split
  · exact h
  · exact .ite₂ h { h with fltRest := hw.may rfl }

theorem peerCount_stays {f g} (hk : Stays W d₀ d) (hw : Allows W [.fltRest] := by exact .mono ‹Allows _ _› rfl)
    : Stays W d₀ (peerCount d f g) := { peerSlot_stays hk with fltRest := hw.may rfl }

theorem barrierDone_stays {senders window} (hk : Stays W d₀ d) (hw : Allows W [.fltRest] := by exact .mono ‹Allows _ _› rfl)
    : Stays W d₀ (barrierDone d senders window) := by
  unfold barrierDone
  extract_lets d1
  have h1 : Stays W d₀ d1 := by
    unfold d1
    split
    · exact peerCount_stays hk
    · exact hk
  exact .foldl (fun _ _ k => peerCount_stays k) h1

theorem stepInput_stays {r step f} (hk : Stays W d₀ d) (hw : Allows W [.fltRest] := by exact .mono ‹Allows _ _› rfl)
    : Stays W d₀ (stepInput d r step f).2 := .ite₂ (barrierDone_stays hk) hk

theorem appendFault_stays {r} (hk : Stays W d₀ d) : Stays W d₀ (appendFault d r) := faultOp_stays hk

theorem sendRelease_stays {r} (hk : Stays W d₀ d) (hw : Allows W [.requests, .sas] := by exact .mono ‹Allows _ _› rfl)
    : Stays W d₀ (sendRelease d r) := sendSvc_stays (setReq_stays hk)

theorem shipNext_stays {r} (hk : Stays W d₀ d) (hw : Allows W [.requests, .sas] := by exact .mono ‹Allows _ _› rfl)
    : Stays W d₀ (shipNext d r) := by
  unfold shipNext
  refine .ite (setReq_stays hk) (.ite (.ite (setReq_stays ?_) ?_) (.ite (sendRelease_stays hk) (setReq_stays hk)))
  · dsimp only
    split
    · exact .ite (sendSvc_stays hk) (postEntry_stays (sendSvc_stays hk))
    · exact sendSvc_stays hk
  · exact .ite (sendRelease_stays (appendFault_stays hk)) (setReq_stays (appendFault_stays hk))

theorem dropOldest_stays {r} (hk : Stays W d₀ d) (hw : Allows W [.sas, .bob] := by exact .mono ‹Allows _ _› rfl)
    : Stays W d₀ (dropOldest d r).2 := unmapFrames_stays hk

theorem appendDone_stays {r ok} (hk : Stays W d₀ d) (hw : Allows W [.requests, .sas, .bob] := by exact .mono ‹Allows _ _› rfl)
    : Stays W d₀ (appendDone d r ok) := by
  unfold appendDone
  split
  · exact hk
  · exact .ite (shipNext_stays (dropOldest_stays hk)) (.ite (setReq_stays hk) (shipNext_stays (.ite hk (appendFault_stays hk))))

theorem genEnd_stays {r status cause ack} (hk : Stays W d₀ d) (hw : Allows W [.requests, .sas] := by exact .mono ‹Allows _ _› rfl)
    : Stays W d₀ (genEnd d r status cause ack) :=
  .ite (sendAbort_stays (endReq_stays hk)) (shipNext_stays (endReq_stays hk))

theorem genFault_stays {r fc status} (hk : Stays W d₀ d) (hw : Allows W [.requests, .sas] := by exact .mono ‹Allows _ _› rfl)
    : Stays W d₀ (genFault d r fc status) := genEnd_stays (faultOp_stays hk)

theorem commitToken_stays {r tok stamp first} (hk : Stays W d₀ d) (hw : Allows W [.fltRest, .requests,
    .sas] := by exact .mono ‹Allows _ _› rfl) : Stays W d₀ (commitToken d r tok stamp first) := by
  unfold commitToken
  extract_lets _ _ _ _ _ _ _ _ met _ _ _ _ _ _ d1 d2 _ d3 d4
  have h1 : Stays W d₀ d1 := .ite (ctrInc_stays hk) hk
  have h2 : Stays W d₀ d2 := .ite (ctrInc_stays h1) h1
  have h4 : Stays W d₀ d4 := setReq_stays (ctrInc_stays { h2 with fltRest := hw.may rfl })
  clear_value met
  split
  extract_lets _ d5
  have h5 : Stays W d₀ d5 := by
    unfold d5
    split
    · exact .ite (ringPut_stays h4) (ctrInc_stays h4)
    · exact ctrInc_stays h4
  split
  · exact genEnd_stays (.ite h5 (ctrInc_stays h5))
  · exact .ite (genEnd_stays h5) (.ite (genFault_stays h5) (.ite (shipNext_stays h5) (setReq_stays h5)))

theorem genReady_stays {r} (hk : Stays W d₀ d) (hw : Allows W [.fltRest, .requests] := by exact .mono ‹Allows _ _› rfl)
    : Stays W d₀ (genReady d r) := .ite (barrierDone_stays (setReq_stays hk)) (setReq_stays hk)

theorem genFlushed_stays {r frm} (hk : Stays W d₀ d) (hw : Allows W [.fltRest, .requests] := by exact .mono ‹Allows _ _› rfl)
    : Stays W d₀ (genFlushed d r frm) := .ite hk (genReady_stays hk)

theorem peerFlushed_stays {frm} (hk : Stays W d₀ d) (hw : Allows W [.fltRest, .requests] := by exact .mono ‹Allows _ _› rfl)
    : Stays W d₀ (peerFlushed d frm) := by
  unfold peerFlushed
  refine .foldl (fun _ _ k => ?_) hk
  split
  · exact genFlushed_stays k
  · exact k

theorem flushesEnded_stays {was : Dev} (hk : Stays W d₀ d) (hw : Allows W [.fltRest, .requests] := by exact .mono ‹Allows _ _› rfl)
    : Stays W d₀ (flushesEnded was d) := by
  unfold flushesEnded
  refine .foldl (fun _ _ k => ?_) hk
  split
  · exact .ite k (peerFlushed_stays k)
  · exact k

theorem genAcked_stays {r} (hk : Stays W d₀ d) (hw : Allows W [.fltRest, .requests, .sas] := by exact .mono ‹Allows _ _› rfl)
    : Stays W d₀ (genAcked d r) := by
  unfold genAcked
  extract_lets _ d1 d2 d3
  have h1 : Stays W d₀ d1 := setReq_stays hk
  have h2 : Stays W d₀ d2 := commitToken_stays h1
  have h3 : Stays W d₀ d3 := by
    unfold d3
    split
    · exact .ite (genEnd_stays h2) (.ite (genEnd_stays h2) (.ite (genFault_stays h2) (genReady_stays h2)))
    · exact h2
  exact h3

theorem genNakd_stays {r failed} (hk : Stays W d₀ d) (hw : Allows W [.requests, .reqsRest, .sas, .bob] := by exact .mono ‹Allows _ _› rfl)
    : Stays W d₀ (genNakd d r failed) := freeReqNow_stays (.ite (faultWrite_stays hk) hk)

/-! ## Machine/PageOps.lean -/

theorem countCoded_stays {bs} (hk : Stays W d₀ d) : Stays W d₀ (countCoded d bs) :=
  .foldl (fun _ _ k => .ite (ctrInc_stays (ctrAdd_stays k)) (ctrInc_stays (ctrInc_stays (ctrAdd_stays k)))) hk

theorem countExpanded_stays {bs} (hk : Stays W d₀ d) : Stays W d₀ (countExpanded d bs) := .foldl (fun _ _ k => ctrInc_stays k) hk

theorem decodeError_stays {ref fc addr kind} (hk : Stays W d₀ d) : Stays W d₀ (decodeError d ref fc addr kind) :=
  ctrInc_stays (faultOp_stays { hk with })

theorem lookGroup_stays {a} (hk : Stays W d₀ d) (hw : Allows W [.sas] := by exact .mono ‹Allows _ _› rfl) : Stays W d₀ (lookGroup d a) :=
  .ite (ctrInc_stays hk) (.ite (ctrInc_stays { hk with sas := hw.may rfl }) (ctrInc_stays { freeNext_stays hk with sas := hw.may rfl }))

theorem shuttleBytes_stays {stored out} (hk : Stays W d₀ d) : Stays W d₀ (shuttleBytes d stored out) := ctrAdd_stays (ctrAdd_stays hk)

theorem shuttleBody_stays {b out} (hk : Stays W d₀ d) (hw : Allows W [.sas] := by exact .mono ‹Allows _ _› rfl)
    : Stays W d₀ (shuttleBody d b out) :=
  shuttleBytes_stays (.foldl (fun _ _ k => lookGroup_stays k) hk)

theorem expandBody_stays {s b} (hk : Stays W d₀ d) : Stays W d₀ (expandBody d s b).2 := by
  unfold expandBody
  refine .ite₂ ?_ (countExpanded_stays hk)
  dsimp only
  split
  · split
    · exact ctrAdd_stays (countExpanded_stays hk)
    · exact countExpanded_stays hk
  · exact countExpanded_stays hk

theorem readBody_stays {s b} (hk : Stays W d₀ d) (hw : Allows W [.sas] := by exact .mono ‹Allows _ _› rfl)
    : Stays W d₀ (readBody d s b).2 := shuttleBody_stays (expandBody_stays hk)

theorem travelPart_stays {k r} (hk : Stays W d₀ d) (hw : Allows W [.sas] := by exact .mono ‹Allows _ _› rfl)
    : Stays W d₀ (travelPart d k r).2 := by
  unfold travelPart
  split
  · exact hk
  · refine .ite₂ ?_ ?_
    · dsimp only
      split
      · exact readBody_stays hk
      · exact countCoded_stays (readBody_stays hk)
    · split
      · exact hk
      · exact shuttleBody_stays hk

theorem travelParts_stays {k ref rs} (hk : Stays W d₀ d) (hw : Allows W [.sas] := by exact .mono ‹Allows _ _› rfl)
    : Stays W d₀ (travelParts d k ref rs).2 := by
  induction rs generalizing d with
  | nil => exact hk
  | cons r rs ih =>
    rw [travelParts]
    dsimp only
    split
    · exact ih (travelPart_stays hk)
    · exact ih (decodeError_stays (travelPart_stays hk))

theorem execBlockCompress_leaves {fmt bytes bypass} {s : State} : Leaves W s (execBlockCompress fmt bytes bypass s) :=
  onDev_leaves fun hk => .ite hk (emit_stays (countCoded_stays hk))

theorem execBlockExpand_leaves {addr fmt thinned b waited empty} {s : State}
    : Leaves W s (execBlockExpand addr fmt thinned b waited empty s) :=
  onDev_leaves fun hk => by
    refine .ite (decodeError_stays (ctrAdd_stays (ctrAdd_stays hk))) (.ite ?_ ?_)
    · refine .ite (decodeError_stays (ctrAdd_stays (ctrAdd_stays hk))) ?_
      dsimp only
      split
      · exact emit_stays (ctrAdd_stays (ctrAdd_stays (ctrAdd_stays hk)))
      · exact decodeError_stays (ctrAdd_stays (ctrAdd_stays hk))
    · dsimp only
      split
      · exact emit_stays (countExpanded_stays (ctrAdd_stays (ctrAdd_stays hk)))
      · exact decodeError_stays (ctrAdd_stays (ctrAdd_stays hk))

end

end Sys2Proof.Machine
end

section
/-! # Footprints of stacks, prompts, serving and skeins -/

namespace Sys2Proof.Machine

open Sys2Proof

set_option Elab.async false -- each lemma rests on the ones before it: elaborated in order, none of them waits in a thread of its own

section
variable {W : Area → Bool} {d₀ d e : Dev}

/-! ## Machine/StkOps.lean -/

theorem setStack_stays {n u} (hk : Stays W d₀ d) (hw : Allows W [.stk] := by exact .mono ‹Allows _ _› rfl)
    : Stays W d₀ (setStack d n u) := { hk with stk := hw.may rfl }

theorem dieCheck_stays {n die} (hk : Stays W d₀ d) (hw : Allows W [.stk] := by exact .mono ‹Allows _ _› rfl)
    : Stays W d₀ (dieCheck d n die) := .ite (detect_stays (setStack_stays hk)) hk

theorem dieCorrected_stays {n die} (hk : Stays W d₀ d) (hw : Allows W [.stk] := by exact .mono ‹Allows _ _› rfl)
    : Stays W d₀ (dieCorrected d n die) := dieCheck_stays (ctrInc_stays hk)

theorem lineUncorrectable_stays {n phys line syms} (hk : Stays W d₀ d) (hw : Allows W [.stk] := by exact .mono ‹Allows _ _› rfl)
    : Stays W d₀ (lineUncorrectable d n phys line syms) :=
  ctrInc_stays (setStack_stays hk)

theorem pokeLine_stays {a bs} (hk : Stays W d₀ d) (hw : Allows W [.sas] := by exact .mono ‹Allows _ _› rfl)
    : Stays W d₀ (pokeLine d a bs) where
  __ := hk
  sas := hw.may rfl
  workWf hm := by
    unfold pokeLine
    dsimp only
    split
    · exact memWf_writeN _ _ _ _ (hk.workWf hm)
    · exact hk.workWf hm

theorem readLine_stays {n phys line errs} (hk : Stays W d₀ d) (hw : Allows W [.stk] := by exact .mono ‹Allows _ _› rfl)
    : Stays W d₀ (readLine d n phys line errs).2 := by
  unfold readLine
  refine .ite₂ (ctrInc_stays hk) ?_
  extract_lets
  refine .ite₂ hk (.ite₂ ?_ (.ite₂ (lineUncorrectable_stays hk)
    (.ite₂ (lineUncorrectable_stays (freeNext_stays hk)) (ctrInc_stays (freeNext_stays hk)))))
  split
  · exact dieCorrected_stays (ctrInc_stays hk)
  · exact ctrInc_stays hk

theorem readSasLine_stays {frame line errs} (hk : Stays W d₀ d) (hw : Allows W [.sas, .stk] := by exact .mono ‹Allows _ _› rfl)
    : Stays W d₀ (readSasLine d frame line errs).2 := by
  unfold readSasLine
  dsimp only
  split
  · exact hk
  · split
    · exact pokeLine_stays (readLine_stays hk)
    · exact readLine_stays hk

theorem readLines_stays {found} (hk : Stays W d₀ d) (hw : Allows W [.sas, .stk] := by exact .mono ‹Allows _ _› rfl)
    : Stays W d₀ (readLines found d).2 := .foldl₂ (fun _ _ k => readSasLine_stays k) hk

theorem poisonRead_stays {a n} (hk : Stays W d₀ d) : Stays W d₀ (poisonRead d a n).2 := by
  unfold poisonRead
  split
  · exact hk
  · exact ctrInc_stays hk

theorem readRanges_stays {found rs} (hk : Stays W d₀ d) (hw : Allows W [.sas, .stk] := by exact .mono ‹Allows _ _› rfl)
    : Stays W d₀ (readRanges found rs d).2 := by
  induction rs generalizing d with
  | nil => exact hk
  | cons a rs ih =>
    rw [readRanges]
    have h1 {l} : Stays W d₀ (if (poisonRead d a.1 a.2).1 then poisonRead d a.1 a.2 else readLines l (poisonRead d a.1 a.2).2).2 :=
      .ite₂ (poisonRead_stays hk) (readLines_stays (poisonRead_stays hk))
    exact .ite₂ h1 (ih h1)

theorem poisonBody_stays {b} (hk : Stays W d₀ d) : Stays W d₀ (poisonBody d b).2 := .foldl₂ (fun _ _ k => .ite₂ k (poisonRead_stays k)) hk

theorem scaleStk_stays {num den} (hk : Stays W d₀ d) (hw : Allows W [.admRest] := by exact .mono ‹Allows _ _› rfl)
    : Stays W d₀ (scaleStk d num den) := { hk with admRest := hw.may rfl }

theorem reportOver_stays {l t kind subject cause always} (hk : Stays W d₀ d) : Stays W d₀ (reportOver d l t kind subject cause always) :=
  .ite hk (detect_stays hk)

theorem stkLoss_stays {n} (hk : Stays W d₀ d) : Stays W d₀ (stkLoss d n) := reportOver_stays hk

theorem tempRead_stays {id th t} (hk : Stays W d₀ d) (hw : Allows W [.sensors, .monRest] := by exact .mono ‹Allows _ _› rfl)
    : Stays W d₀ (tempRead d id th t) := .ite hk (pldmChange_stays { hk with sensors := hw.may rfl, monRest := hw.may rfl })

/-! ## Machine/Prompt.lean -/

theorem dropView_stays {r} (hk : Stays W d₀ d) (hw : Allows W [.sas, .bob] := by exact .mono ‹Allows _ _› rfl)
    : Stays W d₀ (dropView d r).2 := freeSpans_stays hk

theorem promptEnd_stays {r status cause ack} (hk : Stays W d₀ d) (hw : Allows W [.requests, .sas,
    .bob] := by exact .mono ‹Allows _ _› rfl) : Stays W d₀ (promptEnd d r status cause ack) :=
  endAbort_stays (dropView_stays hk)

theorem promptEndFault_stays {r fc status ack} (hk : Stays W d₀ d) (hw : Allows W [.requests, .sas,
    .bob] := by exact .mono ‹Allows _ _› rfl) : Stays W d₀ (promptEndFault d r fc status ack) :=
  promptEnd_stays (faultOp_stays hk)

theorem shippingSettle_stays {r} (hk : Stays W d₀ d) (hw : Allows W [.requests, .reqsRest, .sas, .bob] := by exact .mono ‹Allows _ _› rfl)
    : Stays W d₀ (shippingSettle d r) := .ite (freeReqNow_stays { hk with reqsRest := hw.may rfl }) (setReq_stays hk)

theorem shipFail_stays {i} (hk : Stays W d₀ d) (hw : Allows W [.requests, .reqsRest, .sas, .bob] := by exact .mono ‹Allows _ _› rfl)
    : Stays W d₀ (shipFail d i) := by
  unfold shipFail
  split
  · exact hk
  · exact .ite hk (.ite (promptEndFault_stays hk) (.ite (shippingSettle_stays (sendSvc_stays (sendAbort_stays (faultOp_stays hk)))) hk))

theorem homeWindowEnd_stays {k ok} (hk : Stays W d₀ d) (hw : Allows W [.sas] := by exact .mono ‹Allows _ _› rfl) : Stays W d₀
    (homeWindowEnd d k ok) :=
  .ite hk (.ite (setSkein_stays hk) (sendSvc_stays (faultOp_stays (setSkein_stays hk))))

theorem windowFail_stays {i} (hk : Stays W d₀ d) (hw : Allows W [.requests, .reqsRest, .sas, .bob] := by exact .mono ‹Allows _ _› rfl)
    : Stays W d₀ (windowFail d i) := by
  unfold windowFail
  split
  · exact hk
  · exact .ite hk (shippingSettle_stays (sendSvc_stays (faultOp_stays hk)))

theorem handoffFail_stays {i} (hk : Stays W d₀ d) (hw : Allows W [.requests, .sas, .bob] := by exact .mono ‹Allows _ _› rfl) : Stays W d₀
    (handoffFail d i) := by
  unfold handoffFail
  split
  · exact .ite (promptEndFault_stays hk) hk
  · exact hk

theorem lookupFail_stays {i status} (hk : Stays W d₀ d) (hw : Allows W [.requests, .sas, .bob] := by exact .mono ‹Allows _ _› rfl)
    : Stays W d₀ (lookupFail d i status) := by
  unfold lookupFail
  split
  · exact .ite (promptEnd_stays hk) hk
  · exact hk

theorem execOpenReq_leaves {lane seq slot} {s : State} (hw : Allows W [.taken, .admRest, .requests, .requestNumbers, .reqsRest, .sas,
    .bob] := by exact .mono ‹Allows _ _› rfl) : Leaves W s (execOpenReq lane seq slot s) :=
  onTaken_leaves fun {d₀} {_} {_} hk => by
    extract_lets _ _ _ d1 _ d2
    have h2 : Stays W d₀ d2 := addReq_stays { dropTaken_stays hk with requestNumbers := hw.may rfl, reqsRest := hw.may rfl }
    split
    · exact refuseTaken_stays hk
    · split
      · exact refuseTaken_stays hk
      · exact .ite (ctrInc_stays (refuseTaken_stays hk)) (.ite hk (.ite (sendSvc_stays h2) (endFree_stays (sendSvc_stays h2))))

theorem trySendLookup_stays {r} (hk : Stays W d₀ d) (hw : Allows W [.requests, .sas, .bob] := by exact .mono ‹Allows _ _› rfl)
    : Stays W d₀ (trySendLookup d r) :=
  .ite (.ite (sendSvc_stays (setReq_stays hk)) (promptEnd_stays hk)) (setReq_stays hk)

theorem execSkeinOpenReply_leaves {frm req status skein} {s : State} (hw : Allows W [.requests, .reqsRest, .sas,
    .bob] := by exact .mono ‹Allows _ _› rfl) : Leaves W s (execSkeinOpenReply frm req status skein s) :=
  onDev_leaves fun {d₀} {_} hk => by
    extract_lets d1
    have h1 : Stays W d₀ d1 := .ite (sendSvc_stays hk) hk
    split
    · exact h1
    · refine .ite h1 (.ite (.ite (trySendLookup_stays hk) (endFree_stays hk)) (.ite ?_ h1))
      exact .ite (sendAbort_stays (setReq_stays hk)) (freeReq_stays hk)

theorem execSkeinOpenTimeout_leaves {req} {s : State} (hw : Allows W [.requests, .reqsRest, .sas,
    .bob] := by exact .mono ‹Allows _ _› rfl) : Leaves W s (execSkeinOpenTimeout req s) :=
  onDev_leaves fun hk => by
    split
    · exact hk
    · exact .ite hk (.ite (endFree_stays (faultOp_stays hk)) (.ite (freeReq_stays (faultOp_stays hk)) hk))

theorem hashAgain_stays {i} (hk : Stays W d₀ d) (hw : Allows W [.reqsRest] := by exact .mono ‹Allows _ _› rfl) : Stays W d₀
    (hashAgain d i) := { hk with reqsRest := hw.may rfl }

theorem execHashBlockDone_leaves {req tokens} {s : State} (hw : Allows W [.requests, .reqsRest, .sas, .stk,
    .bob] := by exact .mono ‹Allows _ _› rfl) : Leaves W s (execHashBlockDone req tokens s) :=
  onDev_leaves fun hk => by
    split
    · exact hk
    · refine .ite hk (.ite (promptEndFault_stays (.ite₂ (readRanges_stays hk) hk)) ?_)
      dsimp only
      split
      · exact promptEnd_stays (faultOp_stays (ctrInc_stays (.ite₂ (readRanges_stays hk) hk)))
      · exact .ite (.ite₂ (readRanges_stays hk) hk) (trySendLookup_stays (hashAgain_stays (.ite₂ (readRanges_stays hk) hk)))

theorem execLookupReply_leaves {frm req status pages span} {s : State} (hw : Allows W [.requests, .sas,
    .bob] := by exact .mono ‹Allows _ _› rfl) : Leaves W s (execLookupReply frm req status pages span s) :=
  onDev_leaves fun {d₀} {_} hk => by
    split
    · exact hk
    · refine .ite hk (.ite (promptEnd_stays hk) ?_)
      extract_lets _ ready
      have h_ready {x y1} (k : Stays W d₀ x) : Stays W d₀ (ready x y1) := complete_stays (setReq_stays k)
      exact .ite (h_ready hk) (.ite (promptEnd_stays (.ite (placeRefused_stays hk) hk)) (.ite hk (sendSvc_stays
          (h_ready { hk with sas := hw.may rfl }))))

theorem viewPage_stays {r base p} (hk : Stays W d₀ d) (hw : Allows W [.sas, .stk, .bob] := by exact .mono ‹Allows _ _› rfl)
    : Stays W d₀ (viewPage d r base p) := by
  unfold viewPage
  extract_lets _ _ d1 d2 d3
  have h2 : Stays W d₀ d2 := shuttleBytes_stays (countExpanded_stays hk)
  have h3 : Stays W d₀ d3 := by
    unfold d3
    split
    · exact decodeError_stays h2
    · exact h2
  split
  · exact placeRefused_stays h3
  · next he =>
    split
    · exact workWrite_stays h3 he
    · exact .foldl (fun _ _ k => setPoison_stays k) (workWrite_stays h3 he)

theorem takePage_stays {r l p tokens found} (hk : Stays W d₀ d) (hw : Allows W [.requests, .reqsRest, .sas, .stk, .bob,
    .fabric] := by exact .mono ‹Allows _ _› rfl) : Stays W d₀ (takePage d r l p tokens found) := by
  unfold takePage
  extract_lets a
  split
  next bad d1 he =>
    have h1 : Stays W d₀ d1 := .snd (readRanges_stays hk) he
    refine .ite (promptEndFault_stays h1) ?_
    extract_lets _ _ _ _ d2 d3
    have h2 : Stays W d₀ d2 := unmapFrames_stays (jobDone_stays (countCoded_stays h1))
    have h3 : Stays W d₀ d3 := .getD (fun _ he => workWrite_stays h2 he) h2
    exact .ite (sendSvc_stays (setReq_stays h3)) (shipFail_stays (sendSvc_stays (setReq_stays h3)))

theorem execLandingPageTaken_leaves {req layer page} {s : State} (hw : Allows W [.requests, .reqsRest, .sas, .stk, .bob,
    .fabric] := by exact .mono ‹Allows _ _› rfl) : Leaves W s (execLandingPageTaken req layer page s) :=
  onDev_leaves fun hk => by
    split
    · exact hk
    · exact .ite (takePage_stays hk) hk

theorem takeRest_stays {i found} (hk : Stays W d₀ d) (hw : Allows W [.requests, .reqsRest, .sas, .stk, .bob,
    .fabric] := by exact .mono ‹Allows _ _› rfl) : Stays W d₀ (takeRest d i found) := by
  unfold takeRest
  split
  · exact hk
  · extract_lets _ _ go d1
    have h_go {x y1 y2 y3} (k : Stays W d₀ x) : Stays W d₀ (go x y1 y2 y3) := by
      unfold go
      split
      · exact .ite (takePage_stays k) k
      · exact k
    have h1 : Stays W d₀ d1 := .foldl (fun _ _ k => h_go k) hk
    exact .foldl (fun _ _ k => h_go k) h1

theorem postFlush_stays {peer use} (hk : Stays W d₀ d) : Stays W d₀ (postFlush d peer use) := by
  unfold postFlush
  refine .ite hk ?_
  split
  · exact postEntry_stays hk
  · exact hk

theorem execPrefillDone_leaves {lane seq tail} {s : State} (hw : Allows W [.taken, .admRest, .requests, .reqsRest, .sas, .stk, .bob,
    .fabric] := by exact .mono ‹Allows _ _› rfl) : Leaves W s (execPrefillDone lane seq tail s) :=
  onTaken_leaves fun {d₀} {d} {t} hk => by
    extract_lets entry own
    clear_value own entry
    split
    · exact refuseTaken_stays hk
    · split
      · exact refuseTaken_stays hk
      · refine .ite (refuseTaken_stays hk) ?_
        extract_lets _ _ failed
        have h_failed {x c st} (k : Stays W d₀ x) : Stays W d₀ (failed x c st) :=
          promptEnd_stays (complete_stays (faultOp_stays (dropTaken_stays k)))
        split
        next bad d1 he =>
          have h1 : Stays W d₀ d1 := .snd (.ite₂ (readRanges_stays hk) hk) he
          extract_lets d2
          have h2 : Stays W d₀ d2 := finishOp_stays (dropTaken_stays h1)
          refine .ite (h_failed h1) ?_
          split
          · exact h_failed (ctrInc_stays h1)
          · refine .ite h1 ?_
            extract_lets d3 d4
            have h4 : Stays W d₀ d4 := takeRest_stays (setReq_stays h2)
            split
            · exact h4
            · refine .ite h4 ?_
              split
              next r d5 he =>
                have h5 {r n u} : Stays W d₀ (postFlush (setReq d5 r) n u) := postFlush_stays (setReq_stays (.snd (dropView_stays h4) he))
                exact .ite (sendSvc_stays h5) (handoffFail_stays (sendSvc_stays h5))

theorem handoffTaken_stays {r} (hk : Stays W d₀ d) (hw : Allows W [.requests, .reqsRest, .sas, .bob] := by exact .mono ‹Allows _ _› rfl)
    : Stays W d₀ (handoffTaken d r) :=
  .ite (postFlush_stays (sendSvc_stays (setReq_stays hk))) (windowFail_stays (sendSvc_stays (setReq_stays hk)))

theorem execHandoffReply_leaves {frm req status} {s : State} (hw : Allows W [.fltRest, .trackers, .ports, .requests, .reqsRest, .sas,
    .bob] := by exact .mono ‹Allows _ _› rfl) : Leaves W s (execHandoffReply frm req status s) :=
  onDev_leaves fun {d₀} {_} hk => by
    extract_lets answer
    have h_answer {x y} (hx : Stays W d₀ x) : Stays W d₀ (answer x y) := by
      unfold answer
      refine .ite ?_ (svcAnswer_stays hx)
      split
      · exact .ite hx (.ite (genAcked_stays hx) (genNakd_stays hx))
      · exact hx
    split
    · exact h_answer hk
    · have h1 {r y} := h_answer (y := y) (handoffTaken_stays (r := r) hk)
      refine .ite (h_answer hk) (.ite (h_answer hk) (.ite ?_ (h_answer (promptEndFault_stays hk))))
      exact .ite (sendSvc_stays h1) h1

theorem execHandoffTimeout_leaves {req} {s : State} (hw : Allows W [.requests, .sas, .bob] := by exact .mono ‹Allows _ _› rfl)
    : Leaves W s (execHandoffTimeout req s) :=
  onDev_leaves fun hk => by
    split
    · exact .ite (handoffFail_stays hk) hk
    · exact hk

theorem shipmentDone_stays {i window ok} (hk : Stays W d₀ d) (hw : Allows W [.requests, .reqsRest, .sas,
    .bob] := by exact .mono ‹Allows _ _› rfl) : Stays W d₀ (shipmentDone d i window ok) := by
  unfold shipmentDone
  split
  · exact hk
  · refine .ite (.ite hk (.ite (shippingSettle_stays hk) (windowFail_stays hk))) (.ite hk (.ite ?_ (shipFail_stays (setReq_stays hk))))
    exact .ite (sendSvc_stays (setReq_stays hk)) (shipFail_stays (sendSvc_stays (setReq_stays hk)))

theorem execShipmentFlushDone_leaves {req window ok} {s : State} (hw : Allows W [.fltRest, .requests, .reqsRest, .sas,
    .bob] := by exact .mono ‹Allows _ _› rfl) : Leaves W s (execShipmentFlushDone req window ok s) :=
  onDev_leaves fun hk => by
    refine .ite hk (.ite (shipmentDone_stays hk) (.ite ?_ ?_))
    · split
      · refine genFlushed_stays ?_
        split
        · exact homeWindowEnd_stays (shipmentDone_stays hk)
        · exact shipmentDone_stays hk
      · split
        · exact homeWindowEnd_stays (shipmentDone_stays hk)
        · exact shipmentDone_stays hk
    · split
      · exact homeWindowEnd_stays (shipmentDone_stays hk)
      · exact shipmentDone_stays hk

theorem execStateReply_leaves {frm req kind status} {s : State} (hw : Allows W [.requests, .reqsRest, .sas,
    .bob] := by exact .mono ‹Allows _ _› rfl) : Leaves W s (execStateReply frm req kind status s) :=
  onDev_leaves fun hk => by
    refine .ite ?_ ?_
    · split
      · exact .ite hk (.ite (.ite (shippingSettle_stays hk) hk) (shipFail_stays hk))
      · exact hk
    · split
      · exact freeReq_stays hk
      · exact hk

theorem execEndingTimeout_leaves {req} {s : State} (hw : Allows W [.requests, .reqsRest, .sas, .bob] := by exact .mono ‹Allows _ _› rfl)
    : Leaves W s (execEndingTimeout req s) :=
  onDev_leaves fun hk => by
    split
    · exact .ite (freeReq_stays (faultOp_stays hk)) hk
    · exact hk

theorem genCancel_stays {r} (hk : Stays W d₀ d) (hw : Allows W [.requests, .sas] := by exact .mono ‹Allows _ _› rfl)
    : Stays W d₀ (genCancel d r) := by
  unfold genCancel
  split
  · exact genEnd_stays hk
  · exact .ite (genEnd_stays hk) (setReq_stays hk)
  · exact setReq_stays hk
  · exact hk

theorem cancelSettle_stays {i} (hk : Stays W d₀ d) (hw : Allows W [.requests, .sas] := by exact .mono ‹Allows _ _› rfl)
    : Stays W d₀ (cancelSettle d i) := by
  unfold cancelSettle
  split
  · exact .ite (genEnd_stays hk) hk
  · exact hk

theorem execCancel_leaves {lane seq} {s : State} (hw : Allows W [.taken, .admRest, .requests, .sas,
    .bob] := by exact .mono ‹Allows _ _› rfl) : Leaves W s (execCancel lane seq s) :=
  onTaken_leaves fun {d₀} {d} {_} hk => by
    extract_lets found _ forward
    have h_forward {g} : Stays W d₀ (forward g) :=
      .ite (refuseTaken_stays hk) (.ite (sendSvcFor_stays (dropTaken_stays hk)) (refuseTaken_stays hk))
    clear_value found
    split
    · exact refuseTaken_stays hk
    · refine .ite hk ?_
      split
      · split
        · exact hk
        · exact refuseTaken_stays hk
        · exact genCancel_stays (dropTaken_stays hk)
      · split
        · exact promptEnd_stays (dropTaken_stays hk)
        · exact promptEnd_stays (dropTaken_stays hk)
        · exact setReq_stays (dropTaken_stays hk)
        · exact h_forward
        · exact refuseTaken_stays hk
        · exact refuseTaken_stays hk
      · exact h_forward
      · exact refuseTaken_stays hk

theorem execSvcCancel_leaves {frm req} {s : State} (hw : Allows W [.requests, .sas] := by exact .mono ‹Allows _ _› rfl)
    : Leaves W s (execSvcCancel frm req s) :=
  onDev_leaves fun hk => by
    split
    · exact .ite (genCancel_stays hk) hk
    · exact hk

/-! ## Machine/Serving.lean -/

theorem execHandoff_leaves {frm m slot span} {s : State} (hw : Allows W [.requests, .reqsRest, .sas,
    .bob] := by exact .mono ‹Allows _ _› rfl) : Leaves W s (execHandoff frm m slot span s) :=
  onDev_leaves fun {d₀} {_} hk => by
    split
    · exact sendSvc_stays (.ite (ctrInc_stays hk) (.ite (placeRefused_stays hk) hk))
    · extract_lets
      exact .ite hk (.ite (sendSvc_stays (addReq_stays { hk with reqsRest := hw.may rfl, sas := hw.may rfl }))
        (genNakd_stays (sendSvc_stays (addReq_stays { hk with reqsRest := hw.may rfl, sas := hw.may rfl }))))

theorem windowPage_stays {r p} (hk : Stays W d₀ d) (he : windowPage d r p = some e) (hw : Allows W [.sas, .stk,
    .bob] := by exact .mono ‹Allows _ _› rfl) : Stays W d₀ e := by
  unfold windowPage at he
  extract_lets _ _ d1 d2 d3 at he
  have h2 : Stays W d₀ d2 := shuttleBytes_stays (countExpanded_stays hk)
  have h3 : Stays W d₀ d3 := by
    unfold d3
    split
    · exact decodeError_stays h2
    · exact h2
  obtain ⟨x, hx, rfl⟩ := Option.map_eq_some_iff.mp he
  split
  · exact .foldl (fun _ _ k => setPoison_stays k) (workWrite_stays h3 hx)
  · exact workWrite_stays h3 hx

theorem windowPages_stays {r ps} (hk : Stays W d₀ d) (he : windowPages r ps d = some e) (hw : Allows W [.sas, .stk,
    .bob] := by exact .mono ‹Allows _ _› rfl) : Stays W d₀ e := by
  induction ps generalizing d with
  | nil => cases he; exact hk
  | cons p ps ih =>
    rw [windowPages] at he
    split at he
    · cases he
    · next hx => exact ih (windowPage_stays hk hx) he

theorem windowAnswer_stays {frm req pages status} (hk : Stays W d₀ d) (hw : Allows W [.fltRest, .trackers, .ports, .requests, .reqsRest,
    .sas, .bob] := by exact .mono ‹Allows _ _› rfl) : Stays W d₀ (windowAnswer d frm req pages status) := by
  unfold windowAnswer
  refine .ite (.ite hk ?_) (flushesEnded_stays (svcAnswer_stays hk))
  split
  · exact homeWindowEnd_stays hk
  · exact windowFail_stays hk

theorem execWindow_leaves {frm req pages last} {s : State} (hw : Allows W [.fltRest, .trackers, .ports, .requests, .reqsRest, .sas, .stk,
    .bob] := by exact .mono ‹Allows _ _› rfl) : Leaves W s (execWindow frm req pages last s) :=
  onDev_leaves fun hk => by
    dsimp only
    split
    · exact windowAnswer_stays (shipped_stays hk)
    · refine .ite (windowAnswer_stays (shipped_stays hk)) (.ite (windowAnswer_stays (placeRefused_stays (shipped_stays hk))) ?_)
      split
      · exact windowAnswer_stays (placeRefused_stays (shipped_stays hk))
      · next he =>
        have h1 := windowPages_stays (shipped_stays hk) he
        exact windowAnswer_stays (.ite (setReq_stays h1) h1)

theorem execSealed_leaves {frm req skein splitPage} {s : State} (hw : Allows W [.fltRest, .requests] := by exact .mono ‹Allows _ _› rfl)
    : Leaves W s (execSealed frm req skein splitPage s) :=
  onDev_leaves fun hk => by
    split
    · exact hk
    · exact .ite hk (.ite (genReady_stays hk) hk)

theorem execReqAbort_leaves {_frm req _skein cause} {s : State} (hw : Allows W [.requests, .sas] := by exact .mono ‹Allows _ _› rfl)
    : Leaves W s (execReqAbort _frm req _skein cause s) :=
  onDev_leaves fun hk => by
    split
    · exact hk
    · refine .ite hk ?_
      split
      · exact genFault_stays hk
      · exact genFault_stays hk
      · exact setReq_stays hk
      · exact hk

theorem execStep_leaves {lane seq} {s : State} (hw : Allows W [.fltRest, .taken, .admRest, .requests,
    .sas] := by exact .mono ‹Allows _ _› rfl) : Leaves W s (execStep lane seq s) :=
  onTaken_leaves fun hk => by
    dsimp only
    split
    · exact cancelSettle_stays (refuseTaken_stays hk)
    · split
      · split
        · exact hk
        · exact refuseTaken_stays hk
        · exact .ite hk (.ite (refuseTaken_stays hk) (.ite (cancelSettle_stays (refuseTaken_stays hk))
            (.ite (cancelSettle_stays (refuseTaken_stays hk)) (setReq_stays (stepInput_stays (dropTaken_stays hk))))))
        · exact refuseTaken_stays hk
      · exact refuseTaken_stays hk
      · exact refuseTaken_stays hk

theorem execStepCommit_leaves {req} {s : State} (hw : Allows W [.fltRest, .requests, .sas] := by exact .mono ‹Allows _ _› rfl)
    : Leaves W s (execStepCommit req s) :=
  onDev_leaves fun hk => by
    split
    · exact hk
    · split
      · exact finishOp_stays (commitToken_stays hk)
      · exact hk

theorem stopSetFinish_stays {t data} (hk : Stays W d₀ d) (hw : Allows W [.taken, .admRest, .stopSets] := by exact .mono ‹Allows _ _› rfl)
    : Stays W d₀ (stopSetFinish d t data) := by
  unfold stopSetFinish
  refine .ite (refuseTaken_stays hk) ?_
  dsimp only
  split
  · exact .ite (finishOp_stays { dropTaken_stays hk with stopSets := hw.may rfl }) (refuseTaken_stays hk)
  · exact refuseTaken_stays (faultOp_stays (ctrInc_stays hk))

theorem execStopSetDefine_leaves {lane seq} {s : State} (hw : Allows W [.taken, .admRest, .stopSets, .sas,
    .stk] := by exact .mono ‹Allows _ _› rfl) : Leaves W s (execStopSetDefine lane seq s) :=
  onTaken_leaves fun {d₀} {_} {_} hk => by
    split
    · exact refuseTaken_stays hk
    · extract_lets
      refine .ite (.ite (refuseTaken_stays hk) ?_) (.ite hk (.ite (stopSetFinish_stays hk) (hostRead_stays hk)))
      exact .ite (refuseTaken_stays (faultOp_stays (readRanges_stays hk))) (stopSetFinish_stays (readRanges_stays hk))

theorem execStopSetDelete_leaves {lane seq} {s : State} (hw : Allows W [.taken, .admRest, .stopSets] := by exact .mono ‹Allows _ _› rfl)
    : Leaves W s (execStopSetDelete lane seq s) :=
  onTaken_leaves fun hk => by
    split
    · exact refuseTaken_stays hk
    · exact .ite (refuseTaken_stays hk) (finishOp_stays { dropTaken_stays hk with stopSets := hw.may rfl })

theorem forwardQuery_stays {r t q} (hk : Stays W d₀ d) (hw : Allows W [.taken, .requests, .handles,
    .sas] := by exact .mono ‹Allows _ _› rfl) : Stays W d₀ (forwardQuery d r t q) := by
  unfold forwardQuery
  extract_lets _ _ d1
  have h1 : Stays W d₀ d1 := { hk with handles := hw.may rfl }
  exact .ite (finishOp_stays (dropTaken_stays (sendSvcFor_stays h1))) (setReq_stays (dropTaken_stays (sendSvcFor_stays h1)))

theorem execQuery_leaves {lane seq data} {s : State} (hw : Allows W [.taken, .admRest, .requests, .handles, .sas,
    .stk] := by exact .mono ‹Allows _ _› rfl) : Leaves W s (execQuery lane seq data s) :=
  onTaken_leaves fun hk => by
    dsimp only
    refine .ite (refuseTaken_stays hk) ?_
    split
    · exact refuseTaken_stays hk
    · split
      · split
        · exact hk
        · exact hk
        · exact refuseTaken_stays hk
        · refine .ite (refuseTaken_stays hk) (.ite (.ite (refuseTaken_stays hk) (.ite (refuseTaken_stays (faultOp_stays (readRanges_stays hk)))
            (forwardQuery_stays (readRanges_stays hk)))) ?_)
          split
          · exact refuseTaken_stays (faultOp_stays (ctrInc_stays hk))
          · exact .ite (forwardQuery_stays hk) hk
        · exact refuseTaken_stays hk
      · exact refuseTaken_stays hk
      · exact refuseTaken_stays hk

theorem relayPost_stays {id} (hk : Stays W d₀ d) (hw : Allows W [.operations, .ports, .retrieval] := by exact .mono ‹Allows _ _› rfl)
    : Stays W d₀ (relayPost d id) := by
  unfold relayPost
  split
  · exact hk
  · split
    · exact .ite hk (.ite (stopOp_stays hk) (postEntry_stays hk))
    · exact hk

theorem relayB_stays {r q bs arrival budget status} (hk : Stays W d₀ d) (hw : Allows W [.operations, .admRest, .ports,
    .retrieval] := by exact .mono ‹Allows _ _› rfl) : Stays W d₀ (relayB d r q bs arrival budget status) := by
  unfold relayB
  dsimp only
  split
  next he =>
    refine relayPost_stays (.ite ?_ (ctrInc_stays (.snd (acceptB_stays hk) he)))
    split
    · exact setOp_stays (ctrInc_stays (.snd (acceptB_stays hk) he))
    · exact ctrInc_stays (.snd (acceptB_stays hk) he)
  next he => exact admissionReply_stays (.snd (acceptB_stays hk) he)

theorem partialIn_stays {frm handle bs arrival budget cls} (hk : Stays W d₀ d) (hw : Allows W [.fltRest, .operations, .admRest, .ports,
    .requests, .retrieval] := by exact .mono ‹Allows _ _› rfl) :
    Stays W d₀ (partialIn d frm handle bs arrival budget cls) := by
  unfold partialIn
  split
  · exact .ite (ctrInc_stays hk) (detect_stays (ctrInc_stays hk))
  next r _ =>
    refine .ite (ctrInc_stays hk) (.ite (ctrInc_stays hk) (.ite (complete_stays (setReq_stays (detect_stays (ctrInc_stays hk)))) ?_))
    have h1 {r step f x} : Stays W d₀ (setReq (stepInput d r step f).2 x) := setReq_stays (stepInput_stays hk)
    refine .ite ?_ (relayB_stays h1)
    dsimp only
    split
    next he => exact relayPost_stays (ctrInc_stays (.snd (admitG_stays h1) he))
    next he => exact relayB_stays (.snd (admitG_stays h1) he)

theorem execPartialReceived_leaves {frm handle answer} {s : State} (hw : Allows W [.fltRest, .operations, .admRest, .ports, .requests,
    .retrieval] := by exact .mono ‹Allows _ _› rfl) : Leaves W s (execPartialReceived frm handle answer s) :=
  onDev_leaves fun hk => by
    split
    · split
      · exact partialIn_stays hk
      · exact partialIn_stays hk
    · split
      · exact hk
      · exact .ite hk (complete_stays (setReq_stays hk))

theorem execAppendFlushDone_leaves {req ok} {s : State} (hw : Allows W [.requests, .sas, .bob] := by exact .mono ‹Allows _ _› rfl)
    : Leaves W s (execAppendFlushDone req ok s) :=
  onDev_leaves fun hk => by
    refine .ite hk ?_
    split
    · exact appendDone_stays hk
    · exact hk

/-! ## Machine/Skeins.lean -/

theorem stateReply_stays {frm req kind status} (hk : Stays W d₀ d) (hw : Allows W [.sas] := by exact .mono ‹Allows _ _› rfl)
    : Stays W d₀ (stateReply d frm req kind status) := sendSvc_stays hk

theorem openSlots_stays {m} (hk : Stays W d₀ d) (hw : Allows W [.sas, .bob] := by exact .mono ‹Allows _ _› rfl)
    : Stays W d₀ (openSlots d m).2 := by
  unfold openSlots
  refine .ite₂ hk (.ite₂ hk (.ite₂ hk (.ite₂ hk ?_)))
  split
  · exact freeSkein_stays hk
  · exact ctrInc_stays hk

theorem execSkeinOpen_leaves {frm m slot base} {s : State} (hw : Allows W [.sas, .stk, .bob] := by exact .mono ‹Allows _ _› rfl)
    : Leaves W s (execSkeinOpen frm m slot base s) :=
  onDevC_leaves fun hk => by
    dsimp only
    split
    · exact sendSvc_stays (openSlots_stays hk)
    · refine .ite (sendSvc_stays (openSlots_stays hk)) (.ite hk ?_)
      split
      · exact sendSvc_stays (openSlots_stays hk)
      next he => exact sendSvc_stays (mirrorDirs_stays { mapAll_stays (openSlots_stays hk) he with sas := hw.may rfl })

theorem touchSkein_stays {i} (hk : Stays W d₀ d) (hw : Allows W [.sas] := by exact .mono ‹Allows _ _› rfl)
    : Stays W d₀ (touchSkein d i) := by
  unfold touchSkein
  split
  · exact setSkein_stays hk
  · exact hk

theorem execLookup_leaves {frm req skein chain} {s : State} (hw : Allows W [.sas, .stk, .bob] := by exact .mono ‹Allows _ _› rfl)
    : Leaves W s (execLookup frm req skein chain s) :=
  onDev_leaves fun {d₀} {_} hk => by
    extract_lets answer
    have h_answer {x y1 y2} (k : Stays W d₀ x) : Stays W d₀ (answer x y1 y2) := sendSvc_stays k
    refine .ite (h_answer hk) ?_
    split
    · exact h_answer hk
    · refine .ite (h_answer hk) ?_
      dsimp only
      split
      · exact h_answer (placeRefused_stays (prefixLookup_stays hk))
      · next he =>
        refine h_answer (setSkein_stays (.foldl (fun _ _ k => touchSkein_stays k) (ctrAdd_stays (ctrInc_stays (.foldl (fun _ _ k => ?_)
          (mapAll_stays (prefixLookup_stays hk) he))))))
        split
        · exact mirrorRef_stays k
        · exact k

theorem shipReady_stays {k rs} (hk : Stays W d₀ d) (hw : Allows W [.sas, .bob] := by exact .mono ‹Allows _ _› rfl)
    : Stays W d₀ (shipReady d k rs).2 := by
  unfold shipReady
  refine .ite₂ hk (promoteAll_stays ?_)
  split
  · exact countWait_stays hk
  · exact hk

theorem fetchShip_stays {k frm found} (hk : Stays W d₀ d) (hw : Allows W [.sas, .stk, .bob] := by exact .mono ‹Allows _ _› rfl)
    : Stays W d₀ (fetchShip d k frm found) := by
  unfold fetchShip
  extract_lets
  split
  next he => exact setSkein_stays (.snd (shipReady_stays hk) he)
  next d1 he =>
    have h1 : Stays W d₀ d1 := .snd (shipReady_stays hk) he
    have h2 {rs} : Stays W d₀ (readRanges found rs d1).2 := readRanges_stays h1
    exact .ite (faultOp_stays (setSkein_stays h2)) (sendSvc_stays (setSkein_stays (travelParts_stays h2)))

theorem homeWindow_stays {k} (hk : Stays W d₀ d) (hw : Allows W [.sas, .stk, .bob] := by exact .mono ‹Allows _ _› rfl) : Stays W d₀
    (homeWindow d k) := by
  unfold homeWindow
  refine .ite hk ?_
  extract_lets
  refine .ite (homeWindowEnd_stays (setSkein_stays hk)) ?_
  split
  next he => exact setSkein_stays (.snd (shipReady_stays hk) he)
  next d1 he =>
    have h1 : Stays W d₀ d1 := .snd (shipReady_stays hk) he
    have h2 {found rs} : Stays W d₀ (readRanges found rs d1).2 := readRanges_stays h1
    refine .ite (homeWindowEnd_stays (faultOp_stays (setSkein_stays h2))) ?_
    refine .ite (homeWindowEnd_stays (setSkein_stays (travelParts_stays h2))) ?_
    exact .ite (postFlush_stays (sendSvc_stays (setSkein_stays (travelParts_stays h2))))
      (homeWindowEnd_stays (sendSvc_stays (setSkein_stays (travelParts_stays h2))))

theorem pumpShips_stays (hk : Stays W d₀ d) (hw : Allows W [.sas, .stk, .bob] := by exact .mono ‹Allows _ _› rfl)
    : Stays W d₀ (pumpShips d) := by
  unfold pumpShips
  refine .foldl (fun _ _ k => ?_) hk
  dsimp only
  split
  · refine .ite ?_ ?_
    · refine homeWindow_stays ?_
      split
      · exact fetchShip_stays k
      · exact k
    · split
      · exact fetchShip_stays k
      · exact k
  · split
    · exact fetchShip_stays k
    · exact k

theorem shipsRefused_stays {f} (hk : Stays W d₀ d) (hw : Allows W [.sas] := by exact .mono ‹Allows _ _› rfl)
    : Stays W d₀ (shipsRefused d f) := by
  unfold shipsRefused
  refine .foldl (fun _ _ k => ?_) hk
  dsimp only
  split
  · refine .ite ?_ ?_
    · refine homeWindowEnd_stays (setSkein_stays ?_)
      split
      · exact .ite k (sendSvc_stays (setSkein_stays (travelParts_stays k)))
      · exact k
    · split
      · exact .ite k (sendSvc_stays (setSkein_stays (travelParts_stays k)))
      · exact k
  · split
    · exact .ite k (sendSvc_stays (setSkein_stays (travelParts_stays k)))
    · exact k

theorem onTier_leaves {f : Dev → Dev} {s} (hf : ∀ {d₀ d}, Stays W d₀ d → Stays W d₀ (f d)) (hw : Allows W [.sas, .stk,
    .bob] := by exact .mono ‹Allows _ _› rfl) : Leaves W s (onTier f s) :=
  onDevC_leaves fun hk => pumpShips_stays (hf hk)

theorem execPrefixFetch_leaves {frm req skein pages} {s : State} (hw : Allows W [.sas, .stk, .bob] := by exact .mono ‹Allows _ _› rfl)
    : Leaves W s (execPrefixFetch frm req skein pages s) :=
  onDev_leaves fun hk => by
    split
    · split
      · exact hk
      · exact fetchShip_stays (setSkein_stays hk)
    · dsimp only
      split
      · exact shipped_stays hk
      · split
        · exact .ite (.foldl (fun _ _ k => viewPage_stays k) (shipped_stays hk)) (shipped_stays hk)
        · exact shipped_stays hk

theorem readyPart_stays {k p appended} (hk : Stays W d₀ d) (hw : Allows W [.fabric] := by exact .mono ‹Allows _ _› rfl)
    : Stays W d₀ (readyPart d k p appended).2 :=
  .ite₂ (jobDone_stays (countCoded_stays hk)) hk

theorem placeAllPages_stays {appended ps k} (hk : Stays W d₀ d) (hw : Allows W [.sas, .stk, .bob,
    .fabric] := by exact .mono ‹Allows _ _› rfl) : Stays W d₀ (placeAllPages appended ps k d).2.2 := by
  induction ps generalizing k d with
  | nil => exact hk
  | cons p ps ih =>
    rw [placeAllPages]
    split
    · exact ih (ctrInc_stays hk)
    · split
      · exact ih hk
      · have h1 : Stays W d₀ (placePage (readyPart d k p appended).2 k (readyPart d k p appended).1 appended).2.2 :=
          placePage_stays (readyPart_stays hk)
        dsimp only
        split
        · exact ih h1
        · exact h1

theorem appendHash_stays {k p} (hk : Stays W d₀ d) (hw : Allows W [.sas] := by exact .mono ‹Allows _ _› rfl)
    : Stays W d₀ (appendHash d k p).2 := by
  unfold appendHash
  split
  · exact hk
  · exact .ite₂ hk (.ite (prefixInsert_stays hk) hk)

theorem placeNak_stays {req appended status} (hk : Stays W d₀ d) (hw : Allows W [.requests, .reqsRest, .sas,
    .bob] := by exact .mono ‹Allows _ _› rfl) : Stays W d₀ (placeNak d req appended status) := by
  unfold placeNak
  refine .ite (shipFail_stays hk) ?_
  split
  · exact hk
  · exact .ite (genFault_stays hk) (setReq_stays hk)

theorem placeChecked_stays {appended ps k} (hk : Stays W d₀ d) (hw : Allows W [.sas, .stk, .bob,
    .fabric] := by exact .mono ‹Allows _ _› rfl) : Stays W d₀ (placeChecked appended ps k d).2.2 := by
  unfold placeChecked
  split
  · exact decodeError_stays hk
  · exact placeAllPages_stays hk

theorem execPlace_leaves {frm req skein appended pages} {s : State} (hw : Allows W [.fltRest, .trackers, .ports, .requests, .reqsRest,
    .sas, .stk, .bob, .fabric] := by exact .mono ‹Allows _ _› rfl) : Leaves W s (execPlace frm req skein appended pages s) :=
  onDevC_leaves fun {d₀} {_} hk => by
    extract_lets answer
    have h_answer {x y} (hx : Stays W d₀ x) : Stays W d₀ (answer x y) :=
      .ite (.ite hx (placeNak_stays hx)) (flushesEnded_stays (svcAnswer_stays hx))
    refine .ite (h_answer (shipped_stays hk)) ?_
    dsimp only
    split
    · exact h_answer (shipped_stays hk)
    · refine .ite (h_answer (shipped_stays hk)) (h_answer (setSkein_stays (.ite₂ ?_ (placeChecked_stays (shipped_stays hk)))))
      split
      · exact appendHash_stays (placeChecked_stays (shipped_stays hk))
      · exact placeChecked_stays (shipped_stays hk)

theorem execSeal_leaves {frm req skein} {s : State} (hw : Allows W [.sas, .stk, .bob] := by exact .mono ‹Allows _ _› rfl)
    : Leaves W s (execSeal frm req skein s) :=
  onDev_leaves fun {d₀} {_} hk => by
    split
    · exact stateReply_stays hk
    · refine .ite (stateReply_stays hk) ?_
      extract_lets _ d1 d2 d3 d4
      have h1 : Stays W d₀ d1 := setSkein_stays hk
      have h2 : Stays W d₀ d2 := .ite (.foldl (fun _ _ k => prefixInsert_stays k) h1) h1
      have h3 : Stays W d₀ d3 := homeWindow_stays h2
      have h4 : Stays W d₀ d4 := sendSvc_stays h3
      exact stateReply_stays h4

theorem execAbort_leaves {frm req skein} {s : State} (hw : Allows W [.sas] := by exact .mono ‹Allows _ _› rfl)
    : Leaves W s (execAbort frm req skein s) :=
  onDev_leaves fun hk => by
    split
    · exact stateReply_stays hk
    · split
      · exact stateReply_stays (setSkein_stays hk)
      · exact stateReply_stays (setSkein_stays (prefixRemove_stays hk))
      · exact stateReply_stays hk

theorem execSkeinAbortDrained_leaves {slot} {s : State} (hw : Allows W [.sas, .bob] := by exact .mono ‹Allows _ _› rfl)
    : Leaves W s (execSkeinAbortDrained slot s) :=
  onDev_leaves fun hk => by
    split
    · exact .ite (freeSkein_stays hk) hk
    · exact hk

theorem execRelease_leaves {frm req skein} {s : State} (hw : Allows W [.sas, .bob] := by exact .mono ‹Allows _ _› rfl)
    : Leaves W s (execRelease frm req skein s) :=
  onDev_leaves fun hk => by
    split
    · exact stateReply_stays hk
    · exact .ite (stateReply_stays hk) (.ite (stateReply_stays (setSkein_stays hk)) (stateReply_stays (freeSkein_stays hk)))

end

end Sys2Proof.Machine
end

section
/-! # Footprints of retrieval, fabric, intake, transfers and the host side -/

namespace Sys2Proof.Machine

open Sys2Proof

set_option Elab.async false -- each lemma rests on the ones before it: elaborated in order, none of them waits in a thread of its own

section
variable {W : Area → Bool} {d₀ d e : Dev}

/-! ## Machine/Retrieval.lean -/

theorem farCheck_stays {k m cls r} (hk : Stays W d₀ d) (he : farCheck d k m cls = some r) : Stays W d₀ r.2 := by
  have h_refused {n : Nat} {e} (hk : Stays W d₀ e) : ∀ r, some (n, e) = some r → Stays W d₀ r.2 := by
    rintro _ ⟨⟩
    exact hk
  have no {n : Nat} := h_refused (n := n) hk
  suffices h : ∀ r, farCheck d k m cls = some r → Stays W d₀ r.2 from h r he
  unfold farCheck
  refine .iteSome no (.iteSome no (.iteSome no (.iteSome no (.iteSome no (.iteSome no (.iteSome no ?_))))))
  split
  · exact no
  · refine .iteSome no (.iteSome no (.iteSome no (.iteSome (h_refused (ctrInc_stays hk)) (.iteSome no ?_))))
    exact .iteSome (h_refused (ctrInc_stays hk)) (.iteSome no fun _ he => nomatch he)

theorem joinJob_stays {j x} (hk : Stays W d₀ d) (hw : Allows W [.retrieval] := by exact .mono ‹Allows _ _› rfl)
    : Stays W d₀ (joinJob d j x) := { hk with retrieval := hw.may rfl }

theorem newJob_stays {k m cls anchor x} (hk : Stays W d₀ d) (hw : Allows W [.retrieval] := by exact .mono ‹Allows _ _› rfl)
    : Stays W d₀ (newJob d k m cls anchor x) := { hk with retrieval := hw.may rfl }

theorem joinG_stays {j op stages post ready r} (hk : Stays W d₀ d) (he : joinG d j op stages post ready = some r)
    (hw : Allows W [.operations, .admRest] := by exact .mono ‹Allows _ _› rfl) : Stays W d₀ r.2 := by
  unfold joinG at he
  dsimp only at he
  split at he; · cases he
  split at he; · cases he
  split at he; · cases he
  split at he; · cases he
  split at he; · cases he
  split at he; · cases he
  cases he
  exact ctrInc_stays { hk with operations := hw.may rfl, admRest := hw.may rfl }

theorem farTaken_stays {k l} (hk : Stays W d₀ d) (hw : Allows W [.sas, .bob] := by exact .mono ‹Allows _ _› rfl)
    : Stays W d₀ (farTaken d k l) := by
  unfold farTaken
  dsimp only
  split
  · exact jobWalks_stays (jobCount_stays (setSkein_stays hk))
  · exact jobCount_stays (setSkein_stays hk)

theorem execFarJob_leaves {frm conn m cls budget} {s : State} (hw : Allows W [.operations, .admRest, .sas, .bob,
    .retrieval] := by exact .mono ‹Allows _ _› rfl) : Leaves W s (execFarJob frm conn m cls budget s) :=
  onDev_leaves fun {d₀} {_} hk => by
    refine .ite hk ?_
    extract_lets _ d1 k _ count
    have h1 : Stays W d₀ d1 := { hk with }
    have h_count {x} (hx : Stays W d₀ x) : Stays W d₀ (count x) := by
      unfold count
      clear_value k
      split
      · exact jobCount_stays hx
      · exact hx
    clear_value count k
    split
    · next he => exact farReply_stays (h_count (.ite (ctrInc_stays (farCheck_stays h1 he)) (farCheck_stays h1 he)))
    · split
      · exact h1
      · refine .ite (startWalk_stays (farReply_stays (h_count (ctrInc_stays h1)))) ?_
        extract_lets _ _ _ joins joined
        have h_joined {e} (he : joined = some e) : Stays W d₀ e := by
          unfold joined at he
          clear_value joins
          split at he
          · cases he
          · split at he
            split at he
            · obtain ⟨r, hr, rfl⟩ := Option.map_eq_some_iff.mp he
              exact joinJob_stays (joinG_stays h1 hr)
            · split at he
              · next ha =>
                cases he
                exact joinJob_stays (.snd (acceptB_stays h1) ha)
              · cases he
        clear_value joined
        split
        · exact farTaken_stays (h_joined rfl)
        · split
          extract_lets
          split
          next he => exact farReply_stays (h_count (admitted_stays h1 he))
          next he => exact farTaken_stays (newJob_stays (admitted_stays h1 he))

theorem setJob_stays {j} (hk : Stays W d₀ d) (hw : Allows W [.retrieval] := by exact .mono ‹Allows _ _› rfl) : Stays W d₀ (setJob d j) :=
    { hk with retrieval := hw.may rfl }

theorem failJob_stays {j cause status} (hk : Stays W d₀ d) (hw : Allows W [.operations, .ports,
    .retrieval] := by exact .mono ‹Allows _ _› rfl) : Stays W d₀ (failJob d j cause status) := by
  unfold failJob
  refine .foldl (fun _ _ k => ?_) hk
  split
  · exact failOp_stays k
  · exact k

theorem heddleFault_stays {j stack} (hk : Stays W d₀ d) (hw : Allows W [.operations, .ports,
    .retrieval] := by exact .mono ‹Allows _ _› rfl) : Stays W d₀ (heddleFault d j stack) := detect_stays (failJob_stays hk)

theorem jobWaits_stays {j k fs} (hk : Stays W d₀ d) (hw : Allows W [.operations, .ports, .sas, .bob,
    .retrieval] := by exact .mono ‹Allows _ _› rfl) : Stays W d₀ (jobWaits d j k fs) := by
  unfold jobWaits
  extract_lets d1
  have h1 : Stays W d₀ d1 := by
    unfold d1
    refine .ite hk ?_
    split
    · exact countWait_stays (setJob_stays hk)
    · exact hk
  split
  · exact h1
  · dsimp only
    split
    · exact failJob_stays (promoteAll_stays h1)
    · exact promoteAll_stays h1

theorem setHints_stays {j ps} (hk : Stays W d₀ d) (hw : Allows W [.sas, .stk, .bob] := by exact .mono ‹Allows _ _› rfl)
    : Stays W d₀ (setHints d j ps) := by
  unfold setHints
  refine .foldl (fun _ _ k => ?_) hk
  split
  · exact k
  · split
    · exact k
    next he => exact setSkein_stays (mapAll_stays k he)

theorem selectPages_stays {j k o} (hk : Stays W d₀ d) (hw : Allows W [.operations, .ports, .sas, .stk, .bob,
    .retrieval] := by exact .mono ‹Allows _ _› rfl) : Stays W d₀ (selectPages d j k o) := by
  unfold selectPages
  refine .ite (setHints_stays (setJob_stays hk)) (.ite (ctrInc_stays (failJob_stays (setHints_stays (setJob_stays hk)))) ?_)
  dsimp only
  split
  · exact failJob_stays (promoteAll_stays (setHints_stays (setJob_stays hk)))
  · exact promoteAll_stays (setHints_stays (setJob_stays hk))

theorem execHeddleScan_leaves {job parity} {s : State} (hw : Allows W [.operations, .ports, .sas, .stk, .bob,
    .retrieval] := by exact .mono ‹Allows _ _› rfl) : Leaves W s (execHeddleScan job parity s) :=
  onDevC_leaves fun {d₀} {_} hk => by
    split
    · exact hk
    · refine .ite hk ?_
      split
      · exact heddleFault_stays hk
      · split
        · exact hk
        · extract_lets
          refine .ite (jobWaits_stays hk) ?_
          split
          next lost d1 he =>
            have h1 : Stays W d₀ d1 := .snd (readRanges_stays hk) he
            refine .ite (failJob_stays h1) ?_
            extract_lets _ d2
            have h2 : Stays W d₀ d2 := .foldl (fun _ _ k => by
                split
                · exact failOp_stays (ctrInc_stays k)
                · exact k) h1
            split
            · exact h2
            · extract_lets _ _ d3 _ _ d4
              have h4 : Stays W d₀ d4 := ctrAdd_stays (.foldl (fun _ _ k => .ite k (ctrInc_stays (ctrAdd_stays k))) h2)
              split
              · exact selectPages_stays (setJob_stays h4)
              · exact h4

theorem execHeddleWalk_leaves {job parity} {s : State} (hw : Allows W [.operations, .ports, .sas, .stk, .bob,
    .retrieval] := by exact .mono ‹Allows _ _› rfl) : Leaves W s (execHeddleWalk job parity s) :=
  onDevC_leaves fun hk => by
    split
    · exact hk
    · refine .ite hk ?_
      split
      · exact heddleFault_stays hk
      · refine .ite (failJob_stays (readRanges_stays hk)) ?_
        dsimp only
        split
        · exact heddleFault_stays (readRanges_stays hk)
        · exact .ite (jobWaits_stays (readRanges_stays hk)) (ctrInc_stays (setJob_stays (readRanges_stays hk)))

theorem expandPages_stays {k ps} (hk : Stays W d₀ d) (hw : Allows W [.sas] := by exact .mono ‹Allows _ _› rfl)
    : Stays W d₀ (expandPages k ps d).2 := by
  induction ps generalizing d with
  | nil => exact hk
  | cons p ps ih =>
    rw [expandPages]
    split
    · exact ih hk
    · next b _ =>
      have h1 : Stays W d₀ (readBody d k.shape b).2 := readBody_stays hk
      dsimp only
      split
      · exact h1
      · split
        next he => exact .snd (ih h1) he
        next => exact ih h1

theorem attendRound_stays {j k} (hk : Stays W d₀ d) (hw : Allows W [.operations, .ports, .sas,
    .retrieval] := by exact .mono ‹Allows _ _› rfl) : Stays W d₀ (attendRound d j k).2 := by
  unfold attendRound
  dsimp only
  split
  next he =>
    have h := Stays.snd (expandPages_stays hk) he
    refine .foldl (fun _ _ k => ?_) (ctrInc_stays { h with })
    split
    · exact failOp_stays k
    · exact k
  next he => exact setJob_stays (.ite (.snd (expandPages_stays hk) he) (ctrInc_stays (.snd (expandPages_stays hk) he)))

theorem execRoundCheck_leaves {job} {s : State} (hw : Allows W [.operations, .ports, .sas, .bob,
    .retrieval] := by exact .mono ‹Allows _ _› rfl) : Leaves W s (execRoundCheck job s) :=
  onDevC_leaves fun hk => by
    split
    · exact hk
    · refine .ite hk ?_
      dsimp only
      split
      next he => exact .snd (attendRound_stays hk) he
      next he =>
        split
        · exact .snd (attendRound_stays hk) he
        · exact .ite (ctrAdd_stays (setJob_stays (.snd (attendRound_stays hk) he))) (.snd (attendRound_stays hk) he)

theorem memberDone_stays {j x o} (hk : Stays W d₀ d) (hw : Allows W [.operations, .retrieval, .fabric] := by exact .mono ‹Allows _ _› rfl)
    : Stays W d₀ (memberDone d j x o) := by
  unfold memberDone
  extract_lets _ d1 d2 d3 d4 d5
  have h1 : Stays W d₀ d1 := .ite (ctrInc_stays hk) hk
  have h2 : Stays W d₀ d2 := ctrAdd_stays (ctrAdd_stays (ctrInc_stays h1))
  have h3 : Stays W d₀ d3 := .ite (ctrInc_stays h2) h2
  have h4 : Stays W d₀ d4 := .ite (ctrInc_stays h3) h3
  have h5 : Stays W d₀ d5 := dropMember_stays (dropOp_stays (handOver_stays (jobCount_stays h4)))
  exact .ite h5 (sampleShadow_stays h5)

theorem sendMember_stays {j x} (hk : Stays W d₀ d) (hw : Allows W [.operations, .ports, .retrieval,
    .fabric] := by exact .mono ‹Allows _ _› rfl) : Stays W d₀ (sendMember d j x) := by
  unfold sendMember
  split
  · exact hk
  · extract_lets _ _ d1
    have h1 : Stays W d₀ d1 := by
      unfold d1
      split
      · exact hk
      · exact ctrInc_stays { faultOp_stays hk with retrieval := hw.may rfl }
    exact .ite (memberDone_stays (emitWA_stays h1)) (.ite (stopOp_stays h1) (postEntry_stays h1))

theorem sendJob_stays {j} (hk : Stays W d₀ d) (hw : Allows W [.operations, .ports, .sas, .stk, .bob, .retrieval,
    .fabric] := by exact .mono ‹Allows _ _› rfl) : Stays W d₀ (sendJob d j) :=
  .foldl (fun _ _ k => sendMember_stays k) (setHints_stays (setJob_stays hk))

/-! ## Machine/Fabric.lean -/

theorem buildRuns_stays (hk : Stays W d₀ d) (hw : Allows W [.fabric] := by exact .mono ‹Allows _ _› rfl) : Stays W d₀ (buildRuns d) := by
  unfold buildRuns
  extract_lets _ _ _ runs
  clear_value runs
  exact { hk with fabric := hw.may rfl }

theorem startCmd_stays {r c} (hk : Stays W d₀ d) (hw : Allows W [.retrieval, .fabric] := by exact .mono ‹Allows _ _› rfl)
    : Stays W d₀ (startCmd d r c) := by
  unfold startCmd
  dsimp only
  split
  · exact setJob_stays (setRun_stays hk)
  · exact setRun_stays hk

theorem nextCmd_stays {r} (hk : Stays W d₀ d) (hw : Allows W [.retrieval, .fabric] := by exact .mono ‹Allows _ _› rfl)
    : Stays W d₀ (nextCmd d r) := by
  unfold nextCmd
  dsimp only
  split
  · exact startCmd_stays hk
  · exact setRun_stays hk
  · split
    · exact .ite (startCmd_stays hk) (startCmd_stays (ctrAdd_stays hk))
    · exact startCmd_stays (ctrAdd_stays hk)

theorem cmdFails_stays {c cause} (hk : Stays W d₀ d) (hw : Allows W [.operations, .ports, .retrieval,
    .fabric] := by exact .mono ‹Allows _ _› rfl) : Stays W d₀ (cmdFails d c cause) := by
  unfold cmdFails
  refine .ite (.ite (ctrInc_stays { hk with fabric := hw.may rfl }) hk) ?_
  split
  · exact failJob_stays hk
  · exact hk

theorem resetRun_stays {r cause} (hk : Stays W d₀ d) (hw : Allows W [.operations, .ports, .retrieval,
    .fabric] := by exact .mono ‹Allows _ _› rfl) : Stays W d₀ (resetRun d r cause) :=
  setRun_stays (.foldl (fun _ _ k => cmdFails_stays k) hk)

theorem tileFault_stays {t} (hk : Stays W d₀ d) : Stays W d₀ (tileFault d t) := ctrInc_stays hk

theorem execRunCommandArrival_leaves {run cmd} {s : State} (hw : Allows W [.retrieval, .fabric] := by exact .mono ‹Allows _ _› rfl)
    : Leaves W s (execRunCommandArrival run cmd s) :=
  onDev_leaves fun hk => by
    split
    · exact hk
    · refine .ite hk ?_
      dsimp only
      split
      · exact .ite (startCmd_stays hk) (setRun_stays hk)
      · exact .ite (startCmd_stays (ctrAdd_stays (ctrInc_stays hk))) (setRun_stays hk)

theorem execRunCommandEnd_leaves {run corrected bad stalls} {s : State} (hw : Allows W [.operations, .ports, .sas, .bob, .retrieval,
    .fabric] := by exact .mono ‹Allows _ _› rfl) : Leaves W s (execRunCommandEnd run corrected bad stalls s) :=
  onDevC_leaves fun {d₀} {_} hk => by
    split
    · exact hk
    · split
      · exact hk
      · extract_lets d1 d2
        have h1 : Stays W d₀ d1 := ctrAdd_stays hk
        have h2 : Stays W d₀ d2 := ctrAdd_stays (ctrAdd_stays (ctrAdd_stays (ctrAdd_stays h1)))
        split
        · exact .ite h2 (detect_stays (resetRun_stays (tileFault_stays h2)))
        · exact nextCmd_stays h2

theorem execRunStallTimeout_leaves {run} {s : State} (hw : Allows W [.operations, .ports, .sas, .bob, .retrieval,
    .fabric] := by exact .mono ‹Allows _ _› rfl) : Leaves W s (execRunStallTimeout run s) :=
  onDevC_leaves fun hk => by
    split
    · exact hk
    · exact .ite hk (detect_stays (resetRun_stays (.foldl (fun _ _ k => tileFault_stays k) hk)))

theorem execRunResetDone_leaves {run} {s : State} (hw : Allows W [.retrieval, .fabric] := by exact .mono ‹Allows _ _› rfl)
    : Leaves W s (execRunResetDone run s) :=
  onDev_leaves fun hk => by
    split
    · exact hk
    · exact .ite (nextCmd_stays hk) hk

theorem stopFabric_stays {status} (hk : Stays W d₀ d) (hw : Allows W [.operations, .ports, .retrieval,
    .fabric] := by exact .mono ‹Allows _ _› rfl) : Stays W d₀ (stopFabric d status) := by
  unfold stopFabric
  refine .foldl (fun _ _ k => ?_) { ctrAdd_stays hk with fabric := hw.may rfl }
  split
  · exact endOp_stays k
  · exact k

theorem startFabric_stays (hk : Stays W d₀ d) (hw : Allows W [.fabric] := by exact .mono ‹Allows _ _› rfl) : Stays W d₀ (startFabric d) :=
    { hk with fabric := hw.may rfl }

theorem fabLoss_stays {was : Dev} {dr tile} (hk : Stays W d₀ d) : Stays W d₀ (fabLoss was d dr tile) := .ite (reportOver_stays hk) hk

theorem fabLosses_stays {was : Dev} (hk : Stays W d₀ d) : Stays W d₀ (fabLosses was d) := .foldl (fun _ _ k => fabLoss_stays k) hk

theorem fenceTiles_stays {ts} (hk : Stays W d₀ d) (hw : Allows W [.retrieval, .fabric, .fences] := by exact .mono ‹Allows _ _› rfl)
    : Stays W d₀ (fenceTiles d ts) := by
  unfold fenceTiles
  refine fabLosses_stays (.foldl (fun _ _ k => ?_) { hk with fabric := hw.may rfl, fences := hw.may rfl })
  dsimp only
  split
  · exact .ite (nextCmd_stays (setRun_stays k)) (setRun_stays (setRun_stays k))
  · exact setRun_stays k

theorem unfenceTiles_stays {ts} (hk : Stays W d₀ d) (hw : Allows W [.retrieval, .fabric, .fences] := by exact .mono ‹Allows _ _› rfl)
    : Stays W d₀ (unfenceTiles d ts) :=
  .foldl (fun _ _ k => .ite (nextCmd_stays k) (.ite (setRun_stays k) k)) { hk with fabric := hw.may rfl, fences := hw.may rfl }

theorem tilesFail_stays {ts} (hk : Stays W d₀ d) (hw : Allows W [.fabric] := by exact .mono ‹Allows _ _› rfl)
    : Stays W d₀ (tilesFail d ts) :=
  fabLosses_stays (.foldl (fun _ _ k => detect_stays k) { hk with fabric := hw.may rfl })

theorem execShadowCheckDone_leaves {id outputEq failed badBound load0 load1} {s : State} (hw : Allows W [.sas, .bob,
    .fabric] := by exact .mono ‹Allows _ _› rfl) :
    Leaves W s (execShadowCheckDone id outputEq failed badBound load0 load1 s) :=
  onDevC_leaves fun {d₀} {_} hk => by
    split
    · exact hk
    · extract_lets _ d1 _ _ _ d2
      have h1 : Stays W d₀ d1 := { hk with fabric := hw.may rfl }
      refine .ite (ctrInc_stays h1) (.ite (ctrInc_stays h1) ?_)
      have h2 : Stays W d₀ d2 := .foldl (fun _ _ k => ctrInc_stays k) (ctrInc_stays h1)
      clear_value d2
      exact .ite (detect_stays { h2 with fabric := hw.may rfl }) (detect_stays { h2 with fabric := hw.may rfl })

/-! ## Machine/Intake.lean -/

theorem setLane_stays {l x} (hk : Stays W d₀ d) (hw : Allows W [.lanes] := by exact .mono ‹Allows _ _› rfl)
    : Stays W d₀ (setLane d l x) := { hk with lanes := hw.may rfl }

theorem memWf_foldl_write (f : Nat → Nat) (g : Nat → Byte) (l : List Nat) {m : Mem} (hm : memWf 0 m = true) :
    memWf 0 (l.foldl (fun m i => memWrite 0 m (f i) (g i)) m) = true := by
  induction l generalizing m with
  | nil => exact hm
  | cons i l ih => exact ih (memWf_write _ _ _ _ hm)

theorem windowWrite_stays {off bs remote} (hk : Stays W d₀ d) (hw : Allows W [.window, .intakeRest] := by exact .mono ‹Allows _ _› rfl)
    : Stays W d₀ (windowWrite d off bs remote) :=
  { hk with window := hw.may rfl, intakeRest := hw.may rfl, windowWf := fun hm => memWf_foldl_write _ _ _ (hk.windowWf hm) }

theorem execIntakeWindowWrite_leaves {fn offset bytes} {s : State} (hw : Allows W [.window,
    .intakeRest] := by exact .mono ‹Allows _ _› rfl) : Leaves W s (execIntakeWindowWrite fn offset bytes s) :=
  onDev_leaves fun hk => .ite hk (.foldl (fun _ _ k => .ite (windowWrite_stays k) k) hk)

theorem writeMirror_stays {l} (hk : Stays W d₀ d) (hw : Allows W [.lanes] := by exact .mono ‹Allows _ _› rfl)
    : Stays W d₀ (writeMirror d l) :=
  .ite hk (.ite (hostWrite_stays (setLane_stays hk)) (postEntry_stays (setLane_stays hk)))

theorem execIntakeLaneVisit_leaves {lane} {s : State} (hw : Allows W [.lanes, .taken, .intakeRest,
    .admRest] := by exact .mono ‹Allows _ _› rfl) : Leaves W s (execIntakeLaneVisit lane s) :=
  onDev_leaves fun {d₀} {d} hk => by
    extract_lets _ d1 _ _ _ _ _ _ _ x d2 _ d3 d4 d5
    have h1 : Stays W d₀ d1 := { hk with taken := hw.may rfl, intakeRest := hw.may rfl }
    have h4 : Stays W d₀ d4 := ctrInc_stays { setLane_stays h1 with taken := hw.may rfl, intakeRest := hw.may rfl }
    have h5 : Stays W d₀ d5 := .ite (writeMirror_stays h4) h4
    refine .ite hk (.ite h1 (.ite (writeMirror_stays h1) (.ite (writeMirror_stays h1) (.ite (detectFor_stays (setLane_stays h1)) ?_))))
    split
    · exact ctrInc_stays h1
    · exact .ite h5 (refuseTaken_stays h5)

theorem execReqLaneResync_leaves {fn value} {s : State} (hw : Allows W [.lanes] := by exact .mono ‹Allows _ _› rfl)
    : Leaves W s (execReqLaneResync fn value s) :=
  onDev_leaves fun hk => .ite (ctrInc_stays hk) (.ite hk (setLane_stays hk))

theorem execLaneSetup_leaves {lane seq} {s : State} (hw : Allows W [.lanes, .taken, .admRest] := by exact .mono ‹Allows _ _› rfl)
    : Leaves W s (execLaneSetup lane seq s) :=
  onTaken_leaves fun hk => by
    dsimp only
    split
    · exact refuseTaken_stays hk
    · exact .ite (refuseTaken_stays hk) (finishOp_stays (setLane_stays (dropTaken_stays hk)))

theorem flushLog_stays {n} (hk : Stays W d₀ d) : Stays W d₀ (flushLog d n) :=
  brokenTold_stays (.foldl (fun _ _ k => ringPutRaw_stays k) { hk with })

theorem execRingSetup_leaves {lane seq} {s : State} (hw : Allows W [.taken, .admRest] := by exact .mono ‹Allows _ _› rfl)
    : Leaves W s (execRingSetup lane seq s) :=
  onTaken_leaves fun {d₀} {_} {_} hk => by
    dsimp only
    split
    · exact refuseTaken_stays hk
    · refine .ite (refuseTaken_stays hk) (.ite (refuseTaken_stays hk) (finishOp_stays ?_))
      exact .ite (flushLog_stays (mirrorPush_stays { dropTaken_stays hk with })) (mirrorPush_stays { dropTaken_stays hk with })

theorem dropRing_stays {n} (hk : Stays W d₀ d) : Stays W d₀ (dropRing d n) := mirrorPush_stays { hk with }

theorem execRingTeardown_leaves {lane seq} {s : State} (hw : Allows W [.taken, .admRest] := by exact .mono ‹Allows _ _› rfl)
    : Leaves W s (execRingTeardown lane seq s) :=
  onTaken_leaves fun hk => by
    dsimp only
    split
    · exact refuseTaken_stays hk
    · split
      · exact refuseTaken_stays hk
      · exact .ite (refuseTaken_stays hk) (finishOp_stays (dropRing_stays (dropTaken_stays hk)))

theorem breakRing_stays {r} (hk : Stays W d₀ d) : Stays W d₀ (breakRing d r) := brokenTold_stays (ringBreak_stays hk)

theorem headReadDone_stays {n result} (hk : Stays W d₀ d) (hw : Allows W [.requests, .reqsRest, .sas,
    .bob] := by exact .mono ‹Allows _ _› rfl) : Stays W d₀ (headReadDone d n result) := by
  unfold headReadDone
  split
  · exact hk
  · refine .ite hk ?_
    extract_lets _ d1
    have h1 : Stays W d₀ d1 := { hk with }
    split
    · exact ringsMoved_stays (breakRing_stays h1)
    · refine .ite (ringsMoved_stays (brokenTold_stays (ringDrain_stays ?_))) (ringsMoved_stays (brokenTold_stays (startHeadRead_stays ?_)))
      · exact setRing_stays h1
      · exact setRing_stays h1

theorem execRingHeadReadDone_leaves {ring result} {s : State} (hw : Allows W [.requests, .reqsRest, .sas,
    .bob] := by exact .mono ‹Allows _ _› rfl) : Leaves W s (execRingHeadReadDone ring result s) :=
  onDev_leaves fun hk => headReadDone_stays hk

theorem execRingStallTimeout_leaves {ring} {s : State} : Leaves W s (execRingStallTimeout ring s) :=
  onDev_leaves fun hk => by
    split
    · split
      · exact .ite hk (detect_stays (setRing_stays hk))
      · exact hk
    · exact hk

/-! ## Machine/Transfer.lean -/

theorem storedBlocks_stays {k rs} (hk : Stays W d₀ d) (hw : Allows W [.sas] := by exact .mono ‹Allows _ _› rfl)
    : Stays W d₀ (storedBlocks k rs d).2 := by
  induction rs generalizing d with
  | nil => exact hk
  | cons r rs ih =>
    rw [storedBlocks]
    split
    next he => exact .snd (travelPart_stays hk) he
    next he => exact ih (.snd (travelPart_stays hk) he)

theorem copyStored_stays {k r ls} (hk : Stays W d₀ d) (hw : Allows W [.sas] := by exact .mono ‹Allows _ _› rfl)
    : Stays W d₀ (copyStored k r ls d).2 := by
  induction ls generalizing d with
  | nil => exact hk
  | cons l ls ih =>
    rw [copyStored]
    dsimp only
    split
    · exact storedBlocks_stays hk
    · exact ih (storedBlocks_stays hk)

theorem copyExpanded_stays {k rs} (hk : Stays W d₀ d) (hw : Allows W [.sas] := by exact .mono ‹Allows _ _› rfl)
    : Stays W d₀ (copyExpanded k rs d).2 := by
  induction rs generalizing d with
  | nil => exact hk
  | cons r rs ih =>
    rw [copyExpanded]
    split
    · exact ih hk
    · dsimp only
      split
      · exact readBody_stays hk
      · exact ih (readBody_stays hk)

theorem copyPagesOut_stays {k r} (hk : Stays W d₀ d) (hw : Allows W [.sas] := by exact .mono ‹Allows _ _› rfl)
    : Stays W d₀ (copyPagesOut d k r).2 := .ite₂ (copyExpanded_stays hk) (copyStored_stays hk)

theorem onXfer_leaves {l q form s} {f : Dev → Taken → Dev} (hf : ∀ {d₀ d t}, Stays W d₀ d → Stays W d₀ (f d t)) :
    Leaves W s (onXfer l q form f s) :=
  onTaken_leaves fun hk => .ite (hf hk) hk

theorem startXfer_stays {t stages ready data src low count port} {touch : Dev → Dev} (hk : Stays W d₀ d)
    (ht : ∀ {x}, Stays W d₀ x → Stays W d₀ (touch x)) (hw : Allows W [.taken, .operations, .admRest, .ports, .sas, .bob,
        .retrieval] := by exact .mono ‹Allows _ _› rfl) :
    Stays W d₀ (startXfer d t stages ready data src low count port touch) := by
  unfold startXfer
  extract_lets _ _ d1
  have h1 : Stays W d₀ d1 := dropTaken_stays hk
  split
  next he => exact admissionReply_stays (admitted_stays h1 he)
  next he =>
    extract_lets d3 _ r
    have h3 : Stays W d₀ d3 := ht (admitted_stays h1 he)
    have hr : Stays W d₀ r.2 := promoteAll_stays h3
    clear_value r
    refine .ite (admissionReply_stays (ctrInc_stays h1)) ?_
    split
    · exact hr
    · split
      · exact failOp_stays hr
      · exact hr

theorem touchSource_stays {k ls} (hk : Stays W d₀ d) (hw : Allows W [.sas] := by exact .mono ‹Allows _ _› rfl)
    : Stays W d₀ (touchSource d k ls) := setSkein_stays hk

theorem execCopyRange_leaves {lane seq data} {s : State} (hw : Allows W [.taken, .operations, .admRest, .ports, .sas, .bob,
    .retrieval] := by exact .mono ‹Allows _ _› rfl) : Leaves W s (execCopyRange lane seq data s) :=
  onXfer_leaves fun hk => by
    dsimp only
    split
    · exact refuseTaken_stays hk
    · refine .ite (refuseTaken_stays hk) ?_
      split
      · exact refuseTaken_stays hk
      · split
        · exact refuseTaken_stays hk
        · exact .ite (refuseTaken_stays (placeRefused_stays hk)) (startXfer_stays hk id)

theorem execCopyPages_leaves {lane seq} {s : State} (hw : Allows W [.taken, .operations, .admRest, .ports, .sas, .bob,
    .retrieval] := by exact .mono ‹Allows _ _› rfl) : Leaves W s (execCopyPages lane seq s) :=
  onXfer_leaves fun hk => by
    dsimp only
    split
    · exact refuseTaken_stays hk
    · split
      · exact refuseTaken_stays hk
      · refine .ite (refuseTaken_stays hk) ?_
        split
        · exact refuseTaken_stays hk
        · refine .ite (refuseTaken_stays hk) ?_
          split
          · exact refuseTaken_stays hk
          · refine .ite (refuseTaken_stays hk) ?_
            split
            · exact refuseTaken_stays hk
            · exact .ite (refuseTaken_stays (placeRefused_stays hk)) (startXfer_stays hk touchSource_stays)

theorem execPromote_leaves {lane seq} {s : State} (hw : Allows W [.taken, .operations, .admRest, .ports, .sas, .bob,
    .retrieval] := by exact .mono ‹Allows _ _› rfl) : Leaves W s (execPromote lane seq s) :=
  onXfer_leaves fun hk => by
    dsimp only
    split
    · exact refuseTaken_stays hk
    · split
      · exact refuseTaken_stays hk
      · refine .ite (refuseTaken_stays hk) (.ite (refuseTaken_stays hk) ?_)
        split
        · exact refuseTaken_stays hk
        · exact startXfer_stays hk (fun k => touchSource_stays k)

theorem xferPost_stays {c a bs cls deadline src use} (hk : Stays W d₀ d) : Stays W d₀ (xferPost d c a bs cls deadline src use) :=
  postEntry_stays hk

theorem execHeader_leaves {lane seq} {s : State} (hw : Allows W [.taken, .admRest, .sas, .stk, .bob] := by exact .mono ‹Allows _ _› rfl)
    : Leaves W s (execHeader lane seq s) :=
  onTaken_leaves fun {d₀} {_} {_} hk => by
    extract_lets _ k
    clear_value k
    split
    · exact refuseTaken_stays hk
    · split
      · exact refuseTaken_stays hk
      · refine .ite (refuseTaken_stays hk) ?_
        split
        · exact refuseTaken_stays hk
        · extract_lets _ d2
          have h2 : Stays W d₀ d2 := ctrInc_stays (touchSource_stays (dropTaken_stays hk))
          refine .ite (refuseTaken_stays hk) (.ite (refuseTaken_stays hk) (.ite (expire_stays (dropTaken_stays hk)) ?_))
          refine .ite (xferPost_stays h2) (.ite (finishOp_stays (hostWriteAttr_stays h2)) ?_)
          split
          · next he =>
            obtain ⟨_, he⟩ := Option.ite_none_left_eq_some.mp he
            exact finishOp_stays (workWrite_stays h2 he)
          · exact finishOp_stays (ctrInc_stays h2)

theorem execLocate_leaves {lane seq} {s : State} (hw : Allows W [.taken, .admRest] := by exact .mono ‹Allows _ _› rfl)
    : Leaves W s (execLocate lane seq s) :=
  onTaken_leaves fun hk => by
    dsimp only
    split
    · exact refuseTaken_stays hk
    · split
      · exact .ite (finishOp_stays (dropTaken_stays hk)) (refuseTaken_stays hk)
      · exact .ite (finishOp_stays (dropTaken_stays hk)) (refuseTaken_stays hk)
      · exact .ite (finishOp_stays (dropTaken_stays hk)) (refuseTaken_stays hk)
      · exact refuseTaken_stays hk
      · exact refuseTaken_stays hk
      · exact refuseTaken_stays hk
      · exact refuseTaken_stays hk
      · exact refuseTaken_stays hk

theorem deliverSas_stays {o a c} (hk : Stays W d₀ d) (he : deliverSas d o a c = some e) (hw : Allows W [.sas, .stk,
    .bob] := by exact .mono ‹Allows _ _› rfl) : Stays W d₀ e := by
  unfold deliverSas at he
  split at he
  · cases he
  · next hx =>
    split at he
    · cases he; exact workWrite_stays hk hx
    · obtain ⟨x, hy, rfl⟩ := Option.map_eq_some_iff.mp he
      exact .foldl (fun _ _ k => setPoison_stays k) (workWrite_stays (workWrite_stays hk hx) hy)

theorem placeCopies_stays {k dst rs n} (hk : Stays W d₀ d) (hw : Allows W [.sas, .stk, .bob, .fabric] := by exact .mono ‹Allows _ _› rfl)
    : Stays W d₀ (placeCopies d k dst rs n).2.2.2 := by
  induction rs generalizing d n with
  | nil => exact hk
  | cons r rs ih =>
    rw [placeCopies]
    split
    · exact hk
    · split
      next he => exact .snd (travelPart_stays hk) he
      next he =>
        dsimp only
        split
        · exact setSkein_stays (placePage_stays (.snd (travelPart_stays hk) he))
        · exact ih (setSkein_stays (placePage_stays (.snd (travelPart_stays hk) he)))

theorem xferDecode_stays {o expanded e} (hk : Stays W d₀ d) : Stays W d₀ (xferDecode d o expanded e) := decodeError_stays hk

theorem endXfer_stays {o status r0 r1} (hk : Stays W d₀ d) (hw : Allows W [.operations] := by exact .mono ‹Allows _ _› rfl)
    : Stays W d₀ (endXfer d o status r0 r1) :=
  finishOp_stays (dropOp_stays (ctrInc_stays (.ite (ctrInc_stays hk) (.ite (ctrInc_stays hk) hk))))

theorem xferRefused_stays {o status r0} (hk : Stays W d₀ d) (hw : Allows W [.operations, .ports,
    .retrieval] := by exact .mono ‹Allows _ _› rfl) : Stays W d₀ (xferRefused d o status r0) := by
  unfold xferRefused
  split
  · exact failOp_stays hk
  · exact endXfer_stays hk

theorem xferData_stays {o rec data src} (hk : Stays W d₀ d) (hw : Allows W [.operations, .ports, .sas,
    .retrieval] := by exact .mono ‹Allows _ _› rfl) : Stays W d₀ (xferData d o rec data src).2 := by
  have h1 : Stays W d₀ (endXfer d o St.zeroized 0 0) := endXfer_stays hk
  unfold xferData
  refine .ite₂ (.ite₂ ?_ ?_) ?_
  · split
    · exact shuttleBytes_stays hk
    · exact failOp_stays (ctrInc_stays hk)
  · extract_lets p
    exact .ite₂ h1 (.ite₂ (failOp_stays (poisonRead_stays hk)) (shuttleBytes_stays hk))
  · split
    · exact hk
    · extract_lets bad
      have h2 : Stays W d₀ bad.2 := .foldl₂ (fun _ _ k => by
          split
          · exact .ite₂ k (poisonBody_stays k)
          · exact k) hk
      refine .ite₂ h1 (.ite₂ (failOp_stays h2) (copyPagesOut_stays hk))

theorem xferOut_stays {o rec data src} (hk : Stays W d₀ d) (hw : Allows W [.operations, .ports, .sas, .stk, .bob, .retrieval,
    .fabric] := by exact .mono ‹Allows _ _› rfl) : Stays W d₀ (xferOut d o rec data src) := by
  unfold xferOut
  refine .ite ?_ ?_
  · split
    · exact hk
    · extract_lets refs
      refine .ite (endXfer_stays hk) ?_
      split
      next he =>
        have h1 := congrArg (fun r : Nat × Nat × _ × Dev => Stays W d₀ r.2.2.2) he ▸ placeCopies_stays hk
        split
        · exact endXfer_stays (xferDecode_stays h1)
        · exact .ite (xferRefused_stays h1) (setOp_stays h1)
  · split
    · next he => exact .snd (xferData_stays hk) he
    · next c d1 he =>
      have h1 : Stays W d₀ d1 := .snd (xferData_stays hk) he
      extract_lets fin _ d2
      have h_fin {x} (k : Stays W d₀ x) : Stays W d₀ (fin x) := by
        unfold fin
        split
        · exact endXfer_stays (xferDecode_stays k)
        · exact setOp_stays k
      have h2 : Stays W d₀ d2 := hostWriteAttr_stays h1
      refine .ite (h_fin (.ite (hostWriteAttr_stays h2) h2)) ?_
      split
      · next he =>
        obtain ⟨_, he⟩ := Option.ite_none_left_eq_some.mp he
        exact h_fin (deliverSas_stays h1 he)
      · exact xferRefused_stays (ctrInc_stays h1)

theorem xferToConn_stays {o rec data src} (hk : Stays W d₀ d) (hw : Allows W [.operations, .ports, .sas,
    .retrieval] := by exact .mono ‹Allows _ _› rfl) : Stays W d₀ (xferToConn d o rec data src) := by
  unfold xferToConn
  split
  next he => exact .snd (xferData_stays hk) he
  next he =>
    refine .ite (stopOp_stays (setOp_stays (.snd (xferData_stays hk) he))) ?_
    dsimp only
    split
    · exact xferPost_stays (setOp_stays (.snd (xferData_stays hk) he))
    · exact endXfer_stays (xferDecode_stays (postEntry_stays (xferPost_stays (setOp_stays (.snd (xferData_stays hk) he)))))

theorem xferDone_stays {o rec} (hk : Stays W d₀ d) (hw : Allows W [.operations] := by exact .mono ‹Allows _ _› rfl)
    : Stays W d₀ (xferDone d o rec) := endXfer_stays hk

/-! ## Machine/Host.lean -/

theorem endOwned_stays {p status} (hk : Stays W d₀ d) (hw : Allows W [.requests, .sas, .bob] := by exact .mono ‹Allows _ _› rfl)
    : Stays W d₀ (endOwned d p status) := by
  unfold endOwned
  refine .foldl (fun _ _ k => ?_) hk
  split
  · exact k
  · exact .ite k (.ite (genEnd_stays k) (promptEnd_stays k))

theorem hostReadEnds_stays {x data} (hk : Stays W d₀ d) (hw : Allows W [.taken, .admRest, .requests, .stopSets, .reqsRest, .sas,
    .bob] := by exact .mono ‹Allows _ _› rfl) : Stays W d₀ (hostReadEnds d x data) := by
  unfold hostReadEnds
  split
  · exact headReadDone_stays hk
  · dsimp only
    split
    · split
      · exact stopSetFinish_stays { hk with }
      · exact { hk with }
    · split
      · exact { hk with }
      · exact complete_stays (faultOp_stays (ctrInc_stays { hk with }))
    · exact { hk with }

theorem execHostReadCompletion_leaves {id result} {s : State} (hw : Allows W [.taken, .admRest, .requests, .stopSets, .reqsRest, .sas,
    .bob] := by exact .mono ‹Allows _ _› rfl) : Leaves W s (execHostReadCompletion id result s) :=
  onDevC_leaves fun hk => by
    split
    · exact .ite (hostReadEnds_stays hk) hk
    · exact hk

theorem failReads_stays {p} (hk : Stays W d₀ d) (hw : Allows W [.taken, .admRest, .requests, .stopSets, .reqsRest, .sas,
    .bob] := by exact .mono ‹Allows _ _› rfl) : Stays W d₀ (failReads d p) := .foldl (fun _ _ k => .ite (hostReadEnds_stays k) k) hk

theorem execHostLinkDown_leaves {s : State} (hw : Allows W [.ready, .link, .hostRest, .taken, .admRest, .requests, .stopSets, .reqsRest,
    .sas, .bob] := by exact .mono ‹Allows _ _› rfl) : Leaves W s (execHostLinkDown s) :=
  onDevC_leaves fun hk => .ite hk (failReads_stays (unpost_stays { hk with link := hw.may rfl, hostRest := hw.may rfl }))

theorem execHostLinkUp_leaves {rate width} {s : State} (hw : Allows W [.ready, .link, .hostRest] := by exact .mono ‹Allows _ _› rfl)
    : Leaves W s (execHostLinkUp rate width s) :=
  onDev_leaves fun {d₀} {_} hk => by
    refine .ite hk ?_
    extract_lets _ _ _ _ d1
    have h1 : Stays W d₀ d1 := post_stays { hk with link := hw.may rfl, hostRest := hw.may rfl }
    exact .ite h1 (.ite (reportOver_stays (detect_stays (ctrInc_stays h1))) (detect_stays (ctrInc_stays h1)))

theorem fnReset_stays {o} (hk : Stays W d₀ d) (hw : Allows W [.lanes, .intakeRest, .operations, .ports, .requests, .reqsRest, .sas, .bob,
    .retrieval, .lines, .checks] := by exact .mono ‹Allows _ _› rfl) : Stays W d₀ (fnReset d o) := by
  unfold fnReset
  extract_lets _ d1 _ d2 d3 d4 d5 _ d6 d7
  have h3 : Stays W d₀ d3 :=
      .foldl (fun _ _ k => dropRing_stays k) { ctrAdd_stays hk with lanes := hw.may rfl, intakeRest := hw.may rfl, lines := hw.may rfl, checks := hw.may rfl }
  have h5 : Stays W d₀ d5 := .foldl (fun _ _ k => endOp_stays k) (endOwned_stays h3)
  have h7 : Stays W d₀ d7 := { h5 with lanes := hw.may rfl, intakeRest := hw.may rfl, lines := hw.may rfl, checks := hw.may rfl }
  exact ringsMoved_stays { h7 with lanes := hw.may rfl, intakeRest := hw.may rfl, lines := hw.may rfl, checks := hw.may rfl }

theorem fnConfigReset_stays {o} (hk : Stays W d₀ d) (hw : Allows W [.config] := by exact .mono ‹Allows _ _› rfl)
    : Stays W d₀ (fnConfigReset d o) := { hk with config := hw.may rfl }

theorem setTdisp_stays {o t} (hk : Stays W d₀ d) (hw : Allows W [.tdisp] := by exact .mono ‹Allows _ _› rfl)
    : Stays W d₀ (setTdisp d o t) := { hk with tdisp := hw.may rfl }

theorem tdispFail_stays {o} (hk : Stays W d₀ d) (hw : Allows W [.tdisp, .lanes, .intakeRest, .operations, .ports, .requests, .reqsRest,
    .sas, .bob, .retrieval, .lines, .checks] := by exact .mono ‹Allows _ _› rfl) : Stays W d₀ (tdispFail d o) :=
    detect_stays (ctrInc_stays (fnReset_stays (setTdisp_stays hk)))

theorem resetFn_stays {o} (hk : Stays W d₀ d) (hw : Allows W [.config, .tdisp, .lanes, .intakeRest, .operations, .ports, .requests,
    .reqsRest, .sas, .bob, .retrieval, .lines, .checks] := by exact .mono ‹Allows _ _› rfl) : Stays W d₀ (resetFn d o) :=
    fnConfigReset_stays (.ite (tdispFail_stays hk) (fnReset_stays hk))

theorem execVfFunctionLevelReset_leaves {domain} {s : State} (hw : Allows W [.config, .tdisp, .lanes, .intakeRest, .operations, .ports,
    .requests, .reqsRest, .sas, .bob, .retrieval, .lines, .checks] := by exact .mono ‹Allows _ _› rfl)
    : Leaves W s (execVfFunctionLevelReset domain s) :=
  onDevC_leaves fun hk => .ite (resetFn_stays (ctrInc_stays hk)) hk

theorem resetAllFns_stays (hk : Stays W d₀ d) (hw : Allows W [.config, .tdisp, .lanes, .intakeRest, .operations, .ports, .requests,
    .reqsRest, .sas, .bob, .retrieval, .lines, .checks] := by exact .mono ‹Allows _ _› rfl) : Stays W d₀ (resetAllFns d) := by
  unfold resetAllFns
  extract_lets d1
  have h1 : Stays W d₀ d1 := .foldl (fun _ _ k => resetFn_stays k) hk
  clear_value d1
  exact { h1 with config := hw.may rfl }

theorem execPfFunctionLevelReset_leaves {_hot} {s : State} (hw : Allows W [.config, .tdisp, .lanes, .intakeRest, .operations, .ports,
    .requests, .reqsRest, .sas, .bob, .retrieval, .lines, .checks] := by exact .mono ‹Allows _ _› rfl)
    : Leaves W s (execPfFunctionLevelReset _hot s) :=
  onDevC_leaves fun hk => resetAllFns_stays (ctrInc_stays hk)

theorem execMsixIntervalExpiry_leaves {fn} {s : State} : Leaves W s (execMsixIntervalExpiry fn s) :=
  onDev_leaves fun hk => .ite (msixRaise_stays hk) hk

theorem execMsixVectorUnmask_leaves {fn} {s : State} : Leaves W s (execMsixVectorUnmask fn s) :=
  onDev_leaves fun hk => .ite (msixRaise_stays { hk with }) { hk with }

theorem execDoeRequest_leaves {o} {s : State} (hw : Allows W [.doe] := by exact .mono ‹Allows _ _› rfl)
    : Leaves W s (execDoeRequest o s) :=
  onDev_leaves fun hk => .ite hk (.ite (emit_stays { hk with doe := hw.may rfl }) (emit_stays { hk with doe := hw.may rfl }))

theorem execDoeAbort_leaves {s : State} (hw : Allows W [.doe] := by exact .mono ‹Allows _ _› rfl) : Leaves W s (execDoeAbort s) :=
    onDev_leaves fun hk => { hk with doe := hw.may rfl }

theorem tdispRefuse_stays {o code} (hk : Stays W d₀ d) : Stays W d₀ (tdispRefuse d o code) := emit_stays hk

theorem execLockInterface_leaves {domain ideSecure} {s : State} (hw : Allows W [.tdisp] := by exact .mono ‹Allows _ _› rfl)
    : Leaves W s (execLockInterface domain ideSecure s) :=
  onDev_leaves fun hk => .ite (tdispRefuse_stays hk) (.ite (tdispRefuse_stays hk) (emit_stays (setTdisp_stays hk)))

theorem execStartInterface_leaves {domain} {s : State} (hw : Allows W [.tdisp] := by exact .mono ‹Allows _ _› rfl)
    : Leaves W s (execStartInterface domain s) :=
  onDev_leaves fun hk => .ite (emit_stays (setTdisp_stays hk)) (tdispRefuse_stays hk)

theorem execStopInterface_leaves {domain} {s : State} (hw : Allows W [.tdisp] := by exact .mono ‹Allows _ _› rfl)
    : Leaves W s (execStopInterface domain s) :=
  onDev_leaves fun hk => emit_stays (setTdisp_stays hk)

theorem execGetDeviceInterfaceReport_leaves {domain} {s : State} : Leaves W s (execGetDeviceInterfaceReport domain s) :=
  onDev_leaves fun hk => emit_stays hk

theorem execTdispInterfaceError_leaves {domain cause} {s : State} (hw : Allows W [.tdisp, .lanes, .intakeRest, .operations, .ports,
    .requests, .reqsRest, .sas, .bob, .retrieval, .lines, .checks] := by exact .mono ‹Allows _ _› rfl)
    : Leaves W s (execTdispInterfaceError domain cause s) :=
  onDevC_leaves fun hk => .ite (tdispFail_stays hk) hk

theorem cfgTouch_stays {fn} (hk : Stays W d₀ d) (hw : Allows W [.tdisp, .lanes, .intakeRest, .operations, .ports, .requests, .reqsRest,
    .sas, .bob, .retrieval, .lines, .checks] := by exact .mono ‹Allows _ _› rfl) : Stays W d₀ (cfgTouch d fn) :=
    .ite (tdispFail_stays hk) hk

theorem execPcieConfigurationWrite_leaves {w} {s : State} (hw : Allows W [.config, .tdisp, .lanes, .taken, .intakeRest, .operations,
    .admRest, .ports, .requests, .stopSets, .reqsRest, .sas, .bob, .retrieval, .lines, .checks] := by exact .mono ‹Allows _ _› rfl)
    : Leaves W s (execPcieConfigurationWrite w s) :=
  onDevC_leaves fun hk => by
    split
    · exact { hk with config := hw.may rfl }
    · exact .ite { hk with config := hw.may rfl } hk
    · exact .ite { hk with config := hw.may rfl } hk
    · exact .ite hk (cfgTouch_stays (.ite { hk with config := hw.may rfl } (failReads_stays { hk with config := hw.may rfl })))
    · exact .ite hk (cfgTouch_stays { hk with config := hw.may rfl })
    · exact .ite { hk with config := hw.may rfl } hk
    · exact { hk with config := hw.may rfl }
    · exact .ite (msixRaise_stays { hk with config := hw.may rfl }) { hk with config := hw.may rfl }
    · exact { hk with config := hw.may rfl }
    · exact cfgTouch_stays hk

end

end Sys2Proof.Machine
end

section
/-! # Footprints of custody, events and the transport -/

namespace Sys2Proof.Machine

open Sys2Proof

set_option Elab.async false -- each lemma rests on the ones before it: elaborated in order, none of them waits in a thread of its own

section
variable {W : Area → Bool} {d₀ d e : Dev}

/-! ## Machine/Custody.lean -/

theorem signedDo_stays {h lo anyTime own} {f : Dev → Dev} (hk : Stays W d₀ d) (hf : ∀ {x}, Stays W d₀ x → Stays W d₀ (f x))
    (hw : Allows W [.msgSeq] := by exact .mono ‹Allows _ _› rfl) :
    Stays W d₀ (signedDo d h lo anyTime own f).2 := by
  unfold signedDo
  extract_lets
  split
  · exact hf (ctrInc_stays { hk with msgSeq := hw.may rfl })
  · exact ctrInc_stays hk

theorem onSigned_leaves {f : Dev → Nat × Dev} {s} (hf : ∀ {d₀ d}, Stays W d₀ d → Stays W d₀ (f d).2) (hw : Allows W [.sas,
    .bob] := by exact .mono ‹Allows _ _› rfl) : Leaves W s (onSigned f s) :=
  onDevC_leaves fun hk => .ite (emit_stays (hf hk)) hk

theorem tellSensors_stays {was : Dev} (hk : Stays W d₀ d) : Stays W d₀ (tellSensors was d) := by
  unfold tellSensors
  extract_lets d1 d2
  have h1 : Stays W d₀ d1 := .ite (pldmChange_stays hk) hk
  have h2 : Stays W d₀ d2 := .ite (pldmChange_stays h1) h1
  exact .ite (pldmChange_stays h2) h2

theorem stopService_stays {status} (hk : Stays W d₀ d) (hw : Allows W [.operations, .admRest, .ports, .requests, .sas, .bob, .retrieval,
    .fabric] := by exact .mono ‹Allows _ _› rfl) : Stays W d₀ (stopService d status) := by
  unfold stopService
  refine endOwned_stays (failAll_stays (stopFabric_stays (.foldl (fun _ _ k => ?_) { hk with admRest := hw.may rfl })))
  split
  · exact farEnd_stays k
  · exact complete_stays k

theorem enterCustody_stays {trigger} (hk : Stays W d₀ d) (hw : Allows W [.custody, .operations, .admRest, .ports, .requests, .sas, .bob,
    .retrieval, .fabric] := by exact .mono ‹Allows _ _› rfl) : Stays W d₀ (enterCustody d trigger) := by
  have hgo {x y : Dev} (h : Stays W d₀ x) :
      Stays W d₀ (tellSensors y { x with flt := { x.flt with custody := .custody, trigger := trigger, custodyAt := now x } }) :=
    tellSensors_stays { h with custody := hw.may rfl }
  unfold enterCustody
  dsimp only
  split
  · exact ctrInc_stays hk
  · exact hgo (detectDevice_stays (ctrInc_stays hk))
  · exact hgo (stopService_stays (detectDevice_stays (ctrInc_stays hk)))

theorem custodyEnterDo_stays (hk : Stays W d₀ d) (hw : Allows W [.custody, .operations, .admRest, .ports, .requests, .sas, .bob,
    .retrieval, .fabric] := by exact .mono ‹Allows _ _› rfl) : Stays W d₀ (custodyEnterDo d) := enterCustody_stays (detectDevice_stays hk)

theorem signedCustodyEnter_stays {h} (hk : Stays W d₀ d) (hw : Allows W [.custody, .msgSeq, .operations, .admRest, .ports, .requests,
    .sas, .bob, .retrieval, .fabric] := by exact .mono ‹Allows _ _› rfl) : Stays W d₀ (signedCustodyEnter d h).2 :=
    signedDo_stays hk custodyEnterDo_stays

theorem execCustodyEnter_leaves {h} {s : State} (hw : Allows W [.custody, .msgSeq, .operations, .admRest, .ports, .requests, .sas, .bob,
    .retrieval, .fabric] := by exact .mono ‹Allows _ _› rfl) : Leaves W s (execCustodyEnter h s) :=
    onSigned_leaves fun hk => signedCustodyEnter_stays hk

theorem readmitDo_stays (hk : Stays W d₀ d) (hw : Allows W [.custody] := by exact .mono ‹Allows _ _› rfl) : Stays W d₀ (readmitDo d) :=
    .ite (tellSensors_stays { hk with custody := hw.may rfl }) hk

theorem signedReadmit_stays {h} (hk : Stays W d₀ d) (hw : Allows W [.custody, .msgSeq] := by exact .mono ‹Allows _ _› rfl)
    : Stays W d₀ (signedReadmit d h).2 := signedDo_stays hk readmitDo_stays

theorem execReadmit_leaves {h} {s : State} (hw : Allows W [.custody, .msgSeq, .sas, .bob] := by exact .mono ‹Allows _ _› rfl)
    : Leaves W s (execReadmit h s) := onSigned_leaves fun hk => signedReadmit_stays hk

theorem coreResetStart_stays (hk : Stays W d₀ d) (hw : Allows W [.ready, .secRest] := by exact .mono ‹Allows _ _› rfl)
    : Stays W d₀ (coreResetStart d) :=
  have h : Stays W d₀ (ctrInc d cCoreResets) := ctrInc_stays hk
  unpost_stays { h with secRest := hw.may rfl }

theorem coreResetEnd_stays (hk : Stays W d₀ d) (hw : Allows W [.ready, .secRest] := by exact .mono ‹Allows _ _› rfl)
    : Stays W d₀ (coreResetEnd d) := post_stays { hk with secRest := hw.may rfl }

theorem repostAll_stays (hk : Stays W d₀ d) (hw : Allows W [.ready] := by exact .mono ‹Allows _ _› rfl) : Stays W d₀ (repostAll d) :=
    .foldl (fun _ _ k => .ite (post_stays k) k) hk

theorem zeroizeKeys_stays (hk : Stays W d₀ d) (hw : Allows W [.bootRest, .ready, .tdisp, .keys, .spdm, .assocs, .lanes, .intakeRest,
    .operations, .ports, .requests, .reqsRest, .sas, .bob, .retrieval, .lines, .checks] := by exact .mono ‹Allows _ _› rfl)
    : Stays W d₀ (zeroizeKeys d) :=
  ctrInc_stays (.foldl (fun _ _ k => tdispFail_stays k) (unpost_stays { hk with bootRest := hw.may rfl, keys := hw.may rfl, spdm := hw.may rfl, assocs := hw.may rfl }))

theorem zeroizeWith_stays {trigger} (hk : Stays W d₀ d) (hw : Allows W [.bootRest, .ready, .custody, .tdisp, .keys, .spdm, .assocs,
    .lanes, .intakeRest, .operations, .admRest, .ports, .requests, .reqsRest, .sas, .bob, .retrieval, .fabric, .lines,
    .checks] := by exact .mono ‹Allows _ _› rfl) : Stays W d₀ (zeroizeWith d trigger) := by
  unfold zeroizeWith
  extract_lets d1 _ d2 d3
  have h1 : Stays W d₀ d1 := hk
  have h2 : Stays W d₀ d2 := zeroizeKeys_stays hk
  have h3 : Stays W d₀ d3 := .ite (ctrInc_stays h2) (detectDevice_stays h2)
  exact enterCustody_stays (tellSensors_stays h3)

theorem zeroizeNow_stays (hk : Stays W d₀ d) (hw : Allows W [.bootRest, .ready, .custody, .tdisp, .keys, .spdm, .assocs, .lanes,
    .intakeRest, .operations, .admRest, .ports, .requests, .reqsRest, .sas, .bob, .retrieval, .fabric, .lines,
    .checks] := by exact .mono ‹Allows _ _› rfl) : Stays W d₀ (zeroizeNow d) := zeroizeWith_stays hk

theorem signedZeroize_stays {h} (hk : Stays W d₀ d) (hw : Allows W [.bootRest, .ready, .custody, .tdisp, .keys, .msgSeq, .spdm, .assocs,
    .lanes, .intakeRest, .operations, .admRest, .ports, .requests, .reqsRest, .sas, .bob, .retrieval, .fabric, .lines,
    .checks] := by exact .mono ‹Allows _ _› rfl) : Stays W d₀ (signedZeroize d h).2 := signedDo_stays hk zeroizeNow_stays

theorem execZeroize_leaves {h} {s : State} (hw : Allows W [.bootRest, .ready, .custody, .tdisp, .keys, .msgSeq, .spdm, .assocs, .lanes,
    .intakeRest, .operations, .admRest, .ports, .requests, .reqsRest, .sas, .bob, .retrieval, .fabric, .lines,
    .checks] := by exact .mono ‹Allows _ _› rfl) : Leaves W s (execZeroize h s) := onSigned_leaves fun hk => signedZeroize_stays hk

theorem execSecZeroize_leaves {fn value} {s : State} (hw : Allows W [.bootRest, .ready, .custody, .tdisp, .keys, .spdm, .assocs, .lanes,
    .intakeRest, .operations, .admRest, .ports, .requests, .reqsRest, .sas, .bob, .retrieval, .fabric, .lines,
    .checks] := by exact .mono ‹Allows _ _› rfl) : Leaves W s (execSecZeroize fn value s) :=
  onDevC_leaves fun hk => .ite (zeroizeNow_stays hk) hk

theorem errorState_stays {cause} (hk : Stays W d₀ d) (hw : Allows W [.bootRest, .ready, .custody, .tdisp, .keys, .spdm, .assocs, .lanes,
    .intakeRest, .operations, .admRest, .ports, .requests, .reqsRest, .sas, .bob, .retrieval, .fabric, .lines,
    .checks] := by exact .mono ‹Allows _ _› rfl) : Stays W d₀ (errorState d cause) :=
    zeroizeWith_stays (detectDevice_stays { hk with keys := hw.may rfl })

theorem execEntropyHealthFailure_leaves {s : State} (hw : Allows W [.bootRest, .ready, .custody, .tdisp, .keys, .spdm, .assocs, .lanes,
    .intakeRest, .operations, .admRest, .ports, .requests, .reqsRest, .sas, .bob, .retrieval, .fabric, .lines,
    .checks] := by exact .mono ‹Allows _ _› rfl) : Leaves W s (execEntropyHealthFailure s) :=
  onDevC_leaves fun hk => .ite (errorState_stays (ctrInc_stays hk)) hk

theorem testsFailed_stays {t} (hk : Stays W d₀ d) (hw : Allows W [.bootRest, .ready, .custody, .tdisp, .keys, .spdm, .assocs, .lanes,
    .intakeRest, .operations, .admRest, .ports, .requests, .reqsRest, .sas, .bob, .retrieval, .fabric, .lines,
    .checks] := by exact .mono ‹Allows _ _› rfl) : Stays W d₀ (testsFailed d t) :=
  .ite (errorState_stays (.ite hk (ctrInc_stays hk))) (errorState_stays (.ite hk (ctrInc_stays hk)))

theorem newSession_stays (hk : Stays W d₀ d) (hw : Allows W [.keys, .session, .msgSeq] := by exact .mono ‹Allows _ _› rfl)
    : Stays W d₀ (newSession d) := { freeNext_stays hk with keys := hw.may rfl, session := hw.may rfl, msgSeq := hw.may rfl }

theorem freeHeld_stays (hk : Stays W d₀ d) (hw : Allows W [.regions, .trackers, .weftCmd, .operations, .admRest, .requests,
    .requestNumbers, .handles, .stopSets, .reqsRest, .sas, .bob, .retrieval, .lines, .checks] := by exact .mono ‹Allows _ _› rfl)
    : Stays W d₀ (freeHeld d) :=
  { hk with
      regions := hw.may rfl, trackers := hw.may rfl, weftCmd := hw.may rfl, operations := hw.may rfl, admRest := hw.may rfl,
      requests := hw.may rfl, requestNumbers := hw.may rfl, handles := hw.may rfl, stopSets := hw.may rfl, reqsRest := hw.may rfl,
      sas := hw.may rfl, bob := hw.may rfl, retrieval := hw.may rfl, lines := hw.may rfl, checks := hw.may rfl,
      workWf := fun _ => rfl }

theorem selfTestDo_stays {t} (hk : Stays W d₀ d) (hw : Allows W [.bootRest, .ready, .custody, .tdisp, .keys, .session, .msgSeq, .spdm,
    .assocs, .lanes, .intakeRest, .regions, .trackers, .weftCmd, .operations, .admRest, .ports, .requests, .requestNumbers, .handles,
    .stopSets, .reqsRest, .sas, .bob, .retrieval, .fabric, .lines, .checks] := by exact .mono ‹Allows _ _› rfl)
    : Stays W d₀ (selfTestDo d t) := by
  unfold selfTestDo
  refine .ite (.ite hk (testsFailed_stays hk)) (.ite ?_ hk)
  extract_lets d1 d2 _ _ d3 d4
  have h1 : Stays W d₀ d1 := hk
  have h2 : Stays W d₀ d2 := freeHeld_stays (newSession_stays hk)
  have h3 : Stays W d₀ d3 := { h2 with bootRest := hw.may rfl }
  have h4 : Stays W d₀ d4 := .ite (post_stays h3) h3
  exact tellSensors_stays (.ite (post_stays h4) h4)

theorem signedSelfTest_stays {h t} (hk : Stays W d₀ d) (hw : Allows W [.bootRest, .ready, .custody, .tdisp, .keys, .session, .msgSeq,
    .spdm, .assocs, .lanes, .intakeRest, .regions, .trackers, .weftCmd, .operations, .admRest, .ports, .requests, .requestNumbers,
    .handles, .stopSets, .reqsRest, .sas, .bob, .retrieval, .fabric, .lines, .checks] := by exact .mono ‹Allows _ _› rfl)
    : Stays W d₀ (signedSelfTest d h t).2 := signedDo_stays hk (fun k => selfTestDo_stays k)

theorem execSelfTest_leaves {h t} {s : State} (hw : Allows W [.bootRest, .ready, .custody, .tdisp, .keys, .session, .msgSeq, .spdm,
    .assocs, .lanes, .intakeRest, .regions, .trackers, .weftCmd, .operations, .admRest, .ports, .requests, .requestNumbers, .handles,
    .stopSets, .reqsRest, .sas, .bob, .retrieval, .fabric, .lines, .checks] := by exact .mono ‹Allows _ _› rfl)
    : Leaves W s (execSelfTest h t s) := onSigned_leaves fun hk => signedSelfTest_stays hk

theorem execReadmitChecksDone_leaves {t failed coresOk portUp} {s : State} (hw : Allows W [.ready, .custody, .fltRest, .secRest, .sas,
    .bob, .fabric] := by exact .mono ‹Allows _ _› rfl) : Leaves W s (execReadmitChecksDone t failed coresOk portUp s) :=
  onDevC_leaves fun {d₀} {_} hk => by
    refine .ite hk ?_
    extract_lets _ d2 d3 d4 _ _ d5
    have h3 : Stays W d₀ d3 := coreResetStart_stays (tilesFail_stays hk)
    have h4 : Stays W d₀ d4 := .ite (coreResetEnd_stays h3) h3
    have h5 : Stays W d₀ d5 := { h4 with custody := hw.may rfl, fltRest := hw.may rfl }
    refine .ite ?_ (tellSensors_stays (detectDevice_stays { h5 with custody := hw.may rfl, fltRest := hw.may rfl }))
    exact tellSensors_stays (detectDevice_stays (ctrInc_stays (repostAll_stays (startFabric_stays { h5 with
        custody := hw.may rfl, fltRest := hw.may rfl }))))

theorem dropAssoc_stays {i} (hk : Stays W d₀ d) (hw : Allows W [.assocs] := by exact .mono ‹Allows _ _› rfl)
    : Stays W d₀ (dropAssoc d i) := { hk with assocs := hw.may rfl }

theorem setAssoc_stays {a} (hk : Stays W d₀ d) (hw : Allows W [.assocs] := by exact .mono ‹Allows _ _› rfl) : Stays W d₀ (setAssoc d a) :=
    { hk with assocs := hw.may rfl }

theorem saOpenDo_stays {b} (hk : Stays W d₀ d) (hw : Allows W [.assocs] := by exact .mono ‹Allows _ _› rfl) : Stays W d₀ (saOpenDo d b) :=
    .ite (emit_stays { hk with assocs := hw.may rfl }) { hk with assocs := hw.may rfl }

theorem signedSaOpen_stays {h b} (hk : Stays W d₀ d) (hw : Allows W [.msgSeq, .assocs] := by exact .mono ‹Allows _ _› rfl)
    : Stays W d₀ (signedSaOpen d h b).2 := signedDo_stays hk (fun k => saOpenDo_stays k)

theorem execSaOpen_leaves {h b} {s : State} (hw : Allows W [.msgSeq, .assocs, .sas, .bob] := by exact .mono ‹Allows _ _› rfl)
    : Leaves W s (execSaOpen h b s) := onSigned_leaves fun hk => signedSaOpen_stays hk

theorem signedSaClose_stays {h sa} (hk : Stays W d₀ d) (hw : Allows W [.msgSeq, .assocs] := by exact .mono ‹Allows _ _› rfl)
    : Stays W d₀ (signedSaClose d h sa).2 := signedDo_stays hk (fun k => dropAssoc_stays k)

theorem execSaClose_leaves {h sa} {s : State} (hw : Allows W [.msgSeq, .assocs, .sas, .bob] := by exact .mono ‹Allows _ _› rfl)
    : Leaves W s (execSaClose h sa s) := onSigned_leaves fun hk => signedSaClose_stays hk

theorem saFails_stays {a} (hk : Stays W d₀ d) (hw : Allows W [.assocs] := by exact .mono ‹Allows _ _› rfl) : Stays W d₀ (saFails d a) :=
    detect_stays (ctrInc_stays (dropAssoc_stays hk))

theorem execSaHello_leaves {m} {s : State} (hw : Allows W [.assocs] := by exact .mono ‹Allows _ _› rfl) : Leaves W s (execSaHello m s) :=
  onDev_leaves fun hk => by
    split
    · exact .ite hk (emit_stays (setAssoc_stays hk))
    · exact hk

theorem execSaReply_leaves {m} {s : State} (hw : Allows W [.assocs] := by exact .mono ‹Allows _ _› rfl) : Leaves W s (execSaReply m s) :=
  onDev_leaves fun hk => by
    split
    · exact .ite (ctrInc_stays (emit_stays (setAssoc_stays hk))) (saFails_stays hk)
    · exact hk

theorem execSaFinish_leaves {m} {s : State} (hw : Allows W [.assocs] := by exact .mono ‹Allows _ _› rfl)
    : Leaves W s (execSaFinish m s) :=
  onDev_leaves fun hk => by
    split
    · exact .ite hk (.ite (ctrInc_stays (setAssoc_stays hk)) (saFails_stays hk))
    · exact hk

theorem execSaHandshakeTimeout_leaves {localSa} {s : State} (hw : Allows W [.assocs] := by exact .mono ‹Allows _ _› rfl)
    : Leaves W s (execSaHandshakeTimeout localSa s) :=
  onDev_leaves fun hk => by
    split
    · exact .ite (saFails_stays hk) hk
    · exact hk

theorem signedFence_stays {h tiles} (hk : Stays W d₀ d) (hw : Allows W [.msgSeq, .retrieval, .fabric,
    .fences] := by exact .mono ‹Allows _ _› rfl) : Stays W d₀ (signedFence d h tiles).2 := signedDo_stays hk (fun k => fenceTiles_stays k)

theorem execFence_leaves {h tiles} {s : State} (hw : Allows W [.msgSeq, .sas, .bob, .retrieval, .fabric,
    .fences] := by exact .mono ‹Allows _ _› rfl) : Leaves W s (execFence h tiles s) := onSigned_leaves fun hk => signedFence_stays hk

theorem signedUnfence_stays {h tiles} (hk : Stays W d₀ d) (hw : Allows W [.msgSeq, .retrieval, .fabric,
    .fences] := by exact .mono ‹Allows _ _› rfl) : Stays W d₀ (signedUnfence d h tiles).2 :=
  signedDo_stays hk (fun k => unfenceTiles_stays k)

theorem execUnfence_leaves {h tiles} {s : State} (hw : Allows W [.msgSeq, .sas, .bob, .retrieval, .fabric,
    .fences] := by exact .mono ‹Allows _ _› rfl) : Leaves W s (execUnfence h tiles s) := onSigned_leaves fun hk => signedUnfence_stays hk

/-! ## Machine/Events.lean -/

theorem advance_stays {o s} (hk : Stays W d₀ d) (hw : Allows W [.operations] := by exact .mono ‹Allows _ _› rfl)
    : Stays W d₀ (advance d o s) := setOp_stays (noteOverrun_stays hk)

theorem expireB_stays {id} (hk : Stays W d₀ d) (hw : Allows W [.operations, .ports, .retrieval] := by exact .mono ‹Allows _ _› rfl)
    : Stays W d₀ (expireB d id) := by
  unfold expireB
  split
  · exact hk
  · split
    · exact .ite (endOp_stays (ctrInc_stays hk)) hk
    · exact hk

theorem relayDone_stays {o status} (hk : Stays W d₀ d) (hw : Allows W [.operations] := by exact .mono ‹Allows _ _› rfl)
    : Stays W d₀ (relayDone d o status) :=
  finishOp_stays (dropOp_stays (.ite (ctrInc_stays hk) hk))

theorem relayStage_stays {o s conn addr bs status} (hk : Stays W d₀ d) (hw : Allows W [.operations] := by exact .mono ‹Allows _ _› rfl)
    : Stays W d₀ (relayStage d o s conn addr bs status) :=
  .ite hk (relayDone_stays (hostWrite_stays (advance_stays hk)))

theorem xferWaits_stays {o s rec src fs} (hk : Stays W d₀ d) (hw : Allows W [.operations, .ports, .sas, .bob,
    .retrieval] := by exact .mono ‹Allows _ _› rfl) : Stays W d₀ (xferWaits d o s rec src fs) := by
  unfold xferWaits
  extract_lets d1 r2
  have h1 : Stays W d₀ d1 := by
    unfold d1
    refine .ite hk ?_
    split
    · split
      · exact countWait_stays (setOp_stays hk)
      · exact hk
    · exact hk
  have h2 : Stays W d₀ r2.2 := promoteAll_stays h1
  split
  · exact h2
  · split
    · exact failOp_stays h2
    · exact h2

theorem xferEnd_stays {id rec} (hk : Stays W d₀ d) (hw : Allows W [.operations, .ports, .retrieval] := by exact .mono ‹Allows _ _› rfl)
    : Stays W d₀ (xferEnd d id rec) := by
  unfold xferEnd
  split
  · exact hk
  · exact .ite (xferDone_stays hk) (expireB_stays hk)

theorem xferStage_stays {o s rec data src} (hk : Stays W d₀ d) (hw : Allows W [.operations, .ports, .sas, .stk, .bob, .retrieval,
    .fabric] := by exact .mono ‹Allows _ _› rfl) : Stays W d₀ (xferStage d o s rec data src) := by
  have h1 {o} : Stays W d₀ (advance d o s) := advance_stays hk
  unfold xferStage
  refine .ite (.ite (xferEnd_stays h1) hk) (.ite (.ite (xferWaits_stays hk) (expireB_stays h1)) ?_)
  refine .ite ?_ (.ite (xferEnd_stays h1) (.ite hk (xferEnd_stays (xferOut_stays (noteOverrun_stays hk)))))
  dsimp only
  split
  · exact .ite (xferToConn_stays (expireB_stays h1)) (expireB_stays h1)
  · exact expireB_stays h1

theorem farStage_stays {o s j} (hk : Stays W d₀ d) (hw : Allows W [.operations, .ports, .sas, .stk, .bob, .retrieval,
    .fabric] := by exact .mono ‹Allows _ _› rfl) : Stays W d₀ (farStage d o s j) := by
  unfold farStage
  extract_lets _ next _ bad
  have h_next {x} (k : Stays W d₀ x) : Stays W d₀ (next x) := by
    unfold next
    extract_lets d1
    have h1 : Stays W d₀ d1 := advance_stays k
    split
    · exact h1
    · extract_lets _ d2
      have h2 : Stays W d₀ d2 := .ite h1 (.foldl (fun _ _ k => expireB_stays k) h1)
      refine .ite h2 ?_
      split
      · exact sendJob_stays h2
      · exact h2
  split
  · exact hk
  · exact .ite (h_next hk) hk
  · exact .ite (h_next hk) (jobWaits_stays hk)
  · have hb : Stays W d₀ bad.2 := .foldl₂ (fun _ _ k => by
        split
        · exact .ite₂ k (poisonBody_stays k)
        · exact k) hk
    exact .ite hk (.ite (jobWaits_stays hk) (.ite (failJob_stays hb) (h_next hb)))
  · exact h_next hk
  · refine .ite hk (.ite (h_next hk) (.ite hk ?_))
    split
    next he => exact .snd (attendRound_stays hk) he
    next he =>
      split
      · exact h_next (setJob_stays (.snd (attendRound_stays hk) he))
      · exact .snd (attendRound_stays hk) he
  · exact hk

theorem opDone_stays {o} (hk : Stays W d₀ d) (hw : Allows W [.operations, .retrieval, .fabric] := by exact .mono ‹Allows _ _› rfl)
    : Stays W d₀ (opDone d o) := by
  unfold opDone
  split
  · exact xferDone_stays hk
  · exact relayDone_stays hk
  · split
    · exact hk
    · split
      · exact memberDone_stays hk
      · exact hk

theorem opLeft_stays {id flight} (hk : Stays W d₀ d) (hw : Allows W [.operations, .retrieval, .fabric] := by exact .mono ‹Allows _ _› rfl)
    : Stays W d₀ (opLeft d id flight) := by
  unfold opLeft
  split
  · exact hk
  · dsimp only
    split
    · split
      · exact advance_stays hk
      · exact hk
    · split
      · refine opDone_stays ?_
        split
        · exact advance_stays hk
        · exact hk
      · refine setOp_stays ?_
        split
        · exact advance_stays hk
        · exact hk

theorem opThere_stays {id} (hk : Stays W d₀ d) (hw : Allows W [.operations, .retrieval, .fabric] := by exact .mono ‹Allows _ _› rfl)
    : Stays W d₀ (opThere d id) := by
  unfold opThere
  split
  · exact hk
  · exact .ite (opDone_stays hk) hk

theorem opLost_stays {id cause status} (hk : Stays W d₀ d) (hw : Allows W [.operations, .ports,
    .retrieval] := by exact .mono ‹Allows _ _› rfl) : Stays W d₀ (opLost d id cause status) := by
  unfold opLost
  split
  · exact hk
  · exact stopOp_stays hk

theorem execStageComplete_leaves {op found} {s : State} (hw : Allows W [.operations, .ports, .sas, .stk, .bob, .retrieval,
    .fabric] := by exact .mono ‹Allows _ _› rfl) : Leaves W s (execStageComplete op found s) :=
  onDevC_leaves fun {d₀} {_} hk => by
    split
    · exact hk
    · split
      · exact hk
      · refine .ite hk ?_
        extract_lets r1 d2
        have h1 : Stays W d₀ r1.2 := .ite₂ (readLines_stays hk) hk
        have h2 : Stays W d₀ d2 := h1
        split
        · exact relayStage_stays h2
        · exact .ite (failOp_stays h2) (xferStage_stays h2)
        · split
          · exact h2
          · exact .ite h2 (.ite (failJob_stays h2) (farStage_stays h2))

theorem execDeadlineWatch_leaves {op} {s : State} (hw : Allows W [.operations, .ports, .sas, .bob, .retrieval,
    .fabric] := by exact .mono ‹Allows _ _› rfl) : Leaves W s (execDeadlineWatch op s) :=
  onDevC_leaves fun hk => by
    split
    · exact hk
    · split
      · refine .ite hk (.ite (opDone_stays hk) ?_)
        split
        · split
          · exact failJob_stays hk
          · exact failOp_stays hk
        · exact failOp_stays hk
      · exact hk

theorem execAdmissionReplyRelease_leaves {s : State} (hw : Allows W [.admRest] := by exact .mono ‹Allows _ _› rfl)
    : Leaves W s (execAdmissionReplyRelease s) :=
  onDev_leaves fun hk => by
    refine .foldl (fun _ _ k => ?_) { hk with admRest := hw.may rfl }
    split
    · exact farEnd_stays k
    · exact complete_stays k

/-! ## Machine/Weft.lean -/

theorem sendPart_stays {c m i retx} (hk : Stays W d₀ d) (hw : Allows W [.ports] := by exact .mono ‹Allows _ _› rfl)
    : Stays W d₀ (sendPart d c m i retx) := by
  unfold sendPart
  refine sendPacket_stays ?_
  split
  · exact poisonRead_stays (.ite (ctrInc_stays hk) hk)
  · exact .ite (ctrInc_stays hk) hk

theorem pumpMsg_stays {cn msn fuel} (hk : Stays W d₀ d) (hw : Allows W [.ports] := by exact .mono ‹Allows _ _› rfl)
    : Stays W d₀ (pumpMsg cn msn fuel d) := by
  induction fuel generalizing d with
  | zero => exact hk
  | succ fuel ih =>
    rw [pumpMsg]
    split
    · exact hk
    · split
      · exact hk
      · exact .ite hk (.ite hk (ih (sendPart_stays (setConn_stays hk))))

theorem pumpConn_stays {cn} (hk : Stays W d₀ d) (hw : Allows W [.ports] := by exact .mono ‹Allows _ _› rfl)
    : Stays W d₀ (pumpConn d cn) := by
  unfold pumpConn
  split
  · exact .foldl (fun _ _ k => pumpMsg_stays k) hk
  · exact hk

theorem farLost_stays {h} (hk : Stays W d₀ d) (hw : Allows W [.requests] := by exact .mono ‹Allows _ _› rfl)
    : Stays W d₀ (farLost d h) := by
  unfold farLost
  split
  · exact hk
  · exact complete_stays (setReq_stays hk)

theorem svcSent_stays {m status nak} (hk : Stays W d₀ d) (hw : Allows W [.fltRest, .requests, .reqsRest, .sas,
    .bob] := by exact .mono ‹Allows _ _› rfl) : Stays W d₀ (svcSent d m status nak) := by
  unfold svcSent
  extract_lets
  split
  · refine .ite hk ?_
    split
    · exact .ite hk (.ite (genAcked_stays hk) (genNakd_stays hk))
    · exact hk
  · exact .ite hk (placeNak_stays hk)
  · exact .ite hk (shipFail_stays hk)
  · exact .ite hk (handoffFail_stays hk)
  · refine .ite hk ?_
    split
    · exact homeWindowEnd_stays hk
    · exact windowFail_stays hk
  · exact .ite hk (lookupFail_stays hk)
  · exact .ite hk (farLost_stays hk)
  · exact hk

theorem svcLeft_stays {c m} (hk : Stays W d₀ d) (hw : Allows W [.requests] := by exact .mono ‹Allows _ _› rfl)
    : Stays W d₀ (svcLeft d c m) := by
  unfold svcLeft
  split
  · split
    · exact .ite (setReq_stays hk) hk
    · exact hk
  · split
    · exact setReq_stays hk
    · exact hk
  · exact hk

theorem entryEnds_stays {u ordinal status reply flight cause} (hk : Stays W d₀ d) (hw : Allows W [.fltRest, .operations, .ports,
    .requests, .reqsRest, .sas, .bob, .retrieval, .fabric] := by exact .mono ‹Allows _ _› rfl) :
    Stays W d₀ (entryEnds d u ordinal status reply flight cause) := by
  unfold entryEnds
  extract_lets
  split
  · exact hk
  · exact finishOp_stays hk
  · exact finishOp_stays hk
  · exact .ite (opLeft_stays hk) (opLost_stays hk)
  · exact headReadDone_stays hk
  · split
    · exact freeWritten_stays (putEnd_stays (setReq_stays hk))
    · exact hk
  · exact shipmentDone_stays hk
  · split
    · exact appendDone_stays hk
    · exact hk
  · split
    · exact homeWindowEnd_stays hk
    · exact hk
  · exact .ite hk (svcSent_stays hk)

theorem completeEntry_stays {cn u op ordinal status reply cause} (hk : Stays W d₀ d) (hw : Allows W [.fltRest, .operations, .ports,
    .requests, .reqsRest, .sas, .bob, .retrieval, .fabric] := by exact .mono ‹Allows _ _› rfl) :
    Stays W d₀ (completeEntry d cn u op ordinal status reply cause) := by
  unfold completeEntry
  refine entryEnds_stays (.ite ?_ ?_)
  · refine ctrInc_stays ?_
    split
    · exact setConn_stays hk
    · exact hk
  · split
    · exact setConn_stays hk
    · exact hk

theorem frameLeft_stays {cn msn} (hk : Stays W d₀ d) (hw : Allows W [.fltRest, .operations, .ports, .requests, .reqsRest, .sas, .bob,
    .retrieval, .fabric] := by exact .mono ‹Allows _ _› rfl) : Stays W d₀ (frameLeft d cn msn) := by
  unfold frameLeft
  split
  · exact hk
  · split
    · exact hk
    · refine .ite hk (.ite (setConn_stays hk) (.ite ?_ ?_))
      · refine completeEntry_stays ?_
        dsimp only
        split
        · exact svcLeft_stays (setConn_stays hk)
        · exact setConn_stays hk
      · dsimp only
        split
        · exact svcLeft_stays (setConn_stays hk)
        · exact setConn_stays hk

theorem unqueue_stays {cn} (hk : Stays W d₀ d) (hw : Allows W [.ports] := by exact .mono ‹Allows _ _› rfl) : Stays W d₀ (unqueue d cn) :=
    { hk with ports := hw.may rfl }

theorem flushEntries_stays {cn st bad cause} (hk : Stays W d₀ d) (hw : Allows W [.fltRest, .operations, .ports, .requests, .reqsRest,
    .sas, .bob, .retrieval, .fabric] := by exact .mono ‹Allows _ _› rfl) : Stays W d₀ (flushEntries d cn st bad cause) := by
  unfold flushEntries
  split
  · exact hk
  · extract_lets _ _ _ _ d1 d2 d3
    have h1 : Stays W d₀ d1 := setConn_stays (unqueue_stays hk)
    have h2 : Stays W d₀ d2 := .foldl (fun _ _ k => completeEntry_stays k) h1
    have h3 : Stays W d₀ d3 := .foldl (fun _ _ k => opLost_stays k) h2
    exact .foldl (fun _ _ k => svcSent_stays k) h3

theorem connError_stays {cn bad cause} (hk : Stays W d₀ d) (hw : Allows W [.fltRest, .operations, .ports, .requests, .reqsRest, .sas,
    .bob, .retrieval, .fabric] := by exact .mono ‹Allows _ _› rfl) : Stays W d₀ (connError d cn bad cause) := flushEntries_stays hk

theorem entryExpires_stays {e} (hk : Stays W d₀ d) : Stays W d₀ (entryExpires d e) := by
  unfold entryExpires
  split
  · exact expire_stays hk
  · exact expire_stays hk
  · exact hk

theorem execSendEntryStart_leaves {conn} {s : State} (hw : Allows W [.fltRest, .operations, .ports, .requests, .reqsRest, .sas, .bob,
    .retrieval, .fabric] := by exact .mono ‹Allows _ _› rfl) : Leaves W s (execSendEntryStart conn s) :=
  onDevC_leaves fun hk => by
    split
    · exact hk
    · split
      · exact hk
      · refine .ite hk (.ite (entryExpires_stays (setConn_stays hk)) (.ite (completeEntry_stays (setConn_stays hk)) ?_))
        exact .ite (pumpConn_stays hk) (pumpMsg_stays (setConn_stays hk))

theorem execSendWaitTimeout_leaves {conn} {s : State} (hw : Allows W [.fltRest, .operations, .ports, .requests, .reqsRest, .sas, .bob,
    .retrieval, .fabric] := by exact .mono ‹Allows _ _› rfl) : Leaves W s (execSendWaitTimeout conn s) :=
  onDevC_leaves fun hk => by
    split
    · exact hk
    · split
      · exact hk
      · exact .ite hk (connError_stays (detect_stays hk))

theorem execRetransmissionTimeout_leaves {conn msn} {s : State} (hw : Allows W [.fltRest, .operations, .ports, .requests, .reqsRest, .sas,
    .bob, .retrieval, .fabric] := by exact .mono ‹Allows _ _› rfl) : Leaves W s (execRetransmissionTimeout conn msn s) :=
  onDevC_leaves fun hk => by
    split
    · exact hk
    · split
      · exact hk
      · refine .ite hk (.ite (connError_stays (detectFor_stays (ctrInc_stays hk))) ?_)
        exact .ite (sendPacket_stays (ctrInc_stays (setConn_stays hk))) (setConn_stays hk)

theorem rxCheck_stays {p} (hk : Stays W d₀ d) (hw : Allows W [.assocs] := by exact .mono ‹Allows _ _› rfl)
    : Stays W d₀ (rxCheck d p).2 := by
  unfold rxCheck
  refine .ite₂ (ctrInc_stays hk) ?_
  dsimp only
  split
  · exact ctrInc_stays hk
  · refine .ite₂ (ctrInc_stays hk) (.ite₂ (ctrInc_stays hk) ?_)
    split
    · exact ctrInc_stays { hk with assocs := hw.may rfl }
    · exact .ite₂ (ctrInc_stays { hk with assocs := hw.may rfl }) (.ite₂ (ctrInc_stays { hk with assocs := hw.may rfl })
        (ctrInc_stays (setConn_stays { hk with assocs := hw.may rfl })))

theorem onPkt_leaves {op p s} {f : Dev → Conn → Pkt → Dev} (hf : ∀ {d₀ d c p}, Stays W d₀ d → Stays W d₀ (f d c p))
    (hw : Allows W [.assocs, .sas, .bob] := by exact .mono ‹Allows _ _› rfl) :
    Leaves W s (onPkt op f p s) :=
  onDevC_leaves fun hk => by
    split
    · exact hk
    · split
      next he => exact hf (.snd (rxCheck_stays hk) he)
      next he => exact .snd (rxCheck_stays hk) he

theorem resend_stays {c m is} (hk : Stays W d₀ d) (hw : Allows W [.ports] := by exact .mono ‹Allows _ _› rfl)
    : Stays W d₀ (resend d c m is) :=
  .ite hk (.foldl (fun _ _ k => .ite (sendPart_stays k) k) hk)

theorem execAck_leaves {p} {s : State} (hw : Allows W [.fltRest, .assocs, .operations, .ports, .requests, .reqsRest, .sas, .bob,
    .retrieval, .fabric] := by exact .mono ‹Allows _ _› rfl) : Leaves W s (execAck p s) :=
  onPkt_leaves fun hk => by
    split
    · exact hk
    · refine .ite (resend_stays (setConn_stays hk)) (pumpConn_stays (.ite ?_ ?_))
      · refine completeEntry_stays ?_
        split
        · exact .ite (svcSent_stays (setConn_stays hk)) (setConn_stays hk)
        · exact .ite (opThere_stays (setConn_stays hk)) (setConn_stays hk)
        · exact setConn_stays hk
      · split
        · exact .ite (svcSent_stays (setConn_stays hk)) (setConn_stays hk)
        · exact .ite (opThere_stays (setConn_stays hk)) (setConn_stays hk)
        · exact setConn_stays hk

theorem strike_stays {c path} (hk : Stays W d₀ d) : Stays W d₀ (strike d c path).2 := .ite₂ hk (ctrInc_stays hk)

theorem execSack_leaves {p} {s : State} (hw : Allows W [.assocs, .ports, .sas, .bob] := by exact .mono ‹Allows _ _› rfl)
    : Leaves W s (execSack p s) :=
  onPkt_leaves fun hk => by
    split
    · exact hk
    · refine resend_stays (setConn_stays ?_)
      split
      · exact strike_stays hk
      · exact hk

theorem execNak_leaves {p} {s : State} (hw : Allows W [.fltRest, .assocs, .operations, .ports, .requests, .reqsRest, .sas, .bob,
    .retrieval, .fabric] := by exact .mono ‹Allows _ _› rfl) : Leaves W s (execNak p s) :=
  onPkt_leaves fun {d₀} {_} {_} {_} hk => by
    split
    · exact hk
    · extract_lets _ d1 told d2 d3 d4 d5
      have h1 : Stays W d₀ d1 := ctrInc_stays hk
      have h_told {x} (k : Stays W d₀ x) : Stays W d₀ (told x) := by
        unfold told
        split
        · exact svcSent_stays k
        · exact .ite (opLost_stays k) k
        · exact k
      refine .ite (pumpConn_stays (h_told (.ite (setConn_stays h1) ?_))) ?_
      · split
        · exact setConn_stays (setConn_stays h1)
        · exact setConn_stays h1
      · have h4 : Stays W d₀ d4 := h_told (detectFor_stays (setConn_stays h1))
        exact connError_stays (.ite h4 (completeEntry_stays h4))

theorem execReadResp_leaves {p} {s : State} (hw : Allows W [.fltRest, .assocs, .operations, .ports, .requests, .reqsRest, .sas, .bob,
    .retrieval, .fabric] := by exact .mono ‹Allows _ _› rfl) : Leaves W s (execReadResp p s) :=
  onPkt_leaves fun hk => by
    split
    · exact hk
    · exact .ite hk (.ite (setConn_stays hk) (pumpConn_stays (completeEntry_stays (setConn_stays hk))))

theorem regionPut_stays {r off bs poison} (hk : Stays W d₀ d) (he : regionPut d r off bs poison = some e) (hw : Allows W [.window,
    .intakeRest, .sas, .stk, .bob] := by exact .mono ‹Allows _ _› rfl) : Stays W d₀ e := by
  unfold regionPut at he
  extract_lets at he
  split at he
  · cases he; exact .ite hk (windowWrite_stays hk)
  · split at he
    · cases he
    · next hx =>
      have h1 := workWrite_stays hk hx
      split at he
      · cases he; exact h1
      · cases he; exact .foldl (fun _ _ k => setPoison_stays k) h1

theorem answerAgain_stays {c p} (hk : Stays W d₀ d) (hw : Allows W [.ports] := by exact .mono ‹Allows _ _› rfl)
    : Stays W d₀ (answerAgain d c p) := respond_stays hk

theorem takeTracker_stays {c p} (hk : Stays W d₀ d) (hw : Allows W [.trackers] := by exact .mono ‹Allows _ _› rfl)
    : Stays W d₀ (takeTracker d c p).2 := by
  unfold takeTracker
  split
  · exact hk
  · exact .ite₂ (ctrInc_stays hk) { hk with trackers := hw.may rfl }

theorem inWindow_stays {c p} {f : Dev → Conn → Pkt → Tracker → Dev} (hk : Stays W d₀ d)
    (hf : ∀ {x c p t}, Stays W d₀ x → Stays W d₀ (f x c p t)) (hw : Allows W [.trackers, .ports] := by exact .mono ‹Allows _ _› rfl)
        : Stays W d₀ (inWindow f d c p) := by
  unfold inWindow
  split
  · exact .ite (answerAgain_stays hk) hk
  · exact ctrInc_stays hk
  · split
    next he => exact .snd (takeTracker_stays hk) he
    next he => exact .ite (.snd (takeTracker_stays hk) he) (hf (.snd (takeTracker_stays hk) he))

theorem deliverImm_stays {c t} (hk : Stays W d₀ d) (hw : Allows W [.fltRest, .operations, .admRest, .ports, .requests,
    .retrieval] := by exact .mono ‹Allows _ _› rfl) : Stays W d₀ (deliverImm d c t) := by
  unfold deliverImm
  split
  · exact hk
  · exact .ite (partialIn_stays hk) (.ite (ctrInc_stays hk) (ringPut_stays hk))

theorem notePlaced_stays {c p t held} (hk : Stays W d₀ d) (hw : Allows W [.fltRest, .trackers, .operations, .admRest, .ports, .requests,
    .retrieval] := by exact .mono ‹Allows _ _› rfl) : Stays W d₀ (notePlaced d c p t held) := by
  unfold notePlaced
  extract_lets _ _ d1
  have h1 : Stays W d₀ d1 := setTracker_stays hk
  exact .ite h1 (.ite (setTracker_stays h1) (answerMsg_stays (deliverImm_stays (.ite { h1 with } h1))))

theorem execWrite_leaves {p} {s : State} (hw : Allows W [.fltRest, .assocs, .window, .intakeRest, .trackers, .operations, .admRest,
    .ports, .requests, .sas, .stk, .bob, .retrieval] := by exact .mono ‹Allows _ _› rfl) : Leaves W s (execWrite p s) :=
  onPkt_leaves fun hk => by
    refine flushesEnded_stays (inWindow_stays hk fun k => ?_)
    refine .ite k (.ite (notePlaced_stays k) ?_)
    split
    · exact answerMsg_stays k
    · split
      · exact answerMsg_stays k
      next he => exact notePlaced_stays (regionPut_stays k he)

theorem execSend_leaves {p} {s : State} (hw : Allows W [.fltRest, .assocs, .trackers, .operations, .admRest, .ports, .requests, .sas,
    .bob, .retrieval] := by exact .mono ‹Allows _ _› rfl) : Leaves W s (execSend p s) :=
  onPkt_leaves fun hk => flushesEnded_stays (inWindow_stays hk (fun k => .ite k (.ite (answerMsg_stays k) (notePlaced_stays k))))

theorem readReply_stays {c p r found} (hk : Stays W d₀ d) (hw : Allows W [.ports, .sas, .stk] := by exact .mono ‹Allows _ _› rfl)
    : Stays W d₀ (readReply d c p r found) :=
  .foldl (fun _ _ k => by
    extract_lets _ _ x y
    have hx : Stays W d₀ x.2 := .ite₂ k (readRanges_stays k)
    have hy : Stays W d₀ y.2 := .ite₂ (faultOp_stays hx) hx
    exact sendPacket_stays hy) hk

theorem execReadReq_leaves {x} {s : State} (hw : Allows W [.fltRest, .assocs, .trackers, .ports, .requests, .sas, .stk,
    .bob] := by exact .mono ‹Allows _ _› rfl) : Leaves W s (execReadReq x s) :=
  onPkt_leaves fun {d₀} {d} {c} {p} hk => by
    extract_lets was serve
    have h_serve {x c e} (k : Stays W d₀ x) (he : serve x c = .inl e) : Stays W d₀ e := by
      unfold serve at he
      split at he
      · cases he
      · split at he
        · cases he
        · cases he
          exact readReply_stays k
    refine .ite ?_ (flushesEnded_stays (inWindow_stays hk fun k => ?_))
    · split
      · next he => exact h_serve hk he
      · exact hk
    · split
      · exact answerMsg_stays k
      · next he => exact wakeFlushes_stays (markDone_stays (dropTracker_stays (h_serve k he)))

theorem execFlushPacket_leaves {p} {s : State} (hw : Allows W [.fltRest, .assocs, .trackers, .ports, .requests, .sas,
    .bob] := by exact .mono ‹Allows _ _› rfl) : Leaves W s (execFlushPacket p s) :=
  onPkt_leaves fun hk => by
    split
    · exact .ite (answerAgain_stays hk) hk
    · exact ctrInc_stays hk
    · split
      next he => exact .snd (takeTracker_stays hk) he
      next he => exact flushesEnded_stays (wakeFlushes_stays (.snd (takeTracker_stays hk) he))

theorem execProbe_leaves {p} {s : State} (hw : Allows W [.assocs, .ports, .sas, .bob] := by exact .mono ‹Allows _ _› rfl)
    : Leaves W s (execProbe p s) :=
  onPkt_leaves fun hk => by
    split
    · exact answerAgain_stays hk
    · exact ctrInc_stays hk
    · split
      · exact respond_stays hk
      · exact respond_stays hk

theorem cmdEnd_stays {status value} (hk : Stays W d₀ d) (hw : Allows W [.weftCmd] := by exact .mono ‹Allows _ _› rfl)
    : Stays W d₀ (cmdEnd d status value) := { hk with weftCmd := hw.may rfl }

theorem onCmd_leaves {fn target blk s} {f : Dev → Bytes → Dev} (hf : ∀ {d₀ d b}, Stays W d₀ d → Stays W d₀ (f d b))
    (hw : Allows W [.weftCmd, .sas, .bob] := by exact .mono ‹Allows _ _› rfl) :
    Leaves W s (onCmd fn target blk f s) :=
  onDevC_leaves fun hk => by
    split
    · exact hk
    · split
      · exact cmdEnd_stays (ctrInc_stays (faultPlain_stays hk))
      · exact .ite hk (hf hk)

theorem execConnCreate_leaves {fn conn blk} {s : State} (hw : Allows W [.weftCmd, .sas, .bob] := by exact .mono ‹Allows _ _› rfl)
    : Leaves W s (execConnCreate fn conn blk s) :=
  onCmd_leaves fun hk => by
    refine .ite (cmdEnd_stays hk) ?_
    dsimp only
    split
    · exact cmdEnd_stays hk
    · exact cmdEnd_stays { hk with }

theorem execConnModify_leaves {fn conn blk} {s : State} (hw : Allows W [.weftCmd, .sas, .bob] := by exact .mono ‹Allows _ _› rfl)
    : Leaves W s (execConnModify fn conn blk s) :=
  onCmd_leaves fun hk => by
    split
    · exact cmdEnd_stays hk
    · refine .ite (cmdEnd_stays hk) ?_
      dsimp only
      split
      · exact cmdEnd_stays hk
      · exact cmdEnd_stays (setConn_stays hk)

theorem execConnReset_leaves {fn conn blk} {s : State} (hw : Allows W [.fltRest, .trackers, .weftCmd, .operations, .ports, .requests,
    .reqsRest, .sas, .bob, .retrieval, .fabric] := by exact .mono ‹Allows _ _› rfl) : Leaves W s (execConnReset fn conn blk s) :=
  onCmd_leaves fun {d₀} {_ _} hk => by
    split
    · exact cmdEnd_stays hk
    · refine .ite (cmdEnd_stays hk) ?_
      extract_lets d1 d2
      have h2 : Stays W d₀ d2 := by
        unfold d2
        split
        · exact flushEntries_stays hk
        · exact setConn_stays (flushEntries_stays hk)
      clear_value d2
      exact cmdEnd_stays { h2 with trackers := hw.may rfl }

theorem execConnDestroy_leaves {fn conn} {s : State} (hw : Allows W [.fltRest, .weftCmd, .operations, .ports, .requests, .reqsRest, .sas,
    .bob, .retrieval, .fabric] := by exact .mono ‹Allows _ _› rfl) : Leaves W s (execConnDestroy fn conn s) :=
  onCmd_leaves fun hk => by
    split
    · exact cmdEnd_stays hk
    · exact .ite (cmdEnd_stays hk) (cmdEnd_stays (flushEntries_stays hk))

theorem execConnDestroyDrained_leaves {conn} {s : State} (hw : Allows W [.trackers] := by exact .mono ‹Allows _ _› rfl)
    : Leaves W s (execConnDestroyDrained conn s) :=
  onDev_leaves fun hk => by
    split
    · exact .ite hk { hk with trackers := hw.may rfl }
    · exact hk

theorem execRegionCreate_leaves {fn index blk} {s : State} (hw : Allows W [.regions, .weftCmd, .sas,
    .bob] := by exact .mono ‹Allows _ _› rfl) : Leaves W s (execRegionCreate fn index blk s) :=
  onCmd_leaves fun hk => .ite (cmdEnd_stays hk) (.ite (cmdEnd_stays hk) (cmdEnd_stays { hk with regions := hw.may rfl }))

theorem execRegionRevoke_leaves {fn key} {s : State} (hw : Allows W [.regions, .weftCmd, .sas, .bob] := by exact .mono ‹Allows _ _› rfl)
    : Leaves W s (execRegionRevoke fn key s) :=
  onCmd_leaves fun hk => by
    dsimp only
    split
    · exact cmdEnd_stays hk
    · exact .ite (cmdEnd_stays hk) { hk with regions := hw.may rfl, weftCmd := hw.may rfl }

theorem execRegionRevokeDrained_leaves {index} {s : State} (hw : Allows W [.regions, .weftCmd] := by exact .mono ‹Allows _ _› rfl)
    : Leaves W s (execRegionRevokeDrained index s) :=
  onDev_leaves fun hk => by
    split
    · exact .ite hk (cmdEnd_stays (ctrInc_stays { hk with regions := hw.may rfl }))
    · exact hk

theorem flushRecord_stays {t op} (hk : Stays W d₀ d) (hw : Allows W [.taken, .admRest] := by exact .mono ‹Allows _ _› rfl)
    : Stays W d₀ (flushRecord d t op) := by
  unfold flushRecord
  dsimp only
  split
  · exact refuseTaken_stays hk
  · exact .ite (refuseTaken_stays hk) (postEntry_stays (dropTaken_stays hk))

theorem execFlush_leaves {lane seq} {s : State} (hw : Allows W [.taken, .admRest] := by exact .mono ‹Allows _ _› rfl)
    : Leaves W s (execFlush lane seq s) := onTaken_leaves fun hk => flushRecord_stays hk

theorem execWaitOnly_leaves {lane seq} {s : State} (hw : Allows W [.taken, .admRest] := by exact .mono ‹Allows _ _› rfl)
    : Leaves W s (execWaitOnly lane seq s) := onTaken_leaves fun hk => flushRecord_stays hk

end

end Sys2Proof.Machine
end

section
/-! # Footprints of ports, lines, checks, stacks and bobbin -/

namespace Sys2Proof.Machine

open Sys2Proof

set_option Elab.async false -- each lemma rests on the ones before it: elaborated in order, none of them waits in a thread of its own

section
variable {W : Area → Bool} {d₀ d e : Dev}

/-! ## Machine/Ports.lean -/

theorem portFault_stays {p v cause} (hk : Stays W d₀ d) : Stays W d₀ (portFault d p v cause) := detect_stays hk

theorem sendLinkWord_stays {p type body} (hk : Stays W d₀ d) : Stays W d₀ (sendLinkWord d p type body) := emit_stays hk


theorem noteWaits_stays {p} (hk : Stays W d₀ d) (hw : Allows W [.ports] := by exact .mono ‹Allows _ _› rfl)
    : Stays W d₀ (noteWaits d p) :=
  .ite hk (setPort_stays hk)

theorem execCreditStall_leaves {port vc} {s : State} (hw : Allows W [.ports] := by exact .mono ‹Allows _ _› rfl)
    : Leaves W s (execCreditStall port vc s) :=
  onDev_leaves fun hk => by
    dsimp only
    split
    · exact noteWaits_stays hk
    · exact .ite (noteWaits_stays hk) (portFault_stays (ctrInc_stays (setPort_stays (noteWaits_stays hk))))

theorem startPort_stays {p} (hk : Stays W d₀ d) (hw : Allows W [.ports] := by exact .mono ‹Allows _ _› rfl)
    : Stays W d₀ (startPort d p) := .ite hk (setPort_stays hk)

theorem execPortTrainingDone_leaves {port pass rttNs} {s : State} (hw : Allows W [.ready, .ports] := by exact .mono ‹Allows _ _› rfl)
    : Leaves W s (execPortTrainingDone port pass rttNs s) :=
  onDev_leaves fun hk => .ite hk (.ite (post_stays (setPort_stays hk)) (ctrInc_stays (portFault_stays (setPort_stays hk))))

theorem execPortRetrainTimer_leaves {port} {s : State} (hw : Allows W [.ports] := by exact .mono ‹Allows _ _› rfl)
    : Leaves W s (execPortRetrainTimer port s) :=
  onDev_leaves fun hk => .ite (startPort_stays hk) hk

theorem movePaths_stays {p} (hk : Stays W d₀ d) : Stays W d₀ (movePaths d p) := by
  unfold movePaths
  split
  · exact hk
  · exact { hk with }

theorem execPortLinkLoss_leaves {port} {s : State} (hw : Allows W [.ready, .ports] := by exact .mono ‹Allows _ _› rfl)
    : Leaves W s (execPortLinkLoss port s) :=
  onDev_leaves fun hk => .ite hk (movePaths_stays (ctrInc_stays (portFault_stays (unpost_stays (setPort_stays hk)))))

theorem onLinkWord_leaves {type port w s} {f : Dev → Port → Nat → Dev}
    (hf : ∀ {d₀ d x b}, Stays W d₀ d → Stays W d₀ (f d x b)) : Leaves W s (onLinkWord type port w f s) :=
  onDev_leaves fun hk => .ite (hf hk) hk

theorem execLinkWordAck_leaves {port word} {s : State} (hw : Allows W [.ports] := by exact .mono ‹Allows _ _› rfl)
    : Leaves W s (execLinkWordAck port word s) :=
  onLinkWord_leaves fun hk => setPort_stays hk

theorem startReplay_stays {p from_} (hk : Stays W d₀ d) (hw : Allows W [.ports] := by exact .mono ‹Allows _ _› rfl)
    : Stays W d₀ (startReplay d p from_) := by
  unfold startReplay
  extract_lets x fs dead stay d1 d2 d3
  have h1 : Stays W d₀ d1 := setPort_stays hk
  have h2 : Stays W d₀ d2 := .foldl (fun _ _ k => portFault_stays (ctrInc_stays k)) h1
  have h3 : Stays W d₀ d3 := .ite h2 (sendLinkWord_stays h2)
  exact .ite h3 (ctrInc_stays h3)

theorem execLinkWordNack_leaves {port word} {s : State} (hw : Allows W [.ports] := by exact .mono ‹Allows _ _› rfl)
    : Leaves W s (execLinkWordNack port word s) :=
  onLinkWord_leaves fun hk => .ite (startReplay_stays hk) hk

theorem execLinkWordCredit_leaves {port word} {s : State} (hw : Allows W [.ports] := by exact .mono ‹Allows _ _› rfl)
    : Leaves W s (execLinkWordCredit port word s) :=
  onLinkWord_leaves fun hk => noteWaits_stays (setPort_stays hk)

theorem execLinkWordLane_leaves {port word} {s : State} (hw : Allows W [.ports] := by exact .mono ‹Allows _ _› rfl)
    : Leaves W s (execLinkWordLane port word s) :=
  onDev_leaves fun hk => .ite (setPort_stays hk) hk

theorem execLinkWordSkip_leaves {port word} {s : State} (hw : Allows W [.ports] := by exact .mono ‹Allows _ _› rfl)
    : Leaves W s (execLinkWordSkip port word s) :=
  onLinkWord_leaves fun hk => .ite (setPort_stays hk) hk

theorem execLlrTimeout_leaves {port} {s : State} (hw : Allows W [.ports] := by exact .mono ‹Allows _ _› rfl)
    : Leaves W s (execLlrTimeout port s) :=
  onDev_leaves fun hk => by
    dsimp only
    split
    · exact hk
    · exact .ite hk (startReplay_stays hk)

theorem police_stays {p c n yellow} (hk : Stays W d₀ d) (hw : Allows W [.ports] := by exact .mono ‹Allows _ _› rfl)
    : Stays W d₀ (police d p c n yellow).2 := by
  unfold police
  extract_lets
  have h1 {x : Port} : Stays W d₀ (setPort d p x) := setPort_stays hk
  exact .ite₂ (.ite₂ h1 (.ite₂ h1 h1)) (.ite₂ (.ite₂ h1 (.ite₂ h1 h1)) hk)

theorem dropFrame_stays {p f} (hk : Stays W d₀ d) (hw : Allows W [.ports] := by exact .mono ‹Allows _ _› rfl)
    : Stays W d₀ (dropFrame d p f) :=
  .ite hk (sendLinkWord_stays (setPort_stays hk))

theorem xoffCheck_stays {p v} (hk : Stays W d₀ d) (hw : Allows W [.ports] := by exact .mono ‹Allows _ _› rfl)
    : Stays W d₀ (xoffCheck d p v) :=
  .ite (ctrInc_stays (emit_stays (setPort_stays hk))) hk

theorem acceptFrame_stays {p f} (hk : Stays W d₀ d) (hw : Allows W [.ports] := by exact .mono ‹Allows _ _› rfl)
    : Stays W d₀ (acceptFrame d p f) := by
  unfold acceptFrame
  refine .ite hk (.ite (dropFrame_stays (ctrInc_stays hk)) ?_)
  extract_lets r d1 x d2
  have h1 : Stays W d₀ d1 := police_stays hk
  have h2 : Stays W d₀ d2 := setPort_stays h1
  split
  · exact dropFrame_stays (ctrInc_stays h1)
  · exact .ite (dropFrame_stays (ctrInc_stays h1)) (xoffCheck_stays (ctrAdd_stays (ctrInc_stays h2)))

theorem execIngressFrame_leaves {port f} {s : State} (hw : Allows W [.ports] := by exact .mono ‹Allows _ _› rfl)
    : Leaves W s (execIngressFrame port f s) :=
  onDev_leaves fun {d₀} {d} hk => by
    extract_lets x d1
    have h1 : Stays W d₀ d1 := ctrAdd_stays hk
    refine .ite hk (.ite (.ite (sendLinkWord_stays (setPort_stays (ctrInc_stays h1))) (ctrInc_stays h1)) ?_)
    refine .ite (acceptFrame_stays h1) (.ite (.ite h1 (sendLinkWord_stays (setPort_stays h1))) ?_)
    exact acceptFrame_stays (sendLinkWord_stays (setPort_stays h1))

theorem takeIngress_stays {p} (hk : Stays W d₀ d) (hw : Allows W [.ports] := by exact .mono ‹Allows _ _› rfl)
    : Stays W d₀ (takeIngress d p) := by
  unfold takeIngress
  extract_lets x some_ d1
  have h1 : Stays W d₀ d1 := setPort_stays hk
  exact .ite hk (.ite (.ite (sendLinkWord_stays h1) h1) (.foldl (fun _ _ k =>
    .ite (ctrInc_stays (emit_stays (setPort_stays k))) k) h1))

theorem execNeighborSolicitation_leaves {port forUs} {s : State} : Leaves W s (execNeighborSolicitation port forUs s) :=
  onDev_leaves fun hk => .ite hk (.ite (emit_stays hk) (ctrInc_stays hk))

theorem execPfcFrame_leaves {port enable quanta} {s : State} (hw : Allows W [.ports] := by exact .mono ‹Allows _ _› rfl)
    : Leaves W s (execPfcFrame port enable quanta s) :=
  onDev_leaves fun hk => .ite hk (.ite (ctrInc_stays hk) (noteWaits_stays (ctrInc_stays (setPort_stays hk))))

theorem execPauseExpiry_leaves {port vc} {s : State} (hw : Allows W [.ports] := by exact .mono ‹Allows _ _› rfl)
    : Leaves W s (execPauseExpiry port vc s) :=
  onDev_leaves fun hk => by
    dsimp only
    split
    · exact .ite (noteWaits_stays (setPort_stays hk)) hk
    · exact hk

theorem execPfcXoffRefresh_leaves {port vc} {s : State} (hw : Allows W [.ports] := by exact .mono ‹Allows _ _› rfl)
    : Leaves W s (execPfcXoffRefresh port vc s) :=
  onDev_leaves fun hk => by
    dsimp only
    split
    · exact .ite hk (ctrInc_stays (emit_stays (setPort_stays hk)))
    · exact hk

theorem keepBudget_stays {f} (hk : Stays W d₀ d) : Stays W d₀ (keepBudget d f) := by
  unfold keepBudget
  split
  · exact .ite hk (setConn_stays hk)
  · exact hk

theorem onWire_stays {p f} (hk : Stays W d₀ d) (hw : Allows W [.ports] := by exact .mono ‹Allows _ _› rfl) : Stays W d₀ (onWire d p f) :=
    emit_stays (ctrAdd_stays (setPort_stays hk))

theorem startFrame_stays {p x f i} (hk : Stays W d₀ d) (hw : Allows W [.fltRest, .operations, .ports, .requests, .reqsRest, .sas, .bob,
    .retrieval, .fabric] := by exact .mono ‹Allows _ _› rfl) : Stays W d₀ (startFrame d p x f i) := by
  unfold startFrame
  extract_lets g d1 tag d2 d3 d4
  have h1 : Stays W d₀ d1 := keepBudget_stays hk
  have h2 : Stays W d₀ d2 := setPort_stays h1
  have h3 : Stays W d₀ d3 := onWire_stays (ctrInc_stays h2)
  have h4 : Stays W d₀ d4 := .ite (ctrInc_stays h3) h3
  split
  · exact .ite (frameLeft_stays h4) h4
  · exact h4

theorem replayFrame_stays {p x n rest} (hk : Stays W d₀ d) (hw : Allows W [.ports] := by exact .mono ‹Allows _ _› rfl)
    : Stays W d₀ (replayFrame d p x n rest) := by
  unfold replayFrame
  split
  · exact setPort_stays hk
  · exact onWire_stays (setPort_stays hk)

theorem execEgressFrameStart_leaves {port pick} {s : State} (hw : Allows W [.fltRest, .operations, .ports, .requests, .reqsRest, .sas,
    .bob, .retrieval, .fabric] := by exact .mono ‹Allows _ _› rfl) : Leaves W s (execEgressFrameStart port pick s) :=
  onDevC_leaves fun {d₀} {d} hk => by
    refine .ite hk ?_
    split
    · exact replayFrame_stays hk
    · have h1 : Stays W d₀ (setPort d port (tagHeads d port)) := setPort_stays hk
      dsimp only
      split
      · exact noteWaits_stays h1
      · exact .ite h1 (noteWaits_stays (startFrame_stays h1))

theorem noteGuard_stays {p} (hk : Stays W d₀ d) (hw : Allows W [.ports] := by exact .mono ‹Allows _ _› rfl)
    : Stays W d₀ (noteGuard d p) := by
  unfold noteGuard
  dsimp only
  split
  · exact .ite hk (ctrAdd_stays (setPort_stays hk))
  · exact .ite (setPort_stays hk) hk

theorem execGateEntryBoundary_leaves {port} {s : State} (hw : Allows W [.ports] := by exact .mono ‹Allows _ _› rfl)
    : Leaves W s (execGateEntryBoundary port s) :=
  onDev_leaves fun hk => .ite (noteGuard_stays hk) hk

theorem signedGateSwitch_stays {h p l t} (hk : Stays W d₀ d) (hw : Allows W [.msgSeq, .ports] := by exact .mono ‹Allows _ _› rfl)
    : Stays W d₀ (signedGateSwitch d h p l t).2 :=
  signedDo_stays hk fun k => reportOver_stays (setPort_stays k)

theorem execGateSwitch_leaves {h port list at_} {s : State} (hw : Allows W [.msgSeq, .ports, .sas,
    .bob] := by exact .mono ‹Allows _ _› rfl) : Leaves W s (execGateSwitch h port list at_ s) :=
  onSigned_leaves fun hk => signedGateSwitch_stays hk

theorem execGateSwitchover_leaves {port} {s : State} (hw : Allows W [.ports] := by exact .mono ‹Allows _ _› rfl)
    : Leaves W s (execGateSwitchover port s) :=
  onDev_leaves fun hk => by
    dsimp only
    split
    · exact .ite hk (ctrInc_stays (setPort_stays hk))
    · exact hk

theorem nackAgain_stays {p} (hk : Stays W d₀ d) : Stays W d₀ (nackAgain d p) := .ite (sendLinkWord_stays hk) hk

theorem portTick_stays {p} (hk : Stays W d₀ d) (hw : Allows W [.ports] := by exact .mono ‹Allows _ _› rfl) : Stays W d₀ (portTick d p) :=
  .ite (noteGuard_stays (noteWaits_stays (nackAgain_stays (takeIngress_stays hk)))) hk

/-! ## Machine/Lines.lean -/

theorem lineCheck_stays {p} (hk : Stays W d₀ d) (hw : Allows W [.assocs] := by exact .mono ‹Allows _ _› rfl)
    : Stays W d₀ (lineCheck d p).2 := by
  unfold lineCheck
  refine .ite₂ (ctrInc_stays hk) ?_
  dsimp only
  split
  · exact ctrInc_stays hk
  · refine .ite₂ (ctrInc_stays hk) ?_
    split
    · exact ctrInc_stays { hk with assocs := hw.may rfl }
    · exact .ite₂ (ctrInc_stays { hk with assocs := hw.may rfl }) { hk with assocs := hw.may rfl }

theorem onLine_leaves {op p s} {f : Dev → Conn → LinePkt → Dev} (hf : ∀ {d₀ d c p}, Stays W d₀ d → Stays W d₀ (f d c p))
    (hw : Allows W [.assocs, .sas, .bob] := by exact .mono ‹Allows _ _› rfl) :
    Leaves W s (onLine op f p s) :=
  onDevC_leaves fun hk => by
    split
    · exact hk
    · split
      next he => exact hf (.snd (lineCheck_stays hk) he)
      next he => exact .snd (lineCheck_stays hk) he

theorem sendLine_stays {c vc h bs} (hk : Stays W d₀ d) (hw : Allows W [.ports] := by exact .mono ‹Allows _ _› rfl)
    : Stays W d₀ (sendLine d c vc h bs) := by
  unfold sendLine
  dsimp only
  split
  · exact hk
  next he => exact queueFrame_stays (takePn_stays hk he)

theorem lineAnswer_stays {c p op status poison bs} (hk : Stays W d₀ d) (hw : Allows W [.ports] := by exact .mono ‹Allows _ _› rfl)
    : Stays W d₀ (lineAnswer d c p op status poison bs) :=
  sendLine_stays (.ite (ctrInc_stays hk) hk)

theorem execLineRd_leaves {p errs busy} {s : State} (hw : Allows W [.assocs, .ports, .sas, .stk, .bob] := by exact .mono ‹Allows _ _› rfl)
    : Leaves W s (execLineRd p errs busy s) :=
  onLine_leaves fun {d₀} {_} {_} {_} hk => by
    refine .ite hk ?_
    split
    · exact lineAnswer_stays hk
    · refine .ite (lineAnswer_stays hk) ?_
      split
      · exact lineAnswer_stays (ctrInc_stays hk)
      · refine .ite (lineAnswer_stays hk) ?_
        extract_lets r1 d2
        have h1 : Stays W d₀ r1.2 := readSasLine_stays hk
        have h2 : Stays W d₀ d2 := ctrInc_stays h1
        exact .ite (lineAnswer_stays (faultOp_stays h2)) (lineAnswer_stays h2)
      · exact hk

theorem lineStore_stays {owner a bs} (hk : Stays W d₀ d) (hw : Allows W [.requests, .sas, .stk, .bob] := by exact .mono ‹Allows _ _› rfl)
    : Stays W d₀ (lineStore d owner a bs).2 := by
  unfold lineStore
  split
  · split
    next he => exact workWrite_stays hk he
    · exact hk
  · refine .ite₂ hk ?_
    dsimp only
    split
    · exact hk
    next he => exact setReq_stays (workWrite_stays hk he)

theorem execLineWr_leaves {p busy} {s : State} (hw : Allows W [.assocs, .window, .intakeRest, .ports, .requests, .sas, .stk,
    .bob] := by exact .mono ‹Allows _ _› rfl) : Leaves W s (execLineWr p busy s) :=
  onLine_leaves fun hk => by
    refine .ite hk (.ite (lineAnswer_stays hk) ?_)
    split
    · exact lineAnswer_stays hk
    · refine .ite (lineAnswer_stays hk) ?_
      split
      · exact lineAnswer_stays (ctrInc_stays (windowWrite_stays hk))
      · exact .ite (lineAnswer_stays (ctrInc_stays (lineStore_stays hk))) (lineAnswer_stays (lineStore_stays hk))
      · exact hk

theorem setLq_stays {q} (hk : Stays W d₀ d) (hw : Allows W [.lines] := by exact .mono ‹Allows _ _› rfl) : Stays W d₀ (setLq d q) :=
    { hk with lines := hw.may rfl }

theorem lineResult_stays {x status poison line} (hk : Stays W d₀ d) : Stays W d₀ (lineResult d x status poison line) :=
  hostWrite_stays (.ite hk (.ite (hostWriteAttr_stays hk) (hostWrite_stays hk)))

theorem lineIssue_stays {x} (hk : Stays W d₀ d) (hw : Allows W [.ports, .lines] := by exact .mono ‹Allows _ _› rfl)
    : Stays W d₀ (lineIssue d x) := by
  unfold lineIssue
  split
  · exact lineResult_stays hk
  · refine .ite (lineResult_stays hk) ?_
    dsimp only
    split
    · exact hk
    · exact sendLine_stays (ctrInc_stays { hk with lines := hw.may rfl })

theorem pumpLines_stays {o fuel} (hk : Stays W d₀ d) (hw : Allows W [.ports, .lines] := by exact .mono ‹Allows _ _› rfl)
    : Stays W d₀ (pumpLines o fuel d) := by
  induction fuel generalizing d with
  | zero => exact hk
  | succ fuel ih =>
    rw [pumpLines]
    split
    · exact hk
    · extract_lets
      split
      · exact .ite { hk with lines := hw.may rfl } hk
      · exact .ite hk (ih (lineIssue_stays (setLq_stays hk)))

theorem linesGo_stays {o} (hk : Stays W d₀ d) (hw : Allows W [.ports, .lines] := by exact .mono ‹Allows _ _› rfl)
    : Stays W d₀ (linesGo d o) := by
  unfold linesGo
  split
  · exact pumpLines_stays hk
  · exact hk

theorem onLqSetup_leaves {fn v s} {f : Dev → Nat → Dev} (hf : ∀ {d₀ d o}, Stays W d₀ d → Stays W d₀ (f d o)) :
    Leaves W s (onLqSetup fn v f s) :=
  onDev_leaves fun hk => .ite hk (.ite (ctrInc_stays hk) (.ite hk (hf hk)))

theorem execLineQueueSetup_leaves {fn value} {s : State} (hw : Allows W [.lines] := by exact .mono ‹Allows _ _› rfl)
    : Leaves W s (execLineQueueSetup fn value s) :=
  onLqSetup_leaves fun hk => .ite hk { hk with lines := hw.may rfl }

theorem execLineQueueTeardown_leaves {fn value} {s : State} (hw : Allows W [.ports, .lines] := by exact .mono ‹Allows _ _› rfl)
    : Leaves W s (execLineQueueTeardown fn value s) :=
  onLqSetup_leaves fun hk => by
    refine .ite hk ?_
    split
    · exact hk
    · exact linesGo_stays (setLq_stays hk)

theorem readSlot_stays {q} (hk : Stays W d₀ d) : Stays W d₀ (readSlot d q) := emitReads_stays hk

theorem takeDesc_stays {q b} (hk : Stays W d₀ d) (hw : Allows W [.ports, .lines] := by exact .mono ‹Allows _ _› rfl)
    : Stays W d₀ (takeDesc d q b) := by
  unfold takeDesc
  refine readSlot_stays (.ite (lineResult_stays (setLq_stays hk)) ?_)
  dsimp only
  split
  · exact lineResult_stays (setLq_stays hk)
  · exact .ite (lineResult_stays (setLq_stays hk)) (linesGo_stays (setLq_stays (setLq_stays hk)))

theorem onSlot_leaves {o slot s} {f : Dev → LineQueue → Bytes → Int → Dev} (hf : ∀ {d₀ d q b n}, Stays W d₀ d → Stays W d₀ (f d q b n))
    (hw : Allows W [.sas, .bob] := by exact .mono ‹Allows _ _› rfl) :
    Leaves W s (onSlot o slot f s) :=
  onDevC_leaves fun hk => by
    split
    · exact hk
    · split
      · exact ctrInc_stays (faultWrite_stays hk)
      · exact hf hk

theorem execLineQueuePoll_leaves {owner slot} {s : State} (hw : Allows W [.ports, .sas, .bob, .lines] := by exact .mono ‹Allows _ _› rfl)
    : Leaves W s (execLineQueuePoll owner slot s) :=
  onSlot_leaves fun {d₀} {_} {_} {_} {_} hk => by
    extract_lets d1
    have h1 : Stays W d₀ d1 := readSlot_stays hk
    exact .ite (detectFor_stays (setLq_stays h1)) (.ite (takeDesc_stays h1) h1)

theorem execLineRead_leaves {owner slot} {s : State} (hw : Allows W [.ports, .sas, .bob, .lines] := by exact .mono ‹Allows _ _› rfl)
    : Leaves W s (execLineRead owner slot s) :=
  onSlot_leaves fun hk => .ite (takeDesc_stays hk) hk

theorem execLineWrite_leaves {owner slot} {s : State} (hw : Allows W [.ports, .sas, .bob, .lines] := by exact .mono ‹Allows _ _› rfl)
    : Leaves W s (execLineWrite owner slot s) :=
  onSlot_leaves fun hk => .ite (takeDesc_stays hk) hk

theorem endIssue_stays {i status poison line} (hk : Stays W d₀ d) (hw : Allows W [.ports, .lines] := by exact .mono ‹Allows _ _› rfl)
    : Stays W d₀ (endIssue d i status poison line) :=
  linesGo_stays (lineResult_stays { hk with lines := hw.may rfl })

theorem lineResponse_stays {ok c p} (hk : Stays W d₀ d) (hw : Allows W [.ports, .lines] := by exact .mono ‹Allows _ _› rfl)
    : Stays W d₀ (lineResponse ok d c p) := by
  unfold lineResponse
  split
  · exact ctrInc_stays hk
  · exact .ite (ctrInc_stays hk) (endIssue_stays hk)

theorem execRdData_leaves {p} {s : State} (hw : Allows W [.assocs, .ports, .sas, .bob, .lines] := by exact .mono ‹Allows _ _› rfl)
    : Leaves W s (execRdData p s) := onLine_leaves fun hk => lineResponse_stays hk

theorem execWrDone_leaves {p} {s : State} (hw : Allows W [.assocs, .ports, .sas, .bob, .lines] := by exact .mono ‹Allows _ _› rfl)
    : Leaves W s (execWrDone p s) := onLine_leaves fun hk => lineResponse_stays hk

theorem execLineNak_leaves {p} {s : State} (hw : Allows W [.assocs, .ports, .sas, .bob, .lines] := by exact .mono ‹Allows _ _› rfl)
    : Leaves W s (execLineNak p s) := onLine_leaves fun hk => lineResponse_stays hk

theorem execLineReadResend_leaves {tag} {s : State} (hw : Allows W [.ports, .sas, .bob, .lines] := by exact .mono ‹Allows _ _› rfl)
    : Leaves W s (execLineReadResend tag s) :=
  onDevC_leaves fun hk => by
    split
    · exact hk
    · refine .ite hk ?_
      split
      · exact endIssue_stays hk
      · exact .ite (endIssue_stays hk) (sendLine_stays (ctrInc_stays { hk with lines := hw.may rfl }))

theorem execLineDeadTimeout_leaves {tag} {s : State} (hw : Allows W [.ports, .sas, .bob, .lines] := by exact .mono ‹Allows _ _› rfl)
    : Leaves W s (execLineDeadTimeout tag s) :=
  onDevC_leaves fun hk => by
    split
    · exact hk
    · exact .ite hk (detectFor_stays (ctrInc_stays (endIssue_stays hk)))

/-! ## Machine/Checks.lean -/

theorem setCheck_stays {u x} (hk : Stays W d₀ d) (hw : Allows W [.checks] := by exact .mono ‹Allows _ _› rfl)
    : Stays W d₀ (setCheck d u x) := { hk with checks := hw.may rfl }

theorem checkStart_stays {u fuel} (hk : Stays W d₀ d) (hw : Allows W [.checks] := by exact .mono ‹Allows _ _› rfl)
    : Stays W d₀ (checkStart u fuel d) := by
  induction fuel generalizing d with
  | zero => exact hk
  | succ fuel ih =>
    rw [checkStart]
    split
    · exact hk
    · exact .ite (ih (expire_stays (setCheck_stays hk))) (.ite (ih (refuse_stays (setCheck_stays hk))) (.ite hk (emitReads_stays hk)))

theorem checkRecord_stays {t cont} (hk : Stays W d₀ d) (hw : Allows W [.taken, .admRest, .checks] := by exact .mono ‹Allows _ _› rfl)
    : Stays W d₀ (checkRecord d t cont) := by
  unfold checkRecord
  dsimp only
  split
  · exact refuseTaken_stays hk
  · exact .ite (refuseTaken_stays hk) (.ite (checkStart_stays (setCheck_stays (dropTaken_stays hk))) (setCheck_stays (dropTaken_stays hk)))

theorem execCheck_leaves {lane seq} {s : State} (hw : Allows W [.taken, .admRest, .checks] := by exact .mono ‹Allows _ _› rfl)
    : Leaves W s (execCheck lane seq s) := onTaken_leaves fun hk => checkRecord_stays hk

theorem execCheckContinue_leaves {lane seq} {s : State} (hw : Allows W [.taken, .admRest, .checks] := by exact .mono ‹Allows _ _› rfl)
    : Leaves W s (execCheckContinue lane seq s) :=
  onTaken_leaves fun hk => checkRecord_stays hk

theorem checkSource_stays {c src errs} (hk : Stays W d₀ d) (hw : Allows W [.sas, .stk] := by exact .mono ‹Allows _ _› rfl)
    : Stays W d₀ (checkSource d c src errs).2 := by
  unfold checkSource
  refine .ite₂ ?_ (.ite₂ hk (.ite₂ (faultOp_stays (readRanges_stays hk)) (readRanges_stays hk)))
  split
  · exact hk
  · exact hk

theorem execCheckCommandDone_leaves {unit src errs} {s : State} (hw : Allows W [.sas, .stk, .checks] := by exact .mono ‹Allows _ _› rfl)
    : Leaves W s (execCheckCommandDone unit src errs s) :=
  onDev_leaves fun hk => by
    split
    · exact hk
    · refine checkStart_stays ?_
      dsimp only
      split
      · exact finishOp_stays (setCheck_stays (ctrInc_stays (checkSource_stays hk)))
      · exact finishOp_stays (ctrAdd_stays (setCheck_stays (ctrInc_stays (checkSource_stays hk))))

/-! ## Machine/Stacks.lean -/

theorem execStackTrainingDone_leaves {stack pass} {s : State} (hw : Allows W [.ready, .custody, .operations, .admRest, .ports, .requests,
    .sas, .stk, .bob, .retrieval, .fabric] := by exact .mono ‹Allows _ _› rfl) : Leaves W s (execStackTrainingDone stack pass s) :=
  onDevC_leaves fun {d₀} {_} hk => by
    extract_lets _ _ d1 d2 d3 _ d4
    have h1 : Stays W d₀ d1 := setStack_stays hk
    have h2 : Stays W d₀ d2 := .ite (detect_stays h1) (.ite h1 (post_stays h1))
    have h3 : Stays W d₀ d3 := .ite (stkLoss_stays h2) h2
    have h4 : Stays W d₀ d4 := { h3 with stk := hw.may rfl }
    exact .ite hk (.ite h3 (.ite (enterCustody_stays (detectDevice_stays h4)) h4))

theorem stackTemp_stays {n ts} (hk : Stays W d₀ d) (hw : Allows W [.custody, .sensors, .monRest, .operations, .admRest, .ports, .requests,
    .sas, .stk, .bob, .retrieval, .fabric] := by exact .mono ‹Allows _ _› rfl) : Stays W d₀ (stackTemp d n ts) := by
  unfold stackTemp
  extract_lets _ _ _ d1 d2 _ d3 d4
  have h2 : Stays W d₀ d2 := tempRead_stays (setStack_stays hk)
  have h3 : Stays W d₀ d3 := .ite h2 (scaleStk_stays { h2 with stk := hw.may rfl })
  have h4 : Stays W d₀ d4 := .ite (reportOver_stays h3) h2
  exact .ite (enterCustody_stays (detect_stays h4)) h4

theorem execStackTempSample_leaves {temps} {s : State} (hw : Allows W [.custody, .sensors, .monRest, .operations, .admRest, .ports,
    .requests, .sas, .stk, .bob, .retrieval, .fabric] := by exact .mono ‹Allows _ _› rfl) : Leaves W s (execStackTempSample temps s) :=
  onDevC_leaves fun {d₀} {_} hk => by
    extract_lets d1
    have h1 : Stays W d₀ d1 := .foldl (fun _ _ k => stackTemp_stays k) hk
    clear_value d1
    exact { h1 with stk := hw.may rfl }

theorem execStackHotClear_leaves {s : State} (hw : Allows W [.admRest, .stk] := by exact .mono ‹Allows _ _› rfl)
    : Leaves W s (execStackHotClear s) :=
  onDev_leaves fun hk => by
    split
    · exact hk
    · exact .ite hk (scaleStk_stays { hk with stk := hw.may rfl })

theorem execScrubRead_leaves {stack frame line errs} {s : State} (hw : Allows W [.sas, .stk] := by exact .mono ‹Allows _ _› rfl)
    : Leaves W s (execScrubRead stack frame line errs s) :=
  onDev_leaves fun hk => by
    refine .ite hk (.ite ?_ ?_)
    · refine ctrInc_stays (.ite hk ?_)
      dsimp only
      split
      · exact pokeLine_stays (readLine_stays hk)
      · exact readLine_stays hk
    · refine .ite hk ?_
      dsimp only
      split
      · exact pokeLine_stays (readLine_stays hk)
      · exact readLine_stays hk

theorem moveHeld_stays {n on} (hk : Stays W d₀ d) (hw : Allows W [.sas] := by exact .mono ‹Allows _ _› rfl)
    : Stays W d₀ (moveHeld d n on) := { hk with sas := hw.may rfl }

theorem execStackCommandTimeout_leaves {stack} {s : State} (hw : Allows W [.ready, .custody, .operations, .admRest, .ports, .requests,
    .sas, .stk, .bob, .retrieval, .fabric] := by exact .mono ‹Allows _ _› rfl) : Leaves W s (execStackCommandTimeout stack s) :=
  onDevC_leaves fun {d₀} {_} hk => by
    extract_lets _ d1 d2
    have h1 : Stays W d₀ d1 := moveHeld_stays (unpost_stays (setStack_stays hk))
    exact .ite hk (enterCustody_stays (detect_stays (.ite (stkLoss_stays h1) h1)))

theorem signedStackRetire_stays {h n} (hk : Stays W d₀ d) (hw : Allows W [.msgSeq, .sas, .stk] := by exact .mono ‹Allows _ _› rfl)
    : Stays W d₀ (signedStackRetire d h n).2 :=
  signedDo_stays hk (fun k => .ite k (stkLoss_stays (moveHeld_stays (setStack_stays k))))

theorem execStackRetire_leaves {h stack} {s : State} (hw : Allows W [.msgSeq, .sas, .stk, .bob] := by exact .mono ‹Allows _ _› rfl)
    : Leaves W s (execStackRetire h stack s) :=
  onSigned_leaves fun hk => signedStackRetire_stays hk

theorem setSas_stays {x} (hk : Stays W d₀ d) (hx : x.work = d.sas.work) (hw : Allows W [.sas] := by exact .mono ‹Allows _ _› rfl) :
    Stays W d₀ { d with sas := x } :=
  { hk with sas := hw.may rfl, workWf := fun hm => hx ▸ hk.workWf hm }

theorem moveFrame_stays {n f} (hk : Stays W d₀ d) (he : moveFrame d n f = some e) (hw : Allows W [.sas,
    .stk] := by exact .mono ‹Allows _ _› rfl) : Stays W d₀ e := by
  unfold moveFrame at he
  split at he
  · cases he
    exact setSas_stays (setStack_stays (clearPoison_stays (clearPoison_stays (.ite hk (ctrInc_stays hk))))) rfl
  · cases he

/-- Moving frames one after another, until one cannot be moved. -/
theorem moveFrames_stays {n} {fs : List Nat} {o : Option Dev} (hk : ∀ x, o = some x → Stays W d₀ x)
    (he : fs.foldl (fun (r : Option Dev) f => r.bind fun x => moveFrame x n f) o = some e) (hw : Allows W [.sas,
        .stk] := by exact .mono ‹Allows _ _› rfl) : Stays W d₀ e := by
  induction fs generalizing o with
  | nil => exact hk e he
  | cons f fs ih =>
    refine ih (fun x hx => ?_) he
    obtain ⟨y, hy, hm⟩ := Option.bind_eq_some_iff.mp hx
    exact moveFrame_stays (hk y hy) hm

theorem execStackRetireComplete_leaves {stack} {s : State} (hw : Allows W [.ready, .sas, .stk] := by exact .mono ‹Allows _ _› rfl)
    : Leaves W s (execStackRetireComplete stack s) :=
  onDev_leaves fun hk => by
    refine .ite hk ?_
    dsimp only
    split
    · exact hk
    · next he => exact detect_stays (unpost_stays (setStack_stays (moveFrames_stays (by rintro _ ⟨⟩; exact hk) he)))

/-! ## Machine/Bobbin.lean -/

theorem setRaw_stays {raw} (hk : Stays W d₀ d) (hw : Allows W [.bob] := by exact .mono ‹Allows _ _› rfl) : Stays W d₀ (setRaw d raw) :=
    { hk with bob := hw.may rfl }

theorem scanTarget_stays {t s} (hk : Stays W d₀ d) (hw : Allows W [.bob] := by exact .mono ‹Allows _ _› rfl)
    : Stays W d₀ (scanTarget d t s) := by
  unfold scanTarget
  split
  · exact .ite (setRaw_stays (setTarget_stays hk)) (detect_stays hk)
  · exact detect_stays hk

theorem tierCheck_stays (hk : Stays W d₀ d) (hw : Allows W [.ready] := by exact .mono ‹Allows _ _› rfl) : Stays W d₀ (tierCheck d) :=
    .ite (post_stays hk) hk

theorem execChannelScanDone_leaves {ch trained scans} {s : State} (hw : Allows W [.ready, .bob] := by exact .mono ‹Allows _ _› rfl)
    : Leaves W s (execChannelScanDone ch trained scans s) :=
  onDev_leaves fun {d₀} {_} hk => by
    refine .ite hk ?_
    extract_lets _ d1 _ d2 _ d3
    have h1 : Stays W d₀ d1 := { hk with bob := hw.may rfl }
    have h2 : Stays W d₀ d2 := .foldl (fun _ _ k => scanTarget_stays k) h1
    have h3 : Stays W d₀ d3 := .ite (.ite (post_stays { h2 with bob := hw.may rfl }) h2) (detect_stays h1)
    exact tierCheck_stays h3

theorem endNeeding_stays {id cause} (hk : Stays W d₀ d) (hw : Allows W [.operations, .ports,
    .retrieval] := by exact .mono ‹Allows _ _› rfl) : Stays W d₀ (endNeeding d id cause) := by
  unfold endNeeding
  split
  · exact hk
  · split
    · split
      · exact failJob_stays hk
      · exact failOp_stays hk
    · exact failOp_stays hk

theorem failPromotions_stays {p cause} (hk : Stays W d₀ d) (hw : Allows W [.operations, .ports, .sas,
    .retrieval] := by exact .mono ‹Allows _ _› rfl) : Stays W d₀ (failPromotions d p cause) :=
  .foldl (fun _ _ k => endNeeding_stays k) { hk with sas := hw.may rfl }

theorem unitFailed_stays {u tag} (hk : Stays W d₀ d) (hw : Allows W [.operations, .ports, .sas, .bob,
    .retrieval] := by exact .mono ‹Allows _ _› rfl) : Stays W d₀ (unitFailed d u tag) := by
  unfold unitFailed
  extract_lets _ d1 _ d2 d3
  have h1 : Stays W d₀ d1 := setUnit_stays hk
  have h2 : Stays W d₀ d2 := { h1 with bob := hw.may rfl }
  have h3 : Stays W d₀ d3 := ctrInc_stays (ctrInc_stays (.ite (ctrInc_stays h2) h2))
  exact failPromotions_stays h3

theorem unitRead_stays {u r attempts} (hk : Stays W d₀ d) (hw : Allows W [.sas, .bob] := by exact .mono ‹Allows _ _› rfl)
    : Stays W d₀ (unitRead d u r attempts) := by
  unfold unitRead
  extract_lets _ d1 d2 _ d3
  have h2 : Stays W d₀ d2 := ctrInc_stays (ctrInc_stays { hk with sas := hw.may rfl, bob := hw.may rfl })
  have h3 : Stays W d₀ d3 := by
    unfold d3
    split
    · exact { h2 with sas := hw.may rfl, bob := hw.may rfl }
    · refine .ite h2 ?_
      split
      next he => exact programUnit_stays h2 he
      next => exact modBlock_stays h2
  exact .ite (relocBlock_stays h3) h3

theorem disturbCheck_stays {t lun blk} (hk : Stays W d₀ d) (hw : Allows W [.bob] := by exact .mono ‹Allows _ _› rfl)
    : Stays W d₀ (disturbCheck d t lun blk) := by
  unfold disturbCheck
  split
  · exact .ite (relocBlock_stays hk) hk
  · exact hk

theorem execBobbinReadAttempt_leaves {id good tagOk} {s : State} (hw : Allows W [.operations, .ports, .sas, .stk, .bob,
    .retrieval] := by exact .mono ‹Allows _ _› rfl) : Leaves W s (execBobbinReadAttempt id good tagOk s) :=
  onTier_leaves fun {d₀} {_} hk => by
    split
    · exact hk
    · split
      · exact hk
      · refine .ite hk ?_
        extract_lets d1 _ _ _ _ d2
        have h1 : Stays W d₀ d1 := modBlock_stays hk
        have h2 : Stays W d₀ d2 := by
          refine .ite (.ite (unitRead_stays h1) (unitFailed_stays h1)) (.ite (.ite ?_ (unitFailed_stays h1)) { h1 with
              bob := hw.may rfl })
          exact relocBlock_stays (unitFailed_stays h1)
        exact pumpBob_stays (disturbCheck_stays h2)

theorem switchReloc_stays {u src} (hk : Stays W d₀ d) (hw : Allows W [.sas, .bob] := by exact .mono ‹Allows _ _› rfl)
    : Stays W d₀ (switchReloc d u src) := by
  unfold switchReloc
  extract_lets _ _ _ d1 _ _ d2 d3 _ d4
  have h1 : Stays W d₀ d1 := .foldl (fun _ _ k => dropUnitSlot_stays k) hk
  have h2 : Stays W d₀ d2 := .ite h1 { h1 with sas := hw.may rfl, bob := hw.may rfl }
  have h3 : Stays W d₀ d3 := setUnit_stays h2
  have h4 : Stays W d₀ d4 := { h3 with sas := hw.may rfl, bob := hw.may rfl }
  exact .ite (ctrAdd_stays h4) h4

theorem dropUnit_stays {u} (hk : Stays W d₀ d) (hw : Allows W [.sas, .bob] := by exact .mono ‹Allows _ _› rfl)
    : Stays W d₀ (dropUnit d u) := by
  unfold dropUnit
  extract_lets _ _ _ d1
  have h1 : Stays W d₀ d1 := by
    unfold d1
    split
    · exact modBlock_stays hk
    · exact hk
  clear_value d1
  exact { h1 with sas := hw.may rfl, bob := hw.may rfl }

theorem reprogram_stays {u} (hk : Stays W d₀ d) (hw : Allows W [.sas, .bob] := by exact .mono ‹Allows _ _› rfl)
    : Stays W d₀ (reprogram d u) := by
  unfold reprogram
  split
  next he => exact emitUnit_stays (setUnit_stays { nextPlace_stays hk he with bob := hw.may rfl })
  · exact dropUnit_stays hk

theorem wearCheck_stays {t} (hk : Stays W d₀ d) (hw : Allows W [.bob] := by exact .mono ‹Allows _ _› rfl)
    : Stays W d₀ (wearCheck d t) := by
  unfold wearCheck
  dsimp only
  split
  · exact hk
  · refine .ite ?_ hk
    split
    · exact relocBlock_stays hk
    · exact hk

theorem execBobbinProgramDone_leaves {loc page ok} {s : State} (hw : Allows W [.sas, .bob] := by exact .mono ‹Allows _ _› rfl)
    : Leaves W s (execBobbinProgramDone loc page ok s) :=
  onDevC_leaves fun hk => by
    dsimp only
    split
    · exact hk
    · refine .ite hk (.ite (pumpBob_stays (wearCheck_stays (disturbCheck_stays ?_))) ?_)
      · split
        · exact switchReloc_stays (ctrInc_stays hk)
        · exact setUnit_stays (ctrInc_stays hk)
      · exact pumpBob_stays (reprogram_stays (detect_stays (modBlock_stays (ctrInc_stays hk))))

theorem execBobbinEraseDone_leaves {loc ok} {s : State} (hw : Allows W [.bob] := by exact .mono ‹Allows _ _› rfl)
    : Leaves W s (execBobbinEraseDone loc ok s) :=
  onDev_leaves fun {d₀} {_} hk => by
    extract_lets
    split
    · exact hk
    · exact .ite hk (.ite (pumpBob_stays (wearCheck_stays (modBlock_stays (ctrInc_stays hk))))
        (pumpBob_stays (detect_stays (modBlock_stays (ctrInc_stays hk)))))

theorem execBobbinGc_leaves {ch tgt} {s : State} (hw : Allows W [.bob] := by exact .mono ‹Allows _ _› rfl)
    : Leaves W s (execBobbinGc ch tgt s) :=
  onDev_leaves fun hk => by
    refine .ite { hk with bob := hw.may rfl } ?_
    dsimp only
    split
    · exact .ite (doomBlock_stays { hk with bob := hw.may rfl }) { hk with bob := hw.may rfl }
    · exact .ite (detectDevice_stays { hk with bob := hw.may rfl }) { hk with bob := hw.may rfl }

theorem execBlockRetentionExpiry_leaves {loc} {s : State} (hw : Allows W [.bob] := by exact .mono ‹Allows _ _› rfl)
    : Leaves W s (execBlockRetentionExpiry loc s) :=
  onDev_leaves fun hk => by
    dsimp only
    split
    · exact hk
    · split
      · exact .ite (relocBlock_stays hk) hk
      · exact hk

theorem execTargetTimeout_leaves {ch tgt} {s : State} (hw : Allows W [.ready, .operations, .ports, .sas, .bob,
    .retrieval] := by exact .mono ‹Allows _ _› rfl) : Leaves W s (execTargetTimeout ch tgt s) :=
  onDevC_leaves fun {d₀} {_} hk => by
    extract_lets _ _ d1 _ d2 d3 _ d4 d5 d6
    have h3 : Stays W d₀ d3 := .foldl (fun _ _ k => reprogram_stays k) (reportOver_stays (setRaw_stays (setTarget_stays hk)))
    have h5 : Stays W d₀ d5 := failPromotions_stays { h3 with bob := hw.may rfl }
    exact .ite hk (pumpBob_stays (.ite (unpost_stays h5) h5))

end

end Sys2Proof.Machine
end

section
/-! # Footprints of tiers, bring-up, clock, SPDM, pair and management -/

namespace Sys2Proof.Machine

open Sys2Proof

set_option Elab.async false -- each lemma rests on the ones before it: elaborated in order, none of them waits in a thread of its own

section
variable {W : Area → Bool} {d₀ d e : Dev}

/-! ## Machine/Tiers.lean -/

theorem promotionRefused_stays {f} (hk : Stays W d₀ d) (hw : Allows W [.operations, .ports, .sas,
    .retrieval] := by exact .mono ‹Allows _ _› rfl) : Stays W d₀ (promotionRefused d f) := by
  unfold promotionRefused
  refine .foldl (fun _ _ k => ?_) (shipsRefused_stays (ctrInc_stays { hk with sas := hw.may rfl }))
  split
  · exact k
  · split
    · split
      · refine .foldl (fun _ _ k => ?_) k
        split
        · exact endOp_stays k
        · exact k
      · exact endOp_stays k
    · exact endOp_stays k

theorem execFramePromotionDone_leaves {frame stackFrame} {s : State} (hw : Allows W [.operations, .ports, .sas, .stk, .bob,
    .retrieval] := by exact .mono ‹Allows _ _› rfl) : Leaves W s (execFramePromotionDone frame stackFrame s) :=
  onTier_leaves fun hk => by
    refine .ite hk ?_
    split
    · exact .ite (promotionRefused_stays hk) hk
    · exact .ite hk (pumpBob_stays { ctrInc_stays (clearPoison_stays (dropUnitSlot_stays (.ite hk (ctrInc_stays hk)))) with sas := hw.may rfl })

theorem execLayerWalkDone_leaves {skein layer} {s : State} (hw : Allows W [.sas] := by exact .mono ‹Allows _ _› rfl)
    : Leaves W s (execLayerWalkDone skein layer s) :=
  onDev_leaves fun hk => by
    split
    · exact hk
    · exact .ite hk (setSkein_stays hk)

theorem demoteFrames_stays {k x fs moving} (hk : Stays W d₀ d) (hw : Allows W [.sas, .bob] := by exact .mono ‹Allows _ _› rfl)
    : Stays W d₀ (demoteFrames d k x fs moving) := by
  unfold demoteFrames
  split
  · exact hk
  next he => exact { programUnits_stays hk he with sas := hw.may rfl }

theorem demoteWhole_stays {k r b} (hk : Stays W d₀ d) (hw : Allows W [.sas, .bob] := by exact .mono ‹Allows _ _› rfl)
    : Stays W d₀ (demoteWhole d k r b) := demoteFrames_stays hk

theorem demotePage_stays {k r} (hk : Stays W d₀ d) (hw : Allows W [.sas, .bob, .fabric] := by exact .mono ‹Allows _ _› rfl)
    : Stays W d₀ (demotePage d k r) := by
  unfold demotePage
  split
  · exact hk
  · refine .ite (demoteWhole_stays hk) (.ite (demoteWhole_stays (ctrInc_stays hk)) ?_)
    extract_lets r1
    have h1 : Stays W d₀ r1.2 := readBody_stays hk
    refine .ite (demoteWhole_stays hk) (.ite (demoteWhole_stays (ctrInc_stays h1)) ?_)
    exact demoteFrames_stays (jobDone_stays (ctrAdd_stays { h1 with sas := hw.may rfl }))

theorem switchDown_stays {us fs body ok} (hk : Stays W d₀ d) (hw : Allows W [.sas, .stk, .bob] := by exact .mono ‹Allows _ _› rfl)
    : Stays W d₀ (switchDown d us fs body ok) := by
  unfold switchDown
  extract_lets _ _ d1
  have h1 : Stays W d₀ d1 := by
    refine .foldl (fun _ _ k => ?_) hk
    split
    · split
      · exact clearPoison_stays k
      · exact k
    · exact k
  clear_value d1
  exact { h1 with sas := hw.may rfl, bob := hw.may rfl }

theorem thinSwitch_stays {k r t} {switch calm : Dev → Dev} (hk : Stays W d₀ d) (hs : ∀ {x}, Stays W d₀ x → Stays W d₀ (switch x))
    (hc : ∀ {x}, Stays W d₀ x → Stays W d₀ (calm x)) (hw : Allows W [.sas, .stk, .bob, .fabric] := by exact .mono ‹Allows _ _› rfl)
        : Stays W d₀ (thinSwitch d k r t switch calm) := by
  unfold thinSwitch
  extract_lets
  split
  · exact hc hk
  · next he =>
    exact mirrorPage_stays (jobDone_stays (ctrInc_stays (setSkein_stays (ctrAdd_stays (unpoisonMeta_stays (hs (mapAll_stays hk he)))))))

theorem execPageDemotionDone_leaves {skein layer page} {s : State} (hw : Allows W [.sas, .stk, .bob,
    .fabric] := by exact .mono ‹Allows _ _› rfl) : Leaves W s (execPageDemotionDone skein layer page s) :=
  onTier_leaves fun {d₀} {_} hk => by
    split
    · exact hk
    · split
      · exact hk
      · refine .ite hk (pumpBob_stays ?_)
        dsimp only
        split
        · exact thinSwitch_stays { hk with
            sas := hw.may rfl } (fun k => ctrAdd_stays (switchDown_stays k)) (fun k => setSas_stays (switchDown_stays k) rfl)
        · exact setSkein_stays (ctrAdd_stays (switchDown_stays { hk with sas := hw.may rfl }))
        · exact .ite (ctrAdd_stays (switchDown_stays { hk with sas := hw.may rfl })) (setSas_stays (switchDown_stays { hk with sas := hw.may rfl }) rfl)

theorem evict_stays {k} (hk : Stays W d₀ d) (hw : Allows W [.sas, .bob] := by exact .mono ‹Allows _ _› rfl) : Stays W d₀ (evict d k) :=
    freeSkein_stays (ctrInc_stays hk)

theorem execStackReclaim_leaves {s : State} (hw : Allows W [.sas, .bob, .fabric] := by exact .mono ‹Allows _ _› rfl)
    : Leaves W s (execStackReclaim s) :=
  onDevC_leaves fun hk => by
    refine .ite { hk with sas := hw.may rfl } (.ite ?_ ?_)
    · dsimp only
      split
      · exact evict_stays { hk with sas := hw.may rfl }
      · exact .ite { hk with sas := hw.may rfl } (detectDevice_stays { hk with sas := hw.may rfl })
    · dsimp only
      split
      · split
        · exact evict_stays { hk with sas := hw.may rfl }
        · exact .ite { hk with sas := hw.may rfl } (detectDevice_stays { hk with sas := hw.may rfl })
      · split
        · exact demoteFrames_stays { hk with sas := hw.may rfl }
        · exact .foldl (fun _ _ k => demotePage_stays k) { hk with sas := hw.may rfl }

theorem execBobbinReclaim_leaves {s : State} (hw : Allows W [.sas, .bob] := by exact .mono ‹Allows _ _› rfl)
    : Leaves W s (execBobbinReclaim s) :=
  onDevC_leaves fun hk => by
    refine .ite { hk with sas := hw.may rfl } ?_
    dsimp only
    split
    · exact evict_stays { hk with sas := hw.may rfl }
    · exact .ite { hk with sas := hw.may rfl } (detectDevice_stays { hk with sas := hw.may rfl })

/-! ## Machine/Boot.lean -/

theorem tellAll_stays {was : Dev} (hk : Stays W d₀ d) : Stays W d₀ (tellAll was d) :=
  .ite (pldmChange_stays (tellSensors_stays hk)) (tellSensors_stays hk)

theorem execEndOfReset_leaves {tapEn norReadable fw0Ok fw1Ok tests} {s : State} (hw : Allows W [.firmware, .phase, .bootRest, .ready,
    .custody, .tdisp, .keys, .session, .msgSeq, .spdm, .assocs, .lanes, .intakeRest, .operations, .admRest, .ports, .requests, .reqsRest,
    .sas, .bob, .retrieval, .fabric, .lines, .checks] := by exact .mono ‹Allows _ _› rfl) :
    Leaves W s (execEndOfReset tapEn norReadable fw0Ok fw1Ok tests s) := by
  unfold execEndOfReset
  have h {x : Nat} {y : Bytes} {z : Phase} {n : Nat} : Stays W s.dev
      { s.dev with boot := { s.dev.boot with tapEn := tapEn, phase := z, fwSlot := x, slot := n, measureFw := y } } :=
    { Stays.refl s.dev with firmware := hw.may rfl, phase := hw.may rfl }
  extract_lets _ _ _ _ d1 _ _ d2
  have h2 : Stays W s.dev d2 := newSession_stays h
  split
  · exact leaves_self
  · split
    · exact leaves_setDev (pldmChange_stays h)
    · exact leaves_setDev (.ite h2 (testsFailed_stays h2))

theorem noImage_stays {cause} (hk : Stays W d₀ d) (hw : Allows W [.image, .phase, .bootRest, .ready] := by exact .mono ‹Allows _ _› rfl)
    : Stays W d₀ (noImage d cause) :=
    tellAll_stays (faultPlain_stays { hk with image := hw.may rfl, phase := hw.may rfl, bootRest := hw.may rfl, ready := hw.may rfl })

theorem applyPlain_stays {s : State} {t} (hk : Stays W d₀ d) (hw : Allows W [.image, .phase, .bootRest, .ready, .pair, .ports, .stk,
    .fabric] := by exact .mono ‹Allows _ _› rfl) : Stays W d₀ (applyPlain s d t) := by
  unfold applyPlain
  extract_lets d1 _ _ _ d2 d3 d4 d5 _ d6
  have h1 : Stays W d₀ d1 := hk
  have h2 : Stays W d₀ d2 := { hk with image := hw.may rfl, phase := hw.may rfl, bootRest := hw.may rfl, pair := hw.may rfl }
  have h3 : Stays W d₀ d3 := .ite (post_stays (post_stays h2)) h2
  have h4 : Stays W d₀ d4 := .foldl (fun _ _ k => .foldl (fun _ _ k => dieCheck_stays k) k) h3
  have h5 : Stays W d₀ d5 := .foldl (fun _ _ k => startPort_stays k) (buildRuns_stays h4)
  have h6 : Stays W d₀ d6 := .ite { h5 with image := hw.may rfl, phase := hw.may rfl, bootRest := hw.may rfl, pair := hw.may rfl } h5
  exact tellAll_stays h6

theorem imageFails_stays (hk : Stays W d₀ d) (hw : Allows W [.image, .phase, .bootRest, .ready] := by exact .mono ‹Allows _ _› rfl)
    : Stays W d₀ (imageFails d) :=
  .ite (noImage_stays hk) (.ite (noImage_stays hk) (tellAll_stays (faultPlain_stays { hk with
      phase := hw.may rfl, bootRest := hw.may rfl })))

theorem tryImage_stays {s : State} {sigOk} (hk : Stays W d₀ d) (hw : Allows W [.image, .phase, .bootRest, .ready, .pair, .ports, .stk,
    .fabric] := by exact .mono ‹Allows _ _› rfl) : Stays W d₀ (tryImage s sigOk d) := by
  unfold tryImage
  refine .ite ?_ (imageFails_stays hk)
  split
  · exact applyPlain_stays hk
  · exact imageFails_stays hk

theorem execImageLoad_leaves {sigOk0 sigOk1} {s : State} (hw : Allows W [.image, .phase, .bootRest, .ready, .pair, .ports, .stk,
    .fabric] := by exact .mono ‹Allows _ _› rfl) : Leaves W s (execImageLoad sigOk0 sigOk1 s) := by
  unfold execImageLoad
  extract_lets
  split
  · exact leaves_self
  · exact leaves_setDev (.ite (tryImage_stays (tryImage_stays (.refl _))) (tryImage_stays (.refl _)))

theorem execTileSelfTestDone_leaves {group failed} {s : State} (hw : Allows W [.ready, .sas, .bob,
    .fabric] := by exact .mono ‹Allows _ _› rfl) : Leaves W s (execTileSelfTestDone group failed s) :=
  onDevC_leaves fun hk => .ite hk (post_stays (tilesFail_stays hk))

theorem switchStartDo_stays {slot} (hk : Stays W d₀ d) (hw : Allows W [.bootRest, .secRest, .operations, .admRest, .ports, .requests,
    .sas, .bob, .retrieval, .fabric] := by exact .mono ‹Allows _ _› rfl) : Stays W d₀ (switchStartDo d slot) := by
  unfold switchStartDo
  extract_lets _ d1
  have h1 : Stays W d₀ d1 := stopService_stays hk
  clear_value d1
  exact tellAll_stays { h1 with bootRest := hw.may rfl, secRest := hw.may rfl }

theorem signedImageSwitch_stays {h slot version} (hk : Stays W d₀ d) (hw : Allows W [.bootRest, .msgSeq, .secRest, .operations, .admRest,
    .ports, .requests, .sas, .bob, .retrieval, .fabric] := by exact .mono ‹Allows _ _› rfl)
    : Stays W d₀ (signedImageSwitch d h slot version).2 :=
  signedDo_stays hk (fun k => switchStartDo_stays k)

theorem execImageSwitch_leaves {h slot version} {s : State} (hw : Allows W [.bootRest, .msgSeq, .secRest, .operations, .admRest, .ports,
    .requests, .sas, .bob, .retrieval, .fabric] := by exact .mono ‹Allows _ _› rfl) : Leaves W s (execImageSwitch h slot version s) :=
  onSigned_leaves fun hk => signedImageSwitch_stays hk

theorem execImageSwitchWindowEnd_leaves {s : State} (hw : Allows W [.spdm, .secRest] := by exact .mono ‹Allows _ _› rfl)
    : Leaves W s (execImageSwitchWindowEnd s) :=
  onDev_leaves fun hk => .ite (tellAll_stays { hk with spdm := hw.may rfl, secRest := hw.may rfl }) hk

theorem pldmFw_stays {cmd code} (hk : Stays W d₀ d) : Stays W d₀ (pldmFw d cmd code) := emit_stays hk

theorem execRequestUpdate_leaves {component} {s : State} (hw : Allows W [.update, .bootRest] := by exact .mono ‹Allows _ _› rfl)
    : Leaves W s (execRequestUpdate component s) :=
  onDev_leaves fun hk => .ite hk (.ite (pldmFw_stays hk) (.ite (pldmFw_stays hk) (pldmFw_stays { hk with
      update := hw.may rfl, bootRest := hw.may rfl })))

theorem execComponentWrite_leaves {comp offset bytes} {s : State} : Leaves W s (execComponentWrite comp offset bytes s) := by
  unfold execComponentWrite
  extract_lets
  split
  · exact leaves_next (.refl _)
  · exact leaves_self

theorem execVerifyComplete_leaves {sigOk coresSigOk} {s : State} (hw : Allows W [.update, .bootRest] := by exact .mono ‹Allows _ _› rfl)
    : Leaves W s (execVerifyComplete sigOk coresSigOk s) := by
  unfold execVerifyComplete
  dsimp only
  have h {u g v x}
      : Stays W s.dev { s.dev with sec := { s.dev.sec with updateStaged := x }, boot := { s.dev.boot with updating := u, staged := g, fwVerified := v } } :=
    { Stays.refl s.dev with update := hw.may rfl, bootRest := hw.may rfl }
  split
  · exact leaves_self
  · split
    · exact leaves_next (pldmFw_stays h)
    · exact leaves_setDev (pldmFw_stays h)
  · split
    · exact leaves_setDev (pldmFw_stays h)
    · exact leaves_setDev (pldmFw_stays h)

theorem execApplyComplete_leaves {s : State} (hw : Allows W [.update, .bootRest] := by exact .mono ‹Allows _ _› rfl)
    : Leaves W s (execApplyComplete s) := by
  unfold execApplyComplete
  dsimp only
  have h1 : Stays W s.dev (pldmFw { s.dev with boot := { s.dev.boot with updating := none, fwVerified := false } } 0x18 0) :=
    pldmFw_stays { Stays.refl s.dev with update := hw.may rfl, bootRest := hw.may rfl }
  split
  · exact leaves_self
  · split
    · exact leaves_setDev h1
    · exact leaves_self
  · split
    · exact leaves_next h1
    · exact leaves_self

/-! ## Machine/Clock.lean -/

theorem advanceTime_stays {ns} (hk : Stays W d₀ d) (hw : Allows W [.time, .ports] := by exact .mono ‹Allows _ _› rfl)
    : Stays W d₀ (advanceTime d ns) :=
  .foldl (fun _ _ k => portTick_stays k) { hk with time := hw.may rfl }

theorem execReferenceEdge_leaves {s : State} (hw : Allows W [.time, .clkRest, .ports] := by exact .mono ‹Allows _ _› rfl)
    : Leaves W s (execReferenceEdge s) :=
  onDev_leaves fun hk => .ite hk (.ite { hk with clkRest := hw.may rfl } (advanceTime_stays { hk with clkRest := hw.may rfl }))

theorem idleTick_stays (hk : Stays W d₀ d) (hw : Allows W [.time, .ports] := by exact .mono ‹Allows _ _› rfl) : Stays W d₀ (idleTick d) :=
    .ite (advanceTime_stays hk) hk

theorem execReferenceLoss_leaves {s : State} (hw : Allows W [.clkRest, .custody, .operations, .admRest, .ports, .requests, .sas, .bob,
    .retrieval, .fabric] := by exact .mono ‹Allows _ _› rfl) : Leaves W s (execReferenceLoss s) :=
  onDevC_leaves fun {d₀} {_} hk => by
    refine .ite hk ?_
    extract_lets d1 d2
    have h2 : Stays W d₀ d2 := enterCustody_stays (detectDevice_stays (failAll_stays (ctrInc_stays hk)))
    clear_value d2
    exact { h2 with clkRest := hw.may rfl }

theorem execPllLockLoss_leaves {pll} {s : State} (hw : Allows W [.plls, .ready] := by exact .mono ‹Allows _ _› rfl)
    : Leaves W s (execPllLockLoss pll s) :=
  onDev_leaves fun hk => .ite hk (.foldl (fun _ _ k => unpost_stays k) (faultPlain_stays (ctrInc_stays { hk with plls := hw.may rfl })))

theorem domainRestart_stays {pll} (hk : Stays W d₀ d) (hw : Allows W [.ready, .secRest, .operations, .ports, .stk, .retrieval,
    .fabric] := by exact .mono ‹Allows _ _› rfl) : Stays W d₀ (domainRestart d pll) := by
  unfold domainRestart
  refine .ite (.foldl (fun _ _ k => resetRun_stays k) hk) (.ite ?_ (.ite (.ite { hk with
      secRest := hw.may rfl } hk) (.ite ?_ (.ite (setStack_stays hk) hk))))
  · extract_lets d1
    have h1 : Stays W d₀ d1 := .ite (post_stays hk) hk
    exact .ite (post_stays h1) h1
  · exact tierCheck_stays (.foldl (fun _ _ k => post_stays k) hk)

theorem execPllRelocked_leaves {pll} {s : State} (hw : Allows W [.plls, .ready, .secRest, .operations, .ports, .sas, .stk, .bob,
    .retrieval, .fabric] := by exact .mono ‹Allows _ _› rfl) : Leaves W s (execPllRelocked pll s) :=
  onDevC_leaves fun hk => .ite hk (.ite (domainRestart_stays { hk with plls := hw.may rfl }) { hk with plls := hw.may rfl })

theorem execWatchdogExpiry_leaves {agent} {s : State} (hw : Allows W [.clkRest, .ready, .custody, .secRest, .operations, .admRest, .ports,
    .requests, .sas, .bob, .retrieval, .fabric] := by exact .mono ‹Allows _ _› rfl) : Leaves W s (execWatchdogExpiry agent s) :=
  onDevC_leaves fun {d₀} {_} hk => by
    extract_lets _ d1 d2
    have h2 : Stays W d₀ d2 := enterCustody_stays (faultPlain_stays (ctrInc_stays { hk with clkRest := hw.may rfl }))
    exact .ite hk (.ite (coreResetStart_stays h2) h2)

theorem execControlCoreResetDone_leaves {s : State} (hw : Allows W [.bootRest, .ready, .secRest] := by exact .mono ‹Allows _ _› rfl)
    : Leaves W s (execControlCoreResetDone s) :=
  onDev_leaves fun hk => .ite (coreResetEnd_stays { hk with bootRest := hw.may rfl }) hk

theorem execRailMeasurement_leaves {mv powerW} {s : State} (hw : Allows W [.sensors, .monRest] := by exact .mono ‹Allows _ _› rfl)
    : Leaves W s (execRailMeasurement mv powerW s) :=
  onDev_leaves fun {d₀} {_} hk => by
    refine .ite hk ?_
    extract_lets _ _ d1
    have h1 : Stays W d₀ d1 := .foldl (fun _ _ k => faultPlain_stays { k with monRest := hw.may rfl }) hk
    clear_value d1
    exact { h1 with sensors := hw.may rfl }

theorem execDieTempSample_leaves {die0 die1 io} {s : State} (hw : Allows W [.sensors, .monRest] := by exact .mono ‹Allows _ _› rfl)
    : Leaves W s (execDieTempSample die0 die1 io s) :=
  onDev_leaves fun hk => .ite hk (.foldl (fun _ _ k => tempRead_stays k) { hk with sensors := hw.may rfl })

theorem allowedAt_stays {k s o} (hk : Stays W d₀ d) : Stays W d₀ (allowedAt d k s o) := by
  unfold allowedAt
  refine .ite hk ?_
  dsimp only
  split
  · exact writeUnit_stays { hk with }
  · exact { hk with }

theorem execCoalesceNextAllowed_leaves {subjKind subject} {s : State} : Leaves W s (execCoalesceNextAllowed subjKind subject s) :=
  onDev_leaves fun hk => .foldl (fun _ _ k => allowedAt_stays k) hk

theorem execCoalesceFullReport_leaves {s : State} : Leaves W s (execCoalesceFullReport s) :=
  onDev_leaves fun hk => .ite hk (faultWrite_stays { hk with })

/-! ## Machine/Spdm.lean -/

theorem spdmAnswer_stays {code fields body} (hk : Stays W d₀ d) : Stays W d₀ (spdmAnswer d code fields body) :=
    emit_stays (ctrInc_stays hk)

theorem spdmError_stays {code} (hk : Stays W d₀ d) : Stays W d₀ (spdmError d code) := spdmAnswer_stays hk

theorem spdmFree_stays {code fields} (hk : Stays W d₀ d) : Stays W d₀ (spdmFree d code fields) := spdmAnswer_stays (freeNext_stays hk)

theorem spdmBusy_stays {request} (hk : Stays W d₀ d) : Stays W d₀ (spdmBusy d request) := ctrInc_stays (spdmAnswer_stays hk)

theorem onSpdm_leaves {f : Dev → Dev} {s} (hf : ∀ {d₀ d}, Stays W d₀ d → Stays W d₀ (f d)) : Leaves W s (onSpdm f s) :=
  onDev_leaves fun hk => .ite (hf hk) hk

theorem onNegotiated_leaves {f : Dev → Dev} {s} (hf : ∀ {d₀ d}, Stays W d₀ d → Stays W d₀ (f d)) : Leaves W s (onNegotiated f s) :=
  onSpdm_leaves fun hk => .ite (hf hk) (spdmError_stays hk)

theorem inSession_leaves {ses s} {f : Dev → Dev} (hf : ∀ {d₀ d}, Stays W d₀ d → Stays W d₀ (f d)) : Leaves W s (inSession ses f s) :=
  onSpdm_leaves fun hk => .ite (hf hk) (spdmError_stays hk)

theorem execGetVersion_leaves {s : State} (hw : Allows W [.secRest] := by exact .mono ‹Allows _ _› rfl) : Leaves W s (execGetVersion s) :=
    onSpdm_leaves fun hk => spdmAnswer_stays { hk with secRest := hw.may rfl }

theorem execGetCapabilities_leaves {s : State} : Leaves W s (execGetCapabilities s) := onSpdm_leaves fun hk => spdmFree_stays hk

theorem execNegotiateAlgorithms_leaves {s : State} (hw : Allows W [.secRest] := by exact .mono ‹Allows _ _› rfl)
    : Leaves W s (execNegotiateAlgorithms s) :=
  onSpdm_leaves fun hk => spdmFree_stays { hk with secRest := hw.may rfl }

theorem execGetDigests_leaves {s : State} : Leaves W s (execGetDigests s) :=
  onNegotiated_leaves fun hk => .ite (spdmError_stays hk) (spdmAnswer_stays hk)

theorem execGetCertificate_leaves {slot} {s : State} : Leaves W s (execGetCertificate slot s) :=
  onNegotiated_leaves fun hk => .ite (spdmError_stays hk) (.ite (spdmError_stays hk) (spdmAnswer_stays hk))

theorem execChallenge_leaves {s : State} : Leaves W s (execChallenge s) :=
  onNegotiated_leaves fun hk => .ite (spdmBusy_stays hk) (.ite (spdmError_stays hk) (spdmFree_stays hk))

theorem execGetMeasurements_leaves {index signed} {s : State} : Leaves W s (execGetMeasurements index signed s) :=
  onNegotiated_leaves fun hk => .ite (spdmBusy_stays hk) (.ite (spdmError_stays hk)
    (.ite (spdmAnswer_stays hk) (.ite (spdmError_stays hk) (spdmAnswer_stays hk))))

theorem execKeyExchange_leaves {s : State} (hw : Allows W [.spdm] := by exact .mono ‹Allows _ _› rfl) : Leaves W s (execKeyExchange s) :=
  onNegotiated_leaves fun hk => .ite (spdmBusy_stays hk) (.ite (spdmError_stays hk) (spdmFree_stays { hk with spdm := hw.may rfl }))

theorem execFinish_leaves {ses} {s : State} (hw : Allows W [.spdm] := by exact .mono ‹Allows _ _› rfl) : Leaves W s (execFinish ses s) :=
  onSpdm_leaves fun hk => .ite (spdmFree_stays { hk with spdm := hw.may rfl }) (spdmError_stays hk)

theorem execKeyUpdate_leaves {ses} {s : State} : Leaves W s (execKeyUpdate ses s) := inSession_leaves fun hk => spdmAnswer_stays hk

theorem execSpdmHeartbeat_leaves {ses} {s : State} : Leaves W s (execSpdmHeartbeat ses s) :=
    inSession_leaves fun hk => spdmAnswer_stays hk

theorem execEndSession_leaves {ses} {s : State} (hw : Allows W [.spdm] := by exact .mono ‹Allows _ _› rfl)
    : Leaves W s (execEndSession ses s) :=
  inSession_leaves fun hk => spdmAnswer_stays { hk with spdm := hw.may rfl }

theorem execVendorDefinedRequest_leaves {ses ideKm stream} {s : State} (hw : Allows W [.spdm] := by exact .mono ‹Allows _ _› rfl)
    : Leaves W s (execVendorDefinedRequest ses ideKm stream s) :=
  inSession_leaves fun hk => .ite (spdmAnswer_stays hk) (.ite (spdmError_stays hk) (spdmAnswer_stays { hk with spdm := hw.may rfl }))

/-! ## Machine/Pair.lean -/

theorem partnerFault_stays {cause d0 d1} (hk : Stays W d₀ d) : Stays W d₀ (partnerFault d cause d0 d1) := detect_stays hk

theorem onSelvedge_leaves {tagOk s} {f : Dev → Dev} (hf : ∀ {d₀ d}, Stays W d₀ d → Stays W d₀ (f d)) (hw : Allows W [.pairRest, .sas,
    .bob] := by exact .mono ‹Allows _ _› rfl) : Leaves W s (onSelvedge tagOk f s) :=
  onDevC_leaves fun hk => .ite hk (.ite (ctrInc_stays hk) (.ite hk (hf { hk with pairRest := hw.may rfl })))

theorem dropMirror_stays (hk : Stays W d₀ d) (hw : Allows W [.pair, .sas] := by exact .mono ‹Allows _ _› rfl)
    : Stays W d₀ (dropMirror d) :=
  { hk with pair := hw.may rfl, sas := hw.may rfl, mirrorWf := fun _ => rfl }

theorem applyMirror_stays {r} (hk : Stays W d₀ d) (he : applyMirror d r = some e) (hw : Allows W [.pair, .sas, .stk,
    .bob] := by exact .mono ‹Allows _ _› rfl) : Stays W d₀ e := by
  unfold applyMirror at he
  split at he
  · obtain ⟨x, hx, rfl⟩ := Option.map_eq_some_iff.mp he
    have h := mapAll_stays hk hx
    exact { h with pair := hw.may rfl, mirrorWf := fun hm => memWf_writeN _ _ _ _ (h.mirrorWf hm) }
  · cases he; exact { hk with pair := hw.may rfl, sas := hw.may rfl }
  · cases he; exact { hk with pair := hw.may rfl, sas := hw.may rfl }
  · cases he; exact { hk with pair := hw.may rfl, sas := hw.may rfl, mirrorWf := fun hm => memWf_clear _ _ _ _ (hk.mirrorWf hm) }
  · extract_lets at he
    split at he <;> cases he <;> exact { hk with pair := hw.may rfl, sas := hw.may rfl }
  · cases he; exact hk

theorem applyAll_stays {rs} (hk : Stays W d₀ d) (he : applyAll d rs = some e) (hw : Allows W [.pair, .sas, .stk,
    .bob] := by exact .mono ‹Allows _ _› rfl) : Stays W d₀ e := by
  induction rs generalizing d with
  | nil => cases he; exact hk
  | cons r rs ih =>
    rw [applyAll] at he
    split at he
    · next hx => exact ih (applyMirror_stays hk hx) he
    · cases he

theorem enterLost_stays {cause} (hk : Stays W d₀ d) (hw : Allows W [.pair, .pairRest] := by exact .mono ‹Allows _ _› rfl)
    : Stays W d₀ (enterLost d cause) :=
  tellSensors_stays (releaseHeld_stays { partnerFault_stays (ctrInc_stays hk) with pair := hw.may rfl, pairRest := hw.may rfl })

theorem mirrorBroken_stays (hk : Stays W d₀ d) (hw : Allows W [.pair, .pairRest] := by exact .mono ‹Allows _ _› rfl)
    : Stays W d₀ (mirrorBroken d) := .ite (enterLost_stays hk) hk

theorem execPartnerLoss_leaves {s : State} (hw : Allows W [.pair, .pairRest, .sas, .bob] := by exact .mono ‹Allows _ _› rfl)
    : Leaves W s (execPartnerLoss s) := onDevC_leaves fun hk => .ite (enterLost_stays hk) hk

theorem sendSkein_stays {k} (hk : Stays W d₀ d) : Stays W d₀ (sendSkein d k) := by
  unfold sendSkein
  refine .foldl (fun _ _ k => ?_) (mirrorDirs_stays hk)
  split
  · exact .ite (mirrorRef_stays k) (mirrorPage_stays k)
  · exact k

theorem sendWhole_stays (hk : Stays W d₀ d) (hw : Allows W [.pairRest] := by exact .mono ‹Allows _ _› rfl)
    : Stays W d₀ (sendWhole d) := by
  unfold sendWhole
  extract_lets _ d1 d2 d3 d4 d5 _ d6
  have h1 : Stays W d₀ d1 := { hk with pairRest := hw.may rfl }
  have h2 : Stays W d₀ d2 := .foldl (fun _ _ k => mirrorPush_stays k) h1
  have h3 : Stays W d₀ d3 := .foldl (fun _ _ k => mirrorPush_stays k) h2
  have h4 : Stays W d₀ d4 := .foldl (fun _ _ k => sendSkein_stays k) h3
  have h5 : Stays W d₀ d5 := .foldl (fun _ _ k => sasMirror_stays k) h4
  have h6 : Stays W d₀ d6 := .foldl (fun _ _ k => sasMirror_stays k) h5
  clear_value d6
  exact sendSelvedge_stays { h6 with pairRest := hw.may rfl }

theorem checkMirrored_stays (hk : Stays W d₀ d) (hw : Allows W [.pair] := by exact .mono ‹Allows _ _› rfl)
    : Stays W d₀ (checkMirrored d) := .ite (tellSensors_stays { hk with pair := hw.may rfl }) hk

theorem formWith_stays {session mseq} (hk : Stays W d₀ d) (hw : Allows W [.pair, .pairRest] := by exact .mono ‹Allows _ _› rfl)
    : Stays W d₀ (formWith d session mseq) := sendWhole_stays { hk with pair := hw.may rfl, pairRest := hw.may rfl }

theorem execHeartbeatSend_leaves {s : State} (hw : Allows W [.pairRest] := by exact .mono ‹Allows _ _› rfl)
    : Leaves W s (execHeartbeatSend s) :=
  onDev_leaves fun hk => .ite hk (.ite hk (pnWarning_stays (sendSelvedge_stays (ctrInc_stays { hk with pairRest := hw.may rfl }))))

theorem execHeartbeat_leaves {sess mseq tagOk} {s : State} (hw : Allows W [.pair, .pairRest, .sas,
    .bob] := by exact .mono ‹Allows _ _› rfl) : Leaves W s (execHeartbeat sess mseq tagOk s) :=
  onSelvedge_leaves fun {d₀} {_} hk => by
    extract_lets d1
    have h1 : Stays W d₀ d1 := ctrInc_stays hk
    split
    · exact .ite (formWith_stays h1) h1
    · exact .ite (tellSensors_stays (formWith_stays { dropMirror_stays h1 with pair := hw.may rfl, pairRest := hw.may rfl }))
        (.ite h1 (partnerFault_stays { h1 with pair := hw.may rfl, pairRest := hw.may rfl }))
    · exact h1

theorem execMirror_leaves {mseq recs tagOk} {s : State} (hw : Allows W [.pair, .pairRest, .sas, .stk,
    .bob] := by exact .mono ‹Allows _ _› rfl) : Leaves W s (execMirror mseq recs tagOk s) :=
  onSelvedge_leaves fun hk => by
    refine .ite hk (.ite hk (.ite (mirrorBroken_stays (sendSelvedge_stays hk)) ?_))
    dsimp only
    split
    next he => exact sendSelvedge_stays { applyAll_stays hk he with pair := hw.may rfl }
    · exact mirrorBroken_stays (sendSelvedge_stays hk)

theorem execMack_leaves {mseq error tagOk} {s : State} (hw : Allows W [.pair, .pairRest, .sas, .bob] := by exact .mono ‹Allows _ _› rfl)
    : Leaves W s (execMack mseq error tagOk s) :=
  onSelvedge_leaves fun hk => .ite (mirrorBroken_stays hk) (checkMirrored_stays (releaseHeld_stays { hk with
      pair := hw.may rfl, pairRest := hw.may rfl }))

theorem execResyncDone_leaves {tagOk} {s : State} (hw : Allows W [.pair, .pairRest, .sas, .bob] := by exact .mono ‹Allows _ _› rfl)
    : Leaves W s (execResyncDone tagOk s) :=
  onSelvedge_leaves fun hk => .ite (checkMirrored_stays (sendSelvedge_stays { hk with pairRest := hw.may rfl })) hk

theorem memWf_foldl_cells (l : List Host.Cell) {m : Mem} (hm : memWf 0 m = true) :
    memWf 0 (l.foldl (fun m c => memWrite 0 m c.1 c.2) m) = true := by
  induction l generalizing m with
  | nil => exact hm
  | cons c l ih => exact ih (memWf_write _ _ _ _ hm)

theorem adoptSkeins_stays (hk : Stays W d₀ d) (hw : Allows W [.sas] := by exact .mono ‹Allows _ _› rfl) : Stays W d₀ (adoptSkeins d).2 :=
  { hk with sas := hw.may rfl, workWf := fun hm => memWf_foldl_cells _ (hk.workWf hm) }

theorem adoptReqs_stays (hk : Stays W d₀ d) (hw : Allows W [.requests, .requestNumbers] := by exact .mono ‹Allows _ _› rfl)
    : Stays W d₀ (adoptReqs d).2 := { hk with requests := hw.may rfl, requestNumbers := hw.may rfl }

theorem rewriteRing_stays {r} (hk : Stays W d₀ d) : Stays W d₀ (rewriteRing d r) := by
  unfold rewriteRing
  extract_lets _ d1
  have h1 : Stays W d₀ d1 := .foldl (fun _ _ k => .ite (postEntry_stays k) (hostWrite_stays k)) hk
  exact .ite (breakRing_stays hk) (.ite (startHeadRead_stays h1) h1)

theorem adoptRings_stays (hk : Stays W d₀ d) : Stays W d₀ (adoptRings d) := .foldl (fun _ _ k => rewriteRing_stays k) { hk with }

theorem takeOver_stays (hk : Stays W d₀ d) (hw : Allows W [.pair, .pairRest, .requests, .requestNumbers,
    .sas] := by exact .mono ‹Allows _ _› rfl) : Stays W d₀ (takeOver d) := by
  unfold takeOver
  extract_lets d1 d2 _ d3
  have h2 : Stays W d₀ d2 := .ite (enterLost_stays hk) hk
  clear_value d2
  have h3 : Stays W d₀ d3 := { h2 with pair := hw.may rfl }
  clear_value d3
  have hc {x : Dev} (k : Stays W d₀ x) :
      Stays W d₀ { x with pair := { x.pair with mirrorMem := [], mirrorReqs := [], mirrorRecs := [], mirrorRings := [] } } :=
    { k with pair := hw.may rfl, mirrorWf := fun _ => rfl }
  exact tellSensors_stays (hc (partnerFault_stays (ctrInc_stays (adoptRings_stays (adoptReqs_stays (adoptSkeins_stays h3))))))

theorem releaseMirror_stays (hk : Stays W d₀ d) (hw : Allows W [.pair, .pairRest, .sas] := by exact .mono ‹Allows _ _› rfl)
    : Stays W d₀ (releaseMirror d) :=
  tellSensors_stays { faultPlain_stays (releaseHeld_stays (dropMirror_stays hk)) with pair := hw.may rfl, pairRest := hw.may rfl }

theorem takeoverDo_stays {mode} (hk : Stays W d₀ d) (hw : Allows W [.pair, .pairRest, .requests, .requestNumbers,
    .sas] := by exact .mono ‹Allows _ _› rfl) : Stays W d₀ (takeoverDo d mode) :=
  .ite hk (.ite (takeOver_stays hk) (releaseMirror_stays hk))

theorem signedTakeover_stays {h mode fl} (hk : Stays W d₀ d) (hw : Allows W [.pair, .pairRest, .msgSeq, .requests, .requestNumbers,
    .sas] := by exact .mono ‹Allows _ _› rfl) : Stays W d₀ (signedTakeover d h mode fl).2 :=
  signedDo_stays hk (fun k => takeoverDo_stays k)

theorem execTakeover_leaves {h mode fleet} {s : State} (hw : Allows W [.pair, .pairRest, .msgSeq, .requests, .requestNumbers, .sas,
    .bob] := by exact .mono ‹Allows _ _› rfl) : Leaves W s (execTakeover h mode fleet s) :=
  onSigned_leaves fun hk => signedTakeover_stays hk

theorem execTakeoverRelease_leaves {h mode fleet} {s : State} (hw : Allows W [.pair, .pairRest, .msgSeq, .requests, .requestNumbers, .sas,
    .bob] := by exact .mono ‹Allows _ _› rfl) : Leaves W s (execTakeoverRelease h mode fleet s) :=
  onSigned_leaves fun hk => signedTakeover_stays hk

/-! ## Machine/Mgmt.lean -/

theorem onRot_leaves {f : State → Dev} {s} (hf : Stays W s.dev (f s)) : Leaves W s (onRot f s) := by
  rintro t ⟨⟩
  split
  · exact hf
  · exact .refl _

theorem execRegRead_leaves {inst offset count} {s : State} : Leaves W s (execRegRead inst offset count s) :=
  onRot_leaves (.ite (emit_stays (.refl _)) (emit_stays (.refl _)))

theorem execRegisterSnapshotRefresh_leaves {s : State} (hw : Allows W [.sensors, .monRest] := by exact .mono ‹Allows _ _› rfl)
    : Leaves W s (execRegisterSnapshotRefresh s) :=
  onRot_leaves (.ite (.refl _) { Stays.refl s.dev with sensors := hw.may rfl, monRest := hw.may rfl })

theorem signedAny_stays {h x} (hk : Stays W d₀ d) (hw : Allows W [.bootRest, .ready, .custody, .pair, .pairRest, .tdisp, .keys, .session,
    .msgSeq, .spdm, .assocs, .secRest, .lanes, .intakeRest, .regions, .trackers, .weftCmd, .operations, .admRest, .ports, .requests,
    .requestNumbers, .handles, .stopSets, .reqsRest, .sas, .stk, .bob, .retrieval, .fabric, .fences, .lines,
    .checks] := by exact .mono ‹Allows _ _› rfl) : Stays W d₀ (signedAny d h x).2 := by
  unfold signedAny
  split
  · exact signedGateSwitch_stays hk
  · exact signedFence_stays hk
  · exact signedUnfence_stays hk
  · exact signedStackRetire_stays hk
  · exact signedSaOpen_stays hk
  · exact signedSaClose_stays hk
  · exact signedZeroize_stays hk
  · exact signedSelfTest_stays hk
  · exact signedTakeover_stays hk
  · exact signedCustodyEnter_stays hk
  · exact signedReadmit_stays hk
  · exact signedImageSwitch_stays hk

theorem execMctpSigned_leaves {inst h b} {s : State} (hw : Allows W [.bootRest, .ready, .custody, .pair, .pairRest, .tdisp, .keys,
    .session, .msgSeq, .spdm, .assocs, .secRest, .lanes, .intakeRest, .regions, .trackers, .weftCmd, .operations, .admRest, .ports,
    .requests, .requestNumbers, .handles, .stopSets, .reqsRest, .sas, .stk, .bob, .retrieval, .fabric, .fences, .lines,
    .checks] := by exact .mono ‹Allows _ _› rfl) : Leaves W s (execMctpSigned inst h b s) :=
  onDevC_leaves fun hk => .ite (emit_stays (signedAny_stays hk)) hk

theorem execSlotProgram_leaves {inst slot digest} {s : State} : Leaves W s (execSlotProgram inst slot digest s) := by
  unfold execSlotProgram
  dsimp only
  split
  · split
    · exact leaves_next (emit_stays (.refl s.dev))
    · exact leaves_setDev (emit_stays (.refl _))
  · exact leaves_self

theorem execGetTid_leaves {s : State} : Leaves W s (execGetTid s) := onRot_leaves (emit_stays (.refl _))

theorem execGetPdr_leaves {handle} {s : State} : Leaves W s (execGetPdr handle s) :=
  onRot_leaves (.ite (emit_stays (.refl _)) (emit_stays (.refl _)))

theorem execGetPdrRepositoryInfo_leaves {s : State} : Leaves W s (execGetPdrRepositoryInfo s) := onRot_leaves (emit_stays (.refl _))

theorem execGetSensorReading_leaves {id} {s : State} : Leaves W s (execGetSensorReading id s) := onRot_leaves <| by
  split
  · exact emit_stays (.refl _)
  · exact emit_stays (.refl _)

theorem execGetStateSensorReadings_leaves {id} {s : State} : Leaves W s (execGetStateSensorReadings id s) :=
  onDev_leaves fun hk => by
    refine .ite hk ?_
    split
    · exact emit_stays hk
    · exact emit_stays hk

theorem execSetEventReceiver_leaves {eid} {s : State} (hw : Allows W [.sensors] := by exact .mono ‹Allows _ _› rfl)
    : Leaves W s (execSetEventReceiver eid s) :=
    onRot_leaves (emit_stays (by split <;> exact { Stays.refl s.dev with sensors := hw.may rfl }))

theorem sendEvent_stays {sensor state} (hk : Stays W d₀ d) : Stays W d₀ (sendEvent d sensor state) := emit_stays { hk with }

theorem execPlatformEventAcknowledged_leaves {s : State} : Leaves W s (execPlatformEventAcknowledged s) := onRot_leaves <| by
  refine .ite (.refl _) ?_
  split
  · exact { Stays.refl s.dev with }
  · exact sendEvent_stays { Stays.refl s.dev with }

theorem execPlatformEventResend_leaves {s : State} : Leaves W s (execPlatformEventResend s) := onRot_leaves <| by
  split
  · exact .ite (sendEvent_stays (.refl _)) (.refl _)
  · exact .refl _

end

end Sys2Proof.Machine
end

section
/-! # The frame of every command

The table `mayChange` as a set of areas: a part that is an area must be in the table; the areas that no part names are free. What each
command leaves is one case of `exec_leaves`, where the command's footprint is compared with its row. The resets of the device are apart,
as they do not go through the functions of the state. -/

namespace Sys2Proof.Machine

open Sys2Proof

set_option Elab.async false -- each lemma rests on the ones before it: elaborated in order, none of them waits in a thread of its own

/-- The part of the state (Safety.lean) that an area is, where it is one. -/
def Area.part : Area → Option Part
  | .image => some .image
  | .firmware => some .firmware
  | .phase => some .phase
  | .update => some .update
  | .time => some .time
  | .plls => some .plls
  | .ready => some .ready
  | .custody => some .custody
  | .keys => some .keys
  | .session => some .session
  | .msgSeq => some .msgSeq
  | .spdm => some .spdm
  | .sensors => some .sensors
  | .pair => some .pair
  | .link => some .link
  | .config => some .config
  | .tdisp => some .tdisp
  | .doe => some .doe
  | .window => some .window
  | .lanes => some .lanes
  | .taken => some .taken
  | .lines => some .lines
  | .checks => some .checks
  | .regions => some .regions
  | .trackers => some .trackers
  | .weftCmd => some .weftCmd
  | .ports => some .ports
  | .requests => some .requests
  | .requestNumbers => some .requestNumbers
  | .handles => some .handles
  | .stopSets => some .stopSets
  | .fabric => some .fabric
  | .fences => some .fences
  | .retrieval => some .retrieval
  | .operations => some .operations
  | _ => none

/-- The areas that a command may change by the table: those of its parts, and those that are no part. -/
def tableAreas (c : Instr) (a : Area) : Bool := match a.part with
  | some p => (mayChange c).contains p
  | none => true

theorem tableAreas_of_not_mem {c : Instr} {a : Area} {p : Part} (hp : a.part = some p)
    (hc : p ∉ mayChange c) : tableAreas c a = false := by
  simp [tableAreas, hp, hc]

/-- Every area. -/
def allAreas : List Area :=
  [.image, .firmware, .phase, .update, .bootRest, .time, .plls, .clkRest, .ready, .custody, .fltRest, .pair, .pairRest, .link, .config,
      .tdisp, .doe, .hostRest, .keys, .session, .msgSeq, .spdm, .assocs, .secRest, .sensors, .monRest, .window, .lanes, .taken,
      .intakeRest, .regions, .trackers, .weftCmd, .operations, .admRest, .ports, .requests, .requestNumbers, .handles, .stopSets,
      .reqsRest, .sas, .stk, .bob, .retrieval, .fabric, .fences, .lines, .checks]

/-- The areas of a reset with the extent of an image switch: not the firmware, the update and the host link (R751). -/
def switchAreas : List Area := allAreas.filter (fun a => a != .firmware && a != .update && a != .link)

section
variable {W : Area → Bool} {d₀ d e : Dev}

/-! ## The resets of the device -/

theorem deviceReset_stays {trip} (hw : Allows W allAreas) : Stays W d (deviceReset d trip) := by
  constructor
  case out => exact List.suffix_rfl
  case workWf => exact fun _ => rfl
  case windowWf => exact fun _ => rfl
  case mirrorWf => exact fun _ => rfl
  all_goals exact hw.may rfl

theorem switchReset_stays (hw : Allows W switchAreas) : Stays W d (switchReset d) := by
  unfold switchReset
  extract_lets _ _ x y
  have hx : Stays W d x := by
    constructor
    case firmware => exact fun _ => ⟨rfl, rfl, rfl⟩
    case update => exact fun _ => ⟨rfl, rfl, rfl⟩
    case link => exact fun _ => ⟨rfl, rfl, rfl⟩
    case out => exact List.suffix_rfl
    case workWf => exact fun _ => rfl
    case windowWf => exact fun _ => rfl
    case mirrorWf => exact fun _ => rfl
    all_goals exact hw.may rfl
  have hy : Stays W d y := .ite { hx with session := hw.may rfl } (newSession_stays hx (.mono hw rfl))
  exact .ite (post_stays hy (.mono hw rfl)) hy

theorem execPowerOnReset_leaves {s : State} (hw : Allows W allAreas) : Leaves W s (execPowerOnReset s) :=
    leaves_next (deviceReset_stays hw)

theorem execFundamentalReset_leaves {s : State} (hw : Allows W allAreas) : Leaves W s (execFundamentalReset s) :=
  leaves_next (deviceReset_stays hw)

theorem execSystemReset_leaves {ns} {s : State} (hw : Allows W allAreas) : Leaves W s (execSystemReset ns s) :=
  leaves_next (.ite (deviceReset_stays hw) (.refl _))

/-- Good sections are copied into the vault; else the device resets and falls back, or has no image. -/
theorem execVaultSectionsLoad_leaves {ok} {s : State} (hw : Allows W switchAreas) : Leaves W s (execVaultSectionsLoad ok s) := by
  unfold execVaultSectionsLoad
  extract_lets d was got _ d1 d2 d3 fell x
  split
  · exact leaves_self
  · split
    · have h1 : Stays W s.dev d1 := { Stays.refl s.dev with phase := hw.may rfl, bootRest := hw.may rfl }
      have h2 : Stays W s.dev d2 := .getD (fun _ he => mapAll_stays h1 he (.mono hw rfl)) h1
      have hp {x b} (h : Stays W s.dev x) : Stays W s.dev (post x b) := post_stays h (.mono hw rfl)
      exact leaves_next (tellAll_stays (hp (hp (hp h2))))
    · have hx : Stays W s.dev x := switchReset_stays hw
      clear_value x
      exact leaves_setDev (imageFails_stays { hx with bootRest := hw.may rfl } (.mono hw rfl))

theorem norWrite_dev {s : State} {a bs} : (norWrite s a bs).dev = s.dev := rfl

theorem writeRec_dev {s : State} {image rot} : (writeRec s image rot).dev = s.dev := by
  unfold writeRec
  split
  · exact norWrite_dev
  · rfl

theorem switchOver_stays {s : State} {slot} (hw : Allows W (.update :: switchAreas)) : Stays W s.dev (switchOver s slot).dev := by
  have hr : Stays W s.dev (switchReset s.dev) := switchReset_stays (.mono hw rfl)
  unfold switchOver
  dsimp only
  rw [writeRec_dev]
  generalize switchReset s.dev = x at hr
  have h : Stays W s.dev { x with
      sec := { x.sec with updateStaged := false }
      boot := { x.boot with slot := slot, staged := none, switchLoad := true } } :=
    { hr with phase := hw.may rfl, update := hw.may rfl, bootRest := hw.may rfl }
  exact tellAll_stays (.ite h (faultPlain_stays h))

theorem switchOver_setDev_stays {s : State} {slot} (hk : Stays W d₀ d) (hw : Allows W (.update :: switchAreas)) :
    Stays W d₀ (switchOver (s.setDev d) slot).dev :=
  hk.trans (switchOver_stays (s := s.setDev d) hw)

theorem execImageSwitchDrainTimeout_leaves {s : State} (hw : Allows W (.update :: switchAreas)) :
    Leaves W s (execImageSwitchDrainTimeout s) := by
  unfold execImageSwitchDrainTimeout
  split
  · exact leaves_self
  · split
    · exact leaves_next (switchOver_stays hw)
    · exact leaves_self

theorem execActivateFirmware_leaves {s : State} (hw : Allows W (.update :: switchAreas)) : Leaves W s (execActivateFirmware s) := by
  unfold execActivateFirmware
  extract_lets d slot
  clear_value slot
  split
  · exact leaves_self
  · split
    · exact leaves_setDev (pldmFw_stays (.refl _))
    · exact leaves_next (switchOver_setDev_stays (switchStartDo_stays (pldmFw_stays (.refl _)) (.mono hw rfl)) hw)

end

/-! ## Every command -/

/-- A command leaves what the table does not give it. -/
theorem exec_leaves : ∀ (c : Instr) (s : State), Leaves (tableAreas c) s (exec c s)
  | .powerOnReset, _ => execPowerOnReset_leaves ⟨rfl⟩
  | .systemReset _, _ => execSystemReset_leaves ⟨rfl⟩
  | .fundamentalReset, _ => execFundamentalReset_leaves ⟨rfl⟩
  | .vaultSectionsLoad _, _ => execVaultSectionsLoad_leaves ⟨rfl⟩
  | .imageSwitchDrainTimeout, _ => execImageSwitchDrainTimeout_leaves ⟨rfl⟩
  | .activateFirmware, _ => execActivateFirmware_leaves ⟨rfl⟩
  | .endOfReset .., _ => execEndOfReset_leaves (hw := ⟨rfl⟩)
  | .imageLoad .., _ => execImageLoad_leaves (hw := ⟨rfl⟩)
  | .stackTrainingDone .., _ => execStackTrainingDone_leaves (hw := ⟨rfl⟩)
  | .channelScanDone .., _ => execChannelScanDone_leaves (hw := ⟨rfl⟩)
  | .tileSelfTestDone .., _ => execTileSelfTestDone_leaves (hw := ⟨rfl⟩)
  | .referenceLoss, _ => execReferenceLoss_leaves (hw := ⟨rfl⟩)
  | .pllLockLoss .., _ => execPllLockLoss_leaves (hw := ⟨rfl⟩)
  | .pllRelocked .., _ => execPllRelocked_leaves (hw := ⟨rfl⟩)
  | .railMeasurement .., _ => execRailMeasurement_leaves (hw := ⟨rfl⟩)
  | .dieTempSample .., _ => execDieTempSample_leaves (hw := ⟨rfl⟩)
  | .registerWrite .., _ => leaves_self
  | .reqLaneResync .., _ => execReqLaneResync_leaves (hw := ⟨rfl⟩)
  | .secZeroize .., _ => execSecZeroize_leaves (hw := ⟨rfl⟩)
  | .connCreate .., _ => execConnCreate_leaves (hw := ⟨rfl⟩)
  | .connModify .., _ => execConnModify_leaves (hw := ⟨rfl⟩)
  | .connReset .., _ => execConnReset_leaves (hw := ⟨rfl⟩)
  | .connDestroy .., _ => execConnDestroy_leaves (hw := ⟨rfl⟩)
  | .connDestroyDrained .., _ => execConnDestroyDrained_leaves (hw := ⟨rfl⟩)
  | .regionCreate .., _ => execRegionCreate_leaves (hw := ⟨rfl⟩)
  | .regionRevoke .., _ => execRegionRevoke_leaves (hw := ⟨rfl⟩)
  | .regionRevokeDrained .., _ => execRegionRevokeDrained_leaves (hw := ⟨rfl⟩)
  | .lineQueueSetup .., _ => execLineQueueSetup_leaves (hw := ⟨rfl⟩)
  | .lineQueueTeardown .., _ => execLineQueueTeardown_leaves (hw := ⟨rfl⟩)
  | .intakeLaneVisit .., _ => execIntakeLaneVisit_leaves (hw := ⟨rfl⟩)
  | .laneSetup .., _ => execLaneSetup_leaves (hw := ⟨rfl⟩)
  | .ringSetup .., _ => execRingSetup_leaves (hw := ⟨rfl⟩)
  | .ringTeardown .., _ => execRingTeardown_leaves (hw := ⟨rfl⟩)
  | .openReq .., _ => execOpenReq_leaves (hw := ⟨rfl⟩)
  | .prefillDone .., _ => execPrefillDone_leaves (hw := ⟨rfl⟩)
  | .cancel .., _ => execCancel_leaves (hw := ⟨rfl⟩)
  | .step .., _ => execStep_leaves (hw := ⟨rfl⟩)
  | .query .., _ => execQuery_leaves (hw := ⟨rfl⟩)
  | .stopSetDefine .., _ => execStopSetDefine_leaves (hw := ⟨rfl⟩)
  | .stopSetDelete .., _ => execStopSetDelete_leaves (hw := ⟨rfl⟩)
  | .copyRange .., _ => execCopyRange_leaves (hw := ⟨rfl⟩)
  | .copyPages .., _ => execCopyPages_leaves (hw := ⟨rfl⟩)
  | .promote .., _ => execPromote_leaves (hw := ⟨rfl⟩)
  | .header .., _ => execHeader_leaves (hw := ⟨rfl⟩)
  | .locate .., _ => execLocate_leaves (hw := ⟨rfl⟩)
  | .flush .., _ => execFlush_leaves (hw := ⟨rfl⟩)
  | .waitOnly .., _ => execWaitOnly_leaves (hw := ⟨rfl⟩)
  | .check .., _ => execCheck_leaves (hw := ⟨rfl⟩)
  | .checkContinue .., _ => execCheckContinue_leaves (hw := ⟨rfl⟩)
  | .checkCommandDone .., _ => execCheckCommandDone_leaves (hw := ⟨rfl⟩)
  | .stepCommit .., _ => execStepCommit_leaves (hw := ⟨rfl⟩)
  | .hashBlockDone .., _ => execHashBlockDone_leaves (hw := ⟨rfl⟩)
  | .skeinOpen .., _ => execSkeinOpen_leaves (hw := ⟨rfl⟩)
  | .skeinOpenReply .., _ => execSkeinOpenReply_leaves (hw := ⟨rfl⟩)
  | .skeinOpenTimeout .., _ => execSkeinOpenTimeout_leaves (hw := ⟨rfl⟩)
  | .lookup .., _ => execLookup_leaves (hw := ⟨rfl⟩)
  | .lookupReply .., _ => execLookupReply_leaves (hw := ⟨rfl⟩)
  | .prefixFetch .., _ => execPrefixFetch_leaves (hw := ⟨rfl⟩)
  | .landingPageTaken .., _ => execLandingPageTaken_leaves (hw := ⟨rfl⟩)
  | .place .., _ => execPlace_leaves (hw := ⟨rfl⟩)
  | .seal .., _ => execSeal_leaves (hw := ⟨rfl⟩)
  | .abort .., _ => execAbort_leaves (hw := ⟨rfl⟩)
  | .skeinAbortDrained .., _ => execSkeinAbortDrained_leaves (hw := ⟨rfl⟩)
  | .release .., _ => execRelease_leaves (hw := ⟨rfl⟩)
  | .stateReply .., _ => execStateReply_leaves (hw := ⟨rfl⟩)
  | .endingTimeout .., _ => execEndingTimeout_leaves (hw := ⟨rfl⟩)
  | .handoff .., _ => execHandoff_leaves (hw := ⟨rfl⟩)
  | .handoffReply .., _ => execHandoffReply_leaves (hw := ⟨rfl⟩)
  | .handoffTimeout .., _ => execHandoffTimeout_leaves (hw := ⟨rfl⟩)
  | .window .., _ => execWindow_leaves (hw := ⟨rfl⟩)
  | .sealed .., _ => execSealed_leaves (hw := ⟨rfl⟩)
  | .svcCancel .., _ => execSvcCancel_leaves (hw := ⟨rfl⟩)
  | .reqAbort frm _ skein _, _ => execReqAbort_leaves (hw := ⟨rfl⟩) (_frm := frm) (_skein := skein)
  | .shipmentFlushDone .., _ => execShipmentFlushDone_leaves (hw := ⟨rfl⟩)
  | .appendFlushDone .., _ => execAppendFlushDone_leaves (hw := ⟨rfl⟩)
  | .farJob .., _ => execFarJob_leaves (hw := ⟨rfl⟩)
  | .admissionReplyRelease, _ => execAdmissionReplyRelease_leaves (hw := ⟨rfl⟩)
  | .stageComplete .., _ => execStageComplete_leaves (hw := ⟨rfl⟩)
  | .deadlineWatch .., _ => execDeadlineWatch_leaves (hw := ⟨rfl⟩)
  | .heddleScan .., _ => execHeddleScan_leaves (hw := ⟨rfl⟩)
  | .heddleWalk .., _ => execHeddleWalk_leaves (hw := ⟨rfl⟩)
  | .roundCheck .., _ => execRoundCheck_leaves (hw := ⟨rfl⟩)
  | .partialReceived .., _ => execPartialReceived_leaves (hw := ⟨rfl⟩)
  | .runCommandArrival .., _ => execRunCommandArrival_leaves (hw := ⟨rfl⟩)
  | .runCommandEnd .., _ => execRunCommandEnd_leaves (hw := ⟨rfl⟩)
  | .shadowCheckDone .., _ => execShadowCheckDone_leaves (hw := ⟨rfl⟩)
  | .runStallTimeout .., _ => execRunStallTimeout_leaves (hw := ⟨rfl⟩)
  | .runResetDone .., _ => execRunResetDone_leaves (hw := ⟨rfl⟩)
  | .blockCompress .., _ => execBlockCompress_leaves
  | .blockExpand .., _ => execBlockExpand_leaves
  | .layerWalkDone .., _ => execLayerWalkDone_leaves (hw := ⟨rfl⟩)
  | .framePromotionDone .., _ => execFramePromotionDone_leaves (hw := ⟨rfl⟩)
  | .stackReclaim, _ => execStackReclaim_leaves (hw := ⟨rfl⟩)
  | .bobbinReclaim, _ => execBobbinReclaim_leaves (hw := ⟨rfl⟩)
  | .pageDemotionDone .., _ => execPageDemotionDone_leaves (hw := ⟨rfl⟩)
  | .stackTempSample .., _ => execStackTempSample_leaves (hw := ⟨rfl⟩)
  | .stackHotClear, _ => execStackHotClear_leaves (hw := ⟨rfl⟩)
  | .scrubRead .., _ => execScrubRead_leaves (hw := ⟨rfl⟩)
  | .stackCommandTimeout .., _ => execStackCommandTimeout_leaves (hw := ⟨rfl⟩)
  | .stackRetire .., _ => execStackRetire_leaves (hw := ⟨rfl⟩)
  | .stackRetireComplete .., _ => execStackRetireComplete_leaves (hw := ⟨rfl⟩)
  | .bobbinReadAttempt .., _ => execBobbinReadAttempt_leaves (hw := ⟨rfl⟩)
  | .bobbinProgramDone .., _ => execBobbinProgramDone_leaves (hw := ⟨rfl⟩)
  | .bobbinEraseDone .., _ => execBobbinEraseDone_leaves (hw := ⟨rfl⟩)
  | .bobbinGc .., _ => execBobbinGc_leaves (hw := ⟨rfl⟩)
  | .blockRetentionExpiry .., _ => execBlockRetentionExpiry_leaves (hw := ⟨rfl⟩)
  | .targetTimeout .., _ => execTargetTimeout_leaves (hw := ⟨rfl⟩)
  | .sendEntryStart .., _ => execSendEntryStart_leaves (hw := ⟨rfl⟩)
  | .sendWaitTimeout .., _ => execSendWaitTimeout_leaves (hw := ⟨rfl⟩)
  | .write .., _ => execWrite_leaves (hw := ⟨rfl⟩)
  | .send .., _ => execSend_leaves (hw := ⟨rfl⟩)
  | .readReq .., _ => execReadReq_leaves (hw := ⟨rfl⟩)
  | .readResp .., _ => execReadResp_leaves (hw := ⟨rfl⟩)
  | .flushPacket .., _ => execFlushPacket_leaves (hw := ⟨rfl⟩)
  | .ack .., _ => execAck_leaves (hw := ⟨rfl⟩)
  | .sack .., _ => execSack_leaves (hw := ⟨rfl⟩)
  | .nak .., _ => execNak_leaves (hw := ⟨rfl⟩)
  | .probe .., _ => execProbe_leaves (hw := ⟨rfl⟩)
  | .retransmissionTimeout .., _ => execRetransmissionTimeout_leaves (hw := ⟨rfl⟩)
  | .lineRd .., _ => execLineRd_leaves (hw := ⟨rfl⟩)
  | .lineWr .., _ => execLineWr_leaves (hw := ⟨rfl⟩)
  | .rdData .., _ => execRdData_leaves (hw := ⟨rfl⟩)
  | .wrDone .., _ => execWrDone_leaves (hw := ⟨rfl⟩)
  | .lineNak .., _ => execLineNak_leaves (hw := ⟨rfl⟩)
  | .lineQueuePoll .., _ => execLineQueuePoll_leaves (hw := ⟨rfl⟩)
  | .lineRead .., _ => execLineRead_leaves (hw := ⟨rfl⟩)
  | .lineWrite .., _ => execLineWrite_leaves (hw := ⟨rfl⟩)
  | .lineReadResend .., _ => execLineReadResend_leaves (hw := ⟨rfl⟩)
  | .lineDeadTimeout .., _ => execLineDeadTimeout_leaves (hw := ⟨rfl⟩)
  | .ringHeadReadDone .., _ => execRingHeadReadDone_leaves (hw := ⟨rfl⟩)
  | .ringStallTimeout .., _ => execRingStallTimeout_leaves
  | .hostReadCompletion .., _ => execHostReadCompletion_leaves (hw := ⟨rfl⟩)
  | .hostLinkDown, _ => execHostLinkDown_leaves (hw := ⟨rfl⟩)
  | .hostLinkUp .., _ => execHostLinkUp_leaves (hw := ⟨rfl⟩)
  | .vfFunctionLevelReset .., _ => execVfFunctionLevelReset_leaves (hw := ⟨rfl⟩)
  | .pfFunctionLevelReset hot, _ => execPfFunctionLevelReset_leaves (hw := ⟨rfl⟩) (_hot := hot)
  | .msixIntervalExpiry .., _ => execMsixIntervalExpiry_leaves
  | .doeRequest .., _ => execDoeRequest_leaves (hw := ⟨rfl⟩)
  | .doeAbort, _ => execDoeAbort_leaves (hw := ⟨rfl⟩)
  | .lockInterface .., _ => execLockInterface_leaves (hw := ⟨rfl⟩)
  | .stopInterface .., _ => execStopInterface_leaves (hw := ⟨rfl⟩)
  | .getDeviceInterfaceReport .., _ => execGetDeviceInterfaceReport_leaves
  | .tdispInterfaceError .., _ => execTdispInterfaceError_leaves (hw := ⟨rfl⟩)
  | .portTrainingDone .., _ => execPortTrainingDone_leaves (hw := ⟨rfl⟩)
  | .portRetrainTimer .., _ => execPortRetrainTimer_leaves (hw := ⟨rfl⟩)
  | .portLinkLoss .., _ => execPortLinkLoss_leaves (hw := ⟨rfl⟩)
  | .ingressFrame .., _ => execIngressFrame_leaves (hw := ⟨rfl⟩)
  | .neighborSolicitation .., _ => execNeighborSolicitation_leaves
  | .pfcFrame .., _ => execPfcFrame_leaves (hw := ⟨rfl⟩)
  | .pfcXoffRefresh .., _ => execPfcXoffRefresh_leaves (hw := ⟨rfl⟩)
  | .linkWordAck .., _ => execLinkWordAck_leaves (hw := ⟨rfl⟩)
  | .linkWordNack .., _ => execLinkWordNack_leaves (hw := ⟨rfl⟩)
  | .linkWordCredit .., _ => execLinkWordCredit_leaves (hw := ⟨rfl⟩)
  | .linkWordSkip .., _ => execLinkWordSkip_leaves (hw := ⟨rfl⟩)
  | .linkWordLane .., _ => execLinkWordLane_leaves (hw := ⟨rfl⟩)
  | .llrTimeout .., _ => execLlrTimeout_leaves (hw := ⟨rfl⟩)
  | .creditStall .., _ => execCreditStall_leaves (hw := ⟨rfl⟩)
  | .egressFrameStart .., _ => execEgressFrameStart_leaves (hw := ⟨rfl⟩)
  | .gateEntryBoundary .., _ => execGateEntryBoundary_leaves (hw := ⟨rfl⟩)
  | .gateSwitch .., _ => execGateSwitch_leaves (hw := ⟨rfl⟩)
  | .gateSwitchover .., _ => execGateSwitchover_leaves (hw := ⟨rfl⟩)
  | .fence .., _ => execFence_leaves (hw := ⟨rfl⟩)
  | .unfence .., _ => execUnfence_leaves (hw := ⟨rfl⟩)
  | .saOpen .., _ => execSaOpen_leaves (hw := ⟨rfl⟩)
  | .saClose .., _ => execSaClose_leaves (hw := ⟨rfl⟩)
  | .saHello .., _ => execSaHello_leaves (hw := ⟨rfl⟩)
  | .saReply .., _ => execSaReply_leaves (hw := ⟨rfl⟩)
  | .saFinish .., _ => execSaFinish_leaves (hw := ⟨rfl⟩)
  | .saHandshakeTimeout .., _ => execSaHandshakeTimeout_leaves (hw := ⟨rfl⟩)
  | .zeroize .., _ => execZeroize_leaves (hw := ⟨rfl⟩)
  | .selfTest .., _ => execSelfTest_leaves (hw := ⟨rfl⟩)
  | .entropyHealthFailure, _ => execEntropyHealthFailure_leaves (hw := ⟨rfl⟩)
  | .takeover .., _ => execTakeover_leaves (hw := ⟨rfl⟩)
  | .takeoverRelease .., _ => execTakeoverRelease_leaves (hw := ⟨rfl⟩)
  | .custodyEnter .., _ => execCustodyEnter_leaves (hw := ⟨rfl⟩)
  | .readmit .., _ => execReadmit_leaves (hw := ⟨rfl⟩)
  | .readmitChecksDone .., _ => execReadmitChecksDone_leaves (hw := ⟨rfl⟩)
  | .imageSwitch .., _ => execImageSwitch_leaves (hw := ⟨rfl⟩)
  | .imageSwitchWindowEnd, _ => execImageSwitchWindowEnd_leaves (hw := ⟨rfl⟩)
  | .getVersion, _ => execGetVersion_leaves (hw := ⟨rfl⟩)
  | .getCapabilities, _ => execGetCapabilities_leaves
  | .negotiateAlgorithms, _ => execNegotiateAlgorithms_leaves (hw := ⟨rfl⟩)
  | .getDigests, _ => execGetDigests_leaves
  | .getCertificate .., _ => execGetCertificate_leaves
  | .challenge, _ => execChallenge_leaves
  | .getMeasurements .., _ => execGetMeasurements_leaves
  | .keyExchange, _ => execKeyExchange_leaves (hw := ⟨rfl⟩)
  | .finish .., _ => execFinish_leaves (hw := ⟨rfl⟩)
  | .keyUpdate .., _ => execKeyUpdate_leaves
  | .spdmHeartbeat .., _ => execSpdmHeartbeat_leaves
  | .endSession .., _ => execEndSession_leaves (hw := ⟨rfl⟩)
  | .vendorDefinedRequest .., _ => execVendorDefinedRequest_leaves (hw := ⟨rfl⟩)
  | .regRead .., _ => execRegRead_leaves
  | .mctpSigned .., _ => execMctpSigned_leaves (hw := ⟨rfl⟩)
  | .slotProgram .., _ => execSlotProgram_leaves
  | .registerSnapshotRefresh, _ => execRegisterSnapshotRefresh_leaves (hw := ⟨rfl⟩)
  | .getTid, _ => execGetTid_leaves
  | .getPdr .., _ => execGetPdr_leaves
  | .getPdrRepositoryInfo, _ => execGetPdrRepositoryInfo_leaves
  | .getSensorReading .., _ => execGetSensorReading_leaves
  | .getStateSensorReadings .., _ => execGetStateSensorReadings_leaves
  | .setEventReceiver .., _ => execSetEventReceiver_leaves (hw := ⟨rfl⟩)
  | .platformEventAcknowledged, _ => execPlatformEventAcknowledged_leaves
  | .platformEventResend, _ => execPlatformEventResend_leaves
  | .requestUpdate .., _ => execRequestUpdate_leaves (hw := ⟨rfl⟩)
  | .verifyComplete .., _ => execVerifyComplete_leaves (hw := ⟨rfl⟩)
  | .applyComplete, _ => execApplyComplete_leaves (hw := ⟨rfl⟩)
  | .watchdogExpiry .., _ => execWatchdogExpiry_leaves (hw := ⟨rfl⟩)
  | .controlCoreResetDone, _ => execControlCoreResetDone_leaves (hw := ⟨rfl⟩)
  | .heartbeatSend, _ => execHeartbeatSend_leaves (hw := ⟨rfl⟩)
  | .heartbeat .., _ => execHeartbeat_leaves (hw := ⟨rfl⟩)
  | .partnerLoss, _ => execPartnerLoss_leaves (hw := ⟨rfl⟩)
  | .mirror .., _ => execMirror_leaves (hw := ⟨rfl⟩)
  | .mack .., _ => execMack_leaves (hw := ⟨rfl⟩)
  | .resyncDone .., _ => execResyncDone_leaves (hw := ⟨rfl⟩)
  | .coalesceNextAllowed .., _ => execCoalesceNextAllowed_leaves
  | .coalesceFullReport, _ => execCoalesceFullReport_leaves
  | .intakeWindowWrite .., _ => execIntakeWindowWrite_leaves (hw := ⟨rfl⟩)
  | .startInterface .., _ => execStartInterface_leaves (hw := ⟨rfl⟩)
  | .referenceEdge, _ => execReferenceEdge_leaves (hw := ⟨rfl⟩)
  | .pcieConfigurationWrite .., _ => execPcieConfigurationWrite_leaves (hw := ⟨rfl⟩)
  | .msixVectorUnmask .., _ => execMsixVectorUnmask_leaves
  | .pauseExpiry .., _ => execPauseExpiry_leaves (hw := ⟨rfl⟩)
  | .componentWrite .., _ => execComponentWrite_leaves

end Sys2Proof.Machine
end

section
/-! # The frame statements, and the memories over every step -/

namespace Sys2Proof.Machine

open Sys2Proof

set_option Elab.async false -- each lemma rests on the ones before it: elaborated in order, none of them waits in a thread of its own

/-- Settles O52: no command's footprint holds an area of the root of trust that the table does not give it. -/
theorem rootOfTrustFrame : Obligations.RootOfTrustFrame := by
  unfold Obligations.RootOfTrustFrame
  intro c s t ht
  have h := exec_leaves c s t ht
  have hout {a : Area} {p : Part} (hp : a.part = some p) (hc : p ∉ mayChange c) := tableAreas_of_not_mem hp hc
  exact ⟨fun hc => h.image (hout rfl hc), fun hc => h.firmware (hout rfl hc), fun hc => h.phase (hout rfl hc),
    fun hc => h.update (hout rfl hc), fun hc => h.time (hout rfl hc), fun hc => h.plls (hout rfl hc), fun hc => h.ready (hout rfl hc),
    fun hc => h.custody (hout rfl hc), fun hc => h.keys (hout rfl hc), fun hc => h.session (hout rfl hc),
    fun hc => h.msgSeq (hout rfl hc), fun hc => h.spdm (hout rfl hc), fun hc => h.sensors (hout rfl hc)⟩

/-- Settles O53: no command's footprint holds an area of the host side or of the intake that the table does not give it. -/
theorem hostAndIntakeFrame : Obligations.HostAndIntakeFrame := by
  unfold Obligations.HostAndIntakeFrame
  intro c s t ht
  have h := exec_leaves c s t ht
  have hout {a : Area} {p : Part} (hp : a.part = some p) (hc : p ∉ mayChange c) := tableAreas_of_not_mem hp hc
  exact ⟨fun hc => h.link (hout rfl hc), fun hc => h.config (hout rfl hc), fun hc => h.tdisp (hout rfl hc), fun hc => h.doe (hout rfl hc),
    fun hc a => by rw [h.window (hout rfl hc)], fun hc => h.lanes (hout rfl hc), fun hc => h.taken (hout rfl hc),
    fun hc => h.lines (hout rfl hc), fun hc => h.checks (hout rfl hc)⟩

/-- Settles O54: no command's footprint holds an area of the transport, of the ports or of the pair that the table does not give it. -/
theorem transportFrame : Obligations.TransportFrame := by
  unfold Obligations.TransportFrame
  intro c s t ht
  have h := exec_leaves c s t ht
  have hout {a : Area} {p : Part} (hp : a.part = some p) (hc : p ∉ mayChange c) := tableAreas_of_not_mem hp hc
  exact ⟨fun hc => h.regions (hout rfl hc), fun hc => h.trackers (hout rfl hc), fun hc => h.weftCmd (hout rfl hc),
    fun hc => h.ports (hout rfl hc), fun hc => h.pair (hout rfl hc)⟩

/-- Settles O56: no command's footprint holds an area of the requests or of the engines that the table does not give it. -/
theorem requestAndEngineFrame : Obligations.RequestAndEngineFrame := by
  unfold Obligations.RequestAndEngineFrame
  intro c s t ht
  have h := exec_leaves c s t ht
  have hout {a : Area} {p : Part} (hp : a.part = some p) (hc : p ∉ mayChange c) := tableAreas_of_not_mem hp hc
  exact ⟨fun hc => h.requests (hout rfl hc), fun hc => h.requestNumbers (hout rfl hc), fun hc => h.handles (hout rfl hc),
    fun hc => h.stopSets (hout rfl hc), fun hc => h.fabric (hout rfl hc), fun hc => h.fences (hout rfl hc),
    fun hc => h.retrieval (hout rfl hc), fun hc => h.operations (hout rfl hc)⟩

/-! ## The memories -/

/-- A command that burns fuses leaves the NOR; the others write it byte by byte. -/
theorem exec_norWf {c : Instr} {s t : State} (h : exec c s = .next t) (hn : memWf 0xFF s.nor = true) : memWf 0xFF t.nor = true := by
  have hother (hs : ∀ a b d, c ≠ .slotProgram a b d) (hv : ∀ a, c ≠ .vaultSectionsLoad a) : memWf 0xFF t.nor = true :=
    (exec_flashes c hs hv t h).norWf hn
  cases c with
  | slotProgram => exact (execSlotProgram_burns h).nor ▸ hn
  | vaultSectionsLoad => exact (execVaultSectionsLoad_burns h).nor ▸ hn
  | _ => exact hother (fun _ _ _ => nofun) (fun _ => nofun)

/-- Settles O57: an idle step leaves the memories; every command writes the three of the device with `memWrite`, frees and clears
with a filter, or empties them. -/
theorem memoriesStayCanonical : Obligations.MemoriesStayCanonical := by
  unfold Obligations.MemoriesStayCanonical
  intro s t ht hn hw hi hm
  unfold step at ht
  split at ht
  · obtain rfl := Host.Outcome.next.inj ht
    have h : Stays (fun _ => true) s.dev (idleTick s.dev) := idleTick_stays (.refl _) ⟨rfl⟩
    exact ⟨hn, h.workWf hw, h.windowWf hi, h.mirrorWf hm⟩
  next c rest _ =>
    have h := exec_leaves c { s with pending := rest } t ht
    exact ⟨exec_norWf ht hn, h.workWf hw, h.windowWf hi, h.mirrorWf hm⟩

end Sys2Proof.Machine
end

section
/-! # What stays, named by its areas -/

namespace Sys2Proof.Machine

open Sys2Proof

set_option Elab.async false -- each lemma rests on the ones before it

/-- The areas of a list. -/
def among (l : List Area) (a : Area) : Bool := l.contains a

section
variable {s : State} {d e : Dev}

theorem collect_among (d : Dev) : Stays (among [.sas, .bob]) d (collect d) := collect_stays (.refl d) ⟨rfl⟩

theorem onDevC_next {f : Dev → Dev} : onDevC f s = .next (s.setDev (collect (f s.dev))) := rfl

theorem onDev_of_eq {f : Dev → Dev} (h : f s.dev = e) : onDev f s = .next (s.setDev e) := h ▸ rfl

theorem onDevC_of_eq {f : Dev → Dev} (h : f s.dev = e) : onDevC f s = .next (s.setDev (collect e)) := h ▸ rfl

theorem tellAll_among (was d : Dev) : Stays (among []) d (tellAll was d) := tellAll_stays (.refl d)

theorem faultPlain_among (d : Dev) (cause d0 d1 : Nat) : Stays (among []) d (faultPlain d cause d0 d1) := faultPlain_stays (.refl d)

theorem isReady_congr (h : e.ready = d.ready) (b : Nat) : isReady e b = isReady d b := by rw [isReady, isReady, h]

/-- The request block is its areas. -/
theorem Stays.reqs_eq {W : Area → Bool} (h : Stays W d e) (h1 : W .requests = false) (h2 : W .requestNumbers = false)
    (h3 : W .handles = false) (h4 : W .stopSets = false) (h5 : W .reqsRest = false) : e.reqs = d.reqs := by
  have hl := h.requests h1
  have hn := h.requestNumbers h2
  have hh := h.handles h3
  have hs := h.stopSets h4
  have hr := h.reqsRest h5
  cases hd : d.reqs
  cases he : e.reqs
  simp_all

/-- Posting a bit keeps those that are posted. -/
theorem isReady_post_of {b c : Nat} (h : isReady d c) : isReady (post d b) c := by
  by_cases hb : c = b
  · rw [hb]
    exact isReady_post_same d b
  · unfold isReady post at *
    simp only [bitOf_eq_testBit] at *
    split
    · exact h
    next hn =>
      have hm : (d.ready + 2 ^ b).testBit b = true := by rw [Nat.add_comm, Nat.testBit_two_pow_add_eq]; simpa using hn
      simpa [hb, h] using testBit_sub_two_pow hm c

/-! ## Signed messages -/

theorem onSigned_next {g : Dev → Nat × Dev} {st : Nat} (hrot : rotRuns s.dev) (hg : g s.dev = (st, e)) :
    onSigned g s = .next (s.setDev (collect (emit e (.signedStatus st)))) :=
  onDevC_of_eq (by simp only [hrot, if_true, hg])

/-- A signed message is answered with its status, on the device that its effect left. -/
theorem onSigned_answered {g : Dev → Nat × Dev} {st : Nat} (hrot : rotRuns s.dev) (hg : g s.dev = (st, e)) :
    ∃ t, onSigned g s = .next (s.setDev t) ∧ Stays (among [.sas, .bob]) e t ∧ Out.signedStatus st ∈ t.out := by
  have hc := collect_among (emit e (.signedStatus st))
  exact ⟨_, onSigned_next hrot hg, (emit_stays (.refl e)).trans hc, hc.out.subset List.mem_cons_self⟩

theorem msgAccepted_among (d : Dev) (h : SigHdr) : Stays (among [.msgSeq]) d (msgAccepted d h) :=
  ctrInc_stays { Stays.refl d with msgSeq := fun hw => nomatch hw }

end

end Sys2Proof.Machine
end

section
/-! # Bring-up (R717, R719, R732 to R737, R741) -/

namespace Sys2Proof.Machine

open Sys2Proof

set_option Elab.async false -- each lemma rests on the ones before it

section
variable {s : State} {d : Dev}

theorem execEndOfReset_good {tap fw0 fw1 : Bool} (hp : s.dev.boot.phase = .inReset)
    (hok : (if activeSlot s 1 = 0 then fw0 else fw1) = true) :
    execEndOfReset tap true fw0 fw1 { castOk := true, entropyOk := true } s = .next (s.setDev (newSession { s.dev with
      boot := { s.dev.boot with
        tapEn := tap
        phase := .awaitImage
        fwSlot := activeSlot s 1
        slot := activeSlot s 0
        measureFw := sha3_512 (norRead s (fwBase (activeSlot s 1)) 0x100000) } })) := by
  unfold execEndOfReset
  simp only [hp, hok, Bool.true_and, Bool.not_true, Bool.false_and, bne_self_eq_false, Bool.false_eq_true, if_false, if_true]

theorem endOfReset_completes {tap fw0 fw1 : Bool} (hp : s.dev.boot.phase = .inReset)
    (hok : (if activeSlot s 1 = 0 then fw0 else fw1) = true) :
    Completes (.endOfReset tap true fw0 fw1 { castOk := true, entropyOk := true }) s (fun d =>
      d.boot.phase = .awaitImage ∧ d.boot.measureFw = sha3_512 (norRead s (fwBase (activeSlot s 1)) 0x100000) ∧
      d.boot.slot = activeSlot s 0 ∧ d.sec.session = Config.drbg s.dev.free ∧ d.sec.cryptoReady ∧ d.sec.msgSeq = 0) := by
  exact ⟨_, execEndOfReset_good hp hok, rfl, rfl, rfl, rfl, rfl, rfl⟩

/-- The sections that take effect, before bits are posted, runs built and ports started. -/
def withPlain (s : State) (d : Dev) (t : Tbl Nat) : Dev :=
  { d with
    img := t
    boot := { d.boot with
      phase := .awaitVault
      roles := fld (signedPart s d.boot.slot) 7 2 0
      commit := fld (signedPart s d.boot.slot) 0x0D 2 2 == 1
      revoke := fld (signedPart s d.boot.slot) 0x0D 6 3
      sections := (dirSections (signedPart s d.boot.slot)).filter (·.vault)
      mgrKeys := (secOf s d.boot.slot 2).getD []
      peers := (secOf s d.boot.slot 3).getD []
      flash := (secOf s d.boot.slot 4).getD []
      measureImg := manifestDigest s d.boot.slot
      aliasFormed := d.sec.keys } }

/-- What takes effect beside the sections. -/
theorem applyPlain_changes {W : Area → Bool} (s : State) (d : Dev) (t : Tbl Nat) (hw : Allows W [.ready, .pair, .ports, .stk, .fabric]) :
    Stays W (withPlain s d t) (applyPlain s d t) := by
  unfold applyPlain
  extract_lets d1 _ _ _ d2 d3 d4 d5 _ d6
  have h2 : Stays W (withPlain s d t) d2 := .refl _
  have h3 : Stays W (withPlain s d t) d3 := .ite (post_stays (post_stays h2)) h2
  have h4 : Stays W (withPlain s d t) d4 := .foldl (fun _ _ k => .foldl (fun _ _ k => dieCheck_stays k) k) h3
  have h5 : Stays W (withPlain s d t) d5 := .foldl (fun _ _ k => startPort_stays k) (buildRuns_stays h4)
  have h6 : Stays W (withPlain s d t) d6 := .ite { h5 with pair := hw.may rfl } h5
  exact tellAll_stays h6

/-- The device without an image, before it is reported. -/
def withoutImage (d : Dev) : Dev :=
  { d with
    ready := bit1 (isReady d rbPcie)
    boot := { d.boot with
      phase := .noImage
      roles := 0
      measureImg := zeroBytes 64
      aliasFormed := d.sec.keys } }

theorem noImage_among (d : Dev) (cause : Nat) : Stays (among []) (withoutImage d) (noImage d cause) :=
  tellAll_stays (faultPlain_stays (.refl _))

/-- The device with the other slot to try, before that is reported. -/
def withOther (d : Dev) : Dev := { d with boot := { d.boot with slot := 1 - d.boot.slot, fallback := true } }

/-- After a switch or an earlier failure there is no other slot to try (R736, R750). -/
theorem imageFails_last (h : d.boot.switchLoad ∨ d.boot.fallback) : Stays (among []) (withoutImage d) (imageFails d) := by
  unfold imageFails
  split
  · exact noImage_among ..
  next hs => rw [if_pos (h.resolve_left hs)]; exact noImage_among ..

/-- Else the other slot is tried. -/
theorem imageFails_first (h : ¬(d.boot.switchLoad ∨ d.boot.fallback)) : Stays (among []) (withOther d) (imageFails d) := by
  obtain ⟨hs, hf⟩ := not_or.mp h
  unfold imageFails
  rw [if_neg hs, if_neg hf]
  exact tellAll_stays (faultPlain_stays (.refl _))

theorem tryImage_good {sig : Bool} {t : Tbl Nat} (hm : manifestOk s d.boot.slot sig) (ht : plainSections s d.boot.slot = some t) :
    tryImage s sig d = applyPlain s d t := by
  simp [tryImage, hm, ht]

theorem tryImage_bad {sig : Bool} (h : ∀ t, ¬(manifestOk s d.boot.slot sig ∧ plainSections s d.boot.slot = some t)) :
    tryImage s sig d = imageFails d := by
  unfold tryImage
  split
  next hm =>
    split
    next t ht => exact absurd ⟨hm, ht⟩ (h t)
    · rfl
  · rfl

theorem imageLoad_completes {sig0 sig1 : Bool} (hp : s.dev.boot.phase = .awaitImage) :
    let here := s.dev.boot.slot
    let good (k : Nat) (t : Tbl Nat) : Prop := manifestOk s k (if k = 0 then sig0 else sig1) ∧ plainSections s k = some t
    Completes (.imageLoad sig0 sig1) s (fun d =>
      (∀ t, good here t → d.boot.phase = .awaitVault ∧ d.img = t ∧ d.boot.roles = fld (signedPart s here) 7 2 0 ∧
        d.boot.measureImg = manifestDigest s here) ∧
      ((∀ t, ¬good here t ∧ ¬good (1 - here) t) → d.boot.phase = .noImage ∧ d.boot.roles = 0 ∧ d.img = s.dev.img ∧
        d.boot.measureImg = zeroBytes 64)) := by
  intro here good
  refine ⟨_, show execImageLoad sig0 sig1 s = _ from if_neg (by simp [hp]), fun t ht => ?_, fun hbad => ?_⟩
  · obtain ⟨hm, hs⟩ := ht
    have h := applyPlain_changes (W := among [.ready, .pair, .ports, .stk, .fabric]) s s.dev t ⟨rfl⟩
    obtain ⟨himg, -, -, -, hmeasure, hroles, -⟩ := h.image rfl
    have hphase : (applyPlain s s.dev t).boot.phase = .awaitVault := (h.phase rfl).1
    rw [tryImage_good hm hs, if_neg (by simp [hphase])]
    exact ⟨hphase, himg, hroles, hmeasure⟩
  · have hnone {d : Dev} (h : Stays (among []) (withoutImage d) (imageFails d)) (hi : d.img = s.dev.img) :
        (imageFails d).boot.phase = .noImage ∧ (imageFails d).boot.roles = 0 ∧ (imageFails d).img = s.dev.img ∧
          (imageFails d).boot.measureImg = zeroBytes 64 := by
      obtain ⟨himg, -, -, -, hmeasure, hroles, -⟩ := h.image rfl
      exact ⟨(h.phase rfl).1, hroles, himg.trans hi, hmeasure⟩
    rw [tryImage_bad fun t => (hbad t).1]
    by_cases hl : s.dev.boot.switchLoad ∨ s.dev.boot.fallback
    · have h := hnone (imageFails_last hl) rfl
      rw [if_neg (by simp [h.1])]
      exact h
    · have h := imageFails_first hl
      have hslot : (imageFails s.dev).boot.slot = 1 - here := (h.phase rfl).2
      have hphase : (imageFails s.dev).boot.phase = .awaitImage := (h.phase rfl).1.trans hp
      have hfall : (imageFails s.dev).boot.fallback = true := (h.bootRest rfl).1
      rw [if_pos (by simp [hphase]), tryImage_bad fun t => by simpa only [hslot] using (hbad t).2]
      exact hnone (imageFails_last (.inr hfall)) (h.image rfl).1

theorem burn_deployed {f : Fuses} {b : Boot} {n : Nat} : (burn f b n).deployed = true := by
  unfold burn
  dsimp only
  split <;> rfl

/-- Once the vault has its sections, the image runs: CORES, IMAGE and INTAKE post. -/
theorem imageRuns {was x : Dev} (hx : Stays (among [.sas, .stk, .bob]) d x) :
    let e := tellAll was (post (post (post x rbCores) rbImage) rbIntake)
    e.boot.phase = d.boot.phase ∧ isReady e rbCores ∧ isReady e rbImage ∧ isReady e rbIntake ∧ e.img = d.img := by
  have ht := tellAll_among was (post (post (post x rbCores) rbImage) rbIntake)
  refine ⟨(ht.phase rfl).1.trans (hx.phase rfl).1, ?_, ?_, ?_, (ht.image rfl).1.trans (hx.image rfl).1⟩ <;>
    rw [isReady_congr (ht.ready rfl)]
  · exact isReady_post_of (isReady_post_of (isReady_post_same ..))
  · exact isReady_post_of (isReady_post_same ..)
  · exact isReady_post_same ..

theorem vaultSectionsLoad_completes {sig : Bool} (hp : s.dev.boot.phase = .awaitVault)
    (hstk : 6 ≤ ((List.range 12).filter (fun n => isReady s.dev (rbStack n))).length) (hv : vaultSections s s.dev.boot.slot sig) :
    CompletesAs (.vaultSectionsLoad sig) s (fun t =>
      t.pending = s.pending ∧ t.nor = s.nor ∧ t.fuses.deployed ∧ t.fuses.slots = s.fuses.slots ∧
      t.dev.boot.phase = .running ∧ isReady t.dev rbCores ∧ isReady t.dev rbImage ∧ isReady t.dev rbIntake ∧ t.dev.img = s.dev.img) := by
  exact ⟨_, show execVaultSectionsLoad sig s = _ from (if_neg (by simp [hp]; omega)).trans (if_pos hv), rfl, rfl, burn_deployed,
    burn_slots .., imageRuns (.getD (fun _ he => mapAll_stays (.refl _) he ⟨rfl⟩) (.refl _))⟩

theorem tileSelfTestDone_completes {g : Nat} {ts : List Nat} (hp : s.dev.boot.phase = .running) (hg : g < 16)
    (hr : isReady s.dev (rbTiles g) = false) :
    Completes (.tileSelfTestDone g ts) s (fun d => isReady d (rbTiles g) ∧ d.img = s.dev.img ∧ d.reqs = s.dev.reqs) := by
  have hnew := (execTileSelfTestDone_leaves (W := among [.ready, .sas, .bob, .fabric]) (group := g) (failed := ts) (s := s) ⟨rfl⟩) _ rfl
  refine ⟨_, rfl, (isReady_congr ((collect_among _).ready rfl) _).trans ?_, (hnew.image rfl).1, hnew.reqs_eq rfl rfl rfl rfl rfl⟩
  dsimp only
  rw [if_neg (by simp [hp, hr]; omega)]
  exact isReady_post_same ..

/-- Settles O9: each step of bring-up as the functions of Boot.lean give it; reports and posted bits leave the rest. -/
theorem bringUpCommandsComplete : Obligations.BringUpCommandsComplete := by
  unfold Obligations.BringUpCommandsComplete
  exact fun s => ⟨fun _ _ _ => endOfReset_completes, fun _ _ => imageLoad_completes, fun _ => vaultSectionsLoad_completes,
    fun _ _ => tileSelfTestDone_completes⟩

end

end Sys2Proof.Machine
end

section
/-! # The image switch (R749 to R751) -/

namespace Sys2Proof.Machine

open Sys2Proof

set_option Elab.async false -- each lemma rests on the ones before it

section
variable {s : State} {d : Dev}

/-- The start of a switch is marked in the boot block; service stops and the change of the sensors is told. -/
theorem switchStartDo_marks (d : Dev) (slot : Nat) :
    (switchStartDo d slot).boot.switchTo = some slot ∧ (switchStartDo d slot).boot.switchStart = now d ∧
      (switchStartDo d slot).sec.switching := by
  unfold switchStartDo
  extract_lets _ d1
  have hk := tellAll_among d { d1 with
    sec := { d1.sec with switching := true }
    boot := { d1.boot with switchTo := some slot, switchStart := now d, switchPast := 0 } }
  obtain ⟨-, -, -, -, -, hto, hstart, -⟩ := hk.bootRest rfl
  obtain ⟨hsw, -⟩ := hk.secRest rfl
  exact ⟨hto, hstart, hsw⟩

theorem imageSwitch_completes {h : SigHdr} {slot v : Nat} (hrot : rotRuns s.dev) (hcheck : signedCheck s.dev h qImage = St.ok)
    (hsw : s.dev.sec.switching = false) (hup : s.dev.sec.updateStaged) (hst : s.dev.boot.staged = some (slot, v))
    (hu : s.dev.boot.updating = none) :
    Completes (.imageSwitch h slot v) s (fun d => Out.signedStatus St.ok ∈ d.out ∧
      d.boot.switchTo = some slot ∧ d.boot.switchStart = now s.dev ∧ d.sec.switching) := by
  have hown : switchRefusal s.dev slot v = St.ok := by simp [switchRefusal, hup, hst, hu, hsw]
  obtain ⟨t, ht, hk, hout⟩ := onSigned_answered (g := fun d => signedImageSwitch d h slot v) hrot (signedDo_accepted hcheck hsw hown)
  obtain ⟨hto, hstart, hswitching⟩ := switchStartDo_marks (msgAccepted s.dev h) slot
  obtain ⟨-, -, -, -, -, hto', hstart', -⟩ := hk.bootRest rfl
  obtain ⟨hswitching', -⟩ := hk.secRest rfl
  exact ⟨t, ht, hout, hto'.trans hto, hstart'.trans (hstart.trans ((msgAccepted_among s.dev h).time rfl)),
    hswitching'.trans hswitching⟩

/-- What a reset with the extent of a switch starts anew. -/
theorem switchReset_fresh (d : Dev) :
    (switchReset d).boot.phase = .awaitImage ∧ (switchReset d).boot.switchTo = none ∧ (switchReset d).clk.now = 0 ∧
      (switchReset d).reqs = {} ∧ (switchReset d).sas = {} := by
  unfold switchReset
  extract_lets _ _ x y
  have hy : y.boot.phase = .awaitImage ∧ y.boot.switchTo = none ∧ y.clk.now = 0 ∧ y.reqs = {} ∧ y.sas = {} := by
    unfold y
    split <;> exact ⟨rfl, rfl, rfl, rfl, rfl⟩
  clear_value y
  split
  · exact hy
  · exact hy

/-- The device reset into a slot, before that is reported. -/
def switchedOver (d : Dev) (slot : Nat) : Dev :=
  { switchReset d with
    sec := { (switchReset d).sec with updateStaged := false }
    boot := { (switchReset d).boot with slot := slot, staged := none, switchLoad := true } }

theorem switchOver_among (s : State) (slot : Nat) : Stays (among []) (switchedOver s.dev slot) (switchOver s slot).dev := by
  unfold switchOver
  dsimp only
  rw [writeRec_dev]
  exact tellAll_stays (.ite (.refl _) (faultPlain_stays (.refl _)))

theorem imageSwitchDrainTimeout_completes {slot : Nat} (hto : s.dev.boot.switchTo = some slot)
    (hdue : undelivered s.dev = 0 ∨ s.dev.boot.switchStart + 50000000 ≤ now s.dev) :
    CompletesAs .imageSwitchDrainTimeout s (fun t => t.fuses = s.fuses ∧ t.pending = s.pending ∧
      t.dev.boot.phase = .awaitImage ∧ t.dev.boot.slot = slot ∧ t.dev.boot.switchTo = none ∧ t.dev.clk.now = 0 ∧
      t.dev.reqs = {} ∧ t.dev.sas = {} ∧ t.dev.sec.updateStaged = false) := by
  have hnext : execImageSwitchDrainTimeout s = .next (switchOver s slot) := by
    unfold execImageSwitchDrainTimeout
    rw [hto]
    exact if_pos (by simpa using hdue)
  obtain ⟨hphase, hnone, hnow, hreqs, hsas⟩ := switchReset_fresh s.dev
  have hk := switchOver_among s slot
  obtain ⟨hphase', hslot⟩ := hk.phase rfl
  obtain ⟨-, -, -, -, -, hnone', -⟩ := hk.bootRest rfl
  obtain ⟨-, -, hstaged⟩ := hk.update rfl
  exact ⟨_, hnext, switchOver_fuses, switchOver_flashed.pending, hphase'.trans hphase, hslot, hnone'.trans hnone,
    (hk.time rfl).trans hnow, (hk.reqs_eq rfl rfl rfl rfl rfl).trans hreqs, (hk.sas rfl).trans hsas, hstaged⟩

theorem tellAll_reports (was d : Dev) : Reports d (tellAll was d) := by
  unfold tellAll
  exact .ite ((tellSensors_reports ..).trans (pldmChange_reports ..)) (tellSensors_reports ..)

theorem imageSwitchWindowEnd_completes (hsw : s.dev.sec.switching) (hto : s.dev.boot.switchTo = none)
    (hin : isReady s.dev rbImage ∨ s.dev.boot.phase = .noImage) :
    Completes .imageSwitchWindowEnd s (fun d => d.sec.switching = false ∧ d.sec.sessions = [] ∧ d.boot = s.dev.boot) := by
  have hend : execImageSwitchWindowEnd s =
      .next (s.setDev (tellAll s.dev { s.dev with sec := { s.dev.sec with switching := false, sessions := [] } })) :=
    onDev_of_eq (if_pos (by simpa [hsw, hto] using hin))
  have hk := tellAll_among s.dev { s.dev with sec := { s.dev.sec with switching := false, sessions := [] } }
  obtain ⟨hsw', -⟩ := hk.secRest rfl
  obtain ⟨hses, -⟩ := hk.spdm rfl
  exact ⟨_, hend, hsw', hses, (tellAll_reports ..).boot⟩

/-- Settles O10: the start and the end of a switch are marks that reports leave; its reset is `switchReset`, whose fields are read off. -/
theorem imageSwitchCompletes : Obligations.ImageSwitchCompletes := by
  unfold Obligations.ImageSwitchCompletes
  exact fun s => ⟨fun _ _ _ => imageSwitch_completes, fun _ => imageSwitchDrainTimeout_completes, imageSwitchWindowEnd_completes⟩

end

end Sys2Proof.Machine
end

section
/-! # Custody and readmission (R709, R713, R714) -/

namespace Sys2Proof.Machine

open Sys2Proof

set_option Elab.async false -- each lemma rests on the ones before it

section
variable {s : State} {d e : Dev} {h : SigHdr}

/-! ## Custody by a signed message -/

theorem custodyEnterDo_enters (hc : d.flt.custody = .normal) :
    (custodyEnterDo d).flt.custody = .custody ∧ (custodyEnterDo d).flt.trigger = 0xA13 := by
  have hk : Stays (among []) d (detectDevice d 0xA13 0 0) := detectDevice_stays (.refl d)
  obtain ⟨hcus, htrig, -⟩ := enterCustody_enters ((hk.custody rfl).1.trans hc) 0xA13
  exact ⟨hcus, htrig⟩

theorem signedCustodyEnter_accepted (hcheck : signedCheck d h qCustody = St.ok) (hsw : d.sec.switching = false)
    (hc : d.flt.custody = .normal) :
    ∃ e, signedCustodyEnter d h = (St.ok, e) ∧ e.flt.custody = .custody ∧ e.flt.trigger = 0xA13 :=
  ⟨_, signedDo_accepted hcheck hsw rfl, custodyEnterDo_enters (((msgAccepted_among d h).custody rfl).1.trans hc)⟩

theorem custodyEnter_completes (hrot : rotRuns s.dev) (hcheck : signedCheck s.dev h qCustody = St.ok)
    (hsw : s.dev.sec.switching = false) (hc : s.dev.flt.custody = .normal) :
    Completes (.custodyEnter h) s (fun d => d.flt.custody = .custody ∧ d.flt.trigger = 0xA13 ∧ Out.signedStatus St.ok ∈ d.out) := by
  obtain ⟨e, hg, hcus, htrig⟩ := signedCustodyEnter_accepted hcheck hsw hc
  obtain ⟨t, ht, hk, hout⟩ := onSigned_answered (g := fun d => signedCustodyEnter d h) hrot hg
  obtain ⟨hcus', htrig', -⟩ := hk.custody rfl
  exact ⟨t, ht, hcus'.trans hcus, htrig'.trans htrig, hout⟩

theorem mctpCustodyEnter_completes {i : Nat} (hrot : rotRuns s.dev) (hcheck : signedCheck s.dev h qCustody = St.ok)
    (hsw : s.dev.sec.switching = false) (hc : s.dev.flt.custody = .normal) :
    Completes (.mctpSigned i h .custodyEnter) s (fun d => d.flt.custody = .custody ∧ d.flt.trigger = 0xA13 ∧
      Out.mctp 0x82 i St.ok 0 0 [] ∈ d.out) := by
  obtain ⟨e, hg, hcus, htrig⟩ := signedCustodyEnter_accepted hcheck hsw hc
  have hk := collect_among (emit e (.mctp 0x82 i St.ok 0 0 []))
  obtain ⟨hcus', htrig', -⟩ := hk.custody rfl
  refine ⟨_, show execMctpSigned i h .custodyEnter s = _ from onDevC_of_eq ?_, hcus'.trans hcus, htrig'.trans htrig,
    hk.out.subset List.mem_cons_self⟩
  rw [if_pos hrot]
  simp only [signedAny, hg]

/-! ## Readmission -/

theorem readmit_completes (hrot : rotRuns s.dev) (hcheck : signedCheck s.dev h qReadmit = St.ok) (hsw : s.dev.sec.switching = false)
    (hc : s.dev.flt.custody = .custody) :
    Completes (.readmit h) s (fun d => d.flt.custody = .testing ∧ d.sec.msgSeq = h.seq ∧ d.reqs = s.dev.reqs ∧ d.fab = s.dev.fab) := by
  obtain ⟨t, ht, hk, -⟩ := onSigned_answered (g := fun d => signedReadmit d h) hrot (signedDo_accepted hcheck hsw rfl)
  have hkeep := execReadmit_leaves (W := among [.custody, .msgSeq, .sas, .bob]) (h := h) (s := s) ⟨rfl⟩ _ ht
  have hd : readmitDo (msgAccepted s.dev h) = tellSensors (msgAccepted s.dev h)
      { msgAccepted s.dev h with flt := { (msgAccepted s.dev h).flt with custody := .testing } } :=
    if_pos (by rw [((msgAccepted_among s.dev h).custody rfl).1, hc]; rfl)
  rw [hd] at hk
  have htell := tellSensors_reports (msgAccepted s.dev h)
    { msgAccepted s.dev h with flt := { (msgAccepted s.dev h).flt with custody := .testing } }
  exact ⟨t, ht, (hk.custody rfl).1.trans htell.custody, (hk.msgSeq rfl).trans (htell.msgSeq.trans (msgAccepted_msgSeq ..)),
    hkeep.reqs_eq rfl rfl rfl rfl rfl, hkeep.fabric rfl⟩

theorem readmitBits_congr {t : SelfTests} {c p : Bool} (hf : e.clk.fallback = d.clk.fallback) (he : e.sec.error = d.sec.error)
    (hz : e.sec.zeroized = d.sec.zeroized) (hstk : e.stk = d.stk) (hfab : e.fab = d.fab) (himg : e.img = d.img)
    (hb : e.boot.roles = d.boot.roles) (hp : e.ports = d.ports) : readmitBits e t c p = readmitBits d t c p := by
  have hout : tileOut e = tileOut d := funext fun t => by simp only [tileOut, hfab]
  simp only [readmitBits, usableStacks, requiredDrafts, hasCache, hasPrompt, roles, draftOf, img, runsAvail, hout, hf, he, hz, hstk,
    hfab, himg, hb, hp]
  rfl

/-- Every check holds (R713). -/
theorem readmitBits_eq_zero (hf : d.clk.fallback = false) (he : d.sec.error = false) (hz : d.sec.zeroized = false)
    (hst : ∀ u ∈ d.stk.units, u.st ≠ 5) (h6 : 6 ≤ (usableStacks d).length)
    (hr : ∀ k ∈ requiredDrafts d, ∃ i, draftOf d k = some i ∧ runsAvail d i ≠ 0) :
    readmitBits d { castOk := true, entropyOk := true } true true = 0 := by
  unfold readmitBits
  extract_lets stacksBad fabBad
  have hstk : stacksBad = false := by simpa [stacksBad] using ⟨hst, h6⟩
  have hfab : fabBad = false := by
    refine List.any_eq_false.mpr fun k hk => ?_
    obtain ⟨i, hi, hn⟩ := hr k hk
    simpa [hi] using hn
  rw [hstk, hfab, hf, he, hz]
  rfl

/-- A vault read that fails is bit 4 of the result (R714). -/
theorem bitOf_readmitBits_cores {t : SelfTests} {p : Bool} : bitOf (readmitBits d t false p) 4 = true := by
  have h1 (b : Bool) : bit1 b ≤ 1 := by cases b <;> decide
  unfold readmitBits
  extract_lets stacksBad fabBad
  have ha := h1 d.clk.fallback
  have hb := h1 (!(t.castOk && t.entropyOk) || d.sec.error || d.sec.zeroized)
  have hc := h1 stacksBad
  have hd := h1 fabBad
  simp only [bitOf, show bit1 (!false) = 1 from rfl, beq_iff_eq]
  omega

/-- The device once the tiles and the cores are checked. -/
def coresChecked (d : Dev) (failed : List Nat) (coresOk : Bool) : Dev :=
  if coresOk then coreResetEnd (coreResetStart (tilesFail d failed)) else coreResetStart (tilesFail d failed)

theorem coresChecked_among (d : Dev) (failed : List Nat) (coresOk : Bool) :
    Stays (among [.ready, .secRest, .fabric]) d (coresChecked d failed coresOk) := by
  have h : Stays (among [.ready, .secRest, .fabric]) d (coreResetStart (tilesFail d failed)) :=
    coreResetStart_stays (tilesFail_stays (.refl d) ⟨rfl⟩) ⟨rfl⟩
  exact .ite (coreResetEnd_stays h ⟨rfl⟩) h

theorem tilesFail_nil_fab (d : Dev) : (tilesFail d []).fab = d.fab := by
  unfold tilesFail
  exact (fabLosses_reports ..).fab.trans (by simp)

theorem coresChecked_nil_fab (d : Dev) (coresOk : Bool) : (coresChecked d [] coresOk).fab = d.fab := by
  have h : Stays (among [.ready, .secRest]) (tilesFail d []) (coreResetStart (tilesFail d [])) := coreResetStart_stays (.refl _) ⟨rfl⟩
  have h' : Stays (among [.ready, .secRest]) (tilesFail d []) (coresChecked d [] coresOk) := .ite (coreResetEnd_stays h ⟨rfl⟩) h
  exact (h'.fabric rfl).trans (tilesFail_nil_fab d)

/-- What the checks end in: back into service without a failed check, back to custody with one (R713, R714). -/
theorem execReadmitChecksDone_eq {t : SelfTests} {failed : List Nat} {coresOk up : Bool} (hc : s.dev.flt.custody = .testing) :
    let d := coresChecked s.dev failed coresOk
    let bad := readmitBits d t coresOk up
    let x := { d with flt := { d.flt with readmit := some bad } }
    execReadmitChecksDone t failed coresOk up s = .next (s.setDev (collect (tellSensors s.dev (
      if bad = 0 then detectDevice (ctrInc (repostAll (startFabric { x with flt := { x.flt with custody := .normal } })) cReadmits) 0xA11 0 0
      else detectDevice { x with flt := { x.flt with custody := .custody } } 0xA12 bad 0)))) := by
  intro d bad x
  refine onDevC_of_eq ?_
  simp only [hc, bne_self_eq_false, Bool.false_eq_true, if_false, beq_iff_eq]
  exact (apply_ite (tellSensors s.dev) ..).symm

theorem readmitChecksDone_passes (hc : s.dev.flt.custody = .testing) (hf : s.dev.clk.fallback = false) (he : s.dev.sec.error = false)
    (hz : s.dev.sec.zeroized = false) (hst : ∀ u ∈ s.dev.stk.units, u.st ≠ 5) (h6 : 6 ≤ (usableStacks s.dev).length)
    (hr : ∀ k ∈ requiredDrafts s.dev, ∃ i, draftOf s.dev k = some i ∧ runsAvail s.dev i ≠ 0) :
    Completes (.readmitChecksDone { castOk := true, entropyOk := true } [] true true) s (fun d =>
      d.flt.custody = .normal ∧ d.flt.readmit = some 0 ∧ d.fab.stopped = false) := by
  have hk := coresChecked_among s.dev [] true
  have hbad : readmitBits (coresChecked s.dev [] true) { castOk := true, entropyOk := true } true true = 0 := by
    obtain ⟨-, hfall, -⟩ := hk.clkRest rfl
    obtain ⟨-, -, herr, hzer⟩ := hk.keys rfl
    obtain ⟨himg, -, -, -, -, hroles, -⟩ := hk.image rfl
    rw [readmitBits_congr hfall herr hzer (hk.stk rfl) (coresChecked_nil_fab ..) himg hroles (hk.ports rfl)]
    exact readmitBits_eq_zero hf he hz hst h6 hr
  refine ⟨_, execReadmitChecksDone_eq hc, ?_⟩
  rw [if_pos hbad, hbad]
  have hk' {x was : Dev} : Stays (among [.ready, .sas, .bob]) x
      (collect (tellSensors was (detectDevice (ctrInc (repostAll x) cReadmits) 0xA11 0 0))) :=
    collect_stays (tellSensors_stays (detectDevice_stays (ctrInc_stays (repostAll_stays (.refl x) ⟨rfl⟩)))) ⟨rfl⟩
  obtain ⟨hcus, -⟩ := hk'.custody rfl
  obtain ⟨hres, -⟩ := hk'.fltRest rfl
  exact ⟨hcus, hres, congrArg Fabric.stopped (hk'.fabric rfl)⟩

theorem readmitChecksDone_fails {t : SelfTests} {ts : List Nat} {up : Bool} (hc : s.dev.flt.custody = .testing) :
    Completes (.readmitChecksDone t ts false up) s (fun d =>
      d.flt.custody = .custody ∧ (∃ x, d.flt.readmit = some x ∧ bitOf x 4) ∧ d.sec.coresInReset) := by
  have hbit : bitOf (readmitBits (coresChecked s.dev ts false) t false up) 4 = true := bitOf_readmitBits_cores
  refine ⟨_, execReadmitChecksDone_eq hc, ?_⟩
  rw [if_neg (by rintro h0; rw [h0] at hbit; cases hbit)]
  have hk {x was : Dev} {n : Nat} : Stays (among [.sas, .bob]) x (collect (tellSensors was (detectDevice x 0xA12 n 0))) :=
    collect_stays (tellSensors_stays (detectDevice_stays (.refl x))) ⟨rfl⟩
  obtain ⟨hcus, -⟩ := hk.custody rfl
  obtain ⟨hres, -⟩ := hk.fltRest rfl
  obtain ⟨-, hreset, -⟩ := hk.secRest rfl
  exact ⟨hcus, ⟨_, hres, hbit⟩, hreset⟩

/-- Settles O14: an accepted message has its effect once; the checks' result is zero under the premises, and has bit 4 without the vault's
sections. -/
theorem custodyAndReadmissionComplete : Obligations.CustodyAndReadmissionComplete := by
  unfold Obligations.CustodyAndReadmissionComplete
  exact fun s => ⟨fun _ => custodyEnter_completes, fun _ _ => mctpCustodyEnter_completes, fun _ => readmit_completes,
    readmitChecksDone_passes, fun _ _ _ => readmitChecksDone_fails⟩

end

end Sys2Proof.Machine
end

section
/-! # The self-test and the vault (R675) -/

namespace Sys2Proof.Machine

open Sys2Proof

set_option Elab.async false -- each lemma rests on the ones before it

/-- A device in its error state, in service, with one frame of the vault mapped and one manager key. -/
def vaultMapped : State :=
  { State.reset with dev := { State.reset.dev with
      boot := { State.reset.dev.boot with phase := .running }
      img := [(0x500008, 0x100)]
      sec := { State.reset.dev.sec with error := true }
      sas := { frames := [(0x30000000, {})] } } }

/-- A SELF_TEST message that this device accepts. -/
def selfTestMsg : SigHdr :=
  { formOk := true, target := idDigest, session := vaultMapped.dev.sec.session, seq := 1, sigs := [(0, true)] }

theorem selfTestMsg_accepted : signedCheck vaultMapped.dev selfTestMsg qSelfTest = St.ok := by
  have htarget : (selfTestMsg.target != idDigest) = false := bne_self_eq_false ..
  unfold signedCheck
  rw [htarget]
  decide +kernel

/-- A device without bodies and reservations has nothing to collect. -/
theorem collect_frames {d : Dev} (hb : d.sas.bodies = []) (hr : d.sas.reservations = []) : (collect d).sas.frames = d.sas.frames := by
  simp [collect, hb, hr]

/-- The self-test that recovers keeps the frames of the vault. -/
theorem selfTest_keepsVault :
    ∀ d, exec (.selfTest selfTestMsg { castOk := true, entropyOk := true }) vaultMapped = .next { vaultMapped with dev := d } →
      d.sas.frames ≠ [] := by
  intro d hd
  have hnext := onSigned_next (g := fun d => signedSelfTest d selfTestMsg { castOk := true, entropyOk := true }) (s := vaultMapped)
    (by decide +kernel) (signedDo_accepted selfTestMsg_accepted rfl rfl)
  have hdev := congrArg State.dev (Host.Outcome.next.inj (hnext.symm.trans hd))
  rw [← show _ = d from hdev]
  exact (collect_frames (by decide +kernel) (by decide +kernel)).trans_ne (by decide +kernel)

/-- Refutes O15: the self-test that recovers frees every skein, request, connection and region, but the vault stays mapped (R675): its
frames are still in the state address space. -/
theorem not_keyCommandsComplete : ¬ Obligations.KeyCommandsComplete := by
  unfold Obligations.KeyCommandsComplete
  intro h
  obtain ⟨-, -, -, hrecover, -⟩ := h vaultMapped (by decide +kernel)
  obtain ⟨d, hd, -, -, -, -, -, -, hsas, -⟩ := hrecover selfTestMsg selfTestMsg_accepted rfl (.inl rfl)
  exact selfTest_keepsVault d hd (by rw [hsas])

end Sys2Proof.Machine
end

section
/-! # Closing a security association while the pair's stream runs (R520, R664) -/

namespace Sys2Proof.Machine

open Sys2Proof

set_option Elab.async false -- each lemma rests on the ones before it

/-- A mirrored device, its pair's association at index 0, with a reservation that no skein holds any more and that is still to be
collected; it has one manager key. -/
def toCollect : State :=
  { State.reset with dev := { State.reset.dev with
      boot := { State.reset.dev.boot with phase := .running }
      img := [(0x500008, 0x100)]
      pair := { State.reset.dev.pair with state := .mirrored }
      sec := { State.reset.dev.sec with
        assocs := [{ index := 0, initiator := true, peerFleet := 1, handshake := 0, started := 0, established := true }] }
      sas := { reservations := [{ base := 4096, size := 4096, slot := 0 }], frames := [(1, {})] } } }

/-- An SA_CLOSE message that this device accepts. -/
def saCloseMsg : SigHdr :=
  { formOk := true, target := idDigest, session := toCollect.dev.sec.session, seq := 1, sigs := [(0, true)] }

theorem saCloseMsg_accepted : signedCheck toCollect.dev saCloseMsg qSa = St.ok := by
  have htarget : (saCloseMsg.target != idDigest) = false := bne_self_eq_false ..
  unfold signedCheck
  rw [htarget]
  decide +kernel

/-- Closing association 7 collects the reservation; the frame it frees is mirrored, under the next packet number of association 0. -/
theorem saClose_usesPairPn :
    exec (.saClose saCloseMsg 7) toCollect =
        .next (toCollect.setDev (collect (emit (dropAssoc (msgAccepted toCollect.dev saCloseMsg) 7) (.signedStatus St.ok)))) ∧
      (assocAt (collect (emit (dropAssoc (msgAccepted toCollect.dev saCloseMsg) 7) (.signedStatus St.ok))) 0).map (·.pn) = some 1 :=
  ⟨onSigned_next (g := fun d => signedSaClose d saCloseMsg 7) (by decide +kernel) (signedDo_accepted saCloseMsg_accepted rfl rfl),
    by decide +kernel⟩

/-- Refutes O16: SA_CLOSE leaves the other associations but for their packet numbers, and the end of the command may send the partner
a mirror frame, which takes one. -/
theorem not_associationCommandsComplete : ¬ Obligations.AssociationCommandsComplete := by
  unfold Obligations.AssociationCommandsComplete
  intro h
  obtain ⟨-, hclose, -⟩ := h toCollect
  obtain ⟨d, hd, -, hothers⟩ := hclose saCloseMsg 7 (by decide +kernel) saCloseMsg_accepted rfl (by decide +kernel)
  obtain ⟨hnext, hpn⟩ := saClose_usesPairPn
  have hdev := congrArg State.dev (Host.Outcome.next.inj (hnext.symm.trans hd))
  have h0 : (assocAt d 0).map (·.pn) = some 1 := (congrArg (fun d => (assocAt d 0).map (·.pn)) hdev).symm.trans hpn
  rw [hothers 0 (by decide)] at h0
  exact absurd h0 (by decide +kernel)

end Sys2Proof.Machine
end

section
/-! # SPDM (R647, R653 to R657) -/

namespace Sys2Proof.Machine

open Sys2Proof

set_option Elab.async false -- each lemma rests on the ones before it

/-- The request is counted, and its answer is sent. -/
structure SpdmTold (d e : Dev) (code : Nat) (fields : List Nat) (body : Bytes) : Prop where
  out : e.out = .spdm code fields body :: d.out
  counted : tgetD e.ctr cSpdmRequests 0 = satAdd (tgetD d.ctr cSpdmRequests 0) 1

/-- The request is answered with a code and its fields. -/
def SpdmAnswered (d e : Dev) (code : Nat) (fields : List Nat) : Prop :=
  (∃ body, e.out = .spdm code fields body :: d.out) ∧ tgetD e.ctr cSpdmRequests 0 = satAdd (tgetD d.ctr cSpdmRequests 0) 1

theorem SpdmTold.answered {d e : Dev} {code : Nat} {fields : List Nat} {body : Bytes} (h : SpdmTold d e code fields body) :
    SpdmAnswered d e code fields := ⟨⟨body, h.out⟩, h.counted⟩

section
variable {s : State} {d x : Dev} {code : Nat} {fields : List Nat} {body : Bytes}

/-! ## Answers -/

theorem spdmAnswer_told (ho : x.out = d.out) (hc : x.ctr = d.ctr) : SpdmTold d (spdmAnswer x code fields body) code fields body where
  out := by simp [spdmAnswer, emit, ho]
  counted := by
    refine (ctrAdd_ctr ..).trans ?_
    rw [if_pos ⟨rfl, Nat.one_ne_zero⟩, hc]

theorem spdmAnswer_sec : (spdmAnswer x code fields body).sec = x.sec := by simp [spdmAnswer, emit]

theorem spdmFree_told (ho : x.out = d.out) (hc : x.ctr = d.ctr) : SpdmAnswered d (spdmFree x code fields) code fields :=
  (spdmAnswer_told (x := (freeNext x).2) ho hc).answered

theorem spdmFree_sec : (spdmFree x code fields).sec = x.sec := spdmAnswer_sec

/-! ## Who is answered -/

theorem onSpdm_next {f : Dev → Dev} (hrot : rotRuns s.dev) : onSpdm f s = .next (s.setDev (f s.dev)) := onDev_of_eq (if_pos hrot)

theorem onNegotiated_next {f : Dev → Dev} (hrot : rotRuns s.dev) (hn : s.dev.sec.negotiated) :
    onNegotiated f s = .next (s.setDev (f s.dev)) := by
  rw [onNegotiated, onSpdm_next hrot, if_pos hn]

theorem inSession_next {f : Dev → Dev} {n : Nat} (hrot : rotRuns s.dev) (hn : (n, true) ∈ s.dev.sec.sessions) :
    inSession n f s = .next (s.setDev (f s.dev)) := by
  rw [inSession, onSpdm_next hrot, if_pos (List.contains_iff_mem.mpr hn)]

/-! ## Negotiation -/

section
variable (hrot : rotRuns s.dev)
include hrot

theorem getVersion_completes : Completes .getVersion s (fun d => SpdmAnswered s.dev d 0x04 [0x13] ∧ d.sec.negotiated = false) :=
  ⟨_, show execGetVersion s = _ from onSpdm_next hrot, (spdmAnswer_told rfl rfl).answered, congrArg SecUnit.negotiated spdmAnswer_sec⟩

theorem getCapabilities_completes : Completes .getCapabilities s (fun d => SpdmAnswered s.dev d 0x61 [] ∧ d.sec = s.dev.sec) :=
  ⟨_, show execGetCapabilities s = _ from onSpdm_next hrot, spdmFree_told rfl rfl, spdmFree_sec⟩

theorem negotiateAlgorithms_completes :
    Completes .negotiateAlgorithms s (fun d => SpdmAnswered s.dev d 0x63 [] ∧ d.sec = { s.dev.sec with negotiated := true }) :=
  ⟨_, show execNegotiateAlgorithms s = _ from onSpdm_next hrot, spdmFree_told rfl rfl, spdmFree_sec⟩

/-! ## Certificates -/

section
variable (hneg : s.dev.sec.negotiated)
include hneg

theorem getDigests_completes (hm : s.dev.boot.measureImg ≠ []) :
    Completes .getDigests s (fun d => d.out = .spdm 0x01 [1] (sha3_512 (slotChain s.dev)) :: s.dev.out ∧ d.sec = s.dev.sec) := by
  refine ⟨_, show execGetDigests s = _ from onNegotiated_next hrot hneg, ?_⟩
  rw [if_neg (by simpa using hm)]
  exact ⟨(spdmAnswer_told rfl rfl).out, spdmAnswer_sec⟩

theorem getCertificate_completes (hm : s.dev.boot.measureImg ≠ []) :
    Completes (.getCertificate 0) s (fun d => d.out = .spdm 0x02 [0] (slotChain s.dev) :: s.dev.out ∧ d.sec = s.dev.sec) := by
  refine ⟨_, show execGetCertificate 0 s = _ from onNegotiated_next hrot hneg, ?_⟩
  rw [if_neg (by decide), if_neg (by simpa using hm)]
  exact ⟨(spdmAnswer_told rfl rfl).out, spdmAnswer_sec⟩

theorem getCertificate_refused {slot : Nat} (hs : slot ≠ 0) :
    Completes (.getCertificate slot) s (fun d => SpdmAnswered s.dev d 0x7F [1] ∧ d.sec = s.dev.sec) := by
  refine ⟨_, show execGetCertificate slot s = _ from onNegotiated_next hrot hneg, ?_⟩
  rw [if_pos (by simpa using hs)]
  exact ⟨(spdmAnswer_told rfl rfl).answered, spdmAnswer_sec⟩

/-! ## Measurements -/

section
variable (hsw : s.dev.sec.switching = false)
include hsw

section
variable {sg : Bool} (hsg : sg → s.dev.boot.aliasFormed)
include hsg

/-- Measurements are answered by index, signed or not. -/
theorem execGetMeasurements_next (index : Nat) :
    execGetMeasurements index sg s = .next (s.setDev (
      let got := (measureBlocks s).filter (fun b => index == 255 || b.1 == index)
      if index == 0 then spdmAnswer s.dev 0x60 [(measureBlocks s).length, bit1 sg] []
      else if got.isEmpty then spdmError s.dev seInvalid
      else spdmAnswer s.dev 0x60 (bit1 sg :: got.map (·.1)) (got.flatMap (·.2)))) := by
  refine (onNegotiated_next hrot hneg).trans ?_
  have hkey : ¬(sg && (aliasKey s.dev).isNone) = true := by
    cases sg
    · simp
    · simp [aliasKey, hsg rfl]
  rw [if_neg (by simp [hsw]), if_neg hkey]

theorem getMeasurements_count : Completes (.getMeasurements 0 sg) s (fun d =>
    SpdmAnswered s.dev d 0x60 [(measureBlocks s).length, bit1 sg] ∧ d.sec = s.dev.sec) :=
  ⟨_, execGetMeasurements_next hrot hneg hsw hsg 0, (spdmAnswer_told rfl rfl).answered, spdmAnswer_sec⟩

theorem getMeasurements_one {b : Nat × Bytes} (h0 : b.1 ≠ 0) (h255 : b.1 ≠ 255)
    (hb : (measureBlocks s).filter (fun x => x.1 == b.1) = [b]) :
    Completes (.getMeasurements b.1 sg) s (fun d => d.out = .spdm 0x60 [bit1 sg, b.1] b.2 :: s.dev.out ∧ d.sec = s.dev.sec) := by
  refine ⟨_, execGetMeasurements_next hrot hneg hsw hsg b.1, ?_⟩
  have hgot : (measureBlocks s).filter (fun x => b.1 == 255 || x.1 == b.1) = [b] := by
    simpa only [beq_eq_false_iff_ne.mpr h255, Bool.false_or] using hb
  rw [hgot, if_neg (by simpa using h0), if_neg (by simp)]
  simp only [List.map_cons, List.map_nil, List.flatMap_singleton]
  exact ⟨(spdmAnswer_told rfl rfl).out, spdmAnswer_sec⟩

theorem getMeasurements_all : Completes (.getMeasurements 255 sg) s (fun d =>
    d.out = .spdm 0x60 (bit1 sg :: (measureBlocks s).map (·.1)) ((measureBlocks s).flatMap (·.2)) :: s.dev.out ∧ d.sec = s.dev.sec) := by
  refine ⟨_, execGetMeasurements_next hrot hneg hsw hsg 255, ?_⟩
  have hgot : (measureBlocks s).filter (fun x => (255 == 255 || x.1 == 255 : Bool)) = measureBlocks s := by simp
  rw [hgot, if_neg (by decide), if_neg (by simp [measureBlocks])]
  exact ⟨(spdmAnswer_told rfl rfl).out, spdmAnswer_sec⟩

end

/-! ## Challenges and sessions -/

section
variable (hkey : s.dev.boot.aliasFormed)
include hkey

theorem challenge_completes : Completes .challenge s (fun d => SpdmAnswered s.dev d 0x03 [] ∧ d.sec = s.dev.sec) := by
  refine ⟨_, show execChallenge s = _ from onNegotiated_next hrot hneg, ?_⟩
  rw [if_neg (by simp [hsw]), if_neg (by simp [aliasKey, hkey])]
  exact ⟨spdmFree_told rfl rfl, spdmFree_sec⟩

theorem keyExchange_completes : Completes .keyExchange s (fun d => SpdmAnswered s.dev d 0x64 [s.dev.sec.nextSession] ∧
    d.sec.sessions = s.dev.sec.sessions ++ [(s.dev.sec.nextSession, false)] ∧ d.sec.nextSession = s.dev.sec.nextSession + 1) := by
  refine ⟨_, show execKeyExchange s = _ from onNegotiated_next hrot hneg, ?_⟩
  rw [if_neg (by simp [hsw]), if_neg (by simp [aliasKey, hkey])]
  exact ⟨spdmFree_told rfl rfl, congrArg SecUnit.sessions spdmFree_sec, congrArg SecUnit.nextSession spdmFree_sec⟩

end

end

end

theorem finish_completes {n : Nat} (hn : (n, false) ∈ s.dev.sec.sessions) :
    Completes (.finish n) s (fun d => SpdmAnswered s.dev d 0x65 [n] ∧ (n, true) ∈ d.sec.sessions) := by
  refine ⟨_, show execFinish n s = _ from onSpdm_next hrot, ?_⟩
  rw [if_pos (List.contains_iff_mem.mpr hn)]
  refine ⟨spdmFree_told rfl rfl, ?_⟩
  rw [spdmFree_sec]
  exact List.mem_map.mpr ⟨(n, false), hn, by simp⟩

section
variable {n : Nat} (hn : (n, true) ∈ s.dev.sec.sessions)
include hn

theorem keyUpdate_completes : Completes (.keyUpdate n) s (fun d => SpdmAnswered s.dev d 0x69 [n] ∧ d.sec = s.dev.sec) :=
  ⟨_, show execKeyUpdate n s = _ from inSession_next hrot hn, (spdmAnswer_told rfl rfl).answered, spdmAnswer_sec⟩

theorem spdmHeartbeat_completes : Completes (.spdmHeartbeat n) s (fun d => SpdmAnswered s.dev d 0x68 [n] ∧ d.sec = s.dev.sec) :=
  ⟨_, show execSpdmHeartbeat n s = _ from inSession_next hrot hn, (spdmAnswer_told rfl rfl).answered, spdmAnswer_sec⟩

theorem endSession_completes : Completes (.endSession n) s (fun d => SpdmAnswered s.dev d 0x6C [n] ∧ ∀ x ∈ d.sec.sessions, x.1 ≠ n) := by
  refine ⟨_, show execEndSession n s = _ from inSession_next hrot hn, (spdmAnswer_told rfl rfl).answered, fun x hx => ?_⟩
  rw [spdmAnswer_sec] at hx
  simpa using (List.mem_filter.mp hx).2

theorem ideKm_completes {k : Nat} (hk : k ≤ 8) (hkeys : s.dev.sec.keys) :
    Completes (.vendorDefinedRequest n true k) s (fun d => SpdmAnswered s.dev d 0x7E [n, k] ∧ k ∈ d.sec.ide) := by
  refine ⟨_, show execVendorDefinedRequest n true k s = _ from inSession_next hrot hn, ?_⟩
  rw [if_neg (by decide), if_neg (by simp [hkeys, hk])]
  refine ⟨(spdmAnswer_told rfl rfl).answered, ?_⟩
  rw [spdmAnswer_sec]
  dsimp only
  split
  next hc => exact List.contains_iff_mem.mp hc
  · simp

theorem vendorDefined_completes {k : Nat} :
    Completes (.vendorDefinedRequest n false k) s (fun d => SpdmAnswered s.dev d 0x7E [n] ∧ d.sec = s.dev.sec) :=
  ⟨_, show execVendorDefinedRequest n false k s = _ from inSession_next hrot hn, (spdmAnswer_told rfl rfl).answered, spdmAnswer_sec⟩

end

end

end

/-- Settles O19: every request goes through `onSpdm`, and every answer through `spdmAnswer`, which counts and sends. -/
theorem spdmCommandsComplete : Obligations.SpdmCommandsComplete := by
  unfold Obligations.SpdmCommandsComplete
  intro s hrot told
  exact ⟨getVersion_completes hrot, getCapabilities_completes hrot, negotiateAlgorithms_completes hrot,
    fun hneg hm => ⟨getDigests_completes hrot hneg hm, getCertificate_completes hrot hneg hm, fun _ => getCertificate_refused hrot hneg⟩,
    fun hneg hsw sg hsg => ⟨getMeasurements_count hrot hneg hsw hsg,
      fun b _ h0 h255 hb => getMeasurements_one hrot hneg hsw hsg h0 h255 hb, getMeasurements_all hrot hneg hsw hsg⟩,
    fun hneg hsw hkey => ⟨challenge_completes hrot hneg hsw hkey, keyExchange_completes hrot hneg hsw hkey⟩,
    fun _ => finish_completes hrot,
    fun _ hn => ⟨keyUpdate_completes hrot hn, spdmHeartbeat_completes hrot hn, endSession_completes hrot hn,
      fun _ => ideKm_completes hrot hn, fun _ => vendorDefined_completes hrot hn⟩⟩

end Sys2Proof.Machine
end

section
/-! # The DOE mailbox, configuration writes and TDISP (R626, R639, R658 to R660) -/

namespace Sys2Proof.Machine

open Sys2Proof

set_option Elab.async false -- each lemma rests on the ones before it

section
variable {s : State} {d : Dev} {o p f : Nat} {t : Tdisp}

/-! ## An interface's state -/

theorem tdispOf_setTdisp_same (d : Dev) (o : Nat) (t : Tdisp) : tdispOf (setTdisp d o t) o = t := by
  simp [tdispOf, setTdisp, tgetD, tget_tset_same]

theorem tdispOf_setTdisp_other (d : Dev) (t : Tdisp) (h : p ≠ o) : tdispOf (setTdisp d o t) p = tdispOf d p := by
  simp [tdispOf, setTdisp, tgetD, tget_tset_other _ _ _ _ h]

theorem tdispOf_congr {d e : Dev} (h : e.host.tdisp = d.host.tdisp) (o : Nat) : tdispOf e o = tdispOf d o := by rw [tdispOf, tdispOf, h]

/-- A function's reset leaves none of its line queues: what follows their removal moves rings only. -/
theorem fnReset_queues (d : Dev) (o : Nat) : ∀ q ∈ (fnReset d o).lines.queues, q.owner ≠ o := by
  unfold fnReset
  extract_lets _ _ _ _ _ _ _ _ d6 d7
  rw [(ringsMoved_stays (W := among [.requests, .reqsRest, .sas, .bob]) (.refl _) ⟨rfl⟩).lines rfl]
  intro q hq
  have hq6 : q ∈ d6.lines.queues := hq
  simpa using (List.mem_filter.mp hq6).2

theorem fnReset_tdisp (d : Dev) (o : Nat) : (fnReset d o).host.tdisp = d.host.tdisp :=
  (fnReset_stays (W := among [.lanes, .intakeRest, .operations, .ports, .requests, .reqsRest, .sas, .bob, .retrieval, .lines, .checks])
    (.refl d) ⟨rfl⟩).tdisp rfl

/-- What a failed interface's report leaves of the function's reset. -/
theorem tdispFail_after (d : Dev) (o : Nat) : Stays (among []) (fnReset (setTdisp d o .error) o) (tdispFail d o) :=
  detect_stays (ctrInc_stays (.refl _))

theorem tdispOf_tdispFail (d : Dev) (o : Nat) : tdispOf (tdispFail d o) o = .error := by
  rw [tdispOf_congr ((tdispFail_after d o).tdisp rfl), tdispOf_congr (fnReset_tdisp ..), tdispOf_setTdisp_same]

theorem tdispFail_queues (d : Dev) (o : Nat) : ∀ q ∈ (tdispFail d o).lines.queues, q.owner ≠ o := by
  rw [(tdispFail_after d o).lines rfl]
  exact fnReset_queues _ _

/-! ## TDISP requests -/

theorem lockInterface_completes (hreq : tdispRequired s.dev) (ho : o < 64) (hbm : o ∈ s.dev.host.busMaster) (hms : o ∈ s.dev.host.memSpace)
    (hr : ∀ r ∈ s.dev.rings, r.owner ≠ o) (hq : ∀ q ∈ s.dev.lines.queues, q.owner ≠ o) (hu : tdispOf s.dev o = .unlocked) :
    Completes (.lockInterface o true) s (fun d => tdispOf d o = .locked ∧ (∀ p, p ≠ o → tdispOf d p = tdispOf s.dev p) ∧
      d.out = .tdisp 0x03 [o] :: s.dev.out) := by
  refine ⟨emit (setTdisp s.dev o .locked) (.tdisp tdispLockRsp [o]), show execLockInterface o true s = _ from onDev_of_eq ?_,
    tdispOf_setTdisp_same .., fun p hp => tdispOf_setTdisp_other _ _ hp, rfl⟩
  rw [if_neg (by simp [hreq, hbm, hms, ho]; exact ⟨hr, hq⟩), if_neg (by simp [hu])]

theorem startInterface_completes (hl : tdispOf s.dev o = .locked) :
    Completes (.startInterface o) s (fun d => tdispOf d o = .run ∧ (∀ p, p ≠ o → tdispOf d p = tdispOf s.dev p) ∧
      d.out = .tdisp 0x06 [o] :: s.dev.out) :=
  ⟨emit (setTdisp s.dev o .run) (.tdisp tdispStartRsp [o]),
    show execStartInterface o s = _ from onDev_of_eq (if_pos (by rw [hl]; decide)),
    tdispOf_setTdisp_same .., fun _ hp => tdispOf_setTdisp_other _ _ hp, rfl⟩

theorem stopInterface_completes :
    Completes (.stopInterface o) s (fun d => tdispOf d o = .unlocked ∧ (∀ p, p ≠ o → tdispOf d p = tdispOf s.dev p) ∧
      d.out = .tdisp 0x07 [o] :: s.dev.out) :=
  ⟨_, rfl, tdispOf_setTdisp_same .., fun _ hp => tdispOf_setTdisp_other _ _ hp, rfl⟩

theorem tdispInterfaceError_completes {c : TdispCause} (ho : o < 64) (hrun : tdispOf s.dev o = .run) :
    Completes (.tdispInterfaceError o c) s (fun d => tdispOf d o = .error ∧ (∀ q ∈ d.lines.queues, q.owner ≠ o)) := by
  have heq : execTdispInterfaceError o c s = .next (s.setDev (collect (tdispFail s.dev o))) :=
    onDevC_of_eq (if_pos (by cases c <;> simp [tdispHeld, ho, hrun]))
  have hc := collect_frees (tdispFail s.dev o)
  refine ⟨_, heq, (tdispOf_congr (by rw [hc.host]) o).trans (tdispOf_tdispFail ..), ?_⟩
  rw [hc.lines]
  exact tdispFail_queues _ _

/-! ## The mailbox -/

theorem doeRequest_answered {x : DoeObject} (he : s.dev.host.doeError = false) (hb : s.dev.host.doeBusy = false) (hv : x.vendorPciSig)
    (ht : x.type ≤ 2) (hl : x.length ≤ 16384) : Completes (.doeRequest x) s (fun d => d = { s.dev with
      host := { s.dev.host with doeReady := true }
      out := .doe false true :: s.dev.out }) := by
  refine ⟨_, show execDoeRequest x s = _ from onDev_of_eq ?_, rfl⟩
  rw [if_neg (by simp [he, hb]), if_neg (by simp [hv, ht, hl])]
  rfl

theorem doeRequest_failed {x : DoeObject} (he : s.dev.host.doeError = false) (hb : s.dev.host.doeBusy = false)
    (hx : x.vendorPciSig = false ∨ 2 < x.type ∨ 16384 < x.length) :
    Completes (.doeRequest x) s (fun d => d.host.doeError ∧ d.host.doeReady = false) := by
  refine ⟨emit { s.dev with host := { s.dev.host with doeError := true, doeReady := false } } (.doe true false),
    show execDoeRequest x s = _ from onDev_of_eq ?_, rfl, rfl⟩
  rw [if_neg (by simp [he, hb]), if_pos (by simpa [or_assoc] using hx)]

/-! ## Configuration writes -/

/-- A configuration write that sets the host's registers alone. -/
theorem configWrite_host {w : CfgWrite} {x : Dev} {Q : HostSide → Prop} (hw : execPcieConfigurationWrite w s = .next (s.setDev (collect x)))
    (hQ : Q x.host) : Completes (.pcieConfigurationWrite w) s (fun d => Q d.host) :=
  ⟨_, hw, show Q (collect x).host by rw [(collect_frees x).host]; exact hQ⟩

theorem cfgTouch_enables (d : Dev) (f : Nat) :
    (cfgTouch d f).host.busMaster = d.host.busMaster ∧ (cfgTouch d f).host.memSpace = d.host.memSpace := by
  obtain ⟨-, -, hb, hm, -⟩ := (cfgTouch_stays (W := among [.tdisp, .lanes, .intakeRest, .operations, .ports, .requests, .reqsRest, .sas, .bob,
    .retrieval, .lines, .checks]) (fn := f) (.refl d) ⟨rfl⟩).config rfl
  exact ⟨hb, hm⟩

theorem failReads_busMaster (d : Dev) (p : Nat → Bool) : (failReads d p).host.busMaster = d.host.busMaster := by
  obtain ⟨-, -, hb, -⟩ := (failReads_stays (W := among [.taken, .admRest, .requests, .stopSets, .reqsRest, .sas, .bob]) (p := p)
    (.refl d) ⟨rfl⟩).config rfl
  exact hb

theorem mem_setFlag_on (l : List Nat) (f : Nat) : f ∈ setFlag l f true := by
  by_cases h : f ∈ l <;> simp [setFlag, h]

theorem mem_setFlag {l : List Nat} {on : Bool} : f ∈ setFlag l f on ↔ on = true := by
  cases on
  · simp [setFlag]
  · simpa using mem_setFlag_on l f

theorem busMaster_completes {on : Bool} :
    Completes (.pcieConfigurationWrite (.busMaster f on)) s (fun d => f ∈ d.host.busMaster ↔ on = true) := by
  by_cases h : s.dev.host.busMaster.contains f = on
  · refine configWrite_host (Q := fun h => f ∈ h.busMaster ↔ on = true) (x := s.dev) (onDevC_of_eq (if_pos (by simpa using h))) ?_
    rw [← h, List.contains_iff_mem]
  · refine configWrite_host (Q := fun h => f ∈ h.busMaster ↔ on = true) (onDevC_of_eq (if_neg (by simpa using h))) ?_
    rw [(cfgTouch_enables ..).1]
    split
    · exact mem_setFlag
    · rw [failReads_busMaster]
      exact mem_setFlag

theorem memSpace_completes {on : Bool} :
    Completes (.pcieConfigurationWrite (.memSpace f on)) s (fun d => f ∈ d.host.memSpace ↔ on = true) := by
  by_cases h : s.dev.host.memSpace.contains f = on
  · refine configWrite_host (Q := fun h => f ∈ h.memSpace ↔ on = true) (x := s.dev) (onDevC_of_eq (if_pos (by simpa using h))) ?_
    rw [← h, List.contains_iff_mem]
  · refine configWrite_host (Q := fun h => f ∈ h.memSpace ↔ on = true) (onDevC_of_eq (if_neg (by simpa using h))) ?_
    rw [(cfgTouch_enables ..).2]
    exact mem_setFlag

theorem msixEnable_completes (hp : (tgetD s.dev.host.msix f {}).pending = false) :
    Completes (.pcieConfigurationWrite (.msixEnable f true)) s (fun d => (tgetD d.host.msix f {}).enabled) := by
  refine configWrite_host (Q := fun h => (tgetD h.msix f {}).enabled) (onDevC_of_eq (if_neg (by simp [hp]))) ?_
  simp [tgetD, tget_tset_same]

theorem msixMask_completes : Completes (.pcieConfigurationWrite (.msixMask f)) s (fun d => (tgetD d.host.msix f {}).masked) := by
  refine configWrite_host (Q := fun h => (tgetD h.msix f {}).masked) (onDevC_of_eq rfl) ?_
  simp [tgetD, tget_tset_same]

theorem barWrite_completes (hf : f < 64) (hh : tdispHeld s.dev f) :
    Completes (.pcieConfigurationWrite (.barWrite f)) s (fun d => tdispOf d f = .error) :=
  configWrite_host (Q := fun h => tgetD h.tdisp f .unlocked = .error) (onDevC_of_eq (if_pos (by simp [hf, hh]))) (tdispOf_tdispFail ..)

end

/-- Settles O23: each request sets its own interface's state, and a failed one loses its function's line queues with its reset. -/
theorem tdispCommandsComplete : Obligations.TdispCommandsComplete := by
  unfold Obligations.TdispCommandsComplete
  intro s o
  exact ⟨lockInterface_completes, startInterface_completes, stopInterface_completes, ⟨_, rfl, rfl⟩,
    fun _ => tdispInterfaceError_completes⟩

/-- Settles O22: what a write sets stands in the host's registers, whatever the loss of an enable ends. -/
theorem doeAndConfigurationComplete : Obligations.DoeAndConfigurationComplete := by
  unfold Obligations.DoeAndConfigurationComplete
  refine ⟨fun s => ⟨fun _ => doeRequest_answered, fun _ => doeRequest_failed, ⟨_, rfl, rfl⟩⟩, fun s => ⟨fun b => ?_, fun n hn => ?_,
    fun us hlo hhi => ?_, fun n hn => ?_, fun f => ?_, fun f => ?_, fun f => ?_, fun f on => ?_, fun f => msixEnable_completes,
    fun f => msixMask_completes, fun f => barWrite_completes⟩⟩
  · exact configWrite_host (Q := (· = _)) (onDevC_of_eq rfl) rfl
  · exact configWrite_host (Q := (· = _)) (onDevC_of_eq (if_pos (List.contains_iff_mem.mpr hn))) rfl
  · exact configWrite_host (Q := (· = _)) (onDevC_of_eq (if_pos (by simp [hlo, hhi]))) rfl
  · exact configWrite_host (Q := (· = _)) (onDevC_of_eq (if_pos hn)) rfl
  · obtain ⟨d, hd, h⟩ := busMaster_completes (s := s) (f := f) (on := true)
    exact ⟨d, hd, h.mpr rfl⟩
  · obtain ⟨d, hd, h⟩ := busMaster_completes (s := s) (f := f) (on := false)
    exact ⟨d, hd, fun hm => Bool.noConfusion (h.mp hm)⟩
  · obtain ⟨d, hd, h⟩ := memSpace_completes (s := s) (f := f) (on := true)
    exact ⟨d, hd, h.mpr rfl⟩
  · exact configWrite_host (Q := fun h => f ∈ h.relaxed ↔ on = true) (onDevC_of_eq rfl) mem_setFlag

end Sys2Proof.Machine
end

section
/-! # The check units (R572 to R577) -/

namespace Sys2Proof.Machine

open Sys2Proof

set_option Elab.async false -- each lemma rests on the ones before it

section
variable {s : State} {d e f : Dev} {u : Nat} {x : CheckUnit}

theorem checkAt_setCheck_same (d : Dev) (x : CheckUnit) (hu : u < d.checks.length) : checkAt (setCheck d u x) u = x := by
  simp [checkAt, setCheck, hu]

theorem checkAt_setCheck_other (d : Dev) (x : CheckUnit) {v : Nat} (hv : v ≠ u) : checkAt (setCheck d u x) v = checkAt d v := by
  simp [checkAt, setCheck, List.getD_eq_getElem?_getD, List.getElem?_set_ne hv.symm]

theorem checkAt_congr (h : e.checks = d.checks) (u : Nat) : checkAt e u = checkAt d u := by rw [checkAt, checkAt, h]

/-! ## Turning to the next command -/

/-- From `d` on, a unit's queue and what is reported alone have changed. -/
structure QueueMoves (u : Nat) (d e : Dev) : Prop where
  others : ∀ v, v ≠ u → checkAt e v = checkAt d v
  ok : (checkAt e u).ok = (checkAt d u).ok
  value : (checkAt e u).value = (checkAt d u).value
  reqs : e.reqs = d.reqs
  sas : e.sas = d.sas

theorem QueueMoves.trans (h : QueueMoves u d e) (k : QueueMoves u e f) : QueueMoves u d f where
  others v hv := (k.others v hv).trans (h.others v hv)
  ok := k.ok.trans h.ok
  value := k.value.trans h.value
  reqs := k.reqs.trans h.reqs
  sas := k.sas.trans h.sas

theorem QueueMoves.ite {p : Prop} [Decidable p] (h : QueueMoves u d e) (k : QueueMoves u d f) : QueueMoves u d (if p then e else f) := by
  split <;> assumption

theorem Reports.queueMoves (h : Reports d e) : QueueMoves u d e where
  others v _ := checkAt_congr h.checks v
  ok := by rw [checkAt_congr h.checks]
  value := by rw [checkAt_congr h.checks]
  reqs := h.reqs
  sas := h.sas

theorem expire_reports (d : Dev) (ref : OpRef) : Reports d (expire d ref) := (ctrInc_reports ..).trans (complete_reports ..)

/-- A new queue of a unit that exists. -/
theorem setCheck_queueMoves (hu : u < d.checks.length) (q : List CheckCmd) :
    QueueMoves u d (setCheck d u { checkAt d u with queue := q }) where
  others _ hv := checkAt_setCheck_other _ _ hv
  ok := by rw [checkAt_setCheck_same _ _ hu]
  value := by rw [checkAt_setCheck_same _ _ hu]
  reqs := rfl
  sas := rfl

theorem checkStart_queueMoves {fuel : Nat} (hu : u < d.checks.length) : QueueMoves u d (checkStart u fuel d) := by
  induction fuel generalizing d with
  | zero => exact (Reports.refl d).queueMoves
  | succ fuel ih =>
    have goesOn {rest : List CheckCmd} {g : Dev → Dev} (hg : ∀ d, Reports d (g d)) :
        QueueMoves u d (checkStart u fuel (g (setCheck d u { checkAt d u with queue := rest }))) :=
      ((setCheck_queueMoves hu rest).trans (hg _).queueMoves).trans (ih (by rw [(hg _).checks]; simpa [setCheck] using hu))
    unfold checkStart
    dsimp only
    split
    · exact (Reports.refl d).queueMoves
    next c rest _ =>
      exact .ite (goesOn fun d => expire_reports d c.ref) (.ite (goesOn fun d => refuse_reports d c.ref St.checkChain)
        (.ite (Reports.refl d).queueMoves (emitReads_reports ..).queueMoves))

/-! ## A record joins -/

section
variable {t : Taken} {cont : Bool}

/-- The command that a CHECK record asks for. -/
def checkCmdOf (d : Dev) (t : Taken) (cont : Bool) : CheckCmd where
  ref := t.ref d
  deadline := t.deadline
  poly := t.f 0x20 5 4
  cont := cont
  len := t.f 0x24 31 0
  src := t.f 0x28 47 0
  sas := t.f 0x28 48 48 == 1

/-- At the front of its unit's queue, a command that its state and its deadline allow stays there. -/
theorem checkStart_stands {c : CheckCmd} {rest : List CheckCmd} {fuel : Nat} (hq : (checkAt d u).queue = c :: rest)
    (hc : c.cont → (checkAt d u).chains c) (ht : ∀ x, c.deadline = some x → now d ≤ x) :
    (checkStart u (fuel + 1) d).checks = d.checks ∧ (checkStart u (fuel + 1) d).reqs = d.reqs := by
  have hlate : ¬(match c.deadline with | some t => decide (t < now d) | none => false) = true := by
    cases hd : c.deadline with
    | none => simp
    | some x => simpa using ht x hd
  have hchain : ¬(c.cont && !(checkAt d u).chains c) = true := by simpa using hc
  unfold checkStart
  simp only [hq]
  rw [if_neg, if_neg hchain]
  · split
    · exact ⟨rfl, rfl⟩
    · exact ⟨(emitReads_reports ..).checks, (emitReads_reports ..).reqs⟩
  · exact hlate

theorem checkRecord_joins (hlen : d.checks.length = 16) (hrec : recCheck d t true false none false true false = none)
    (hsas : t.f 0x28 48 48 = 1 → inStage d (laneOwner d t.lane) (t.f 0x28 47 0) (t.f 0x24 31 0))
    (hfront : (checkAt d (t.f 0x20 3 0)).queue = [] →
      (cont → (checkAt d (t.f 0x20 3 0)).chains (checkCmdOf d t cont)) ∧ ∀ x, t.deadline = some x → now d ≤ x) :
    (checkRecord d t cont).checks = d.checks.set (t.f 0x20 3 0)
        { checkAt d (t.f 0x20 3 0) with queue := (checkAt d (t.f 0x20 3 0)).queue ++ [checkCmdOf d t cont] } ∧
      (checkRecord d t cont).reqs = d.reqs := by
  have hu : t.f 0x20 3 0 < d.checks.length := by
    rw [hlen]
    exact Nat.mod_lt _ (by decide)
  unfold checkRecord
  rw [hrec]
  dsimp only
  rw [if_neg (by simpa using hsas)]
  split
  next hempty =>
    have hq := List.isEmpty_iff.mp hempty
    obtain ⟨hchain, hdead⟩ := hfront hq
    have hat := checkAt_setCheck_same (dropTaken d t)
      { checkAt d (t.f 0x20 3 0) with queue := (checkAt d (t.f 0x20 3 0)).queue ++ [checkCmdOf d t cont] } hu
    refine checkStart_stands (c := checkCmdOf d t cont) (rest := []) ?_ ?_ hdead
    · exact (congrArg CheckUnit.queue hat).trans (by rw [hq]; rfl)
    · exact fun hc => (congrArg (CheckUnit.chains · (checkCmdOf d t cont)) hat).trans (hchain hc)
  · exact ⟨rfl, rfl⟩

theorem check_completes {l : Nat} {q : U32} (hlen : s.dev.checks.length = 16) (ht : findTaken s.dev l q = some t) (hk : t.kind = 0x30)
    (hcont : t.f 0x20 6 6 = 1 ↔ cont = true) (hrec : recCheck s.dev t true false none false true false = none)
    (hsas : t.f 0x28 48 48 = 1 → inStage s.dev (laneOwner s.dev l) (t.f 0x28 47 0) (t.f 0x24 31 0))
    (hfront : (checkAt s.dev (t.f 0x20 3 0)).queue = [] →
      (cont → (checkAt s.dev (t.f 0x20 3 0)).chains (checkCmdOf s.dev t cont)) ∧ ∀ x, t.deadline = some x → now s.dev ≤ x) :
    Completes (if cont then .checkContinue l q else .check l q) s (fun d =>
      d.checks = s.dev.checks.set (t.f 0x20 3 0)
        { checkAt s.dev (t.f 0x20 3 0) with queue := (checkAt s.dev (t.f 0x20 3 0)).queue ++ [checkCmdOf s.dev t cont] } ∧
      d.reqs = s.dev.reqs) := by
  have hjoin := checkRecord_joins (cont := cont) hlen hrec (by rwa [findTaken_lane ht]) hfront
  refine ⟨checkRecord s.dev t cont, ?_, hjoin⟩
  cases cont with
  | false =>
    have h0 : t.f 0x20 6 6 = 0 := by
      have hlt : t.f 0x20 6 6 < 2 := Nat.mod_lt _ (by decide)
      have hne : t.f 0x20 6 6 ≠ 1 := fun h => Bool.noConfusion (hcont.mp h)
      omega
    exact onTaken_form (fun d t => checkRecord d t false) ht (by simp [hk, h0])
  | true => exact onTaken_form (fun d t => checkRecord d t true) ht (by simp [hk, hcont.mpr rfl])

end

/-! ## The command at the front ends -/

section
variable {c : CheckCmd} {rest : List CheckCmd} {src : HostData} {errs : List LineErr}

/-- The register after a command's bytes. -/
def crcAfter (x : CheckUnit) (c : CheckCmd) (bs : Bytes) : Nat :=
  crcRun (crcKind c.poly) (if c.cont then x.crc else (crcKind c.poly).init) bs

/-- A command that had its bytes: its unit holds the check value; the others, the requests and what `e` has of the SAS stand. -/
structure CheckGives (u : Nat) (d e : Dev) (v : Nat) (g : Dev) : Prop where
  others : ∀ w, w ≠ u → checkAt g w = checkAt d w
  reqs : g.reqs = d.reqs
  ok : (checkAt g u).ok
  value : (checkAt g u).value = v
  sas : g.sas = e.sas

/-- A unit whose command had its bytes. -/
def CheckUnit.gave (x : CheckUnit) (c : CheckCmd) (rest : List CheckCmd) (bs : Bytes) : CheckUnit := { x with
  queue := rest
  crc := crcAfter x c bs
  poly := c.poly
  owner := c.ref.owner
  ok := true
  value := crcFinal (crcKind c.poly) (crcAfter x c bs)
  info := c.ref.seq.toNat + c.ref.lane * 2 ^ 32 + c.poly * 2 ^ 39 + c.ref.owner * 2 ^ 41 + 2 ^ 48 }

/-- What follows the command at the front: its end is reported, and its unit, as left, turns to the next. -/
theorem checkStart_setCheck {g : Dev → Dev} {fuel : Nat} (hd : Reports e d) (hu : u < e.checks.length) (hg : ∀ d, Reports d (g d)) :
    let out := checkStart u fuel (g (setCheck d u x))
    (∀ w, w ≠ u → checkAt out w = checkAt e w) ∧ (checkAt out u).ok = x.ok ∧ (checkAt out u).value = x.value ∧ out.reqs = e.reqs ∧
      out.sas = e.sas := by
  intro out
  have hu' : u < d.checks.length := by rwa [hd.checks]
  have hm : QueueMoves u (setCheck d u x) out :=
    (hg _).queueMoves.trans (checkStart_queueMoves (by rw [(hg _).checks]; simpa [setCheck] using hu'))
  have hat := checkAt_setCheck_same d x hu'
  exact ⟨fun w hw => (hm.others w hw).trans ((checkAt_setCheck_other d x hw).trans (checkAt_congr hd.checks w)),
    hm.ok.trans (congrArg CheckUnit.ok hat), hm.value.trans (congrArg CheckUnit.value hat), hm.reqs.trans hd.reqs, hm.sas.trans hd.sas⟩

theorem execCheckCommandDone_gave {bs : Bytes} (hq : (checkAt s.dev u).queue = c :: rest)
    (hsrc : checkSource s.dev c src errs = (.inl bs, e)) :
    let x := checkAt (ctrInc e cCheckCommands) u
    execCheckCommandDone u src errs s = .next (s.setDev (checkStart u (rest.length + 1)
      (finishOp (ctrAdd (setCheck (ctrInc e cCheckCommands) u (x.gave c rest bs)) cCheckBytes c.len) c.ref St.ok
        (crcFinal (crcKind c.poly) (crcAfter x c bs)) c.len))) := by
  refine onDev_of_eq ?_
  rw [hq]
  dsimp only
  rw [hsrc]
  rfl

theorem execCheckCommandDone_failed {st : Nat} (hq : (checkAt s.dev u).queue = c :: rest)
    (hsrc : checkSource s.dev c src errs = (.inr st, e)) :
    execCheckCommandDone u src errs s = .next (s.setDev (checkStart u (rest.length + 1)
      (finishOp (setCheck (ctrInc e cCheckCommands) u { checkAt (ctrInc e cCheckCommands) u with queue := rest, ok := false }) c.ref st 0 0))) := by
  refine onDev_of_eq ?_
  rw [hq]
  dsimp only
  rw [hsrc]

theorem checkDone_gives {bs : Bytes} (hu : u < s.dev.checks.length) (hq : (checkAt s.dev u).queue = c :: rest)
    (hsrc : checkSource s.dev c src errs = (.inl bs, e)) (hchecks : e.checks = s.dev.checks) (hreqs : e.reqs = s.dev.reqs) :
    Completes (.checkCommandDone u src errs) s
      (CheckGives u s.dev e (crcFinal (crcKind c.poly) (crcAfter (checkAt s.dev u) c bs))) := by
  have hat := checkAt_congr hchecks
  have hinc : Reports e (ctrInc e cCheckCommands) := ctrInc_reports ..
  obtain ⟨hothers, hok, hvalue, hr, hsas⟩ := checkStart_setCheck (x := (checkAt (ctrInc e cCheckCommands) u).gave c rest bs)
    (g := fun d => finishOp (ctrAdd d cCheckBytes c.len) c.ref St.ok
      (crcFinal (crcKind c.poly) (crcAfter (checkAt (ctrInc e cCheckCommands) u) c bs)) c.len)
    (fuel := rest.length + 1) hinc (by rwa [hchecks]) fun d => (ctrAdd_reports ..).trans (finishOp_reports ..)
  refine ⟨_, execCheckCommandDone_gave hq hsrc, fun w hw => (hothers w hw).trans (hat w), hr.trans hreqs, hok, ?_, hsas⟩
  rw [← hat, ← checkAt_congr hinc.checks]
  exact hvalue

theorem checkDone_fails {st : Nat} (hu : u < s.dev.checks.length) (hq : (checkAt s.dev u).queue = c :: rest)
    (hsrc : checkSource s.dev c src errs = (.inr st, s.dev)) :
    Completes (.checkCommandDone u src errs) s (fun d => ((∀ v, v ≠ u → checkAt d v = checkAt s.dev v) ∧ d.reqs = s.dev.reqs) ∧
      (checkAt d u).ok = false ∧ (checkAt d u).value = (checkAt s.dev u).value ∧ d.sas = s.dev.sas) := by
  have hinc : Reports s.dev (ctrInc s.dev cCheckCommands) := ctrInc_reports ..
  obtain ⟨hothers, hok, hvalue, hr, hsas⟩ := checkStart_setCheck
    (x := { checkAt (ctrInc s.dev cCheckCommands) u with queue := rest, ok := false })
    (g := fun d => finishOp d c.ref st 0 0) (fuel := rest.length + 1) hinc hu fun d => finishOp_reports ..
  exact ⟨_, execCheckCommandDone_failed hq hsrc, ⟨hothers, hr⟩, hok,
    hvalue.trans (show (checkAt _ u).value = _ by rw [checkAt_congr hinc.checks]), hsas⟩

/-! ## Sources -/

theorem fit_of_length {bs : Bytes} {n : Nat} (h : bs.length = n) : fit bs n = bs := by
  subst h
  simp [fit, zeroBytes]

theorem checkSource_host {bs : Bytes} (hsas : c.sas = false) (hup : fnUp d c.ref.owner) (hlen : bs.length = c.len) :
    checkSource d c (some bs) errs = (.inl bs, d) := by
  simp [checkSource, hsas, hostGot, hup, fit_of_length hlen]

theorem checkSource_lost (hsas : c.sas = false) : checkSource d c none errs = (.inr St.checkSource, d) := by
  simp [checkSource, hsas, hostGot]

theorem checkSource_sas (hsas : c.sas) (hz : d.sec.zeroized = false) (hread : readRanges errs [(c.src, c.len)] d = (false, e)) :
    checkSource d c src errs = (.inl (workRead e c.src c.len), e) := by
  simp [checkSource, hsas, hz, hread]

theorem readRanges_among (errs : List LineErr) (rs : List (Nat × Nat)) (d : Dev) :
    Stays (among [.sas, .stk]) d (readRanges errs rs d).2 := readRanges_stays (.refl d) ⟨rfl⟩

end

end

/-- Settles O26: a record that passes its checks joins, and the end of a command turns the unit to the next, which moves its queue alone. -/
theorem checkCommandsComplete : Obligations.CheckCommandsComplete := by
  unfold Obligations.CheckCommandsComplete
  intro s hlen
  refine ⟨fun l q t cont ht hk hcont hrec hsas hfront => check_completes hlen ht hk hcont hrec hsas hfront, fun u c rest hu hq => ?_⟩
  have hu' : u < s.dev.checks.length := by rwa [hlen]
  refine ⟨fun bs errs hsas hup hbs => ?_, fun errs hsas => checkDone_fails hu' hq (checkSource_lost hsas), fun src errs e hsas hz hread => ?_⟩
  · obtain ⟨d, hd, h⟩ := checkDone_gives hu' hq (checkSource_host (errs := errs) hsas hup hbs) rfl rfl
    exact ⟨d, hd, ⟨⟨h.others, h.reqs⟩, h.ok, h.value⟩, h.sas⟩
  · have hst := readRanges_among errs [(c.src, c.len)] s.dev
    rw [hread] at hst
    obtain ⟨d, hd, h⟩ := checkDone_gives hu' hq (checkSource_sas (src := src) hsas hz hread) (hst.checks rfl)
      (hst.reqs_eq rfl rfl rfl rfl rfl)
    exact ⟨d, hd, ⟨⟨h.others, h.reqs⟩, h.ok, h.value⟩, h.sas⟩

end Sys2Proof.Machine
end

section
/-! # Line queues at the issuer (R565 to R571) -/

namespace Sys2Proof.Machine

open Sys2Proof

set_option Elab.async false -- each lemma rests on the ones before it

section
variable {s : State} {d e : Dev} {o : Nat} {q x : LineQueue}

/-! ## An owner's queue -/

theorem findLq_owner (h : findLq d o = some q) : q.owner = o := by simpa using List.find?_some h

theorem findLq_congr (h : e.lines = d.lines) (o : Nat) : findLq e o = findLq d o := by rw [findLq, findLq, h]

theorem findLq_setLq_same (hx : findLq d o = some x) (hq : q.owner = o) : findLq (setLq d q) o = some q := by
  subst hq
  exact find?_replaceFirst ⟨x, List.mem_of_find?_eq_some hx, by simpa using findLq_owner hx⟩ (beq_self_eq_true _)

theorem findLq_setLq_other {p : Nat} (hp : p ≠ q.owner) : findLq (setLq d q) p = findLq d p :=
  find?_replaceFirst_other (by simpa using hp.symm) fun y hy => by
    rw [beq_iff_eq.mp hy]
    simpa using hp.symm

/-- The device without an owner's queue. -/
def dropLq (d : Dev) (o : Nat) : Dev := { d with lines := { d.lines with queues := d.lines.queues.filter (fun x => x.owner != o) } }

theorem findLq_dropLq_same (d : Dev) (o : Nat) : findLq (dropLq d o) o = none := by
  simp [findLq, dropLq, List.find?_filter]

theorem findLq_dropLq_other {p : Nat} (d : Dev) (hp : p ≠ o) : findLq (dropLq d o) p = findLq d p := by
  unfold findLq dropLq
  rw [List.find?_filter]
  refine congrArg (List.find? · d.lines.queues) (funext fun y => ?_)
  by_cases hy : y.owner = p
  · simp [hy, hp]
  · simp [hy]

/-- The device with an owner's new queue in the place of its old one. -/
def newLq (d : Dev) (o : Nat) (q : LineQueue) : Dev :=
  { d with lines := { d.lines with queues := d.lines.queues.filter (fun x => x.owner != o) ++ [q] } }

theorem findLq_newLq_same (hq : q.owner = o) : findLq (newLq d o q) o = some q := by
  have hgone : (d.lines.queues.filter (fun x => x.owner != o)).find? (·.owner == o) = none := findLq_dropLq_same d o
  exact List.find?_append.trans (by rw [hgone]; simp [hq])

theorem findLq_newLq_other {p : Nat} (hq : q.owner = o) (hp : p ≠ o) : findLq (newLq d o q) p = findLq d p := by
  have hne : (q.owner == p) = false := by simpa [hq] using hp.symm
  refine Eq.trans ?_ (findLq_dropLq_other d hp)
  simp [findLq, newLq, dropLq, List.find?_append, hne]

/-! ## A queue goes on -/

/-- An owner's reads or writes are out. -/
def linesOut (d : Dev) (o : Nat) : Bool := d.lines.issues.any (fun i => i.desc.owner == o)

/-- A queue that keeps no descriptor back is gone when it closes with nothing out, and stays as it is otherwise. -/
theorem pumpLines_idle {fuel : Nat} (hq : findLq d o = some q) (hw : q.waiting = []) :
    pumpLines o (fuel + 1) d = if q.closing && !linesOut d o then dropLq d o else d := by
  rw [pumpLines, hq]
  simp only [hw]
  rfl

theorem linesGo_idle (hq : findLq d o = some q) (hw : q.waiting = []) :
    linesGo d o = if q.closing && !linesOut d o then dropLq d o else d := by
  rw [linesGo, hq]
  exact pumpLines_idle hq hw

/-- With nothing kept back, a queue that goes on changes the queues alone. -/
theorem linesGo_quiet (hw : ∀ q, findLq d o = some q → q.waiting = []) :
    (linesGo d o).lines.issues = d.lines.issues ∧ (linesGo d o).out = d.out := by
  cases hq : findLq d o with
  | none => simp [linesGo, hq]
  | some q =>
    rw [linesGo_idle hq (hw q hq)]
    split <;> exact ⟨rfl, rfl⟩

/-! ## MSA_LQ_SETUP -/

section
variable {fn : Nat} {v : U64} {f : Dev → Nat → Dev}

theorem onLqSetup_busy (ho : bits v.toNat 7 1 ≤ 64) (hf : fn = 64 ∨ fn = bits v.toNat 7 1) (hb : s.dev.lines.queues.any (·.closing) = true) :
    onLqSetup fn v f s = .next (s.setDev s.dev) := by
  refine onDev_of_eq ?_
  dsimp only
  rw [if_neg (by omega), if_neg (by simpa [or_iff_not_imp_left] using hf), if_pos hb]

theorem onLqSetup_idle (ho : bits v.toNat 7 1 ≤ 64) (hf : fn = 64 ∨ fn = bits v.toNat 7 1) (hb : s.dev.lines.queues.any (·.closing) = false)
    (he : f s.dev (bits v.toNat 7 1) = e) : onLqSetup fn v f s = .next (s.setDev e) := by
  refine onDev_of_eq ?_
  dsimp only
  rw [if_neg (by omega), if_neg (by simpa [or_iff_not_imp_left] using hf), if_neg (by simp [hb]), he]

section
variable (ho : bits v.toNat 7 1 ≤ 64) (hf : fn = 64 ∨ fn = bits v.toNat 7 1) (hb : s.dev.lines.queues.any (·.closing) = false)
include ho hf hb

theorem lineQueueSetup_opens (hlo : 6 ≤ bits v.toNat 11 8) (hhi : bits v.toNat 11 8 ≤ 12) :
    Completes (.lineQueueSetup fn v) s (fun d =>
      ((∀ x, x ≠ bits v.toNat 7 1 → findLq d x = findLq s.dev x) ∧ d.reqs = s.dev.reqs ∧ d.intake = s.dev.intake) ∧
      findLq d (bits v.toNat 7 1) = some {
        owner := bits v.toNat 7 1
        log2 := bits v.toNat 11 8
        base := bits v.toNat 63 12 * 4096
        waiting := match findLq s.dev (bits v.toNat 7 1) with | some x => x.waiting | none => [] }) := by
  have hn : ¬(bits v.toNat 11 8 < 6 || 12 < bits v.toNat 11 8) = true := by simp; omega
  exact ⟨newLq s.dev (bits v.toNat 7 1) _, show execLineQueueSetup fn v s = _ from onLqSetup_idle ho hf hb (if_neg hn),
    ⟨fun x hx => findLq_newLq_other rfl hx, rfl, rfl⟩, findLq_newLq_same rfl⟩

theorem lineQueueTeardown_closes (hn : bits v.toNat 11 8 = 0) (hq : findLq s.dev (bits v.toNat 7 1) = some q) (hw : q.waiting = []) :
    Completes (.lineQueueTeardown fn v) s (fun d =>
      ((∀ x, x ≠ bits v.toNat 7 1 → findLq d x = findLq s.dev x) ∧ d.reqs = s.dev.reqs ∧ d.intake = s.dev.intake) ∧
      ((∀ i ∈ s.dev.lines.issues, i.desc.owner ≠ bits v.toNat 7 1) → findLq d (bits v.toNat 7 1) = none) ∧
      ((∃ i ∈ s.dev.lines.issues, i.desc.owner = bits v.toNat 7 1) →
        findLq d (bits v.toNat 7 1) = some { q with closing := true })) := by
  have hown := findLq_owner hq
  have hset : findLq (setLq s.dev { q with closing := true }) (bits v.toNat 7 1) = some { q with closing := true } :=
    findLq_setLq_same hq hown
  have hother {x : Nat} (hx : x ≠ bits v.toNat 7 1) : findLq (setLq s.dev { q with closing := true }) x = findLq s.dev x :=
    findLq_setLq_other (by simpa [hown] using hx)
  refine ⟨linesGo (setLq s.dev { q with closing := true }) (bits v.toNat 7 1),
    show execLineQueueTeardown fn v s = _ from onLqSetup_idle ho hf hb ?_, ?_⟩
  · rw [if_neg (by simp [hn]), hq]
  rw [linesGo_idle hset hw]
  by_cases hout : linesOut s.dev (bits v.toNat 7 1) = true
  · rw [if_neg (by simpa [setLq, linesOut] using hout)]
    refine ⟨⟨fun x hx => hother hx, rfl, rfl⟩, fun hnone => ?_, fun _ => hset⟩
    obtain ⟨i, hi, hio⟩ := List.any_eq_true.mp hout
    exact absurd (beq_iff_eq.mp hio) (hnone i hi)
  · rw [if_pos (by simpa [setLq, linesOut] using hout)]
    refine ⟨⟨fun x hx => (findLq_dropLq_other _ hx).trans (hother hx), rfl, rfl⟩, fun _ => findLq_dropLq_same .., fun ⟨i, hi, hio⟩ => ?_⟩
    exact absurd (List.any_eq_true.mpr ⟨i, hi, by simpa using hio⟩) hout

end

end

/-! ## Slots -/

/-- The first request of a host read of some bytes. -/
theorem mem_emitReads_first (d : Dev) (o a : Nat) {len : Nat} (hlen : 0 < len) :
    .hostRead o a (min (max 1 (min d.host.readRequest 512)) len) (tBit d o) ∈ (emitReads d o a len).out := by
  unfold emitReads
  dsimp only
  set n := max 1 (min d.host.readRequest 512) with hn
  have hn1 : 0 < n := by omega
  have hpos : 0 < (len + n - 1) / n := Nat.div_pos (by omega) hn1
  obtain ⟨k, hk⟩ := Nat.exists_eq_succ_of_ne_zero hpos.ne'
  rw [hk, List.range_succ_eq_map, List.foldl_cons]
  refine (Reports.foldl _ (fun d _ => emit_reports d _) _ _).out.subset ?_
  simp [emit]

theorem findLq_of_lqRuns (h : lqRuns d o = some q) : findLq d o = some q ∧ q.stalled = false ∧ q.closing = false := by
  unfold lqRuns at h
  split at h
  · cases h
  next x hx =>
    split at h
    · cases h
    next hc =>
      obtain rfl := Option.some.inj h
      simp only [Bool.or_eq_true, not_or, Bool.not_eq_true] at hc
      exact ⟨hx, hc.1.1.1, hc.1.1.2⟩

/-- Where a running queue's slot was read, the command acts on what it holds. -/
theorem onSlot_next {bs : Bytes} {f : Dev → LineQueue → Bytes → Int → Dev} (hq : lqRuns s.dev o = some q) (hlen : bs.length = 128)
    (hup : fnUp s.dev o) : onSlot o (some bs) f s =
      .next (s.setDev (collect (f s.dev q bs (serialDiff (u32 (fld bs 0x7C 31 0)) q.expected)))) := by
  refine onDevC_of_eq ?_
  rw [hq]
  simp [hostGot, hup, fit_of_length hlen]

theorem linePoll_stops {bs : Bytes} (hq : lqRuns s.dev o = some q) (hlen : bs.length = 128) (hup : fnUp s.dev o)
    (hd : 0 < serialDiff (u32 (fld bs 0x7C 31 0)) q.expected) :
    Completes (.lineQueuePoll o (some bs)) s (fun d => findLq d o = some { q with stalled := true } ∧ d.lines.issues = s.dev.lines.issues) := by
  obtain ⟨hfind, -, -⟩ := findLq_of_lqRuns hq
  have hown := findLq_owner hfind
  have hread : (readSlot s.dev q).lines = s.dev.lines := (emitReads_reports ..).lines
  have hset := findLq_setLq_same (q := { q with stalled := true }) ((findLq_congr hread o).trans hfind) hown
  have hdet := detectFor_reports (setLq (readSlot s.dev q) { q with stalled := true }) o 0x03 o 0x711 0 0
  refine ⟨_, (show execLineQueuePoll o (some bs) s = _ from onSlot_next hq hlen hup).trans (by dsimp only; rw [if_pos hd]; rfl), ?_⟩
  have hl := (collect_frees _).lines.trans hdet.lines
  have hi : (setLq (readSlot s.dev q) { q with stalled := true }).lines.issues = s.dev.lines.issues :=
    show (readSlot s.dev q).lines.issues = _ by rw [hread]
  exact ⟨(findLq_congr hl o).trans hset, (congrArg Lines.issues hl).trans hi⟩

theorem linePoll_waits {bs : Bytes} (hq : lqRuns s.dev o = some q) (hlen : bs.length = 128) (hup : fnUp s.dev o)
    (hd : serialDiff (u32 (fld bs 0x7C 31 0)) q.expected < 0) :
    Completes (.lineQueuePoll o (some bs)) s (fun d => findLq d o = some q ∧
      .hostRead q.owner (q.base + q.expected.toNat % 2 ^ q.log2 * 128) (min (max 1 (min s.dev.host.readRequest 512)) 128)
        (tBit s.dev q.owner) ∈ d.out) := by
  obtain ⟨hfind, -, -⟩ := findLq_of_lqRuns hq
  have hne : ¬(serialDiff (u32 (fld bs 0x7C 31 0)) q.expected == 0 && fld bs 0 7 0 != 1 && fld bs 0 7 0 != 2) = true := by
    have : serialDiff (u32 (fld bs 0x7C 31 0)) q.expected ≠ 0 := by omega
    simp [this]
  refine ⟨collect (readSlot s.dev q), (show execLineQueuePoll o (some bs) s = _ from onSlot_next hq hlen hup).trans
    (by dsimp only; rw [if_neg (by omega), if_neg hne]; rfl), ?_, ?_⟩
  · exact (findLq_congr ((collect_frees _).lines.trans (emitReads_reports ..).lines) o).trans hfind
  · exact (collect_frees _).out.subset (mem_emitReads_first _ _ _ (by decide))

/-! ## A descriptor is issued -/

section
variable {bs : Bytes} {c : Conn} {k : Nat} {w : LineDesc}

/-- Under a free slot, a descriptor of a READY connection is in flight from now on. -/
theorem lineIssue_issues (hc : findConn d w.conn = some c) (hr : c.state = .ready) (hk : freeIssue d (lineAgent w.owner) = some k) :
    (∃ i ∈ (lineIssue d w).lines.issues, i.desc = w ∧ i.slot = k ∧ i.agent = lineAgent w.owner ∧ i.issuedAt = now d) ∧
      (lineIssue d w).lines.queues = d.lines.queues ∧ (lineIssue d w).reqs = d.reqs := by
  unfold lineIssue
  simp only [hc, hr, bne_self_eq_false, Bool.false_eq_true, if_false, hk]
  set i : LineIssue := { tag := _, agent := lineAgent w.owner, slot := k, desc := w, issuedAt := now d } with hi
  set x : Dev := { d with lines := { d.lines with issues := d.lines.issues ++ [i], gens := _ } } with hx
  have hst {m h b} : Stays (among [.ports]) x (sendLine (ctrInc x m) c 0 h b) := sendLine_stays (ctrInc_stays (.refl x)) ⟨rfl⟩
  have hl {m h b} : (sendLine (ctrInc x m) c 0 h b).lines = x.lines := hst.lines rfl
  rw [hl]
  exact ⟨⟨i, by simp [hx], rfl, rfl, rfl, rfl⟩, rfl, hst.reqs_eq rfl rfl rfl rfl rfl⟩

/-- A queue that keeps nothing back issues a descriptor without a fence at once. -/
theorem linesGo_issues (hq : findLq d o = some q) (hw : q.waiting = [w]) (hcl : q.closing = false) (hf : w.fence = false)
    (hc : findConn d w.conn = some c) (hr : c.state = .ready) (hk : freeIssue d (lineAgent w.owner) = some k) :
    (∃ i ∈ (linesGo d o).lines.issues, i.desc = w ∧ i.slot = k ∧ i.agent = lineAgent w.owner ∧ i.issuedAt = now d) ∧
      findLq (linesGo d o) o = some { q with waiting := [] } ∧ (linesGo d o).reqs = d.reqs := by
  have hown := findLq_owner hq
  obtain ⟨hissue, hqueues, hreqs⟩ := lineIssue_issues (d := setLq d { q with waiting := [] }) (w := w) hc hr hk
  have hfind : findLq (lineIssue (setLq d { q with waiting := [] }) w) o = some { q with waiting := [] } :=
    (by rw [findLq, hqueues]; exact findLq_setLq_same hq hown)
  have hgo : linesGo d o = lineIssue (setLq d { q with waiting := [] }) w := by
    rw [linesGo, hq]
    simp only [hw]
    rw [pumpLines, hq]
    simp only [hw, hf, Bool.false_and, Bool.false_eq_true, if_false]
    rw [List.length_singleton, pumpLines_idle hfind rfl]
    simp [hcl]
  rw [hgo]
  exact ⟨hissue, hfind, hreqs⟩

theorem takeDesc_issues (hfind : findLq d o = some q) (hcl : q.closing = false) (hw : q.waiting = []) (hok : descOk bs)
    (hc : findConn d (fld bs 4 19 0) = some c) (hr : c.state = .ready) (hco : c.owner = q.owner) (hf : fld bs 1 0 0 = 0)
    (hk : freeIssue d (lineAgent q.owner) = some k) :
    (∃ i ∈ (takeDesc d q bs).lines.issues, i.desc = descOf q.owner bs ∧ i.slot = k ∧ i.agent = lineAgent q.owner ∧ i.issuedAt = now d) ∧
      findLq (takeDesc d q bs) o = some { q with expected := q.expected + 1 } ∧ (takeDesc d q bs).reqs = d.reqs := by
  have hown := findLq_owner hfind
  set x : Dev := setLq (setLq d { q with expected := q.expected + 1 }) { q with expected := q.expected + 1, waiting := [descOf q.owner bs] } with hx
  have hset : findLq x o = some { q with expected := q.expected + 1, waiting := [descOf q.owner bs] } :=
    findLq_setLq_same (findLq_setLq_same hfind hown) hown
  obtain ⟨hissue, hq', hreqs⟩ := linesGo_issues (w := descOf q.owner bs) hset rfl hcl (by simp [descOf, hf]) hc hr hk
  have htake : takeDesc d q bs = readSlot (linesGo x o) { q with expected := q.expected + 1 } := by
    have hc' : findConn (setLq d { q with expected := q.expected + 1 }) (descOf q.owner bs).conn = some c := hc
    unfold takeDesc
    dsimp only
    rw [if_neg (by simp [hok]), hc']
    dsimp only
    rw [if_neg (by simp [hco]), hx, hw, hown]
    rfl
  have hread : Reports (linesGo x o) (readSlot (linesGo x o) { q with expected := q.expected + 1 }) := emitReads_reports ..
  rw [htake]
  refine ⟨?_, (findLq_congr hread.lines o).trans (hq'.trans ?_), hread.reqs.trans hreqs⟩
  · rw [hread.lines]
    exact hissue
  · rw [hw]

theorem lineDescriptor_issues {write : Bool} (hq : lqRuns s.dev o = some q) (hlen : bs.length = 128) (hup : fnUp s.dev o)
    (hd : serialDiff (u32 (fld bs 0x7C 31 0)) q.expected = 0) (hop : fld bs 0 7 0 = (if write then 2 else 1)) (hok : descOk bs)
    (hc : findConn s.dev (fld bs 4 19 0) = some c) (hr : c.state = .ready) (hco : c.owner = q.owner) (hw : q.waiting = [])
    (hf : fld bs 1 0 0 = 0) (hk : freeIssue s.dev (lineAgent q.owner) = some k) :
    Completes (if write then .lineWrite o (some bs) else .lineRead o (some bs)) s (fun d =>
      (∃ i ∈ d.lines.issues, i.desc = descOf q.owner bs ∧ i.slot = k ∧ i.agent = lineAgent q.owner ∧ i.issuedAt = now s.dev) ∧
      findLq d o = some { q with expected := q.expected + 1 } ∧ d.reqs = s.dev.reqs) := by
  obtain ⟨hfind, -, hcl⟩ := findLq_of_lqRuns hq
  obtain ⟨hissue, hq', hreqs⟩ := takeDesc_issues hfind hcl hw hok hc hr hco hf hk
  have hfr := collect_frees (takeDesc s.dev q bs)
  refine ⟨collect (takeDesc s.dev q bs), ?_, by rw [hfr.lines]; exact hissue, (findLq_congr hfr.lines o).trans hq', hfr.reqs.trans hreqs⟩
  cases write with
  | false =>
    exact (show execLineRead o (some bs) s = _ from onSlot_next hq hlen hup).trans
      (by rw [if_pos (by simp [hd, hop])]; rfl)
  | true =>
    exact (show execLineWrite o (some bs) s = _ from onSlot_next hq hlen hup).trans
      (by rw [if_pos (by simp [hd, hop])]; rfl)

end

/-! ## An issue goes on and ends -/

section
variable {i : LineIssue} {c : Conn} {t : U32}

theorem lineReadResend_resends (hi : findIssue s.dev t = some i) (hw : i.desc.write = false) (hn : i.resends < 3)
    (ht : 4 * i.issuedAt + (i.resends + 1) * deadNs s.dev ≤ 4 * now s.dev) (hc : findConn s.dev i.desc.conn = some c)
    (hr : c.state = .ready) :
    Completes (.lineReadResend t) s (fun d => findIssue d t = some { i with resends := i.resends + 1 } ∧ d.reqs = s.dev.reqs) := by
  have htag : (i.tag == t) = true := List.find?_some (p := fun y : LineIssue => y.tag == t) hi
  set x : Dev := { s.dev with lines := { s.dev.lines with
    issues := replaceFirst (fun x => x.tag == t) { i with resends := i.resends + 1 } s.dev.lines.issues } } with hx
  have hst : Stays (among [.ports]) x (sendLine (ctrInc x cMsaResends) c 0 (lineRequest i.desc t true) []) :=
    sendLine_stays (ctrInc_stays (.refl x)) ⟨rfl⟩
  have hfr := collect_frees (sendLine (ctrInc x cMsaResends) c 0 (lineRequest i.desc t true) [])
  refine ⟨_, show execLineReadResend t s = _ from onDevC_of_eq (e := sendLine (ctrInc x cMsaResends) c 0 (lineRequest i.desc t true) []) ?_,
    ?_, hfr.reqs.trans (hst.reqs_eq rfl rfl rfl rfl rfl)⟩
  · rw [hi]
    dsimp only
    rw [if_neg (by simp [hw]; omega), hc]
    simp [hr, hx]
  · rw [findIssue, hfr.lines, hst.lines rfl]
    exact find?_replaceFirst ⟨i, List.mem_of_find?_eq_some hi, htag⟩ htag

/-- A host write of at most 64 bytes at a multiple of 64 is one packet. -/
theorem hostWriteAttr_aligned {a : Nat} {bs : Bytes} {ep relaxed : Bool} (hup : fnUp d o) (hs : streaming d = false) (ha : a % 64 = 0)
    (h0 : bs ≠ []) (hlen : bs.length ≤ 64) :
    hostWriteAttr d o a bs ep relaxed = emit d (.hostWrite o a bs ep relaxed (tBit d o)) := by
  have hpart {blk : Nat} (hblk : blk = 128 ∨ blk = 256) : splitAt blk (bs.length + 1) a bs = [(a, bs)] := by
    have hn : bs.length ≤ blk - a % blk := by rcases hblk with rfl | rfl <;> omega
    obtain ⟨b, rest, rfl⟩ := List.exists_cons_of_ne_nil h0
    rw [splitAt, List.take_of_length_le hn, List.drop_of_length_le hn]
    · simp [splitAt]
    · simp
  have hsplit : splitAt (maxPayload d) (bs.length + 1) a bs = [(a, bs)] := hpart (by unfold maxPayload; split <;> simp)
  rw [hostWriteAttr, if_pos hup, hsplit]
  simp [emitWA, hs]

/-- The status word of an issue's end. -/
def statusWord (x : LineDesc) (status : Nat) (bad : Bool) : Bytes := le (status + 2 ^ 16 * bit1 bad + 2 ^ 32 * x.seq.toNat) 8

section
variable {w : LineDesc} {st : Nat} {poison : Bool} {line : Bytes} (hup : fnUp d w.owner) (hs : streaming d = false)
  (ha : w.result % 64 = 0)
include hup hs ha

theorem hostWrite_status {bad : Bool} :
    hostWrite d w.owner (w.result + 64) (statusWord w st bad) =
      emit d (.hostWrite w.owner (w.result + 64) (statusWord w st bad) false false (tBit d w.owner)) :=
  hostWriteAttr_aligned hup hs (by omega) (by simp [statusWord, le]) (by simp [statusWord, le])

theorem lineResult_out_write (hw : w.write) :
    (lineResult d w st poison line).out =
      .hostWrite w.owner (w.result + 64) (statusWord w st false) false false (tBit d w.owner) :: d.out := by
  have h := congrArg Dev.out (hostWrite_status (st := st) (bad := false) hup hs ha)
  simpa [lineResult, hw, statusWord, emit] using h

/-- A read that failed reports its status over a poisoned line. -/
theorem lineResult_out_bad (hw : w.write = false) (hst : st ≠ St.ok) :
    (lineResult d w st poison line).out =
      .hostWrite w.owner (w.result + 64) (statusWord w st true) false false (tBit d w.owner) ::
        .hostWrite w.owner w.result (List.replicate 64 0xFF) true false (tBit d w.owner) :: d.out := by
  have hline := hostWriteAttr_aligned (ep := true) (relaxed := false) (bs := List.replicate 64 0xFF) hup hs ha (by simp) (by simp)
  have hbad : (!w.write && (st != St.ok || poison)) = true := by simp [hw, hst]
  unfold lineResult
  rw [hbad]
  simp only [hw, Bool.false_eq_true, if_false, if_true, hline]
  exact congrArg Dev.out (hostWrite_status (d := emit d _) (st := st) (bad := true) hup hs ha)

theorem lineResult_out_good (hw : w.write = false) (hlen : line.length = 64) :
    (lineResult d w St.ok false line).out =
      .hostWrite w.owner (w.result + 64) (statusWord w St.ok false) false false (tBit d w.owner) ::
        .hostWrite w.owner w.result line false false (tBit d w.owner) :: d.out := by
  have hline := hostWriteAttr_aligned (ep := false) (relaxed := false) (bs := line) hup hs ha (by rintro rfl; cases hlen) hlen.le
  unfold lineResult
  simp only [hw, Bool.not_false, bne_self_eq_false, Bool.or_false, Bool.and_false, Bool.false_eq_true, if_false]
  rw [show hostWrite d w.owner w.result line = _ from hline]
  exact congrArg Dev.out (hostWrite_status (d := emit d _) (st := St.ok) (bad := false) hup hs ha)

end

theorem lineResult_reports (d : Dev) (w : LineDesc) (st : Nat) (poison : Bool) (line : Bytes) : Reports d (lineResult d w st poison line) :=
  Reports.trans (.ite (.refl d) (.ite (hostWriteAttr_reports ..) (hostWrite_reports ..))) (hostWrite_reports ..)

/-- The device without an issue. -/
def dropIssue (d : Dev) (i : LineIssue) : Dev :=
  { d with lines := { d.lines with issues := dropFirst (fun x => x.tag == i.tag) d.lines.issues } }

/-- Where its owner's queue keeps nothing back, the end of an issue frees its slot and writes its result, and no more. -/
theorem endIssue_ends (hw : ∀ q, findLq d i.desc.owner = some q → q.waiting = []) (st : Nat) (poison : Bool) (line : Bytes) :
    (endIssue d i st poison line).lines.issues = dropFirst (fun x => x.tag == i.tag) d.lines.issues ∧
      (endIssue d i st poison line).out = (lineResult (dropIssue d i) i.desc st poison line).out := by
  have hrep := lineResult_reports (dropIssue d i) i.desc st poison line
  obtain ⟨hi, ho⟩ := linesGo_quiet (d := lineResult (dropIssue d i) i.desc st poison line) (o := i.desc.owner) fun q hq =>
    hw q ((findLq_congr hrep.lines _).symm.trans hq)
  exact ⟨hi.trans (congrArg Lines.issues hrep.lines), ho⟩

/-- An issue ended: its slot is free and its status and stamp are written at its result address. -/
structure IssueEnded (d e : Dev) (i : LineIssue) (st : Nat) (bad : Bool) : Prop where
  issues : e.lines.issues = dropFirst (fun x => x.tag == i.tag) d.lines.issues
  told : .hostWrite i.desc.owner (i.desc.result + 64) (statusWord i.desc st bad) false false (tBit d i.desc.owner) ∈ e.out

theorem IssueEnded.after {f : Dev} {st : Nat} {bad : Bool} (h : IssueEnded d e i st bad) (hl : f.lines = e.lines) (ho : e.out <:+ f.out) :
    IssueEnded d f i st bad := ⟨by rw [hl]; exact h.issues, ho.subset h.told⟩

section
variable {st : Nat} {poison : Bool} {line : Bytes} (hw : ∀ q, findLq d i.desc.owner = some q → q.waiting = [])
  (ha : i.desc.result % 64 = 0) (hup : fnUp d i.desc.owner) (hs : streaming d = false)
include hw ha hup hs

theorem endIssue_write (hwr : i.desc.write) : IssueEnded d (endIssue d i st poison line) i st false := by
  obtain ⟨hi, ho⟩ := endIssue_ends hw st poison line
  exact ⟨hi, by rw [ho, lineResult_out_write (d := dropIssue d i) hup hs ha hwr]; exact List.mem_cons_self⟩

theorem endIssue_bad (hwr : i.desc.write = false) (hst : st ≠ St.ok) : IssueEnded d (endIssue d i st poison line) i st true := by
  obtain ⟨hi, ho⟩ := endIssue_ends hw st poison line
  exact ⟨hi, by rw [ho, lineResult_out_bad (d := dropIssue d i) hup hs ha hwr hst]; exact List.mem_cons_self⟩

theorem endIssue_good (hwr : i.desc.write = false) (hlen : line.length = 64) :
    IssueEnded d (endIssue d i St.ok false line) i St.ok false ∧
      .hostWrite i.desc.owner i.desc.result line false false (tBit d i.desc.owner) ∈ (endIssue d i St.ok false line).out := by
  obtain ⟨hi, ho⟩ := endIssue_ends hw St.ok false line
  refine ⟨⟨hi, ?_⟩, ?_⟩ <;> rw [ho, lineResult_out_good (d := dropIssue d i) hup hs ha hwr hlen]
  · exact List.mem_cons_self
  · exact List.mem_cons_of_mem _ List.mem_cons_self

end

/-! ## Responses -/

section
variable {p : LinePkt}

/-- A packet that passes its checks has taken its association's packet number, and no more has changed. -/
theorem lineCheck_some (h : lineCheck d p = (some c, e)) :
    lineFormOk p ∧ ∃ as, e = { d with sec := { d.sec with assocs := as } } := by
  unfold lineCheck at h
  dsimp only at h
  split at h
  · cases h
  next hform =>
    split at h
    · cases h
    · split at h
      · cases h
      · split at h
        · cases h
        · split at h
          · cases h
          · cases h
            simp only [Bool.or_eq_true, Bool.not_eq_true', not_or, Bool.not_eq_false] at hform
            exact ⟨hform.1, _, rfl⟩

theorem onLine_next {op : Nat} {f : Dev → Conn → LinePkt → Dev} (hop : p.hdr.op = op) (h : lineCheck s.dev p = (some c, e)) :
    onLine op f p s = .next (s.setDev (collect (f e c p))) := by
  refine onDevC_of_eq ?_
  simp only [hop, bne_self_eq_false, Bool.false_eq_true, if_false, h]

theorem lineResponse_ends {ok : LineIssue → Bool} (hi : findIssue d p.hdr.tag = some i) (hc : i.desc.conn = c.num) (hok : ok i) :
    lineResponse ok d c p = endIssue d i p.hdr.status p.hdr.poison p.payload := by
  simp [lineResponse, hi, hc, hok]

theorem lineFormOk_payload (h : lineFormOk p) (hop : p.hdr.op = 0x81) : p.payload.length = 64 := by
  simp only [lineFormOk, hop, Bool.and_eq_true, beq_iff_eq] at h
  exact h.1.1.1.2

end

theorem endIssue_reqs (d : Dev) (i : LineIssue) (st : Nat) (poison : Bool) (line : Bytes) :
    (endIssue d i st poison line).reqs = d.reqs :=
  (endIssue_stays (W := among [.ports, .lines]) (.refl d) ⟨rfl⟩).reqs_eq rfl rfl rfl rfl rfl

/-- The fleet number that the report of a dead issue names. -/
def deadFleet (d : Dev) (i : LineIssue) : Nat := match findConn d i.desc.conn with | some c => c.peerFleet | none => 0xFFFFFF

theorem execLineDeadTimeout_next (hi : findIssue s.dev t = some i) (ht : i.issuedAt + deadNs s.dev ≤ now s.dev) :
    execLineDeadTimeout t s = .next (s.setDev (collect
      (detectFor (ctrInc (endIssue s.dev i St.msaTimeout false []) cMsaTimeouts) i.desc.owner 0x02 (deadFleet s.dev i) 0x710 0 0))) := by
  refine onDevC_of_eq ?_
  rw [hi]
  dsimp only
  rw [if_neg (by omega)]
  rfl

theorem lineDeadTimeout_ends (hw : ∀ q, findLq s.dev i.desc.owner = some q → q.waiting = []) (ha : i.desc.result % 64 = 0)
    (hup : fnUp s.dev i.desc.owner) (hs : streaming s.dev = false) (hi : findIssue s.dev t = some i)
    (ht : i.issuedAt + deadNs s.dev ≤ now s.dev) :
    Completes (.lineDeadTimeout t) s (fun d => IssueEnded s.dev d i St.msaTimeout (!i.desc.write) ∧ d.reqs = s.dev.reqs) := by
  have hend : IssueEnded s.dev (endIssue s.dev i St.msaTimeout false []) i St.msaTimeout (!i.desc.write) := by
    cases hwr : i.desc.write with
    | false => exact endIssue_bad hw ha hup hs hwr (by decide)
    | true => exact endIssue_write hw ha hup hs hwr
  have hrep := (ctrInc_reports (endIssue s.dev i St.msaTimeout false []) cMsaTimeouts).trans
    (detectFor_reports _ i.desc.owner 0x02 (deadFleet s.dev i) 0x710 0 0)
  have hfr := collect_frees (detectFor (ctrInc (endIssue s.dev i St.msaTimeout false []) cMsaTimeouts) i.desc.owner 0x02
    (deadFleet s.dev i) 0x710 0 0)
  exact ⟨_, execLineDeadTimeout_next hi ht, hend.after (hfr.lines.trans hrep.lines) (hrep.out.trans hfr.out),
    hfr.reqs.trans (hrep.reqs.trans (endIssue_reqs ..))⟩

section
variable {p : LinePkt} (hcheck : lineCheck s.dev p = (some c, e)) (hi : findIssue e p.hdr.tag = some i) (hc : i.desc.conn = c.num)
include hcheck hi hc

/-- A response of its issue ends it. -/
theorem onLine_ends {op : Nat} {ok : LineIssue → Bool} (hop : p.hdr.op = op) (hok : ok i) :
    onLine op (lineResponse ok) p s = .next (s.setDev (collect (endIssue e i p.hdr.status p.hdr.poison p.payload))) := by
  rw [onLine_next hop hcheck, lineResponse_ends hi hc hok]

end

end

end

/-- Settles O32: a poll, a descriptor and a response each find their queue or issue by its owner or tag, and act on that alone; a result
goes out as whole writes since its address is a multiple of 64. -/
theorem lineIssuerCommandsComplete : Obligations.LineIssuerCommandsComplete := by
  unfold Obligations.LineIssuerCommandsComplete
  refine ⟨fun s fn v ho hf => ?_, fun s o q hq => ?_, fun s i hw ha hup hs => ?_⟩
  · exact ⟨fun hb => ⟨⟨_, show execLineQueueSetup fn v s = _ from onLqSetup_busy ho hf hb, rfl⟩,
      ⟨_, show execLineQueueTeardown fn v s = _ from onLqSetup_busy ho hf hb, rfl⟩⟩, lineQueueSetup_opens ho hf,
      fun q hb hn hq hwait => lineQueueTeardown_closes ho hf hb hn hq hwait⟩
  · exact ⟨fun bs hlen hup => ⟨linePoll_stops hq hlen hup, linePoll_waits hq hlen hup,
      fun write c k hd hop hok hc hr hco hwait hfence hk => lineDescriptor_issues hq hlen hup hd hop hok hc hr hco hwait hfence hk⟩,
      fun t i c hi hwr hn ht hc hr => lineReadResend_resends hi hwr hn ht hc hr⟩
  · refine ⟨fun p c e hcheck hi hc => ?_, fun t hi ht => ?_⟩
    · obtain ⟨hform, as, he⟩ := lineCheck_some hcheck
      have hlines : e.lines = s.dev.lines := by rw [he]
      have hi' : findIssue e p.hdr.tag = some i := by rwa [findIssue, hlines]
      have hw' : ∀ q, findLq e i.desc.owner = some q → q.waiting = [] := fun q hq => hw q ((findLq_congr hlines _).symm.trans hq)
      have hup' : fnUp e i.desc.owner := by rw [he]; exact hup
      have hs' : streaming e = false := by rw [he]; exact hs
      have htb : tBit e i.desc.owner = tBit s.dev i.desc.owner := by rw [he]; rfl
      have ended {x : Dev} {st : Nat} {bad : Bool} (h : IssueEnded e x i st bad) :
          (collect x).lines.issues = dropFirst (fun x => x.tag == i.tag) s.dev.lines.issues ∧
            .hostWrite i.desc.owner (i.desc.result + 64) (le (st + 2 ^ 16 * bit1 bad + 2 ^ 32 * i.desc.seq.toNat) 8) false false
              (tBit s.dev i.desc.owner) ∈ (collect x).out :=
        ⟨by rw [(collect_frees x).lines, h.issues, hlines], (collect_frees x).out.subset (htb ▸ h.told)⟩
      refine ⟨fun hop hwr hst hpo => ?_, fun hop hwr => ?_, fun hop hwr => ?_, fun hop hwr hst => ?_⟩
      · obtain ⟨hend, hline⟩ := endIssue_good hw' ha hup' hs' hwr (lineFormOk_payload hform hop)
        refine ⟨_, show execRdData p s = _ from onLine_ends hcheck hi' hc hop (by simp [hwr]), ?_⟩
        rw [hst, hpo]
        exact ⟨ended hend, (collect_frees _).out.subset (htb ▸ hline)⟩
      · exact ⟨_, show execWrDone p s = _ from onLine_ends hcheck hi' hc hop hwr, ended (endIssue_write hw' ha hup' hs' hwr)⟩
      · exact ⟨_, show execLineNak p s = _ from onLine_ends hcheck hi' hc hop rfl, ended (endIssue_write hw' ha hup' hs' hwr)⟩
      · exact ⟨_, show execLineNak p s = _ from onLine_ends hcheck hi' hc hop rfl, ended (endIssue_bad hw' ha hup' hs' hwr hst)⟩
    · obtain ⟨d, hd, ⟨h1, h2⟩, h3⟩ := lineDeadTimeout_ends hw ha hup hs hi ht
      exact ⟨d, hd, ⟨h1, h2⟩, h3⟩

end Sys2Proof.Machine
end

section
/-! # Line requests at the target (R557 to R564) -/

namespace Sys2Proof.Machine

open Sys2Proof

set_option Elab.async false -- each lemma rests on the ones before it

section
variable {s : State} {d e x : Dev} {c : Conn} {p : LinePkt} {op a o off : Nat} {bs : Bytes}

/-! ## The answer -/

/-- A line packet waits at a port, with its operation, tag and data, and ST_OK. -/
def lineSent (d : Dev) (op : Nat) (tag : U32) (bs : Bytes) : Prop :=
  ∃ f ∈ d.ports.flatMap (·.queue), ∃ fh h, f.what = .line fh h bs ∧ h.op = op ∧ h.tag = tag ∧ h.status = St.ok

theorem lineSent_of_portAt {n : Nat} {tag : U32} {f : PortFrame} {fh : FrameHead} {h : LineHdr} (hn : n < d.ports.length)
    (hf : f ∈ (portAt d n).queue) (hw : f.what = .line fh h bs) (hop : h.op = op) (htag : h.tag = tag) (hst : h.status = St.ok) :
    lineSent d op tag bs := by
  refine ⟨f, List.mem_flatMap.mpr ⟨d.ports[n], List.getElem_mem hn, ?_⟩, fh, h, hw, hop, htag, hst⟩
  rwa [portAt, List.getD_eq_getElem _ _ hn] at hf

theorem sendLine_rxStep (d : Dev) (c : Conn) (vc : Nat) (h : LineHdr) (bs : Bytes) : RxStep d (sendLine d c vc h bs) := by
  unfold sendLine
  dsimp only
  split
  · exact .refl d
  next he => exact (takePn_rxStep he).trans (queueFrame_rxStep ..)

/-- A line packet sent under an association that can send waits at its port. -/
theorem sendLine_sent {vc : Nat} {h : LineHdr} (hsa : saUsable d c.saTx = true) (hports : d.ports.length = 8) (hst : h.status = St.ok) :
    lineSent (sendLine d c vc h bs) h.op h.tag bs := by
  obtain ⟨⟨pn, y⟩, hy⟩ := takePn_of_usable d hsa
  have hlen : y.ports.length = 8 := (takePn_rxStep hy).ports.trans hports
  unfold sendLine
  dsimp only
  rw [hy]
  dsimp only
  refine lineSent_of_portAt ?_ (mem_queueFrame y _ (hlen.symm ▸ port_lt c _)) rfl rfl rfl hst
  rw [(queueFrame_rxStep ..).ports, hlen]
  exact port_lt c _

theorem lineAnswer_rxStep (d : Dev) (c : Conn) (p : LinePkt) (op st : Nat) (po : Bool) (bs : Bytes) :
    RxStep d (lineAnswer d c p op st po bs) :=
  RxStep.trans (.ite (ctrInc_rxStep ..) (.refl d)) (sendLine_rxStep ..)

/-- After an answer and the block's end: the answer waits while its association can send, and the requests, the intake and every byte
still mapped stand. -/
structure LineTold (c : Conn) (p : LinePkt) (x : Dev) (op : Nat) (bs : Bytes) (y : Dev) : Prop where
  sent : saUsable y c.saTx → lineSent y op p.hdr.tag bs
  reqs : y.reqs = x.reqs
  intake : y.intake = x.intake
  bytes : KeepsMapped x y

theorem lineAnswer_told (hop : op ≠ 0x83) (hports : x.ports.length = 8) :
    LineTold c p x op bs (collect (lineAnswer x c p op St.ok false bs)) where
  sent h := by
    have hx := (lineAnswer_rxStep x c p op St.ok false bs).usable _ ((collect_rxStep _).usable _ h)
    have hans : lineAnswer x c p op St.ok false bs = sendLine x c 2 { op := op, tag := p.hdr.tag, status := St.ok, poison := false } bs := by
      simp [lineAnswer, hop]
    rw [hans]
    have h := sendLine_sent (vc := 2) (bs := bs) (h := { op := op, tag := p.hdr.tag, status := St.ok, poison := false }) hx hports rfl
    unfold lineSent at h ⊢
    rwa [(collect_frees _).ports]
  reqs := (collect_frees _).reqs.trans (lineAnswer_rxStep ..).reqs
  intake := (collect_frees _).intake.trans (lineAnswer_rxStep ..).intake
  bytes := (KeepsMapped.of_sas ((lineAnswer_stays (W := among [.ports]) (.refl x) ⟨rfl⟩).sas rfl)).trans (collect_keepsMapped _)

/-! ## Reads -/

/-- A line that is not poisoned and is read without errors is good. -/
theorem readSasLine_good (ha : a % 64 = 0) (hp : linePoisoned d a = false) :
    readSasLine d (a / 4096) (a % 4096 / 64) [] = (.good, d) := by
  have haddr : 4096 * (a / 4096) + 64 * (a % 4096 / 64) = a := by omega
  unfold readSasLine
  simp only [haddr]
  unfold linePoisoned at hp
  cases hl : lineAt d a with
  | none => rfl
  | some y =>
    rw [hl] at hp
    have hline : readLine d y.1 y.2.1 y.2.2 [] = (.good, d) := by
      unfold readLine
      rw [if_neg (by simpa [stackAt] using hp)]
      rfl
    dsimp only
    rw [hline]

section
variable (hcheck : lineCheck s.dev p = (some c, e)) (hc : c.state ≠ .error)
include hcheck hc

theorem lineRd_work (hop : p.hdr.op = 0x01) (ht : lineTarget e c p.hdr false = .work a o) (hz : e.sec.zeroized = false)
    (hp : linePoisoned e a = false) (ha : a % 64 = 0) :
    execLineRd p [] false s = .next (s.setDev (collect
      (lineAnswer (ctrInc e cMsaRdServed) c p 0x81 St.ok false (workRead (ctrInc e cMsaRdServed) a 64)))) := by
  refine (onLine_next hop hcheck).trans ?_
  simp only [beq_iff_eq, hc, if_false, ht, hz, readSasLine_good ha hp, Bool.false_eq_true]
  rfl

theorem lineRd_intake {errs : SymbolErrors} (hop : p.hdr.op = 0x01) (ht : lineTarget e c p.hdr false = .intake off) :
    execLineRd p errs false s = .next (s.setDev (collect
      (lineAnswer (ctrInc e cMsaRdServed) c p 0x81 St.ok false (windowRead e off 64)))) := by
  refine (onLine_next hop hcheck).trans ?_
  simp only [beq_iff_eq, hc, if_false, ht, Bool.false_eq_true]

/-! ## Writes -/

section
variable (hop : p.hdr.op = 0x02) (hcus : e.flt.custody = .normal)
include hop hcus

theorem lineWr_work {x : Dev} (ht : lineTarget e c p.hdr true = .work a o) (hst : lineStore e o a p.payload = (St.ok, x)) :
    execLineWr p false s = .next (s.setDev (collect (lineAnswer (ctrInc x cMsaWrServed) c p 0x82 St.ok false []))) := by
  refine (onLine_next hop hcheck).trans ?_
  simp only [beq_iff_eq, hc, if_false, hcus, bne_self_eq_false, ht, hst, Bool.false_eq_true, beq_self_eq_true, if_true]

theorem lineWr_intake (ht : lineTarget e c p.hdr true = .intake off) :
    execLineWr p false s = .next (s.setDev (collect
      (lineAnswer (ctrInc (windowWrite e off p.payload true) cMsaWrServed) c p 0x82 St.ok false []))) := by
  refine (onLine_next hop hcheck).trans ?_
  simp only [beq_iff_eq, hc, if_false, hcus, bne_self_eq_false, ht, Bool.false_eq_true]

end

end

theorem lineFormOk_write (h : lineFormOk p) (hop : p.hdr.op = 0x02) : p.payload.length = 64 := by
  simp only [lineFormOk, hop, Bool.and_eq_true, beq_iff_eq] at h
  exact h.1.1.1.2

/-- Bytes written one by one into the window stand there, and no other has changed. -/
theorem memRead_foldl_memWrite (m : Mem) (off n y : Nat) (bs : Bytes) :
    memRead 0 ((List.range n).foldl (fun m i => memWrite 0 m (off + i) (bs.getD i 0)) m) y =
      if off ≤ y ∧ y < off + n then bs.getD (y - off) 0 else memRead 0 m y := by
  induction n with
  | zero => rw [if_neg (by omega)]; rfl
  | succ n ih =>
    rw [List.range_succ, List.foldl_append, List.foldl_cons, List.foldl_nil, memRead_write, ih]
    by_cases hy : off + n = y
    · subst hy
      simp
    · by_cases hin : off ≤ y ∧ y < off + n
      · rw [if_neg hy, if_pos hin, if_pos (by omega)]
      · rw [if_neg hy, if_neg hin, if_neg (by omega)]

theorem windowWrite_window {remote : Bool} (hen : ∀ i, i < bs.length → laneEnabled d ((off + i) / 65536)) :
    (windowWrite d off bs remote).intake.window =
      (List.range bs.length).foldl (fun m i => memWrite 0 m (off + i) (bs.getD i 0)) d.intake.window := by
  have hon : (List.range bs.length).filter (fun i => laneEnabled d ((off + i) / 65536)) = List.range bs.length :=
    List.filter_eq_self.mpr fun i hi => hen i (List.mem_range.mp hi)
  simp only [windowWrite, hon]

/-! ## Landing pages -/

theorem landPages_congr (h : e.img = d.img) (r : Req) : Req.landPages e r = Req.landPages d r := by
  simp only [Req.landPages, landingSlots, img, h]

/-- The page that a slot of a layer fills is of that layer, and falls into that slot. -/
theorem landPage_slot {r : Req} {l k : Nat} (hk : k < Req.landPages d r) :
    (Req.landPage d r l k).layer = l ∧ (Req.landPage d r l k).page % Req.landPages d r = k := by
  unfold Req.landPage
  dsimp only
  cases hf : r.landing.find? (fun x => x.layer == l && x.page % Req.landPages d r == k) with
  | some y => simpa using List.find?_some hf
  | none =>
    refine ⟨rfl, ?_⟩
    show (r.prefixPages + (k + Req.landPages d r - r.prefixPages % Req.landPages d r) % Req.landPages d r) % Req.landPages d r = k
    have hr : r.prefixPages % Req.landPages d r < Req.landPages d r := Nat.mod_lt _ (by omega)
    have hdiv := Nat.mod_add_div r.prefixPages (Req.landPages d r)
    have hsum : r.prefixPages + (k + Req.landPages d r - r.prefixPages % Req.landPages d r) =
        k + Req.landPages d r * (r.prefixPages / Req.landPages d r + 1) := by
      rw [Nat.mul_add]
      omega
    rw [Nat.add_mod_mod, hsum, Nat.add_mul_mod_self_left, Nat.mod_eq_of_lt hk]

/-- A landing page stored is the one that its slot fills. -/
theorem landPage_setLanding {r : Req} {y : Landing} (l k : Nat) (hl : y.layer = l) (hk : y.page % Req.landPages d r = k) :
    Req.landPage d (Req.setLanding d r y) l k = y := by
  have hn : Req.landPages d (Req.setLanding d r y) = Req.landPages d r := rfl
  subst hl hk
  unfold Req.landPage
  rw [hn]
  have hnone : (r.landing.filter (fun x => !(x.layer == y.layer && x.page % Req.landPages d r == y.page % Req.landPages d r))).find?
      (fun x => x.layer == y.layer && x.page % Req.landPages d r == y.page % Req.landPages d r) = none :=
    List.find?_eq_none.mpr fun x hx => by simpa [or_iff_not_imp_left] using (List.mem_filter.mp hx).2
  show ((List.find? _ (_ ++ [y])).getD _) = y
  rw [List.find?_append, hnone]
  simp

/-- A line of a landing page belongs to a live entry, and to a slot that the entry has. -/
theorem landingLine_some {r : Req} {l k line : Nat} (h : landingLine d a = some (r, l, k, line)) :
    r ∈ d.reqs.live ∧ k < Req.landPages d r := by
  unfold landingLine at h
  split at h
  · cases h
  next y hy =>
    dsimp only at h
    split at h
    · cases h
    next hz =>
      split at h
      · simp only [Bool.or_eq_true, not_or, beq_iff_eq] at hz
        obtain ⟨rfl, -, rfl, -⟩ : y = r ∧ _ ∧ _ = k ∧ _ := by simpa using h
        exact ⟨List.mem_of_find?_eq_some hy, Nat.mod_lt _ (Nat.pos_of_ne_zero hz.2)⟩
      · cases h

theorem lineStore_plain (hl : landingLine d a = none) (hw : workWrite d o a bs = some e) : lineStore d o a bs = (St.ok, e) := by
  rw [lineStore, hl, hw]

/-- An entry with a line of a landing page received. -/
def Req.landed (d e : Dev) (r : Req) (l k line : Nat) : Req :=
  let x := Req.landPage d r l k
  let x := { x with lines := if x.lines.contains line then x.lines else line :: x.lines }
  let r := Req.setLanding e r x
  if r.pageComplete x then { r with ready := r.ready ++ [(x.layer, x.page)] } else r

theorem lineStore_landing {r : Req} {l k line : Nat} (hl : landingLine d a = some (r, l, k, line))
    (hp : r.pageComplete (Req.landPage d r l k) = false) (hw : workWrite d o a bs = some e) :
    lineStore d o a bs = (St.ok, setReq e (Req.landed d e r l k line)) := by
  rw [lineStore, hl]
  dsimp only
  rw [if_neg (show ¬r.pageComplete (Req.landPage d r l k) = true by simp [hp]), hw]
  rfl

theorem landed_slot (d e : Dev) (r : Req) (l k line : Nat) : (Req.landed d e r l k line).slot = r.slot := by
  unfold Req.landed
  dsimp only
  split_ifs <;> rfl

/-- The line is among those that its slot's page has. -/
theorem landed_line {r : Req} {l k line : Nat} (himg : e.img = d.img) (hx : x.img = d.img) (hk : k < Req.landPages d r) :
    (Req.landed d e r l k line).state = r.state ∧ line ∈ (Req.landPage x (Req.landed d e r l k line) l k).lines := by
  obtain ⟨hlayer, hpage⟩ := landPage_slot (l := l) hk
  set y : Landing := { Req.landPage d r l k with
    lines := if (Req.landPage d r l k).lines.contains line then (Req.landPage d r l k).lines else line :: (Req.landPage d r l k).lines }
    with hy
  have hmem : line ∈ y.lines := by
    by_cases h : line ∈ (Req.landPage d r l k).lines <;> simp [hy, h]
  have hset : Req.landPage x (Req.setLanding e r y) l k = y := by
    rw [show Req.setLanding e r y = Req.setLanding x r y by
      simp only [Req.setLanding, landPages_congr himg, landPages_congr hx]]
    exact landPage_setLanding l k hlayer ((congrArg (y.page % ·) (landPages_congr hx r)).trans hpage)
  unfold Req.landed
  dsimp only
  rw [← hy]
  split
  · exact ⟨rfl, show line ∈ (Req.landPage x (Req.setLanding e r y) l k).lines by rw [hset]; exact hmem⟩
  · exact ⟨rfl, by rw [hset]; exact hmem⟩

/-- What a write of WORK leaves of a device: its bytes and the others that are still mapped. -/
theorem KeepsMapped.written {y : Dev} (hk : KeepsMapped x y) (hx : x.sas.work = memWriteN 0 d.sas.work a bs) :
    (∀ i, i < bs.length → (tget y.sas.frames ((a + i) / 4096)).isSome → memRead 0 y.sas.work (a + i) = bs.getD i 0) ∧
      ∀ z, (z < a ∨ a + bs.length ≤ z) → (tget y.sas.frames (z / 4096)).isSome → memRead 0 y.sas.work z = memRead 0 d.sas.work z := by
  refine ⟨fun i hi hm => ?_, fun z hz hm => ?_⟩
  · rw [(hk _ hm).2, hx, memRead_writeN_inside hi]
  · rw [(hk _ hm).2, hx, memRead_writeN_outside hz]

end

section
variable {s : State} {e : Dev} {c : Conn} {p : LinePkt} (hcheck : lineCheck s.dev p = (some c, e)) (hc : c.state ≠ .error)
  (hports : e.ports.length = 8)
include hcheck hc hports

omit hc hports in
/-- What a packet's checks leave. -/
theorem lineCheck_leaves : e.reqs = s.dev.reqs ∧ e.intake = s.dev.intake ∧ e.sas = s.dev.sas ∧ e.img = s.dev.img ∧ e.flt = s.dev.flt ∧
    e.sec.zeroized = s.dev.sec.zeroized := by
  obtain ⟨-, as, rfl⟩ := lineCheck_some hcheck
  exact ⟨rfl, rfl, rfl, rfl, rfl, rfl⟩

theorem lineRd_work_completes {a o : Nat} (hop : p.hdr.op = 0x01) (ht : lineTarget e c p.hdr false = .work a o)
    (hz : s.dev.sec.zeroized = false) (hp : linePoisoned e a = false) (ha : a % 64 = 0) :
    Completes (.lineRd p [] false) s (fun d => (saUsable d c.saTx → lineSent d 0x81 p.hdr.tag (workRead s.dev a 64)) ∧
      d.reqs = s.dev.reqs ∧ d.intake = s.dev.intake) := by
  obtain ⟨hreqs, hintake, hsas, -, -, hzero⟩ := lineCheck_leaves hcheck
  have hinc := ctrInc_reports e cMsaRdServed
  have h := lineAnswer_told (x := ctrInc e cMsaRdServed) (c := c) (p := p) (op := 0x81) (bs := workRead (ctrInc e cMsaRdServed) a 64)
    (by decide) (by rw [hinc.ports, hports])
  refine ⟨_, lineRd_work hcheck hc hop ht (hzero ▸ hz) hp ha, ?_, h.reqs.trans (hinc.reqs.trans hreqs),
    h.intake.trans (hinc.intake.trans hintake)⟩
  rw [show workRead s.dev a 64 = workRead (ctrInc e cMsaRdServed) a 64 by rw [workRead, workRead, hinc.sas, hsas]]
  exact h.sent

theorem lineRd_intake_completes {off : Nat} {errs : SymbolErrors} (hop : p.hdr.op = 0x01)
    (ht : lineTarget e c p.hdr false = .intake off) :
    Completes (.lineRd p errs false) s (fun d => (saUsable d c.saTx → lineSent d 0x81 p.hdr.tag (windowRead s.dev off 64)) ∧
      d.reqs = s.dev.reqs ∧ d.intake = s.dev.intake) := by
  obtain ⟨hreqs, hintake, -, himg, -, -⟩ := lineCheck_leaves hcheck
  have hinc := ctrInc_reports e cMsaRdServed
  have h := lineAnswer_told (x := ctrInc e cMsaRdServed) (c := c) (p := p) (op := 0x81) (bs := windowRead e off 64) (by decide)
    (by rw [hinc.ports, hports])
  refine ⟨_, lineRd_intake hcheck hc hop ht, ?_, h.reqs.trans (hinc.reqs.trans hreqs), h.intake.trans (hinc.intake.trans hintake)⟩
  rw [show windowRead s.dev off 64 = windowRead e off 64 by
    simp only [windowRead, laneEnabled, img, himg, hintake]
    rfl]
  exact h.sent

section
variable (hop : p.hdr.op = 0x02) (hcus : s.dev.flt.custody = .normal)
include hop hcus

theorem lineWr_work_completes {a o : Nat} {e2 : Dev} (ht : lineTarget e c p.hdr true = .work a o) (hl : landingLine e a = none)
    (hw : workWrite e o a p.payload = some e2) :
    Completes (.lineWr p false) s (fun d => (saUsable d c.saTx → lineSent d 0x82 p.hdr.tag []) ∧ d.reqs = s.dev.reqs ∧
      d.intake = s.dev.intake ∧
      (∀ i, i < 64 → (tget d.sas.frames ((a + i) / 4096)).isSome → memRead 0 d.sas.work (a + i) = p.payload.getD i 0) ∧
      (∀ x, (x < a ∨ a + 64 ≤ x) → (tget d.sas.frames (x / 4096)).isSome → memRead 0 d.sas.work x = memRead 0 s.dev.sas.work x)) := by
  obtain ⟨hreqs, hintake, hsas, -, hflt, -⟩ := lineCheck_leaves hcheck
  obtain ⟨hrx, hwork⟩ := workWrite_writes hw
  have hinc := ctrInc_reports e2 cMsaWrServed
  have h := lineAnswer_told (x := ctrInc e2 cMsaWrServed) (c := c) (p := p) (op := 0x82) (bs := []) (by decide)
    (by rw [hinc.ports, hrx.ports, hports])
  obtain ⟨hin, hout⟩ := h.bytes.written ((congrArg Sas.work hinc.sas).trans hwork)
  rw [lineFormOk_write (lineCheck_some hcheck).1 hop] at hin hout
  rw [hsas] at hout
  exact ⟨_, lineWr_work hcheck hc hop (hflt ▸ hcus) ht (lineStore_plain hl hw), h.sent,
    h.reqs.trans (hinc.reqs.trans (hrx.reqs.trans hreqs)), h.intake.trans (hinc.intake.trans (hrx.intake.trans hintake)), hin, hout⟩

theorem lineWr_landing_completes {a o l k line : Nat} {e2 : Dev} {r : Req} (ht : lineTarget e c p.hdr true = .work a o)
    (hl : landingLine e a = some (r, l, k, line)) (hp : r.pageComplete (Req.landPage e r l k) = false)
    (hw : workWrite e o a p.payload = some e2) :
    Completes (.lineWr p false) s (fun d => (saUsable d c.saTx → lineSent d 0x82 p.hdr.tag []) ∧ d.intake = s.dev.intake ∧
      entryAt d r.slot (fun x => x.state = r.state ∧ line ∈ (Req.landPage d x l k).lines) ∧
      ∀ i, i < 64 → (tget d.sas.frames ((a + i) / 4096)).isSome → memRead 0 d.sas.work (a + i) = p.payload.getD i 0) := by
  obtain ⟨-, hintake, -, -, hflt, -⟩ := lineCheck_leaves hcheck
  obtain ⟨hrx, hwork⟩ := workWrite_writes hw
  obtain ⟨hlive, hk⟩ := landingLine_some hl
  have hinc := ctrInc_reports (setReq e2 (Req.landed e e2 r l k line)) cMsaWrServed
  have hset : Stays (among [.requests]) e2 (setReq e2 (Req.landed e e2 r l k line)) := setReq_stays (.refl e2) ⟨rfl⟩
  have hintake2 : (setReq e2 (Req.landed e e2 r l k line)).intake = e2.intake := (mirrorPush_reports ..).intake
  have h := lineAnswer_told (x := ctrInc (setReq e2 (Req.landed e e2 r l k line)) cMsaWrServed) (c := c) (p := p) (op := 0x82) (bs := [])
    (by decide) (by rw [hinc.ports, hset.ports rfl, hrx.ports, hports])
  obtain ⟨hin, -⟩ := h.bytes.written ((congrArg Sas.work (hinc.sas.trans (hset.sas rfl))).trans hwork)
  rw [lineFormOk_write (lineCheck_some hcheck).1 hop] at hin
  have himg2 : e2.img = e.img := ((workWrite_stays (W := among [.sas, .stk, .bob]) (.refl e) hw ⟨rfl⟩).image rfl).1
  have himg : (collect (lineAnswer (ctrInc (setReq e2 (Req.landed e e2 r l k line)) cMsaWrServed) c p 0x82 St.ok false [])).img = e.img :=
    (((collect_stays (lineAnswer_stays (ctrInc_stays (setReq_stays (.refl e2) ⟨rfl⟩)) ⟨rfl⟩) ⟨rfl⟩ :
      Stays (among [.requests, .ports, .sas, .bob]) e2 _).image rfl).1).trans himg2
  refine ⟨_, lineWr_work hcheck hc hop (hflt ▸ hcus) ht (lineStore_landing hl hp hw), h.sent,
    h.intake.trans (hinc.intake.trans (hintake2.trans (hrx.intake.trans hintake))), ?_, hin⟩
  exact entryAt_of_reqs (h.reqs.trans hinc.reqs) (entryAt_setReq ⟨r, hrx.reqs.symm ▸ hlive, rfl⟩ (landed_slot ..)
    (landed_line himg2 himg hk))

theorem lineWr_intake_completes {off : Nat} (ht : lineTarget e c p.hdr true = .intake off)
    (hen : ∀ i, i < 64 → laneEnabled s.dev ((off + i) / 65536)) :
    Completes (.lineWr p false) s (fun d => (saUsable d c.saTx → lineSent d 0x82 p.hdr.tag []) ∧ d.reqs = s.dev.reqs ∧
      (∀ i, i < 64 → memRead 0 d.intake.window (off + i) = p.payload.getD i 0) ∧
      (∀ x, (x < off ∨ off + 64 ≤ x) → memRead 0 d.intake.window x = memRead 0 s.dev.intake.window x)) := by
  obtain ⟨hreqs, hintake, -, himg, hflt, -⟩ := lineCheck_leaves hcheck
  have hlen := lineFormOk_write (lineCheck_some hcheck).1 hop
  have hinc := ctrInc_reports (windowWrite e off p.payload true) cMsaWrServed
  have h := lineAnswer_told (x := ctrInc (windowWrite e off p.payload true) cMsaWrServed) (c := c) (p := p) (op := 0x82) (bs := [])
    (by decide) (by rw [hinc.ports]; exact hports)
  have hwin := windowWrite_window (d := e) (off := off) (bs := p.payload) (remote := true) fun i hi => by
    simpa only [laneEnabled, img, himg] using hen i (hlen ▸ hi)
  have hread (y : Nat) := memRead_foldl_memWrite e.intake.window off p.payload.length y p.payload
  refine ⟨_, lineWr_intake hcheck hc hop (hflt ▸ hcus) ht, h.sent, h.reqs.trans (hinc.reqs.trans hreqs), fun i hi => ?_, fun x hx => ?_⟩
  · rw [h.intake, hinc.intake, hwin, hread, if_pos (by omega), Nat.add_sub_cancel_left]
  · rw [h.intake, hinc.intake, hwin, hread, if_neg (by omega), hintake]

end

end

/-- Settles O31: a request is served where `lineTarget` says, and its answer waits at its port; what the block frees afterwards changes no
byte that is still mapped. -/
theorem lineTargetCommandsComplete : Obligations.LineTargetCommandsComplete := by
  unfold Obligations.LineTargetCommandsComplete
  intro s p c e hcheck hc hports
  exact ⟨fun a o hop ht hz hp ha => lineRd_work_completes hcheck hc hports hop ht hz hp ha,
    fun off errs hop ht => lineRd_intake_completes hcheck hc hports hop ht,
    fun a o e2 hop hcus ht hl hw => lineWr_work_completes hcheck hc hports hop hcus ht hl hw,
    fun a o e2 r l k line hop hcus ht hl hp hw => lineWr_landing_completes hcheck hc hports hop hcus ht hl hp hw,
    fun off hop hcus ht hen => lineWr_intake_completes hcheck hc hports hop hcus ht hen⟩

end Sys2Proof.Machine
end

section
/-! # The selvedge pair (R694 to R706) -/

namespace Sys2Proof.Machine

open Sys2Proof

set_option Elab.async false -- each lemma rests on the ones before it

section
variable {s : State} {d e x : Dev} {a : Assoc} {recs : List MirrorRec} {op mseq : Nat} {error : Bool} {ses : U64}

/-! ## Frames to the partner -/

/-- A frame goes out under the next packet number of the pair's association. -/
theorem sendSelvedge_emits (ha : findAssoc d (pairSa d) = some a) (hn : a.pn + 2 < 2 ^ 48) :
    sendSelvedge d op mseq error ses recs = emit (usePn d a) (.selvedge op (pairSa d) (a.pn + 1) mseq error ses recs) := by
  unfold sendSelvedge
  rw [ha]
  exact if_pos (by simpa [saUsable, ha] using hn)

/-- Where the pair's association can still send, a frame goes out. -/
theorem sendSelvedge_goes (h : saUsable d (pairSa d)) :
    ∃ pn, Out.selvedge op (pairSa d) pn mseq error ses recs ∈ (sendSelvedge d op mseq error ses recs).out := by
  cases ha : findAssoc d (pairSa d) with
  | none => simp [saUsable, ha] at h
  | some a =>
    rw [sendSelvedge_emits ha (by simpa [saUsable, ha] using h)]
    exact ⟨_, List.mem_cons_self⟩

theorem findAssoc_usePn {i : Nat} (ha : findAssoc d i = some a) : findAssoc (usePn d a) i = some { a with pn := a.pn + 1 } := by
  have hi : a.index = i ∧ a.established = true := by simpa using List.find?_some ha
  obtain ⟨rfl, he⟩ := hi
  exact find?_replaceFirst ⟨a, List.mem_of_find?_eq_some ha, by simp [he]⟩ (by simp [he])

theorem releaseHeld_reports (d : Dev) (upTo : Nat) : Reports d (releaseHeld d upTo) := by
  refine Reports.trans ?_ (.foldl _ (fun d _ => emit_reports d _) _ _)
  constructor <;> rfl

theorem partnerFault_reports (d : Dev) (cause d0 d1 : Nat) : Reports d (partnerFault d cause d0 d1) := detect_reports ..

theorem pnWarning_among (d : Dev) (sa : Nat) : Stays (among []) d (pnWarning d sa) := pnWarning_stays (.refl d)

/-! ## Heartbeats -/

/-- The heartbeat sent, before its warning. -/
def heartbeatOut (d : Dev) : Dev :=
  sendSelvedge (ctrInc { d with pair := { d.pair with lastHeartbeat := some (now d) } } cHbSent) 0x01 d.pair.sent false
    (u64 d.sec.session.toNat) []

theorem execHeartbeatSend_next (hrot : rotRuns s.dev) (hl : pairLinked s.dev) (ht : s.dev.pair.state ≠ .taken)
    (hu : s.dev.pair.state ≠ .unpaired) (hdue : ∀ t, s.dev.pair.lastHeartbeat = some t → t + hbNs s.dev ≤ now s.dev) :
    execHeartbeatSend s = .next (s.setDev (pnWarning (heartbeatOut s.dev) (pairSa s.dev))) := by
  have hlate : ¬(s.dev.pair.lastHeartbeat.any (fun t => now s.dev < t + hbNs s.dev)) = true := by
    cases h : s.dev.pair.lastHeartbeat with
    | none => simp
    | some t => simpa using hdue t h
  refine onDev_of_eq ?_
  rw [if_neg (by simp [hrot, hl, ht, hu]), if_neg hlate]
  rfl

theorem heartbeatOut_emits (ha : findAssoc d (pairSa d) = some a) (hn : a.pn + 2 < 2 ^ 48) :
    heartbeatOut d = emit (usePn (ctrInc { d with pair := { d.pair with lastHeartbeat := some (now d) } } cHbSent) a)
      (.selvedge 0x01 (pairSa d) (a.pn + 1) d.pair.sent false (u64 d.sec.session.toNat) []) := by
  have hrep := ctrInc_reports { d with pair := { d.pair with lastHeartbeat := some (now d) } } cHbSent
  have hsa : pairSa (ctrInc { d with pair := { d.pair with lastHeartbeat := some (now d) } } cHbSent) = pairSa d := by
    simp only [pairSa, img, hrep.img]
  have hfind : findAssoc (ctrInc { d with pair := { d.pair with lastHeartbeat := some (now d) } } cHbSent) (pairSa d) = some a := by
    unfold findAssoc
    rw [ctrInc_sec]
    exact ha
  unfold heartbeatOut
  rw [sendSelvedge_emits (hsa.symm ▸ hfind) hn, hsa]

theorem heartbeatSend_completes (hrot : rotRuns s.dev) (hl : pairLinked s.dev) (ht : s.dev.pair.state ≠ .taken)
    (hu : s.dev.pair.state ≠ .unpaired) (hdue : ∀ t, s.dev.pair.lastHeartbeat = some t → t + hbNs s.dev ≤ now s.dev) :
    Completes .heartbeatSend s (fun d => d.pair.lastHeartbeat = some (now s.dev) ∧ d.pair.state = s.dev.pair.state ∧
      (∀ a, findAssoc s.dev (pairSa s.dev) = some a ∧ a.pn + 2 < 2 ^ 48 →
        .selvedge 0x01 (pairSa s.dev) (a.pn + 1) s.dev.pair.sent false (u64 s.dev.sec.session.toNat) [] ∈ d.out) ∧
      (∀ a, findAssoc s.dev (pairSa s.dev) = some a ∧ a.pn + 2 < 2 ^ 48 - 2 ^ 40 →
        d.pair = { s.dev.pair with lastHeartbeat := some (now s.dev) } ∧
        findAssoc d (pairSa s.dev) = some { a with pn := a.pn + 1 })) := by
  have hwarn := pnWarning_among (heartbeatOut s.dev) (pairSa s.dev)
  have hpair : pairCore (heartbeatOut s.dev).pair = pairCore { s.dev.pair with lastHeartbeat := some (now s.dev) } :=
    (sendSelvedge_reports ..).pair.trans (ctrInc_reports ..).pair
  obtain ⟨-, -, -, -, -, -, -, hbeat⟩ := hwarn.pairRest rfl
  refine ⟨_, execHeartbeatSend_next hrot hl ht hu hdue, hbeat.trans (congrArg Pair.lastHeartbeat hpair :),
    (hwarn.pair rfl).1.trans (congrArg Pair.state hpair :), ?_, ?_⟩
  · rintro a ⟨ha, hn⟩
    refine hwarn.out.subset ?_
    rw [heartbeatOut_emits ha hn]
    exact List.mem_cons_self
  · rintro a ⟨ha, hn⟩
    have hemits := heartbeatOut_emits ha (by omega)
    have hfind : findAssoc (heartbeatOut s.dev) (pairSa s.dev) = some { a with pn := a.pn + 1 } := by
      rw [hemits]
      refine findAssoc_usePn (d := ctrInc _ cHbSent) ?_
      unfold findAssoc
      rw [ctrInc_sec]
      exact ha
    have hquiet : pnWarning (heartbeatOut s.dev) (pairSa s.dev) = heartbeatOut s.dev :=
      if_neg (by simp [hfind]; omega)
    rw [hquiet]
    refine ⟨?_, hfind⟩
    rw [hemits]
    exact ctrInc_pair { s.dev with pair := { s.dev.pair with lastHeartbeat := some (now s.dev) } } cHbSent

/-! ## Frames from the partner -/

/-- The device with a verified frame's time noted. -/
def heard (d : Dev) : Dev := { d with pair := { d.pair with lastFrame := now d } }

theorem onSelvedge_next {f : Dev → Dev} (hl : pairLinked s.dev) (ht : s.dev.pair.state ≠ .taken) (hu : s.dev.pair.state ≠ .unpaired)
    (he : f (heard s.dev) = e) : onSelvedge true f s = .next (s.setDev (collect e)) := by
  refine onDevC_of_eq ?_
  rw [if_neg (by simp [hl]), if_neg (by simpa using ht), if_neg (by simpa using hu)]
  exact he

/-! ## Resynchronization -/

theorem mirrorRef_reports (d : Dev) (k : Skein) (r : PageRef) (b : PageBody) : Reports d (mirrorRef d k r b) :=
  (sasMirror_reports ..).trans ((sasMirror_reports ..).trans (.foldl _ (fun _ _ => sasMirror_reports ..) _ _))

theorem mirrorPage_reports (d : Dev) (k : Skein) (r : PageRef) (b : PageBody) (gs : List Nat) : Reports d (mirrorPage d k r b gs) :=
  .ite (.refl d) ((Reports.foldl _ (fun _ _ => sasMirror_reports ..) _ _).trans
    ((mirrorRef_reports ..).trans (.foldl _ (fun _ _ => sasMirror_reports ..) _ _)))

theorem sendSkein_reports (d : Dev) (k : Skein) : Reports d (sendSkein d k) := by
  refine (mirrorDirs_reports ..).trans (.foldl _ (fun d r => ?_) _ _)
  split
  · exact .ite (mirrorRef_reports ..) (mirrorPage_reports ..)
  · exact .refl d

/-- The whole state goes out under reports alone, and RESYNC_DONE after it. -/
theorem sendWhole_eq (d : Dev) : ∃ x, Reports { d with pair := { d.pair with resyncSent := some d.pair.sent } } x ∧
    sendWhole d = sendSelvedge { x with pair := { x.pair with resyncSent := some x.pair.sent } } 0x04 0 false 0 [] := by
  unfold sendWhole
  extract_lets _ d1 d2 d3 d4 d5 _ d6
  have h2 : Reports d1 d2 := .foldl _ (fun d _ => mirrorPush_reports d _) _ _
  have h3 : Reports d2 d3 := .foldl _ (fun d _ => mirrorPush_reports d _) _ _
  have h4 : Reports d3 d4 := .foldl _ (fun d _ => sendSkein_reports d _) _ _
  have h5 : Reports d4 d5 := .foldl _ (fun d _ => sasMirror_reports ..) _ _
  have h6 : Reports d5 d6 := .foldl _ (fun d _ => sasMirror_reports ..) _ _
  exact ⟨d6, h2.trans (h3.trans (h4.trans (h5.trans h6))), rfl⟩

theorem pairSa_congr (h : e.img = d.img) : pairSa e = pairSa d := by simp only [pairSa, img, h]

/-- The own state has gone out: its end is noted, and RESYNC_DONE is sent while a packet number is left. -/
theorem sendWhole_sends (d : Dev) :
    ∃ k, pairCore (collect (sendWhole d)).pair = pairCore { d.pair with resyncSent := some k } ∧
      (saUsable (collect (sendWhole d)) (pairSa d) → ∃ pn, Out.selvedge 0x04 (pairSa d) pn 0 false 0 [] ∈ (collect (sendWhole d)).out) := by
  obtain ⟨x, hx, hw⟩ := sendWhole_eq d
  set y : Dev := { x with pair := { x.pair with resyncSent := some x.pair.sent } } with hy
  have hfr := collect_frees (sendWhole d)
  have hsa : pairSa y = pairSa d := pairSa_congr hx.img
  refine ⟨x.pair.sent, ?_, fun hu => ?_⟩
  · have hcore := congrArg (fun p : Pair => { p with resyncSent := some x.pair.sent }) hx.pair
    rw [hfr.pair, hw, (sendSelvedge_reports ..).pair]
    exact hcore
  · have hsend := (collect_sameRx _).usable _ hu
    rw [hw] at hsend
    have husable : saUsable y (pairSa y) := by
      rw [hsa]
      exact (sendSelvedge_sameRx y 0x04 0 false 0 []).usable _ hsend
    obtain ⟨pn, hpn⟩ := sendSelvedge_goes (op := 0x04) (mseq := 0) (error := false) (ses := 0) (recs := []) husable
    exact ⟨pn, hfr.out.subset (by rw [hw, ← hsa]; exact hpn)⟩

/-- The device with the partner's session recorded, and its stream counting on. -/
def formed (d : Dev) (sess mseq : Nat) : Dev := { d with pair := { d.pair with session := some sess, applied := mseq } }

theorem heartbeat_completes {sess : Nat} (hl : pairLinked s.dev) (hf : s.dev.pair.state = .forming) (hr : s.dev.pair.resyncSent = none) :
    Completes (.heartbeat sess mseq true) s (fun d => d.pair.state = .forming ∧ d.pair.session = some sess ∧
      d.pair.applied = mseq ∧ d.pair.lastFrame = now s.dev ∧ d.pair.resyncSent.isSome ∧
      (saUsable d (pairSa s.dev) → ∃ pn, Out.selvedge 0x04 (pairSa s.dev) pn 0 false 0 [] ∈ d.out)) := by
  set y : Dev := formed (ctrInc (heard s.dev) cHbReceived) sess mseq with hy
  have hp : y.pair = { (heard s.dev).pair with session := some sess, applied := mseq } := by
    rw [hy, formed, ctrInc_pair]
  have hstate : (ctrInc (heard s.dev) cHbReceived).pair.state = .forming := by rw [ctrInc_pair]; exact hf
  have hsent : (ctrInc (heard s.dev) cHbReceived).pair.resyncSent.isNone := by rw [ctrInc_pair]; exact Option.isNone_iff_eq_none.mpr hr
  have hnext : execHeartbeat sess mseq true s = .next (s.setDev (collect (sendWhole y))) :=
    onSelvedge_next hl (by rw [hf]; decide) (by rw [hf]; decide) (by dsimp only; rw [hstate]; exact if_pos hsent)
  have hsa : pairSa y = pairSa s.dev := pairSa_congr (ctrInc_reports (heard s.dev) cHbReceived).img
  clear_value y
  obtain ⟨k, hpair, hout⟩ := sendWhole_sends y
  rw [hp] at hpair
  rw [hsa] at hout
  generalize collect (sendWhole y) = z at hnext hpair hout
  exact ⟨_, hnext, (congrArg Pair.state hpair :).trans hf, (congrArg Pair.session hpair :), (congrArg Pair.applied hpair :),
    (congrArg Pair.lastFrame hpair :), (congrArg (fun p : Pair => p.resyncSent.isSome) hpair :), hout⟩

/-! ## Records applied -/

theorem mapStack_sec {f : Nat} (h : mapStack d f = some e) : e.sec = d.sec := by
  unfold mapStack at h
  split at h
  · cases h
  · cases h
    have hdrop (y : Dev) : (dropUnitSlot y f).sec = y.sec := by
      unfold dropUnitSlot
      split
      · rfl
      · split <;> rfl
    show (dropUnitSlot _ f).sec = _
    rw [hdrop]
    split
    · rfl
    · exact ctrInc_sec ..

theorem mapFrame_sec {f : Nat} (h : mapFrame d f = some e) : e.sec = d.sec := by
  unfold mapFrame at h
  split at h
  · exact mapStack_sec h
  · split at h
    · cases h; rfl
    · split at h
      · cases h
      · obtain ⟨y, hy, rfl⟩ := Option.map_eq_some_iff.mp h
        exact (ctrInc_sec ..).trans (mapStack_sec hy :)

theorem mapAll_sec {fs : List Nat} (h : mapAll d fs = some e) : e.sec = d.sec := by
  induction fs generalizing d with
  | nil => cases h; rfl
  | cons f fs ih =>
    unfold mapAll at h
    split at h
    · cases h
    next hx => exact (ih h).trans (mapFrame_sec hx)

/-- A record applied uses no packet number. -/
theorem applyMirror_sec {r : MirrorRec} (h : applyMirror d r = some e) : e.sec = d.sec := by
  unfold applyMirror at h
  split at h
  · obtain ⟨y, hy, rfl⟩ := Option.map_eq_some_iff.mp h
    exact (mapAll_sec hy :)
  · cases h; rfl
  · cases h; rfl
  · cases h; rfl
  · split at h <;> cases h <;> rfl
  · cases h; rfl

theorem applyAll_sec (h : applyAll d recs = some e) : e.sec = d.sec := by
  induction recs generalizing d with
  | nil => cases h; rfl
  | cons r rs ih =>
    unfold applyAll at h
    split at h
    next hx => exact (ih h).trans (applyMirror_sec hx)
    · cases h

/-! ## Loss -/

/-- A pair that is lost at a time. -/
def Pair.lostNow (p : Pair) (t : Nat) : Pair := { p with
  state := .lost
  lostAt := t
  ownResync := false
  peerResync := false
  resyncSent := none
  foreignTold := false }

/-- The loss of the pair is reported before and after it is noted. -/
theorem enterLost_eq (d : Dev) (cause : Nat) :
    ∃ x, Reports d x ∧ Reports { x with pair := x.pair.lostNow (now x) } (enterLost d cause) :=
  ⟨partnerFault (ctrInc d cLosses) cause 0 0, (ctrInc_reports ..).trans (partnerFault_reports ..),
    (releaseHeld_reports ..).trans (tellSensors_reports ..)⟩

/-- What the loss of the pair keeps. -/
theorem enterLost_core (d : Dev) (cause : Nat) : pairCore (enterLost d cause).pair = pairCore (d.pair.lostNow (now d)) := by
  obtain ⟨x, hx, hrest⟩ := enterLost_eq d cause
  have hnow : now x = now d := congrArg (·.now) hx.clk
  rw [hrest.pair]
  dsimp only
  rw [hnow]
  exact (congrArg (fun p : Pair => p.lostNow (now d)) hx.pair :)

theorem enterLost_leaves (d : Dev) (cause : Nat) : d.out <:+ (enterLost d cause).out ∧ (enterLost d cause).reqs = d.reqs := by
  obtain ⟨x, hx, hrest⟩ := enterLost_eq d cause
  exact ⟨hx.out.trans hrest.out, hrest.reqs.trans hx.reqs⟩

theorem partnerLoss_completes (hm : s.dev.pair.state = .mirrored) (ht : s.dev.pair.lastFrame + lossNs s.dev ≤ now s.dev) :
    Completes .partnerLoss s (fun d => d.pair.state = .lost ∧ d.pair.lostAt = now s.dev ∧ d.pair.mirrorMem = s.dev.pair.mirrorMem ∧
      d.pair.mirrorReqs = s.dev.pair.mirrorReqs ∧ d.reqs = s.dev.reqs) := by
  have hfr := collect_frees (enterLost s.dev 0xA01)
  have hpair := hfr.pair.trans (enterLost_core s.dev 0xA01)
  exact ⟨_, show execPartnerLoss s = _ from onDevC_of_eq (if_pos (by simp [hm, ht])), (congrArg Pair.state hpair :), (congrArg Pair.lostAt hpair :),
    (congrArg Pair.mirrorMem hpair :), (congrArg Pair.mirrorReqs hpair :), hfr.reqs.trans (enterLost_leaves ..).2⟩

/-! ## The mirror stream at its receiver -/

section
variable (hl : pairLinked s.dev) (hm : s.dev.pair.state = .mirrored)
include hl hm

/-- A frame that comes in order is applied and acknowledged. -/
theorem mirror_applies (happ : applyAll (heard s.dev) recs = some e) :
    Completes (.mirror (s.dev.pair.applied + 1) recs true) s (fun d => d.pair.applied = s.dev.pair.applied + 1 ∧
      d.pair.mirrorMem = e.pair.mirrorMem ∧ d.pair.mirrorReqs = e.pair.mirrorReqs ∧ d.pair.mirrorRecs = e.pair.mirrorRecs ∧
      d.pair.mirrorRings = e.pair.mirrorRings ∧
      ∀ a, findAssoc s.dev (pairSa s.dev) = some a ∧ a.pn + 2 < 2 ^ 48 →
        Out.selvedge 0x03 (pairSa s.dev) (a.pn + 1) (s.dev.pair.applied + 1) false 0 [] ∈ d.out) := by
  set y : Dev := { e with pair := { e.pair with applied := s.dev.pair.applied + 1 } } with hy
  have hnext : execMirror (s.dev.pair.applied + 1) recs true s =
      .next (s.setDev (collect (sendSelvedge y 0x03 (s.dev.pair.applied + 1) false 0 []))) := by
    refine onSelvedge_next hl (by rw [hm]; decide) (by rw [hm]; decide) ?_
    rw [if_neg (by simp [heard, hm]), if_neg (by simp [heard])]
    dsimp only
    rw [if_neg (by simp [heard]), happ]
  have hfr := collect_frees (sendSelvedge y 0x03 (s.dev.pair.applied + 1) false 0 [])
  have hpair := hfr.pair.trans (sendSelvedge_reports ..).pair
  refine ⟨_, hnext, (congrArg Pair.applied hpair :), (congrArg Pair.mirrorMem hpair :), (congrArg Pair.mirrorReqs hpair :),
    (congrArg Pair.mirrorRecs hpair :), (congrArg Pair.mirrorRings hpair :), ?_⟩
  rintro a ⟨ha, hn⟩
  have himg : e.img = s.dev.img :=
    ((applyAll_stays (W := among [.pair, .sas, .stk, .bob]) (.refl (heard s.dev)) happ ⟨rfl⟩).image rfl).1
  have hsa : pairSa y = pairSa s.dev := pairSa_congr himg
  have hfind : findAssoc y (pairSa y) = some a := by
    rw [hsa, findAssoc, show y.sec = s.dev.sec from (applyAll_sec happ :)]
    exact ha
  refine hfr.out.subset ?_
  rw [sendSelvedge_emits hfind hn, hsa]
  exact List.mem_cons_self

/-- A frame out of order is answered with an error, and the pair is lost. -/
theorem mirror_breaks (hgap : s.dev.pair.applied + 1 < mseq) :
    Completes (.mirror mseq recs true) s (fun d => d.pair.state = .lost ∧ d.pair.applied = s.dev.pair.applied ∧
      d.pair.mirrorMem = s.dev.pair.mirrorMem ∧
      ∀ a, findAssoc s.dev (pairSa s.dev) = some a ∧ a.pn + 2 < 2 ^ 48 →
        Out.selvedge 0x03 (pairSa s.dev) (a.pn + 1) s.dev.pair.applied true 0 [] ∈ d.out) := by
  have hsend := sendSelvedge_reports (heard s.dev) 0x03 s.dev.pair.applied true 0 []
  set y : Dev := sendSelvedge (heard s.dev) 0x03 s.dev.pair.applied true 0 [] with hy
  have hstate : y.pair.state = .mirrored := hsend.pairState.trans hm
  have hnext : execMirror mseq recs true s = .next (s.setDev (collect (enterLost y 0xA04))) := by
    refine onSelvedge_next hl (by rw [hm]; decide) (by rw [hm]; decide) ?_
    rw [if_neg (by simp [heard, hm]), if_neg (by simp [heard]; omega)]
    dsimp only
    rw [if_pos (by simp [heard]; omega)]
    exact if_pos (by rw [show (sendSelvedge (heard s.dev) 0x03 (heard s.dev).pair.applied true 0 []).pair.state = _ from hstate]; rfl)
  have hfr := collect_frees (enterLost y 0xA04)
  have hpair := hfr.pair.trans (enterLost_core y 0xA04)
  refine ⟨_, hnext, (congrArg Pair.state hpair :), (congrArg Pair.applied hpair :).trans (congrArg Pair.applied hsend.pair :),
    (congrArg Pair.mirrorMem hpair :).trans (congrArg Pair.mirrorMem hsend.pair :), ?_⟩
  rintro a ⟨ha, hn⟩
  refine hfr.out.subset ((enterLost_leaves y 0xA04).1.subset ?_)
  rw [hy, sendSelvedge_emits (d := heard s.dev) ha hn]
  exact List.mem_cons_self

theorem mack_completes :
    Completes (.mack mseq false true) s (fun d => d.pair.acked = max s.dev.pair.acked (min mseq s.dev.pair.sent) ∧
      d.pair.state = .mirrored ∧ d.pair.lastFrame = now s.dev) := by
  set n := max s.dev.pair.acked (min mseq s.dev.pair.sent) with hn
  set own := s.dev.pair.ownResync || (match s.dev.pair.resyncSent with | some k => decide (k ≤ n) | none => false) with hown
  set y : Dev := { heard s.dev with pair := { (heard s.dev).pair with acked := n, ownResync := own } } with hy
  have hrel := releaseHeld_reports y n
  have hnext : execMack mseq false true s = .next (s.setDev (collect (releaseHeld y n))) := by
    refine onSelvedge_next hl (by rw [hm]; decide) (by rw [hm]; decide) ?_
    rw [if_neg (by decide)]
    exact if_neg (by
      have hstate : (releaseHeld y n).pair.state = .mirrored := hrel.pairState.trans hm
      rw [show ((releaseHeld _ _).pair.state == PairState.forming) = false by
        exact (congrArg (· == PairState.forming) hstate :)]
      simp)
  have hpair := (collect_frees (releaseHeld y n)).pair.trans hrel.pair
  exact ⟨_, hnext, (congrArg Pair.acked hpair :), (congrArg Pair.state hpair :).trans hm, (congrArg Pair.lastFrame hpair :)⟩

end

theorem resyncDone_completes (hl : pairLinked s.dev) (hf : s.dev.pair.state = .forming) (hown : s.dev.pair.ownResync) :
    Completes (.resyncDone true) s (fun d => d.pair.state = .mirrored ∧ d.pair.peerResync) := by
  set y : Dev := { heard s.dev with pair := { (heard s.dev).pair with peerResync := true } } with hy
  have hsend := sendSelvedge_reports y 0x03 y.pair.applied false 0 []
  set z : Dev := sendSelvedge y 0x03 y.pair.applied false 0 [] with hz
  have hready : (z.pair.state == .forming && z.pair.ownResync && z.pair.peerResync) = true := by
    rw [show z.pair.state = .forming from hsend.pairState.trans hf,
      show z.pair.ownResync = true from (congrArg Pair.ownResync hsend.pair :).trans hown,
      show z.pair.peerResync = true from congrArg Pair.peerResync hsend.pair]
    rfl
  have hnext : execResyncDone true s = .next (s.setDev (collect (tellSensors z { z with pair := { z.pair with state := .mirrored } }))) :=
    onSelvedge_next hl (by rw [hf]; decide) (by rw [hf]; decide) ((if_pos (by simp [heard, hf])).trans (if_pos hready))
  have hpair := (collect_frees _).pair.trans (tellSensors_reports z { z with pair := { z.pair with state := .mirrored } }).pair
  exact ⟨_, hnext, (congrArg Pair.state hpair :), (congrArg Pair.peerResync hpair :).trans (congrArg Pair.peerResync hsend.pair :)⟩

/-! ## Takeover -/

section
variable {h : SigHdr} {fl : Nat}

/-- A takeover: TAKEN with the partner's number, then what the mirror space held is adopted, then the space is empty. -/
theorem takeOver_eq (d : Dev) : ∃ x y : Dev, x.img = d.img ∧
    Stays (among [.sas, .requests, .requestNumbers]) { x with pair := { x.pair with state := .taken, adopted := some (partnerFleet x) } } y ∧
    Reports { y with pair := { y.pair with mirrorMem := [], mirrorReqs := [], mirrorRecs := [], mirrorRings := [] } } (takeOver d) := by
  unfold takeOver
  extract_lets _ x _ x2
  have hx : x.img = d.img :=
    ((Stays.ite (enterLost_stays (.refl d) ⟨rfl⟩) (.refl d) : Stays (among [.pair, .pairRest]) d x).image rfl).1
  refine ⟨x, _, hx, ?_, tellSensors_reports ..⟩
  exact partnerFault_stays (ctrInc_stays (adoptRings_stays (adoptReqs_stays (adoptSkeins_stays (.refl x2) ⟨rfl⟩) ⟨rfl⟩)))

theorem partnerFleet_congr (h : e.img = d.img) : partnerFleet e = partnerFleet d := by simp only [partnerFleet, img, h]

theorem takeOver_takes (d : Dev) : (takeOver d).pair.state = .taken ∧ (takeOver d).pair.adopted = some (partnerFleet d) ∧
    (takeOver d).pair.mirrorMem = [] := by
  obtain ⟨x, y, himg, hst, hrep⟩ := takeOver_eq d
  obtain ⟨hstate, -, -, -, -, -, -, hadopted⟩ := hst.pair rfl
  refine ⟨hrep.pairState.trans hstate, (congrArg Pair.adopted hrep.pair :).trans (hadopted.trans ?_), (congrArg Pair.mirrorMem hrep.pair :)⟩
  exact congrArg some (partnerFleet_congr himg)

theorem releaseMirror_forms (d : Dev) : (releaseMirror d).pair.state = .forming ∧ (releaseMirror d).pair.mirrorMem = [] ∧
    (releaseMirror d).pair.mirrorReqs = [] ∧ (releaseMirror d).pair.mirrorRings = [] ∧ (releaseMirror d).pair.resyncSent = none := by
  set x : Dev := faultPlain (releaseHeld (dropMirror d) (dropMirror d).pair.sent) 0xA05 0 0 with hx
  have hdrop : Reports (dropMirror d) x := (releaseHeld_reports ..).trans (faultPlain_reports ..)
  have hrep : Reports { x with pair := { x.pair with state := .forming, ownResync := false, peerResync := false, resyncSent := none } }
      (releaseMirror d) := tellSensors_reports ..
  exact ⟨hrep.pairState, (congrArg Pair.mirrorMem hrep.pair :).trans (congrArg Pair.mirrorMem hdrop.pair :),
    (congrArg Pair.mirrorReqs hrep.pair :).trans (congrArg Pair.mirrorReqs hdrop.pair :),
    (congrArg Pair.mirrorRings hrep.pair :).trans (congrArg Pair.mirrorRings hdrop.pair :), (congrArg Pair.resyncSent hrep.pair :)⟩

/-- A TAKEOVER of the partner is accepted. -/
theorem signedTakeover_accepted {mode : Nat} (hc : signedCheck s.dev h qTakeover = St.ok) (hsw : s.dev.sec.switching = false)
    (hp : paired s.dev) (hfl : fl = partnerFleet s.dev) (ht : s.dev.pair.state ≠ .taken) :
    signedTakeover s.dev h mode fl = (St.ok,
      if mode = 0 then takeOver (msgAccepted s.dev h) else releaseMirror (msgAccepted s.dev h)) := by
  have hstate : ((msgAccepted s.dev h).pair.state == .taken) = false := by
    rw [((msgAccepted_among s.dev h).pair rfl).1]
    simpa using ht
  rw [signedTakeover, signedDo_accepted hc hsw (if_pos (by simp [hp, hfl])), takeoverDo, hstate]
  rfl

theorem takeover_completes (hrot : rotRuns s.dev) (hc : signedCheck s.dev h qTakeover = St.ok) (hsw : s.dev.sec.switching = false)
    (hp : paired s.dev) (hfl : fl = partnerFleet s.dev) (ht : s.dev.pair.state ≠ .taken) :
    Completes (.takeover h 0 fl) s (fun d => d.pair.state = .taken ∧ d.pair.adopted = some (partnerFleet s.dev) ∧
      d.pair.mirrorMem = [] ∧ isOurs d fl ∧ Out.signedStatus St.ok ∈ d.out) := by
  obtain ⟨t, hnext, hst, hout⟩ := onSigned_answered (g := fun d => signedTakeover d h 0 fl) hrot
    (signedTakeover_accepted (mode := 0) hc hsw hp hfl ht)
  obtain ⟨hstate, -, -, hmem, -, -, -, hadopted⟩ := hst.pair rfl
  obtain ⟨h1, h2, h3⟩ := takeOver_takes (msgAccepted s.dev h)
  rw [partnerFleet_congr ((msgAccepted_among s.dev h).image rfl).1] at h2
  have hours : t.pair.adopted = some (partnerFleet s.dev) := hadopted.trans h2
  exact ⟨t, hnext, hstate.trans h1, hours, hmem.trans h3, by simp [isOurs, hours, hfl], hout⟩

theorem takeoverRelease_completes (hrot : rotRuns s.dev) (hc : signedCheck s.dev h qTakeover = St.ok) (hsw : s.dev.sec.switching = false)
    (hp : paired s.dev) (hfl : fl = partnerFleet s.dev) (ht : s.dev.pair.state ≠ .taken) :
    Completes (.takeoverRelease h 1 fl) s (fun d => d.pair.state = .forming ∧ d.pair.mirrorMem = [] ∧ d.pair.mirrorReqs = [] ∧
      d.pair.mirrorRings = [] ∧ d.pair.resyncSent = none ∧ Out.signedStatus St.ok ∈ d.out) := by
  obtain ⟨t, hnext, hst, hout⟩ := onSigned_answered (g := fun d => signedTakeover d h 1 fl) hrot
    (signedTakeover_accepted (mode := 1) hc hsw hp hfl ht)
  obtain ⟨hstate, -, -, hmem, hreqs, -, hrings, -⟩ := hst.pair rfl
  obtain ⟨-, -, hsent, -⟩ := hst.pairRest rfl
  obtain ⟨h1, h2, h3, h4, h5⟩ := releaseMirror_forms (msgAccepted s.dev h)
  exact ⟨t, hnext, hstate.trans h1, hmem.trans h2, hreqs.trans h3, hrings.trans h4, hsent.trans h5, hout⟩

/-- A TAKEOVER that names another pair is counted as refused. -/
theorem signedTakeover_mismatch (hc : signedCheck s.dev h qTakeover = St.ok) (hsw : s.dev.sec.switching = false)
    (hp : paired s.dev = false ∨ fl ≠ partnerFleet s.dev) (m : Nat) :
    signedTakeover s.dev h m fl = (St.pairMismatch, ctrInc s.dev cMsgRefused) := by
  have hown : (paired s.dev && fl == partnerFleet s.dev) = false := by
    rcases hp with h | h <;> simp [h]
  simp [signedTakeover, signedDo, hc, hsw, hown]

end

end

/-- Settles O18: frames out of order or lost frames lose the pair and keep the mirror space (`enterLost_core`); what a takeover adopts stands
beside the pair's state. -/
theorem pairAndTakeoverComplete : Obligations.PairAndTakeoverComplete := by
  unfold Obligations.PairAndTakeoverComplete
  refine ⟨fun s => ?_, fun s h fl hrot hc hsw => ⟨fun hp hfl ht => ⟨takeover_completes hrot hc hsw hp hfl ht,
    takeoverRelease_completes hrot hc hsw hp hfl ht⟩, fun hp m => ⟨_, signedTakeover_mismatch hc hsw hp m, rfl⟩⟩⟩
  exact ⟨fun hrot hl ht hu hdue => heartbeatSend_completes hrot hl ht hu hdue, fun sess mseq hl hf hr => heartbeat_completes hl hf hr,
    fun recs e hl hm happ => mirror_applies hl hm happ, fun mseq recs hl hm hgap => mirror_breaks hl hm hgap,
    fun mseq hl hm => mack_completes hl hm, fun hl hf hown => resyncDone_completes hl hf hown, fun hm ht => partnerLoss_completes hm ht⟩

end Sys2Proof.Machine
end

section
/-! # Port states and link words (R580 to R592, R597) -/

namespace Sys2Proof.Machine

open Sys2Proof

set_option Elab.async false -- each lemma rests on the ones before it

/-- Of the ports only `p` may change; requests and stores stay. -/
structure AtPort (p : Nat) (d e : Dev) : Prop where
  others : ∀ k, k ≠ p → portAt e k = portAt d k
  reqs : e.reqs = d.reqs
  sas : e.sas = d.sas

section
variable {s : State} {a d e : Dev} {x y : Port} {p v n t k body fr : Nat}

/-! ## One port at a time -/

theorem AtPort.refl (d : Dev) : AtPort p d d := ⟨fun _ _ => rfl, rfl, rfl⟩

theorem AtPort.trans (h : AtPort p a d) (k : AtPort p d e) : AtPort p a e :=
  ⟨fun q hq => (k.others q hq).trans (h.others q hq), k.reqs.trans h.reqs, k.sas.trans h.sas⟩

theorem AtPort.of_ports (hp : e.ports = d.ports) (hr : e.reqs = d.reqs) (hs : e.sas = d.sas) : AtPort p d e :=
  ⟨fun q _ => portAt_congr hp q, hr, hs⟩

theorem Reports.atPort (h : Reports d e) : AtPort p d e := .of_ports h.ports h.reqs h.sas

theorem Reports.portAt (h : Reports d e) (q : Nat) : portAt e q = Machine.portAt d q := portAt_congr h.ports q

theorem setPort_atPort (d : Dev) (x : Port) : AtPort p d (setPort d p x) := ⟨fun _ hq => portAt_setPort_other hq, rfl, rfl⟩

theorem unpost_atPort (d : Dev) (b : Nat) : AtPort p d (unpost d b) := .of_ports rfl rfl rfl

/-- A port's registers belong to the image. -/
theorem portImg_congr (h : e.img = d.img) (p off hi lo : Nat) : portImg e p off hi lo = portImg d p off hi lo := by
  simp only [portImg, img, h]

theorem portMode_congr (h : e.img = d.img) (p : Nat) : portMode e p = portMode d p := portImg_congr h p 0 1 0

theorem selvedgePort_congr (h : e.img = d.img) : selvedgePort e = selvedgePort d := by
  simp only [selvedgePort, img, h]

theorem portFault_reports (d : Dev) (p v cause : Nat) : Reports d (portFault d p v cause) := detect_reports ..

theorem sendLinkWord_reports (d : Dev) (p type body : Nat) : Reports d (sendLinkWord d p type body) := emit_reports ..

theorem noteWaits_atPort (d : Dev) (p : Nat) : AtPort p d (noteWaits d p) := by
  unfold noteWaits
  dsimp only
  split
  · exact .refl d
  · exact setPort_atPort d _

/-- Noting the waits sets the two marks of waiting and nothing else of the port. -/
theorem noteWaits_port (h : p < d.ports.length) :
    ∃ w v, portAt (noteWaits d p) p = { portAt d p with waitSince := w, vcWait := v } := by
  unfold noteWaits
  dsimp only
  split
  · exact ⟨_, _, rfl⟩
  · exact ⟨_, _, portAt_setPort_same h⟩

@[simp] theorem length_setPort : (setPort d p x).ports.length = d.ports.length := List.length_set

theorem length_noteWaits (d : Dev) (p : Nat) : (noteWaits d p).ports.length = d.ports.length := by
  unfold noteWaits
  dsimp only
  split
  · rfl
  · exact length_setPort

/-! ## Port states -/

theorem portTrainingDone_up (hp : p < s.dev.ports.length) (rtt : Nat) (ht : (portAt s.dev p).state = .training) :
    Completes (.portTrainingDone p true rtt) s (fun d => ((∀ k, k ≠ p → portAt d k = portAt s.dev k) ∧ d.reqs = s.dev.reqs ∧
      d.sas = s.dev.sas) ∧ (portAt d p).state = .up ∧ isReady d (rbPort p) ∧ (portAt d p).rttNs = min rtt 1023 ∧
      ((portAt d p).llrOn = true ↔ portMode s.dev p = 1 ∧ rtt ≤ 600 ∧ rtt + 64 < llrNs s.dev p)) := by
  refine ⟨_, show execPortTrainingDone p true rtt s = _ from onDev_of_eq (if_neg (by simp [ht])), ?_⟩
  simp only [if_true]
  generalize hx : ({ portAt s.dev p with state := .up, laneLock := 15, rttNs := min rtt 1023, llrOn := _, nextFseq := 0, expectFseq := 0, nacking := false, peerFreed := _, used := _, freed := _, paused := _, xoff := _ } : Port) = x
  have hport : portAt (post (setPort s.dev p x) (rbPort p)) p = x := portAt_setPort_same hp
  refine ⟨⟨fun k hk => portAt_setPort_other hk, rfl, rfl⟩, ?_, isReady_post_same _ _, ?_, ?_⟩
  all_goals rw [hport, ← hx]
  simp [and_assoc]

theorem portTrainingDone_down (hp : p < s.dev.ports.length) (rtt : Nat) (ht : (portAt s.dev p).state = .training) :
    Completes (.portTrainingDone p false rtt) s (fun d => ((∀ k, k ≠ p → portAt d k = portAt s.dev k) ∧ d.reqs = s.dev.reqs ∧
      d.sas = s.dev.sas) ∧ (portAt d p).state = .down ∧ (portAt d p).downSince = now s.dev) := by
  refine ⟨_, show execPortTrainingDone p false rtt s = _ from onDev_of_eq (if_neg (by simp [ht])), ?_⟩
  simp only [Bool.false_eq_true, if_false]
  have hrep := (portFault_reports (setPort s.dev p { portAt s.dev p with state := .down, downSince := now s.dev, laneLock := 0 })
    p 0 0x802).trans (ctrInc_reports _ (cPort p 0x1080))
  have hport := (hrep.portAt p).trans (portAt_setPort_same hp)
  obtain ⟨hothers, hreqs, hsas⟩ := (setPort_atPort s.dev _).trans hrep.atPort
  exact ⟨⟨hothers, hreqs, hsas⟩, congrArg Port.state hport, congrArg Port.downSince hport⟩

theorem portRetrainTimer_trains (hd : (portAt s.dev p).state = .down) (ht : (portAt s.dev p).downSince + 100000000 ≤ now s.dev)
    (hm : portMode s.dev p ≠ 0) :
    Completes (.portRetrainTimer p) s (fun d => d = setPort s.dev p { portAt s.dev p with state := .training }) := by
  refine ⟨_, show execPortRetrainTimer p s = _ from onDev_of_eq ?_, rfl⟩
  simp [hd, ht, startPort, hm]

theorem movePaths_atPort (d : Dev) (q : Nat) : AtPort p d (movePaths d q) := by
  unfold movePaths
  split
  · exact .refl d
  · exact .of_ports rfl rfl rfl

/-- Moving paths changes connections only. -/
theorem movePaths_portAt (d : Dev) (p q : Nat) : portAt (movePaths d p) q = portAt d q ∧ (movePaths d p).ready = d.ready := by
  unfold movePaths
  split
  · exact ⟨rfl, rfl⟩
  · exact ⟨rfl, rfl⟩

theorem portLinkLoss_down (hp : p < s.dev.ports.length) (hup : (portAt s.dev p).state = .up) :
    Completes (.portLinkLoss p) s (fun d => ((∀ k, k ≠ p → portAt d k = portAt s.dev k) ∧ d.reqs = s.dev.reqs ∧
      d.sas = s.dev.sas) ∧ (portAt d p).state = .down ∧ isReady d (rbPort p) = false ∧ (portAt d p).replay = [] ∧
      (portAt d p).queue = (portAt s.dev p).queue) := by
  refine ⟨_, show execPortLinkLoss p s = _ from onDev_of_eq (if_neg (by simp [hup])), ?_⟩
  generalize hx : ({ portAt s.dev p with state := .down, downSince := _, llrOn := _, laneLock := _, replay := _, resend := _, nacking := _, ingress := _, vcWait := _, waitSince := _ } : Port) = x
  have hrep := (portFault_reports (unpost (setPort s.dev p x) (rbPort p)) p 0 0x801).trans (ctrInc_reports _ (cPort p 0x1080))
  have hmove := movePaths_portAt (ctrInc (portFault (unpost (setPort s.dev p x) (rbPort p)) p 0 0x801) (cPort p 0x1080)) p p
  have hport := hmove.1.trans ((hrep.portAt p).trans (portAt_setPort_same hp))
  obtain ⟨hothers, hreqs, hsas⟩ := (setPort_atPort s.dev x).trans
    ((unpost_atPort _ _).trans (hrep.atPort.trans (movePaths_atPort _ p)))
  refine ⟨⟨hothers, hreqs, hsas⟩, ?_, ?_, ?_, ?_⟩
  · rw [hport, ← hx]
  · rw [isReady_congr (hmove.2.trans hrep.ready), isReady_unpost]
    simp
  · rw [hport, ← hx]
  · rw [hport, ← hx]

/-! ## Link words -/

section
variable {w : BitVec 96}

/-- A link word of its type, on a port in mode 1 that is up, has its meaning. -/
theorem onLinkWord_next {type : Nat} {f : Dev → Port → Nat → Dev} (hw : lwOk w) (hm : portMode s.dev p = 1)
    (hup : (portAt s.dev p).state = .up) (ht : lwType w = type) (he : f s.dev (portAt s.dev p) (lwBody w) = e) :
    onLinkWord type p w f s = .next (s.setDev e) :=
  onDev_of_eq ((if_pos (by simp [hw, hm, hup, ht])).trans he)

/-- The frames that a replay from `fr` sends again: those not yet replayed LLR_MAX times. -/
def replayed (d : Dev) (p fr : Nat) : List Nat :=
  ((portAt d p).replay.filter (fun f => fseqLe fr f.fseq && decide (f.replays < portImg d p 0 6 4))).map (·.fseq)

/-- A replay sends the frames from the one named on again and stays within its port. -/
theorem startReplay_resends (hp : p < d.ports.length) :
    (portAt (startReplay d p fr) p).resend = replayed d p fr ∧ AtPort p d (startReplay d p fr) := by
  unfold startReplay replayed
  extract_lets x fs dead stay d1 d2 d3
  have h1 : portAt d1 p = _ := portAt_setPort_same hp
  have hrep : Reports d1 (if stay.isEmpty then d3 else ctrInc d3 (cPort p 0x1040)) := by
    have h2 : Reports d1 d2 := .foldl _ (fun d _ => (ctrInc_reports d _).trans (portFault_reports _ ..)) _ _
    have h3 : Reports d1 d3 := .ite h2 (h2.trans (sendLinkWord_reports ..))
    exact .ite h3 (h3.trans (ctrInc_reports ..))
  refine ⟨?_, (setPort_atPort d _).trans hrep.atPort⟩
  rw [hrep.portAt, h1]
  simp [stay, fs, x, List.filter_filter, Bool.and_comm]

theorem linkWordNack_replays (hp : p < s.dev.ports.length) (hw : lwOk w) (hm : portMode s.dev p = 1)
    (hup : (portAt s.dev p).state = .up) (ht : lwType w = 2) (hl : (portAt s.dev p).llrOn) (hr : (portAt s.dev p).resend = []) :
    Completes (.linkWordNack p w) s (fun d => (portAt d p).resend = replayed s.dev p (lwBody w % 4096) ∧ d.reqs = s.dev.reqs ∧
      d.sas = s.dev.sas) := by
  obtain ⟨hresend, hat⟩ := startReplay_resends (fr := lwBody w % 4096) hp
  refine ⟨_, show execLinkWordNack p w s = _ from onLinkWord_next hw hm hup ht (if_pos ?_), hresend, hat.reqs, hat.sas⟩
  simp [hl, hr]

theorem linkWordCredit_taken (hp : p < s.dev.ports.length) (hw : lwOk w) (hm : portMode s.dev p = 1)
    (hup : (portAt s.dev p).state = .up) (ht : lwType w = 3) :
    Completes (.linkWordCredit p w) s (fun d =>
      (portAt d p).peerFreed = [bits (lwBody w) 15 0, bits (lwBody w) 31 16, bits (lwBody w) 47 32] ∧
      (portAt d p).queue = (portAt s.dev p).queue ∧ d.reqs = s.dev.reqs ∧ d.sas = s.dev.sas) := by
  refine ⟨_, show execLinkWordCredit p w s = _ from onLinkWord_next hw hm hup ht rfl, ?_⟩
  generalize hx : ({ portAt s.dev p with peerFreed := _ } : Port) = x
  obtain ⟨l, m, hport⟩ := noteWaits_port (d := setPort s.dev p x) (p := p) (by simpa using hp)
  rw [portAt_setPort_same hp] at hport
  have hat := (setPort_atPort s.dev x).trans (noteWaits_atPort (setPort s.dev p x) p)
  exact ⟨by rw [hport, ← hx], by rw [hport, ← hx], hat.reqs, hat.sas⟩

theorem linkWordSkip_taken (hw : lwOk w) (hm : portMode s.dev p = 1) (hup : (portAt s.dev p).state = .up) (ht : lwType w = 5)
    (hl : (portAt s.dev p).llrOn) :
    Completes (.linkWordSkip p w) s (fun d =>
      d = setPort s.dev p { portAt s.dev p with expectFseq := lwBody w % 4096, nacking := false }) :=
  ⟨_, show execLinkWordSkip p w s = _ from onLinkWord_next hw hm hup ht (if_pos hl), rfl⟩

theorem linkWordLane_locks (hw : lwOk w) (hm : portMode s.dev p = 1) (hst : (portAt s.dev p).state = .training) (ht : lwType w = 4)
    (hl : bitOf (portAt s.dev p).laneLock (lwBody w % 4) = false) :
    Completes (.linkWordLane p w) s (fun d =>
      d = setPort s.dev p { portAt s.dev p with laneLock := (portAt s.dev p).laneLock + 2 ^ (lwBody w % 4) }) := by
  refine ⟨_, show execLinkWordLane p w s = _ from onDev_of_eq ?_, rfl⟩
  simp [hw, hm, hst, ht, hl]

theorem llrTimeout_replays {f : PortFrame} {rest : List PortFrame} (hp : p < s.dev.ports.length)
    (hf : (portAt s.dev p).replay = f :: rest) (hup : (portAt s.dev p).state = .up) (hl : (portAt s.dev p).llrOn)
    (hr : (portAt s.dev p).resend = []) (ht : f.sentAt + llrNs s.dev p ≤ now s.dev) :
    Completes (.llrTimeout p) s (fun d => (portAt d p).resend = replayed s.dev p f.fseq ∧ d.reqs = s.dev.reqs ∧ d.sas = s.dev.sas) := by
  obtain ⟨hresend, hat⟩ := startReplay_resends (fr := f.fseq) hp
  refine ⟨_, show execLlrTimeout p s = _ from onDev_of_eq ?_, hresend, hat.reqs, hat.sas⟩
  simp [hf, hup, hl, hr, Nat.not_lt.mpr ht]

end
end

/-- Settles O49: each port state's change and each link word by its lemma. -/
theorem portStateAndLinkWordsComplete : Obligations.PortStateAndLinkWordsComplete := by
  unfold Obligations.PortStateAndLinkWordsComplete
  refine ⟨fun s p hp hlen => ?_, fun s p w hp hlen hw hm => ?_⟩
  · have hlt : p < s.dev.ports.length := hlen ▸ hp
    exact ⟨fun rtt ht => portTrainingDone_up hlt rtt ht, fun rtt ht => portTrainingDone_down hlt rtt ht,
      fun hd ht hm => portRetrainTimer_trains hd ht hm, fun hup => portLinkLoss_down hlt hup⟩
  · have hlt : p < s.dev.ports.length := hlen ▸ hp
    exact ⟨fun hup ht => ⟨_, show execLinkWordAck p w s = _ from onLinkWord_next hw hm hup ht rfl, rfl⟩,
      fun hup ht hl hr => linkWordNack_replays hlt hw hm hup ht hl hr, fun hup ht => linkWordCredit_taken hlt hw hm hup ht,
      fun hup ht hl => linkWordSkip_taken hw hm hup ht hl, fun hst ht hl => linkWordLane_locks hw hm hst ht hl,
      fun f rest hf hup hl hr ht => llrTimeout_replays hlt hf hup hl hr ht⟩

end Sys2Proof.Machine
end

section
/-! # Port traffic (R583, R593 to R596, R602 to R608) -/

namespace Sys2Proof.Machine

open Sys2Proof

set_option Elab.async false -- each lemma rests on the ones before it

section
variable {s : State} {a d e : Dev} {x y : Port} {p v n t k : Nat}

/-! ## Frames in -/

section
variable {f : Frame}

theorem frameOurs_congr (h : e.img = d.img) : frameOurs e p f = frameOurs d p f := by
  unfold frameOurs
  rw [selvedgePort_congr h]

/-- Reporting leaves a policer's verdict. -/
theorem police_congr (h : Reports d e) (c n : Nat) (yellow : Bool) : (police e p c n yellow).1 = (police d p c n yellow).1 := by
  unfold police
  simp only [h.portAt, h.now, portImg_congr h.img]
  split_ifs <;> rfl

/-- Policing keeps what a port's ingress buffer holds. -/
theorem police_atPort (hp : p < d.ports.length) (c n : Nat) (yellow : Bool) :
    AtPort p d (police d p c n yellow).2 ∧ (police d p c n yellow).2.ports.length = d.ports.length ∧
      (portAt (police d p c n yellow).2 p).ingress = (portAt d p).ingress := by
  unfold police
  extract_lets x aa mode aware ticks capC capE gainC gainE missC missE b tc te keep
  have hkeep (mc me : Nat) : AtPort p d (keep mc me) ∧ (keep mc me).ports.length = d.ports.length ∧
      (portAt (keep mc me) p).ingress = (portAt d p).ingress :=
    ⟨setPort_atPort d _, length_setPort, by rw [portAt_setPort_same hp]⟩
  split_ifs
  iterate 6 exact hkeep _ _
  exact ⟨.refl d, rfl, rfl⟩

theorem xoffCheck_atPort (hp : p < d.ports.length) (v : Nat) :
    AtPort p d (xoffCheck d p v) ∧ (portAt (xoffCheck d p v) p).ingress = (portAt d p).ingress := by
  unfold xoffCheck
  extract_lets x
  split
  · have hrep := (emit_reports (setPort d p { x with xoff := x.xoff.set v (some (now d)) }) (.pfc p v 0xFFFF)).trans
      (ctrInc_reports _ (cPort p 0x1070))
    exact ⟨(setPort_atPort d _).trans hrep.atPort, by rw [hrep.portAt, portAt_setPort_same hp]⟩
  · exact ⟨.refl d, rfl⟩

/-- A green weft frame that passes the filter takes its credits of its port's ingress buffer. -/
theorem acceptFrame_green (hp : p < d.ports.length) (hk : f.kind = .weft) (ho : frameOurs d p f)
    (hg : (police d p f.tc f.bytes f.yellow).1 = .green) :
    AtPort p d (acceptFrame d p f) ∧ (portAt (acceptFrame d p f) p).ingress =
      (portAt d p).ingress.set f.vc ((portAt d p).ingress.getD f.vc 0 + creditsOf f.bytes) := by
  obtain ⟨hat, hlen, hin⟩ := police_atPort hp f.tc f.bytes f.yellow
  unfold acceptFrame
  generalize hr : police d p f.tc f.bytes f.yellow = r at hg hat hlen hin
  obtain ⟨c, dp⟩ := r
  subst hg
  simp only [hk, ho]
  dsimp only at hat hlen hin
  rw [if_neg (by simp), if_neg (by simp), if_neg (by simp)]
  generalize hx : ({ portAt dp p with ingress := _ } : Port) = x
  have hset := setPort_atPort (p := p) dp x
  have hrep := (ctrInc_reports (setPort dp p x) (cPort p 0x1010)).trans (ctrAdd_reports _ (cPort p 0x1018) (f.bytes + 20))
  obtain ⟨hxat, hxin⟩ := xoffCheck_atPort (p := p) (d := ctrAdd (ctrInc (setPort dp p x) (cPort p 0x1010)) (cPort p 0x1018) (f.bytes + 20))
    (by rw [hrep.ports, length_setPort, hlen]; exact hp) f.vc
  refine ⟨hat.trans (hset.trans (hrep.atPort.trans hxat)), ?_⟩
  rw [hxin, hrep.portAt, portAt_setPort_same (hlen ▸ hp), ← hx, hin]

theorem ingressFrame_green (hp : p < s.dev.ports.length) (hup : (portAt s.dev p).state = .up) (hfec : f.fecOk) (hfcs : f.fcsOk)
    (hl : (portAt s.dev p).llrOn = false) (hk : f.kind = .weft) (ho : frameOurs s.dev p f)
    (hg : (police s.dev p f.tc f.bytes f.yellow).1 = .green) :
    Completes (.ingressFrame p f) s (fun d => (d.reqs = s.dev.reqs ∧ d.sas = s.dev.sas ∧ ∀ k, k ≠ p → portAt d k = portAt s.dev k) ∧
      (portAt d p).ingress = (portAt s.dev p).ingress.set f.vc ((portAt s.dev p).ingress.getD f.vc 0 + creditsOf f.bytes)) := by
  have hrep := ctrAdd_reports s.dev (cPort p 0x1030) f.fecCorrected
  obtain ⟨hat, hin⟩ := acceptFrame_green (hrep.ports ▸ hp) hk ((frameOurs_congr hrep.img).trans ho) ((police_congr hrep ..).trans hg)
  obtain ⟨hothers, hreqs, hsas⟩ := hrep.atPort.trans hat
  refine ⟨_, show execIngressFrame p f s = _ from onDev_of_eq ?_, ⟨hreqs, hsas, hothers⟩, by rw [hin, hrep.portAt]⟩
  simp [hup, hfec, hfcs, hl]

theorem neighborSolicitation_answered (hup : (portAt s.dev p).state = .up) :
    Completes (.neighborSolicitation p true) s (fun d => d = emit s.dev (.neighborAdvertisement p)) :=
  ⟨_, show execNeighborSolicitation p true s = _ from onDev_of_eq (if_neg (by simp [hup])), rfl⟩

end

/-! ## Pauses and waits -/

/-- What a PFC frame leaves of a port's pauses. -/
def pausesAfter (d : Dev) (p : Nat) (en : List Bool) (qs : List Nat) : List (Option Nat) :=
  (List.range 3).map (fun v => if en.getD v false = false then (portAt d p).paused.getD v none
    else if qs.getD v 0 = 0 then none else some (now d + divUp (qs.getD v 0 * 64) 100))

theorem pfcFrame_pauses (hp : p < s.dev.ports.length) (en : List Bool) (qs : List Nat) (hup : (portAt s.dev p).state = .up)
    (hm : portMode s.dev p = 2) :
    Completes (.pfcFrame p en qs) s (fun d => (d.reqs = s.dev.reqs ∧ d.sas = s.dev.sas ∧ ∀ k, k ≠ p → portAt d k = portAt s.dev k) ∧
      (portAt d p).paused = pausesAfter s.dev p en qs) := by
  refine ⟨_, show execPfcFrame p en qs s = _ from onDev_of_eq ((if_neg (by simp [hup])).trans (if_neg (by simp [hm]))), ?_⟩
  dsimp only
  generalize hx : ({ portAt s.dev p with paused := _ } : Port) = x
  have hrep := ctrInc_reports (setPort s.dev p x) (cPort p 0x1078)
  obtain ⟨w, m, hport⟩ := noteWaits_port (d := ctrInc (setPort s.dev p x) (cPort p 0x1078)) (p := p) (by simpa using hp)
  rw [hrep.portAt, portAt_setPort_same hp] at hport
  obtain ⟨hothers, hreqs, hsas⟩ := (setPort_atPort s.dev x).trans (hrep.atPort.trans (noteWaits_atPort _ p))
  refine ⟨⟨hreqs, hsas, hothers⟩, ?_⟩
  rw [hport, ← hx]
  simp [pausesAfter]

theorem pauseExpiry_ends (hp : p < s.dev.ports.length) (hv : (portAt s.dev p).paused.getD v none = some t) (ht : t ≤ now s.dev) :
    Completes (.pauseExpiry p v) s (fun d => (d.reqs = s.dev.reqs ∧ d.sas = s.dev.sas ∧ ∀ k, k ≠ p → portAt d k = portAt s.dev k) ∧
      (portAt d p).paused = (portAt s.dev p).paused.set v none) := by
  refine ⟨noteWaits (setPort s.dev p { portAt s.dev p with paused := (portAt s.dev p).paused.set v none }) p,
    show execPauseExpiry p v s = _ from onDev_of_eq (by simp only [hv]; exact if_pos ht), ?_⟩
  generalize hx : ({ portAt s.dev p with paused := _ } : Port) = x
  obtain ⟨w, m, hport⟩ := noteWaits_port (d := setPort s.dev p x) (p := p) (by simpa using hp)
  rw [portAt_setPort_same hp] at hport
  obtain ⟨hothers, hreqs, hsas⟩ := (setPort_atPort s.dev x).trans (noteWaits_atPort _ p)
  exact ⟨⟨hreqs, hsas, hothers⟩, by rw [hport, ← hx]⟩

theorem pfcXoffRefresh_repeats (hp : p < s.dev.ports.length) (hv : (portAt s.dev p).xoff.getD v none = some t)
    (hup : (portAt s.dev p).state = .up) (ht : t + 20000 ≤ now s.dev) :
    Completes (.pfcXoffRefresh p v) s (fun d => (d.reqs = s.dev.reqs ∧ d.sas = s.dev.sas ∧ ∀ k, k ≠ p → portAt d k = portAt s.dev k) ∧
      d.out = .pfc p v 0xFFFF :: s.dev.out ∧ (portAt d p).xoff = (portAt s.dev p).xoff.set v (some (now s.dev))) := by
  refine ⟨ctrInc (emit (setPort s.dev p { portAt s.dev p with xoff := (portAt s.dev p).xoff.set v (some (now s.dev)) }) (.pfc p v 0xFFFF))
    (cPort p 0x1070), show execPfcXoffRefresh p v s = _ from
    onDev_of_eq (by simp only [hv]; exact if_neg (by simp [hup, ht])), ?_⟩
  generalize hx : ({ portAt s.dev p with xoff := _ } : Port) = x
  have hrep := (emit_reports (setPort s.dev p x) (.pfc p v 0xFFFF)).trans (ctrInc_reports _ (cPort p 0x1070))
  obtain ⟨hothers, hreqs, hsas⟩ := (setPort_atPort s.dev x).trans hrep.atPort
  exact ⟨⟨hreqs, hsas, hothers⟩, ctrInc_out .., by rw [hrep.portAt, portAt_setPort_same hp, ← hx]⟩

theorem now_noteWaits : now (noteWaits d p) = now d := by
  unfold noteWaits
  dsimp only
  split <;> rfl

theorem img_noteWaits : (noteWaits d p).img = d.img := by
  unfold noteWaits
  dsimp only
  split <;> rfl

theorem creditStall_noted (hp : p < s.dev.ports.length) (hup : (portAt s.dev p).state = .up)
    (hw : (portAt (noteWaits s.dev p) p).waitSince.getD v none = some t) (hv : (portAt (noteWaits s.dev p) p).vcWait.getD v false = false)
    (ht : t + stallNs s.dev p ≤ now s.dev) :
    Completes (.creditStall p v) s (fun d => (d.reqs = s.dev.reqs ∧ d.sas = s.dev.sas ∧ ∀ k, k ≠ p → portAt d k = portAt s.dev k) ∧
      (portAt d p).vcWait = (portAt (noteWaits s.dev p) p).vcWait.set v true ∧ (portAt d p).queue = (portAt s.dev p).queue) := by
  obtain ⟨w, m, hport⟩ := noteWaits_port hp
  have hup' : (portAt (noteWaits s.dev p) p).state = .up := by rw [hport, hup]
  have hqueue : (portAt (noteWaits s.dev p) p).queue = (portAt s.dev p).queue := by rw [hport]
  have hstall : stallNs (noteWaits s.dev p) p = stallNs s.dev p := by rw [stallNs, stallNs, portImg_congr img_noteWaits]
  have hat := noteWaits_atPort s.dev p
  have hlen : p < (noteWaits s.dev p).ports.length := by rw [length_noteWaits]; exact hp
  have hnow : now (noteWaits s.dev p) = now s.dev := now_noteWaits
  refine ⟨portFault (ctrInc (setPort (noteWaits s.dev p) p
      { portAt (noteWaits s.dev p) p with vcWait := (portAt (noteWaits s.dev p) p).vcWait.set v true }) (cPort p 0x1068)) p v 0x804,
    show execCreditStall p v s = _ from onDev_of_eq (by
      simp only [hw]; exact if_neg (by simpa [hup', hstall, hnow, ht] using hv)), ?_⟩
  generalize noteWaits s.dev p = d at hqueue hat hlen ⊢
  generalize hx : ({ portAt d p with vcWait := _ } : Port) = x
  have hrep := (ctrInc_reports (setPort d p x) (cPort p 0x1068)).trans (portFault_reports _ p v 0x804)
  obtain ⟨hothers, hreqs, hsas⟩ := hat.trans ((setPort_atPort d x).trans hrep.atPort)
  have hlast := (hrep.portAt p).trans (portAt_setPort_same hlen)
  refine ⟨⟨hreqs, hsas, hothers⟩, ?_, ?_⟩
  · rw [hlast, ← hx]
  · rw [hlast, ← hx, ← hqueue]

/-! ## Frames out -/

section
variable {f : PortFrame} {pick i : Nat}

/-- A frame goes on the wire: it is among what was sent, and its port keeps all but the time it is busy. -/
theorem onWire_sends (hp : p < d.ports.length) (f : PortFrame) :
    f.what ∈ (onWire d p f).out ∧ AtPort p d (onWire d p f) ∧ (portAt (onWire d p f) p).resend = (portAt d p).resend := by
  unfold onWire
  extract_lets x d1
  have hrep := (ctrAdd_reports d1 (cPort p 0x1008) f.wire).trans (emit_reports _ f.what)
  exact ⟨List.mem_cons_self, (setPort_atPort d _).trans hrep.atPort, by rw [hrep.portAt, portAt_setPort_same hp]⟩

theorem egressFrameStart_replays {rest : List Nat} (hp : p < s.dev.ports.length) (pick : Nat) (hup : (portAt s.dev p).state = .up)
    (hr : (portAt s.dev p).resend = n :: rest) (hf : (portAt s.dev p).replay.find? (fun g => g.fseq == n) = some f) :
    Completes (.egressFrameStart p pick) s (fun d => (portAt d p).resend = rest ∧ f.what ∈ d.out ∧ d.reqs = s.dev.reqs) := by
  refine ⟨_, show execEgressFrameStart p pick s = _ from onDevC_of_eq
    ((if_neg (by simp [hup])).trans (by simp only [hr, replayFrame, hf]; rfl)), ?_⟩
  generalize hg : ({ f with replays := _, sentAt := _ } : PortFrame) = g
  generalize hx : ({ portAt s.dev p with resend := _, replay := _ } : Port) = x
  obtain ⟨hout, hat, hresend⟩ := onWire_sends (d := setPort s.dev p x) (by simpa using hp) g
  have hfrees := collect_frees (onWire (setPort s.dev p x) p g)
  refine ⟨?_, hfrees.out.subset ?_, hfrees.reqs.trans hat.reqs⟩
  · rw [portAt_congr hfrees.ports, hresend, portAt_setPort_same hp, ← hx]
  · rw [show f.what = g.what by rw [← hg]]
    exact hout

/-- What a frame carries as it leaves does not depend on the ports. -/
theorem filled_setPort : filled (setPort d p x) f = filled d f := rfl

/-- A frame that starts is sent. -/
theorem startFrame_sends (d : Dev) (i : Nat) : filled d f ∈ (startFrame d p x f i).out := by
  unfold startFrame
  extract_lets g d1 tag d2 d3 d4
  have h3 : filled d f ∈ d3.out := List.mem_cons_self
  have h4 : filled d f ∈ d4.out := by
    unfold d4
    split
    · rw [ctrInc_out]; exact h3
    · exact h3
  split
  · split
    · exact (frameLeft_stays (W := fun _ => true) (.refl d4) ⟨rfl⟩).out.subset h4
    · exact h4
  · exact h4

theorem egressFrameStart_starts (hup : (portAt s.dev p).state = .up) (hr : (portAt s.dev p).resend = [])
    (hn : nextFrame (setPort s.dev p (tagHeads s.dev p)) p (tagHeads s.dev p) pick = some (f, i))
    (hroom : (tagHeads s.dev p).llrOn = false ∨ ((tagHeads s.dev p).replay.map PortFrame.bytes).sum + f.bytes ≤ 131072) :
    Completes (.egressFrameStart p pick) s (fun d => filled s.dev f ∈ d.out) := by
  refine ⟨_, show execEgressFrameStart p pick s = _ from onDevC_of_eq
    ((if_neg (by simp [hup])).trans (by simp only [hr, hn]; exact if_neg (by
      rcases hroom with h | h
      · simp [h]
      · simp [h]))), ?_⟩
  generalize tagHeads s.dev p = y
  have hsent : filled s.dev f ∈ (startFrame (setPort s.dev p y) p y f i).out := by
    rw [← filled_setPort (p := p) (x := y)]
    exact startFrame_sends _ i
  generalize startFrame (setPort s.dev p y) p y f i = d at hsent
  have hw : Stays (fun _ => true) d (noteWaits d p) := noteWaits_stays (.refl d) ⟨rfl⟩
  exact (collect_frees _).out.subset (hw.out.subset hsent)

end

/-! ## Gates -/

theorem gateEntryBoundary_guards (hup : (portAt s.dev p).state = .up) (hg : (portAt s.dev p).guardFrom = none) (hh : guardHolds s.dev p) :
    Completes (.gateEntryBoundary p) s (fun d => d = setPort s.dev p { portAt s.dev p with guardFrom := some (now s.dev) }) := by
  refine ⟨_, show execGateEntryBoundary p s = _ from onDev_of_eq ((if_pos (by simp [hup])).trans ?_), rfl⟩
  simp only [noteGuard, hg, hh, if_true]

theorem gateEntryBoundary_ends (hp : p < s.dev.ports.length) (hup : (portAt s.dev p).state = .up)
    (hg : (portAt s.dev p).guardFrom = some t) (hi : inGuard s.dev p = false) :
    Completes (.gateEntryBoundary p) s (fun d => (portAt d p).guardFrom = none ∧ d.reqs = s.dev.reqs ∧ d.sas = s.dev.sas) := by
  refine ⟨_, show execGateEntryBoundary p s = _ from onDev_of_eq ((if_pos (by simp [hup])).trans
    (by simp only [noteGuard, hg, hi]; exact if_neg (by simp))), ?_⟩
  generalize hx : ({ portAt s.dev p with guardFrom := none } : Port) = x
  have hrep := ctrAdd_reports (setPort s.dev p x) (cPort p 0x1088) (now s.dev - max t (divUp (portAt s.dev p).busyPs 1000))
  exact ⟨by rw [hrep.portAt, portAt_setPort_same hp, ← hx], hrep.reqs, hrep.sas⟩

theorem gateSwitchover_comes {l : Nat} (hp : p < s.dev.ports.length) (hl : (portAt s.dev p).pending = some (l, t)) (ht : t ≤ now s.dev) :
    Completes (.gateSwitchover p) s (fun d => (portAt d p).active = l ∧ (portAt d p).gateStart = t ∧ (portAt d p).pending = none ∧
      (portAt d p).queue = (portAt s.dev p).queue ∧ (∀ k, k ≠ p → portAt d k = portAt s.dev k) ∧ d.reqs = s.dev.reqs ∧
      d.sas = s.dev.sas) := by
  refine ⟨_, show execGateSwitchover p s = _ from onDev_of_eq
    (by simp only [hl]; exact if_neg (by simpa using ht)), ?_⟩
  generalize hx : ({ portAt s.dev p with active := l, gateStart := t, pending := none } : Port) = x
  have hrep := ctrInc_reports (setPort s.dev p x) (cPort p 0x1060)
  obtain ⟨hothers, hreqs, hsas⟩ := (setPort_atPort s.dev x).trans hrep.atPort
  have hport := (hrep.portAt p).trans (portAt_setPort_same hp)
  refine ⟨?_, ?_, ?_, ?_, hothers, hreqs, hsas⟩
  all_goals rw [hport, ← hx]

end

/-- Settles O50: what arrives, what is paused, what leaves and how gates move, each by its lemma. -/
theorem portTrafficCommandsComplete : Obligations.PortTrafficCommandsComplete := by
  unfold Obligations.PortTrafficCommandsComplete
  refine ⟨fun s p hp hlen => ?_, fun s p hp hlen => ?_⟩
  · have hlt : p < s.dev.ports.length := hlen ▸ hp
    exact ⟨fun f hup hfec hfcs hl hk ho _ _ hg => ingressFrame_green hlt hup hfec hfcs hl hk ho hg,
      fun hup => neighborSolicitation_answered hup, fun en qs hup hm => pfcFrame_pauses hlt en qs hup hm,
      fun v t hv ht => pauseExpiry_ends hlt hv ht, fun v t hv hup ht => pfcXoffRefresh_repeats hlt hv hup ht,
      fun v t _ hup hw hv ht => creditStall_noted hlt hup hw hv ht⟩
  · have hlt : p < s.dev.ports.length := hlen ▸ hp
    exact ⟨fun pick n rest f hup hr hf => egressFrameStart_replays hlt pick hup hr hf,
      fun pick f i hup hr hn hroom => egressFrameStart_starts hup hr hn hroom,
      fun hup hg hh => gateEntryBoundary_guards hup hg hh, fun t hup hg hi => gateEntryBoundary_ends hlt hup hg hi,
      fun l t hl ht => gateSwitchover_comes hlt hl ht⟩

end Sys2Proof.Machine
end
